-- ==== Sys2Proof/Word.lean ====
section
/-! DEFINITION. Word types of the ZST-8840: the widths in which the spec writes register contents, addresses and
sequencer values (spec/00 R5, R7; spec/10 R284), and the bounded indexes of its units (spec/00 headline figures). -/

namespace Sys2Proof

/-- One byte. -/
abbrev Byte := BitVec 8

/-- The contents of one device register (R7: every register is 32 bits wide). -/
abbrev Word32 := BitVec 32

/-- A sequencer general register (R284: 64 bits). -/
abbrev Word64 := BitVec 64

/-- A strand microword (R249: 96 bits). -/
abbrev MicroWord := BitVec 96

/-- A partition P0 to P7. -/
abbrev Part := Fin 8

/-- A strand S0 to S17, or a lane of the lane map. -/
abbrev Strand := Fin 18

/-- A sequencer SQ0 to SQ3. -/
abbrev Seq := Fin 4

/-- A sensor port SI0 to SI11. -/
abbrev SensorPort := Fin 12

/-- A magazine port M0 to M3. -/
abbrev MagPort := Fin 4

/-- A mover channel. -/
abbrev Chan := Fin 16

/-- A hub source number (R359: 1,024 sources). -/
abbrev Source := Fin 1024

/-- A hub target number (R362). -/
abbrev Target := Fin 16

/-- A submission or completion ring of one partition (R345). -/
abbrev Ring := Fin 16

/-- A general line GL0 to GL47 (R549). -/
abbrev Line := Fin 48

/-- What the SECDED check of a fetched instruction word found (R306): nothing, a corrected or an uncorrectable error. -/
inductive Ecc where
  | ok | ce | ue
  deriving DecidableEq, Repr

/-- The registers of configuration space that a rule of the spec gives (R340, R341, R365, R374, R383): Vendor and Device ID; class
code; Command; the base addresses; MSI-X Message Control; Device Control; Link Control; the power state; the Uncorrectable Error Status
of AER; and of the SR-IOV capability its control, InitialVFs and TotalVFs, NumVFs, and First VF Offset and VF Stride. Writes of VF Enable
and NumVFs are commands of their own. -/
inductive CfgReg where
  | id | classCode | command | bar0Lo | bar0Hi | bar2Lo | bar2Hi | vfBarLo | vfBarHi | msixControl
  | devControl | linkControl | powerState | aerUncor | sriovControl | sriovCounts | sriovNumVfs | sriovOffsets
  deriving DecidableEq, Repr

/-- What came from outside, and the cycle (the value of CYCLE) at which it came. -/
structure Timed (α : Type) where
  val : α
  t   : Nat
  deriving DecidableEq, Repr

/-- The bytes that a register access reaches: from word offset off, one byte enable for each byte (R7). -/
structure BusBytes where
  off   : Nat
  lanes : List Bool
  deriving DecidableEq, Repr

/-- A strand that does a step of its work, and the corrected errors of its SRAM in that step (R273). -/
structure StrandRun where
  n  : Strand
  ce : Nat
  deriving DecidableEq, Repr

/-- The instructions of the test access port (R547). -/
inductive TapInstr where
  | bypass | idcode | samplePreload | extest
  deriving DecidableEq, Repr

/-- What a scan or a level at the test pads reaches (R547): an instruction is loaded; word k of the data register that the instruction
selects is scanned; TRST_N resets the port; TEST_EN takes a level. -/
inductive TestPad where
  | load (i : TapInstr)
  | data (k : Nat)
  | reset
  | enable
  deriving DecidableEq, Repr

/-- Where a register access goes: an offset of the global BAR0 (R18), of a partition's window (R344), configuration space, or the test
pads (R547, log entry 84). -/
inductive RegAddr where
  | bar0 (off : Nat)
  | window (p : Part) (off : Nat)
  | config (p : Part) (r : CfgReg)
  | test (x : TestPad)
  deriving DecidableEq, Repr

end Sys2Proof
end

