-- ==== Sys2Proof/Syntax.lean ====
section
/-! DEFINITION. The commands: one constructor for each row of spec/opcode_table.json, with the operands its rule reads. An operand t
is the value of CYCLE (1.2 GHz) at which the event falls, for the rows whose rule reads time (log entry 2). An operand win is the
partition window an access came through, none for the global BAR0 (R18). -/

namespace Sys2Proof

/-- The commands of the block. -/
inductive Instr where
  /-- ACCESS_SIZE_ERROR (R8): A register access without all four byte enables, or wider than 32 bits, is discarded or reads zero, and the error is recorded. -/
  | accessSizeError (win : Option Part) (write : Bool) (off : Nat) (lanes : List Bool)
  /-- ACCESS_UNMAPPED (R9): An access to an offset that holds no register reads zero or is discarded, and the error is recorded. -/
  | accessUnmapped (win : Option Part) (write : Bool) (x : BusBytes)
  /-- REGISTER_WRITE (R11): A write to a register that has no row of its own stores, sets or clears fields according to their access codes. -/
  | registerWrite (a : RegAddr) (v : Word32)
  /-- READ_CLEAR (R13): A read of an RC field returns its value and then clears the field, keeping any event recorded in the same clock. -/
  | readClear (a : RegAddr)
  /-- POWER_ON (R510): Power-on causes a cold reset with cause 0. -/
  | powerOn
  /-- RESET_N_ASSERT (R511): RESET_N held low for 10 us or more causes a cold reset. -/
  | resetNAssert (ns : Nat) (takes : Bool)
  /-- INTERNAL_RESET_RELEASE (R510): The internal reset is released 2 ms after the rails are in range, RESET_N is high and the crystal runs. -/
  | internalResetRelease (sel : Fin 4)
  /-- AON_BROWN_OUT (R512): An overload or brown-out of the AON regulator causes a cold reset with cause 2. -/
  | aonBrownOut
  /-- SUPPLY_OOR (R543): A rail outside its operating range for 10 us sets the fatal source SUPPLY_OOR. -/
  | supplyOor
  /-- CLK_FAIL (R487): A stopped crystal or an unlocked PLL sets the fatal source CLK_FAIL. -/
  | clkFail
  /-- AON_RST_CTL (R514): A P0 write of the key to AON_RST_CTL commands a warm reset. -/
  | aonRstCtl (v : Word32)
  /-- BOOT_ATTEMPT (R522): After reset the boot firmware reads and checks an image, then loads firmware, configuration, DRAM training, patches and self-tests. -/
  | bootAttempt (flash : Option (List Byte)) (key : Option (Fin 4)) (sig gcm trained b0 b1 : Bool) (tests : List (Nat × Word32))
  /-- BOOT_TIMEOUT (R522): B0 not ready 2 s after an attempt began, or after GO, fails the attempt with TIMEOUT. -/
  | bootTimeout (t : Nat)
  /-- AON_BOOT_DATA (R520): A write to AON_BOOT_DATA takes the next host image word; words beyond LEN are discarded. -/
  | aonBootData (v : Word32)
  /-- AON_BOOT_GO (R520): A write of AON_BOOT_CTL.GO ends a host image and starts its checks. -/
  | aonBootGo (x : Timed Word32)
  /-- AON_BOOT_RETRY (R525): A P0 write of RETRY in BARE sets the source override, clears the count and causes a warm reset with cause 7. -/
  | aonBootRetry (v : Word32)
  /-- B0_READY (R523): B0's first ready report completes BOOT, enters IDLE, clears the boot count and starts LANYARD. -/
  | b0Ready (t : Nat)
  /-- CLOCK_GATE (R515): A block idle for HOLDOFF us gates its clock, and its power when unused by the mode. -/
  | clockGate (b : Fin 32) (refused : Bool) (t : Nat)
  /-- BLOCK_WAKE (R515): A request to a gated block wakes it and is held until the block is awake. -/
  | blockWake (b : Fin 32) (t : Nat)
  /-- WAKE_N_FALL (R519): A falling edge on WAKE_N held 100 us wakes the device from DORMANT. -/
  | wakeNFall
  /-- PERST_N_RISE (R519): A rising edge on PERST_N wakes the device from DORMANT. -/
  | perstNRise
  /-- WAKE_TIMER_EXPIRY (R519): Expiry of the AON wake timer wakes the device from DORMANT. -/
  | wakeTimerExpiry (t : Nat)
  /-- THERMAL_HOT (R423): The junction reaching 100 C sets THERM_HOT and forces a DRAM change to the lower-rate set. -/
  | thermalHot (d : BitVec 11)
  /-- THERMAL_CRIT (R557): The junction reaching 112 C sets the fatal source THERM_CRIT and the anchor acts. -/
  | thermalCrit (d : BitVec 11)
  /-- HOST_LINK_DOWN (R487): The host link leaving L0 unrequested sets the HOST_LINK device fault. -/
  | hostLinkDown
  /-- FREE_RUN_TICK (R22): The free-run accumulator reaches 25,000,000 x DEN and produces a tick event. -/
  | freeRunTick (t : Nat)
  /-- TICK_IN_EDGE (R23): An active TICK_IN edge starts a tick, is ignored as early, or counts towards ending holdover. -/
  | tickInEdge (rise : Timed Bool) (d : Fin 49)
  /-- HOLDOVER_TICK (R24): With no TICK_IN edge at 125% of the period, or with genlock lost, the generator makes a holdover tick. -/
  | holdoverTick (t : Nat)
  /-- GENLOCK_EDGE (R26): A GENLOCK_IN reference edge adjusts the generator's phase and updates lock state. -/
  | genlockEdge (err : Int) (rise : Timed Bool)
  /-- GENLOCK_TICK (R26): The genlock generator makes a tick at its pulled period. -/
  | genlockTick (t : Nat)
  /-- GENLOCK_EDGE_MISSING (R27): Two expected reference edges missing clear LOCKED and start holdover. -/
  | genlockEdgeMissing (t : Nat)
  /-- TICK_RATE_DEN_WRITE (R21): A write to TICK_RATE_DEN marks NUM and DEN for commit at the next boundary. -/
  | tickRateDenWrite (v : Word32)
  /-- TICK_NO_LOAD (R30): A write of TICK_CTL.LOAD requests a tick-number preset, refused in recording, PLAY and OFFLOAD modes. -/
  | tickNoLoad (v : Word32)
  /-- TICK_NO_LO_READ (R31): A read of TICK_NO_LO latches the upper word for the partition. -/
  | tickNoLoRead (p : Part)
  /-- TICK_NO_HI_READ (R31): A read of TICK_NO_HI returns and uses up the latched word, or the current upper word. -/
  | tickNoHiRead (p : Part)
  /-- TICK_ADM_LIMIT_WRITE (R34): A write to TICK_ADM_LIMIT with a field outside 50 to 100 is refused with BADCFG. -/
  | tickAdmLimitWrite (v : Word32)
  /-- ADMISSION (R41): The belay pair admits or refuses one program's budget, including re-admission after a halt by mode. -/
  | admission
  /-- MODE_REQUEST (R63): A P0 write of GLB_MODE_REQ requests a mode transition, checked at once and at its boundary. -/
  | modeRequest (v : Word32) (t : Nat)
  /-- CSI2_FRAME_START (R80): A frame start packet opens, closes or is discarded according to the frame window of its port. -/
  | csi2FrameStart (n : SensorPort) (burst : Bool) (hdr : Ecc) (vc : Fin 4) (t : Nat)
  /-- CSI2_FRAME_END (R80): A frame end packet closes the port's capture of the frame. -/
  | csi2FrameEnd (n : SensorPort) (burst : Bool) (hdr : Ecc) (vc : Fin 4)
  /-- CSI2_LONG_PACKET (R75): A RAW long packet is checked, corrected, packed into the port FIFO, or discarded and replaced. -/
  | csi2LongPacket (n : SensorPort) (burst : Bool) (hdr : Ecc) (vc : Fin 4) (dt : BitVec 6) (payload : List Byte) (crcOk : Bool)
  /-- CSI2_SHORT_PACKET_IGNORED (R74): A line start, line end or generic short packet is accepted and ignored. -/
  | csi2ShortPacketIgnored (n : SensorPort) (burst : Bool) (hdr : Ecc) (vc : Fin 4)
  /-- CSI2_PACKET_DISCARDED (R74): Embedded data, another data type or another virtual channel is discarded and counted. -/
  | csi2PacketDiscarded (n : SensorPort) (burst : Bool) (hdr : Ecc)
  /-- FIFO_DRAIN (R87): A packing FIFO word drains to the capture ring slot, closing the frame at the tag-0 word. -/
  | fifoDrain (n : SensorPort) (ecc : Ecc) (data : List Byte)
  /-- LOCKED_REGISTER_WRITE (R79): A write to a locked intake register is discarded with CFGLOCK while the intake runs. -/
  | lockedRegisterWrite (off : Nat) (v : Word32)
  /-- STAGED_REGISTER_WRITE (R79): A write to a staged register holds the value until the next tick boundary. -/
  | stagedRegisterWrite (off : Nat) (v : Word32)
  /-- LUT_DATA_WRITE (R101): A write of INT_VIEW_LUT_DATA writes an entry of the unselected bank and increments IDX. -/
  | lutDataWrite (v : Fin 3) (w : Word32)
  /-- VIEW_FRAME_DONE (R94): A view completes writing a frame to its buffer. -/
  | viewFrameDone (v : Fin 3) (part : Part) (tick : Nat)
  /-- MO_FRAME_START (R99): A monitor port starts sending the most recently completed frame, counting repeats and skips. -/
  | moFrameStart (m : Fin 2) (t : Nat)
  /-- QUANTUM_EXPIRY (R279): A program that has run 512 cycles yields and the sequencer picks the next program. -/
  | quantumExpiry (q : Seq)
  /-- STORE_BUFFER_DRAIN (R312): A buffered SSM store becomes visible to all sequencers at one instant. -/
  | storeBufferDrain (q : Seq)
  /-- ADD (R289): ALU fn ADD writes ra + rb to rd. -/
  | add (q : Seq) (ecc : Ecc) (rd ra rb : Fin 32)
  /-- SUB (R289): ALU fn SUB writes ra - rb to rd. -/
  | sub (q : Seq) (ecc : Ecc) (rd ra rb : Fin 32)
  /-- AND (R289): ALU fn AND writes ra AND rb to rd. -/
  | and (q : Seq) (ecc : Ecc) (rd ra rb : Fin 32)
  /-- OR (R289): ALU fn OR writes ra OR rb to rd. -/
  | or (q : Seq) (ecc : Ecc) (rd ra rb : Fin 32)
  /-- XOR (R289): ALU fn XOR writes ra XOR rb to rd. -/
  | xor (q : Seq) (ecc : Ecc) (rd ra rb : Fin 32)
  /-- SHL (R289): ALU fn SHL shifts ra left by rb[5:0]. -/
  | shl (q : Seq) (ecc : Ecc) (rd ra rb : Fin 32)
  /-- SHR (R289): ALU fn SHR shifts ra right logically by rb[5:0]. -/
  | shr (q : Seq) (ecc : Ecc) (rd ra rb : Fin 32)
  /-- SAR (R289): ALU fn SAR shifts ra right arithmetically by rb[5:0]. -/
  | sar (q : Seq) (ecc : Ecc) (rd ra rb : Fin 32)
  /-- SLT (R289): ALU fn SLT writes 1 when ra < rb signed. -/
  | slt (q : Seq) (ecc : Ecc) (rd ra rb : Fin 32)
  /-- SLTU (R289): ALU fn SLTU writes 1 when ra < rb unsigned. -/
  | sltu (q : Seq) (ecc : Ecc) (rd ra rb : Fin 32)
  /-- MUL (R289): ALU fn MUL writes the low 64 bits of the product. -/
  | mul (q : Seq) (ecc : Ecc) (rd ra rb : Fin 32)
  /-- MULHU (R289): ALU fn MULHU writes the high 64 bits of the unsigned product. -/
  | mulhu (q : Seq) (ecc : Ecc) (rd ra rb : Fin 32)
  /-- MIN (R289): ALU fn MIN writes the signed minimum. -/
  | min (q : Seq) (ecc : Ecc) (rd ra rb : Fin 32)
  /-- MAX (R289): ALU fn MAX writes the signed maximum. -/
  | max (q : Seq) (ecc : Ecc) (rd ra rb : Fin 32)
  /-- MINU (R289): ALU fn MINU writes the unsigned minimum. -/
  | minu (q : Seq) (ecc : Ecc) (rd ra rb : Fin 32)
  /-- MAXU (R289): ALU fn MAXU writes the unsigned maximum. -/
  | maxu (q : Seq) (ecc : Ecc) (rd ra rb : Fin 32)
  /-- SEXTB (R289): ALU fn SEXTB sign-extends ra[7:0]. -/
  | sextb (q : Seq) (ecc : Ecc) (rd ra : Fin 32)
  /-- SEXTH (R289): ALU fn SEXTH sign-extends ra[15:0]. -/
  | sexth (q : Seq) (ecc : Ecc) (rd ra : Fin 32)
  /-- SEXTW (R289): ALU fn SEXTW sign-extends ra[31:0]. -/
  | sextw (q : Seq) (ecc : Ecc) (rd ra : Fin 32)
  /-- ZEXTW (R289): ALU fn ZEXTW zero-extends ra[31:0]. -/
  | zextw (q : Seq) (ecc : Ecc) (rd ra : Fin 32)
  /-- JR (R289): ALU fn JR links PC + 4 into rd and jumps to ra, faulting on a bad target. -/
  | jr (q : Seq) (ecc : Ecc) (rd ra : Fin 32)
  /-- CLZ (R289): ALU fn CLZ writes the leading zero count of ra. -/
  | clz (q : Seq) (ecc : Ecc) (rd ra : Fin 32)
  /-- ADDI (R288): ADDI writes ra + sext(imm) to rd. -/
  | addi (q : Seq) (ecc : Ecc) (rd ra : Fin 32) (imm : BitVec 16)
  /-- ANDI (R288): ANDI writes ra AND zext(imm) to rd. -/
  | andi (q : Seq) (ecc : Ecc) (rd ra : Fin 32) (imm : BitVec 16)
  /-- ORI (R288): ORI writes ra OR zext(imm) to rd. -/
  | ori (q : Seq) (ecc : Ecc) (rd ra : Fin 32) (imm : BitVec 16)
  /-- XORI (R288): XORI writes ra XOR zext(imm) to rd. -/
  | xori (q : Seq) (ecc : Ecc) (rd ra : Fin 32) (imm : BitVec 16)
  /-- SLTI (R288): SLTI writes 1 when ra < sext(imm) signed. -/
  | slti (q : Seq) (ecc : Ecc) (rd ra : Fin 32) (imm : BitVec 16)
  /-- SLTIU (R288): SLTIU writes 1 when ra < sext(imm) unsigned. -/
  | sltiu (q : Seq) (ecc : Ecc) (rd ra : Fin 32) (imm : BitVec 16)
  /-- LUI (R288): LUI writes sext(imm) << 16 to rd. -/
  | lui (q : Seq) (ecc : Ecc) (rd : Fin 32) (imm : BitVec 16)
  /-- RDS (R285): RDS reads a system register into rd. -/
  | rds (q : Seq) (ecc : Ecc) (rd : Fin 32) (reg : Fin 4) (t : Nat)
  /-- SHLI (R288): SHLI shifts ra left by imm[5:0]. -/
  | shli (q : Seq) (ecc : Ecc) (rd ra : Fin 32) (sh : Fin 64)
  /-- SHRI (R288): SHRI shifts ra right logically by imm[5:0]. -/
  | shri (q : Seq) (ecc : Ecc) (rd ra : Fin 32) (sh : Fin 64)
  /-- SARI (R288): SARI shifts ra right arithmetically by imm[5:0]. -/
  | sari (q : Seq) (ecc : Ecc) (rd ra : Fin 32) (sh : Fin 64)
  /-- LD (R291): LD loads from SSM, zero-extended, forwarding from the store buffer. -/
  | ld (q : Seq) (ecc : Ecc) (rd base : Fin 32) (sz : Fin 4) (off : BitVec 14)
  /-- ST (R291): ST places a store to SSM in the store buffer. -/
  | st (q : Seq) (ecc : Ecc) (rs base : Fin 32) (sz : Fin 4) (off : BitVec 14)
  /-- LDW (R291): LDW loads from a declared window. -/
  | ldw (q : Seq) (ecc : Ecc) (rd base : Fin 32) (sz : Fin 4) (off : BitVec 14) (ue : Bool) (t : Nat)
  /-- STW (R318): STW posts a store to a writable window. -/
  | stw (q : Seq) (ecc : Ecc) (rs base : Fin 32) (sz : Fin 4) (off : BitVec 14) (t : Nat)
  /-- AMOADD (R293): AMOADD atomically adds rb to an SSM word or double and returns the old value. -/
  | amoadd (q : Seq) (ecc : Ecc) (rd ra rb : Fin 32) (dbl : Bool)
  /-- AMOSWAP (R293): AMOSWAP atomically stores rb and returns the old value. -/
  | amoswap (q : Seq) (ecc : Ecc) (rd ra rb : Fin 32) (dbl : Bool)
  /-- CAS (R293): CAS atomically stores rb when the value read equals rd. -/
  | cas (q : Seq) (ecc : Ecc) (rd ra rb : Fin 32) (dbl : Bool)
  /-- FENCE (R294): FENCE completes when every earlier store is visible. -/
  | fence (q : Seq) (ecc : Ecc)
  /-- BEQZ (R288): BEQZ branches when ra is zero. -/
  | beqz (q : Seq) (ecc : Ecc) (ra : Fin 32) (off : BitVec 21)
  /-- BNEZ (R288): BNEZ branches when ra is not zero. -/
  | bnez (q : Seq) (ecc : Ecc) (ra : Fin 32) (off : BitVec 21)
  /-- BLTZ (R288): BLTZ branches when ra is negative. -/
  | bltz (q : Seq) (ecc : Ecc) (ra : Fin 32) (off : BitVec 21)
  /-- BGEZ (R288): BGEZ branches when ra is not negative. -/
  | bgez (q : Seq) (ecc : Ecc) (ra : Fin 32) (off : BitVec 21)
  /-- BGTZ (R288): BGTZ branches when ra is positive. -/
  | bgtz (q : Seq) (ecc : Ecc) (ra : Fin 32) (off : BitVec 21)
  /-- BLEZ (R288): BLEZ branches when ra is not positive. -/
  | blez (q : Seq) (ecc : Ecc) (ra : Fin 32) (off : BitVec 21)
  /-- JAL (R288): JAL links the return address into ra and branches. -/
  | jal (q : Seq) (ecc : Ecc) (ra : Fin 32) (off : BitVec 21)
  /-- ISSUE (R298): ISSUE reads a job descriptor, checks it and queues the job on its lane or completes it at once. -/
  | issue (q : Seq) (ecc : Ecc) (rd ra : Fin 32) (ue : Bool) (t : Nat)
  /-- MOVE (R299): MOVE starts a mover channel on a mover program. -/
  | move (q : Seq) (ecc : Ecc) (rd ra : Fin 32) (chan : Chan)
  /-- SPOOL (R300): SPOOL passes a spool descriptor to magazine queue Q2 to Q7. -/
  | spool (q : Seq) (ecc : Ecc) (rd ra : Fin 32) (sel : Fin 8) (ue : Bool) (t : Nat)
  /-- SIG (R301): SIG raises a hub source that the partition may raise. -/
  | sig (q : Seq) (ecc : Ecc) (rd ra : Fin 32) (src : BitVec 10)
  /-- WAIT_TICK (R302): WAIT on the tick blocks until the next boundary and returns the ticks elapsed. -/
  | waitTick (q : Seq) (ecc : Ecc) (rd ra : Fin 32) (poll : Bool)
  /-- WAIT_TAG (R302): WAIT on a tag blocks until the tag is posted and consumes the post. -/
  | waitTag (q : Seq) (ecc : Ecc) (rd ra : Fin 32) (poll : Bool)
  /-- WAIT_TIMER (R302): WAIT on a timer blocks until an expiry and consumes all pending expiries. -/
  | waitTimer (q : Seq) (ecc : Ecc) (rd ra : Fin 32) (poll : Bool)
  /-- WAIT_EDGE (R302): WAIT on an edge detector blocks until a capture and consumes the oldest. -/
  | waitEdge (q : Seq) (ecc : Ecc) (rd ra : Fin 32) (poll : Bool)
  /-- WAIT_DOORBELL (R302): WAIT on a program doorbell blocks until it is rung and consumes the pending count. -/
  | waitDoorbell (q : Seq) (ecc : Ecc) (rd ra : Fin 32) (poll : Bool)
  /-- TSET_CANCEL (R324): TSET mode 0 discards pending and scheduled expiries as lost and leaves the timer idle. -/
  | tsetCancel (q : Seq) (ecc : Ecc) (rd ra tm : Fin 32)
  /-- TSET_ONESHOT (R321): TSET mode 1 arms a one-shot timer after ra ns. -/
  | tsetOneshot (q : Seq) (ecc : Ecc) (rd ra tm : Fin 32) (t : Nat)
  /-- TSET_PERIODIC (R321): TSET mode 2 arms a periodic timer every ra ns. -/
  | tsetPeriodic (q : Seq) (ecc : Ecc) (rd ra tm : Fin 32) (t : Nat)
  /-- TSET_TICK_ONESHOT (R322): TSET mode 3 arms a one-shot timer ra ns after the next tick event. -/
  | tsetTickOneshot (q : Seq) (ecc : Ecc) (rd ra tm : Fin 32)
  /-- TSET_TICK_PERIODIC (R322): TSET mode 4 arms a timer ra ns after every tick event. -/
  | tsetTickPeriodic (q : Seq) (ecc : Ecc) (rd ra tm : Fin 32)
  /-- TGET_NS (R303): TGET select 0 returns the ns to the next expiry. -/
  | tgetNs (q : Seq) (ecc : Ecc) (rd ra tm : Fin 32) (t : Nat)
  /-- TGET_PENDING (R303): TGET select 1 returns the pending expiries without consuming them. -/
  | tgetPending (q : Seq) (ecc : Ecc) (rd ra tm : Fin 32)
  /-- TGET_LOST (R323): TGET select 2 returns and clears the lost expiries. -/
  | tgetLost (q : Seq) (ecc : Ecc) (rd ra tm : Fin 32)
  /-- EARM_ARM (R327): EARM arms an edge detector on an input, keeping or discarding held captures. -/
  | earmArm (q : Seq) (ecc : Ecc) (rd ra : Fin 32) (det : Fin 16) (edges : Fin 4) (once : Bool)
  /-- EARM_DISARM (R327): EARM with edges 0 disarms a detector and discards its captures. -/
  | earmDisarm (q : Seq) (ecc : Ecc) (rd ra : Fin 32) (det : Fin 16) (once : Bool)
  /-- HALT (R304): HALT stops the program, records the halt code and raises PROG_HALT. -/
  | halt (q : Seq) (ecc : Ecc) (imm : BitVec 16)
  /-- TIMER_EXPIRY (R321): A partition timer expires, adding a pending expiry or losing it at 255, and wakes the first waiter. -/
  | timerExpiry (p : Part) (tm : Fin 32) (t : Nat)
  /-- EDGE_CAPTURE (R325): An armed detector captures an edge with its timestamp, or loses it when four are held. -/
  | edgeCapture (p : Part) (det : Fin 16) (rise : Bool) (t : Nat)
  /-- PROGRAM_DOORBELL (R302): A host write to PW_PDBk adds one to that program doorbell's pending count. -/
  | programDoorbell (p : Part) (k : Fin 16)
  /-- JOB_START (R243): A job at the head of its lane queue has its layout, rate, address and row checks and starts. -/
  | jobStart (n : Strand) (t : Nat)
  /-- ENC_ROW (R241): An ENC_ROW job codes rows of one band of one frame. -/
  | encRow (n : Strand) (hits : List (Nat × Nat × Nat × Nat)) (upset : List (Nat × Byte)) (ce : Nat)
  /-- DEC_ROW (R211): A DEC_ROW job decodes rows of one band, concealing damaged rows. -/
  | decRow (x : StrandRun)
  /-- ECHO_JOB (R232): An ECHO job checks a committed band run without reconstructing. -/
  | echoJob (x : StrandRun)
  /-- LOADCTX (R241): LOADCTX loads band state from a checkpoint and sets the lane's committed count. -/
  | loadctx (n : Strand)
  /-- SAVECTX (R241): SAVECTX writes the band state after the lane's last committed row. -/
  | savectx (n : Strand)
  /-- SELFTEST (R269): SELFTEST runs the march, store CRC and signature tests on a strand. -/
  | selftest (n : Strand)
  /-- CUSTOM (R257): A CUSTOM job runs the open store routine of its dispatch entry. -/
  | custom (n : Strand) (t : Nat)
  /-- U_ADD (R251): Microword ALUOP ADD. -/
  | uAdd (n : Strand) (ecc : Ecc) (w : MicroWord) (eng : Bool)
  /-- U_SUB (R251): Microword ALUOP SUB. -/
  | uSub (n : Strand) (ecc : Ecc) (w : MicroWord) (eng : Bool)
  /-- U_AND (R251): Microword ALUOP AND. -/
  | uAnd (n : Strand) (ecc : Ecc) (w : MicroWord) (eng : Bool)
  /-- U_OR (R251): Microword ALUOP OR. -/
  | uOr (n : Strand) (ecc : Ecc) (w : MicroWord) (eng : Bool)
  /-- U_XOR (R251): Microword ALUOP XOR. -/
  | uXor (n : Strand) (ecc : Ecc) (w : MicroWord) (eng : Bool)
  /-- U_SHL (R251): Microword ALUOP SHL. -/
  | uShl (n : Strand) (ecc : Ecc) (w : MicroWord) (eng : Bool)
  /-- U_SHR (R251): Microword ALUOP SHR. -/
  | uShr (n : Strand) (ecc : Ecc) (w : MicroWord) (eng : Bool)
  /-- U_SAR (R251): Microword ALUOP SAR. -/
  | uSar (n : Strand) (ecc : Ecc) (w : MicroWord) (eng : Bool)
  /-- U_MUL (R251): Microword ALUOP MUL, low 32 bits signed. -/
  | uMul (n : Strand) (ecc : Ecc) (w : MicroWord) (eng : Bool)
  /-- U_MIN (R251): Microword ALUOP MIN. -/
  | uMin (n : Strand) (ecc : Ecc) (w : MicroWord) (eng : Bool)
  /-- U_MAX (R251): Microword ALUOP MAX. -/
  | uMax (n : Strand) (ecc : Ecc) (w : MicroWord) (eng : Bool)
  /-- U_LI (R251): Microword ALUOP LI loads a sign-extended immediate. -/
  | uLi (n : Strand) (ecc : Ecc) (w : MicroWord) (eng : Bool)
  /-- U_LUI (R251): Microword ALUOP LUI loads the upper immediate. -/
  | uLui (n : Strand) (ecc : Ecc) (w : MicroWord) (eng : Bool)
  /-- U_ADDI (R251): Microword ALUOP ADDI. -/
  | uAddi (n : Strand) (ecc : Ecc) (w : MicroWord) (eng : Bool)
  /-- U_CMP (R251): Microword ALUOP CMP sets flags only. -/
  | uCmp (n : Strand) (ecc : Ecc) (w : MicroWord) (eng : Bool)
  /-- U_LD (R250): Microword MEM LD loads a word from strand SRAM. -/
  | uLd (n : Strand) (ecc : Ecc) (w : MicroWord) (eng : Bool)
  /-- U_ST (R250): Microword MEM ST stores a word to strand SRAM. -/
  | uSt (n : Strand) (ecc : Ecc) (w : MicroWord) (eng : Bool)
  /-- U_LDH (R250): Microword MEM LDH loads 16 bits, zero-extended. -/
  | uLdh (n : Strand) (ecc : Ecc) (w : MicroWord) (eng : Bool)
  /-- U_STH (R250): Microword MEM STH stores 16 bits. -/
  | uSth (n : Strand) (ecc : Ecc) (w : MicroWord) (eng : Bool)
  /-- U_BRANCH (R250): Microword NX 1 branches to TARGET when the condition holds. -/
  | uBranch (n : Strand) (ecc : Ecc) (w : MicroWord) (eng : Bool)
  /-- U_WAIT_COND (R252): Microword NX 2 stalls until its condition holds. -/
  | uWaitCond (n : Strand) (ecc : Ecc) (w : MicroWord) (eng : Bool)
  /-- U_DISPATCH (R253): Microword NX 3 waits on the queue and jumps to the dispatch entry of the head job. -/
  | uDispatch (n : Strand) (ecc : Ecc) (w : MicroWord) (eng : Bool)
  /-- U_CALL (R250): Microword STK 1 pushes the sequential address. -/
  | uCall (n : Strand) (ecc : Ecc) (w : MicroWord) (eng : Bool)
  /-- U_RETURN (R250): Microword STK 2 returns to the popped address. -/
  | uReturn (n : Strand) (ecc : Ecc) (w : MicroWord) (eng : Bool)
  /-- U_COMMIT (R250): Microword COMMIT hands the staged row or CUSTOM output area to the commit engine. -/
  | uCommit (n : Strand) (ecc : Ecc) (w : MicroWord) (eng : Bool)
  /-- ROW_COMMIT (R118): The commit engine writes row bytes and checkpoint, then the band's committed-row count. -/
  | rowCommit (n : Strand) (writes : Nat) (waited : Timed Nat)
  /-- ECHO_CHECK_DONE (R230): The inline echo check of a staged row completes with MATCH or a failing outcome. -/
  | echoCheckDone (x : StrandRun)
  /-- NO_COMMIT_TIMEOUT (R260): 250 us without a row commit while a job is active frays the strand with cause 1. -/
  | noCommitTimeout (n : Strand) (waited t : Nat)
  /-- STRAND_SRAM_UE (R259): An uncorrectable strand SRAM error restarts the row, fraying at the third in one row. -/
  | strandSramUe (n : Strand)
  /-- CONTROL_STORE_UE (R256): An uncorrectable control store error frays the strand with cause 4. -/
  | controlStoreUe (n : Strand)
  /-- CUSTOM_TIMEOUT (R258): An open store routine running 250 us ends the job with CUSTOM_FAULT. -/
  | customTimeout (n : Strand) (t : Nat)
  /-- SPLICE (R262): The belay pair advances the lane epoch, reads c, isolates the strand and assigns a spare or shares the lane. -/
  | splice (unack : Bool)
  /-- SPARE_RESTORE (R122): The spare re-reads its job and restores from the checkpoint, then codes row c. -/
  | spareRestore (n : Strand) (t : Nat)
  /-- SELFTEST_DONE (R269): A strand self-test completes, making it SPARE or quarantining or fraying it. -/
  | selftestDone (n : Strand) (part : Nat) (sig : Word32)
  /-- SPARE_SELFTEST_TIMER (R270): Every TESTPER seconds the belay pair runs SELFTEST on every SPARE. -/
  | spareSelftestTimer (t : Nat)
  /-- STR_RESET (R273): A write of STR_CTL.RESET resets a non-ACTIVE strand and aborts its running job. -/
  | strReset (n : Strand) (v : Word32)
  /-- STR_QUAR_SET (R239): A write of STR_QUAR_SET quarantines a SPARE strand. -/
  | strQuarSet (v : Word32)
  /-- STR_READMIT (R268): A write of STR_READMIT readmits a tested quarantined strand as SPARE, or records the refusal. -/
  | strReadmit (v : Word32)
  /-- STR_TEST_REQ (R271): A write of STR_TEST_REQ requests a planned takeover and self-test of a strand. -/
  | strTestReq (v : Word32)
  /-- STR_POOL_WRITE (R238): A write of STR_POOL.SPARES is held for the next boundary or discarded with CFGERR. -/
  | strPoolWrite (v : Word32)
  /-- OS_DATA2_WRITE (R255): A write of STR_OS_DATA2 stores an open store word in every strand and advances the address. -/
  | osData2Write (v : Word32)
  /-- INSTALL (R276): An INSTALL command loads a program image, checks it and submits it to admission. -/
  | install (p : Part) (r : Ring) (id : Nat)
  /-- INSTALL_IMAGE_LOADED (R276): The image read into the install buffer completes and its header and code are checked. -/
  | installImageLoaded (q : Seq)
  /-- SWAP (R329): A SWAP command is accepted for the next boundary or completes at once with NOT_READY or PRIV_DENIED. -/
  | swap (p : Part) (r : Ring) (id : Nat)
  /-- RESTART (R357): A RESTART command restarts a pair's active program at the next boundary. -/
  | restart (p : Part) (r : Ring) (id : Nat)
  /-- NOP (R357): A NOP command completes at once. -/
  | nop (p : Part) (r : Ring) (id : Nat)
  /-- SEQ_MIG_REQ (R334): A write of SEQ_MIG_REQ requests a sequencer migration, checked at once. -/
  | seqMigReq (v : Word32)
  /-- SEQ_ONLINE_REQUEST (R337): A write of 1 to SEQ_OFFLINE brings a sequencer online at the next boundary. -/
  | seqOnlineRequest (v : Word32)
  /-- SEQ_TEST_REQ (R337): A write of SEQ_TEST_REQ starts the self-test of an offline sequencer. -/
  | seqTestReq (v : Word32)
  /-- SEQ_TEST_DONE (R337): The sequencer self-test completes and writes SEQ_TEST_STAT. -/
  | seqTestDone (pass : Bool)
  /-- SQ_DOORBELL (R350): A write to PW_SQ_DBr marks an enabled submission ring as rung. -/
  | sqDoorbell (p : Part) (r : Ring)
  /-- RING_SERVICE (R350): The device serves a rung ring, reading a window and taking owned entries in order. -/
  | ringService (p : Part) (r : Ring)
  /-- SQ_ENABLE (R355): A write of PW_SQ_CTL.EN = 1 enables a submission ring with index 0 and sense 1. -/
  | sqEnable (p : Part) (r : Ring)
  /-- SQ_DISABLE (R355): A write of PW_SQ_CTL.EN = 0 stops the ring after the window in flight. -/
  | sqDisable (p : Part) (r : Ring)
  /-- CQ_ENABLE (R355): A write of PW_CQ_CTL.EN = 1 enables a completion ring with head 0. -/
  | cqEnable (p : Part) (r : Ring)
  /-- CQ_DISABLE (R355): A write of PW_CQ_CTL.EN = 0 makes the device discard that ring's completions. -/
  | cqDisable (p : Part) (r : Ring)
  /-- CQ_HEAD_WRITE (R351): A write of PW_CQ_HEAD releases completion entries, or is discarded with ECODE 5. -/
  | cqHeadWrite (p : Part) (r : Ring) (v : Word32)
  /-- HUB_RAISE (R361): A write of a source number to HUB_DB raises that source. -/
  | hubRaise (src : Source)
  /-- HUB_PEND_SET (R361): A write to HUB_PEND_SET sets PEND of a source. -/
  | hubPendSet (src : Source)
  /-- HUB_PEND_CLR (R361): A write to HUB_PEND_CLR clears PEND of a source and withdraws its assignment. -/
  | hubPendClr (src : Source)
  /-- HUB_MASK_SET (R361): A write to HUB_MASK_SET sets MASK of a source and withdraws its assignment. -/
  | hubMaskSet (src : Source)
  /-- HUB_MASK_CLR (R361): A write to HUB_MASK_CLR clears MASK of a source. -/
  | hubMaskClr (src : Source)
  /-- HUB_ASSIGN (R363): The hub assigns a deliverable source to its next enabled route target, sending MSI-X for a partition target. -/
  | hubAssign (src : Source)
  /-- HUB_CLAIM (R364): A read of a target's claim register claims the highest assigned source and sets INSERV. -/
  | hubClaim (tgt : Target)
  /-- HUB_EOI (R364): A write to a target's end-of-interrupt register clears INSERV of a source it holds. -/
  | hubEoi (tgt : Target) (src : Source)
  /-- HUB_ROUTE_WRITE (R363): A write of HUB_ROUTE changes a source's targets and reassigns unclaimed sources. -/
  | hubRouteWrite (src : Source) (v : Word32)
  /-- HUB_TGT_CTL_WRITE (R363): A write of HUB_TGT_CTL enables or disables a target and reassigns unclaimed sources. -/
  | hubTgtCtlWrite (tgt : Target) (v : Word32)
  /-- SEQ_TARGET_CLAIM (R365): A sequencer target claims an assigned source, bumps its program doorbell and ends the interrupt. -/
  | seqTargetClaim (q : Seq)
  /-- BELAY_CLAIM (R559): The active belay core claims a source, journals it and ends the interrupt. -/
  | belayClaim
  /-- MSIX_VECTOR_UNMASK (R365): Unmasking an MSI-X vector with its pending bit set sends its message. -/
  | msixVectorUnmask (p : Part) (vec : Fin 32)
  /-- PW_HUB_RAISE (R366): A partition raises an owned software source through its window. -/
  | pwHubRaise (p : Part) (src : Source)
  /-- PW_HUB_PEND_CLR (R366): A partition clears PEND of an own source through its window. -/
  | pwHubPendClr (p : Part) (src : Source)
  /-- PW_HUB_MASK_SET (R366): A partition sets MASK of an own source through its window. -/
  | pwHubMaskSet (p : Part) (src : Source)
  /-- PW_HUB_MASK_CLR (R366): A partition clears MASK of an own source through its window. -/
  | pwHubMaskClr (p : Part) (src : Source)
  /-- PW_HUB_CLAIM (R366): A partition claims a source on its own target through its window. -/
  | pwHubClaim (p : Part)
  /-- PW_HUB_EOI (R366): A partition ends an interrupt on its own target through its window. -/
  | pwHubEoi (p : Part) (src : Source)
  /-- WALK_READ_DONE (R561): A translation walk read completes and the entry is checked, continuing the walk or faulting. -/
  | walkReadDone (p : Part) (page : Nat) (ok : Bool) (entry : Word64)
  /-- IOM_INV_CMD (R375): A write of IOM_INV_CMD starts an invalidation of translation cache entries. -/
  | iomInvCmd (v : Word32)
  /-- INVALIDATION_DONE (R375): An invalidation completes once no entry and no access using one remains, setting DONE. -/
  | invalidationDone
  /-- IOM_ROOT_WRITE (R375): A write of IOM_ROOT invalidates all the partition's cache entries. -/
  | iomRootWrite (p : Part) (hi : Bool) (v : Word32)
  /-- PW_FQ_POP (R376): A write of PW_FQ_POP removes the head fault queue entry. -/
  | pwFqPop (p : Part)
  /-- PRT_FS_SIZE_WRITE (R378): A write of PRT_FS_SIZE commits the frame store area or is discarded with CFGERR. -/
  | prtFsSizeWrite (p : Part) (v : Word32)
  /-- PRT_SSM_WRITE (R378): A write of PRT_SSM commits the SSM area or is discarded with CFGERR. -/
  | prtSsmWrite (p : Part) (v : Word32)
  /-- PRT_SHARE_WRITE (R378): A write of PRT_SHARE sets shares for the next boundary, or is discarded whole when HOST is 0. -/
  | prtShareWrite (p : Part) (v : Word32)
  /-- PRT_PRESET (R380): A write of PRT_PRESET starts a partition reset of a present partition. -/
  | prtPreset (v : Word32)
  /-- FUNCTION_LEVEL_RESET (R382): A Function Level Reset starts a partition reset, for the PF of every present partition. -/
  | functionLevelReset (p : Part)
  /-- VF_ENABLE_CLEAR (R380): Clearing VF Enable or reducing NumVFs starts a partition reset of the removed partitions. -/
  | vfEnableClear (n : Fin 8)
  /-- MV_START (R398): The MV_START ring command starts a mover channel on a host program. -/
  | mvStart (p : Part) (r : Ring) (id : Nat)
  /-- MV_STOP (R398): The MV_STOP ring command stops a channel once its instruction finishes. -/
  | mvStop (p : Part) (r : Ring) (id : Nat)
  /-- POOL_ALLOC (R398): The POOL_ALLOC ring command allocates a general buffer to the partition. -/
  | poolAlloc (p : Part) (r : Ring) (id : Nat)
  /-- POOL_RELEASE (R398): The POOL_RELEASE ring command releases the partition's reference to a buffer. -/
  | poolRelease (p : Part) (r : Ring) (id : Nat)
  /-- MV_MOVE (R389): A mover MOVE instruction copies LEN bytes with an optional reference operation. -/
  | mvMove (c : Chan)
  /-- MV_LOOP (R391): A mover LOOP instruction steps offsets and goes back, or ends the loop. -/
  | mvLoop (c : Chan)
  /-- MV_WAIT_TICK (R392): A mover WAIT of KIND 0 resumes at the next tick boundary. -/
  | mvWaitTick (c : Chan) (t : Nat)
  /-- MV_WAIT_SSM (R392): A mover WAIT of KIND 1 resumes when the SSM word matches. -/
  | mvWaitSsm (c : Chan) (t : Nat)
  /-- MV_WAIT_TIMEOUT (R392): A mover WAIT passing TIMEOUT fails with WAIT_TIMEOUT. -/
  | mvWaitTimeout (c : Chan) (t : Nat)
  /-- MV_SIGNAL (R393): A mover SIGNAL writes, raises a source and with LAST writes the status word. -/
  | mvSignal (c : Chan)
  /-- MOVER_BUS_ERROR (R396): A bus error on a mover access halts the whole mover and every running channel. -/
  | moverBusError (addr : Nat)
  /-- MOV_RESTART (R397): A write of MOV_CTL.RESTART requests a restart of a halted mover. -/
  | movRestart (v : Word32)
  /-- MOV_RESTART_DONE (R397): Once no access is outstanding the restart clears HALTED. -/
  | movRestartDone
  /-- POOL_INIT (R400): A write of POOL_CTL.INIT starts initialising the pool. -/
  | poolInit
  /-- POOL_INIT_DONE (R400): Pool initialisation completes and BUSY clears. -/
  | poolInitDone (essOrder genOrder : List Nat)
  /-- POOL_ALLOCATE (R401): A pool allocation takes the head buffer, or fails and marks the list BROKEN. -/
  | poolAllocate (ess : Bool) (holder : Option Part)
  /-- POOL_INCREMENT (R402): A reference add increments a buffer's count, or is refused. -/
  | poolIncrement (buf : Nat) (holder : Option Part)
  /-- POOL_DECREMENT (R402): A reference release decrements a count, freeing the buffer at zero, or is refused. -/
  | poolDecrement (buf : Nat) (holder : Option Part)
  /-- DRAM_REQUEST_DONE (R417): A DRAM request completes, counted as a miss past target or returned with an uncorrectable error. -/
  | dramRequestDone (port : Fin 24) (unit : Nat) (addr : Nat) (write : Bool) (since t : Nat) (ce ue : Bool)
  /-- URGENCY_ESCALATE (R415): A waiting request reaches 50, 75 or 90% of its target and its urgency rises. -/
  | urgencyEscalate (port : Fin 24) (addr : Nat) (write : Bool) (since t : Nat)
  /-- REFRESH_DUE (R419): A bank's refresh interval expires and the refresh is issued or postponed. -/
  | refreshDue (chan bank : Fin 16) (waiting : Bool)
  /-- DQS_TRACKING (R411): Every 100 ms the controller runs DQS oscillator tracking. -/
  | dqsTracking (t : Nat)
  /-- MR4_READ (R411): Every 1 ms the controller reads MR4 and sets refresh intervals. -/
  | mr4Read (codes : List (BitVec 3))
  /-- DRC_FREQ_SET (R422): A write of DRC_FREQ_REQ.SET requests a change to a timing set. -/
  | drcFreqSet (set : Fin 2)
  /-- DRC_FREQ_FORCE (R423): A SET write with FORCE waives conditions 2 to 4. -/
  | drcFreqForce (set : Fin 2)
  /-- DRC_FREQ_CANCEL (R422): A write of CANCEL withdraws a pending change request. -/
  | drcFreqCancel
  /-- FREQ_CHANGE_DONE (R424): A frequency change completes or fails relock, ports resume and DRC_FREQ_DONE is raised. -/
  | freqChangeDone (relocked : Bool) (t : Nat)
  /-- DRC_TRAIN (R425): A write of DRC_TRAIN_REQ trains the inactive set. -/
  | drcTrain (v : Word32)
  /-- TRAINING_DONE (R425): Training of the inactive set completes, setting or leaving TRAINED clear. -/
  | trainingDone (ok : Bool)
  /-- DRC_PORT_TGT_WRITE (R418): A write of DRC_PORT_TGT sets a latency target or is discarded with CFGERR. -/
  | drcPortTgtWrite (port : Fin 24) (v : Word32)
  /-- DRC_TSET_WRITE (R425): A write to an inactive timing set in IDLE or MAINT clears its TRAINED bit. -/
  | drcTsetWrite (set : Fin 2) (reg : Fin 4) (v : Word32)
  /-- MAG_OPEN (R433): MAG_OPEN brings the controller up, reads the headers, recovers open clips and opens a session. -/
  | magOpen (p : Part) (r : Ring) (id : Nat)
  /-- MAG_CLOSE (R434): MAG_CLOSE flushes, clears DIRTY, writes the headers and shuts the controller down. -/
  | magClose (p : Part) (r : Ring) (id : Nat)
  /-- MAG_FORMAT (R434): MAG_FORMAT writes an empty spool, optionally trimming the data area. -/
  | magFormat (p : Part) (r : Ring) (id : Nat)
  /-- HOSTIO_READ (R466): HOSTIO without WRITE reads blocks from a magazine to host memory through Q6. -/
  | hostioRead (p : Part) (r : Ring) (id : Nat)
  /-- HOSTIO_WRITE (R466): HOSTIO with WRITE writes blocks from host memory to a magazine. -/
  | hostioWrite (p : Part) (r : Ring) (id : Nat)
  /-- WRITE_FRAME (R452): WRITE_FRAME writes a frame record of TICKNO to the program's clip. -/
  | writeFrame (q : Fin 8) (t : Nat)
  /-- DISCARD (R452): DISCARD writes a DROPPED gap record and releases the run table's references. -/
  | discard (q : Fin 8) (t : Nat)
  /-- READ_FRAME (R452): READ_FRAME reads a frame record from a clip into essence buffers. -/
  | readFrame (q : Fin 8) (t : Nat)
  /-- READ_BLOCKS (R452): READ_BLOCKS reads LBAs into the frame store. -/
  | readBlocks (q : Fin 8) (t : Nat)
  /-- TRIM (R452): TRIM deallocates a range of free AUs. -/
  | trim (q : Fin 8) (t : Nat)
  /-- SCHEDULER_SLOT (R456): At a command slot the scheduler issues from Q0, Q1 or a weighted queue with credit. -/
  | schedulerSlot (n : MagPort) (t : Nat)
  /-- NVME_COMPLETION (R431): An NVMe completion is matched by identifier and its operation advanced, retried or failed. -/
  | nvmeCompletion (n : MagPort) (cid : Nat) (sc : Fin 256) (sct : Fin 8) (dw0 : Word32) (data : List Byte) (t : Nat)
  /-- NVME_COMMAND_TIMEOUT (R432): A command outstanding CMDTO ms is aborted. -/
  | nvmeCommandTimeout (n : MagPort) (cid t : Nat)
  /-- ABORT_TIMEOUT (R432): An Abort not complete within 10 ms resets the controller and starts port loss. -/
  | abortTimeout (n : MagPort) (cid t : Nat)
  /-- SMART_POLL (R430): Every 1 s with a session open the SMART log is read and life figures updated. -/
  | smartPoll (n : MagPort) (t : Nat)
  /-- MAG_LINK_DOWN (R461): A magazine link leaving L0 unrequested starts port loss. -/
  | magLinkDown (n : MagPort) (t : Nat)
  /-- LINK_RETRAIN (R461): Every 1 ms a lost port retries link training. -/
  | linkRetrain (n : MagPort) (up : Bool) (t : Nat)
  /-- MAG_LINK_UP (R462): The link trains within the hold window, and with a matching SN indeterminate writes are reissued. -/
  | magLinkUp (n : MagPort) (t : Nat)
  /-- HOLD_WINDOW_EXPIRY (R463): The hold window ends without a return and the port is dropped at the next boundary. -/
  | holdWindowExpiry (n : MagPort) (t : Nat)
  /-- MAG_DROP_REQUEST (R464): A write of MAG_CTL.DROP drops a port at the next boundary. -/
  | magDropRequest (n : MagPort) (v : Word32)
  /-- MAG_Q_SHAPE_WRITE (R458): A write of MAG_Q_SHAPE sets the rate and resets or fills the credit. -/
  | magQShapeWrite (n : MagPort) (q : Fin 8) (v : Word32) (t : Nat)
  /-- MAG_Q_BURST_WRITE (R458): A write of MAG_Q_BURST sets BURST and resets the credit. -/
  | magQBurstWrite (n : MagPort) (q : Fin 8) (v : Word32) (t : Nat)
  /-- PRESENCE_ASSERT (R469): PRSNT_N low for 10 ms asserts presence, reads identity, checks the label journal and powers the magazine. -/
  | presenceAssert (n : MagPort) (t : Nat)
  /-- PRESENCE_REMOVE (R469): A high presence sample removes power, starts port loss and raises MAG_REMOVED. -/
  | presenceRemove (n : MagPort) (t : Nat)
  /-- SBD_CTL_WRITE (R470): A write of SBD_CTL sets power and override, or is discarded with CFGERR. -/
  | sbdCtlWrite (n : MagPort) (v : Word32)
  /-- SBD_I2C_DONE (R471): A sideband I2C transfer completes. -/
  | sbdI2cDone (n : MagPort) (nak : Bool) (data : List Byte) (t : Nat)
  /-- SBD_I2C_RETRY (R471): A NAKed sideband transfer is retried after 1 ms, up to three times. -/
  | sbdI2cRetry (n : MagPort) (t : Nat)
  /-- GAUGE_EVALUATE (R478): Every 1 ms the gauge chooses the usable energy and writes MAG_HOLDUP.LIMIT. -/
  | gaugeEvaluate (n : MagPort)
  /-- GAUGE_REST_COMPLETE (R479): After 2 s of rest the gauge recalibrates Q from the voltage. -/
  | gaugeRestComplete (n : MagPort)
  /-- LABEL_GO (R483): A write of SBD_LBL_CTL.GO starts or queues a label update. -/
  | labelGo (n : MagPort) (v : Word32)
  /-- LABEL_BUSY_POLL (R482): Every 10 ms the panel BUSY bit is polled, ending the update or failing it after 5 s. -/
  | labelBusyPoll (n : MagPort) (busy : Bool) (t : Nat)
  /-- FLT_STAT_CLEAR (R490): A write of 1 to FLT_STAT clears a fault bit whose cause is absent and its force bit. -/
  | fltStatClear (w : Fin 8) (v : Word32)
  /-- FLT_FORCE (R492): A write of 1 to FLT_FORCE acts as the source's cause. -/
  | fltForce (w : Fin 8) (v : Word32)
  /-- INJ_ARM_FIRST (R491): A write of 0xA5 to INJ_ARM begins the arming sequence. -/
  | injArmFirst (t : Nat)
  /-- INJ_ARM_SECOND (R491): A write of 0x5A within 1 ms completes arming. -/
  | injArmSecond (t : Nat)
  /-- INJ_DISARM (R491): A write of 0, or another value, to INJ_ARM ends arming or cancels the sequence. -/
  | injDisarm (v : Word32)
  /-- INJ_ARM_TIMEOUT (R491): No second key within 1 ms cancels the arming sequence. -/
  | injArmTimeout (t : Nat)
  /-- INJ_UNIT (R493): An enabled injector counts a TLP or packet and drops, corrupts or reorders it at count T. -/
  | injUnit (i : Fin 17) (bytes t : Nat)
  /-- INJ_REORDER_TIMEOUT (R493): A reordered unit with no successor within 1 ms goes on unexchanged. -/
  | injReorderTimeout (i : Fin 17) (t : Nat)
  /-- BELAY_HEARTBEAT (R494): A running belay core writes its heartbeat every 100 us. -/
  | belayHeartbeat (c : Fin 2) (t : Nat)
  /-- BELAY_SILENT (R494): 200 us without a heartbeat makes a core silent and sets its source. -/
  | belaySilent (c : Fin 2) (t e : Nat)
  /-- BELAY_RESET_DONE (R495): A belay core completes its reset and self-check, becoming standby or FAILED. -/
  | belayResetDone (c : Fin 2) (pass : Bool) (t : Nat)
  /-- BELAY_RESET_TIMEOUT (R495): A core silent 1 ms after its reset becomes FAILED. -/
  | belayResetTimeout (c : Fin 2) (t : Nat)
  /-- BELAY_SWITCH (R496): A write of FLT_BLY_CTL.SWITCH requests a handover to a healthy standby. -/
  | belaySwitch
  /-- BELAY_TEST (R496): A write of FLT_BLY_CTL.TEST runs the belay self-test on the standby core. -/
  | belayTest (t : Nat)
  /-- BELAY_TEST_DONE (R496): The belay self-test completes and writes FLT_BLY_TEST. -/
  | belayTestDone (pass : Bool) (t : Nat)
  /-- BELAY_RESET_REQUEST (R496): A write of FLT_BLY_CTL.RESET applies a belay reset to a FAILED core. -/
  | belayResetRequest (t : Nat)
  /-- ANCHOR_ACT (R501): After 1 ms unhealthy or an unmasked fatal source, the anchor holds the belay pair and starts closing clips. -/
  | anchorAct (t : Nat)
  /-- ANCHOR_ABORT_TIMEOUT (R501): After 20 ms the anchor aborts outstanding commands, and after 10 ms more skips the port. -/
  | anchorAbortTimeout (n : MagPort) (t : Nat)
  /-- LANYARD_TOGGLE (R502): Every 500 us while healthy LANYARD changes level. -/
  | lanyardToggle (t : Nat)
  /-- PIN_GL_CFG_WRITE (R553): A write of PIN_GL_CFG switches a line's function at once. -/
  | pinGlCfgWrite (n : Line) (v : Word32) (t : Nat)
  /-- PIN_GL_STAGE_WRITE (R553): A write of PIN_GL_STAGE holds a pending switch for the next tick event. -/
  | pinGlStageWrite (n : Line) (v : Word32)
  /-- SWITCH_SETTLE_END (R553): 256 ns after a switch the pad level is taken as the old level. -/
  | switchSettleEnd (n : Line) (t : Nat)
  /-- PIN_GL_OWNER_WRITE (R552): A change of PIN_GL_OWNER disarms the former owner's detectors on the line. -/
  | pinGlOwnerWrite (n : Line) (v : Word32)
  /-- PIN_LTC_CTL_WRITE (R551): A write setting PIN_LTC_CTL.AUTO is taken or discarded at a rate with no base. -/
  | pinLtcCtlWrite (v : Word32)
  /-- SYNC_OUT_PULSE_END (R550): A SYNC_OUT pulse ends after its width. -/
  | syncOutPulseEnd (n : Line) (t : Nat)
  /-- TICK_OUT_FALL (R550): TICK_OUT falls half a nominal period after the tick event. -/
  | tickOutFall (n : Line) (t : Nat)
  /-- LTC_RX_FRAME (R550): GL0 decodes a complete LTC frame. -/
  | ltcRxFrame (data : Word64) (sync : Bool)
  /-- LTC_TX_FRAME_TIMER (R551): At a rate with no base GL1 sends a timecode frame every 1/30 s. -/
  | ltcTxFrameTimer (t : Nat)
  /-- UART_RX_BYTE (R550): A lens UART receives a byte into its FIFO or loses it. -/
  | uartRxByte (u : Fin 4) (b : Byte)
  /-- UART_TX_BYTE (R550): A lens UART finishes sending a byte. -/
  | uartTxByte (u : Fin 4)
  /-- PIN_UART_DATA_WRITE (R556): A write of PIN_UART_DATA queues a byte to send. -/
  | pinUartDataWrite (u : Fin 4) (v : Word32)
  /-- PIN_UART_DATA_READ (R556): A read of PIN_UART_DATA takes one received byte. -/
  | pinUartDataRead (u : Fin 4)
  /-- PIN_I2C_CMD (R556): A write of PIN_I2C_CMD starts an auxiliary I2C transfer. -/
  | pinI2cCmd (b : Fin 4) (v : Word32)
  /-- AUX_I2C_DONE (R550): An auxiliary I2C transfer completes with DONE or NAK. -/
  | auxI2cDone (b : Fin 4) (nak : Bool) (data : List Byte)
  /-- HOST_LINK_UP (R487): The host link returns to L0, ending the persistent cause of the HOST_LINK device fault. -/
  | hostLinkUp
  /-- JUNCTION_BELOW_100C (R487): The junction temperature falls below 100 C (or 112 C), ending the persistent cause of THERM_HOT (or THERM_CRIT). -/
  | junctionBelow100c (d : BitVec 11)
  /-- RAIL_IN_RANGE (R543): A monitored rail returns within its operating range, ending the persistent cause of SUPPLY_OOR. -/
  | railInRange
  /-- CLOCK_RESTORED (R487): The crystal runs again or the PLL relocks, ending the persistent cause of CLK_FAIL. -/
  | clockRestored
  /-- VF_ENABLE_SET (R342): Setting VF Enable or raising NumVFs makes partitions P1 to Pn present, with windows and ring service. -/
  | vfEnableSet (n : Fin 8)
  /-- CSTS_CFS_SET (R432): The magazine controller sets CSTS.CFS, and the device resets the controller, starting port loss. -/
  | cstsCfsSet (n : MagPort) (t : Nat)
  /-- CSTS_RDY_SET (R429): The magazine controller sets CSTS.RDY after CC.EN, and bring-up proceeds to Identify. -/
  | cstsRdySet (n : MagPort) (mqes mpsmin t : Nat)
  /-- CSTS_RDY_TIMEOUT (R429): CSTS.RDY not set within CAP.TO fails the bring-up, and the magazine is unusable. -/
  | cstsRdyTimeout (n : MagPort) (t : Nat)
  /-- GAUGE_SAMPLE (R477): Every 100 us the ADC samples VSNS and ISNS, adding I x 100 us to Q, counting rest and stuck codes. -/
  | gaugeSample (n : MagPort) (v i : BitVec 12)
  /-- HOST_READ_COMPLETION (R343): A completion for a device read on the host link returns data or an error to the ring engine, a window load, an install read or a mover channel. -/
  | hostReadCompletion (op : Nat) (ok : Bool) (data : List Byte) (t : Nat)
  deriving DecidableEq, Repr

end Sys2Proof
end

