-- ==== Sys2Proof/Machine/Bits.lean ====
section
/-! DEFINITION. Bit-field, sign and byte-order helpers over Nat, and the list helpers the machine's tables use (R5: multi-byte
quantities in registers, descriptors, ring entries and translation tables are little-endian; R6 gives the other orders). -/

namespace Sys2Proof.Machine

/-- Bits [lo + w − 1 : lo] of x. -/
def bits (x lo w : Nat) : Nat := x / 2 ^ lo % 2 ^ w

/-- Bit i of x. -/
def bitAt (x i : Nat) : Bool := x / 2 ^ i % 2 == 1

/-- x with bit i set to b. -/
def withBit (x i : Nat) (b : Bool) : Nat :=
  if bitAt x i then (if b then x else x - 2 ^ i) else (if b then x + 2 ^ i else x)

/-- 1 for true, 0 for false. -/
def b2n (b : Bool) : Nat := if b then 1 else 0

/-- The signed value of the low w bits of x. -/
def sext (w x : Nat) : Int :=
  let y := x % 2 ^ w
  if 2 * y < 2 ^ w then (y : Int) else (y : Int) - (2 ^ w : Nat)

/-- The low w bits of an integer, two's complement. -/
def wrap (w : Nat) (i : Int) : Nat := (i % (2 ^ w : Nat)).toNat

/-- ceil (a / b). -/
def ceilDiv (a b : Nat) : Nat := (a + (b - 1)) / b

/-- The value of a list of bytes, least significant byte first (R5). -/
def leVal : List (BitVec 8) → Nat
  | [] => 0
  | b :: bs => b.toNat + 256 * leVal bs

/-- The n little-endian bytes of v. -/
def leBytes : Nat → Nat → List (BitVec 8)
  | 0, _ => []
  | n + 1, v => BitVec.ofNat 8 v :: leBytes n (v / 256)

/-- The value of a list of bytes, most significant byte first. -/
def beVal (bs : List (BitVec 8)) : Nat := leVal bs.reverse

/-- The n big-endian bytes of v. -/
def beBytes (n v : Nat) : List (BitVec 8) := (leBytes n v).reverse

/-- n bytes of l from offset off, zero past its end. -/
def sliceBytes (l : List (BitVec 8)) (off n : Nat) : List (BitVec 8) :=
  let t := (l.drop off).take n
  t ++ List.replicate (n - t.length) 0

/-- A little-endian field of n bytes at offset off of a byte list. -/
def leAt (l : List (BitVec 8)) (off n : Nat) : Nat := leVal (sliceBytes l off n)

/-- Are n bytes of l from offset off all zero? -/
def zeroAt (l : List (BitVec 8)) (off n : Nat) : Bool := (sliceBytes l off n).all (· == 0)

/-- Entry i of a table, d past its end. -/
def nth {α : Type} (l : List α) (i : Nat) (d : α) : α := l.getD i d

/-- Table l with entry i changed by f; unchanged past its end. -/
def modAt {α : Type} : List α → Nat → (α → α) → List α
  | [], _, _ => []
  | x :: xs, 0, f => f x :: xs
  | x :: xs, i + 1, f => x :: modAt xs i f

/-- Table l with entry i set to v; unchanged past its end. -/
def setAt {α : Type} (l : List α) (i : Nat) (v : α) : List α := modAt l i (fun _ => v)

/-- The value stored under key k of a sparse table. -/
def lookupKey {α : Type} : List (Nat × α) → Nat → Option α
  | [], _ => none
  | (k, v) :: r, q => if k = q then some v else lookupKey r q

/-- A sparse table without key k. -/
def eraseKey {α : Type} : List (Nat × α) → Nat → List (Nat × α)
  | [], _ => []
  | (k, v) :: r, q => if k = q then r else (k, v) :: eraseKey r q

/-- A sparse table with key k set to v, keys kept rising. -/
def insertKey {α : Type} : List (Nat × α) → Nat → α → List (Nat × α)
  | [], q, w => [(q, w)]
  | (k, v) :: r, q, w =>
    if q < k then (q, w) :: (k, v) :: r else if q = k then (q, w) :: r else (k, v) :: insertKey r q w

/-- The greatest index below n at which p holds. -/
def lastIdx (p : Nat → Bool) : Nat → Option Nat
  | 0 => none
  | n + 1 => if p n then some n else lastIdx p n

/-- The least index i with lo ≤ i < lo + n at which p holds. -/
def firstIdx (p : Nat → Bool) (lo : Nat) : Nat → Option Nat
  | 0 => none
  | n + 1 => if p lo then some lo else firstIdx p (lo + 1) n

/-- Run f n times, passing 0, 1, … n − 1. -/
def forN {σ : Type} (n : Nat) (f : Nat → σ → σ) (s : σ) : σ := (List.range n).foldl (fun s i => f i s) s

end Sys2Proof.Machine
end

