-- ==== Sys2Proof/Config.lean ====
section
/-! DEFINITION. What one device's silicon, fuses and analogue parts fix and the spec leaves open: constants without a body.
Nothing in Lean can evaluate them, so a statement that holds, holds for every value of them. Each is named in a row of
notes/assumptions. -/

namespace Sys2Proof.Config

/-- A fresh free value: the n-th value the spec leaves open, where n is the state's free counter (log entry 3). -/
opaque free : Nat → Nat

/-- The control store ROM word at a micro address (R249, R254: the words are not listed in the spec; log entry 4). -/
opaque romWord : Nat → BitVec 96

/-- The dispatch routine address of opcode k in the ROM (R253; log entry 4). -/
opaque romDispatch : Nat → Nat

/-- AON_FUSE.SVNMIN as the device's fuses give it (R526; log entry 5). -/
opaque fuseSvnMin : Nat

/-- AON_FUSE.REVOKE as the device's fuses give it (R526; log entry 5). -/
opaque fuseRevoke : Nat

/-- Which way the scale of R135 rounds when it lies halfway above q (log entry 31). -/
opaque alphaHalfUp : Int → Bool

/-- The motion search's outcome for a bight (log entry 32): inputs are the row's source samples with its layout, rate and state and
the bytes of its reference buffers, and the bight's index. The criterion of the search is not in the spec. -/
opaque motion : List Int → Nat → Nat

/-- A sample of a source frame buffer in DRAM whose arrangement the spec does not state (log entry 33): the frame store, the
buffer's address, the layout descriptor, source plane, row and column. A mosaic is one plane (R103). -/
opaque dramSample : List (Nat × BitVec 8) → Nat → List (BitVec 8) → Nat → Nat → Nat → Nat

/-- Where strand SRAM holds the scratch area, the row of HOOK_PRE, the buffer of HOOK_META and the input of a CUSTOM job (R257: the
addresses are not given; log entry 37). -/
opaque scratchArea : Nat
opaque hookArea : Nat
opaque metaArea : Nat
opaque customArea : Nat

/-- Does the CARRY of a microword subtraction report a borrow, or its absence (R251 does not say; log entry 39)? -/
opaque carryIsBorrow : Bool

/-- Is a tick rate halfway between two integers rounded down (R551 does not say; log entry 63)? -/
opaque ltcTieDown : Bool

/-- The scaler of the view pipeline (R93 step 5; log entry 66). What the four taps of a phase give; the sample beyond an edge of a
line, by its index; the offset in 1/64 sample of the first output, by the lengths of the line in and out; what the box average adds
before it divides by so many samples. -/
opaque scaleTap : Nat → List Nat → Nat
opaque scaleEdge : List Nat → Int → Nat
opaque scaleShift : Nat → Nat → Nat
opaque boxRound : Nat → Nat

/-- What a ratio outside 1/8 to 2 gives (R93 states none; log entry 66): one channel of the picture, its output width and height,
output row and column. -/
opaque viewScale : List (List Nat) → Nat → Nat → Nat → Nat → Nat

/-- Which code within one of the exact value step 6 of R93 gives: component, red, green, blue (log entry 66). -/
opaque viewCode : Nat → Nat → Nat → Nat → Nat

/-- The rounding of step 7 of R93, and the sample it takes beyond the left and right edges (log entry 66). -/
opaque viewRound : Nat
opaque viewBeyond : Nat → Nat

/-- Does a gauge register whose exact value is no whole number round up (R485 does not say; log entry 68)? -/
opaque gaugeUp : Bool

end Sys2Proof.Config
end

