-- ==== Sys2Proof/Machine/State.lean ====
section
/-! DEFINITION. The state of the ZST-8840 as plain data: every register field in one sparse store, and beside it everything
else the spec gives the block (queues, buffers, engines in progress, memories), one structure for each unit; the faults and
refusals a step can end in; and the state right after reset. -/

namespace Sys2Proof.Machine

/-- The reset scopes of spec/00: the narrowest scope that restores a field (R15: every wider scope restores it too). -/
inductive Scope where
  | cold | warm | partition | strand | belay
  deriving DecidableEq, Repr

/-- One register field that differs from its reset value: its key (32 × address + lowest bit), the scope that restores it and
the value it holds. A field with no cell holds its reset value. -/
structure RegCell where
  key   : Nat
  scope : Scope
  val   : Nat
  deriving DecidableEq, Repr

/-- A sparse byte memory: cells with strictly rising addresses, none holding zero, so that equal memories are equal lists.
An unlisted address reads as zero (log entry 6). -/
abbrev Memory := List Host.Cell

/-- What the device sends out on the host link, in order (R343, R347, R365). -/
inductive HostMsg where
  /-- A memory write of bytes at a translated host address, for a partition, with its Relaxed Ordering and No Snoop attributes. -/
  | write (part addr : Nat) (bytes : List Byte) (ro ns : Bool)
  /-- An MSI-X message: the vector of a partition, and the address and data that its table holds (R343). -/
  | msix (part vec addr data : Nat)
  /-- A read request for len bytes, with its No Snoop attribute; HOST_READ_COMPLETION answers all those of one access. -/
  | read (part addr len : Nat) (ns : Bool)
  deriving DecidableEq, Repr

/-- The tick generator beyond its registers (R20 to R31). -/
structure Tick where
  /-- The tick number in force. -/
  no       : Nat
  /-- A tick event has fallen since BOOT was entered (R29: the first tick carries 0). -/
  begun    : Bool
  /-- A loaded number the next tick carries (R30). -/
  preset   : Option Nat
  /-- Each partition's unused upper-word latch (R31). -/
  latch    : List (Option Nat)
  /-- Tick events since BOOT was entered; deadlines count these (R35). -/
  events   : Nat
  /-- The cycle of the last tick event, or of entry into BOOT. -/
  last     : Nat
  /-- The rate in force (R21). -/
  num      : Nat
  den      : Nat
  /-- The pair that a TICK_RATE_DEN write committed, waiting for its boundary (R21). -/
  ratePend : Option (Nat × Nat)
  /-- The free-run accumulator, and the cycle at which it was last brought up to date (R22). -/
  acc      : Nat
  accAt    : Nat
  /-- Under TICK_IN holdover: the last edge since holdover began, and whether a good pair has been seen (R25). -/
  lastEdge : Option Nat
  pairOk   : Bool
  /-- Genlock: the last reference edge, consecutive edges with a phase error below 1 µs (R27). -/
  lastRef  : Option Nat
  goodRefs : Nat
  /-- Consecutive boundaries that found no stage late (R50). -/
  calm     : Nat
  /-- The overrun policy in force since the last swap step (R50, R53). -/
  policy   : Nat
  /-- While a recording mode is being left: the tick number of the boundary that R65 names (R297). -/
  leave    : Option Nat
  deriving DecidableEq, Repr

def Tick.init : Tick :=
  { no := 0, begun := false, preset := none, latch := List.replicate 8 none, events := 0, last := 0, num := 24, den := 1,
    ratePend := none, acc := 0, accAt := 0, lastEdge := none, pairOk := false, lastRef := none, goodRefs := 0,
    calm := 0, policy := 0, leave := none }

/-- The signal hub beyond its registers (R361 to R365): assignments and in-service holders, as source and target pairs. -/
structure Hub where
  /-- Sources assigned and not yet claimed, with their target (R363). -/
  assigned  : List (Nat × Nat)
  /-- The target each source was last assigned to (R363). -/
  lastTgt   : List (Nat × Nat)
  /-- The target that holds each source in service (R364). -/
  held      : List (Nat × Nat)
  /-- MSI-X Enable of each function, by partition (R365). -/
  msixOn    : List Bool
  /-- Function Mask of each function's MSI-X (PCI Express). -/
  msixHush  : List Bool
  /-- MSI-X table entries: address low, address high and data of vector v of partition p under keys 128 p + 4 v + 0, 1, 2 (R344). -/
  msixTab   : List (Nat × Nat)
  /-- Masked MSI-X vectors of each partition, bit v for vector v (R365). -/
  vecMask   : List Nat
  /-- Pending bits of each partition's MSI-X vectors (R365). -/
  vecPend   : List Nat
  deriving DecidableEq, Repr

/-- R367 and PCI Express: nothing assigned, MSI-X off, every vector masked. -/
def Hub.init : Hub :=
  { assigned := [], lastTgt := [], held := [], msixOn := List.replicate 8 false, msixHush := List.replicate 8 false,
    msixTab := [],
    vecMask := List.replicate 8 0xFFFFFFFF, vecPend := List.replicate 8 0 }

/-- A command taken from a submission ring (R350): its entry, and whether it reserved an entry of its completion ring (R351). -/
structure RingCmd where
  part  : Nat
  sq    : Nat
  cq    : Nat
  /-- It reserved an entry, in the completion ring's enabling of this number; none when the ring was disabled. -/
  resv  : Option Nat
  id    : Nat
  opc   : Nat
  /-- The 64 bytes of the entry. -/
  entry : List Byte
  deriving DecidableEq, Repr

/-- Which unit asked for a host access, and for what (the REQ codes of R376). -/
inductive HostReq where
  /-- REQ 1: a window of count entries of submission ring r. -/
  | ringFetch (r count : Nat)
  /-- REQ 2: a completion entry of completion ring r. -/
  | complete (r : Nat)
  /-- REQ 3: the program image of an INSTALL to sequencer q, pair p. -/
  | image (q p : Nat)
  /-- REQ 4: a window load of the program running on sequencer q, to register rd. -/
  | load (q rd : Nat)
  /-- REQ 4: a posted window store of sequencer q. -/
  | store (q : Nat)
  /-- REQ 4: the descriptor of a job of sequencer q that the strand of lane l reads again (R262). -/
  | jobDesc (q l : Nat)
  /-- REQ 4: the completion record of a job or spool operation of sequencer q (R245). -/
  | record (q : Nat)
  /-- REQ 5: an instruction fetch of mover channel c. -/
  | moverFetch (c : Nat)
  /-- REQ 5: the source read of mover channel c. -/
  | moverRead (c : Nat)
  /-- REQ 5: the destination write of mover channel c. -/
  | moverWrite (c : Nat)
  /-- REQ 5: the status word of mover channel c (R387). -/
  | moverStat (c : Nat)
  /-- REQ 6: a host-direct transfer of magazine port n, operation k. -/
  | magDirect (n k : Nat)
  deriving DecidableEq, Repr

/-- One host access in progress: translated page by page (R370, R395), then issued. -/
structure HostOp where
  id     : Nat
  part   : Nat
  req    : HostReq
  /-- DMA address and length. -/
  addr   : Nat
  len    : Nat
  write  : Bool
  bytes  : List Byte
  /-- Bytes whose pages have been translated and issued. -/
  done   : Nat
  /-- The page it has reached was not in the translation cache (R375: such an access is no cache hit). -/
  missed : Bool
  /-- All of it has been issued; a read waits for HOST_READ_COMPLETION. -/
  issued : Bool
  /-- Read requests sent for the page it reached last (R340). -/
  reqs   : Nat
  /-- Its data will be discarded when it returns (R381). -/
  dead   : Bool
  deriving DecidableEq, Repr

/-- A leaf entry of the translation cache (R375): partition, page, the page it maps and its permissions. -/
structure CacheEnt where
  part  : Nat
  page  : Nat
  frame : Nat
  r     : Bool
  w     : Bool
  peer  : Bool
  ns    : Bool
  deriving DecidableEq, Repr

/-- A translation walk in progress (R371, R375): the level whose entry is being read and that entry's address. -/
structure Walk where
  part  : Nat
  page  : Nat
  level : Nat
  entry : Nat
  /-- The page fell in an invalidation: repeat from the root once it ends. -/
  again : Bool
  deriving DecidableEq, Repr

/-- A recorded translation fault (R376). -/
structure XFault where
  addr   : Nat
  cause  : Nat
  level  : Nat
  write  : Bool
  req    : Nat
  unit   : Nat
  region : Nat
  deriving DecidableEq, Repr

/-- One submission ring beyond its registers. -/
structure SqSt where
  /-- Taken entries that are not finished (R355). -/
  open_  : Nat
  /-- Credits left in the round (R353). -/
  credit : Nat
  /-- Entries taken in the visit in progress; none between visits (R350). -/
  visit  : Option Nat
  /-- A doorbell was written while a window was in flight (R350). -/
  again  : Bool
  deriving DecidableEq, Repr

/-- One completion ring beyond its registers: its enabling number, entries written and not released, and reservations (R351). -/
structure CqSt where
  gen  : Nat
  used : Nat
  resv : Nat
  deriving DecidableEq, Repr

/-- The host interface of one partition. -/
structure PartHost where
  sq      : List SqSt
  cq      : List CqSt
  /-- Deficit of ring service (R354). -/
  deficit : Nat
  /-- The ring visited last (R353). -/
  turn    : Nat
  /-- The translation fault queue, head first (R376). -/
  faults  : List XFault
  deriving DecidableEq, Repr

def PartHost.init : PartHost :=
  { sq := List.replicate 16 { open_ := 0, credit := 0, visit := none, again := false },
    cq := List.replicate 16 { gen := 0, used := 0, resv := 0 }, deficit := 0, turn := 15, faults := [] }

/-- An invalidation in progress (R375): partition, first page, pages (0: every page). -/
structure Inval where
  part  : Nat
  first : Nat
  pages : Nat
  deriving DecidableEq, Repr

/-- One function's configuration space beyond its base addresses and MSI-X (R340, R383): Memory Space Enable and Bus Master Enable
of Command; D3hot; ASPM L1; the Device Control word; the Uncorrectable Error Status word of AER. -/
structure CfgSt where
  memory  : Bool
  master  : Bool
  d3hot   : Bool
  aspmL1  : Bool
  devCtl  : Nat
  aer     : Nat
  deriving DecidableEq, Repr

/-- After a reset of configuration space: Enable Relaxed Ordering, Enable No Snoop, 128 byte payloads and 512 byte read requests
(PRESUMED: PCI Express, log entry 9). -/
def CfgSt.init : CfgSt := { memory := false, master := false, d3hot := false, aspmL1 := false, devCtl := 0x2810, aer := 0 }

/-- The host link, rings and translation beyond their registers. -/
structure HostSt where
  /-- The link is in L0. -/
  up     : Bool
  /-- VF Enable and NumVFs (R342, R374). -/
  vfOn   : Bool
  numVfs : Nat
  /-- BAR bases that configuration space holds, none until software assigns them: PF BAR0, PF BAR2, first VF BAR0 (R341, R374, R383). -/
  bar0   : Option Nat
  bar2   : Option Nat
  vfBar  : Option Nat
  /-- The configuration space of each function. -/
  cfg    : List CfgSt
  part   : List PartHost
  /-- The partition whose turn in ring service it is (R354). -/
  turn   : Nat
  /-- Commands taken from rings and not yet carried out, oldest first. -/
  cmds   : List RingCmd
  ops    : List HostOp
  nextOp : Nat
  cache  : List CacheEnt
  walks  : List Walk
  inval  : Option Inval
  deriving DecidableEq, Repr

def HostSt.init : HostSt :=
  { up := false, vfOn := false, numVfs := 0, bar0 := none, bar2 := none, vfBar := none, cfg := List.replicate 8 CfgSt.init,
    part := List.replicate 8 PartHost.init, turn := 7, cmds := [],
    ops := [], nextOp := 0, cache := [], walks := [], inval := none }

/-- The count and the holder mask of a coil pool buffer (R402). -/
structure BufRef where
  count : Nat
  mask  : Nat
  deriving DecidableEq, Repr

/-- The coil pool beyond its registers (R399 to R405). -/
structure Pool where
  /-- Buffers whose count or mask is not 0. -/
  refs    : List (Nat × BufRef)
  /-- The heads of the essence and general free lists, 0xFFFF_FFFF at the end of the list. -/
  headE   : Nat
  headG   : Nat
  deriving DecidableEq, Repr

def Pool.init : Pool := { refs := [], headE := 0xFFFFFFFF, headG := 0xFFFFFFFF }

/-- One mover channel beyond its registers (R386 to R395). -/
structure MovCh where
  /-- Where its program lies: 0 SSM, 1 frame store, 2 host memory; the address of its first instruction there, and the range of
  addresses it may fetch from (R387). -/
  space   : Nat
  base    : Nat
  lo      : Nat
  hi      : Nat
  /-- The 32 bytes of the instruction at INDEX, none until fetched. -/
  ibuf    : Option (List Byte)
  /-- Offsets OS and OD (R391). -/
  os      : Int
  od      : Int
  /-- The active loop: the index of its LOOP and its counter (R391). -/
  loop    : Option (Nat × Nat)
  /-- The cycle at which the WAIT in progress began (R392). -/
  waitAt  : Option Nat
  /-- Bytes moved by the program (R387). -/
  moved   : Nat
  /-- The ring command that started it, if one did (R398). -/
  cmd     : Option RingCmd
  /-- MV_STOP commands that wait for the channel to go idle. -/
  stops   : List RingCmd
  /-- A MOVE waits for its host read. -/
  reading : Bool
  /-- What waits for the program's writes to complete (R393): 0 nothing; 1 a BARRIER; 2 a SIGNAL with LAST; 3 the end of the
  program with the status and index below. -/
  hold    : Nat
  endSt   : Nat
  endIdx  : Nat
  deriving DecidableEq, Repr

def MovCh.init : MovCh :=
  { space := 0, base := 0, lo := 0, hi := 0, ibuf := none, os := 0, od := 0, loop := none, waitAt := none, moved := 0,
    cmd := none, stops := [], reading := false, hold := 0, endSt := 0, endIdx := 0 }
/-- A symbol of a row segment with the context or token state that codes it (R228: what the symbol log holds). -/
inductive Sym where
  /-- A group of four coded values in context 12p + 3f + n. -/
  | grp (ctx : Nat) (v : List Int)
  /-- A field of n bits: KIND, MODE, ALPHA, REF. -/
  | fld (n v : Nat)
  /-- An EG0 value: MVDX, MVDY, NTOK. -/
  | eg (m : Nat)
  /-- A Rice symbol of the token run state (0) or the token value state (1). -/
  | tok (st m : Nat)
  deriving DecidableEq, Repr

/-- The rate state of a band (R196). -/
structure Rc where
  qp    : Nat
  e     : Nat
  carry : Int
  ovf   : Nat
  deriving DecidableEq, Repr

/-- The identity of a frame that is coded or decoded: partition, stream (0 master, 1 proxy, 2 decoded; log entry 35), tick number. -/
structure FrameId where
  part   : Nat
  stream : Nat
  tick   : Nat
  deriving DecidableEq, Repr

/-- The band state a strand holds: what a checkpoint records (R121), and for a decoded band what is still to be filled (R220). -/
structure BandSt where
  frame    : FrameId
  band     : Nat
  /-- Rows committed, or for a decoded band one more than the last row placed. -/
  rows     : Nat
  rc       : Rc
  outBuf   : Nat
  outOff   : Nat
  runBytes : Nat
  /-- Bottom row of each source plane of the last committed row; for a decoded band, of the last row that is not concealed. -/
  bottom   : List (List Nat)
  /-- Concealed rows that wait for their fill, with their cause (R220). -/
  waiting  : List (Nat × Nat)
  /-- The last row that is not concealed, if any (R222). -/
  good     : Option Nat
  deriving DecidableEq, Repr

/-- A row staged in strand SRAM (R118, R230). -/
structure Staged where
  row     : Nat
  /-- Staged bytes: a band start record of startLen bytes for row 0, then the row segment. Empty for a decoded row. -/
  bytes   : List Byte
  start   : List Byte
  log     : List Sym
  /-- Header fields the strand intends. -/
  qp      : Nat
  e       : Nat
  ovf     : Bool
  /-- Final source samples: plane, row, column. -/
  fin     : List (List (List Nat))
  /-- Rate state after the row. -/
  next    : Rc
  /-- S and K of R195. -/
  sBits   : Nat
  kBits   : Nat
  /-- The echo matched; the COMMIT word has issued. -/
  matched : Bool
  handed  : Bool
  /-- The metadata of HOOK_META, once it has run. -/
  metaRow : Option (List Byte)
  /-- A decoded row: samples to write (frame store address and bytes) and the map bytes of each row it settles. -/
  writes  : List (Nat × List Byte)
  marks   : List (Nat × List Nat)
  /-- The band state that the commit of a decoded row leaves, and the errors met on the way (in the order of DecFrame.errs). -/
  after   : Option BandSt
  errs    : List Nat
  /-- Some bight that it settles is neither INTACT nor REDUCED (R245). -/
  hurt    : Bool
  deriving DecidableEq, Repr

/-- A strand job (R240): its issuer, its 128-byte descriptor, and where that lies: 0 SSM, 1 frame store, 2 host. -/
structure Job where
  part    : Nat
  seq     : Nat
  desc    : List Byte
  space   : Nat
  addr    : Nat
  spliced : Bool
  ovf     : Bool
  damaged : Bool
  /-- Rows committed or row segments checked. -/
  rows    : Nat
  /-- Its partition is being reset: it stops after the row in progress, without a record (R247). -/
  dead    : Bool
  deriving DecidableEq, Repr

/-- One lane (R235, R244). -/
structure Lane where
  /-- Jobs in order of arrival; the first runs when running is set. -/
  queue   : List Job
  running : Bool
  /-- The frame and band that the committed count is of (R244). -/
  frame   : Option FrameId
  /-- Epoch under which the last row committed (R122). -/
  ckEpoch : Nat
  /-- A spare that has been assigned has still to restore (R262 step 5). -/
  restore : Bool
  /-- Cycle of the last commit, and whether an output gap is being measured (R266). -/
  lastAt  : Nat
  gap     : Bool
  /-- A planned takeover waits for the running job (R271). -/
  takeover : Bool
  /-- The descriptor of the running job in host memory as the spare has read it again (R262). -/
  reread  : Option (List Byte)
  deriving DecidableEq, Repr

def Lane.init : Lane :=
  { queue := [], running := false, frame := none, ckEpoch := 0, restore := false, lastAt := 0, gap := false, takeover := false,
    reread := none }

/-- What the first job of a frame fixed (R114, R190), and which rows of which band have committed (R139). -/
structure FrameFix where
  id      : FrameId
  layout  : List Byte
  rate    : List Byte
  weights : List Nat
  rois    : List Byte
  /-- The buffer that receives the frame's final samples (R138). -/
  recon   : Nat
  /-- Rows committed of each band. -/
  done    : List (Nat × Nat)
  deriving DecidableEq, Repr

/-- What stays constant in a clip (R114, R189): FORMAT, DEPTH, CFA, WIDTH, HEIGHT, and NCOL once known. -/
structure ClipFix where
  part   : Nat
  stream : Nat
  shape  : List Nat
  ncol   : Option Nat
  deriving DecidableEq, Repr

/-- A decoded frame and its concealment map (R211 to R226). -/
structure DecFrame where
  id       : FrameId
  layout   : List Byte
  mapAddr  : Nat
  dst      : Nat
  /-- 0: no frame start met; 1: parsed; 2: lost. -/
  hdr      : Nat
  frameNo  : Nat
  tickNo   : Nat
  nref     : Nat
  layers   : Nat
  bounded  : Bool
  rois     : List Byte
  refresh  : Option (Nat × Nat)
  refreshLost : Bool
  gapFlag  : Bool
  refMiss  : Bool
  endLost  : Bool
  ovf      : Bool
  /-- Bight bytes in raster order. -/
  map      : List Nat
  /-- What was met up to the commit of a row, by band and row (2^16 × band + row): ERR_INVALID, ERR_LENGTH, ERR_CRC, ERR_ROWIDX,
  ERR_END, RESYNC, SKIPPED. A row decoded again counts once. -/
  errs     : List (Nat × List Nat)
  /-- Bands that have committed their last row, and bands that hold a concealed row which waits for its fill (R265). -/
  bands    : List Nat
  waits    : List Nat
  deriving DecidableEq, Repr

/-- One strand beyond its registers. -/
structure StrandSt where
  sram    : Memory
  /-- Microregisters, flags and microstack (R250, R251); the last return address first. -/
  u       : List Nat
  zero    : Bool
  neg     : Bool
  carry   : Bool
  stack   : List Nat
  /-- The open store routine that runs: 0 none, 1 HOOK_PRE, 2 HOOK_META, 3 CUSTOM; and HOOK_PRE has run for the next row. -/
  routine : Nat
  preDone : Bool
  /-- The cycle at which the no-commit interval started, and the one at which the routine did (R258, R260). -/
  since   : Nat
  routAt  : Nat
  /-- The lane whose job runs, and the epoch the strand holds for it (R263). -/
  lane    : Option Nat
  epoch   : Nat
  band    : Option BandSt
  staged  : List Staged
  /-- Uncorrectable SRAM errors and failed DRAM reads met by each row in progress (R259). -/
  ues     : List (Nat × Nat)
  readErr : List (Nat × Nat)
  /-- The row weights and the region table that a spare read again for the frame whose band it took over (R190). -/
  tab     : Option (FrameId × List Nat × List Byte)
  /-- A SELFTEST in progress: 0 none; 1 a job; 2 of a spare; 3 after a planned takeover. -/
  test    : Nat
  /-- The lane that ran last, for a strand that serves two (R267). -/
  last    : Nat
  /-- It has frayed and has not been reset since (R487: the cause of STRAND_FRAYED persists). -/
  bad     : Bool
  deriving DecidableEq, Repr

def StrandSt.init : StrandSt :=
  { sram := [], u := List.replicate 32 0, zero := false, neg := false, carry := false, stack := [], routine := 0,
    preDone := false, since := 0, routAt := 0, lane := none, epoch := 0, band := none, staged := [], ues := [], readErr := [], tab := none, test := 0,
    last := 0, bad := false }

/-- The strands, lanes and what coding and decoding hold beyond the registers. -/
structure Strands where
  strand  : List StrandSt
  lane    : List Lane
  frames  : List FrameFix
  clips   : List ClipFix
  decs    : List DecFrame
  /-- NCOL and PERIOD of the last KIND 0 record, and FRAME_NO of the last frame whose start was met, by clip (R218). -/
  lastRef : List (Nat × Nat × Nat)
  lastNo  : List (Nat × Nat)
  /-- The clip that partition and tick number name in READ_FRAME's records: partition, tick number, STRIPE_ID (R114). -/
  reads   : List (Nat × Nat × Nat)
  /-- Open store words that have been loaded, by address from 0 (R255). -/
  store   : List (Nat × BitVec 96)
  /-- Enabled match registers as ROM and patch RAM addresses, and the patch RAM words (R254). -/
  patchAt : List (Nat × Nat)
  patch   : List (Nat × BitVec 96)
  /-- Frayed ACTIVE strands that wait for their splice, with cause, in order of declaration (R265). -/
  frays   : List (Nat × Nat)
  /-- SELFTEST jobs of strands that serve no lane. -/
  tests   : List Job
  /-- Rows whose last echo was a mismatch: frame, band, row, strand (R230). -/
  miss    : List (FrameId × Nat × Nat × Nat)
  /-- Lanes are to be assigned at the next boundary (R236); strands that become SPARE there (R268). -/
  assign  : Bool
  ready   : List Nat
  /-- The cycle of the last periodic SELFTEST of the spares (R270). -/
  testAt  : Nat
  deriving DecidableEq, Repr

def Strands.init : Strands :=
  { strand := List.replicate 18 StrandSt.init, lane := List.replicate 18 Lane.init, frames := [], clips := [], decs := [],
    lastRef := [], lastNo := [], reads := [], store := [], patchAt := [], patch := [], frays := [], tests := [], miss := [], assign := true,
    ready := [], testAt := 0 }


/-- What a blocked program waits on (R302). -/
structure WaitSt where
  /-- imm[2:0]: 0 tick, 1 tag, 2 timer, 3 edge detector, 4 doorbell. -/
  kind  : Nat
  obj   : Nat
  rd    : Nat
  /-- Its place in the waiting order of R328. -/
  order : Nat
  deriving DecidableEq, Repr

/-- A store that waits in a store buffer (R292): an SSM byte address and its bytes. -/
structure BufStore where
  addr  : Nat
  bytes : List Byte
  deriving DecidableEq, Repr

/-- A sequencer stalled on a host read: the access, the cycle it began, and what it completes (R305, R318). -/
structure Stall where
  op    : Nat
  since : Nat
  /-- 0 a window load to rd; 1 the descriptor of an ISSUE; 2 the descriptor of a SPOOL to queue sel; 3 a window store. -/
  kind  : Nat
  rd    : Nat
  sel   : Nat
  /-- The descriptor pointer. -/
  ptr   : Nat
  deriving DecidableEq, Repr

/-- One slot pair of a sequencer beyond its registers (R275 to R280). -/
structure PairSt where
  /-- Slot 0 and slot 1: the program image each holds, header first. -/
  slot0    : Option (List Byte)
  slot1    : Option (List Byte)
  /-- Program counter, g0 to g31 and store buffer of the active program. -/
  pc       : Nat
  gregs    : List Nat
  sbuf     : List BufStore
  wait     : Option WaitSt
  stall    : Option Stall
  /-- TICKNO when the program last returned from a wait on the tick, or started (R302). -/
  tickRef  : Nat
  /-- Cycles charged in the tick in progress (R280). -/
  charged  : Nat
  /-- It ran this tick with SLOTLEFT at zero (R279). -/
  excess   : Bool
  /-- The active and the standby program hold their reservations (R43, R45, R69). -/
  resvA    : Bool
  resvS    : Bool
  /-- An accepted SWAP and an accepted RESTART that wait for their boundary (R329, R357). -/
  swap     : Option RingCmd
  restart  : Option RingCmd
  /-- Halted by mode and admitted again: it starts at the next boundary (R69). -/
  readmit  : Bool
  /-- The value STBY held before the INSTALL in progress (R276). -/
  stbyOld  : Nat
  /-- Its program moves with the migration in progress (R335). -/
  moving   : Bool
  deriving DecidableEq, Repr

def PairSt.init : PairSt :=
  { slot0 := none, slot1 := none, pc := 0, gregs := List.replicate 32 0, sbuf := [], wait := none, stall := none,
    tickRef := 0, charged := 0, excess := false, resvA := false, resvS := false, swap := none, restart := none,
    readmit := false, stbyOld := 0, moving := false }

/-- An INSTALL in progress (R276). -/
structure Install where
  pair  : Nat
  cmd   : RingCmd
  /-- DMA address of the image. -/
  addr  : Nat
  /-- 0 waiting for the buffer; 1 reading the header; 2 reading the code; 3 read; 4 awaiting admission. -/
  stage : Nat
  deriving DecidableEq, Repr

/-- One sequencer beyond its registers. -/
structure SeqSt where
  pair     : List PairSt
  /-- The pair whose program is executing. -/
  cur      : Option Nat
  /-- Cycles the running program has run in its quantum (R279). -/
  quantum  : Nat
  /-- Cycles charged to each partition this tick (R279). -/
  charged  : List Nat
  /-- The pair each partition last ran (R279: round robin). -/
  lastRun  : List Nat
  /-- INSTALL commands in order of arrival, and the install buffer (R276). -/
  installs : List Install
  buffer   : List Byte
  deriving DecidableEq, Repr

def SeqSt.init : SeqSt :=
  { pair := List.replicate 8 PairSt.init, cur := none, quantum := 0, charged := List.replicate 8 0,
    lastRun := List.replicate 8 0, installs := [], buffer := [] }

/-- One timer of a partition beyond its registers (R321 to R324). -/
structure Timer where
  /-- The cycle its schedule counts from, and the number of its next expiry. -/
  c0   : Nat
  k    : Nat
  /-- The cycle of the next expiry; none when it is not known yet or the timer is idle. -/
  due  : Option Nat
  /-- The lost count of TGET select 2 (R323). -/
  lost : Nat
  deriving DecidableEq, Repr

/-- What belongs to a partition as a whole: timers, captures held by edge detectors, program doorbells and the tag space
(R302, R321 to R328). -/
structure PartSt where
  timers : List Timer
  /-- Captures each detector holds, oldest first. -/
  edges  : List (List Nat)
  /-- The level each detector took last; none until it has taken one of its input (R325). -/
  level  : List (Option Bool)
  bells  : List Nat
  /-- Tags outstanding (false) or posted (true). -/
  tags   : List (Nat × Bool)
  /-- A partition reset is in progress: 0 none; 1 before its boundary; 2 whips in progress (R381). -/
  rst    : Nat
  deriving DecidableEq, Repr

def PartSt.init : PartSt :=
  { timers := List.replicate 32 { c0 := 0, k := 0, due := none, lost := 0 }, edges := List.replicate 16 [],
    level := List.replicate 16 none, bells := List.replicate 16 0, tags := [], rst := 0 }

/-- One program that the belay pair is to judge: sequencer, pair, and whether it is an install (R44) or a program halted by mode
(R69), with the RESTART that asked for it. -/
structure AdmReq where
  seq     : Nat
  pair    : Nat
  install : Bool
  restart : Option RingCmd
  deriving DecidableEq, Repr

/-- The sequencers, admission and migration beyond their registers. -/
structure Seqs where
  seq     : List SeqSt
  part    : List PartSt
  /-- The next place in the waiting order. -/
  order   : Nat
  /-- Programs that wait for admission, in order (R44). -/
  adm     : List AdmReq
  /-- Sequencers whose SEQ_OFFLINE bit software cleared, to come online at the next boundary (R337). -/
  online  : List Nat
  /-- Shares in force this tick: sequencer shares (8 × 4), strand shares and DRAM shares (R320, R378). -/
  shareQ  : List Nat
  shareS  : List Nat
  shareD  : List Nat
  deriving DecidableEq, Repr

def Seqs.init : Seqs :=
  { seq := List.replicate 4 SeqSt.init, part := List.replicate 8 PartSt.init, order := 0, adm := [], online := [],
    shareQ := List.replicate 4 100 ++ List.replicate 28 0, shareS := 100 :: List.replicate 7 0,
    shareD := 100 :: List.replicate 7 0 }

/-- A DRAM request that waits at its port (R415, R416). -/
structure DramReq where
  port  : Nat
  addr  : Nat
  write : Bool
  /-- The cycle at which the port accepted it. -/
  since : Nat
  /-- Its urgency level, 0 to 3. -/
  level : Nat
  deriving DecidableEq, Repr

/-- A requested DRAM frequency change (R422, R423). -/
structure FreqReq where
  set   : Nat
  force : Bool
  /-- The device forced it because the junction reached 100 °C. -/
  hot   : Bool
  deriving DecidableEq, Repr

/-- The DRAM controller beyond its registers (R409 to R425). A bank is numbered 16 × channel + bank. -/
structure Dram where
  waiting   : List DramReq
  /-- Banks whose postponed count is not 0, with that count (R419). -/
  postponed : List (Nat × Nat)
  /-- Banks with an open row, with that row (R416, R420). -/
  openRow   : List (Nat × Nat)
  /-- Channels whose MR4 rate code is not 0, with that code (R411). -/
  mr4       : List (Nat × Nat)
  /-- The pending frequency change request (R422). -/
  req       : Option FreqReq
  /-- The set whose RATE admission uses (R423: from the boundary of any change). -/
  rateSet   : Nat
  /-- The cycle at which the change in progress started (R424). -/
  started   : Nat
  /-- The set that training works on (R425). -/
  training  : Option Nat
  /-- Cycles of the last DQS oscillator tracking run (R411). -/
  lastDqs   : Nat
  deriving DecidableEq, Repr

def Dram.init : Dram :=
  { waiting := [], postponed := [], openRow := [], mr4 := [], req := none, rateSet := 0, started := 0, training := none,
    lastDqs := 0 }
/-- A word of a packing FIFO (R86, R87): its frame (event number), row, byte offset in the line segment, tag and bytes. -/
structure FifoWord where
  ev   : Nat
  row  : Nat
  off  : Nat
  tag  : Nat
  data : List Byte
  deriving DecidableEq, Repr

/-- One ganged port's capture of a frame (R80): 0 not begun, 1 open, 2 closed. -/
structure Win where
  port   : Nat
  st     : Nat
  /-- Segments in order of rows: their samples as received, none when not delivered. -/
  rows   : List (Option (List Nat))
  /-- Packed bytes of the rows that have been corrected and packed or replaced. -/
  packed : List (List Byte)
  /-- The tag-0 word has been pushed, and has drained. -/
  tail   : Bool
  drained : Bool
  /-- Its frame end has arrived (R36). -/
  ended  : Bool
  deriving DecidableEq, Repr

/-- A frame of a clip in the pipeline (R37, R38). -/
structure ClipFrame where
  clip   : Nat
  /-- The clip's partition; is it a proxy, and is its essence coded? -/
  part   : Nat
  proxy  : Bool
  alaz   : Bool
  /-- Its coding has been judged at tick event n+2; found late. -/
  codeJudged : Bool
  codeLate : Bool
  /-- Members of the stripe in force when the record was placed; none before. -/
  k      : Option Nat
  /-- Every write has completed; judged; found late. -/
  done   : Bool
  judged : Bool
  late   : Bool
  deriving DecidableEq, Repr

/-- A frame in the pipeline (R35): captured 0, absent 1, or not captured for want of a slot 2 (R52). -/
structure Frame where
  tick   : Nat
  /-- The number of its tick event since BOOT. -/
  ev     : Nat
  slot   : Nat
  kind   : Nat
  /-- Cycle of the group's first frame start (R80). -/
  first  : Option Nat
  win    : List Win
  final  : Bool
  capLate : Bool
  damaged : Bool
  trunc  : Bool
  /-- Line segments replaced (R81). -/
  repl   : Nat
  /-- Its proxy frames are dropped (R51). -/
  noProxy : Bool
  /-- Its slot is held (R39). -/
  held   : Bool
  /-- The mapped defects of the frame, by row and column (R83); empty while correction is off. -/
  defects : List (Nat × Nat)
  /-- Words of staged registers in force in its tick that a later boundary has replaced (R79), by address. -/
  old    : List (Nat × Nat)
  clips  : List ClipFrame
  deriving DecidableEq, Repr

/-- A sensor port beyond its registers and windows. -/
structure SensPort where
  fifo : List FifoWord
  /-- The rest of the HS burst is being discarded (R75). -/
  skip : Bool
  deriving DecidableEq, Repr

/-- A completed frame of a view (R94): its buffer, where that lies, and the frame's size. -/
structure ViewShot where
  buf  : Nat
  addr : Nat
  w    : Nat
  h    : Nat
  deriving DecidableEq, Repr

/-- A view beyond its registers (R92 to R95): LUT entries that differ from their index, keyed (3 × bank + channel) × 4096 + index; the
frame most recently completed; frames completed. -/
structure ViewSt where
  lut  : List (Nat × Nat)
  last : Option ViewShot
  seqn : Nat
  deriving DecidableEq, Repr

def ViewSt.init : ViewSt := { lut := [], last := none, seqn := 0 }

/-- A packet that a monitor port sends (R96), with its virtual channel and data type. -/
inductive MonPkt where
  /-- A short packet with the frame number. -/
  | short (vc dt number : Nat)
  /-- A long packet with one line. -/
  | long (vc dt : Nat) (line : List Byte)
  deriving DecidableEq, Repr

/-- A monitor port beyond its registers (R96 to R99). -/
structure MonSt where
  /-- Cycle of the last frame start, and its number. -/
  startAt : Option Nat
  number  : Nat
  /-- The accumulator of the unlocked frame rate at that start (R99). -/
  acc     : Nat
  /-- The buffer being sent. -/
  buf     : Option Nat
  /-- The view whose frame was last sent, and the count of that frame. -/
  sentView : Option Nat
  sentSeq : Nat
  /-- The packets of the frame in progress. -/
  out     : List MonPkt
  deriving DecidableEq, Repr

def MonSt.init : MonSt := { startAt := none, number := 0, acc := 0, buf := none, sentView := none, sentSeq := 0, out := [] }

/-- A frame that one DRAM read has fetched for the monitor ports (R100): its view and count, its rows, and the ports it has fed. -/
structure MonRead where
  view : Nat
  seqn : Nat
  rows : List (List Byte)
  fed  : List Nat
  deriving DecidableEq, Repr

/-- The intake, the view pipeline and the monitor ports beyond their registers. -/
structure Intake where
  /-- The intake runs: the mode has it on and the map was valid (R78). -/
  on     : Bool
  frames : List Frame
  port   : List SensPort
  view   : List ViewSt
  mon    : List MonSt
  /-- The view frame last read for the monitor ports, and the reads made (R100). -/
  read   : Option MonRead
  reads  : Nat
  /-- Words in force of staged registers whose written value waits for its boundary (R79), by address. -/
  force  : List (Nat × Nat)
  deriving DecidableEq, Repr

def Intake.init : Intake :=
  { on := false, frames := [], port := List.replicate 12 { fifo := [], skip := false },
    view := List.replicate 3 ViewSt.init, mon := List.replicate 2 MonSt.init, read := none, reads := 0, force := [] }

/-- The NVMe commands of R430. -/
inductive NvKind where
  | read | write | flush | dealloc
  | identCtrl | identNs | smart | errLog | setQueues | setVwc | createCq | createSq | deleteSq | deleteCq | abort
  deriving DecidableEq, Repr

/-- One NVMe command of a magazine port, queued or issued (R430 to R432, R456). -/
structure NvCmd where
  cid     : Nat
  /-- The operation it belongs to. -/
  op      : Nat
  /-- The traffic queue it waits in or travels on; 8 the admin queue. -/
  q       : Nat
  /-- The queue it came from, whose credit it is charged to. -/
  home    : Nat
  kind    : NvKind
  lba     : Nat
  blocks  : Nat
  fua     : Bool
  data    : List Byte
  /-- Cycles of entry into its queue, of its issue and of its abort; its place in the order of issue. -/
  entered : Nat
  issued  : Nat
  abortAt : Nat
  order   : Nat
  tries   : Nat
  /-- 0 queued; 1 outstanding; 2 outstanding and being aborted; 3 indeterminate (R461). -/
  st      : Nat
  deriving DecidableEq, Repr

/-- A command still to be created. -/
structure NvReq where
  q      : Nat
  kind   : NvKind
  lba    : Nat
  blocks : Nat
  data   : List Byte
  deriving DecidableEq, Repr

/-- A spool operation passed to a queue (R451): its program and where its descriptor lies (0 SSM, 1 frame store, 2 host). -/
structure SpoolReq where
  q     : Nat
  part  : Nat
  seq   : Nat
  pair  : Nat
  space : Nat
  addr  : Nat
  desc  : List Byte
  /-- Its tag was outstanding already (R453 TAG_BUSY). -/
  dup   : Bool
  deriving DecidableEq, Repr

/-- An index entry of a record placed on a member (R444). -/
structure IdxEnt where
  tick   : Nat
  lba    : Nat
  blocks : Nat
  flags  : Nat
  late   : Bool
  /-- Its header write has completed. -/
  done   : Bool
  deriving DecidableEq, Repr

/-- A record that is being written (R442): what its header and data hold, and the buffers whose references it releases. -/
structure RecReq where
  clip   : Nat
  tick   : Nat
  gap    : Bool
  flags  : Nat
  k      : Nat
  pos    : Nat
  lba    : Nat
  blocks : Nat
  metaB  : List Byte
  ess    : List Byte
  bands  : List Nat
  bufs   : List Nat
  sp     : Option SpoolReq
  deriving DecidableEq, Repr

/-- The walk of an OPEN clip's stream (R449). -/
structure RecWalk where
  num    : Nat
  entry  : List Byte
  chain  : List Nat
  pos    : Nat
  /-- The header of the record whose data is being read. -/
  head   : Option (List Byte)
  ents   : List IdxEnt
  lastIx : Option Nat
  /-- Records, gaps, late, damaged, overflow. -/
  counts : List Nat
  last   : Nat
  /-- OPEN clips still to be recovered, and those recovered. -/
  todo   : List Nat
  count  : Nat
  deriving DecidableEq, Repr

/-- What a magazine operation does between its commands. -/
inductive MagAct where
  | gotCtrl | gotNs | gotQueues
  | openHdrs | openTabs | openWalk (w : RecWalk) | openWalked (w : RecWalk) | openDirty | openDone
  | returned
  | closeHdr | closeDone
  | fmtStart | fmtWrite | fmtDone
  | ioWrite | ioDone
  /-- The header of a record, once its data has been written, and its completion (R442). -/
  | recHeader | recDone
  | mapDone (aus : List Nat)
  | indexDone | whip1Done | whip2Done | clipOpened
  /-- Stages of READ_FRAME: footer, index block, record header, data. -/
  | rfFooter | rfIndex | rfHeader | rfData (head : List Byte) | rfPlace (head : List Byte) (k : Nat)
  | rbDone | trimDone | smartDone | errDone
  | anchor1 | anchor2
  deriving DecidableEq, Repr

/-- One step of a magazine operation. -/
inductive MagStep where
  /-- Create commands and wait until they have completed. -/
  | cmds (l : List NvReq)
  /-- Wait for CSTS.RDY (R429). -/
  | rdy
  /-- Wait until the map entries of these AUs have been written (R441). -/
  | gate (aus : List Nat)
  /-- Wait for a host access. -/
  | host
  /-- Wait until the port has no other work (R464). -/
  | clear
  | act (a : MagAct)
  deriving DecidableEq, Repr

/-- What a magazine operation is for. -/
inductive MagKind where
  | opening (c : RingCmd)
  /-- none: a deliberate drop (R464) or DORMANT entry (R517). -/
  | closing (c : Option RingCmd)
  | formatting (c : RingCmd) (trim : Bool)
  | hostio (c : RingCmd) (write : Bool)
  | record (r : RecReq)
  | mapWrite
  | index (clip : Nat)
  | whip1 (clip : Nat)
  | whip2 (clip : Nat)
  | clipOpen (clip : Nat)
  | comeBack
  | smart
  | errLog
  | flush
  | readFrame (sp : SpoolReq)
  | readBlocks (sp : SpoolReq)
  | trimOp (sp : SpoolReq)
  | anchorPhase1
  | anchorPhase2
  deriving DecidableEq, Repr

/-- A magazine operation in progress. -/
structure MagOp where
  id    : Nat
  kind  : MagKind
  steps : List MagStep
  /-- Commands not completed. -/
  wait  : Nat
  /-- Data read since the last action: LBA and bytes. -/
  got   : List (Nat × List Byte)
  /-- It has issued a command (R455). -/
  begun : Bool
  /-- FLAGS of its completion (R451): HELD, FUA. -/
  held  : Bool
  fua   : Bool
  /-- The code that a failure gives now (R433), and the clips recovered. -/
  code  : Nat
  count : Nat
  deriving DecidableEq, Repr

/-- A session (R433): what the device knows of the spool. -/
structure Session where
  /-- Identify Controller SN, 20 bytes, recorded at MAG_OPEN. -/
  sn   : List Byte
  nsze : Nat
  gen  : Nat
  serial : List Byte
  tick : Nat
  /-- Directory entries whose STATE is not 0, by clip number. -/
  dir  : List (Nat × List Byte)
  /-- Extent map entries of AUs that are not free: owner and next AU. -/
  map  : List (Nat × Nat × Nat)
  deriving DecidableEq, Repr

/-- A ready-footer record of a clip on a member (R498): index and footer blocks with their LBAs, and the directory entry. -/
structure Ready where
  clip  : Nat
  index : Option (Nat × List Byte)
  foot  : Nat × List Byte
  entry : Nat × List Byte
  deriving DecidableEq, Repr

/-- A port's ready-footer store in one bank: the records of its open clips, and the header image that R439 would write next. -/
structure Bank where
  recs   : List Ready
  header : List Byte
  deriving DecidableEq, Repr

/-- A magazine port beyond its registers. -/
structure MagSt where
  link    : Bool
  /-- Identify Controller and Identify Namespace data, and CAP.MQES, of the controller that is up. -/
  ctrl    : List Byte
  ns      : List Byte
  mqes    : Nat
  cmds    : List NvCmd
  ops     : List MagOp
  nextCid : Nat
  nextOrd : Nat
  sess    : Option Session
  /-- The cycle at which the port was lost, while its hold window counts (R462). -/
  lostAt  : Option Nat
  /-- A drop takes effect at the next boundary (R463, R464): 0 none; 1 window ended; 2 deliberate; 3 failed; 4 no free AU; 5 forced (R492). -/
  drop    : Nat
  /-- Credits of Q0 to Q7 in 1/1,228,800 KiB, and the cycle they are of (R457). -/
  credit  : List Int
  creditAt : Nat
  /-- Weighted round robin: the queue served and the commands left to it (R456). -/
  rr      : Nat × Nat
  /-- Writes issued without FUA that no completed Flush covers (R460): command identifier, order of issue, blocks. -/
  cached  : List (Nat × Nat × Nat)
  /-- AUs whose map entries are being written. -/
  mapPend : List Nat
  smartAt : Nat
  /-- Ready footers in both banks, and the bank selected (R498). -/
  bank0   : Bank
  bank1   : Bank
  sel     : Bool
  deriving DecidableEq, Repr

def MagSt.init : MagSt :=
  { link := false, ctrl := [], ns := [], mqes := 0, cmds := [], ops := [], nextCid := 0, nextOrd := 0, sess := none,
    lostAt := none, drop := 0, credit := List.replicate 8 0, creditAt := 0, rr := (2, 0), cached := [], mapPend := [],
    smartAt := 0, bank0 := { recs := [], header := [] }, bank1 := { recs := [], header := [] }, sel := false }

/-- A clip on one member (R446 to R450). -/
structure ClipMem where
  port   : Nat
  chain  : List Nat
  /-- Blocks of the stream that records and blocks have been placed in. -/
  next   : Nat
  lastIx : Option Nat
  /-- Entries since the last index block that was written, and the stream positions reserved for index blocks. -/
  ents   : List IdxEnt
  idxPos : List Nat
  /-- Totals of entries already in index blocks: records, gaps, late, damaged, overflow. -/
  counts : List Nat
  /-- 0 open; 1 whip phase 1 in progress; 2 done; 3 phase 2 in progress; 4 done; 5 dropped; 6 being opened. -/
  phase  : Nat
  footer : Nat
  deriving DecidableEq, Repr

/-- An open clip (R446): its program, its stripe at open and in force. -/
structure Clip where
  id     : Nat
  part   : Nat
  seq    : Nat
  pair   : Nat
  proxy  : Bool
  num    : Nat
  stripe : Nat
  alaz   : Bool
  /-- Members at open in order of position, and the stripe in force, both as ports ascending. -/
  ports  : List Nat
  active : List Nat
  last   : Nat
  /-- FROM_TICK, member mask and K. -/
  hist   : List (Nat × Nat × Nat)
  sns    : List (List Byte)
  mem    : List ClipMem
  /-- 0 recording; 1 to be whipped; 2 phase 2. -/
  whip   : Nat
  deriving DecidableEq, Repr

/-- The magazine ports, the clips and the spool queues. -/
structure Mags where
  port   : List MagSt
  clips  : List Clip
  /-- Spool operations that have not reached their queue, in order (R452). -/
  spool  : List SpoolReq
  nextOp : Nat
  nextClip : Nat
  deriving DecidableEq, Repr

def Mags.init : Mags := { port := List.replicate 4 MagSt.init, clips := [], spool := [], nextOp := 0, nextClip := 0 }


/-- One general line beyond its registers (R550 to R554). -/
structure LineSt where
  /-- The cycle at which the settle window of a switch ends, while it runs (R553). -/
  settle : Option Nat
  /-- A SYNC_OUT pulse is at its active level (R550). -/
  pulse  : Bool
  /-- TICK_OUT is in its high half (R550). -/
  high   : Bool
  deriving DecidableEq, Repr

def LineSt.init : LineSt := { settle := none, pulse := false, high := false }

/-- Linear timecode (R550, R551). -/
structure Ltc where
  /-- Data bits of the last complete frame decoded on GL0. -/
  last   : Nat
  /-- Consecutive frames with a valid sync word, up to four. -/
  good   : Nat
  /-- Data bits of the frame GL1 is sending, none before the first. -/
  tx     : Option Nat
  /-- The cycle at which the last crystal-timed frame started. -/
  txAt   : Nat
  deriving DecidableEq, Repr

def Ltc.init : Ltc := { last := 0, good := 0, tx := none, txAt := 0 }

/-- One lens UART's FIFOs, oldest byte first (R550). -/
structure Uart where
  tx : List Byte
  rx : List Byte
  deriving DecidableEq, Repr

/-- One auxiliary I²C bus: its 16-byte FIFO and the transfer in progress (R550, R556). -/
structure Aux where
  fifo : List Byte
  /-- Address, read, length and speed of the transfer in progress. -/
  xfer : Option (Nat × Bool × Nat × Nat)
  deriving DecidableEq, Repr

/-- The pin multiplexer and its functions. -/
structure Pins where
  line : List LineSt
  ltc  : Ltc
  uart : List Uart
  aux  : List Aux
  deriving DecidableEq, Repr

def Pins.init : Pins :=
  { line := List.replicate 48 LineSt.init, ltc := Ltc.init, uart := List.replicate 4 { tx := [], rx := [] },
    aux := List.replicate 4 { fifo := [], xfer := none } }
/-- What a sideband transfer is for (R470 to R484). -/
inductive SbdUse where
  /-- Identity block; label journal slot 0, slot 1; wear journal entry i. -/
  | ident | slot (k : Nat) | wear (i : Nat)
  /-- Recovery: full clear command, slot write. -/
  | recClear | recSlot
  /-- Update: slot written open, image, update command, slot rewritten closed. -/
  | updOpen | updImage | updGo | updClose
  /-- A wear journal entry written. -/
  | wearWrite
  deriving DecidableEq, Repr

/-- A transfer on a sideband bus (R471): device address, register or word address, bytes written or the length read. -/
structure SbdXfer where
  use   : SbdUse
  dev   : Nat
  addr  : Nat
  write : List Byte
  read  : Nat
  tries : Nat
  deriving DecidableEq, Repr

/-- One sideband port beyond its registers. -/
structure SbdSt where
  /-- Transfers in order of request; the first is on the bus, or waits for its retry. -/
  xfers  : List SbdXfer
  nakAt  : Option Nat
  /-- Label journal slots as read or written, 32 bytes each; empty where not known. -/
  slots  : List (List Byte)
  /-- Label update in progress: image, the slot written, and the cycle since which a panel command runs. -/
  image  : List Byte
  slot   : Nat
  sentAt : Option Nat
  /-- The image address of the pending update (R484). -/
  pend   : Nat
  /-- Presence processing: the label journal has been checked and MAG_PRESENT raised (R470). -/
  known  : Bool
  /-- Wear journal entries, newest knowledge: 64 bytes each, and how many have been read. -/
  wear   : List (List Byte)
  wearAt : Option Nat
  /-- Journal work that waits for a SMART log (R476): 0 none; 1 a session has opened. -/
  jrn    : Nat
  /-- The last SMART figures: percentage used and data units written. -/
  pu     : Nat
  duw    : Nat
  /-- Gauge (R477 to R479): charge in 160ths of a nC, last ten voltage codes, consecutive stuck and rest samples, calibrated since presence. -/
  charge : Nat
  volts  : List Nat
  stuckV : Nat
  stuckI : Nat
  rest   : Nat
  cal    : Bool
  inDoubt : Bool
  deriving DecidableEq, Repr

def SbdSt.init : SbdSt :=
  { xfers := [], nakAt := none, slots := [[], []], image := [], slot := 0, sentAt := none, pend := 0, known := false, wear := [], wearAt := none, jrn := 0, pu := 0, duw := 0, charge := 0, volts := [], stuckV := 0,
    stuckI := 0, rest := 0, cal := false, inDoubt := true }

/-- A link injector beyond its registers (R493): LFSR state, units counted, count of the next action, actions done, the
cycle since which a unit has been held for its exchange, and what was done to the last unit: the action and the bit flipped. -/
structure InjSt where
  lfsr : Nat
  seen : Nat
  next : Nat
  acts : Nat
  held : Option Nat
  did  : Option (Nat × Nat)
  deriving DecidableEq, Repr

/-- Fault supervision, mode transitions and start-up beyond the registers. -/
structure Sup where
  /-- Each belay core's last heartbeat, and the cycle at which its reset or test began. -/
  beat    : List (Option Nat)
  since   : List Nat
  /-- The cause of each core's silence source is present (R487, R490). -/
  mute    : List Bool
  /-- A SWITCH waits for its boundary (R496); what it swaps in. -/
  switch  : Bool
  /-- The belay journal (R495): the hub sources the active core has claimed, oldest first. -/
  journal : List Nat
  /-- B0 has reported ready since BOOT; the cycle LANYARD last changed. -/
  ready   : Bool
  lanyAt  : Nat
  /-- The cycle of the first key of the arming sequence (R491). -/
  armAt   : Option Nat
  inj     : List InjSt
  /-- Causes present of CLK_FAIL, SUPPLY_OOR and HOST_LINK (R487). -/
  clkBad  : Bool
  railBad : Bool
  linkBad : Bool
  /-- The anchor (R501): the cycle of step 1, and for each port its progress: 0 not concerned, 1 waiting, 2 aborting, 3 phase 1,
  4 phase 1 done, 5 phase 2, 6 done, 7 skipped. -/
  ancAt   : Nat
  anc     : List Nat
  /-- A forced transition to PREVIEW is due (R67). -/
  lost    : Bool
  /-- The transition in progress is forced (R67), and the mode of the request that it replaced (R68). -/
  forced  : Bool
  asked   : Option Nat
  /-- Power and start-up (R510 to R524): the internal reset is asserted; the boot source sampled from BOOT_SEL; the cycle the
  attempt began, none when none runs; the image bytes the host has written, and whether GO has ended them; the image has been loaded;
  the cycle at which DORMANT entry was accepted, and in DORMANT the cycle of entry. -/
  held    : Bool
  /-- TEST_EN is high; the test access port's instruction and the words of its boundary register (R547). -/
  testEn  : Bool
  tap     : TapInstr
  cells   : List (Nat × Nat)
  sel     : Nat
  tryAt   : Option Nat
  image   : List Byte
  given   : Bool
  loaded  : Bool
  dormAt  : Option Nat
  /-- Cycles at which gated blocks completed their entry (R516). -/
  gatedAt : List (Nat × Nat)
  deriving DecidableEq, Repr

def Sup.init : Sup :=
  { beat := [none, none], since := [0, 0], mute := [false, false], switch := false, journal := [], ready := false, lanyAt := 0, armAt := none,
    inj := List.replicate 17 { lfsr := 0, seen := 0, next := 0, acts := 0, held := none, did := none }, clkBad := false, railBad := false,
    linkBad := false, testEn := false, tap := .idcode, cells := [], ancAt := 0, anc := List.replicate 4 0, lost := false, forced := false, asked := none, held := false, sel := 0, tryAt := some 0, image := [],
    given := false, loaded := false, dormAt := none, gatedAt := [] }


/-- The whole state of the block. -/
structure State where
  /-- Every register field that differs from its reset value, keys strictly rising. -/
  regs : List RegCell
  /-- CYCLE: the 1.2 GHz clock count of the latest event (1,200 cycles a microsecond; R286). -/
  clk : Nat
  /-- The model's own counter of free values used: the step reads and advances it (log entry 3). -/
  free : Nat
  /-- The data of the last register read's completion. -/
  rdata : Nat
  /-- What the device has sent on the host link, oldest first. -/
  sent : List HostMsg
  /-- The frame store (R409). -/
  fs : Memory
  /-- Shared scratch memory, 2 MiB (R311). -/
  ssm : Memory
  /-- The tick generator. -/
  tick : Tick
  /-- The signal hub. -/
  hub : Hub
  /-- The host link, rings and translation. -/
  host : HostSt
  /-- The coil pool. -/
  pool : Pool
  /-- The mover's channels. -/
  mov : List MovCh
  /-- A restart of the halted mover is requested (R397). -/
  movRestart : Bool
  /-- The DRAM controller. -/
  dram : Dram
  /-- The pin multiplexer. -/
  pins : Pins
  /-- The strands, lanes and codec. -/
  strs : Strands
  /-- The sequencers, their programs, the partitions' timers, detectors, doorbells and tags, and admission. -/
  seqs : Seqs
  /-- The magazine ports, the clips and the spool queues. -/
  mags : Mags
  /-- The magazine sideband ports. -/
  sbd : List SbdSt
  /-- The intake, the frame pipeline, the views and the monitor ports. -/
  intake : Intake
  /-- Belay pair, anchor, injectors, mode transitions and start-up. -/
  sup : Sup
  /-- Base and size in bytes of each partition's frame store area in force (R378). -/
  areas : List (Nat × Nat)
  /-- The commands that wait, first in, first out. -/
  pending : List Instr
  deriving DecidableEq, Repr

/-- Why a step can stop with a fault: for no reason. Every command of the block completes in every state. -/
inductive Fault where
  deriving DecidableEq, Repr

/-- Why a step can answer with a refusal. -/
inductive Refusal where
  /-- The command has no meaning in this model yet. Raised by the dispatcher alone; safe, since the model then says nothing. -/
  | notModelled (mnemonic : String)
  deriving DecidableEq, Repr

/-- The block right after a cold reset, internal reset released: every register field at the value its table gives for reset
(no cell in the store), every queue and engine empty, mode BOOT (R15, R63, R562). -/
def State.reset : State :=
  { regs := [],
    clk := 0,
    free := 0,
    rdata := 0,
    sent := [],
    fs := [],
    ssm := [],
    tick := Tick.init,
    hub := Hub.init,
    host := HostSt.init,
    pool := Pool.init,
    mov := List.replicate 16 MovCh.init,
    movRestart := false,
    dram := Dram.init,
    pins := Pins.init,
    strs := Strands.init,
    seqs := Seqs.init,
    mags := Mags.init,
    sbd := List.replicate 4 SbdSt.init,
    intake := Intake.init,
    sup := Sup.init,
    areas := (0, 2 ^ 33) :: List.replicate 7 (0, 0),
    pending := [] }

end Sys2Proof.Machine
end

