-- ==== Sys2Proof/Machine/Regs.lean ====
section
/-! DEFINITION. The register map of the whole device, field by field, from the register tables of spec/ (R19, R33, R59, R101,
R233, R273, R274, R310, R338, R339, R345, R356, R368, R369, R376, R377, R379, R407, R408, R426, R467, R485, R506, R507, R526,
R527, R556). Every field of every register is one `Fld`: its address, its bits, its access code (R11), its reset value and the
narrowest scope that restores it. An address below 0x40_0000 is an offset of the global BAR0; the 64 KiB window of partition p is
laid at 0x40_0000 + p × 0x1_0000 (R345, R18). Reserved bits belong to no field, so they read zero and discard ones (R10). -/

namespace Sys2Proof.Machine

/-- The access codes of R11. -/
inductive Acc where
  | rw | ro | wo | w1s | w1c | rc
  deriving DecidableEq, Repr

/-- One field of one register. -/
structure Fld where
  addr  : Nat
  lo    : Nat
  width : Nat
  reset : Nat
  acc   : Acc
  scope : Scope
  deriving DecidableEq, Repr

/-- The key of a field in the register store: 32 keys a register, so fields of one register lie side by side. -/
def fldKey (f : Fld) : Nat := 32 * f.addr + f.lo

namespace R

/-- R367: device sources are routed to T0, source k of partition p to Tp, software sources nowhere. -/
def hubRouteTgtReset (s : Nat) : Nat :=
  if s < 1 then 0 else if s < 0x100 then 1 else if s < 0x200 then 2 ^ ((s - 0x100) / 32) else 0

/-- R367: device sources have vector 0, source k of a partition vector k. -/
def hubRouteVecReset (s : Nat) : Nat :=
  if s < 0x100 then 0 else if s < 0x200 then (s - 0x100) % 32 else 0

/-- R414: the default latency target of DRAM port p, in ns. -/
def drcTargetReset (p : Nat) : Nat :=
  if p = 0 then 1000 else if p = 1 then 2000 else if p = 2 then 1500 else if p = 3 then 4000
  else if p < 16 then 2000 else if p = 16 then 10000 else if p < 21 then 4000
  else if p = 21 then 1000 else if p = 22 then 500 else 1000

/-- R467: the reset shaper rate of Q2 to Q7 in MB/s. -/
def magRateReset (q : Nat) : Nat :=
  match q with
  | 2 => 8000 | 3 => 2000 | 4 => 8000 | 5 => 6000 | 6 => 1000 | 7 => 200 | _ => 0

/-- R487: does fault number s name a source? -/
def fltAssigned (s : Nat) : Bool :=
  s ≤ 0x0F || (0x10 ≤ s && s < 0x22) || (0x28 ≤ s && s < 0x3A) || (0x40 ≤ s && s ≤ 0x4A) ||
  (0x50 ≤ s && s < 0x60) || (0x60 ≤ s && s < 0x70) || (0x70 ≤ s && s < 0x7C) || s == 0x80

/-- R487, R506: the class of fault s: 0 correctable, 1 partition, 2 device, 3 fatal. -/
def fltClassCode (s : Nat) : Nat :=
  if ¬ fltAssigned s then 0
  else if s = 0x06 ∨ s = 0x07 ∨ s = 0x08 ∨ s = 0x80 then 3
  else if s = 0x0A ∨ s = 0x0D then 0
  else if s < 0x22 then 2
  else if s < 0x3A then 0
  else if s < 0x44 then 1
  else if s < 0x48 then 0
  else if s < 0x4A then 2
  else if s = 0x4A then 0
  else if s < 0x60 then 1
  else if s < 0x70 then (if s % 4 < 2 then 2 else 0)
  else 0

/-- R506: mask bits reset to 1 for correctable sources, else 0; an unassigned number reads 0 (R487). -/
def fltMaskReset (s : Nat) : Nat := if fltAssigned s ∧ fltClassCode s = 0 then 1 else 0

def GLB_ID_PART : Fld := ⟨0x0, 0, 16, 34880, .ro, .cold⟩
def GLB_ID_MINOR : Fld := ⟨0x0, 16, 4, 1, .ro, .cold⟩
def GLB_ID_MAJOR : Fld := ⟨0x0, 20, 4, 2, .ro, .cold⟩
def GLB_VENDOR_VID : Fld := ⟨0x4, 0, 16, 23946, .ro, .cold⟩
def GLB_ACCERR_SIZE : Fld := ⟨0x8, 0, 1, 0, .w1c, .warm⟩
def GLB_ACCERR_UNMAPPED : Fld := ⟨0x8, 1, 1, 0, .w1c, .warm⟩
def GLB_ACCERR_CNT_COUNT : Fld := ⟨0xC, 0, 16, 0, .rc, .warm⟩
def GLB_ACCERR_ADDR_OFFSET : Fld := ⟨0x10, 0, 22, 0, .ro, .warm⟩
def TICK_CTL_SRC : Fld := ⟨0xC0000, 0, 2, 0, .rw, .warm⟩
def TICK_CTL_POL : Fld := ⟨0xC0000, 2, 1, 0, .rw, .warm⟩
def TICK_CTL_LOAD : Fld := ⟨0xC0000, 3, 1, 0, .wo, .warm⟩
def TICK_RATE_NUM_NUM : Fld := ⟨0xC0004, 0, 20, 24, .rw, .warm⟩
def TICK_RATE_DEN_DEN : Fld := ⟨0xC0008, 0, 16, 1, .rw, .warm⟩
def TICK_GL_DIV : Fld := ⟨0xC000C, 0, 5, 1, .rw, .warm⟩
def TICK_GL_PHASE_OFFSET : Fld := ⟨0xC0010, 0, 32, 0, .rw, .warm⟩
def TICK_STAT_ACTIVE : Fld := ⟨0xC0014, 0, 2, 0, .ro, .warm⟩
def TICK_STAT_LOCKED : Fld := ⟨0xC0014, 2, 1, 0, .ro, .warm⟩
def TICK_STAT_HOLDOVER : Fld := ⟨0xC0014, 3, 1, 0, .ro, .warm⟩
def TICK_STAT_BADCFG : Fld := ⟨0xC0014, 4, 1, 0, .w1c, .warm⟩
def TICK_STAT_REFUSED : Fld := ⟨0xC0014, 5, 1, 0, .w1c, .warm⟩
def TICK_EARLY_CNT_COUNT : Fld := ⟨0xC0018, 0, 16, 0, .rc, .warm⟩
def TICK_MISS_CNT_COUNT : Fld := ⟨0xC001C, 0, 16, 0, .rc, .warm⟩
def TICK_NO_LO_NO : Fld := ⟨0xC0020, 0, 32, 0, .ro, .warm⟩
def TICK_NO_HI_NO : Fld := ⟨0xC0024, 0, 32, 0, .ro, .warm⟩
def TICK_NO_SET_LO_NO : Fld := ⟨0xC0028, 0, 32, 0, .rw, .warm⟩
def TICK_NO_SET_HI_NO : Fld := ⟨0xC002C, 0, 32, 0, .rw, .warm⟩
def TICK_PHASE_ERR_ERR : Fld := ⟨0xC0030, 0, 32, 0, .ro, .warm⟩
def TICK_OVR_CNT_COUNT : Fld := ⟨0xC0040, 0, 16, 0, .rc, .warm⟩
def TICK_OVR_LAST_STAGE : Fld := ⟨0xC0044, 0, 2, 0, .ro, .warm⟩
def TICK_OVR_LAST_LEVEL : Fld := ⟨0xC0044, 2, 2, 0, .ro, .warm⟩
def TICK_OVR_LAST_PART : Fld := ⟨0xC0044, 4, 3, 0, .ro, .warm⟩
def TICK_OVR_TICK_LO_NO : Fld := ⟨0xC0048, 0, 32, 0, .ro, .warm⟩
def TICK_OVR_TICK_HI_NO : Fld := ⟨0xC004C, 0, 32, 0, .ro, .warm⟩
def TICK_DROP_CNT_COUNT : Fld := ⟨0xC0050, 0, 16, 0, .rc, .warm⟩
def TICK_ADM_LIMIT_STRAND : Fld := ⟨0xC0100, 0, 8, 90, .rw, .warm⟩
def TICK_ADM_LIMIT_DRAM : Fld := ⟨0xC0100, 8, 8, 80, .rw, .warm⟩
def TICK_ADM_LIMIT_SEQ : Fld := ⟨0xC0100, 16, 8, 90, .rw, .warm⟩
def TICK_ADM_LAST_CODE : Fld := ⟨0xC0104, 0, 4, 0, .ro, .warm⟩
def TICK_ADM_LAST_SCOPE : Fld := ⟨0xC0104, 4, 1, 0, .ro, .warm⟩
def TICK_ADM_LAST_INDEX : Fld := ⟨0xC0104, 5, 3, 0, .ro, .warm⟩
def TICK_ADM_LAST_PART : Fld := ⟨0xC0104, 8, 3, 0, .ro, .warm⟩
def TICK_ADM_REFUSE_CNT_COUNT : Fld := ⟨0xC0108, 0, 16, 0, .rc, .warm⟩
def TICK_ADM_STAT_OVERCOMMIT : Fld := ⟨0xC010C, 0, 1, 0, .ro, .warm⟩
def GLB_MODE_REQ_MODE : Fld := ⟨0x100, 0, 4, 0, .wo, .warm⟩
def GLB_MODE_CUR : Fld := ⟨0x104, 0, 4, 0, .ro, .warm⟩
def GLB_MODE_STATE : Fld := ⟨0x104, 4, 2, 0, .ro, .warm⟩
def GLB_MODE_TARGET : Fld := ⟨0x104, 8, 4, 0, .ro, .warm⟩
def GLB_MODE_ANCHORED : Fld := ⟨0x104, 12, 1, 0, .ro, .warm⟩
def GLB_MODE_LAST_REASON : Fld := ⟨0x108, 0, 4, 0, .ro, .cold⟩
def GLB_MODE_LAST_FROM : Fld := ⟨0x108, 4, 4, 0, .ro, .cold⟩
def GLB_MODE_LAST_TO : Fld := ⟨0x108, 8, 4, 0, .ro, .cold⟩
def GLB_MODE_TICK_LO_NO : Fld := ⟨0x10C, 0, 32, 0, .ro, .warm⟩
def GLB_MODE_TICK_HI_NO : Fld := ⟨0x110, 0, 32, 0, .ro, .warm⟩
def GLB_MODE_REFUSE_CODE : Fld := ⟨0x114, 0, 4, 0, .ro, .warm⟩
def GLB_MODE_REFUSE_MODE : Fld := ⟨0x114, 4, 4, 0, .ro, .warm⟩
def GLB_MODE_REFUSE_CNT_COUNT : Fld := ⟨0x118, 0, 16, 0, .rc, .warm⟩
def INT_CTL_DEPTH : Fld := ⟨0xA0000, 0, 2, 1, .rw, .warm⟩
def INT_CTL_CFA : Fld := ⟨0xA0000, 2, 2, 0, .rw, .warm⟩
def INT_CTL_DEF_EN : Fld := ⟨0xA0000, 4, 1, 0, .rw, .warm⟩
def INT_GANG_MASK : Fld := ⟨0xA0004, 0, 12, 0, .rw, .warm⟩
def INT_RASTER_WIDTH : Fld := ⟨0xA0008, 0, 15, 4096, .rw, .warm⟩
def INT_RASTER_HEIGHT : Fld := ⟨0xA0008, 16, 14, 2160, .rw, .warm⟩
def INT_SKEW_US : Fld := ⟨0xA000C, 0, 10, 50, .rw, .warm⟩
def INT_STAT_BADMAP : Fld := ⟨0xA0010, 0, 1, 0, .w1c, .warm⟩
def INT_STAT_DEFORDER : Fld := ⟨0xA0010, 1, 1, 0, .w1c, .warm⟩
def INT_STAT_CFGLOCK : Fld := ⟨0xA0010, 2, 1, 0, .w1c, .warm⟩
def INT_FRAME_DMG_CNT_COUNT : Fld := ⟨0xA0014, 0, 16, 0, .rc, .warm⟩
def INT_EXTRA_CNT_COUNT : Fld := ⟨0xA0018, 0, 16, 0, .rc, .warm⟩
def INT_ROW_STRIDE_BYTES : Fld := ⟨0xA001C, 0, 17, 6144, .ro, .warm⟩
def INT_BLK_LEVEL (p : Nat) : Fld := ⟨0xA0020 + p * 0x4, 0, 16, 0, .rw, .warm⟩
def INT_DEF_BASE_LO_ADDR : Fld := ⟨0xA0030, 0, 32, 0, .rw, .warm⟩
def INT_DEF_BASE_HI_ADDR : Fld := ⟨0xA0034, 0, 32, 0, .rw, .warm⟩
def INT_DEF_COUNT_COUNT : Fld := ⟨0xA0038, 0, 17, 0, .rw, .warm⟩
def INT_DEF_UNRES_CNT_COUNT : Fld := ⟨0xA003C, 0, 16, 0, .rc, .warm⟩
def INT_RING_BASE_LO_ADDR : Fld := ⟨0xA0040, 12, 20, 0, .rw, .warm⟩
def INT_RING_BASE_HI_ADDR : Fld := ⟨0xA0044, 0, 32, 0, .rw, .warm⟩
def INT_RING_CFG_SLOTS : Fld := ⟨0xA0048, 0, 4, 4, .rw, .warm⟩
def INT_RING_STRIDE_UNITS : Fld := ⟨0xA004C, 0, 20, 0, .rw, .warm⟩
def INT_SLOT_STAT_OPEN (s : Nat) : Fld := ⟨0xA0080 + s * 0x4, 0, 1, 0, .ro, .warm⟩
def INT_SLOT_STAT_HELD (s : Nat) : Fld := ⟨0xA0080 + s * 0x4, 1, 1, 0, .ro, .warm⟩
def INT_SLOT_STAT_DAMAGED (s : Nat) : Fld := ⟨0xA0080 + s * 0x4, 2, 1, 0, .ro, .warm⟩
def INT_SLOT_STAT_TRUNC (s : Nat) : Fld := ⟨0xA0080 + s * 0x4, 3, 1, 0, .ro, .warm⟩
def INT_SLOT_STAT_LATE (s : Nat) : Fld := ⟨0xA0080 + s * 0x4, 4, 1, 0, .ro, .warm⟩
def INT_SLOT_STAT_ABSENT (s : Nat) : Fld := ⟨0xA0080 + s * 0x4, 5, 1, 0, .ro, .warm⟩
def INT_SLOT_STAT_REPL (s : Nat) : Fld := ⟨0xA0080 + s * 0x4, 16, 16, 0, .ro, .warm⟩
def INT_PORT_CFG_LANES (n : Nat) : Fld := ⟨0xA1000 + n * 0x100, 0, 2, 2, .rw, .warm⟩
def INT_PORT_CFG_VC (n : Nat) : Fld := ⟨0xA1000 + n * 0x100, 2, 2, 0, .rw, .warm⟩
def INT_PORT_CFG_RATE (n : Nat) : Fld := ⟨0xA1000 + n * 0x100, 4, 13, 1500, .rw, .warm⟩
def INT_PORT_COL_START (n : Nat) : Fld := ⟨0xA1004 + n * 0x100, 0, 15, 0, .rw, .warm⟩
def INT_PORT_COL_WIDTH (n : Nat) : Fld := ⟨0xA1004 + n * 0x100, 16, 15, 0, .rw, .warm⟩
def INT_PORT_ERR_HDR_CORR (n : Nat) : Fld := ⟨0xA1008 + n * 0x100, 0, 8, 0, .rc, .warm⟩
def INT_PORT_ERR_HDR_UNC (n : Nat) : Fld := ⟨0xA1008 + n * 0x100, 8, 8, 0, .rc, .warm⟩
def INT_PORT_ERR_CRC (n : Nat) : Fld := ⟨0xA1008 + n * 0x100, 16, 8, 0, .rc, .warm⟩
def INT_PORT_ERR_LEN (n : Nat) : Fld := ⟨0xA1008 + n * 0x100, 24, 8, 0, .rc, .warm⟩
def INT_PORT_DISC_COUNT (n : Nat) : Fld := ⟨0xA100C + n * 0x100, 0, 16, 0, .rc, .warm⟩
def INT_PORT_FIFO_LEVEL (n : Nat) : Fld := ⟨0xA1010 + n * 0x100, 0, 10, 0, .rw, .warm⟩
def INT_PORT_FIFO_STAT_FILL (n : Nat) : Fld := ⟨0xA1014 + n * 0x100, 0, 10, 0, .ro, .warm⟩
def INT_PORT_FIFO_STAT_PEAK (n : Nat) : Fld := ⟨0xA1014 + n * 0x100, 16, 10, 0, .rc, .warm⟩
def INT_PORT_FIFO_STAT_OVF (n : Nat) : Fld := ⟨0xA1014 + n * 0x100, 31, 1, 0, .w1c, .warm⟩
def INT_PORT_ECC_CE (n : Nat) : Fld := ⟨0xA1018 + n * 0x100, 0, 16, 0, .rc, .warm⟩
def INT_PORT_ECC_UE (n : Nat) : Fld := ⟨0xA1018 + n * 0x100, 16, 16, 0, .rc, .warm⟩
def INT_VIEW_CFG_EN (v : Nat) : Fld := ⟨0xA2000 + v * 0x100, 0, 1, 0, .rw, .warm⟩
def INT_VIEW_CFG_LUTSEL (v : Nat) : Fld := ⟨0xA2000 + v * 0x100, 1, 1, 0, .rw, .warm⟩
def INT_VIEW_SIZE_W (v : Nat) : Fld := ⟨0xA2004 + v * 0x100, 0, 13, 1920, .rw, .warm⟩
def INT_VIEW_SIZE_H (v : Nat) : Fld := ⟨0xA2004 + v * 0x100, 16, 12, 1080, .rw, .warm⟩
def INT_VIEW_BASE_LO_ADDR (v : Nat) : Fld := ⟨0xA2008 + v * 0x100, 12, 20, 0, .rw, .warm⟩
def INT_VIEW_BASE_HI_ADDR (v : Nat) : Fld := ⟨0xA200C + v * 0x100, 0, 32, 0, .rw, .warm⟩
def INT_VIEW_MAT_COEF (v k : Nat) : Fld := ⟨0xA2010 + v * 0x100 + k * 0x4, 0, 16, if k % 4 = 0 then 4096 else 0, .rw, .warm⟩
def INT_VIEW_LUT_IDX_IDX (v : Nat) : Fld := ⟨0xA2040 + v * 0x100, 0, 12, 0, .rw, .warm⟩
def INT_VIEW_LUT_IDX_CH (v : Nat) : Fld := ⟨0xA2040 + v * 0x100, 12, 2, 0, .rw, .warm⟩
def INT_VIEW_LUT_DATA_VAL (v : Nat) : Fld := ⟨0xA2044 + v * 0x100, 0, 12, 0, .wo, .warm⟩
def INT_MO_CFG_EN (m : Nat) : Fld := ⟨0xA2400 + m * 0x40, 0, 1, 0, .rw, .warm⟩
def INT_MO_CFG_SRC (m : Nat) : Fld := ⟨0xA2400 + m * 0x40, 1, 2, 0, .rw, .warm⟩
def INT_MO_CFG_LOCK (m : Nat) : Fld := ⟨0xA2400 + m * 0x40, 3, 1, 0, .rw, .warm⟩
def INT_MO_CFG_RATE (m : Nat) : Fld := ⟨0xA2400 + m * 0x40, 4, 12, 2500, .rw, .warm⟩
def INT_MO_FPS_NUM (m : Nat) : Fld := ⟨0xA2404 + m * 0x40, 0, 16, 60, .rw, .warm⟩
def INT_MO_FPS_DEN (m : Nat) : Fld := ⟨0xA2404 + m * 0x40, 16, 16, 1, .rw, .warm⟩
def INT_MO_BLANK_HB (m : Nat) : Fld := ⟨0xA2408 + m * 0x40, 0, 16, 64, .rw, .warm⟩
def INT_MO_BLANK_VB (m : Nat) : Fld := ⟨0xA2408 + m * 0x40, 16, 16, 45, .rw, .warm⟩
def INT_MO_STAT_BADFMT (m : Nat) : Fld := ⟨0xA240C + m * 0x40, 0, 1, 0, .w1c, .warm⟩
def INT_MO_CNT_REPEAT (m : Nat) : Fld := ⟨0xA2410 + m * 0x40, 0, 16, 0, .rc, .warm⟩
def INT_MO_CNT_SKIP (m : Nat) : Fld := ⟨0xA2410 + m * 0x40, 16, 16, 0, .rc, .warm⟩
def STR_ECHO_STAT_LAST (n : Nat) : Fld := ⟨0x100400 + n * 0x1000, 0, 3, 0, .ro, .strand⟩
def STR_ECHO_STAT_FAIL (n : Nat) : Fld := ⟨0x100400 + n * 0x1000, 8, 1, 0, .w1c, .strand⟩
def STR_ECHO_STAT_ROW (n : Nat) : Fld := ⟨0x100400 + n * 0x1000, 16, 16, 0, .ro, .strand⟩
def STR_ECHO_CNT_COUNT (n : Nat) : Fld := ⟨0x100404 + n * 0x1000, 0, 32, 0, .rc, .strand⟩
def STR_ECHO_FAIL_CNT_COUNT (n : Nat) : Fld := ⟨0x100408 + n * 0x1000, 0, 16, 0, .rc, .strand⟩
def STR_DEC_ERR_INVALID (n : Nat) : Fld := ⟨0x100410 + n * 0x1000, 0, 8, 0, .rc, .strand⟩
def STR_DEC_ERR_LENGTH (n : Nat) : Fld := ⟨0x100410 + n * 0x1000, 8, 8, 0, .rc, .strand⟩
def STR_DEC_ERR_CRC (n : Nat) : Fld := ⟨0x100410 + n * 0x1000, 16, 8, 0, .rc, .strand⟩
def STR_DEC_ERR_ROWIDX (n : Nat) : Fld := ⟨0x100410 + n * 0x1000, 24, 8, 0, .rc, .strand⟩
def STR_DEC_MISC_ENDMISS (n : Nat) : Fld := ⟨0x100414 + n * 0x1000, 0, 8, 0, .rc, .strand⟩
def STR_DEC_MISC_HDRLOST (n : Nat) : Fld := ⟨0x100414 + n * 0x1000, 8, 8, 0, .rc, .strand⟩
def STR_DEC_MISC_RESYNC (n : Nat) : Fld := ⟨0x100414 + n * 0x1000, 16, 16, 0, .rc, .strand⟩
def STR_DEC_CONCEAL_CNT_COUNT (n : Nat) : Fld := ⟨0x100418 + n * 0x1000, 0, 24, 0, .rc, .strand⟩
def STR_DEC_SKIP_BYTES (n : Nat) : Fld := ⟨0x10041C + n * 0x1000, 0, 32, 0, .rc, .strand⟩
def STR_STATE_STATE (n : Nat) : Fld := ⟨0x100000 + n * 0x1000, 0, 2, if n < 16 then 1 else 0, .ro, .warm⟩
def STR_STATE_LANE (n : Nat) : Fld := ⟨0x100000 + n * 0x1000, 8, 5, if n < 16 then n else 0, .ro, .warm⟩
def STR_STATE_CAUSE (n : Nat) : Fld := ⟨0x100000 + n * 0x1000, 16, 3, 0, .ro, .warm⟩
def STR_STATE_UNACK (n : Nat) : Fld := ⟨0x100000 + n * 0x1000, 19, 1, 0, .ro, .warm⟩
def STR_CTL_RESET (n : Nat) : Fld := ⟨0x100004 + n * 0x1000, 0, 1, 0, .wo, .warm⟩
def STR_JOB_OPC (n : Nat) : Fld := ⟨0x100008 + n * 0x1000, 0, 6, 0, .ro, .strand⟩
def STR_JOB_PART (n : Nat) : Fld := ⟨0x100008 + n * 0x1000, 8, 3, 0, .ro, .strand⟩
def STR_JOB_TAG (n : Nat) : Fld := ⟨0x100008 + n * 0x1000, 16, 16, 0, .ro, .strand⟩
def STR_UPC_ADDR (n : Nat) : Fld := ⟨0x10000C + n * 0x1000, 0, 13, 0, .ro, .strand⟩
def STR_FRAY_CNT_COUNT (n : Nat) : Fld := ⟨0x100010 + n * 0x1000, 0, 16, 0, .rc, .warm⟩
def STR_STALE_CNT_COUNT (n : Nat) : Fld := ⟨0x100014 + n * 0x1000, 0, 32, 0, .rc, .warm⟩
def STR_RESTART_CNT_COUNT (n : Nat) : Fld := ⟨0x100018 + n * 0x1000, 0, 16, 0, .rc, .strand⟩
def STR_WDOG_MAX_US (n : Nat) : Fld := ⟨0x10001C + n * 0x1000, 0, 16, 0, .rc, .strand⟩
def STR_PATCH_VER_VER (n : Nat) : Fld := ⟨0x100020 + n * 0x1000, 0, 16, 0, .ro, .warm⟩
def STR_PATCH_VER_NMATCH (n : Nat) : Fld := ⟨0x100020 + n * 0x1000, 16, 6, 0, .ro, .warm⟩
def STR_CS_ECC_CE (n : Nat) : Fld := ⟨0x100024 + n * 0x1000, 0, 16, 0, .rc, .strand⟩
def STR_CS_ECC_UE (n : Nat) : Fld := ⟨0x100024 + n * 0x1000, 16, 16, 0, .rc, .strand⟩
def STR_SRAM_ECC_CE (n : Nat) : Fld := ⟨0x100028 + n * 0x1000, 0, 16, 0, .rc, .strand⟩
def STR_SRAM_ECC_UE (n : Nat) : Fld := ⟨0x100028 + n * 0x1000, 16, 16, 0, .rc, .strand⟩
def STR_OS_GEN_GEN (n : Nat) : Fld := ⟨0x10002C + n * 0x1000, 0, 16, 0, .ro, .warm⟩
def STR_TEST_STAT_RESULT (n : Nat) : Fld := ⟨0x100030 + n * 0x1000, 0, 2, 0, .ro, .warm⟩
def STR_TEST_STAT_UNIT (n : Nat) : Fld := ⟨0x100030 + n * 0x1000, 4, 3, 0, .ro, .warm⟩
def STR_TEST_STAT_AFTERQ (n : Nat) : Fld := ⟨0x100030 + n * 0x1000, 8, 1, 0, .ro, .warm⟩
def STR_TEST_SIG_SIG (n : Nat) : Fld := ⟨0x100034 + n * 0x1000, 0, 32, 0, .ro, .warm⟩
def STR_POOL_SPARES : Fld := ⟨0x13F000, 0, 3, 2, .rw, .warm⟩
def STR_POOL_TESTPER : Fld := ⟨0x13F000, 8, 8, 60, .rw, .warm⟩
def STR_POOL_STAT_LANES : Fld := ⟨0x13F004, 0, 5, 16, .ro, .warm⟩
def STR_POOL_STAT_SPAREAV : Fld := ⟨0x13F004, 8, 3, 2, .ro, .warm⟩
def STR_POOL_STAT_NQUAR : Fld := ⟨0x13F004, 16, 5, 0, .ro, .warm⟩
def STR_POOL_STAT_DEGRADED : Fld := ⟨0x13F004, 24, 1, 0, .ro, .warm⟩
def STR_POOL_STAT_CFGERR : Fld := ⟨0x13F004, 25, 1, 0, .w1c, .warm⟩
def STR_QUAR_MASK_MASK : Fld := ⟨0x13F008, 0, 18, 0, .ro, .cold⟩
def STR_QUAR_SET_STRAND : Fld := ⟨0x13F00C, 0, 5, 0, .wo, .warm⟩
def STR_READMIT_STRAND : Fld := ⟨0x13F010, 0, 5, 0, .wo, .warm⟩
def STR_TEST_REQ_STRAND : Fld := ⟨0x13F014, 0, 5, 0, .wo, .warm⟩
def STR_REQ_STAT_RCODE : Fld := ⟨0x13F018, 0, 4, 0, .ro, .warm⟩
def STR_REQ_STAT_TCODE : Fld := ⟨0x13F018, 4, 4, 0, .ro, .warm⟩
def STR_SPLICE_CNT_COUNT : Fld := ⟨0x13F020, 0, 16, 0, .rc, .warm⟩
def STR_SPLICE_LAST_LANE : Fld := ⟨0x13F024, 0, 5, 0, .ro, .warm⟩
def STR_SPLICE_LAST_FROM : Fld := ⟨0x13F024, 8, 5, 0, .ro, .warm⟩
def STR_SPLICE_LAST_TO : Fld := ⟨0x13F024, 16, 5, 0, .ro, .warm⟩
def STR_SPLICE_LAST_CAUSE : Fld := ⟨0x13F024, 24, 3, 0, .ro, .warm⟩
def STR_SPLICE_GAP_LAST : Fld := ⟨0x13F028, 0, 16, 0, .ro, .warm⟩
def STR_SPLICE_GAP_MAX : Fld := ⟨0x13F028, 16, 16, 0, .rc, .warm⟩
def STR_OS_ADDR_ADDR : Fld := ⟨0x13F030, 0, 9, 0, .rw, .warm⟩
def STR_OS_DATA0_DATA : Fld := ⟨0x13F034, 0, 32, 0, .wo, .warm⟩
def STR_OS_DATA1_DATA : Fld := ⟨0x13F038, 0, 32, 0, .wo, .warm⟩
def STR_OS_DATA2_DATA : Fld := ⟨0x13F03C, 0, 32, 0, .wo, .warm⟩
def STR_OS_GEN_COMMON_GEN : Fld := ⟨0x13F040, 0, 16, 0, .rw, .warm⟩
def STR_DISPATCH_ADDR (k : Nat) : Fld := ⟨0x13F080 + k * 0x4, 0, 13, 0, .rw, .warm⟩
def STR_LANE_MAP_STRAND (l : Nat) : Fld := ⟨0x13F100 + l * 0x4, 0, 5, if l < 16 then l else 0, .ro, .warm⟩
def STR_LANE_MAP_SHARED (l : Nat) : Fld := ⟨0x13F100 + l * 0x4, 6, 1, 0, .ro, .warm⟩
def STR_LANE_MAP_VALID (l : Nat) : Fld := ⟨0x13F100 + l * 0x4, 7, 1, if l < 16 then 1 else 0, .ro, .warm⟩
def STR_LANE_MAP_EPOCH (l : Nat) : Fld := ⟨0x13F100 + l * 0x4, 16, 16, 0, .ro, .warm⟩
def STR_LANE_CNT_ROWS (l : Nat) : Fld := ⟨0x13F180 + l * 0x4, 0, 16, 0, .ro, .warm⟩
def STR_LANE_CNT_BAND (l : Nat) : Fld := ⟨0x13F180 + l * 0x4, 16, 8, 0, .ro, .warm⟩
def STR_LANE_CNT_QDEPTH (l : Nat) : Fld := ⟨0x13F180 + l * 0x4, 24, 6, 0, .ro, .warm⟩
def SEQ_STAT_RUN (n : Nat) : Fld := ⟨0x140000 + n * 0x1000, 0, 1, 0, .ro, .warm⟩
def SEQ_STAT_NRUN (n : Nat) : Fld := ⟨0x140000 + n * 0x1000, 1, 4, 0, .ro, .warm⟩
def SEQ_STAT_CFGERR (n : Nat) : Fld := ⟨0x140000 + n * 0x1000, 8, 1, 0, .w1c, .warm⟩
def SEQ_USED_CYCLES (n : Nat) : Fld := ⟨0x140004 + n * 0x1000, 0, 32, 0, .ro, .warm⟩
def SEQ_IMEM_ECC_CE (n : Nat) : Fld := ⟨0x140008 + n * 0x1000, 0, 16, 0, .rc, .warm⟩
def SEQ_IMEM_ECC_UE (n : Nat) : Fld := ⟨0x140008 + n * 0x1000, 16, 16, 0, .rc, .warm⟩
def SEQ_PAIR_OWNER_PART (n p : Nat) : Fld := ⟨0x140100 + n * 0x1000 + p * 0x40, 0, 3, 0, .rw, .warm⟩
def SEQ_PAIR_OWNER_VALID (n p : Nat) : Fld := ⟨0x140100 + n * 0x1000 + p * 0x40, 7, 1, 0, .rw, .warm⟩
def SEQ_PAIR_STAT_ACTIVE (n p : Nat) : Fld := ⟨0x140104 + n * 0x1000 + p * 0x40, 0, 1, 0, .ro, .partition⟩
def SEQ_PAIR_STAT_STATE (n p : Nat) : Fld := ⟨0x140104 + n * 0x1000 + p * 0x40, 1, 3, 0, .ro, .partition⟩
def SEQ_PAIR_STAT_STBY (n p : Nat) : Fld := ⟨0x140104 + n * 0x1000 + p * 0x40, 4, 2, 0, .ro, .partition⟩
def SEQ_PAIR_PC_PC (n p : Nat) : Fld := ⟨0x140108 + n * 0x1000 + p * 0x40, 0, 14, 0, .ro, .partition⟩
def SEQ_PAIR_FAULT_CAUSE (n p : Nat) : Fld := ⟨0x14010C + n * 0x1000 + p * 0x40, 0, 4, 0, .ro, .partition⟩
def SEQ_PAIR_FAULT_PC (n p : Nat) : Fld := ⟨0x14010C + n * 0x1000 + p * 0x40, 4, 14, 0, .ro, .partition⟩
def SEQ_PAIR_FAULT_CODE (n p : Nat) : Fld := ⟨0x14010C + n * 0x1000 + p * 0x40, 18, 14, 0, .ro, .partition⟩
def SEQ_PAIR_FADDR_LO_ADDR (n p : Nat) : Fld := ⟨0x140110 + n * 0x1000 + p * 0x40, 0, 32, 0, .ro, .partition⟩
def SEQ_PAIR_FADDR_HI_ADDR (n p : Nat) : Fld := ⟨0x140114 + n * 0x1000 + p * 0x40, 0, 32, 0, .ro, .partition⟩
def SEQ_PAIR_USED_CYCLES (n p : Nat) : Fld := ⟨0x140118 + n * 0x1000 + p * 0x40, 0, 32, 0, .ro, .partition⟩
def SEQ_PAIR_PEAK_CYCLES (n p : Nat) : Fld := ⟨0x14011C + n * 0x1000 + p * 0x40, 0, 32, 0, .rc, .partition⟩
def SEQ_PAIR_LATE_CNT_COUNT (n p : Nat) : Fld := ⟨0x140120 + n * 0x1000 + p * 0x40, 0, 16, 0, .rc, .partition⟩
def SEQ_PAIR_EXCESS_CNT_COUNT (n p : Nat) : Fld := ⟨0x140124 + n * 0x1000 + p * 0x40, 0, 16, 0, .rc, .partition⟩
def SEQ_PAIR_INST_WORD (n p : Nat) : Fld := ⟨0x140128 + n * 0x1000 + p * 0x40, 0, 32, 0, .ro, .partition⟩
def TICK_TMR_STAT_MODE (p t : Nat) : Fld := ⟨0xC1000 + p * 0x400 + t * 0x10, 0, 3, 0, .ro, .partition⟩
def TICK_TMR_STAT_PEND (p t : Nat) : Fld := ⟨0xC1000 + p * 0x400 + t * 0x10, 8, 8, 0, .ro, .partition⟩
def TICK_TMR_NS_LO_NS (p t : Nat) : Fld := ⟨0xC1004 + p * 0x400 + t * 0x10, 0, 32, 0, .ro, .partition⟩
def TICK_TMR_NS_HI_NS (p t : Nat) : Fld := ⟨0xC1008 + p * 0x400 + t * 0x10, 0, 9, 0, .ro, .partition⟩
def TICK_TMR_LOST_COUNT (p t : Nat) : Fld := ⟨0xC100C + p * 0x400 + t * 0x10, 0, 16, 0, .rc, .partition⟩
def TICK_EDGE_CFG_INPUT (p e : Nat) : Fld := ⟨0xC1200 + p * 0x400 + e * 0x10, 0, 6, 0, .ro, .partition⟩
def TICK_EDGE_CFG_EDGES (p e : Nat) : Fld := ⟨0xC1200 + p * 0x400 + e * 0x10, 8, 2, 0, .ro, .partition⟩
def TICK_EDGE_CFG_ONCE (p e : Nat) : Fld := ⟨0xC1200 + p * 0x400 + e * 0x10, 10, 1, 0, .ro, .partition⟩
def TICK_EDGE_CFG_HELD (p e : Nat) : Fld := ⟨0xC1200 + p * 0x400 + e * 0x10, 12, 3, 0, .ro, .partition⟩
def TICK_EDGE_LAST_LO_CYCLE (p e : Nat) : Fld := ⟨0xC1204 + p * 0x400 + e * 0x10, 0, 32, 0, .ro, .partition⟩
def TICK_EDGE_LAST_HI_CYCLE (p e : Nat) : Fld := ⟨0xC1208 + p * 0x400 + e * 0x10, 0, 32, 0, .ro, .partition⟩
def TICK_EDGE_LOST_COUNT (p e : Nat) : Fld := ⟨0xC120C + p * 0x400 + e * 0x10, 0, 16, 0, .rc, .partition⟩
def TICK_PART_STAT_LATE (p : Nat) : Fld := ⟨0xC1300 + p * 0x400, 0, 16, 0, .rc, .partition⟩
def SEQ_MIG_REQ_SRC : Fld := ⟨0x17F000, 0, 2, 0, .wo, .warm⟩
def SEQ_MIG_REQ_DST : Fld := ⟨0x17F000, 2, 2, 0, .wo, .warm⟩
def SEQ_MIG_STAT_STATE : Fld := ⟨0x17F004, 0, 2, 0, .ro, .warm⟩
def SEQ_MIG_STAT_CODE : Fld := ⟨0x17F004, 4, 3, 0, .ro, .warm⟩
def SEQ_MIG_STAT_SRC : Fld := ⟨0x17F004, 8, 2, 0, .ro, .warm⟩
def SEQ_MIG_STAT_DST : Fld := ⟨0x17F004, 10, 2, 0, .ro, .warm⟩
def SEQ_OFFLINE_MASK : Fld := ⟨0x17F008, 0, 4, 0, .w1c, .warm⟩
def SEQ_TEST_REQ_SEQ : Fld := ⟨0x17F00C, 0, 2, 0, .wo, .warm⟩
def SEQ_TEST_STAT_RESULT : Fld := ⟨0x17F010, 0, 2, 0, .ro, .warm⟩
def SEQ_TEST_STAT_SEQ : Fld := ⟨0x17F010, 4, 2, 0, .ro, .warm⟩
def SEQ_MIG_CNT_COUNT : Fld := ⟨0x17F014, 0, 16, 0, .rc, .warm⟩
def PW_ID_PART (p : Nat) : Fld := ⟨0x400000 + p * 0x10000, 0, 3, p, .ro, .cold⟩
def PW_STAT_RST_BUSY (p : Nat) : Fld := ⟨0x400004 + p * 0x10000, 0, 1, 0, .ro, .partition⟩
def PW_STAT_MODE (p : Nat) : Fld := ⟨0x400004 + p * 0x10000, 4, 4, 0, .ro, .warm⟩
def PW_STAT_ANCHORED (p : Nat) : Fld := ⟨0x400004 + p * 0x10000, 8, 1, 0, .ro, .warm⟩
def PW_ACCERR_SIZE (p : Nat) : Fld := ⟨0x400008 + p * 0x10000, 0, 1, 0, .w1c, .partition⟩
def PW_ACCERR_UNMAPPED (p : Nat) : Fld := ⟨0x400008 + p * 0x10000, 1, 1, 0, .w1c, .partition⟩
def PW_ACCERR_CNT_COUNT (p : Nat) : Fld := ⟨0x40000C + p * 0x10000, 0, 16, 0, .rc, .partition⟩
def PW_ACCERR_ADDR_OFFSET (p : Nat) : Fld := ⟨0x400010 + p * 0x10000, 0, 16, 0, .ro, .partition⟩
def PW_PDB (p k : Nat) : Fld := ⟨0x400100 + p * 0x10000 + k * 0x4, 0, 32, 0, .wo, .warm⟩
def PW_SQ_DB (p r : Nat) : Fld := ⟨0x400200 + p * 0x10000 + r * 0x4, 0, 32, 0, .wo, .warm⟩
def PW_PAIR_STAT_STATUS (p i : Nat) : Fld := ⟨0x402000 + p * 0x10000 + i * 0x10, 0, 6, 0, .ro, .partition⟩
def PW_PAIR_STAT_OWNED (p i : Nat) : Fld := ⟨0x402000 + p * 0x10000 + i * 0x10, 31, 1, 0, .ro, .warm⟩
def PW_PAIR_FAULT_FAULT (p i : Nat) : Fld := ⟨0x402004 + p * 0x10000 + i * 0x10, 0, 32, 0, .ro, .partition⟩
def PW_PAIR_INST_WORD (p i : Nat) : Fld := ⟨0x402008 + p * 0x10000 + i * 0x10, 0, 32, 0, .ro, .partition⟩
def PW_PAIR_WHERE_SEQ (p i : Nat) : Fld := ⟨0x40200C + p * 0x10000 + i * 0x10, 0, 2, 0, .ro, .warm⟩
def PW_PAIR_WHERE_PAIR (p i : Nat) : Fld := ⟨0x40200C + p * 0x10000 + i * 0x10, 4, 3, 0, .ro, .warm⟩
def PW_PAIR_WHERE_MOVED (p i : Nat) : Fld := ⟨0x40200C + p * 0x10000 + i * 0x10, 7, 1, 0, .ro, .warm⟩
def PW_SQ_BASE_LO_ADDR (p r : Nat) : Fld := ⟨0x401000 + p * 0x10000 + r * 0x20, 12, 20, 0, .rw, .partition⟩
def PW_SQ_BASE_HI_ADDR (p r : Nat) : Fld := ⟨0x401004 + p * 0x10000 + r * 0x20, 0, 32, 0, .rw, .partition⟩
def PW_SQ_CFG_LOG2N (p r : Nat) : Fld := ⟨0x401008 + p * 0x10000 + r * 0x20, 0, 4, 4, .rw, .partition⟩
def PW_SQ_CFG_CQ (p r : Nat) : Fld := ⟨0x401008 + p * 0x10000 + r * 0x20, 8, 4, 0, .rw, .partition⟩
def PW_SQ_CFG_WEIGHT (p r : Nat) : Fld := ⟨0x401008 + p * 0x10000 + r * 0x20, 16, 8, 1, .rw, .partition⟩
def PW_SQ_CFG_BURST (p r : Nat) : Fld := ⟨0x401008 + p * 0x10000 + r * 0x20, 24, 4, 8, .rw, .partition⟩
def PW_SQ_CTL_EN (p r : Nat) : Fld := ⟨0x40100C + p * 0x10000 + r * 0x20, 0, 1, 0, .rw, .partition⟩
def PW_SQ_STAT_IDLE (p r : Nat) : Fld := ⟨0x401010 + p * 0x10000 + r * 0x20, 0, 1, 1, .ro, .partition⟩
def PW_SQ_STAT_ERR (p r : Nat) : Fld := ⟨0x401010 + p * 0x10000 + r * 0x20, 1, 1, 0, .w1c, .partition⟩
def PW_SQ_STAT_RUNG (p r : Nat) : Fld := ⟨0x401010 + p * 0x10000 + r * 0x20, 2, 1, 0, .ro, .partition⟩
def PW_SQ_STAT_ECODE (p r : Nat) : Fld := ⟨0x401010 + p * 0x10000 + r * 0x20, 4, 3, 0, .ro, .partition⟩
def PW_SQ_STAT_TAKEN (p r : Nat) : Fld := ⟨0x401010 + p * 0x10000 + r * 0x20, 16, 12, 0, .ro, .partition⟩
def PW_SQ_STAT_SENSE (p r : Nat) : Fld := ⟨0x401010 + p * 0x10000 + r * 0x20, 31, 1, 1, .ro, .partition⟩
def PW_CQ_BASE_LO_ADDR (p r : Nat) : Fld := ⟨0x401400 + p * 0x10000 + r * 0x20, 12, 20, 0, .rw, .partition⟩
def PW_CQ_BASE_HI_ADDR (p r : Nat) : Fld := ⟨0x401404 + p * 0x10000 + r * 0x20, 0, 32, 0, .rw, .partition⟩
def PW_CQ_CFG_LOG2N (p r : Nat) : Fld := ⟨0x401408 + p * 0x10000 + r * 0x20, 0, 4, 4, .rw, .partition⟩
def PW_CQ_CFG_IRQ (p r : Nat) : Fld := ⟨0x401408 + p * 0x10000 + r * 0x20, 8, 1, 0, .rw, .partition⟩
def PW_CQ_CTL_EN (p r : Nat) : Fld := ⟨0x40140C + p * 0x10000 + r * 0x20, 0, 1, 0, .rw, .partition⟩
def PW_CQ_HEAD_INDEX (p r : Nat) : Fld := ⟨0x401410 + p * 0x10000 + r * 0x20, 0, 12, 0, .rw, .partition⟩
def PW_CQ_STAT_ERR (p r : Nat) : Fld := ⟨0x401414 + p * 0x10000 + r * 0x20, 1, 1, 0, .w1c, .partition⟩
def PW_CQ_STAT_ECODE (p r : Nat) : Fld := ⟨0x401414 + p * 0x10000 + r * 0x20, 4, 3, 0, .ro, .partition⟩
def PW_CQ_STAT_TAIL (p r : Nat) : Fld := ⟨0x401414 + p * 0x10000 + r * 0x20, 16, 12, 0, .ro, .partition⟩
def PW_CQ_STAT_SENSE (p r : Nat) : Fld := ⟨0x401414 + p * 0x10000 + r * 0x20, 31, 1, 1, .ro, .partition⟩
def PW_CQ_DROP_COUNT (p r : Nat) : Fld := ⟨0x401418 + p * 0x10000 + r * 0x20, 0, 16, 0, .rc, .partition⟩
def HUB_DB_SRC : Fld := ⟨0x40000, 0, 10, 0, .wo, .warm⟩
def HUB_PEND_SET_SRC : Fld := ⟨0x40004, 0, 10, 0, .wo, .warm⟩
def HUB_PEND_CLR_SRC : Fld := ⟨0x40008, 0, 10, 0, .wo, .warm⟩
def HUB_MASK_SET_SRC : Fld := ⟨0x4000C, 0, 10, 0, .wo, .warm⟩
def HUB_MASK_CLR_SRC : Fld := ⟨0x40010, 0, 10, 0, .wo, .warm⟩
def HUB_ERR_CNT_COUNT : Fld := ⟨0x40020, 0, 16, 0, .rc, .warm⟩
def HUB_PEND (s : Nat) : Fld := ⟨0x40100 + 4 * (s / 32), s % 32, 1, 0, .ro, .warm⟩
def HUB_MASK (s : Nat) : Fld := ⟨0x40200 + 4 * (s / 32), s % 32, 1, 1, .ro, .warm⟩
def HUB_INSERV (s : Nat) : Fld := ⟨0x40300 + 4 * (s / 32), s % 32, 1, 0, .ro, .warm⟩
def HUB_ROUTE_TGT (s : Nat) : Fld := ⟨0x41000 + s * 0x4, 0, 16, hubRouteTgtReset s, .rw, .warm⟩
def HUB_ROUTE_VEC (s : Nat) : Fld := ⟨0x41000 + s * 0x4, 16, 5, hubRouteVecReset s, .rw, .warm⟩
def HUB_ROUTE_OWNER (s : Nat) : Fld := ⟨0x41000 + s * 0x4, 24, 3, 0, .rw, .warm⟩
def HUB_ROUTE_RAISE (s : Nat) : Fld := ⟨0x41000 + s * 0x4, 27, 1, 0, .rw, .warm⟩
def HUB_TGT_CTL_EN (t : Nat) : Fld := ⟨0x42000 + t * 0x10, 0, 1, if t < 8 || t = 12 then 1 else 0, .rw, .warm⟩
def HUB_TGT_CTL_PART (t : Nat) : Fld := ⟨0x42000 + t * 0x10, 8, 3, 0, .rw, .warm⟩
def HUB_TGT_CTL_PDB (t : Nat) : Fld := ⟨0x42000 + t * 0x10, 12, 4, 0, .rw, .warm⟩
def HUB_CLAIM_SRC (t : Nat) : Fld := ⟨0x42004 + t * 0x10, 0, 10, 0, .ro, .warm⟩
def HUB_CLAIM_VALID (t : Nat) : Fld := ⟨0x42004 + t * 0x10, 31, 1, 0, .ro, .warm⟩
def HUB_EOI_SRC (t : Nat) : Fld := ⟨0x42008 + t * 0x10, 0, 10, 0, .wo, .warm⟩
def HUB_TGT_STAT_REQ (t : Nat) : Fld := ⟨0x4200C + t * 0x10, 0, 1, 0, .ro, .warm⟩
def PW_HUB_RAISE_SRC (p : Nat) : Fld := ⟨0x400400 + p * 0x10000, 0, 10, 0, .wo, .warm⟩
def PW_HUB_PEND_CLR_SRC (p : Nat) : Fld := ⟨0x400404 + p * 0x10000, 0, 10, 0, .wo, .warm⟩
def PW_HUB_MASK_SET_SRC (p : Nat) : Fld := ⟨0x400408 + p * 0x10000, 0, 10, 0, .wo, .warm⟩
def PW_HUB_MASK_CLR_SRC (p : Nat) : Fld := ⟨0x40040C + p * 0x10000, 0, 10, 0, .wo, .warm⟩
def PW_HUB_CLAIM_SRC (p : Nat) : Fld := ⟨0x400410 + p * 0x10000, 0, 10, 0, .ro, .partition⟩
def PW_HUB_CLAIM_VALID (p : Nat) : Fld := ⟨0x400410 + p * 0x10000, 31, 1, 0, .ro, .partition⟩
def PW_HUB_EOI_SRC (p : Nat) : Fld := ⟨0x400414 + p * 0x10000, 0, 10, 0, .wo, .warm⟩
def PW_HUB_ERR_CNT_COUNT (p : Nat) : Fld := ⟨0x400418 + p * 0x10000, 0, 16, 0, .rc, .partition⟩
def PW_FQ_STAT_COUNT (p : Nat) : Fld := ⟨0x400800 + p * 0x10000, 0, 5, 0, .ro, .partition⟩
def PW_FQ_ADDR_LO_ADDR (p : Nat) : Fld := ⟨0x400804 + p * 0x10000, 0, 32, 0, .ro, .partition⟩
def PW_FQ_ADDR_HI_ADDR (p : Nat) : Fld := ⟨0x400808 + p * 0x10000, 0, 32, 0, .ro, .partition⟩
def PW_FQ_INFO_CAUSE (p : Nat) : Fld := ⟨0x40080C + p * 0x10000, 0, 4, 0, .ro, .partition⟩
def PW_FQ_INFO_LEVEL (p : Nat) : Fld := ⟨0x40080C + p * 0x10000, 4, 3, 0, .ro, .partition⟩
def PW_FQ_INFO_WRITE (p : Nat) : Fld := ⟨0x40080C + p * 0x10000, 7, 1, 0, .ro, .partition⟩
def PW_FQ_INFO_REQ (p : Nat) : Fld := ⟨0x40080C + p * 0x10000, 8, 4, 0, .ro, .partition⟩
def PW_FQ_INFO_UNIT (p : Nat) : Fld := ⟨0x40080C + p * 0x10000, 12, 4, 0, .ro, .partition⟩
def PW_FQ_INFO_REGION (p : Nat) : Fld := ⟨0x40080C + p * 0x10000, 16, 5, 31, .ro, .partition⟩
def PW_FQ_POP (p : Nat) : Fld := ⟨0x400810 + p * 0x10000, 0, 32, 0, .wo, .warm⟩
def PW_FQ_LOST_COUNT (p : Nat) : Fld := ⟨0x400814 + p * 0x10000, 0, 16, 0, .rc, .partition⟩
def IOM_CTL_PEER : Fld := ⟨0x2C0000, 0, 8, 0, .rw, .warm⟩
def IOM_STAT_CFGERR : Fld := ⟨0x2C0004, 0, 1, 0, .w1c, .warm⟩
def IOM_ROOT_LO_EN (p : Nat) : Fld := ⟨0x2C0100 + p * 0x10, 0, 1, 0, .rw, .warm⟩
def IOM_ROOT_LO_ADDR (p : Nat) : Fld := ⟨0x2C0100 + p * 0x10, 12, 20, 0, .rw, .warm⟩
def IOM_ROOT_HI_ADDR (p : Nat) : Fld := ⟨0x2C0104 + p * 0x10, 0, 20, 0, .rw, .warm⟩
def IOM_INV_ADDR_LO_ADDR : Fld := ⟨0x2C0200, 12, 20, 0, .rw, .warm⟩
def IOM_INV_ADDR_HI_ADDR : Fld := ⟨0x2C0204, 0, 16, 0, .rw, .warm⟩
def IOM_INV_CMD_PAGES : Fld := ⟨0x2C0208, 0, 20, 0, .wo, .warm⟩
def IOM_INV_CMD_PART : Fld := ⟨0x2C0208, 24, 3, 0, .wo, .warm⟩
def IOM_INV_STAT_BUSY : Fld := ⟨0x2C020C, 0, 1, 0, .ro, .warm⟩
def IOM_INV_STAT_DONE : Fld := ⟨0x2C020C, 1, 1, 0, .w1c, .warm⟩
def IOM_HIT_CNT_COUNT : Fld := ⟨0x2C0210, 0, 32, 0, .rc, .warm⟩
def IOM_WALK_CNT_COUNT : Fld := ⟨0x2C0214, 0, 32, 0, .rc, .warm⟩
def IOM_IOWIN_LO_EN (i : Nat) : Fld := ⟨0x2C0300 + i * 0x10, 0, 1, 0, .rw, .warm⟩
def IOM_IOWIN_LO_ADDR (i : Nat) : Fld := ⟨0x2C0300 + i * 0x10, 12, 20, 0, .rw, .warm⟩
def IOM_IOWIN_HI_ADDR (i : Nat) : Fld := ⟨0x2C0304 + i * 0x10, 0, 20, 0, .rw, .warm⟩
def IOM_IOWIN_SIZE_PAGES (i : Nat) : Fld := ⟨0x2C0308 + i * 0x10, 0, 28, 0, .rw, .warm⟩
def PRT_SHARE_STRAND (p : Nat) : Fld := ⟨0x300000 + p * 0x100, 0, 8, if p = 0 then 100 else 0, .rw, .warm⟩
def PRT_SHARE_DRAM (p : Nat) : Fld := ⟨0x300000 + p * 0x100, 8, 8, if p = 0 then 100 else 0, .rw, .warm⟩
def PRT_SHARE_HOST (p : Nat) : Fld := ⟨0x300000 + p * 0x100, 16, 8, 1, .rw, .warm⟩
def PRT_SEQSHARE_SQ0 (p : Nat) : Fld := ⟨0x300004 + p * 0x100, 0, 8, if p = 0 then 100 else 0, .rw, .warm⟩
def PRT_SEQSHARE_SQ1 (p : Nat) : Fld := ⟨0x300004 + p * 0x100, 8, 8, if p = 0 then 100 else 0, .rw, .warm⟩
def PRT_SEQSHARE_SQ2 (p : Nat) : Fld := ⟨0x300004 + p * 0x100, 16, 8, if p = 0 then 100 else 0, .rw, .warm⟩
def PRT_SEQSHARE_SQ3 (p : Nat) : Fld := ⟨0x300004 + p * 0x100, 24, 8, if p = 0 then 100 else 0, .rw, .warm⟩
def PRT_FS_BASE_LO_ADDR (p : Nat) : Fld := ⟨0x300008 + p * 0x100, 12, 20, 0, .rw, .warm⟩
def PRT_FS_BASE_HI_ADDR (p : Nat) : Fld := ⟨0x30000C + p * 0x100, 0, 3, 0, .rw, .warm⟩
def PRT_FS_SIZE_PAGES (p : Nat) : Fld := ⟨0x300010 + p * 0x100, 0, 24, if p = 0 then 2097152 else 0, .rw, .warm⟩
def PRT_SSM_BASE (p : Nat) : Fld := ⟨0x300014 + p * 0x100, 0, 9, 0, .rw, .warm⟩
def PRT_SSM_SIZE (p : Nat) : Fld := ⟨0x300014 + p * 0x100, 16, 10, if p = 0 then 512 else 0, .rw, .warm⟩
def PRT_STAT_PRESENT (p : Nat) : Fld := ⟨0x300018 + p * 0x100, 0, 1, 0, .ro, .warm⟩
def PRT_STAT_RST_BUSY (p : Nat) : Fld := ⟨0x300018 + p * 0x100, 1, 1, 0, .ro, .warm⟩
def PRT_STAT_PROGS (p : Nat) : Fld := ⟨0x300018 + p * 0x100, 2, 1, 0, .ro, .warm⟩
def PRT_STAT_RINGS (p : Nat) : Fld := ⟨0x300018 + p * 0x100, 3, 1, 0, .ro, .warm⟩
def PRT_PRESET_PART : Fld := ⟨0x33F000, 0, 3, 0, .wo, .warm⟩
def PRT_CFG_CFGERR : Fld := ⟨0x33F004, 0, 1, 0, .w1c, .warm⟩
def PRT_RESET_CNT_COUNT : Fld := ⟨0x33F008, 0, 16, 0, .rc, .warm⟩
def MOV_CTL_RESTART : Fld := ⟨0x180000, 0, 1, 0, .wo, .warm⟩
def MOV_STAT_HALTED : Fld := ⟨0x180004, 0, 1, 0, .ro, .warm⟩
def MOV_STAT_BUSERR : Fld := ⟨0x180004, 1, 1, 0, .w1c, .warm⟩
def MOV_BUSERR_ADDR_LO_ADDR : Fld := ⟨0x180008, 0, 32, 0, .ro, .warm⟩
def MOV_BUSERR_ADDR_HI_ADDR : Fld := ⟨0x18000C, 0, 32, 0, .ro, .warm⟩
def MOV_BUSERR_CNT_COUNT : Fld := ⟨0x180010, 0, 16, 0, .rc, .warm⟩
def MOV_CH_OWNER_PART (c : Nat) : Fld := ⟨0x181000 + c * 0x40, 0, 3, 0, .rw, .warm⟩
def MOV_CH_OWNER_VALID (c : Nat) : Fld := ⟨0x181000 + c * 0x40, 7, 1, 0, .rw, .warm⟩
def MOV_CH_STAT_STATE (c : Nat) : Fld := ⟨0x181004 + c * 0x40, 0, 2, 0, .ro, .partition⟩
def MOV_CH_STAT_STATUS (c : Nat) : Fld := ⟨0x181004 + c * 0x40, 8, 8, 0, .ro, .partition⟩
def MOV_CH_STAT_INDEX (c : Nat) : Fld := ⟨0x181004 + c * 0x40, 16, 16, 0, .ro, .partition⟩
def MOV_CH_BYTES_COUNT (c : Nat) : Fld := ⟨0x181008 + c * 0x40, 0, 32, 0, .rc, .partition⟩
def POOL_CTL_INIT : Fld := ⟨0x1A0000, 0, 1, 0, .wo, .warm⟩
def POOL_STAT_BUSY : Fld := ⟨0x1A0004, 0, 1, 0, .ro, .warm⟩
def POOL_STAT_BROKEN_E : Fld := ⟨0x1A0004, 1, 1, 0, .ro, .warm⟩
def POOL_STAT_BROKEN_G : Fld := ⟨0x1A0004, 2, 1, 0, .ro, .warm⟩
def POOL_STAT_CFGERR : Fld := ⟨0x1A0004, 3, 1, 0, .w1c, .warm⟩
def POOL_BASE_LO_ADDR : Fld := ⟨0x1A0008, 16, 16, 0, .rw, .warm⟩
def POOL_BASE_HI_ADDR : Fld := ⟨0x1A000C, 0, 3, 0, .rw, .warm⟩
def POOL_COUNT_N : Fld := ⟨0x1A0010, 0, 19, 0, .rw, .warm⟩
def POOL_NESS_N : Fld := ⟨0x1A0014, 0, 19, 0, .rw, .warm⟩
def POOL_FREE_E_COUNT : Fld := ⟨0x1A0018, 0, 19, 0, .ro, .warm⟩
def POOL_FREE_G_COUNT : Fld := ⟨0x1A001C, 0, 19, 0, .ro, .warm⟩
def POOL_LOWAT_E_LEVEL : Fld := ⟨0x1A0020, 0, 19, 0, .rw, .warm⟩
def POOL_LOWAT_G_LEVEL : Fld := ⟨0x1A0024, 0, 19, 0, .rw, .warm⟩
def POOL_FAULT_INFO_BUF : Fld := ⟨0x1A0028, 0, 18, 0, .ro, .warm⟩
def POOL_FAULT_INFO_KIND : Fld := ⟨0x1A0028, 20, 3, 0, .ro, .warm⟩
def POOL_FAULT_CNT_COUNT : Fld := ⟨0x1A002C, 0, 16, 0, .rc, .warm⟩
def POOL_MIN_E_COUNT : Fld := ⟨0x1A0030, 0, 19, 0, .rc, .warm⟩
def POOL_REF_SEL_BUF : Fld := ⟨0x1A0040, 0, 18, 0, .rw, .warm⟩
def POOL_REF_VIEW_COUNT : Fld := ⟨0x1A0044, 0, 8, 0, .ro, .warm⟩
def POOL_REF_VIEW_HOLD : Fld := ⟨0x1A0044, 8, 8, 0, .ro, .warm⟩
def DRC_CFG_CAP : Fld := ⟨0x1C0000, 0, 2, 0, .ro, .warm⟩
def DRC_CFG_MAP : Fld := ⟨0x1C0000, 2, 2, 0, .ro, .warm⟩
def DRC_STAT_TRAINED0 : Fld := ⟨0x1C0004, 0, 1, 0, .ro, .warm⟩
def DRC_STAT_TRAINED1 : Fld := ⟨0x1C0004, 1, 1, 0, .ro, .warm⟩
def DRC_STAT_SET : Fld := ⟨0x1C0004, 2, 1, 0, .ro, .warm⟩
def DRC_STAT_FCBUSY : Fld := ⟨0x1C0004, 3, 1, 0, .ro, .warm⟩
def DRC_STAT_CFGERR : Fld := ⟨0x1C0004, 4, 1, 0, .w1c, .warm⟩
def DRC_STAT_HOT : Fld := ⟨0x1C0004, 5, 1, 0, .w1c, .warm⟩
def DRC_FREQ_REQ_SET : Fld := ⟨0x1C0008, 0, 1, 0, .wo, .warm⟩
def DRC_FREQ_REQ_FORCE : Fld := ⟨0x1C0008, 1, 1, 0, .wo, .warm⟩
def DRC_FREQ_REQ_CANCEL : Fld := ⟨0x1C0008, 2, 1, 0, .wo, .warm⟩
def DRC_FREQ_STAT_STATE : Fld := ⟨0x1C000C, 0, 2, 0, .ro, .warm⟩
def DRC_FREQ_STAT_WAIT : Fld := ⟨0x1C000C, 4, 3, 0, .ro, .warm⟩
def DRC_FREQ_STAT_FAILED : Fld := ⟨0x1C000C, 7, 1, 0, .w1c, .warm⟩
def DRC_FREQ_STAT_LAST : Fld := ⟨0x1C000C, 8, 8, 0, .ro, .warm⟩
def DRC_FREQ_CNT_COUNT : Fld := ⟨0x1C0010, 0, 16, 0, .rc, .warm⟩
def DRC_TRAIN_REQ_SET : Fld := ⟨0x1C0014, 0, 1, 0, .wo, .warm⟩
def DRC_TSET_RATE_MTS (s : Nat) : Fld := ⟨0x1C0040 + s * 0x10, 0, 14, 0, .rw, .warm⟩
def DRC_TSET_A_RCD (s : Nat) : Fld := ⟨0x1C0044 + s * 0x10, 0, 8, 0, .rw, .warm⟩
def DRC_TSET_A_RP (s : Nat) : Fld := ⟨0x1C0044 + s * 0x10, 8, 8, 0, .rw, .warm⟩
def DRC_TSET_A_RAS (s : Nat) : Fld := ⟨0x1C0044 + s * 0x10, 16, 8, 0, .rw, .warm⟩
def DRC_TSET_B_WR (s : Nat) : Fld := ⟨0x1C0048 + s * 0x10, 0, 8, 0, .rw, .warm⟩
def DRC_TSET_B_RFCPB (s : Nat) : Fld := ⟨0x1C0048 + s * 0x10, 8, 12, 0, .rw, .warm⟩
def DRC_TSET_C_REFI (s : Nat) : Fld := ⟨0x1C004C + s * 0x10, 0, 16, 0, .rw, .warm⟩
def DRC_REF_POSTMAX : Fld := ⟨0x1C0080, 0, 4, 8, .rw, .warm⟩
def DRC_REF_CNT_FORCED : Fld := ⟨0x1C0084, 0, 16, 0, .rc, .warm⟩
def DRC_MR4_RATE : Fld := ⟨0x1C0088, 0, 3, 0, .ro, .warm⟩
def DRC_ECC_CE : Fld := ⟨0x1C0090, 0, 16, 0, .rc, .warm⟩
def DRC_ECC_UE : Fld := ⟨0x1C0090, 16, 16, 0, .rc, .warm⟩
def DRC_UE_ADDR_LO_ADDR : Fld := ⟨0x1C0094, 0, 32, 0, .ro, .warm⟩
def DRC_UE_ADDR_HI_ADDR : Fld := ⟨0x1C0098, 0, 3, 0, .ro, .warm⟩
def DRC_PORT_TGT_NS (p : Nat) : Fld := ⟨0x1C0100 + p * 0x4, 0, 16, drcTargetReset p, .rw, .warm⟩
def DRC_PORT_STAT_MAXLAT (p : Nat) : Fld := ⟨0x1C0200 + p * 0x4, 0, 16, 0, .rc, .warm⟩
def DRC_PORT_STAT_MISS (p : Nat) : Fld := ⟨0x1C0200 + p * 0x4, 16, 16, 0, .rc, .warm⟩
def MAG_CTL_EN (n : Nat) : Fld := ⟨0x200000 + n * 0x10000, 0, 1, 0, .rw, .warm⟩
def MAG_CTL_DROP (n : Nat) : Fld := ⟨0x200000 + n * 0x10000, 1, 1, 0, .wo, .warm⟩
def MAG_STAT_STATE (n : Nat) : Fld := ⟨0x200004 + n * 0x10000, 0, 3, 0, .ro, .warm⟩
def MAG_STAT_LOWSPACE (n : Nat) : Fld := ⟨0x200004 + n * 0x10000, 4, 1, 0, .ro, .warm⟩
def MAG_STAT_FUAALL (n : Nat) : Fld := ⟨0x200004 + n * 0x10000, 5, 1, 0, .ro, .warm⟩
def MAG_STAT_VWC (n : Nat) : Fld := ⟨0x200004 + n * 0x10000, 6, 1, 0, .ro, .warm⟩
def MAG_STAT_CFGERR (n : Nat) : Fld := ⟨0x200004 + n * 0x10000, 8, 1, 0, .w1c, .warm⟩
def MAG_CFG_HOLD (n : Nat) : Fld := ⟨0x200008 + n * 0x10000, 0, 10, 50, .rw, .warm⟩
def MAG_CFG_CMDTO (n : Nat) : Fld := ⟨0x200008 + n * 0x10000, 16, 8, 100, .rw, .warm⟩
def MAG_CFG_RETRY (n : Nat) : Fld := ⟨0x200008 + n * 0x10000, 24, 3, 2, .rw, .warm⟩
def MAG_CFG_VWC (n : Nat) : Fld := ⟨0x200008 + n * 0x10000, 27, 1, 1, .rw, .warm⟩
def MAG_CFG2_LOWAU (n : Nat) : Fld := ⟨0x20000C + n * 0x10000, 0, 18, 16, .rw, .warm⟩
def MAG_STRICT_MBPS (n : Nat) : Fld := ⟨0x200010 + n * 0x10000, 0, 16, 700, .rw, .warm⟩
def MAG_HOLDUP_LIMIT (n : Nat) : Fld := ⟨0x200014 + n * 0x10000, 0, 24, 0, .ro, .warm⟩
def MAG_FUAMIN_BLOCKS (n : Nat) : Fld := ⟨0x200018 + n * 0x10000, 0, 16, 256, .rw, .warm⟩
def MAG_CACHED_BLOCKS (n : Nat) : Fld := ⟨0x20001C + n * 0x10000, 0, 24, 0, .ro, .warm⟩
def MAG_OUT_COUNT (n : Nat) : Fld := ⟨0x200020 + n * 0x10000, 0, 10, 0, .ro, .warm⟩
def MAG_IOCNT_FLUSH (n : Nat) : Fld := ⟨0x200024 + n * 0x10000, 0, 16, 0, .rc, .warm⟩
def MAG_IOCNT_FUA (n : Nat) : Fld := ⟨0x200024 + n * 0x10000, 16, 16, 0, .rc, .warm⟩
def MAG_LOSS_CNT_LOSS (n : Nat) : Fld := ⟨0x200028 + n * 0x10000, 0, 16, 0, .rc, .warm⟩
def MAG_LOSS_CNT_REISSUE (n : Nat) : Fld := ⟨0x200028 + n * 0x10000, 16, 16, 0, .rc, .warm⟩
def MAG_REHOME_CNT_FRAMES (n : Nat) : Fld := ⟨0x20002C + n * 0x10000, 0, 16, 0, .rc, .warm⟩
def MAG_ERR_SC (n : Nat) : Fld := ⟨0x200030 + n * 0x10000, 0, 8, 0, .ro, .warm⟩
def MAG_ERR_SCT (n : Nat) : Fld := ⟨0x200030 + n * 0x10000, 8, 3, 0, .ro, .warm⟩
def MAG_ERR_OPC (n : Nat) : Fld := ⟨0x200030 + n * 0x10000, 16, 8, 0, .ro, .warm⟩
def MAG_SPACE_FREE (n : Nat) : Fld := ⟨0x200034 + n * 0x10000, 0, 18, 0, .ro, .warm⟩
def MAG_QMAP_NPAIRS (n : Nat) : Fld := ⟨0x200038 + n * 0x10000, 0, 4, 0, .ro, .warm⟩
def MAG_Q_CFG_WEIGHT (n q : Nat) : Fld := ⟨0x200100 + n * 0x10000 + q * 0x20, 0, 8, 1, .rw, .warm⟩
def MAG_Q_CFG_MAXOUT (n q : Nat) : Fld := ⟨0x200100 + n * 0x10000 + q * 0x20, 8, 8, 128, .rw, .warm⟩
def MAG_Q_SHAPE_RATE (n q : Nat) : Fld := ⟨0x200104 + n * 0x10000 + q * 0x20, 0, 16, magRateReset q, .rw, .warm⟩
def MAG_Q_SHAPE_FILL (n q : Nat) : Fld := ⟨0x200104 + n * 0x10000 + q * 0x20, 31, 1, 0, .wo, .warm⟩
def MAG_Q_BURST_KIB (n q : Nat) : Fld := ⟨0x200108 + n * 0x10000 + q * 0x20, 0, 24, 16384, .rw, .warm⟩
def MAG_Q_CREDIT_KIB (n q : Nat) : Fld := ⟨0x20010C + n * 0x10000 + q * 0x20, 0, 32, 0, .ro, .warm⟩
def MAG_Q_HWM_DEPTH (n q : Nat) : Fld := ⟨0x200110 + n * 0x10000 + q * 0x20, 0, 10, 0, .rc, .warm⟩
def MAG_Q_LATHWM_US (n q : Nat) : Fld := ⟨0x200114 + n * 0x10000 + q * 0x20, 0, 32, 0, .rc, .warm⟩
def SBD_CTL_PWR (n : Nat) : Fld := ⟨0x280000 + n * 0x1000, 0, 1, 0, .rw, .warm⟩
def SBD_CTL_AUTO (n : Nat) : Fld := ⟨0x280000 + n * 0x1000, 1, 1, 1, .rw, .warm⟩
def SBD_CTL_LIFEOVR (n : Nat) : Fld := ⟨0x280000 + n * 0x1000, 2, 1, 0, .rw, .warm⟩
def SBD_STAT_PRSNT (n : Nat) : Fld := ⟨0x280004 + n * 0x1000, 0, 1, 0, .ro, .warm⟩
def SBD_STAT_PWREN (n : Nat) : Fld := ⟨0x280004 + n * 0x1000, 1, 1, 0, .ro, .warm⟩
def SBD_STAT_IDVALID (n : Nat) : Fld := ⟨0x280004 + n * 0x1000, 2, 1, 0, .ro, .warm⟩
def SBD_STAT_LIFELOW (n : Nat) : Fld := ⟨0x280004 + n * 0x1000, 3, 1, 0, .ro, .warm⟩
def SBD_STAT_IDMISMATCH (n : Nat) : Fld := ⟨0x280004 + n * 0x1000, 4, 1, 0, .w1c, .warm⟩
def SBD_STAT_JRNERR (n : Nat) : Fld := ⟨0x280004 + n * 0x1000, 5, 1, 0, .w1c, .warm⟩
def SBD_STAT_CFGERR (n : Nat) : Fld := ⟨0x280004 + n * 0x1000, 6, 1, 0, .w1c, .warm⟩
def SBD_PRSNT_CNT_COUNT (n : Nat) : Fld := ⟨0x280008 + n * 0x1000, 0, 16, 0, .rc, .warm⟩
def SBD_LIFE_REMAIN (n : Nat) : Fld := ⟨0x28000C + n * 0x1000, 0, 10, 0, .ro, .warm⟩
def SBD_LIFE_PU (n : Nat) : Fld := ⟨0x28000C + n * 0x1000, 16, 12, 0, .ro, .warm⟩
def SBD_GAUGE_STAT_STATE (n : Nat) : Fld := ⟨0x280010 + n * 0x1000, 0, 2, 0, .ro, .warm⟩
def SBD_GAUGE_STAT_DISAGREE (n : Nat) : Fld := ⟨0x280010 + n * 0x1000, 2, 1, 0, .w1c, .warm⟩
def SBD_GAUGE_STAT_REST (n : Nat) : Fld := ⟨0x280010 + n * 0x1000, 4, 11, 0, .ro, .warm⟩
def SBD_GAUGE_V_MV (n : Nat) : Fld := ⟨0x280014 + n * 0x1000, 0, 16, 0, .ro, .warm⟩
def SBD_GAUGE_V_MA (n : Nat) : Fld := ⟨0x280014 + n * 0x1000, 16, 16, 0, .ro, .warm⟩
def SBD_GAUGE_Q_UC (n : Nat) : Fld := ⟨0x280018 + n * 0x1000, 0, 32, 0, .ro, .warm⟩
def SBD_GAUGE_EQ_UJ (n : Nat) : Fld := ⟨0x28001C + n * 0x1000, 0, 32, 0, .ro, .warm⟩
def SBD_GAUGE_EV_UJ (n : Nat) : Fld := ⟨0x280020 + n * 0x1000, 0, 32, 0, .ro, .warm⟩
def SBD_GAUGE_E_UJ (n : Nat) : Fld := ⟨0x280024 + n * 0x1000, 0, 32, 0, .ro, .warm⟩
def SBD_LBL_SRC_LO_ADDR (n : Nat) : Fld := ⟨0x280030 + n * 0x1000, 0, 32, 0, .rw, .warm⟩
def SBD_LBL_SRC_HI_ADDR (n : Nat) : Fld := ⟨0x280034 + n * 0x1000, 0, 3, 0, .rw, .warm⟩
def SBD_LBL_CTL_GO (n : Nat) : Fld := ⟨0x280038 + n * 0x1000, 0, 1, 0, .wo, .warm⟩
def SBD_LBL_STAT_STATE (n : Nat) : Fld := ⟨0x28003C + n * 0x1000, 0, 2, 0, .ro, .warm⟩
def SBD_LBL_STAT_PEND (n : Nat) : Fld := ⟨0x28003C + n * 0x1000, 2, 1, 0, .ro, .warm⟩
def SBD_LBL_STAT_RECOVERED (n : Nat) : Fld := ⟨0x28003C + n * 0x1000, 3, 1, 0, .w1c, .warm⟩
def SBD_LBL_STAT_LAST (n : Nat) : Fld := ⟨0x28003C + n * 0x1000, 4, 4, 0, .ro, .warm⟩
def SBD_LBL_SEQ_SEQ (n : Nat) : Fld := ⟨0x280040 + n * 0x1000, 0, 32, 0, .ro, .warm⟩
def SBD_IDCACHE_BYTES (n w : Nat) : Fld := ⟨0x280400 + n * 0x1000 + w * 0x4, 0, 32, 0, .ro, .warm⟩
def FLT_STAT (s : Nat) : Fld := ⟨0x60000 + 4 * (s / 32), s % 32, 1, 0, .w1c, .warm⟩
def FLT_FORCE (s : Nat) : Fld := ⟨0x60020 + 4 * (s / 32), s % 32, 1, 0, .w1s, .warm⟩
def FLT_MASK (s : Nat) : Fld := ⟨0x60040 + 4 * (s / 32), s % 32, 1, fltMaskReset s, .rw, .warm⟩
def FLT_CLASS (s : Nat) : Fld := ⟨0x60060 + 4 * (s / 16), 2 * (s % 16), 2, fltClassCode s, .ro, .cold⟩
def FLT_CNT_CORR : Fld := ⟨0x600A0, 0, 8, 0, .rc, .warm⟩
def FLT_CNT_PART : Fld := ⟨0x600A0, 8, 8, 0, .rc, .warm⟩
def FLT_CNT_DEV : Fld := ⟨0x600A0, 16, 8, 0, .rc, .warm⟩
def FLT_CNT_FATAL : Fld := ⟨0x600A0, 24, 8, 0, .rc, .warm⟩
def FLT_FIRST_SRC : Fld := ⟨0x600A4, 0, 8, 0, .ro, .warm⟩
def FLT_FIRST_CLASS : Fld := ⟨0x600A4, 8, 2, 0, .ro, .warm⟩
def FLT_FIRST_VALID : Fld := ⟨0x600A4, 31, 1, 0, .w1c, .warm⟩
def FLT_FIRST_TICK_LO_NO : Fld := ⟨0x600A8, 0, 32, 0, .ro, .warm⟩
def FLT_FIRST_TICK_HI_NO : Fld := ⟨0x600AC, 0, 32, 0, .ro, .warm⟩
def FLT_CTL_STAT_CFGERR : Fld := ⟨0x600B0, 0, 1, 0, .w1c, .warm⟩
def FLT_BLY_STAT_ACTIVE : Fld := ⟨0x60100, 0, 1, 0, .ro, .warm⟩
def FLT_BLY_STAT_B0 : Fld := ⟨0x60100, 1, 3, 0, .ro, .warm⟩
def FLT_BLY_STAT_B1 : Fld := ⟨0x60100, 4, 3, 1, .ro, .warm⟩
def FLT_BLY_STAT_HEALTHY : Fld := ⟨0x60100, 8, 1, 0, .ro, .warm⟩
def FLT_BLY_CTL_SWITCH : Fld := ⟨0x60104, 0, 1, 0, .wo, .warm⟩
def FLT_BLY_CTL_TEST : Fld := ⟨0x60104, 1, 1, 0, .wo, .warm⟩
def FLT_BLY_CTL_RESET : Fld := ⟨0x60104, 2, 1, 0, .wo, .warm⟩
def FLT_BLY_CNT_TAKEOVER : Fld := ⟨0x60108, 0, 16, 0, .rc, .warm⟩
def FLT_BLY_CNT_SWITCH : Fld := ⟨0x60108, 16, 16, 0, .rc, .warm⟩
def FLT_BLY_LAST_US : Fld := ⟨0x6010C, 0, 16, 0, .ro, .warm⟩
def FLT_BLY_TEST_RESULT : Fld := ⟨0x60110, 0, 2, 0, .ro, .warm⟩
def FLT_ANC_STAT_STATE : Fld := ⟨0x60200, 0, 2, 0, .ro, .cold⟩
def FLT_ANC_STAT_CAUSE : Fld := ⟨0x60200, 2, 2, 0, .ro, .cold⟩
def FLT_ANC_STAT_WHIPPED : Fld := ⟨0x60200, 8, 4, 0, .ro, .cold⟩
def FLT_ANC_STAT_SKIPPED : Fld := ⟨0x60200, 12, 4, 0, .ro, .cold⟩
def FLT_ANC_STAT_CLIPS : Fld := ⟨0x60200, 16, 8, 0, .ro, .cold⟩
def FLT_ANC_TICK_LO_NO : Fld := ⟨0x60204, 0, 32, 0, .ro, .cold⟩
def FLT_ANC_TICK_HI_NO : Fld := ⟨0x60208, 0, 32, 0, .ro, .cold⟩
def FLT_ANC_TIME_US : Fld := ⟨0x6020C, 0, 32, 0, .ro, .cold⟩
def FLT_PIN_LANYARD : Fld := ⟨0x60300, 0, 1, 0, .ro, .warm⟩
def FLT_PIN_FAULT : Fld := ⟨0x60300, 1, 1, 0, .ro, .warm⟩
def INJ_ARM_KEY : Fld := ⟨0x340000, 0, 32, 0, .wo, .warm⟩
def INJ_STAT_ARMED : Fld := ⟨0x340004, 0, 1, 0, .ro, .warm⟩
def INJ_STAT_CFGERR : Fld := ⟨0x340004, 1, 1, 0, .w1c, .warm⟩
def INJ_CTL_EN (i : Nat) : Fld := ⟨0x341000 + i * 0x20, 0, 1, 0, .rw, .warm⟩
def INJ_CTL_ACT (i : Nat) : Fld := ⟨0x341000 + i * 0x20, 1, 2, 0, .rw, .warm⟩
def INJ_INTERVAL_UNITS (i : Nat) : Fld := ⟨0x341004 + i * 0x20, 0, 32, 1, .rw, .warm⟩
def INJ_COUNT_N (i : Nat) : Fld := ⟨0x341008 + i * 0x20, 0, 32, 1, .rw, .warm⟩
def INJ_BIT_BIT (i : Nat) : Fld := ⟨0x34100C + i * 0x20, 0, 16, 0, .rw, .warm⟩
def INJ_SEED_SEED (i : Nat) : Fld := ⟨0x341010 + i * 0x20, 0, 32, 0, .rw, .warm⟩
def INJ_DONE_COUNT (i : Nat) : Fld := ⟨0x341014 + i * 0x20, 0, 32, 0, .rc, .warm⟩
def AON_RSTCAUSE_CAUSE : Fld := ⟨0x10000, 0, 3, 0, .ro, .cold⟩
def AON_RSTCAUSE_WAKESRC : Fld := ⟨0x10000, 4, 2, 0, .ro, .cold⟩
def AON_BOOT_CNT_COUNT : Fld := ⟨0x10004, 0, 2, 0, .ro, .cold⟩
def AON_BOOT_STAT_A0 : Fld := ⟨0x10008, 0, 4, 0, .ro, .cold⟩
def AON_BOOT_STAT_A1 : Fld := ⟨0x10008, 4, 4, 0, .ro, .cold⟩
def AON_BOOT_STAT_A2 : Fld := ⟨0x10008, 8, 4, 0, .ro, .cold⟩
def AON_BOOT_STAT_BARE : Fld := ⟨0x10008, 12, 1, 0, .ro, .cold⟩
def AON_BOOT_STAT_SRC : Fld := ⟨0x10008, 13, 2, 0, .ro, .cold⟩
def AON_BOOT_CTL_SRC : Fld := ⟨0x1000C, 0, 2, 0, .rw, .cold⟩
def AON_BOOT_CTL_OVR : Fld := ⟨0x1000C, 2, 1, 0, .rw, .cold⟩
def AON_BOOT_CTL_RETRY : Fld := ⟨0x1000C, 4, 1, 0, .wo, .warm⟩
def AON_BOOT_CTL_GO : Fld := ⟨0x1000C, 8, 1, 0, .wo, .warm⟩
def AON_BOOT_LEN_BYTES : Fld := ⟨0x10010, 0, 21, 0, .rw, .warm⟩
def AON_BOOT_DATA_WORD : Fld := ⟨0x10014, 0, 32, 0, .wo, .warm⟩
def AON_WAKE_CTL_WAKEN : Fld := ⟨0x10018, 0, 1, 1, .rw, .cold⟩
def AON_WAKE_CTL_PERST : Fld := ⟨0x10018, 1, 1, 1, .rw, .cold⟩
def AON_WAKE_CTL_TMR : Fld := ⟨0x10018, 2, 1, 0, .rw, .cold⟩
def AON_WAKE_TMR_SEC : Fld := ⟨0x1001C, 0, 24, 0, .rw, .cold⟩
def AON_RST_CTL_KEY : Fld := ⟨0x10020, 0, 32, 0, .wo, .warm⟩
def AON_REG_STAT_LP : Fld := ⟨0x10024, 0, 1, 0, .ro, .cold⟩
def AON_REG_STAT_LOAD : Fld := ⟨0x10024, 4, 8, 0, .ro, .cold⟩
def AON_FUSE_SVNMIN : Fld := ⟨0x10028, 0, 16, Config.fuseSvnMin % 65536, .ro, .cold⟩
def AON_FUSE_REVOKE : Fld := ⟨0x10028, 16, 4, Config.fuseRevoke % 16, .ro, .cold⟩
def CLK_LP_CTL_HOLDOFF : Fld := ⟨0x20000, 0, 16, 50, .rw, .warm⟩
def CLK_LP_STAT_GATED : Fld := ⟨0x20004, 0, 32, 0, .ro, .warm⟩
def CLK_LP_REFUSE_CNT_COUNT : Fld := ⟨0x20008, 0, 16, 0, .rc, .warm⟩
def CLK_LP_LAST_BLOCK : Fld := ⟨0x2000C, 0, 5, 0, .ro, .warm⟩
def CLK_LP_LAST_KIND : Fld := ⟨0x2000C, 8, 1, 0, .ro, .warm⟩
def CLK_LP_LAST_DORM : Fld := ⟨0x2000C, 9, 1, 0, .ro, .warm⟩
def CLK_TEMP_DEGC : Fld := ⟨0x20010, 0, 11, 0, .ro, .warm⟩
def PIN_GL_CFG_FUNC (n : Nat) : Fld := ⟨0x80000 + n * 0x10, 0, 3, 0, .rw, .warm⟩
def PIN_GL_CFG_PULL (n : Nat) : Fld := ⟨0x80000 + n * 0x10, 4, 2, 1, .rw, .warm⟩
def PIN_GL_CFG_DRIVE (n : Nat) : Fld := ⟨0x80000 + n * 0x10, 6, 2, 0, .rw, .warm⟩
def PIN_GL_CFG_SLEW (n : Nat) : Fld := ⟨0x80000 + n * 0x10, 8, 1, 0, .rw, .warm⟩
def PIN_GL_STAGE_FUNC (n : Nat) : Fld := ⟨0x80004 + n * 0x10, 0, 3, 0, .rw, .warm⟩
def PIN_GL_STAGE_PULL (n : Nat) : Fld := ⟨0x80004 + n * 0x10, 4, 2, 0, .rw, .warm⟩
def PIN_GL_STAGE_DRIVE (n : Nat) : Fld := ⟨0x80004 + n * 0x10, 6, 2, 0, .rw, .warm⟩
def PIN_GL_STAGE_SLEW (n : Nat) : Fld := ⟨0x80004 + n * 0x10, 8, 1, 0, .rw, .warm⟩
def PIN_GL_STAGE_PEND (n : Nat) : Fld := ⟨0x80004 + n * 0x10, 31, 1, 0, .ro, .warm⟩
def PIN_GL_OWNER_PART (n : Nat) : Fld := ⟨0x80008 + n * 0x10, 0, 3, 0, .rw, .warm⟩
def PIN_GL_OWNER_VALID (n : Nat) : Fld := ⟨0x80008 + n * 0x10, 7, 1, 0, .rw, .warm⟩
def PIN_GL_FARG_ARG (n : Nat) : Fld := ⟨0x8000C + n * 0x10, 0, 32, 0, .rw, .warm⟩
def PIN_GPIO_OUT_LO_BITS : Fld := ⟨0x80400, 0, 32, 0, .rw, .warm⟩
def PIN_GPIO_OUT_HI_BITS : Fld := ⟨0x80404, 0, 16, 0, .rw, .warm⟩
def PIN_GPIO_OE_LO_BITS : Fld := ⟨0x80408, 0, 32, 0, .rw, .warm⟩
def PIN_GPIO_OE_HI_BITS : Fld := ⟨0x8040C, 0, 16, 0, .rw, .warm⟩
def PIN_GPIO_IN_LO_BITS : Fld := ⟨0x80410, 0, 32, 0, .ro, .warm⟩
def PIN_GPIO_IN_HI_BITS : Fld := ⟨0x80414, 0, 16, 0, .ro, .warm⟩
def PIN_STAT_CFGERR : Fld := ⟨0x80420, 0, 1, 0, .w1c, .warm⟩
def PIN_SWITCH_CNT_COUNT : Fld := ⟨0x80424, 0, 16, 0, .rc, .warm⟩
def PIN_LTC_RX_LO_DATA : Fld := ⟨0x80440, 0, 32, 0, .ro, .warm⟩
def PIN_LTC_RX_HI_DATA : Fld := ⟨0x80444, 0, 32, 0, .ro, .warm⟩
def PIN_LTC_STAT_LOCK : Fld := ⟨0x80448, 0, 1, 0, .ro, .warm⟩
def PIN_LTC_STAT_ERR : Fld := ⟨0x80448, 8, 8, 0, .rc, .warm⟩
def PIN_LTC_CTL_AUTO : Fld := ⟨0x8044C, 0, 1, 0, .rw, .warm⟩
def PIN_LTC_TX_LO_DATA : Fld := ⟨0x80450, 0, 32, 0, .rw, .warm⟩
def PIN_LTC_TX_HI_DATA : Fld := ⟨0x80454, 0, 32, 0, .rw, .warm⟩
def PIN_UART_CTL_DIV (u : Nat) : Fld := ⟨0x80500 + u * 0x10, 0, 16, 868, .rw, .warm⟩
def PIN_UART_CTL_EN (u : Nat) : Fld := ⟨0x80500 + u * 0x10, 16, 1, 0, .rw, .warm⟩
def PIN_UART_DATA_BYTE (u : Nat) : Fld := ⟨0x80504 + u * 0x10, 0, 8, 0, .rw, .warm⟩
def PIN_UART_DATA_VALID (u : Nat) : Fld := ⟨0x80504 + u * 0x10, 8, 1, 0, .rw, .warm⟩
def PIN_UART_STAT_TXLVL (u : Nat) : Fld := ⟨0x80508 + u * 0x10, 0, 7, 0, .ro, .warm⟩
def PIN_UART_STAT_RXLVL (u : Nat) : Fld := ⟨0x80508 + u * 0x10, 8, 7, 0, .ro, .warm⟩
def PIN_UART_STAT_OVF (u : Nat) : Fld := ⟨0x80508 + u * 0x10, 16, 8, 0, .rc, .warm⟩
def PIN_I2C_CMD_ADDR (b : Nat) : Fld := ⟨0x80600 + b * 0x10, 0, 7, 0, .wo, .warm⟩
def PIN_I2C_CMD_READ (b : Nat) : Fld := ⟨0x80600 + b * 0x10, 7, 1, 0, .wo, .warm⟩
def PIN_I2C_CMD_LEN (b : Nat) : Fld := ⟨0x80600 + b * 0x10, 8, 5, 0, .wo, .warm⟩
def PIN_I2C_CMD_SPEED (b : Nat) : Fld := ⟨0x80600 + b * 0x10, 16, 2, 0, .wo, .warm⟩
def PIN_I2C_DATA_BYTE (b : Nat) : Fld := ⟨0x80604 + b * 0x10, 0, 8, 0, .rw, .warm⟩
def PIN_I2C_STAT_BUSY (b : Nat) : Fld := ⟨0x80608 + b * 0x10, 0, 1, 0, .ro, .warm⟩
def PIN_I2C_STAT_NAK (b : Nat) : Fld := ⟨0x80608 + b * 0x10, 1, 1, 0, .w1c, .warm⟩
def PIN_I2C_STAT_DONE (b : Nat) : Fld := ⟨0x80608 + b * 0x10, 2, 1, 0, .w1c, .warm⟩

end R

/-- A family of registers at base + i × s1 + j × s2 (i < n1, j < n2), with the fields of each. -/
structure RegRow where
  base : Nat
  n1   : Nat
  s1   : Nat
  n2   : Nat
  s2   : Nat
  flds : Nat → Nat → List Fld

open R in
/-- Rows of the register map, part 0. -/
def regRows0 : List RegRow :=
  [ ⟨0x0, 1, 0x4, 1, 0x4, fun _ _ => [GLB_ID_PART, GLB_ID_MINOR, GLB_ID_MAJOR]⟩
  , ⟨0x4, 1, 0x4, 1, 0x4, fun _ _ => [GLB_VENDOR_VID]⟩
  , ⟨0x8, 1, 0x4, 1, 0x4, fun _ _ => [GLB_ACCERR_SIZE, GLB_ACCERR_UNMAPPED]⟩
  , ⟨0xC, 1, 0x4, 1, 0x4, fun _ _ => [GLB_ACCERR_CNT_COUNT]⟩
  , ⟨0x10, 1, 0x4, 1, 0x4, fun _ _ => [GLB_ACCERR_ADDR_OFFSET]⟩
  , ⟨0xC0000, 1, 0x4, 1, 0x4, fun _ _ => [TICK_CTL_SRC, TICK_CTL_POL, TICK_CTL_LOAD]⟩
  , ⟨0xC0004, 1, 0x4, 1, 0x4, fun _ _ => [TICK_RATE_NUM_NUM]⟩
  , ⟨0xC0008, 1, 0x4, 1, 0x4, fun _ _ => [TICK_RATE_DEN_DEN]⟩
  , ⟨0xC000C, 1, 0x4, 1, 0x4, fun _ _ => [TICK_GL_DIV]⟩
  , ⟨0xC0010, 1, 0x4, 1, 0x4, fun _ _ => [TICK_GL_PHASE_OFFSET]⟩
  , ⟨0xC0014, 1, 0x4, 1, 0x4, fun _ _ => [TICK_STAT_ACTIVE, TICK_STAT_LOCKED, TICK_STAT_HOLDOVER, TICK_STAT_BADCFG, TICK_STAT_REFUSED]⟩
  , ⟨0xC0018, 1, 0x4, 1, 0x4, fun _ _ => [TICK_EARLY_CNT_COUNT]⟩
  , ⟨0xC001C, 1, 0x4, 1, 0x4, fun _ _ => [TICK_MISS_CNT_COUNT]⟩
  , ⟨0xC0020, 1, 0x4, 1, 0x4, fun _ _ => [TICK_NO_LO_NO]⟩
  , ⟨0xC0024, 1, 0x4, 1, 0x4, fun _ _ => [TICK_NO_HI_NO]⟩
  , ⟨0xC0028, 1, 0x4, 1, 0x4, fun _ _ => [TICK_NO_SET_LO_NO]⟩
  , ⟨0xC002C, 1, 0x4, 1, 0x4, fun _ _ => [TICK_NO_SET_HI_NO]⟩
  , ⟨0xC0030, 1, 0x4, 1, 0x4, fun _ _ => [TICK_PHASE_ERR_ERR]⟩
  , ⟨0xC0040, 1, 0x4, 1, 0x4, fun _ _ => [TICK_OVR_CNT_COUNT]⟩
  , ⟨0xC0044, 1, 0x4, 1, 0x4, fun _ _ => [TICK_OVR_LAST_STAGE, TICK_OVR_LAST_LEVEL, TICK_OVR_LAST_PART]⟩
  , ⟨0xC0048, 1, 0x4, 1, 0x4, fun _ _ => [TICK_OVR_TICK_LO_NO]⟩
  , ⟨0xC004C, 1, 0x4, 1, 0x4, fun _ _ => [TICK_OVR_TICK_HI_NO]⟩
  , ⟨0xC0050, 1, 0x4, 1, 0x4, fun _ _ => [TICK_DROP_CNT_COUNT]⟩
  , ⟨0xC0100, 1, 0x4, 1, 0x4, fun _ _ => [TICK_ADM_LIMIT_STRAND, TICK_ADM_LIMIT_DRAM, TICK_ADM_LIMIT_SEQ]⟩
  , ⟨0xC0104, 1, 0x4, 1, 0x4, fun _ _ => [TICK_ADM_LAST_CODE, TICK_ADM_LAST_SCOPE, TICK_ADM_LAST_INDEX, TICK_ADM_LAST_PART]⟩
  , ⟨0xC0108, 1, 0x4, 1, 0x4, fun _ _ => [TICK_ADM_REFUSE_CNT_COUNT]⟩
  , ⟨0xC010C, 1, 0x4, 1, 0x4, fun _ _ => [TICK_ADM_STAT_OVERCOMMIT]⟩
  , ⟨0x100, 1, 0x4, 1, 0x4, fun _ _ => [GLB_MODE_REQ_MODE]⟩
  , ⟨0x104, 1, 0x4, 1, 0x4, fun _ _ => [GLB_MODE_CUR, GLB_MODE_STATE, GLB_MODE_TARGET, GLB_MODE_ANCHORED]⟩
  , ⟨0x108, 1, 0x4, 1, 0x4, fun _ _ => [GLB_MODE_LAST_REASON, GLB_MODE_LAST_FROM, GLB_MODE_LAST_TO]⟩
  , ⟨0x10C, 1, 0x4, 1, 0x4, fun _ _ => [GLB_MODE_TICK_LO_NO]⟩
  , ⟨0x110, 1, 0x4, 1, 0x4, fun _ _ => [GLB_MODE_TICK_HI_NO]⟩
  , ⟨0x114, 1, 0x4, 1, 0x4, fun _ _ => [GLB_MODE_REFUSE_CODE, GLB_MODE_REFUSE_MODE]⟩
  , ⟨0x118, 1, 0x4, 1, 0x4, fun _ _ => [GLB_MODE_REFUSE_CNT_COUNT]⟩
  , ⟨0xA0000, 1, 0x4, 1, 0x4, fun _ _ => [INT_CTL_DEPTH, INT_CTL_CFA, INT_CTL_DEF_EN]⟩
  , ⟨0xA0004, 1, 0x4, 1, 0x4, fun _ _ => [INT_GANG_MASK]⟩
  , ⟨0xA0008, 1, 0x4, 1, 0x4, fun _ _ => [INT_RASTER_WIDTH, INT_RASTER_HEIGHT]⟩
  , ⟨0xA000C, 1, 0x4, 1, 0x4, fun _ _ => [INT_SKEW_US]⟩
  , ⟨0xA0010, 1, 0x4, 1, 0x4, fun _ _ => [INT_STAT_BADMAP, INT_STAT_DEFORDER, INT_STAT_CFGLOCK]⟩
  , ⟨0xA0014, 1, 0x4, 1, 0x4, fun _ _ => [INT_FRAME_DMG_CNT_COUNT]⟩ ]

open R in
/-- Rows of the register map, part 1. -/
def regRows1 : List RegRow :=
  [ ⟨0xA0018, 1, 0x4, 1, 0x4, fun _ _ => [INT_EXTRA_CNT_COUNT]⟩
  , ⟨0xA001C, 1, 0x4, 1, 0x4, fun _ _ => [INT_ROW_STRIDE_BYTES]⟩
  , ⟨0xA0020, 4, 0x4, 1, 0x4, fun p _ => [INT_BLK_LEVEL p]⟩
  , ⟨0xA0030, 1, 0x4, 1, 0x4, fun _ _ => [INT_DEF_BASE_LO_ADDR]⟩
  , ⟨0xA0034, 1, 0x4, 1, 0x4, fun _ _ => [INT_DEF_BASE_HI_ADDR]⟩
  , ⟨0xA0038, 1, 0x4, 1, 0x4, fun _ _ => [INT_DEF_COUNT_COUNT]⟩
  , ⟨0xA003C, 1, 0x4, 1, 0x4, fun _ _ => [INT_DEF_UNRES_CNT_COUNT]⟩
  , ⟨0xA0040, 1, 0x4, 1, 0x4, fun _ _ => [INT_RING_BASE_LO_ADDR]⟩
  , ⟨0xA0044, 1, 0x4, 1, 0x4, fun _ _ => [INT_RING_BASE_HI_ADDR]⟩
  , ⟨0xA0048, 1, 0x4, 1, 0x4, fun _ _ => [INT_RING_CFG_SLOTS]⟩
  , ⟨0xA004C, 1, 0x4, 1, 0x4, fun _ _ => [INT_RING_STRIDE_UNITS]⟩
  , ⟨0xA0080, 8, 0x4, 1, 0x4, fun s _ => [INT_SLOT_STAT_OPEN s, INT_SLOT_STAT_HELD s, INT_SLOT_STAT_DAMAGED s, INT_SLOT_STAT_TRUNC s, INT_SLOT_STAT_LATE s, INT_SLOT_STAT_ABSENT s, INT_SLOT_STAT_REPL s]⟩
  , ⟨0xA1000, 12, 0x100, 1, 0x4, fun n _ => [INT_PORT_CFG_LANES n, INT_PORT_CFG_VC n, INT_PORT_CFG_RATE n]⟩
  , ⟨0xA1004, 12, 0x100, 1, 0x4, fun n _ => [INT_PORT_COL_START n, INT_PORT_COL_WIDTH n]⟩
  , ⟨0xA1008, 12, 0x100, 1, 0x4, fun n _ => [INT_PORT_ERR_HDR_CORR n, INT_PORT_ERR_HDR_UNC n, INT_PORT_ERR_CRC n, INT_PORT_ERR_LEN n]⟩
  , ⟨0xA100C, 12, 0x100, 1, 0x4, fun n _ => [INT_PORT_DISC_COUNT n]⟩
  , ⟨0xA1010, 12, 0x100, 1, 0x4, fun n _ => [INT_PORT_FIFO_LEVEL n]⟩
  , ⟨0xA1014, 12, 0x100, 1, 0x4, fun n _ => [INT_PORT_FIFO_STAT_FILL n, INT_PORT_FIFO_STAT_PEAK n, INT_PORT_FIFO_STAT_OVF n]⟩
  , ⟨0xA1018, 12, 0x100, 1, 0x4, fun n _ => [INT_PORT_ECC_CE n, INT_PORT_ECC_UE n]⟩
  , ⟨0xA2000, 3, 0x100, 1, 0x4, fun v _ => [INT_VIEW_CFG_EN v, INT_VIEW_CFG_LUTSEL v]⟩
  , ⟨0xA2004, 3, 0x100, 1, 0x4, fun v _ => [INT_VIEW_SIZE_W v, INT_VIEW_SIZE_H v]⟩
  , ⟨0xA2008, 3, 0x100, 1, 0x4, fun v _ => [INT_VIEW_BASE_LO_ADDR v]⟩
  , ⟨0xA200C, 3, 0x100, 1, 0x4, fun v _ => [INT_VIEW_BASE_HI_ADDR v]⟩
  , ⟨0xA2010, 3, 0x100, 9, 0x4, fun v k => [INT_VIEW_MAT_COEF v k]⟩
  , ⟨0xA2040, 3, 0x100, 1, 0x4, fun v _ => [INT_VIEW_LUT_IDX_IDX v, INT_VIEW_LUT_IDX_CH v]⟩
  , ⟨0xA2044, 3, 0x100, 1, 0x4, fun v _ => [INT_VIEW_LUT_DATA_VAL v]⟩
  , ⟨0xA2400, 2, 0x40, 1, 0x4, fun m _ => [INT_MO_CFG_EN m, INT_MO_CFG_SRC m, INT_MO_CFG_LOCK m, INT_MO_CFG_RATE m]⟩
  , ⟨0xA2404, 2, 0x40, 1, 0x4, fun m _ => [INT_MO_FPS_NUM m, INT_MO_FPS_DEN m]⟩
  , ⟨0xA2408, 2, 0x40, 1, 0x4, fun m _ => [INT_MO_BLANK_HB m, INT_MO_BLANK_VB m]⟩
  , ⟨0xA240C, 2, 0x40, 1, 0x4, fun m _ => [INT_MO_STAT_BADFMT m]⟩
  , ⟨0xA2410, 2, 0x40, 1, 0x4, fun m _ => [INT_MO_CNT_REPEAT m, INT_MO_CNT_SKIP m]⟩
  , ⟨0x100400, 18, 0x1000, 1, 0x4, fun n _ => [STR_ECHO_STAT_LAST n, STR_ECHO_STAT_FAIL n, STR_ECHO_STAT_ROW n]⟩
  , ⟨0x100404, 18, 0x1000, 1, 0x4, fun n _ => [STR_ECHO_CNT_COUNT n]⟩
  , ⟨0x100408, 18, 0x1000, 1, 0x4, fun n _ => [STR_ECHO_FAIL_CNT_COUNT n]⟩
  , ⟨0x100410, 18, 0x1000, 1, 0x4, fun n _ => [STR_DEC_ERR_INVALID n, STR_DEC_ERR_LENGTH n, STR_DEC_ERR_CRC n, STR_DEC_ERR_ROWIDX n]⟩
  , ⟨0x100414, 18, 0x1000, 1, 0x4, fun n _ => [STR_DEC_MISC_ENDMISS n, STR_DEC_MISC_HDRLOST n, STR_DEC_MISC_RESYNC n]⟩
  , ⟨0x100418, 18, 0x1000, 1, 0x4, fun n _ => [STR_DEC_CONCEAL_CNT_COUNT n]⟩
  , ⟨0x10041C, 18, 0x1000, 1, 0x4, fun n _ => [STR_DEC_SKIP_BYTES n]⟩
  , ⟨0x100000, 18, 0x1000, 1, 0x4, fun n _ => [STR_STATE_STATE n, STR_STATE_LANE n, STR_STATE_CAUSE n, STR_STATE_UNACK n]⟩
  , ⟨0x100004, 18, 0x1000, 1, 0x4, fun n _ => [STR_CTL_RESET n]⟩ ]

open R in
/-- Rows of the register map, part 2. -/
def regRows2 : List RegRow :=
  [ ⟨0x100008, 18, 0x1000, 1, 0x4, fun n _ => [STR_JOB_OPC n, STR_JOB_PART n, STR_JOB_TAG n]⟩
  , ⟨0x10000C, 18, 0x1000, 1, 0x4, fun n _ => [STR_UPC_ADDR n]⟩
  , ⟨0x100010, 18, 0x1000, 1, 0x4, fun n _ => [STR_FRAY_CNT_COUNT n]⟩
  , ⟨0x100014, 18, 0x1000, 1, 0x4, fun n _ => [STR_STALE_CNT_COUNT n]⟩
  , ⟨0x100018, 18, 0x1000, 1, 0x4, fun n _ => [STR_RESTART_CNT_COUNT n]⟩
  , ⟨0x10001C, 18, 0x1000, 1, 0x4, fun n _ => [STR_WDOG_MAX_US n]⟩
  , ⟨0x100020, 18, 0x1000, 1, 0x4, fun n _ => [STR_PATCH_VER_VER n, STR_PATCH_VER_NMATCH n]⟩
  , ⟨0x100024, 18, 0x1000, 1, 0x4, fun n _ => [STR_CS_ECC_CE n, STR_CS_ECC_UE n]⟩
  , ⟨0x100028, 18, 0x1000, 1, 0x4, fun n _ => [STR_SRAM_ECC_CE n, STR_SRAM_ECC_UE n]⟩
  , ⟨0x10002C, 18, 0x1000, 1, 0x4, fun n _ => [STR_OS_GEN_GEN n]⟩
  , ⟨0x100030, 18, 0x1000, 1, 0x4, fun n _ => [STR_TEST_STAT_RESULT n, STR_TEST_STAT_UNIT n, STR_TEST_STAT_AFTERQ n]⟩
  , ⟨0x100034, 18, 0x1000, 1, 0x4, fun n _ => [STR_TEST_SIG_SIG n]⟩
  , ⟨0x13F000, 1, 0x4, 1, 0x4, fun _ _ => [STR_POOL_SPARES, STR_POOL_TESTPER]⟩
  , ⟨0x13F004, 1, 0x4, 1, 0x4, fun _ _ => [STR_POOL_STAT_LANES, STR_POOL_STAT_SPAREAV, STR_POOL_STAT_NQUAR, STR_POOL_STAT_DEGRADED, STR_POOL_STAT_CFGERR]⟩
  , ⟨0x13F008, 1, 0x4, 1, 0x4, fun _ _ => [STR_QUAR_MASK_MASK]⟩
  , ⟨0x13F00C, 1, 0x4, 1, 0x4, fun _ _ => [STR_QUAR_SET_STRAND]⟩
  , ⟨0x13F010, 1, 0x4, 1, 0x4, fun _ _ => [STR_READMIT_STRAND]⟩
  , ⟨0x13F014, 1, 0x4, 1, 0x4, fun _ _ => [STR_TEST_REQ_STRAND]⟩
  , ⟨0x13F018, 1, 0x4, 1, 0x4, fun _ _ => [STR_REQ_STAT_RCODE, STR_REQ_STAT_TCODE]⟩
  , ⟨0x13F020, 1, 0x4, 1, 0x4, fun _ _ => [STR_SPLICE_CNT_COUNT]⟩
  , ⟨0x13F024, 1, 0x4, 1, 0x4, fun _ _ => [STR_SPLICE_LAST_LANE, STR_SPLICE_LAST_FROM, STR_SPLICE_LAST_TO, STR_SPLICE_LAST_CAUSE]⟩
  , ⟨0x13F028, 1, 0x4, 1, 0x4, fun _ _ => [STR_SPLICE_GAP_LAST, STR_SPLICE_GAP_MAX]⟩
  , ⟨0x13F030, 1, 0x4, 1, 0x4, fun _ _ => [STR_OS_ADDR_ADDR]⟩
  , ⟨0x13F034, 1, 0x4, 1, 0x4, fun _ _ => [STR_OS_DATA0_DATA]⟩
  , ⟨0x13F038, 1, 0x4, 1, 0x4, fun _ _ => [STR_OS_DATA1_DATA]⟩
  , ⟨0x13F03C, 1, 0x4, 1, 0x4, fun _ _ => [STR_OS_DATA2_DATA]⟩
  , ⟨0x13F040, 1, 0x4, 1, 0x4, fun _ _ => [STR_OS_GEN_COMMON_GEN]⟩
  , ⟨0x13F080, 16, 0x4, 1, 0x4, fun k _ => [STR_DISPATCH_ADDR k]⟩
  , ⟨0x13F100, 18, 0x4, 1, 0x4, fun l _ => [STR_LANE_MAP_STRAND l, STR_LANE_MAP_SHARED l, STR_LANE_MAP_VALID l, STR_LANE_MAP_EPOCH l]⟩
  , ⟨0x13F180, 18, 0x4, 1, 0x4, fun l _ => [STR_LANE_CNT_ROWS l, STR_LANE_CNT_BAND l, STR_LANE_CNT_QDEPTH l]⟩
  , ⟨0x140000, 4, 0x1000, 1, 0x4, fun n _ => [SEQ_STAT_RUN n, SEQ_STAT_NRUN n, SEQ_STAT_CFGERR n]⟩
  , ⟨0x140004, 4, 0x1000, 1, 0x4, fun n _ => [SEQ_USED_CYCLES n]⟩
  , ⟨0x140008, 4, 0x1000, 1, 0x4, fun n _ => [SEQ_IMEM_ECC_CE n, SEQ_IMEM_ECC_UE n]⟩
  , ⟨0x140100, 4, 0x1000, 8, 0x40, fun n p => [SEQ_PAIR_OWNER_PART n p, SEQ_PAIR_OWNER_VALID n p]⟩
  , ⟨0x140104, 4, 0x1000, 8, 0x40, fun n p => [SEQ_PAIR_STAT_ACTIVE n p, SEQ_PAIR_STAT_STATE n p, SEQ_PAIR_STAT_STBY n p]⟩
  , ⟨0x140108, 4, 0x1000, 8, 0x40, fun n p => [SEQ_PAIR_PC_PC n p]⟩
  , ⟨0x14010C, 4, 0x1000, 8, 0x40, fun n p => [SEQ_PAIR_FAULT_CAUSE n p, SEQ_PAIR_FAULT_PC n p, SEQ_PAIR_FAULT_CODE n p]⟩
  , ⟨0x140110, 4, 0x1000, 8, 0x40, fun n p => [SEQ_PAIR_FADDR_LO_ADDR n p]⟩
  , ⟨0x140114, 4, 0x1000, 8, 0x40, fun n p => [SEQ_PAIR_FADDR_HI_ADDR n p]⟩
  , ⟨0x140118, 4, 0x1000, 8, 0x40, fun n p => [SEQ_PAIR_USED_CYCLES n p]⟩ ]

open R in
/-- Rows of the register map, part 3. -/
def regRows3 : List RegRow :=
  [ ⟨0x14011C, 4, 0x1000, 8, 0x40, fun n p => [SEQ_PAIR_PEAK_CYCLES n p]⟩
  , ⟨0x140120, 4, 0x1000, 8, 0x40, fun n p => [SEQ_PAIR_LATE_CNT_COUNT n p]⟩
  , ⟨0x140124, 4, 0x1000, 8, 0x40, fun n p => [SEQ_PAIR_EXCESS_CNT_COUNT n p]⟩
  , ⟨0x140128, 4, 0x1000, 8, 0x40, fun n p => [SEQ_PAIR_INST_WORD n p]⟩
  , ⟨0xC1000, 8, 0x400, 32, 0x10, fun p t => [TICK_TMR_STAT_MODE p t, TICK_TMR_STAT_PEND p t]⟩
  , ⟨0xC1004, 8, 0x400, 32, 0x10, fun p t => [TICK_TMR_NS_LO_NS p t]⟩
  , ⟨0xC1008, 8, 0x400, 32, 0x10, fun p t => [TICK_TMR_NS_HI_NS p t]⟩
  , ⟨0xC100C, 8, 0x400, 32, 0x10, fun p t => [TICK_TMR_LOST_COUNT p t]⟩
  , ⟨0xC1200, 8, 0x400, 16, 0x10, fun p e => [TICK_EDGE_CFG_INPUT p e, TICK_EDGE_CFG_EDGES p e, TICK_EDGE_CFG_ONCE p e, TICK_EDGE_CFG_HELD p e]⟩
  , ⟨0xC1204, 8, 0x400, 16, 0x10, fun p e => [TICK_EDGE_LAST_LO_CYCLE p e]⟩
  , ⟨0xC1208, 8, 0x400, 16, 0x10, fun p e => [TICK_EDGE_LAST_HI_CYCLE p e]⟩
  , ⟨0xC120C, 8, 0x400, 16, 0x10, fun p e => [TICK_EDGE_LOST_COUNT p e]⟩
  , ⟨0xC1300, 8, 0x400, 1, 0x4, fun p _ => [TICK_PART_STAT_LATE p]⟩
  , ⟨0x17F000, 1, 0x4, 1, 0x4, fun _ _ => [SEQ_MIG_REQ_SRC, SEQ_MIG_REQ_DST]⟩
  , ⟨0x17F004, 1, 0x4, 1, 0x4, fun _ _ => [SEQ_MIG_STAT_STATE, SEQ_MIG_STAT_CODE, SEQ_MIG_STAT_SRC, SEQ_MIG_STAT_DST]⟩
  , ⟨0x17F008, 1, 0x4, 1, 0x4, fun _ _ => [SEQ_OFFLINE_MASK]⟩
  , ⟨0x17F00C, 1, 0x4, 1, 0x4, fun _ _ => [SEQ_TEST_REQ_SEQ]⟩
  , ⟨0x17F010, 1, 0x4, 1, 0x4, fun _ _ => [SEQ_TEST_STAT_RESULT, SEQ_TEST_STAT_SEQ]⟩
  , ⟨0x17F014, 1, 0x4, 1, 0x4, fun _ _ => [SEQ_MIG_CNT_COUNT]⟩
  , ⟨0x400000, 8, 0x10000, 1, 0x4, fun p _ => [PW_ID_PART p]⟩
  , ⟨0x400004, 8, 0x10000, 1, 0x4, fun p _ => [PW_STAT_RST_BUSY p, PW_STAT_MODE p, PW_STAT_ANCHORED p]⟩
  , ⟨0x400008, 8, 0x10000, 1, 0x4, fun p _ => [PW_ACCERR_SIZE p, PW_ACCERR_UNMAPPED p]⟩
  , ⟨0x40000C, 8, 0x10000, 1, 0x4, fun p _ => [PW_ACCERR_CNT_COUNT p]⟩
  , ⟨0x400010, 8, 0x10000, 1, 0x4, fun p _ => [PW_ACCERR_ADDR_OFFSET p]⟩
  , ⟨0x400100, 8, 0x10000, 16, 0x4, fun p k => [PW_PDB p k]⟩
  , ⟨0x400200, 8, 0x10000, 16, 0x4, fun p r => [PW_SQ_DB p r]⟩
  , ⟨0x402000, 8, 0x10000, 32, 0x10, fun p i => [PW_PAIR_STAT_STATUS p i, PW_PAIR_STAT_OWNED p i]⟩
  , ⟨0x402004, 8, 0x10000, 32, 0x10, fun p i => [PW_PAIR_FAULT_FAULT p i]⟩
  , ⟨0x402008, 8, 0x10000, 32, 0x10, fun p i => [PW_PAIR_INST_WORD p i]⟩
  , ⟨0x40200C, 8, 0x10000, 32, 0x10, fun p i => [PW_PAIR_WHERE_SEQ p i, PW_PAIR_WHERE_PAIR p i, PW_PAIR_WHERE_MOVED p i]⟩
  , ⟨0x401000, 8, 0x10000, 16, 0x20, fun p r => [PW_SQ_BASE_LO_ADDR p r]⟩
  , ⟨0x401004, 8, 0x10000, 16, 0x20, fun p r => [PW_SQ_BASE_HI_ADDR p r]⟩
  , ⟨0x401008, 8, 0x10000, 16, 0x20, fun p r => [PW_SQ_CFG_LOG2N p r, PW_SQ_CFG_CQ p r, PW_SQ_CFG_WEIGHT p r, PW_SQ_CFG_BURST p r]⟩
  , ⟨0x40100C, 8, 0x10000, 16, 0x20, fun p r => [PW_SQ_CTL_EN p r]⟩
  , ⟨0x401010, 8, 0x10000, 16, 0x20, fun p r => [PW_SQ_STAT_IDLE p r, PW_SQ_STAT_ERR p r, PW_SQ_STAT_RUNG p r, PW_SQ_STAT_ECODE p r, PW_SQ_STAT_TAKEN p r, PW_SQ_STAT_SENSE p r]⟩
  , ⟨0x401400, 8, 0x10000, 16, 0x20, fun p r => [PW_CQ_BASE_LO_ADDR p r]⟩
  , ⟨0x401404, 8, 0x10000, 16, 0x20, fun p r => [PW_CQ_BASE_HI_ADDR p r]⟩
  , ⟨0x401408, 8, 0x10000, 16, 0x20, fun p r => [PW_CQ_CFG_LOG2N p r, PW_CQ_CFG_IRQ p r]⟩
  , ⟨0x40140C, 8, 0x10000, 16, 0x20, fun p r => [PW_CQ_CTL_EN p r]⟩
  , ⟨0x401410, 8, 0x10000, 16, 0x20, fun p r => [PW_CQ_HEAD_INDEX p r]⟩ ]

open R in
/-- Rows of the register map, part 4. -/
def regRows4 : List RegRow :=
  [ ⟨0x401414, 8, 0x10000, 16, 0x20, fun p r => [PW_CQ_STAT_ERR p r, PW_CQ_STAT_ECODE p r, PW_CQ_STAT_TAIL p r, PW_CQ_STAT_SENSE p r]⟩
  , ⟨0x401418, 8, 0x10000, 16, 0x20, fun p r => [PW_CQ_DROP_COUNT p r]⟩
  , ⟨0x40000, 1, 0x4, 1, 0x4, fun _ _ => [HUB_DB_SRC]⟩
  , ⟨0x40004, 1, 0x4, 1, 0x4, fun _ _ => [HUB_PEND_SET_SRC]⟩
  , ⟨0x40008, 1, 0x4, 1, 0x4, fun _ _ => [HUB_PEND_CLR_SRC]⟩
  , ⟨0x4000C, 1, 0x4, 1, 0x4, fun _ _ => [HUB_MASK_SET_SRC]⟩
  , ⟨0x40010, 1, 0x4, 1, 0x4, fun _ _ => [HUB_MASK_CLR_SRC]⟩
  , ⟨0x40020, 1, 0x4, 1, 0x4, fun _ _ => [HUB_ERR_CNT_COUNT]⟩
  , ⟨0x40100, 32, 4, 1, 4, fun w _ => (List.range 32).map fun b => HUB_PEND (32 * w + b)⟩
  , ⟨0x40200, 32, 4, 1, 4, fun w _ => (List.range 32).map fun b => HUB_MASK (32 * w + b)⟩
  , ⟨0x40300, 32, 4, 1, 4, fun w _ => (List.range 32).map fun b => HUB_INSERV (32 * w + b)⟩
  , ⟨0x41000, 1024, 0x4, 1, 0x4, fun s _ => [HUB_ROUTE_TGT s, HUB_ROUTE_VEC s, HUB_ROUTE_OWNER s, HUB_ROUTE_RAISE s]⟩
  , ⟨0x42000, 16, 0x10, 1, 0x4, fun t _ => [HUB_TGT_CTL_EN t, HUB_TGT_CTL_PART t, HUB_TGT_CTL_PDB t]⟩
  , ⟨0x42004, 16, 0x10, 1, 0x4, fun t _ => [HUB_CLAIM_SRC t, HUB_CLAIM_VALID t]⟩
  , ⟨0x42008, 16, 0x10, 1, 0x4, fun t _ => [HUB_EOI_SRC t]⟩
  , ⟨0x4200C, 16, 0x10, 1, 0x4, fun t _ => [HUB_TGT_STAT_REQ t]⟩
  , ⟨0x400400, 8, 0x10000, 1, 0x4, fun p _ => [PW_HUB_RAISE_SRC p]⟩
  , ⟨0x400404, 8, 0x10000, 1, 0x4, fun p _ => [PW_HUB_PEND_CLR_SRC p]⟩
  , ⟨0x400408, 8, 0x10000, 1, 0x4, fun p _ => [PW_HUB_MASK_SET_SRC p]⟩
  , ⟨0x40040C, 8, 0x10000, 1, 0x4, fun p _ => [PW_HUB_MASK_CLR_SRC p]⟩
  , ⟨0x400410, 8, 0x10000, 1, 0x4, fun p _ => [PW_HUB_CLAIM_SRC p, PW_HUB_CLAIM_VALID p]⟩
  , ⟨0x400414, 8, 0x10000, 1, 0x4, fun p _ => [PW_HUB_EOI_SRC p]⟩
  , ⟨0x400418, 8, 0x10000, 1, 0x4, fun p _ => [PW_HUB_ERR_CNT_COUNT p]⟩
  , ⟨0x400800, 8, 0x10000, 1, 0x4, fun p _ => [PW_FQ_STAT_COUNT p]⟩
  , ⟨0x400804, 8, 0x10000, 1, 0x4, fun p _ => [PW_FQ_ADDR_LO_ADDR p]⟩
  , ⟨0x400808, 8, 0x10000, 1, 0x4, fun p _ => [PW_FQ_ADDR_HI_ADDR p]⟩
  , ⟨0x40080C, 8, 0x10000, 1, 0x4, fun p _ => [PW_FQ_INFO_CAUSE p, PW_FQ_INFO_LEVEL p, PW_FQ_INFO_WRITE p, PW_FQ_INFO_REQ p, PW_FQ_INFO_UNIT p, PW_FQ_INFO_REGION p]⟩
  , ⟨0x400810, 8, 0x10000, 1, 0x4, fun p _ => [PW_FQ_POP p]⟩
  , ⟨0x400814, 8, 0x10000, 1, 0x4, fun p _ => [PW_FQ_LOST_COUNT p]⟩
  , ⟨0x2C0000, 1, 0x4, 1, 0x4, fun _ _ => [IOM_CTL_PEER]⟩
  , ⟨0x2C0004, 1, 0x4, 1, 0x4, fun _ _ => [IOM_STAT_CFGERR]⟩
  , ⟨0x2C0100, 8, 0x10, 1, 0x4, fun p _ => [IOM_ROOT_LO_EN p, IOM_ROOT_LO_ADDR p]⟩
  , ⟨0x2C0104, 8, 0x10, 1, 0x4, fun p _ => [IOM_ROOT_HI_ADDR p]⟩
  , ⟨0x2C0200, 1, 0x4, 1, 0x4, fun _ _ => [IOM_INV_ADDR_LO_ADDR]⟩
  , ⟨0x2C0204, 1, 0x4, 1, 0x4, fun _ _ => [IOM_INV_ADDR_HI_ADDR]⟩
  , ⟨0x2C0208, 1, 0x4, 1, 0x4, fun _ _ => [IOM_INV_CMD_PAGES, IOM_INV_CMD_PART]⟩
  , ⟨0x2C020C, 1, 0x4, 1, 0x4, fun _ _ => [IOM_INV_STAT_BUSY, IOM_INV_STAT_DONE]⟩
  , ⟨0x2C0210, 1, 0x4, 1, 0x4, fun _ _ => [IOM_HIT_CNT_COUNT]⟩
  , ⟨0x2C0214, 1, 0x4, 1, 0x4, fun _ _ => [IOM_WALK_CNT_COUNT]⟩
  , ⟨0x2C0300, 16, 0x10, 1, 0x4, fun i _ => [IOM_IOWIN_LO_EN i, IOM_IOWIN_LO_ADDR i]⟩ ]

open R in
/-- Rows of the register map, part 5. -/
def regRows5 : List RegRow :=
  [ ⟨0x2C0304, 16, 0x10, 1, 0x4, fun i _ => [IOM_IOWIN_HI_ADDR i]⟩
  , ⟨0x2C0308, 16, 0x10, 1, 0x4, fun i _ => [IOM_IOWIN_SIZE_PAGES i]⟩
  , ⟨0x300000, 8, 0x100, 1, 0x4, fun p _ => [PRT_SHARE_STRAND p, PRT_SHARE_DRAM p, PRT_SHARE_HOST p]⟩
  , ⟨0x300004, 8, 0x100, 1, 0x4, fun p _ => [PRT_SEQSHARE_SQ0 p, PRT_SEQSHARE_SQ1 p, PRT_SEQSHARE_SQ2 p, PRT_SEQSHARE_SQ3 p]⟩
  , ⟨0x300008, 8, 0x100, 1, 0x4, fun p _ => [PRT_FS_BASE_LO_ADDR p]⟩
  , ⟨0x30000C, 8, 0x100, 1, 0x4, fun p _ => [PRT_FS_BASE_HI_ADDR p]⟩
  , ⟨0x300010, 8, 0x100, 1, 0x4, fun p _ => [PRT_FS_SIZE_PAGES p]⟩
  , ⟨0x300014, 8, 0x100, 1, 0x4, fun p _ => [PRT_SSM_BASE p, PRT_SSM_SIZE p]⟩
  , ⟨0x300018, 8, 0x100, 1, 0x4, fun p _ => [PRT_STAT_PRESENT p, PRT_STAT_RST_BUSY p, PRT_STAT_PROGS p, PRT_STAT_RINGS p]⟩
  , ⟨0x33F000, 1, 0x4, 1, 0x4, fun _ _ => [PRT_PRESET_PART]⟩
  , ⟨0x33F004, 1, 0x4, 1, 0x4, fun _ _ => [PRT_CFG_CFGERR]⟩
  , ⟨0x33F008, 1, 0x4, 1, 0x4, fun _ _ => [PRT_RESET_CNT_COUNT]⟩
  , ⟨0x180000, 1, 0x4, 1, 0x4, fun _ _ => [MOV_CTL_RESTART]⟩
  , ⟨0x180004, 1, 0x4, 1, 0x4, fun _ _ => [MOV_STAT_HALTED, MOV_STAT_BUSERR]⟩
  , ⟨0x180008, 1, 0x4, 1, 0x4, fun _ _ => [MOV_BUSERR_ADDR_LO_ADDR]⟩
  , ⟨0x18000C, 1, 0x4, 1, 0x4, fun _ _ => [MOV_BUSERR_ADDR_HI_ADDR]⟩
  , ⟨0x180010, 1, 0x4, 1, 0x4, fun _ _ => [MOV_BUSERR_CNT_COUNT]⟩
  , ⟨0x181000, 16, 0x40, 1, 0x4, fun c _ => [MOV_CH_OWNER_PART c, MOV_CH_OWNER_VALID c]⟩
  , ⟨0x181004, 16, 0x40, 1, 0x4, fun c _ => [MOV_CH_STAT_STATE c, MOV_CH_STAT_STATUS c, MOV_CH_STAT_INDEX c]⟩
  , ⟨0x181008, 16, 0x40, 1, 0x4, fun c _ => [MOV_CH_BYTES_COUNT c]⟩
  , ⟨0x1A0000, 1, 0x4, 1, 0x4, fun _ _ => [POOL_CTL_INIT]⟩
  , ⟨0x1A0004, 1, 0x4, 1, 0x4, fun _ _ => [POOL_STAT_BUSY, POOL_STAT_BROKEN_E, POOL_STAT_BROKEN_G, POOL_STAT_CFGERR]⟩
  , ⟨0x1A0008, 1, 0x4, 1, 0x4, fun _ _ => [POOL_BASE_LO_ADDR]⟩
  , ⟨0x1A000C, 1, 0x4, 1, 0x4, fun _ _ => [POOL_BASE_HI_ADDR]⟩
  , ⟨0x1A0010, 1, 0x4, 1, 0x4, fun _ _ => [POOL_COUNT_N]⟩
  , ⟨0x1A0014, 1, 0x4, 1, 0x4, fun _ _ => [POOL_NESS_N]⟩
  , ⟨0x1A0018, 1, 0x4, 1, 0x4, fun _ _ => [POOL_FREE_E_COUNT]⟩
  , ⟨0x1A001C, 1, 0x4, 1, 0x4, fun _ _ => [POOL_FREE_G_COUNT]⟩
  , ⟨0x1A0020, 1, 0x4, 1, 0x4, fun _ _ => [POOL_LOWAT_E_LEVEL]⟩
  , ⟨0x1A0024, 1, 0x4, 1, 0x4, fun _ _ => [POOL_LOWAT_G_LEVEL]⟩
  , ⟨0x1A0028, 1, 0x4, 1, 0x4, fun _ _ => [POOL_FAULT_INFO_BUF, POOL_FAULT_INFO_KIND]⟩
  , ⟨0x1A002C, 1, 0x4, 1, 0x4, fun _ _ => [POOL_FAULT_CNT_COUNT]⟩
  , ⟨0x1A0030, 1, 0x4, 1, 0x4, fun _ _ => [POOL_MIN_E_COUNT]⟩
  , ⟨0x1A0040, 1, 0x4, 1, 0x4, fun _ _ => [POOL_REF_SEL_BUF]⟩
  , ⟨0x1A0044, 1, 0x4, 1, 0x4, fun _ _ => [POOL_REF_VIEW_COUNT, POOL_REF_VIEW_HOLD]⟩
  , ⟨0x1C0000, 1, 0x4, 1, 0x4, fun _ _ => [DRC_CFG_CAP, DRC_CFG_MAP]⟩
  , ⟨0x1C0004, 1, 0x4, 1, 0x4, fun _ _ => [DRC_STAT_TRAINED0, DRC_STAT_TRAINED1, DRC_STAT_SET, DRC_STAT_FCBUSY, DRC_STAT_CFGERR, DRC_STAT_HOT]⟩
  , ⟨0x1C0008, 1, 0x4, 1, 0x4, fun _ _ => [DRC_FREQ_REQ_SET, DRC_FREQ_REQ_FORCE, DRC_FREQ_REQ_CANCEL]⟩
  , ⟨0x1C000C, 1, 0x4, 1, 0x4, fun _ _ => [DRC_FREQ_STAT_STATE, DRC_FREQ_STAT_WAIT, DRC_FREQ_STAT_FAILED, DRC_FREQ_STAT_LAST]⟩
  , ⟨0x1C0010, 1, 0x4, 1, 0x4, fun _ _ => [DRC_FREQ_CNT_COUNT]⟩ ]

open R in
/-- Rows of the register map, part 6. -/
def regRows6 : List RegRow :=
  [ ⟨0x1C0014, 1, 0x4, 1, 0x4, fun _ _ => [DRC_TRAIN_REQ_SET]⟩
  , ⟨0x1C0040, 2, 0x10, 1, 0x4, fun s _ => [DRC_TSET_RATE_MTS s]⟩
  , ⟨0x1C0044, 2, 0x10, 1, 0x4, fun s _ => [DRC_TSET_A_RCD s, DRC_TSET_A_RP s, DRC_TSET_A_RAS s]⟩
  , ⟨0x1C0048, 2, 0x10, 1, 0x4, fun s _ => [DRC_TSET_B_WR s, DRC_TSET_B_RFCPB s]⟩
  , ⟨0x1C004C, 2, 0x10, 1, 0x4, fun s _ => [DRC_TSET_C_REFI s]⟩
  , ⟨0x1C0080, 1, 0x4, 1, 0x4, fun _ _ => [DRC_REF_POSTMAX]⟩
  , ⟨0x1C0084, 1, 0x4, 1, 0x4, fun _ _ => [DRC_REF_CNT_FORCED]⟩
  , ⟨0x1C0088, 1, 0x4, 1, 0x4, fun _ _ => [DRC_MR4_RATE]⟩
  , ⟨0x1C0090, 1, 0x4, 1, 0x4, fun _ _ => [DRC_ECC_CE, DRC_ECC_UE]⟩
  , ⟨0x1C0094, 1, 0x4, 1, 0x4, fun _ _ => [DRC_UE_ADDR_LO_ADDR]⟩
  , ⟨0x1C0098, 1, 0x4, 1, 0x4, fun _ _ => [DRC_UE_ADDR_HI_ADDR]⟩
  , ⟨0x1C0100, 24, 0x4, 1, 0x4, fun p _ => [DRC_PORT_TGT_NS p]⟩
  , ⟨0x1C0200, 24, 0x4, 1, 0x4, fun p _ => [DRC_PORT_STAT_MAXLAT p, DRC_PORT_STAT_MISS p]⟩
  , ⟨0x200000, 4, 0x10000, 1, 0x4, fun n _ => [MAG_CTL_EN n, MAG_CTL_DROP n]⟩
  , ⟨0x200004, 4, 0x10000, 1, 0x4, fun n _ => [MAG_STAT_STATE n, MAG_STAT_LOWSPACE n, MAG_STAT_FUAALL n, MAG_STAT_VWC n, MAG_STAT_CFGERR n]⟩
  , ⟨0x200008, 4, 0x10000, 1, 0x4, fun n _ => [MAG_CFG_HOLD n, MAG_CFG_CMDTO n, MAG_CFG_RETRY n, MAG_CFG_VWC n]⟩
  , ⟨0x20000C, 4, 0x10000, 1, 0x4, fun n _ => [MAG_CFG2_LOWAU n]⟩
  , ⟨0x200010, 4, 0x10000, 1, 0x4, fun n _ => [MAG_STRICT_MBPS n]⟩
  , ⟨0x200014, 4, 0x10000, 1, 0x4, fun n _ => [MAG_HOLDUP_LIMIT n]⟩
  , ⟨0x200018, 4, 0x10000, 1, 0x4, fun n _ => [MAG_FUAMIN_BLOCKS n]⟩
  , ⟨0x20001C, 4, 0x10000, 1, 0x4, fun n _ => [MAG_CACHED_BLOCKS n]⟩
  , ⟨0x200020, 4, 0x10000, 1, 0x4, fun n _ => [MAG_OUT_COUNT n]⟩
  , ⟨0x200024, 4, 0x10000, 1, 0x4, fun n _ => [MAG_IOCNT_FLUSH n, MAG_IOCNT_FUA n]⟩
  , ⟨0x200028, 4, 0x10000, 1, 0x4, fun n _ => [MAG_LOSS_CNT_LOSS n, MAG_LOSS_CNT_REISSUE n]⟩
  , ⟨0x20002C, 4, 0x10000, 1, 0x4, fun n _ => [MAG_REHOME_CNT_FRAMES n]⟩
  , ⟨0x200030, 4, 0x10000, 1, 0x4, fun n _ => [MAG_ERR_SC n, MAG_ERR_SCT n, MAG_ERR_OPC n]⟩
  , ⟨0x200034, 4, 0x10000, 1, 0x4, fun n _ => [MAG_SPACE_FREE n]⟩
  , ⟨0x200038, 4, 0x10000, 1, 0x4, fun n _ => [MAG_QMAP_NPAIRS n]⟩
  , ⟨0x200100, 4, 0x10000, 8, 0x20, fun n q => [MAG_Q_CFG_WEIGHT n q, MAG_Q_CFG_MAXOUT n q]⟩
  , ⟨0x200144, 4, 0x10000, 6, 0x20, fun n q => [MAG_Q_SHAPE_RATE n (q + 2), MAG_Q_SHAPE_FILL n (q + 2)]⟩
  , ⟨0x200148, 4, 0x10000, 6, 0x20, fun n q => [MAG_Q_BURST_KIB n (q + 2)]⟩
  , ⟨0x20014C, 4, 0x10000, 6, 0x20, fun n q => [MAG_Q_CREDIT_KIB n (q + 2)]⟩
  , ⟨0x200150, 4, 0x10000, 6, 0x20, fun n q => [MAG_Q_HWM_DEPTH n (q + 2)]⟩
  , ⟨0x200154, 4, 0x10000, 6, 0x20, fun n q => [MAG_Q_LATHWM_US n (q + 2)]⟩
  , ⟨0x280000, 4, 0x1000, 1, 0x4, fun n _ => [SBD_CTL_PWR n, SBD_CTL_AUTO n, SBD_CTL_LIFEOVR n]⟩
  , ⟨0x280004, 4, 0x1000, 1, 0x4, fun n _ => [SBD_STAT_PRSNT n, SBD_STAT_PWREN n, SBD_STAT_IDVALID n, SBD_STAT_LIFELOW n, SBD_STAT_IDMISMATCH n, SBD_STAT_JRNERR n, SBD_STAT_CFGERR n]⟩
  , ⟨0x280008, 4, 0x1000, 1, 0x4, fun n _ => [SBD_PRSNT_CNT_COUNT n]⟩
  , ⟨0x28000C, 4, 0x1000, 1, 0x4, fun n _ => [SBD_LIFE_REMAIN n, SBD_LIFE_PU n]⟩
  , ⟨0x280010, 4, 0x1000, 1, 0x4, fun n _ => [SBD_GAUGE_STAT_STATE n, SBD_GAUGE_STAT_DISAGREE n, SBD_GAUGE_STAT_REST n]⟩
  , ⟨0x280014, 4, 0x1000, 1, 0x4, fun n _ => [SBD_GAUGE_V_MV n, SBD_GAUGE_V_MA n]⟩ ]

open R in
/-- Rows of the register map, part 7. -/
def regRows7 : List RegRow :=
  [ ⟨0x280018, 4, 0x1000, 1, 0x4, fun n _ => [SBD_GAUGE_Q_UC n]⟩
  , ⟨0x28001C, 4, 0x1000, 1, 0x4, fun n _ => [SBD_GAUGE_EQ_UJ n]⟩
  , ⟨0x280020, 4, 0x1000, 1, 0x4, fun n _ => [SBD_GAUGE_EV_UJ n]⟩
  , ⟨0x280024, 4, 0x1000, 1, 0x4, fun n _ => [SBD_GAUGE_E_UJ n]⟩
  , ⟨0x280030, 4, 0x1000, 1, 0x4, fun n _ => [SBD_LBL_SRC_LO_ADDR n]⟩
  , ⟨0x280034, 4, 0x1000, 1, 0x4, fun n _ => [SBD_LBL_SRC_HI_ADDR n]⟩
  , ⟨0x280038, 4, 0x1000, 1, 0x4, fun n _ => [SBD_LBL_CTL_GO n]⟩
  , ⟨0x28003C, 4, 0x1000, 1, 0x4, fun n _ => [SBD_LBL_STAT_STATE n, SBD_LBL_STAT_PEND n, SBD_LBL_STAT_RECOVERED n, SBD_LBL_STAT_LAST n]⟩
  , ⟨0x280040, 4, 0x1000, 1, 0x4, fun n _ => [SBD_LBL_SEQ_SEQ n]⟩
  , ⟨0x280400, 4, 0x1000, 32, 0x4, fun n w => [SBD_IDCACHE_BYTES n w]⟩
  , ⟨0x60000, 8, 4, 1, 4, fun w _ => (List.range 32).map fun b => FLT_STAT (32 * w + b)⟩
  , ⟨0x60020, 8, 4, 1, 4, fun w _ => (List.range 32).map fun b => FLT_FORCE (32 * w + b)⟩
  , ⟨0x60040, 8, 4, 1, 4, fun w _ => (List.range 32).map fun b => FLT_MASK (32 * w + b)⟩
  , ⟨0x60060, 16, 4, 1, 4, fun w _ => (List.range 16).map fun b => FLT_CLASS (16 * w + b)⟩
  , ⟨0x600A0, 1, 0x4, 1, 0x4, fun _ _ => [FLT_CNT_CORR, FLT_CNT_PART, FLT_CNT_DEV, FLT_CNT_FATAL]⟩
  , ⟨0x600A4, 1, 0x4, 1, 0x4, fun _ _ => [FLT_FIRST_SRC, FLT_FIRST_CLASS, FLT_FIRST_VALID]⟩
  , ⟨0x600A8, 1, 0x4, 1, 0x4, fun _ _ => [FLT_FIRST_TICK_LO_NO]⟩
  , ⟨0x600AC, 1, 0x4, 1, 0x4, fun _ _ => [FLT_FIRST_TICK_HI_NO]⟩
  , ⟨0x600B0, 1, 0x4, 1, 0x4, fun _ _ => [FLT_CTL_STAT_CFGERR]⟩
  , ⟨0x60100, 1, 0x4, 1, 0x4, fun _ _ => [FLT_BLY_STAT_ACTIVE, FLT_BLY_STAT_B0, FLT_BLY_STAT_B1, FLT_BLY_STAT_HEALTHY]⟩
  , ⟨0x60104, 1, 0x4, 1, 0x4, fun _ _ => [FLT_BLY_CTL_SWITCH, FLT_BLY_CTL_TEST, FLT_BLY_CTL_RESET]⟩
  , ⟨0x60108, 1, 0x4, 1, 0x4, fun _ _ => [FLT_BLY_CNT_TAKEOVER, FLT_BLY_CNT_SWITCH]⟩
  , ⟨0x6010C, 1, 0x4, 1, 0x4, fun _ _ => [FLT_BLY_LAST_US]⟩
  , ⟨0x60110, 1, 0x4, 1, 0x4, fun _ _ => [FLT_BLY_TEST_RESULT]⟩
  , ⟨0x60200, 1, 0x4, 1, 0x4, fun _ _ => [FLT_ANC_STAT_STATE, FLT_ANC_STAT_CAUSE, FLT_ANC_STAT_WHIPPED, FLT_ANC_STAT_SKIPPED, FLT_ANC_STAT_CLIPS]⟩
  , ⟨0x60204, 1, 0x4, 1, 0x4, fun _ _ => [FLT_ANC_TICK_LO_NO]⟩
  , ⟨0x60208, 1, 0x4, 1, 0x4, fun _ _ => [FLT_ANC_TICK_HI_NO]⟩
  , ⟨0x6020C, 1, 0x4, 1, 0x4, fun _ _ => [FLT_ANC_TIME_US]⟩
  , ⟨0x60300, 1, 0x4, 1, 0x4, fun _ _ => [FLT_PIN_LANYARD, FLT_PIN_FAULT]⟩
  , ⟨0x340000, 1, 0x4, 1, 0x4, fun _ _ => [INJ_ARM_KEY]⟩
  , ⟨0x340004, 1, 0x4, 1, 0x4, fun _ _ => [INJ_STAT_ARMED, INJ_STAT_CFGERR]⟩
  , ⟨0x341000, 17, 0x20, 1, 0x4, fun i _ => [INJ_CTL_EN i, INJ_CTL_ACT i]⟩
  , ⟨0x341004, 17, 0x20, 1, 0x4, fun i _ => [INJ_INTERVAL_UNITS i]⟩
  , ⟨0x341008, 17, 0x20, 1, 0x4, fun i _ => [INJ_COUNT_N i]⟩
  , ⟨0x34100C, 17, 0x20, 1, 0x4, fun i _ => [INJ_BIT_BIT i]⟩
  , ⟨0x341010, 17, 0x20, 1, 0x4, fun i _ => [INJ_SEED_SEED i]⟩
  , ⟨0x341014, 17, 0x20, 1, 0x4, fun i _ => [INJ_DONE_COUNT i]⟩
  , ⟨0x10000, 1, 0x4, 1, 0x4, fun _ _ => [AON_RSTCAUSE_CAUSE, AON_RSTCAUSE_WAKESRC]⟩
  , ⟨0x10004, 1, 0x4, 1, 0x4, fun _ _ => [AON_BOOT_CNT_COUNT]⟩
  , ⟨0x10008, 1, 0x4, 1, 0x4, fun _ _ => [AON_BOOT_STAT_A0, AON_BOOT_STAT_A1, AON_BOOT_STAT_A2, AON_BOOT_STAT_BARE, AON_BOOT_STAT_SRC]⟩ ]

open R in
/-- Rows of the register map, part 8. -/
def regRows8 : List RegRow :=
  [ ⟨0x1000C, 1, 0x4, 1, 0x4, fun _ _ => [AON_BOOT_CTL_SRC, AON_BOOT_CTL_OVR, AON_BOOT_CTL_RETRY, AON_BOOT_CTL_GO]⟩
  , ⟨0x10010, 1, 0x4, 1, 0x4, fun _ _ => [AON_BOOT_LEN_BYTES]⟩
  , ⟨0x10014, 1, 0x4, 1, 0x4, fun _ _ => [AON_BOOT_DATA_WORD]⟩
  , ⟨0x10018, 1, 0x4, 1, 0x4, fun _ _ => [AON_WAKE_CTL_WAKEN, AON_WAKE_CTL_PERST, AON_WAKE_CTL_TMR]⟩
  , ⟨0x1001C, 1, 0x4, 1, 0x4, fun _ _ => [AON_WAKE_TMR_SEC]⟩
  , ⟨0x10020, 1, 0x4, 1, 0x4, fun _ _ => [AON_RST_CTL_KEY]⟩
  , ⟨0x10024, 1, 0x4, 1, 0x4, fun _ _ => [AON_REG_STAT_LP, AON_REG_STAT_LOAD]⟩
  , ⟨0x10028, 1, 0x4, 1, 0x4, fun _ _ => [AON_FUSE_SVNMIN, AON_FUSE_REVOKE]⟩
  , ⟨0x20000, 1, 0x4, 1, 0x4, fun _ _ => [CLK_LP_CTL_HOLDOFF]⟩
  , ⟨0x20004, 1, 0x4, 1, 0x4, fun _ _ => [CLK_LP_STAT_GATED]⟩
  , ⟨0x20008, 1, 0x4, 1, 0x4, fun _ _ => [CLK_LP_REFUSE_CNT_COUNT]⟩
  , ⟨0x2000C, 1, 0x4, 1, 0x4, fun _ _ => [CLK_LP_LAST_BLOCK, CLK_LP_LAST_KIND, CLK_LP_LAST_DORM]⟩
  , ⟨0x20010, 1, 0x4, 1, 0x4, fun _ _ => [CLK_TEMP_DEGC]⟩
  , ⟨0x80000, 48, 0x10, 1, 0x4, fun n _ => [PIN_GL_CFG_FUNC n, PIN_GL_CFG_PULL n, PIN_GL_CFG_DRIVE n, PIN_GL_CFG_SLEW n]⟩
  , ⟨0x80004, 48, 0x10, 1, 0x4, fun n _ => [PIN_GL_STAGE_FUNC n, PIN_GL_STAGE_PULL n, PIN_GL_STAGE_DRIVE n, PIN_GL_STAGE_SLEW n, PIN_GL_STAGE_PEND n]⟩
  , ⟨0x80008, 48, 0x10, 1, 0x4, fun n _ => [PIN_GL_OWNER_PART n, PIN_GL_OWNER_VALID n]⟩
  , ⟨0x8000C, 48, 0x10, 1, 0x4, fun n _ => [PIN_GL_FARG_ARG n]⟩
  , ⟨0x80400, 1, 0x4, 1, 0x4, fun _ _ => [PIN_GPIO_OUT_LO_BITS]⟩
  , ⟨0x80404, 1, 0x4, 1, 0x4, fun _ _ => [PIN_GPIO_OUT_HI_BITS]⟩
  , ⟨0x80408, 1, 0x4, 1, 0x4, fun _ _ => [PIN_GPIO_OE_LO_BITS]⟩
  , ⟨0x8040C, 1, 0x4, 1, 0x4, fun _ _ => [PIN_GPIO_OE_HI_BITS]⟩
  , ⟨0x80410, 1, 0x4, 1, 0x4, fun _ _ => [PIN_GPIO_IN_LO_BITS]⟩
  , ⟨0x80414, 1, 0x4, 1, 0x4, fun _ _ => [PIN_GPIO_IN_HI_BITS]⟩
  , ⟨0x80420, 1, 0x4, 1, 0x4, fun _ _ => [PIN_STAT_CFGERR]⟩
  , ⟨0x80424, 1, 0x4, 1, 0x4, fun _ _ => [PIN_SWITCH_CNT_COUNT]⟩
  , ⟨0x80440, 1, 0x4, 1, 0x4, fun _ _ => [PIN_LTC_RX_LO_DATA]⟩
  , ⟨0x80444, 1, 0x4, 1, 0x4, fun _ _ => [PIN_LTC_RX_HI_DATA]⟩
  , ⟨0x80448, 1, 0x4, 1, 0x4, fun _ _ => [PIN_LTC_STAT_LOCK, PIN_LTC_STAT_ERR]⟩
  , ⟨0x8044C, 1, 0x4, 1, 0x4, fun _ _ => [PIN_LTC_CTL_AUTO]⟩
  , ⟨0x80450, 1, 0x4, 1, 0x4, fun _ _ => [PIN_LTC_TX_LO_DATA]⟩
  , ⟨0x80454, 1, 0x4, 1, 0x4, fun _ _ => [PIN_LTC_TX_HI_DATA]⟩
  , ⟨0x80500, 4, 0x10, 1, 0x4, fun u _ => [PIN_UART_CTL_DIV u, PIN_UART_CTL_EN u]⟩
  , ⟨0x80504, 4, 0x10, 1, 0x4, fun u _ => [PIN_UART_DATA_BYTE u, PIN_UART_DATA_VALID u]⟩
  , ⟨0x80508, 4, 0x10, 1, 0x4, fun u _ => [PIN_UART_STAT_TXLVL u, PIN_UART_STAT_RXLVL u, PIN_UART_STAT_OVF u]⟩
  , ⟨0x80600, 4, 0x10, 1, 0x4, fun b _ => [PIN_I2C_CMD_ADDR b, PIN_I2C_CMD_READ b, PIN_I2C_CMD_LEN b, PIN_I2C_CMD_SPEED b]⟩
  , ⟨0x80604, 4, 0x10, 1, 0x4, fun b _ => [PIN_I2C_DATA_BYTE b]⟩
  , ⟨0x80608, 4, 0x10, 1, 0x4, fun b _ => [PIN_I2C_STAT_BUSY b, PIN_I2C_STAT_NAK b, PIN_I2C_STAT_DONE b]⟩ ]

/-- The whole register map. -/
def regRows : List RegRow :=
  regRows0 ++ regRows1 ++ regRows2 ++ regRows3 ++ regRows4 ++ regRows5 ++ regRows6 ++ regRows7 ++ regRows8

/-- Does row r hold a register at address a? -/
def rowHas (r : RegRow) (a : Nat) : Bool :=
  r.base ≤ a && (a - r.base) / r.s1 < r.n1 && (a - r.base) % r.s1 / r.s2 < r.n2 && (a - r.base) % r.s1 % r.s2 == 0

/-- The fields of row r's register at address a. -/
def rowFlds (r : RegRow) (a : Nat) : List Fld := r.flds ((a - r.base) / r.s1) ((a - r.base) % r.s1 / r.s2)

/-- The fields of the register at address a in a list of rows. -/
def fldsIn : List RegRow → Nat → List Fld
  | [], _ => []
  | r :: rs, a => if rowHas r a then rowFlds r a else fldsIn rs a

/-- The fields of the register at address a; none where no register lies there (R9). -/
def fieldsAt (a : Nat) : List Fld := fldsIn regRows a

/-- Does a register lie at address a? -/
def hasRegister (a : Nat) : Bool := !(fieldsAt a).isEmpty

/-- The address of offset off in partition p's 64 KiB window. -/
def winAddr (p off : Nat) : Nat := 0x400000 + p * 0x10000 + off

end Sys2Proof.Machine
end

