-- ==== Sys2Proof/Machine/Ops.lean ====
section
/-! DEFINITION. The named operations every meaning goes through: the register store, free values, time, byte memories, hub
raises and fault sources. -/

namespace Sys2Proof.Machine

/-! ## Register store -/

/-- The value stored under a key, none when no cell has it. -/
def cellVal : List RegCell → Nat → Option Nat
  | [], _ => none
  | c :: cs, k => if c.key = k then some c.val else cellVal cs k

/-- The store without the cell of a key. -/
def cellErase : List RegCell → Nat → List RegCell
  | [], _ => []
  | c :: cs, k => if c.key = k then cs else c :: cellErase cs k

/-- The store with the cell c in place, keys kept rising. -/
def cellPut : List RegCell → RegCell → List RegCell
  | [], d => [d]
  | c :: cs, d =>
    if d.key < c.key then d :: c :: cs else if d.key = c.key then d :: cs else c :: cellPut cs d

/-- The value a field holds. -/
def get (s : State) (f : Fld) : Nat := (cellVal s.regs (fldKey f)).getD f.reset

/-- The store after a field takes a value, cut to the field's width; a value equal to the reset value leaves no cell. -/
def regsPut (r : List RegCell) (f : Fld) (v : Nat) : List RegCell :=
  if v % 2 ^ f.width = f.reset then cellErase r (fldKey f)
  else cellPut r { key := fldKey f, scope := f.scope, val := v % 2 ^ f.width }

/-- A field takes a value, cut to the field's width. -/
def put (s : State) (f : Fld) (v : Nat) : State := { s with regs := regsPut s.regs f v }

/-- Set a one-bit field. -/
def setF (s : State) (f : Fld) : State := put s f 1

/-- Clear a field. -/
def clrF (s : State) (f : Fld) : State := put s f 0

/-- Is a field not 0? -/
def isSet (s : State) (f : Fld) : Bool := get s f != 0

/-- A counter field adds n, saturating at its greatest value. -/
def bumpBy (s : State) (f : Fld) (n : Nat) : State := put s f (min (get s f + n) (2 ^ f.width - 1))

/-- A counter field adds one, saturating. -/
def bump (s : State) (f : Fld) : State := bumpBy s f 1

/-- A high-water field takes the greater of its value and v, saturating. -/
def putMax (s : State) (f : Fld) (v : Nat) : State := put s f (max (get s f) (min v (2 ^ f.width - 1)))

/-- A pair of fields takes the low and the high part of a value. -/
def put2 (s : State) (lo hi : Fld) (v : Nat) : State := put (put s lo v) hi (v / 2 ^ 32)

/-- A signed field takes an integer, two's complement. -/
def putInt (s : State) (f : Fld) (i : Int) : State := put s f (wrap f.width i)

/-- The signed value of a field. -/
def getInt (s : State) (f : Fld) : Int := sext f.width (get s f)

/-- The value in force of a staged field: its word of before, while a written one waits for its boundary (R79). -/
def getF (s : State) (f : Fld) : Nat :=
  match lookupKey s.intake.force f.addr with
  | some w => bits w f.lo f.width
  | none => get s f

/-- The value of a staged field that a frame is processed with (R79): old holds the words that its tick had and that a later boundary
has replaced. -/
def getOld (s : State) (old : List (Nat × Nat)) (f : Fld) : Nat :=
  match lookupKey old f.addr with
  | some w => bits w f.lo f.width
  | none => getF s f

/-! ## Free values and time -/

/-- The next free value: a value the spec leaves open. -/
def freeVal (s : State) : Nat := Config.free s.free

/-- The state after a free value is used. -/
def useFree (s : State) : State := { s with free := s.free + 1 }

/-- CYCLE moves on to the time of an event; it never moves back. -/
def stamp (s : State) (t : Nat) : State := { s with clk := max s.clk t }

/-- 1,200 cycles make a microsecond. -/
def usCycles : Nat := 1200

/-- 1,200,000 cycles make a millisecond. -/
def msCycles : Nat := 1200000

/-- Cycles in n nanoseconds, rounded up. -/
def nsCycles (n : Nat) : Nat := ceilDiv (n * 6) 5

/-- Whole nanoseconds in n cycles. -/
def cyclesNs (n : Nat) : Nat := n * 5 / 6

/-! ## Byte memories -/

/-- The byte at an address; an unlisted address reads as zero (log entry 6). -/
def memByte : Memory → Nat → Byte
  | [], _ => 0
  | (a, b) :: m, q => if a = q then b else memByte m q

/-- Memory without the cell of an address. -/
def memErase : Memory → Nat → Memory
  | [], _ => []
  | (a, b) :: m, q => if a = q then m else (a, b) :: memErase m q

/-- Memory with a cell put in its place, addresses kept rising. -/
def memPut : Memory → Nat → Byte → Memory
  | [], q, v => [(q, v)]
  | (a, b) :: m, q, v =>
    if q < a then (q, v) :: (a, b) :: m else if q = a then (q, v) :: m else (a, b) :: memPut m q v

/-- Write one byte, keeping the canonical form. -/
def memWrite (m : Memory) (a : Nat) (v : Byte) : Memory := if v = 0 then memErase m a else memPut m a v

/-- Read n bytes from an address. -/
def memRead (m : Memory) (a : Nat) : Nat → List Byte
  | 0 => []
  | n + 1 => memByte m a :: memRead m (a + 1) n

/-- Write bytes from an address on. -/
def memWriteAll (m : Memory) (a : Nat) : List Byte → Memory
  | [] => m
  | b :: bs => memWriteAll (memWrite m a b) (a + 1) bs

/-- Clear n bytes from address a. -/
def memClear (m : Memory) (a n : Nat) : Memory := m.filter fun c => c.1 < a || a + n ≤ c.1

/-- Addresses strictly rising. -/
def rising : Memory → Bool
  | [] => true
  | [_] => true
  | x :: y :: m => x.1 < y.1 && rising (y :: m)

/-- The canonical form of a memory. -/
def Memory.wf (m : Memory) : Bool := rising m && m.all fun c => c.2 != 0

/-! ## Frame store and scratch memory -/

/-- The frame store capacity in bytes (R409): 8, 16 or 32 GB. -/
def fsCapacity (s : State) : Nat := 2 ^ 33 * 2 ^ get s R.DRC_CFG_CAP

/-- Read n bytes from an address of a memory of which the capacity limits the top address bits. -/
def memReadWrap (m : Memory) (cap a : Nat) : Nat → List Byte
  | 0 => []
  | n + 1 => memByte m (a % cap) :: memReadWrap m cap (a + 1) n

/-- Write bytes from an address on, in a memory of which the capacity limits the top address bits. -/
def memWriteWrap (m : Memory) (cap a : Nat) : List Byte → Memory
  | [] => m
  | b :: bs => memWriteWrap (memWrite m (a % cap) b) cap (a + 1) bs

/-- Read n bytes of the frame store. The capacity limits the top bits of the address (R413): those above it select nothing
(DEDUCED, log entry 83). -/
def fsRead (s : State) (a n : Nat) : List Byte := memReadWrap s.fs (fsCapacity s) a n

/-- Write bytes to the frame store, the address limited as for a read. -/
def fsWrite (s : State) (a : Nat) (bs : List Byte) : State := { s with fs := memWriteWrap s.fs (fsCapacity s) a bs }

/-- Read n bytes of shared scratch memory. -/
def ssmRead (s : State) (a n : Nat) : List Byte := memRead s.ssm a n

/-- Write bytes to shared scratch memory. -/
def ssmWrite (s : State) (a : Nat) (bs : List Byte) : State := { s with ssm := memWriteAll s.ssm a bs }

/-! ## Modes -/

/-- Mode codes of R55. -/
def modeBOOT : Nat := 0
def modeBARE : Nat := 1
def modeDORMANT : Nat := 2
def modeIDLE : Nat := 3
def modePREVIEW : Nat := 4
def modeRECRAW : Nat := 5
def modeRECBE : Nat := 6
def modeRECLG : Nat := 7
def modeRECDUAL : Nat := 8
def modePLAY : Nat := 9
def modeOFFLOAD : Nat := 10
def modeMAINT : Nat := 11

/-- The mode in force. -/
def modeOf (s : State) : Nat := get s R.GLB_MODE_CUR

/-- Is block b of R515 gated? -/
def gated (s : State) (b : Nat) : Bool := bitAt (get s R.CLK_LP_STAT_GATED) b

/-- Is a mode code one of the four recording modes? -/
def isRec (m : Nat) : Bool := 5 ≤ m && m ≤ 8

/-- R55: does a mode permit traffic on a magazine queue? -/
def queuePermitted (m q : Nat) : Bool :=
  if m < modeIDLE then false
  else if q = 0 ∨ q = 6 ∨ q = 7 then true
  else if q = 1 then modeRECRAW ≤ m
  else if q = 2 then isRec m
  else if q = 3 then m == modeRECLG || m == modeRECDUAL
  else if q = 4 then m == modePLAY || m == modeMAINT
  else m == modeOFFLOAD || m == modeMAINT

/-- R51: does the level drop proxy frames? -/
def proxyDropped (s : State) : Bool :=
  1 ≤ get s R.TICK_OVR_LAST_LEVEL && (s.tick.policy == 0 || s.tick.policy == 2)

/-- Does the intake run in a mode (R55)? -/
def intakeOn (m : Nat) : Bool := (4 ≤ m && m ≤ 8) || m == modeMAINT

/-- Do the view pipeline and the monitor ports run in a mode (R55: MAINT has them on too)? -/
def viewsOn (m : Nat) : Bool := 4 ≤ m && m ≤ 11

/-- The units run: the internal reset is released, and the mode is neither BARE nor DORMANT. -/
def unitsRun (s : State) : Bool := !s.sup.held && modeOf s != modeBARE && modeOf s != modeDORMANT

/-- The units answer register accesses, but for the always-on block, only while they run (R525; log entry 72). -/
def answered (s : State) (o : Host.Outcome State Fault Refusal) : Host.Outcome State Fault Refusal := if unitsRun s then o else .next s

/-- Has the anchor acted (R71)? -/
def anchored (s : State) : Bool := isSet s R.GLB_MODE_ANCHORED

/-! ## Signal hub -/

/-- R361: a raise sets PEND of a source; source 0 is never raised (R359). -/
def raise (s : State) (src : Nat) : State := if src = 0 ∨ 1024 ≤ src then s else put s (R.HUB_PEND src) 1

/-- The number of per-partition source k of partition p (R359). -/
def partSource (p k : Nat) : Nat := 0x100 + 0x20 * p + k

/-- Raise per-partition source k of partition p. -/
def raiseP (s : State) (p k : Nat) : State := raise s (partSource p k)

/-- R342: P0 is present at all times, Pn while NumVFs is at least n. -/
def present (s : State) (p : Nat) : Bool := p == 0 || (s.host.vfOn && p < 8 && p ≤ s.host.numVfs)

/-- The configuration space of partition p's function. -/
def cfgOf (s : State) (p : Nat) : CfgSt := nth s.host.cfg p CfgSt.init

/-- Change the configuration space of partition p's function. -/
def modCfg (s : State) (p : Nat) (f : CfgSt → CfgSt) : State := { s with host := { s.host with cfg := modAt s.host.cfg p f } }

/-- May partition p's function send memory requests: Bus Master Enable is set and the function is in D0 (R340, R383, PCI Express). -/
def mayIssue (s : State) (p : Nat) : Bool := (cfgOf s p).master && !(cfgOf s p).d3hot

/-- R360: raise per-partition source k to every present partition. -/
def raiseAll (s : State) (k : Nat) : State := forN 8 (fun p s => if present s p then raiseP s p k else s) s

/-! Per-partition source numbers of R360. -/
def srcTickBoundary : Nat := 0
def srcTickOverrun : Nat := 1
def srcModeChanged : Nat := 2
def srcHaltMode : Nat := 3
def srcProgHalt : Nat := 4
def srcProgFault : Nat := 5
def srcJobDone : Nat := 6
def srcDecDamaged : Nat := 7
def srcEchoJobFail : Nat := 8
def srcSeqMigrated : Nat := 9
def srcXlateFault : Nat := 10
def srcRingErr : Nat := 11
def srcAccErr : Nat := 12

/-- CQ_DONE of completion ring r (R360). -/
def srcCqDone (r : Nat) : Nat := 16 + r

/-! Device source numbers of R360, R427, R505 and the unit chapters. -/
def hubModeRefused : Nat := 0x001
def hubAdmOvercommit : Nat := 0x002
def hubMapBad : Nat := 0x003
def hubFrameDmg : Nat := 0x004
def hubFifoOvf : Nat := 0x005
def hubFifoLevel : Nat := 0x006
def hubPartResetDone : Nat := 0x007
def hubErr : Nat := 0x008
def hubMovBusError : Nat := 0x040
def hubPoolLowEss : Nat := 0x041
def hubPoolLowGen : Nat := 0x042
def hubPoolFault : Nat := 0x043
def hubMovChFail (c : Nat) : Nat := 0x044 + c
def hubDrcFreqDone : Nat := 0x058
def hubDrcUe : Nat := 0x059
def hubDrcHot : Nat := 0x05A
def hubFltCorrectable : Nat := 0x0A0
def hubFltPartition : Nat := 0x0A1
def hubFltDevice : Nat := 0x0A2
def hubFltFatal : Nat := 0x0A3
def hubBelayTakeover : Nat := 0x0A4
def hubBelayStandbyLost : Nat := 0x0A5
def hubInjDone : Nat := 0x0A6

/-! ## Fault sources -/

/-- R488: FLT_FIRST records a device or fatal source while VALID is clear. -/
def fltFirst (s : State) (f : Nat) : State :=
  if isSet s R.FLT_FIRST_VALID then s
  else
    put2 (put (put (put s R.FLT_FIRST_SRC f) R.FLT_FIRST_CLASS (R.fltClassCode f)) R.FLT_FIRST_VALID 1)
      R.FLT_FIRST_TICK_LO_NO R.FLT_FIRST_TICK_HI_NO s.tick.no

/-- R488: the response of a source's class when its mask is clear. A fatal source's anchor acts in ANCHOR_ACT (R500). -/
def fltNotify (s : State) (f : Nat) : State :=
  match R.fltClassCode f with
  | 0 => raise (bump s R.FLT_CNT_CORR) hubFltCorrectable
  | 1 => raise (bump s R.FLT_CNT_PART) hubFltPartition
  | 2 => fltFirst (raise (bump s R.FLT_CNT_DEV) hubFltDevice) f
  | _ => fltFirst (bump s R.FLT_CNT_FATAL) f

/-- R488: a fault cause sets its status bit whatever the mask, and notifies by class when the mask is clear. An unassigned
number is ignored (R487). -/
def fault (s : State) (f : Nat) : State :=
  if R.fltAssigned f then
    let s := put s (R.FLT_STAT f) 1
    if isSet s (R.FLT_MASK f) then s else fltNotify s f
  else s

/-! Fault numbers of R487. -/
def fltMasterDrop : Nat := 0x00
def fltMasterLost : Nat := 0x01
def fltIntFifoUe : Nat := 0x02
def fltCkptBad : Nat := 0x03
def fltEchoRepeat : Nat := 0x04
def fltThermHot : Nat := 0x05
def fltThermCrit : Nat := 0x06
def fltClkFail : Nat := 0x07
def fltSupplyOor : Nat := 0x08
def fltDrcUe : Nat := 0x09
def fltDrcCe : Nat := 0x0A
def fltMovBus : Nat := 0x0B
def fltPoolBroken : Nat := 0x0C
def fltSsmCe : Nat := 0x0D
def fltSsmUe : Nat := 0x0E
def fltHostLink : Nat := 0x0F
def fltStrandFrayed (n : Nat) : Nat := 0x10 + n
def fltStrCe (n : Nat) : Nat := 0x28 + n
def fltSeqUe (n : Nat) : Nat := 0x40 + n
def fltSeqCe (n : Nat) : Nat := 0x44 + n
def fltBelaySilent (n : Nat) : Nat := 0x48 + n
def fltBlyCe : Nat := 0x4A
def fltProgFault (p : Nat) : Nat := 0x50 + p
def fltXlate (p : Nat) : Nat := 0x58 + p
def fltMagFailed (n : Nat) : Nat := 0x60 + 4 * n
def fltMagDropped (n : Nat) : Nat := 0x61 + 4 * n
def fltGaugeDisagree (n : Nat) : Nat := 0x62 + 4 * n
def fltLifeLow (n : Nat) : Nat := 0x63 + 4 * n
def fltIntEcc (n : Nat) : Nat := 0x70 + n
def fltAnchorActed : Nat := 0x80

end Sys2Proof.Machine
end

