-- ==== Sys2Proof/Machine/Xlate.lean ====
section
/-! DEFINITION. Translation of DMA addresses (R370 to R376, R561), host accesses in progress, and the completion side of the rings
(R347, R351, R355). A host access is translated page by page through the translation cache; a miss starts a walk, and the access
goes on when the walk has ended. -/

namespace Sys2Proof.Machine

/-- The outcome of translating one page of an access. -/
inductive XRes where
  /-- The access may be issued at this host address. -/
  | hit (pa : Nat)
  /-- The page is not in the cache. -/
  | miss
  /-- A translation fault: its cause, level and region (R373, R376). -/
  | flt (cause level region : Nat)
  deriving DecidableEq, Repr

/-- The REQ code of R376. -/
def reqCode : HostReq → Nat
  | .ringFetch _ _ => 1
  | .complete _ => 2
  | .image _ _ => 3
  | .load _ _ => 4
  | .store _ => 4
  | .jobDesc _ _ => 4
  | .record _ => 4
  | .moverFetch _ => 5
  | .moverRead _ => 5
  | .moverWrite _ => 5
  | .moverStat _ => 5
  | .magDirect _ _ => 6

/-- The UNIT of R376: the ring, sequencer or mover channel concerned; for a host-direct transfer the port (log entry 14). -/
def reqUnit : HostReq → Nat
  | .ringFetch r _ => r
  | .complete r => r
  | .image q _ => q
  | .load q _ => q
  | .store q => q
  | .jobDesc q _ => q
  | .record q => q
  | .moverFetch c => c
  | .moverRead c => c
  | .moverWrite c => c
  | .moverStat c => c
  | .magDirect n _ => n

/-- Does an address lie in [base, base + n)? -/
def within (base : Option Nat) (n a : Nat) : Bool :=
  match base with
  | none => false
  | some b => b ≤ a && a < b + n

/-- The base of an enabled I/O window. -/
def ioWinBase (s : State) (i : Nat) : Option Nat :=
  if isSet s (R.IOM_IOWIN_LO_EN i) then
    some (2 ^ 12 * get s (R.IOM_IOWIN_LO_ADDR i) + 2 ^ 32 * get s (R.IOM_IOWIN_HI_ADDR i))
  else none

/-- R374, R376: the device region an address falls in: 0 to 15 an I/O window, 16 PF BAR0, 17 PF BAR2, 18 the VF BARs. -/
def regionOf (s : State) (a : Nat) : Option Nat :=
  match firstIdx (fun i => within (ioWinBase s i) (4096 * get s (R.IOM_IOWIN_SIZE_PAGES i)) a) 0 16 with
  | some i => some i
  | none =>
    if within s.host.bar0 0x400000 a then some 16
    else if within s.host.bar2 0x10000 a then some 17
    else if within s.host.vfBar (0x10000 * s.host.numVfs) a then some 18
    else none

/-- The root table of partition p. -/
def rootOf (s : State) (p : Nat) : Nat := 2 ^ 12 * get s (R.IOM_ROOT_LO_ADDR p) + 2 ^ 32 * get s (R.IOM_ROOT_HI_ADDR p)

/-- The cache entry of a page. -/
def cacheFind (s : State) (p page : Nat) : Option CacheEnt := s.host.cache.find? fun e => e.part == p && e.page == page

/-- R561 step 4: the check of the page a leaf maps. -/
def leafCheck (s : State) (e : CacheEnt) (addr : Nat) (write : Bool) : XRes :=
  let pa := 4096 * e.frame + addr % 4096
  match regionOf s (4096 * e.frame) with
  | some r =>
    if e.peer && bitAt (get s R.IOM_CTL_PEER) e.part then
      (if (if write then e.w else e.r) then .hit pa else .flt 2 1 31)
    else .flt 6 0 r
  | none => if (if write then e.w else e.r) then .hit pa else .flt 2 1 31

/-- R561: translate one address, from the cache alone. -/
def xlate (s : State) (p addr : Nat) (write : Bool) : XRes :=
  if ¬ isSet s (R.IOM_ROOT_LO_EN p) then .flt 8 0 31
  else if 2 ^ 48 ≤ addr then .flt 7 0 31
  else match cacheFind s p (addr / 4096) with
    | some e => leafCheck s e addr write
    | none =>
      match regionOf s (rootOf s p) with
      | some r => .flt 5 0 r
      | none => .miss

/-- Change partition p's host interface. -/
def modPH (s : State) (p : Nat) (f : PartHost → PartHost) : State :=
  { s with host := { s.host with part := modAt s.host.part p f } }

/-- Partition p's host interface. -/
def phOf (s : State) (p : Nat) : PartHost := nth s.host.part p PartHost.init

/-- R376: a translation fault is recorded, or counted when the queue is full; XLATE of the partition sets (R487). -/
def xfault (s : State) (p addr : Nat) (write : Bool) (req : HostReq) (cause level region : Nat) : State :=
  let q := (phOf s p).faults
  let e : XFault := { addr := addr, cause := cause, level := level, write := write, req := reqCode req,
                      unit := reqUnit req, region := region }
  let s := fault s (fltXlate p)
  if q.length < 16 then
    let s := modPH s p (fun h => { h with faults := h.faults ++ [e] })
    if q.isEmpty then raiseP s p srcXlateFault else s
  else bump s (R.PW_FQ_LOST_COUNT p)

/-- R375: a miss starts a walk from the root, shared by every request for the page. -/
def startWalk (s : State) (p page : Nat) : State :=
  if s.host.walks.any (fun w => w.part == p && w.page == page) then s
  else
    let w : Walk := { part := p, page := page, level := 4, entry := rootOf s p + 8 * bits (4096 * page) 39 9, again := false }
    bump { s with host := { s.host with walks := s.host.walks ++ [w] } } R.IOM_WALK_CNT_COUNT

/-! ## Host accesses -/

/-- Queue a host access. A partition that is not present makes none (R342). -/
def startOp (s : State) (p : Nat) (req : HostReq) (addr len : Nat) (write : Bool) (bytes : List Byte) : State :=
  let o : HostOp := { id := s.host.nextOp, part := p, req := req, addr := addr, len := len, write := write, bytes := bytes,
                      done := 0, missed := false, issued := false, reqs := 0, dead := false }
  { s with host := { s.host with ops := if present s p then s.host.ops ++ [o] else s.host.ops, nextOp := s.host.nextOp + 1 } }

/-- Remove an access. -/
def dropOp (s : State) (id : Nat) : State :=
  { s with host := { s.host with ops := s.host.ops.filter fun o => o.id != id } }

/-- Replace an access. -/
def setOp (s : State) (o : HostOp) : State :=
  { s with host := { s.host with ops := s.host.ops.map fun x => if x.id = o.id then o else x } }

/-- Bytes of an access that lie in the page it has reached. -/
def pageLen (o : HostOp) : Nat := min (o.len - o.done) (4096 - (o.addr + o.done) % 4096)

/-- Is a request a data write, which may carry Relaxed Ordering (R340)? Completion entries, records and status words do not. -/
def dataWrite : HostReq → Bool
  | .store _ => true
  | .moverWrite _ => true
  | .magDirect _ _ => true
  | _ => false

/-- The largest payload of a memory write of partition p's function: Max_Payload_Size, up to 512 bytes (R340). -/
def maxPayload (s : State) (p : Nat) : Nat := 128 * 2 ^ min 2 (bits (cfgOf s p).devCtl 5 3)

/-- The largest read request of partition p's function: Max_Read_Request_Size, up to 4,096 bytes (R340). -/
def maxRequest (s : State) (p : Nat) : Nat := 128 * 2 ^ min 5 (bits (cfgOf s p).devCtl 12 3)

/-- Is No Snoop set in the leaf of a page (R372)? -/
def noSnoop (s : State) (p addr : Nat) : Bool :=
  match cacheFind s p (addr / 4096) with
  | some e => e.ns
  | none => false

/-- The messages that carry one translated page of an access, each of at most Max_Payload_Size or Max_Read_Request_Size bytes
(R340). -/
def pieceMsgs (s : State) (o : HostOp) (pa : Nat) : List HostMsg :=
  let n := pageLen o
  let ns := noSnoop s o.part (o.addr + o.done)
  if o.write then
    let k := maxPayload s o.part
    let ro := dataWrite o.req && bitAt (cfgOf s o.part).devCtl 4
    (List.range (ceilDiv n k)).map fun i => .write o.part (pa + k * i) ((o.bytes.drop (o.done + k * i)).take (min k (n - k * i))) ro ns
  else
    let k := maxRequest s o.part
    (List.range (ceilDiv n k)).map fun i => .read o.part (pa + k * i) (min k (n - k * i)) ns

/-- Non-posted requests outstanding (R340): those of each access's latest page, and one for each walk. -/
def outstanding (s : State) : Nat := (s.host.ops.map fun o => o.reqs).sum + s.host.walks.length

/-- Non-posted requests that the next page of an access needs: its read requests, or one for a walk. -/
def requestsFor (s : State) (o : HostOp) : Nat :=
  match xlate s o.part (o.addr + o.done) o.write with
  | .miss => 1
  | _ => if o.write then 0 else ceilDiv (pageLen o) (maxRequest s o.part)

/-! ## Completions -/

/-- Change one submission ring's state. -/
def modSq (s : State) (p r : Nat) (f : SqSt → SqSt) : State := modPH s p (fun h => { h with sq := modAt h.sq r f })

/-- One submission ring's state. -/
def sqOf (s : State) (p r : Nat) : SqSt := nth (phOf s p).sq r { open_ := 0, credit := 0, visit := none, again := false }

/-- Change one completion ring's state. -/
def modCq (s : State) (p r : Nat) (f : CqSt → CqSt) : State := modPH s p (fun h => { h with cq := modAt h.cq r f })

/-- One completion ring's state. -/
def cqOf (s : State) (p r : Nat) : CqSt := nth (phOf s p).cq r { gen := 0, used := 0, resv := 0 }

/-- R355: an entry of a submission ring finishes; IDLE sets with the last one. -/
def sqFinish (s : State) (p r : Nat) : State :=
  let s := modSq s p r (fun q => { q with open_ := q.open_ - 1 })
  if (sqOf s p r).open_ = 0 then setF s (R.PW_SQ_STAT_IDLE p r) else s

/-- Entries of a ring whose LOG2N field is l. -/
def ringSize (l : Nat) : Nat := 2 ^ l

/-- The base address of completion ring r. -/
def cqBase (s : State) (p r : Nat) : Nat := 2 ^ 12 * get s (R.PW_CQ_BASE_LO_ADDR p r) + 2 ^ 32 * get s (R.PW_CQ_BASE_HI_ADDR p r)

/-- The base address of submission ring r. -/
def sqBase (s : State) (p r : Nat) : Nat := 2 ^ 12 * get s (R.PW_SQ_BASE_LO_ADDR p r) + 2 ^ 32 * get s (R.PW_SQ_BASE_HI_ADDR p r)

/-- R347: the 16 bytes of a completion entry for submission ring sq and completion ring cq, written now. -/
def complBytes (s : State) (p sq cq id status result : Nat) : List Byte :=
  leBytes 8 result ++ leBytes 2 id ++ leBytes 2 (get s (R.PW_SQ_STAT_TAKEN p sq)) ++
    [BitVec.ofNat 8 status, BitVec.ofNat 8 sq, 0, BitVec.ofNat 8 (get s (R.PW_CQ_STAT_SENSE p cq))]

/-- A completion entry that waits takes the tail's address, and the TAKEN index and sense of the time it is written (R347, R348). -/
def complFill (s : State) (o : HostOp) (cq : Nat) : HostOp :=
  { o with addr := cqBase s o.part cq + 16 * get s (R.PW_CQ_STAT_TAIL o.part cq)
           bytes := complBytes s o.part (leAt o.bytes 13 1) cq (leAt o.bytes 8 2) (leAt o.bytes 12 1) (leAt o.bytes 0 8) }

/-- R351: a completion entry has been written: the tail moves on, and the sense flips at the wrap. -/
def complWritten (s : State) (p cq : Nat) : State :=
  let t := get s (R.PW_CQ_STAT_TAIL p cq)
  let s := modCq s p cq (fun q => { q with used := q.used + 1, resv := q.resv - 1 })
  if t + 1 < ringSize (get s (R.PW_CQ_CFG_LOG2N p cq)) then put s (R.PW_CQ_STAT_TAIL p cq) (t + 1)
  else put (put s (R.PW_CQ_STAT_TAIL p cq) 0) (R.PW_CQ_STAT_SENSE p cq) (1 - get s (R.PW_CQ_STAT_SENSE p cq))

/-- Is an access a completion entry of ring r of partition p that is still to be written? -/
def complOp (p r : Nat) (o : HostOp) : Bool := o.part == p && o.req == .complete r

/-- R355: a completion ring is disabled: the completions that wait for it are discarded and counted. -/
def cqStop (s : State) (p r : Nat) : State :=
  let n := (s.host.ops.filter (complOp p r)).length
  bumpBy { clrF s (R.PW_CQ_CTL_EN p r) with host := { s.host with ops := s.host.ops.filter fun o => !complOp p r o } } (R.PW_CQ_DROP_COUNT p r) n

/-- R347, R348, R351: a command finishes with a status and a result. Its completion entry waits to be written at the ring's tail, or is
discarded and counted when the ring is disabled or was when the entry was taken (R355). Nothing is written once the anchor has
acted (R501); a command of a partition that has been reset since it was taken ends without one (R381). -/
def complete (s : State) (c : RingCmd) (status result : Nat) : State :=
  if 8 ≤ c.part then s
  else
  let s := sqFinish s c.part c.sq
  if anchored s then s
  else if isSet s (R.PW_CQ_CTL_EN c.part c.cq) && c.resv == some (cqOf s c.part c.cq).gen then
    startOp s c.part (.complete c.cq) (cqBase s c.part c.cq) 16 true (complBytes s c.part c.sq c.cq c.id status result)
  else bump s (R.PW_CQ_DROP_COUNT c.part c.cq)

/-! Ring statuses of R358. -/
def stOK : Nat := 0
def stBadOpcode : Nat := 1
def stBadField : Nat := 2
def stPrivDenied : Nat := 3
def stNotReady : Nat := 4
def stXlate : Nat := 5

/-- The oldest command of opcode opc and identifier id that was taken from ring r of partition p. -/
def findCmd (s : State) (p r id opc : Nat) : Option RingCmd :=
  s.host.cmds.find? fun c => c.part == p && c.sq == r && c.id == id && c.opc == opc

/-- Remove a command from the list of commands taken: the oldest equal to it. -/
def dropCmd (s : State) (c : RingCmd) : State := { s with host := { s.host with cmds := s.host.cmds.erase c } }

/-- Carry out the command of opcode opc and identifier id taken from ring r of partition p; nothing happens when none waits. -/
def withCmd (s : State) (p r id opc : Nat) (f : RingCmd → State → State) : State :=
  match findCmd s p r id opc with
  | none => s
  | some c => f c (dropCmd s c)

end Sys2Proof.Machine
end

