-- ==== Sys2Proof/Machine/SeqCore.lean ====
section
/-! DEFINITION. The sequencers' shared operations (R275 to R286, R302 to R308, R311 to R328): program headers, slot pairs, the pick,
cycle charges, store buffers, program faults, tags, timers, edge detectors, doorbells and the waking of blocked programs. -/

namespace Sys2Proof.Machine

/-! ## Access to the nested state -/

def seqOf (s : State) (q : Nat) : SeqSt := nth s.seqs.seq q SeqSt.init
def pairOf (s : State) (q p : Nat) : PairSt := nth (seqOf s q).pair p PairSt.init
def partOf (s : State) (p : Nat) : PartSt := nth s.seqs.part p PartSt.init

/-- Change sequencer q. -/
def modSeq (s : State) (q : Nat) (f : SeqSt → SeqSt) : State :=
  { s with seqs := { s.seqs with seq := modAt s.seqs.seq q f } }

/-- Change pair p of sequencer q. -/
def modPair (s : State) (q p : Nat) (f : PairSt → PairSt) : State := modSeq s q (fun x => { x with pair := modAt x.pair p f })

/-- Change what belongs to partition p. -/
def modPart (s : State) (p : Nat) (f : PartSt → PartSt) : State :=
  { s with seqs := { s.seqs with part := modAt s.seqs.part p f } }

/-- The partition that owns a pair (R275). -/
def ownerOf (s : State) (q p : Nat) : Nat := get s (R.SEQ_PAIR_OWNER_PART q p)

/-- Is a pair given to a partition? -/
def pairValid (s : State) (q p : Nat) : Bool := isSet s (R.SEQ_PAIR_OWNER_VALID q p)

/-- SEQ_PAIR_STAT.STATE of R310. -/
def stEmpty : Nat := 0
def stBlocked : Nat := 1
def stRunnable : Nat := 2
def stRunning : Nat := 3
def stHalted : Nat := 4
def stFaulted : Nat := 5
def stByMode : Nat := 6

/-- The state of a pair's active program. -/
def progState (s : State) (q p : Nat) : Nat := get s (R.SEQ_PAIR_STAT_STATE q p)

/-- The active image of a pair. -/
def activeImage (s : State) (q p : Nat) : Option (List Byte) :=
  if get s (R.SEQ_PAIR_STAT_ACTIVE q p) = 0 then (pairOf s q p).slot0 else (pairOf s q p).slot1

/-- The standby image of a pair. -/
def standbyImage (s : State) (q p : Nat) : Option (List Byte) :=
  if get s (R.SEQ_PAIR_STAT_ACTIVE q p) = 0 then (pairOf s q p).slot1 else (pairOf s q p).slot0

/-- Put an image into the standby slot. -/
def setStandby (s : State) (q p : Nat) (i : Option (List Byte)) : State :=
  if get s (R.SEQ_PAIR_STAT_ACTIVE q p) = 0 then modPair s q p (fun x => { x with slot1 := i })
  else modPair s q p (fun x => { x with slot0 := i })

/-- Put an image into the active slot. -/
def setActive (s : State) (q p : Nat) (i : Option (List Byte)) : State :=
  if get s (R.SEQ_PAIR_STAT_ACTIVE q p) = 0 then modPair s q p (fun x => { x with slot0 := i })
  else modPair s q p (fun x => { x with slot1 := i })

/-! ## Program header (R281) -/

def hdrMagic (i : List Byte) : Nat := leAt i 0 4
def hdrVersion (i : List Byte) : Nat := leAt i 4 2
def hdrBytes (i : List Byte) : Nat := leAt i 6 2
def hdrCode (i : List Byte) : Nat := leAt i 8 4
def hdrEntry (i : List Byte) : Nat := leAt i 12 4
def hdrModes (i : List Byte) : Nat := leAt i 0x10 2
def hdrPolicy (i : List Byte) : Nat := leAt i 0x12 1
def hdrFlags (i : List Byte) : Nat := leAt i 0x13 1
def hdrMasterPorts (i : List Byte) : Nat := leAt i 0x14 1
def hdrProxyPorts (i : List Byte) : Nat := leAt i 0x15 1
def hdrRingMin (i : List Byte) : Nat := leAt i 0x16 1
def hdrTimerPolicy (i : List Byte) : Nat := leAt i 0x18 4
def hdrSamples (i : List Byte) : Nat := leAt i 0x20 8
def hdrDram (i : List Byte) : Nat := leAt i 0x28 8
def hdrCycles (i : List Byte) : Nat := leAt i 0x30 8
def hdrMagQ2 (i : List Byte) (n : Nat) : Nat := leAt i (0x38 + 8 * n) 8
def hdrMagQ3 (i : List Byte) (n : Nat) : Nat := leAt i (0x58 + 8 * n) 8
/-- LAT[k]: requestor port and requirement in ns. -/
def hdrLatPort (i : List Byte) (k : Nat) : Nat := leAt i (0x78 + 4 * k) 2
def hdrLatNs (i : List Byte) (k : Nat) : Nat := leAt i (0x7A + 4 * k) 2
/-- WIN[w]: BASE and SIZE (R283). -/
def hdrWinBase (i : List Byte) (w : Nat) : Nat := leAt i (0x98 + 16 * w) 8
def hdrWinSize (i : List Byte) (w : Nat) : Nat := leAt i (0xA0 + 16 * w) 8
def hdrCrc (i : List Byte) : Nat := leAt i 0x1FC 4

/-- The MASTER and PROXY flags. -/
def hdrMaster (i : List Byte) : Bool := bitAt (hdrFlags i) 0
def hdrProxy (i : List Byte) : Bool := bitAt (hdrFlags i) 1

/-- The code word at byte offset pc. -/
def codeWord (i : List Byte) (pc : Nat) : Nat := leAt i (512 + pc) 4

/-- May the program run in mode m? -/
def runsIn (i : List Byte) (m : Nat) : Bool := bitAt (hdrModes i) m

/-- Ports set in a four-bit mask. -/
def countPorts (m : Nat) : Nat := b2n (bitAt m 0) + b2n (bitAt m 1) + b2n (bitAt m 2) + b2n (bitAt m 3)

/-! ## Partition areas (R286, R378) -/

/-- Base and size in bytes of a partition's SSM allocation. -/
def ssmBase (s : State) (p : Nat) : Nat := 4096 * get s (R.PRT_SSM_BASE p)
def ssmSize (s : State) (p : Nat) : Nat := 4096 * get s (R.PRT_SSM_SIZE p)

/-- Base and size in bytes of a partition's frame store area in force. -/
def fsBase (s : State) (p : Nat) : Nat := nth s.areas p (0, 0) |>.1
def fsSize (s : State) (p : Nat) : Nat := nth s.areas p (0, 0) |>.2

/-- Do n bytes from SSM address a lie in the partition's allocation? -/
def ssmIn (s : State) (p a n : Nat) : Bool := a + n ≤ ssmSize s p

/-- Do n bytes from frame store address a lie in the partition's area? -/
def fsIn (s : State) (p a n : Nat) : Bool := fsBase s p ≤ a && a + n ≤ fsBase s p + fsSize s p

/-! ## Cycles and the pick -/

/-- R280: SLOTLEFT. -/
def slotLeft (s : State) (q p : Nat) : Nat :=
  match activeImage s q p with
  | none => 0
  | some i => hdrCycles i - (pairOf s q p).charged

/-- The sequencer share of a partition in force this tick (R320). -/
def seqShare (s : State) (part q : Nat) : Nat := nth s.seqs.shareQ (4 * part + q) 0

/-- R279: count a tick in which a program runs with SLOTLEFT at zero, once a tick. -/
def noteExcess (s : State) (q p : Nat) : State :=
  if slotLeft s q p = 0 ∧ (pairOf s q p).excess = false then
    bump (modPair s q p (fun y => { y with excess := true })) (R.SEQ_PAIR_EXCESS_CNT_COUNT q p)
  else s

/-- R279, R280: charge cycles to the program of pair p on sequencer q; one that goes on with SLOTLEFT at zero counts in EXCESS. -/
def charge (s : State) (q p n : Nat) : State :=
  let o := ownerOf s q p
  let s := noteExcess s q p
  modSeq s q (fun x => { x with quantum := x.quantum + n, charged := modAt x.charged o (· + n),
                                pair := modAt x.pair p (fun y => { y with charged := y.charged + n }) })

/-- Does partition a rank before b on sequencer q (R279: lowest ratio of cycles charged to share; share 0 last)? -/
def ranksBefore (s : State) (q a b : Nat) : Bool :=
  let ca := nth (seqOf s q).charged a 0
  let cb := nth (seqOf s q).charged b 0
  let sa := seqShare s a q
  let sb := seqShare s b q
  if sa = 0 then (sb = 0 && (ca < cb || (ca == cb && a < b)))
  else if sb = 0 then true
  else ca * sb < cb * sa || (ca * sb == cb * sa && a < b)

/-- Is pair p of sequencer q runnable, in class 1 (SLOTLEFT above zero) or class 2? A program being migrated is not (R335), nor one
that a migration moved while it was stalled (R305). -/
def runnableIn (s : State) (q : Nat) (class1 : Bool) (p : Nat) : Bool :=
  progState s q p == stRunnable && !(pairOf s q p).moving && (pairOf s q p).stall.isNone &&
    (if class1 then 0 < slotLeft s q p else slotLeft s q p == 0)

/-- Has partition o a runnable program of the class? -/
def partHas (s : State) (q : Nat) (class1 : Bool) (o : Nat) : Bool :=
  (List.range 8).any fun p => runnableIn s q class1 p && ownerOf s q p == o

/-- The partition that the pick chooses in a class. -/
def pickPart (s : State) (q : Nat) (class1 : Bool) : Option Nat :=
  (List.range 8).foldl (fun m o => if partHas s q class1 o then
    (match m with | none => some o | some b => if ranksBefore s q o b then some o else some b) else m) none

/-- The next pair of partition o in round robin after the one it last ran. -/
def pickPair (s : State) (q : Nat) (class1 : Bool) (o : Nat) : Option Nat :=
  let l := nth (seqOf s q).lastRun o 0
  let ok := fun p => runnableIn s q class1 p && ownerOf s q p == o
  match firstIdx ok (l + 1) (7 - l) with
  | some p => some p
  | none => firstIdx ok 0 (l + 1)

/-- The pair R279 picks. -/
def pickNext (s : State) (q : Nat) : Option Nat :=
  match pickPart s q true with
  | some o => pickPair s q true o
  | none => match pickPart s q false with
    | some o => pickPair s q false o
    | none => none

/-- Is a sequencer offline (R337)? -/
def offline (s : State) (q : Nat) : Bool := bitAt (get s R.SEQ_OFFLINE_MASK) q

/-- An idle, online sequencer takes the program that R279 picks; its quantum starts. -/
def pick (s : State) (q : Nat) : State :=
  if (seqOf s q).cur.isSome ∨ offline s q ∨ gated s (18 + q) then s
  else match pickNext s q with
    | none => s
    | some p =>
      let s := put s (R.SEQ_PAIR_STAT_STATE q p) stRunning
      let o := ownerOf s q p
      let s := modSeq s q (fun x => { x with cur := some p, quantum := 0, lastRun := setAt x.lastRun o p })
      noteExcess s q p

/-! ## Store buffers (R312, R313, R317) -/

/-- The oldest store of pair p becomes visible to all sequencers. -/
def drainOne (s : State) (q p : Nat) : State :=
  match (pairOf s q p).sbuf with
  | [] => s
  | b :: bs => ssmWrite (modPair s q p (fun y => { y with sbuf := bs })) b.addr b.bytes

/-- Every store of pair p becomes visible, in program order. -/
def drainAll (s : State) (q p : Nat) : State :=
  let bs := (pairOf s q p).sbuf
  let s := modPair s q p (fun y => { y with sbuf := [] })
  bs.foldl (fun s b => ssmWrite s b.addr b.bytes) s

/-- Pair p leaves its sequencer in a new state: its stores drain (R317), and the sequencer picks again. -/
def leave (s : State) (q p st : Nat) : State :=
  let s := put (drainAll s q p) (R.SEQ_PAIR_STAT_STATE q p) st
  let s := modSeq s q (fun x => if x.cur = some p then { x with cur := none } else x)
  pick s q

/-! ## Faults and halts -/

/-- R306: the program of pair p faults at pc with a cause and a faulting address. -/
def progFault (s : State) (q p cause pc addr : Nat) : State :=
  let o := ownerOf s q p
  let s := put (put (put s (R.SEQ_PAIR_FAULT_CAUSE q p) cause) (R.SEQ_PAIR_FAULT_PC q p) pc) (R.SEQ_PAIR_FAULT_CODE q p) 0
  let s := put2 s (R.SEQ_PAIR_FADDR_LO_ADDR q p) (R.SEQ_PAIR_FADDR_HI_ADDR q p) addr
  let s := modPair s q p (fun y => { y with pc := pc, wait := none, stall := none })
  let s := fault (raiseP s o srcProgFault) (fltProgFault o)
  leave s q p stFaulted

/-- Has the active program of pair p run past the last word of its code (R306)? -/
def pastEnd (s : State) (q p : Nat) : Bool :=
  match activeImage s q p with
  | none => false
  | some i => hdrCode i ≤ (pairOf s q p).pc

/-! ## General registers -/

/-- R284: a general register; g0 reads zero. -/
def greg (s : State) (q p r : Nat) : Nat := if r = 0 then 0 else nth (pairOf s q p).gregs r 0

/-- R284: write a general register; a write to g0 is discarded. -/
def setGreg (s : State) (q p r v : Nat) : State :=
  if r = 0 then s else modPair s q p (fun y => { y with gregs := setAt y.gregs r (v % 2 ^ 64) })

/-! ## Waking (R302, R328) -/

/-- A blocked program's wait returns a value: rd is written and the program becomes runnable; an idle sequencer picks it up. -/
def wake (s : State) (q p v : Nat) : State :=
  match (pairOf s q p).wait with
  | none => s
  | some w =>
    let s := setGreg s q p w.rd v
    let s := modPair s q p (fun y => { y with wait := none, pc := y.pc + 4 })
    let s := put s (R.SEQ_PAIR_STAT_STATE q p) stRunnable
    if pastEnd s q p then progFault s q p 1 (pairOf s q p).pc (pairOf s q p).pc else pick s q

/-- Is pair i (8q + p) of partition o waiting on an object of a kind? -/
def waitsOn (s : State) (o kind obj i : Nat) : Option Nat :=
  if ownerOf s (i / 8) (i % 8) = o ∧ progState s (i / 8) (i % 8) = stBlocked then
    match (pairOf s (i / 8) (i % 8)).wait with
    | some w => if w.kind = kind ∧ w.obj = obj then some w.order else none
    | none => none
  else none

/-- R328: the program of partition o that began waiting on an object first, moving or not. -/
def waiterOf (s : State) (o kind obj : Nat) : Option Nat :=
  ((List.range 32).foldl (fun (m : Option (Nat × Nat)) i =>
    match waitsOn s o kind obj i, m with
    | some n, none => some (n, i)
    | some n, some (n', i') => if n < n' then some (n, i) else some (n', i')
    | none, m => m) none).map (·.2)

/-- R335: is what is posted on an object held for a program that a migration moves? -/
def heldFor (s : State) (o kind obj : Nat) : Bool :=
  match waiterOf s o kind obj with
  | some i => (pairOf s (i / 8) (i % 8)).moving
  | none => false

/-- R328, R335: the program that receives what is posted on an object now; none while the first to wait is being moved. -/
def firstWaiter (s : State) (o kind obj : Nat) : Option Nat := if heldFor s o kind obj then none else waiterOf s o kind obj

/-- The value -n of a 64-bit register. -/
def neg64 (n : Nat) : Nat := 2 ^ 64 - n

/-! ## Tags -/

/-- R302: a tag becomes outstanding at its ISSUE or SPOOL; a held post of it is lost. -/
def tagIssue (s : State) (o tag : Nat) : State := modPart s o (fun x => { x with tags := insertKey x.tags tag false })

/-- R302: a tag is posted and wakes the first waiter, which consumes the post. Posts of a partition in reset are suppressed
(R381). -/
def tagPost (s : State) (o tag : Nat) : State :=
  match lookupKey (partOf s o).tags tag with
  | none => s
  | some _ =>
    match firstWaiter s o 1 tag with
    | some i => wake (modPart s o (fun x => { x with tags := eraseKey x.tags tag })) (i / 8) (i % 8) 0
    | none => modPart s o (fun x => { x with tags := insertKey x.tags tag true })

/-! ## Doorbells -/

/-- R302: one more ring of a program doorbell, saturating at 255; the first waiter consumes the pending count. -/
def bellRing (s : State) (o k : Nat) : State :=
  let n := min (nth (partOf s o).bells k 0 + 1) 255
  match firstWaiter s o 4 k with
  | some i => wake (modPart s o (fun x => { x with bells := setAt x.bells k 0 })) (i / 8) (i % 8) n
  | none => modPart s o (fun x => { x with bells := setAt x.bells k n })

/-! ## Timers (R321 to R324) -/

def timerOf (s : State) (o t : Nat) : Timer := nth (partOf s o).timers t { c0 := 0, k := 0, due := none, lost := 0 }

/-- Change a timer. -/
def modTimer (s : State) (o t : Nat) (f : Timer → Timer) : State :=
  modPart s o (fun x => { x with timers := modAt x.timers t f })

/-- The TSET mode in force. -/
def tmrMode (s : State) (o t : Nat) : Nat := get s (R.TICK_TMR_STAT_MODE o t)

/-- The TSET value ra of a timer. -/
def tmrNs (s : State) (o t : Nat) : Nat := get s (R.TICK_TMR_NS_LO_NS o t) + 2 ^ 32 * get s (R.TICK_TMR_NS_HI_NS o t)

/-- R323, R324: n expiries are lost. -/
def tmrLose (s : State) (o t n : Nat) : State :=
  modTimer (bumpBy s (R.TICK_TMR_LOST_COUNT o t) n) o t (fun x => { x with lost := x.lost + n })

/-- R323: one expiry, pending or lost, and the waking of the first waiter. -/
def tmrExpire (s : State) (o t : Nat) : State :=
  let n := get s (R.TICK_TMR_STAT_PEND o t)
  if n = 255 then tmrLose s o t 1
  else match firstWaiter s o 2 t with
    | some i => wake (put s (R.TICK_TMR_STAT_PEND o t) 0) (i / 8) (i % 8) (n + 1)
    | none => put s (R.TICK_TMR_STAT_PEND o t) (n + 1)

/-- R324: pending and scheduled expiries are discarded and counted as lost; the timer is left idle. -/
def tmrCancel (s : State) (o t : Nat) : State :=
  let n := get s (R.TICK_TMR_STAT_PEND o t) + b2n (tmrMode s o t != 0)
  let s := if n = 0 then s else tmrLose s o t n
  let s := put (put s (R.TICK_TMR_STAT_PEND o t) 0) (R.TICK_TMR_STAT_MODE o t) 0
  let s := put (put s (R.TICK_TMR_NS_LO_NS o t) 0) (R.TICK_TMR_NS_HI_NS o t) 0
  modTimer s o t (fun x => { x with c0 := 0, k := 0, due := none })

/-- R321: the cycles of a duration in ns. -/
def nsToCycles (ns : Nat) : Nat := ceilDiv (ns * 6) 5

/-- R321, R322: load a timer in a mode with ra ns at cycle c. -/
def tmrLoad (s : State) (o t mode ns c : Nat) : State :=
  let s := tmrCancel s o t
  let s := put (put2 s (R.TICK_TMR_NS_LO_NS o t) (R.TICK_TMR_NS_HI_NS o t) ns) (R.TICK_TMR_STAT_MODE o t) mode
  modTimer s o t (fun x => { x with c0 := c, k := 1, due := if mode ≤ 2 then some (c + nsToCycles ns) else none })

/-- The schedule of a timer after an expiry (R321, R322): one-shots go idle, a periodic timer counts k on, and mode 4 waits for the
next tick event. -/
def tmrNext (s : State) (o t : Nat) : State :=
  match tmrMode s o t with
  | 2 =>
    let ns := tmrNs s o t
    modTimer s o t (fun x => { x with k := x.k + 1, due := some (x.c0 + nsToCycles ((x.k + 1) * ns)) })
  | 4 => modTimer s o t (fun x => { x with due := none })
  | _ => modTimer (put s (R.TICK_TMR_STAT_MODE o t) 0) o t (fun x => { x with due := none })

/-! ## Edge detectors (R325 to R327) -/

/-- Captures held by a detector. -/
def capsOf (s : State) (o e : Nat) : List Nat := nth (partOf s o).edges e []

/-- A detector's held captures change. -/
def setCaps (s : State) (o e : Nat) (l : List Nat) : State :=
  put (modPart s o (fun x => { x with edges := setAt x.edges e l })) (R.TICK_EDGE_CFG_HELD o e) l.length

/-- R326: an armed detector captures an edge at a timestamp, or loses it when four are held. -/
def edgeTake (s : State) (o e stamp : Nat) : State :=
  let s' := if isSet s (R.TICK_EDGE_CFG_ONCE o e) then put s (R.TICK_EDGE_CFG_EDGES o e) 0 else s
  if 4 ≤ (capsOf s o e).length then bump s (R.TICK_EDGE_LOST_COUNT o e)
  else
    let s := put2 s' (R.TICK_EDGE_LAST_LO_CYCLE o e) (R.TICK_EDGE_LAST_HI_CYCLE o e) stamp
    match firstWaiter s o 3 e with
    | some i => wake s (i / 8) (i % 8) stamp
    | none => setCaps s o e (capsOf s o e ++ [stamp])

/-- The level a detector took last, and its change. -/
def levelOf (s : State) (o e : Nat) : Option Bool := nth (partOf s o).level e none
def setLevel (s : State) (o e : Nat) (l : Option Bool) : State := modPart s o (fun x => { x with level := setAt x.level e l })

/-- R327: discard every held capture, counted as lost. -/
def edgeFlush (s : State) (o e : Nat) : State :=
  let n := (capsOf s o e).length
  if n = 0 then s else setCaps (bumpBy s (R.TICK_EDGE_LOST_COUNT o e) n) o e []

/-- R327: disarm a detector. -/
def edgeDisarm (s : State) (o e : Nat) : State :=
  let s := edgeFlush s o e
  put (put (put s (R.TICK_EDGE_CFG_EDGES o e) 0) (R.TICK_EDGE_CFG_INPUT o e) 0) (R.TICK_EDGE_CFG_ONCE o e) 0

end Sys2Proof.Machine
end

