-- ==== Sys2Proof/Machine/Lysilo.lean ====
section
/-! DEFINITION. Lysilo encodings (R287 to R290) and what every instruction of a sequencer shares: the fetch, the instruction memory
check, cycle charges (R305), advancing, and the address checks of R292 and R306. -/

namespace Sys2Proof.Machine

/-! ## Encodings (R287) -/

/-- REG format: opcode, rd, ra, rb, fn. -/
def encReg (op rd ra rb fn : Nat) : Nat := 2 ^ 26 * op + 2 ^ 21 * rd + 2 ^ 16 * ra + 2 ^ 11 * rb + fn

/-- IMM and DEV formats: opcode, rd, ra, imm16. -/
def encImm (op rd ra imm : Nat) : Nat := 2 ^ 26 * op + 2 ^ 21 * rd + 2 ^ 16 * ra + imm

/-- MEM format: opcode, register, base, SZ, 14-bit offset. -/
def encMem (op r base sz off : Nat) : Nat := 2 ^ 26 * op + 2 ^ 21 * r + 2 ^ 16 * base + 2 ^ 14 * sz + off

/-- BR format: opcode, ra, 21-bit word offset. -/
def encBr (op ra off : Nat) : Nat := 2 ^ 26 * op + 2 ^ 21 * ra + off

/-- R287: the target of a branch at pc, as an integer byte offset within the code. -/
def brTarget (pc off : Nat) : Int := (pc : Int) + 4 * sext 21 off

/-! ## Static check (R290) -/

/-- The ALU fns that need rb zero (R289). -/
def fnUnary (fn : Nat) : Bool := (0x10 ≤ fn && fn ≤ 0x15)

/-- R290: does a code word at byte offset pc of a program of n code bytes pass the static check? -/
def wordOk (w pc n : Nat) : Bool :=
  let op := bits w 26 6
  let rd := bits w 21 5
  let ra := bits w 16 5
  let rb := bits w 11 5
  let z := bits w 6 5
  let fn := bits w 0 6
  let imm := bits w 0 16
  if op = 0x00 then z == 0 && fn ≤ 0x15 && (if fnUnary fn then rb == 0 else true)
  else if op ≤ 0x06 then true
  else if op = 0x07 then ra == 0
  else if op = 0x08 then ra == 0 && imm ≤ 3
  else if op ≤ 0x0B then bits imm 6 10 == 0
  else if op < 0x10 then false
  else if op ≤ 0x13 then true
  else if op ≤ 0x16 then z == 0 && fn ≤ 1
  else if op = 0x17 then bits w 0 26 == 0
  else if op ≤ 0x1E then
    let t := brTarget pc (bits w 0 21)
    0 ≤ t && t < n
  else if op < 0x20 then false
  else if op = 0x20 then imm == 0
  else if op = 0x21 then bits imm 4 12 == 0
  else if op = 0x22 then bits imm 3 13 == 0 && 2 ≤ imm
  else if op = 0x23 then bits imm 10 6 == 0
  else if op = 0x24 then bits imm 3 12 == 0 && bits imm 0 3 ≤ 4
  else if op = 0x25 then bits imm 8 8 == 0 && bits imm 5 3 ≤ 4
  else if op = 0x26 then bits imm 7 9 == 0 && bits imm 5 2 ≤ 2
  else if op = 0x27 then bits imm 7 9 == 0
  else if op = 0x3F then rd == 0 && ra == 0
  else false

/-- R290: the byte offset of the first code word that fails the static check. -/
def firstBadWord (i : List Byte) : Option Nat :=
  (firstIdx (fun k => !wordOk (codeWord i (4 * k)) (4 * k) (hdrCode i)) 0 (hdrCode i / 4)).map (4 * ·)

/-! ## Fetch, charge and advance -/

/-- R280: no program executes during this many cycles after a tick event. -/
def execGap : Nat := 24000

/-- Run an instruction on sequencer q: the running program must not be stalled nor have used up its quantum (R279), and the word at
its PC must be w; otherwise the event cannot occur and nothing happens (log entry 1). CYCLE is then at least 24,000 past the tick event
(R280). A corrected memory error is counted; an
uncorrectable one faults the program with cause 8 (R306). -/
def seqRun (s : State) (q : Nat) (ecc : Ecc) (w : Nat) (k : Nat → State → State) : State :=
  match (seqOf s q).cur with
  | none => s
  | some p =>
    match activeImage s q p with
    | none => s
    | some i =>
      let x := pairOf s q p
      if x.stall.isSome ∨ 512 ≤ (seqOf s q).quantum ∨ hdrCode i ≤ x.pc ∨ codeWord i x.pc ≠ w then s
      else
        let s := stamp s (s.tick.last + execGap)
        match ecc with
        | .ok => k p s
        | .ce => k p (fault (bump s (R.SEQ_IMEM_ECC_CE q)) (fltSeqCe q))
        | .ue => progFault (fault (bump s (R.SEQ_IMEM_ECC_UE q)) (fltSeqUe q)) q p 8 x.pc x.pc

/-- The program goes on at pc; past the last word of the code it faults with cause 1 (R306). -/
def seqGoto (s : State) (q p pc : Nat) : State :=
  let s := modPair s q p (fun y => { y with pc := pc })
  if pastEnd s q p then progFault s q p 1 pc pc else s

/-- The program goes on at the next word, charged n cycles. -/
def seqNext (s : State) (q p n : Nat) : State := seqGoto (charge s q p n) q p ((pairOf s q p).pc + 4)

/-- Write rd and go on, charged n cycles. -/
def seqWrite (s : State) (q p rd v n : Nat) : State := seqNext (setGreg s q p rd v) q p n

/-- Cycles of a stall whose length the spec leaves open (log entry 3). -/
def stallCycles (s : State) : Nat × State := (freeVal s, useFree s)

/-! ## Addresses -/

/-- The address base + sext(offset) of a MEM instruction. -/
def memAddr (base off : Nat) : Nat := wrap 64 ((base : Int) + sext 14 off)

/-- Bytes of an access of size code sz. -/
def szBytes (sz : Nat) : Nat := 2 ^ sz

/-- The lower of the causes that apply, 0 when none does (R306: the lowest CAUSE number is recorded). -/
def firstCause : List (Bool × Nat) → Nat
  | [] => 0
  | (b, c) :: r => if b then c else firstCause r

/-- The causes of R306 that an SSM access of n bytes at a meets. -/
def ssmCause (s : State) (q p a n : Nat) : Nat :=
  firstCause [(!ssmIn s (ownerOf s q p) a n, 2), (a % n != 0, 3)]

/-- A window of the running program: number, offset, BASE and SIZE (R286, R283). -/
structure WinRef where
  off  : Nat
  base : Nat
  size : Nat
  host : Bool
  wr   : Bool
  deriving DecidableEq, Repr

/-- The window that address a names in an image. -/
def winRef (i : List Byte) (a : Nat) : WinRef :=
  let w := bits a 48 3
  let b := hdrWinBase i w
  { off := bits a 0 48, base := 4096 * (b / 4096), size := hdrWinSize i w, host := bitAt b 0, wr := bitAt b 1 }

/-- R306: the causes that a window access of n bytes at a meets: MISALIGN, then WIN_RANGE. -/
def winCause (i : List Byte) (a n : Nat) (store : Bool) : Nat :=
  let r := winRef i a
  firstCause [(a % n != 0, 3), (bits a 51 13 != 0 || r.size == 0 || r.size < r.off + n || (store && !r.wr), 4)]

/-! ## Loads from SSM (R313) -/

/-- Do the ranges [a, a + n) and [b, b + m) meet? -/
def overlaps (a n b m : Nat) : Bool := a < b + m && b < a + n

/-- The number of buffered stores up to and including the youngest that overlaps [a, a + n), and that store. -/
def youngestOverlap (bs : List BufStore) (a n : Nat) : Option (Nat × BufStore) :=
  (lastIdx (fun i => match bs[i]? with
    | none => false
    | some b => overlaps a n b.addr b.bytes.length) bs.length).bind fun i => (bs[i]?).map fun b => (i + 1, b)

/-- R313: a load forwards from the youngest store that overlaps it when it reads exactly that store's bytes; a partial overlap
drains the buffer through that store first. Answers the bytes read. -/
def ssmLoad (s : State) (q p a n : Nat) : List Byte × State :=
  match youngestOverlap (pairOf s q p).sbuf a n with
  | none => (ssmRead s a n, s)
  | some (k, b) =>
    if b.addr = a ∧ b.bytes.length = n then (b.bytes, s)
    else
      let s := forN k (fun _ s => drainOne s q p) s
      (ssmRead s a n, s)

/-- R292: a store enters the store buffer; a full buffer drains an entry first. Answers the stall cycles. -/
def ssmStore (s : State) (q p a : Nat) (bs : List Byte) : Nat × State :=
  let full := 8 ≤ (pairOf s q p).sbuf.length
  let (n, s) := if full then stallCycles s else (0, s)
  let s := if full then drainOne s q p else s
  (n, modPair s q p (fun y => { y with sbuf := y.sbuf ++ [{ addr := a, bytes := bs }] }))

/-! ## Device instructions (R295 to R297) -/

/-- Device instruction statuses of R296 and R246. -/
def devOK : Nat := 0x00
def devModeDenied : Nat := 0x01
def devAborted : Nat := 0x0D
def devPrivDenied : Nat := 0x10
def devBusy : Nat := 0x20
def devBadArg : Nat := 0x21

/-- R297, R501: device instructions of a partition in reset before its boundary, and every one once the anchor has acted, return
ABORTED and do nothing. -/
def devDead (s : State) (o : Nat) : Bool := (partOf s o).rst == 1 || anchored s

/-- A device instruction: earlier stores drain (R295); ABORTED where R297 says so; otherwise f answers a status. -/
def devRun (s : State) (q p rd cost : Nat) (f : State → Nat × State) : State :=
  let s := drainAll s q p
  if devDead s (ownerOf s q p) then seqWrite s q p rd devAborted cost
  else
    let (st, s) := f s
    seqWrite s q p rd st cost

end Sys2Proof.Machine
end

