-- ==== Sys2Proof/Machine/Pool.lean ====
section
/-! DEFINITION. The coil pool (R399 to R405): free lists threaded through the frame store, reference counts and holder masks. A holder
is a partition, or none for a hardware holder (a strand, a magazine port, a splice release). -/

namespace Sys2Proof.Machine

/-- The end of a free list. -/
def listEnd : Nat := 0xFFFFFFFF

/-- The tag of a free buffer's link (R401). -/
def linkTag : Nat := 0x4C494F43

/-- R399: the frame store address of buffer b. -/
def bufAddr (s : State) (b : Nat) : Nat :=
  2 ^ 16 * get s R.POOL_BASE_LO_ADDR + 2 ^ 32 * get s R.POOL_BASE_HI_ADDR + 65536 * b

/-- R399: is buffer b in the essence pool? -/
def isEssence (s : State) (b : Nat) : Bool := b < get s R.POOL_NESS_N

/-- Is buffer b in the essence pool (ess) or in the general pool? -/
def inPool (s : State) (ess : Bool) (b : Nat) : Bool :=
  if ess then isEssence s b else get s R.POOL_NESS_N ≤ b && b < get s R.POOL_COUNT_N

/-- The count and mask of a buffer. -/
def bufRef (s : State) (b : Nat) : BufRef := (lookupKey s.pool.refs b).getD { count := 0, mask := 0 }

/-- A buffer takes a count and a mask. -/
def setRef (s : State) (b : Nat) (r : BufRef) : State :=
  { s with pool := { s.pool with refs :=
      if r.count = 0 ∧ r.mask = 0 then eraseKey s.pool.refs b else insertKey s.pool.refs b r } }

/-- R402: partition p holds a reference to buffer b. -/
def holdsBuf (s : State) (p b : Nat) : Bool := bitAt (bufRef s b).mask p

/-- The 8 link bytes of R401. -/
def linkBytes (nxt : Nat) : List Byte := leBytes 4 nxt ++ leBytes 4 linkTag

/-- R404: the low-water source is raised when the free count falls from above its level to the level or below. -/
def lowWater (s : State) (old new level src : Nat) : State :=
  if level ≠ 0 ∧ level < old ∧ new ≤ level then raise s src else s

/-- R404, R408: the free count of a pool becomes n; POOL_MIN_E holds the lowest essence count since it was last read. -/
def setFree (s : State) (ess : Bool) (n : Nat) : State :=
  if ess then
    let old := get s R.POOL_FREE_E_COUNT
    let s := put (put s R.POOL_FREE_E_COUNT n) R.POOL_MIN_E_COUNT (min (get s R.POOL_MIN_E_COUNT) n)
    lowWater s old n (get s R.POOL_LOWAT_E_LEVEL) hubPoolLowEss
  else
    let old := get s R.POOL_FREE_G_COUNT
    lowWater (put s R.POOL_FREE_G_COUNT n) old n (get s R.POOL_LOWAT_G_LEVEL) hubPoolLowGen

/-- R401: freeing a buffer writes its link to the old head and makes it the head; its count and mask are 0. -/
def freeBuf (s : State) (b : Nat) : State :=
  let s := setRef s b { count := 0, mask := 0 }
  if isEssence s b then
    let s := setFree (fsWrite s (bufAddr s b) (linkBytes s.pool.headE)) true (get s R.POOL_FREE_E_COUNT + 1)
    { s with pool := { s.pool with headE := b } }
  else
    let s := setFree (fsWrite s (bufAddr s b) (linkBytes s.pool.headG)) false (get s R.POOL_FREE_G_COUNT + 1)
    { s with pool := { s.pool with headG := b } }

/-- R401: a broken free list. -/
def breakList (s : State) (ess : Bool) : State :=
  raise (fault (put s (if ess then R.POOL_STAT_BROKEN_E else R.POOL_STAT_BROKEN_G) 1) fltPoolBroken) hubPoolFault

/-- The state after the head buffer of a pool is taken: count 1, the holder's mask bit, next link as head. -/
def takeHead (s : State) (ess : Bool) (b nxt : Nat) (holder : Option Nat) : State :=
  let s := setRef s b { count := 1, mask := match holder with | none => 0 | some p => 2 ^ p }
  if ess then setFree { s with pool := { s.pool with headE := nxt } } true (get s R.POOL_FREE_E_COUNT - 1)
  else setFree { s with pool := { s.pool with headG := nxt } } false (get s R.POOL_FREE_G_COUNT - 1)

/-- R400, R401: an allocation from the essence or the general pool. It waits while the pool initialises, fails on an empty or
broken list, and breaks the list when the head's link is not one. -/
def poolAlloc (s : State) (ess : Bool) (holder : Option Nat) : Option Nat × State :=
  let head := if ess then s.pool.headE else s.pool.headG
  if isSet s R.POOL_STAT_BUSY ∨ isSet s (if ess then R.POOL_STAT_BROKEN_E else R.POOL_STAT_BROKEN_G) ∨ head = listEnd then
    (none, s)
  else
    let link := fsRead s (bufAddr s head) 8
    let nxt := leAt link 0 4
    if leAt link 4 4 = linkTag ∧ (nxt = listEnd ∨ inPool s ess nxt) then (some head, takeHead s ess head nxt holder)
    else (none, breakList s ess)

/-- R403: a refused reference operation. -/
def poolRefuse (s : State) (b kind : Nat) : State :=
  raise (bump (put (put s R.POOL_FAULT_INFO_BUF b) R.POOL_FAULT_INFO_KIND kind) R.POOL_FAULT_CNT_COUNT) hubPoolFault

/-- R402, R403: a reference add. Answers whether it was performed. -/
def poolAdd (s : State) (b : Nat) (holder : Option Nat) : Bool × State :=
  let r := bufRef s b
  if r.count = 255 then (false, poolRefuse s b 2)
  else if r.count = 0 then (false, poolRefuse s b 3)
  else match holder with
    | none => (true, setRef s b { r with count := r.count + 1 })
    | some p =>
      if bitAt r.mask p then (false, poolRefuse s b 4)
      else (true, setRef s b { count := r.count + 1, mask := withBit r.mask p true })

/-- The state after a decrement that nothing refuses: a count that reaches zero frees the buffer. -/
def dropRef (s : State) (b : Nat) (r : BufRef) : State :=
  if r.count = 1 then freeBuf s b else setRef s b { r with count := r.count - 1 }

/-- R402, R403: a reference release. Answers whether it was performed. -/
def poolRelease (s : State) (b : Nat) (holder : Option Nat) : Bool × State :=
  let r := bufRef s b
  if r.count = 0 then (false, poolRefuse s b 1)
  else match holder with
    | none => (true, dropRef s b r)
    | some p =>
      if bitAt r.mask p then (true, dropRef s b { r with mask := withBit r.mask p false })
      else (false, poolRefuse s b 5)

/-- Release a list of buffers as a hardware holder. -/
def releaseAll (s : State) (bs : List Nat) : State := bs.foldl (fun s b => (poolRelease s b none).2) s

/-- R405: the sweep of a reset partition's references. -/
def poolSweep (s : State) (p : Nat) : State :=
  (s.pool.refs.map (·.1)).foldl (fun s b =>
    if holdsBuf s p b then
      let r := bufRef s b
      dropRef s b { r with mask := withBit r.mask p false }
    else s) s

/-- Are the pool's configuration writes taken (R400)? -/
def poolCfgOk (s : State) : Bool := (modeOf s == modeIDLE || modeOf s == modeMAINT) && !isSet s R.POOL_STAT_BUSY

/-- Thread a free list in the order given, first buffer as head. -/
def threadList (s : State) : List Nat → State
  | [] => s
  | b :: bs => fsWrite (threadList s bs) (bufAddr s b) (linkBytes (bs.headD listEnd))

/-- Does a list hold each number of [lo, hi) once and nothing else? -/
def coversRange (l : List Nat) (lo hi : Nat) : Bool :=
  l.length == hi - lo && l.all (fun b => lo ≤ b && b < hi) && decide l.Nodup

/-! ## Meanings -/

/-- POOL_INIT (R400): every count and mask to 0, BROKEN cleared, BUSY set. -/
def execPoolInit (s : State) : Host.Outcome State Fault Refusal := answered s <|
  .next (if poolCfgOk s then
    let s := put (clrF (clrF s R.POOL_STAT_BROKEN_E) R.POOL_STAT_BROKEN_G) R.POOL_STAT_BUSY 1
    { s with pool := { s.pool with refs := [], headE := listEnd, headG := listEnd } }
  else setF s R.POOL_STAT_CFGERR)

/-- POOL_INIT_DONE (R400): both free lists are threaded, in the order the event carries (the spec leaves it open, log entry 12),
and BUSY clears. -/
def execPoolInitDone (essOrder genOrder : List Nat) (s : State) : Host.Outcome State Fault Refusal :=
  let ness := min (get s R.POOL_NESS_N) (get s R.POOL_COUNT_N)
  if isSet s R.POOL_STAT_BUSY && coversRange essOrder 0 ness && coversRange genOrder ness (get s R.POOL_COUNT_N) then
    let s := threadList (threadList s essOrder) genOrder
    let s := setFree (setFree s true essOrder.length) false genOrder.length
    let s := clrF s R.POOL_STAT_BUSY
    .next { s with pool := { s.pool with headE := essOrder.headD listEnd, headG := genOrder.headD listEnd } }
  else .next s

/-- POOL_INCREMENT (R402, R403): a reference add by a partition or a hardware holder. -/
def execPoolIncrement (buf : Nat) (holder : Option Part) (s : State) : Host.Outcome State Fault Refusal :=
  .next (poolAdd s buf (holder.map (·.val))).2

/-- POOL_DECREMENT (R402, R403): a reference release by a partition or a hardware holder. -/
def execPoolDecrement (buf : Nat) (holder : Option Part) (s : State) : Host.Outcome State Fault Refusal :=
  .next (poolRelease s buf (holder.map (·.val))).2

end Sys2Proof.Machine
end

