-- ==== Sys2Proof/Machine/Codec.lean ====
section
/-! DEFINITION. The arithmetic of spec/04 and spec/05: lifting, the L8T, quantisation, neighbours, intra and inter prediction and
the reconstruction of a plane block. Samples are integers; a block is a list of rows. -/

namespace Sys2Proof.Machine

/-- The arithmetic shift right of R104: rounds towards minus infinity. -/
def sar (x : Int) (n : Nat) : Int := x / ((2 ^ n : Nat) : Int)

/-- x limited to lo to hi. -/
def clampI (lo hi x : Int) : Int := max lo (min hi x)

/-- Element x of row y of a block, 0 outside it. -/
def at2 (b : List (List Int)) (y x : Nat) : Int := nth (nth b y []) x 0

/-- A block of h rows and w columns. -/
def blkOf (h w : Nat) (f : Nat → Nat → Int) : List (List Int) :=
  (List.range h).map fun y => (List.range w).map fun x => f y x

/-- The block that f makes from the entries of b. -/
def blkMap (f : Int → Int) (b : List (List Int)) : List (List Int) := b.map (·.map f)

/-- The sum of a block's entries. -/
def blkSum (b : List (List Int)) : Int := (b.map (·.sum)).sum

/-! ## Formats (R102, R106, R109, R112) -/

/-- Mosaic rows or pixel rows in a block row (R106). -/
def blockRowH (fmt : Nat) : Nat := if fmt = 0 then 32 else 16

/-- Source columns in a bight (R106). -/
def bightW (fmt : Nat) : Nat := if fmt = 1 then 16 else 32

/-- Source planes in the order of R121: G1, G2, R, B; R, G, B; Y, Cb, Cr. -/
def nPlanes (fmt : Nat) : Nat := if fmt = 0 then 4 else 3

/-- Columns of plane k in w source columns. -/
def planeW (fmt k w : Nat) : Nat := if fmt = 0 then w / 2 else if fmt = 1 then w else if k = 0 then w else w / 2

/-- Rows of every plane in h source rows. -/
def planeH (fmt h : Nat) : Nat := if fmt = 0 then h / 2 else h

/-- Block rows of a frame of h source rows (R157: NROWS). -/
def nRows (fmt h : Nat) : Nat := ceilDiv h (blockRowH fmt)

/-- Plane columns of plane k in one bight: 32 for Y of format 2, else 16. -/
def bightPW (fmt k : Nat) : Nat := if fmt = 2 ∧ k = 0 then 32 else 16

/-- Plane blocks of a bight (R106). -/
def nBlocks (fmt : Nat) : Nat := if fmt = 1 then 3 else 4

/-- The coded plane that block j of a bight belongs to. -/
def blockPlane (fmt j : Nat) : Nat := if fmt = 2 then j - 1 else j

/-- The column of block j within its plane's part of the bight. -/
def blockX (fmt j : Nat) : Nat := if fmt = 2 ∧ j = 1 then 16 else 0

/-- Is the coded plane of block j signed (R129)? -/
def blockSigned (fmt j : Nat) : Bool := fmt != 2 && j != 0

/-- The range and the mid value M of the plane of block j (R129). -/
def planeLo (fmt d j : Nat) : Int := if blockSigned fmt j then -((2 ^ d - 1 : Nat) : Int) else 0
def planeHi (d : Nat) : Int := ((2 ^ d - 1 : Nat) : Int)
def planeMid (fmt d j : Nat) : Int := if blockSigned fmt j then 0 else ((2 ^ (d - 1) : Nat) : Int)

/-- The place of plane k's sample in a quad, row then column, by the CFA code (R103). -/
def cfaSite (cfa k : Nat) : Nat × Nat :=
  match cfa, k with
  | 0, 0 => (0, 1) | 0, 1 => (1, 0) | 0, 2 => (0, 0) | 0, _ => (1, 1)
  | 1, 0 => (0, 0) | 1, 1 => (1, 1) | 1, 2 => (0, 1) | 1, _ => (1, 0)
  | 2, 0 => (1, 1) | 2, 1 => (0, 0) | 2, 2 => (1, 0) | 2, _ => (0, 1)
  | _, 0 => (1, 0) | _, 1 => (0, 1) | _, 2 => (1, 1) | _, _ => (0, 0)

/-! ## Lifting (R104, R105) -/

/-- The coded-plane samples of one position from its source samples. -/
def liftFwd (fmt : Nat) (s : List Int) : List Int :=
  let a := nth s 0 0; let b := nth s 1 0; let c := nth s 2 0; let e := nth s 3 0
  if fmt = 0 then
    let gd := b - a
    let ga := a + sar gd 1
    [ga, gd, c - ga, e - ga]
  else if fmt = 1 then [b, a - b, c - b]
  else s

/-- The source samples of one position from its coded-plane samples. -/
def liftInv (fmt : Nat) (s : List Int) : List Int :=
  let a := nth s 0 0; let b := nth s 1 0; let c := nth s 2 0; let e := nth s 3 0
  if fmt = 0 then
    let g1 := a - sar b 1
    [g1, g1 + b, c + a, e + a]
  else if fmt = 1 then [b + a, a, c + a]
  else s

/-- Apply a lifting to blocks that lie over each other. -/
def liftBlks (f : List Int → List Int) (bs : List (List (List Int))) : List (List (List Int)) :=
  match bs with
  | [] => []
  | b :: _ =>
    let h := b.length; let w := (nth b 0 []).length
    let pos := blkOf h w fun y x => (y * w + x : Nat)
    let vals := pos.map (·.map fun i => f (bs.map fun q => at2 q (i.toNat / w) (i.toNat % w)))
    (List.range bs.length).map fun k => vals.map (·.map fun v => nth v k 0)

/-! ## The L8T (R143, R144, R145) -/

/-- l8_fwd of R143. -/
def l8Fwd (x : List Int) : List Int :=
  let g (i : Nat) := nth x i 0
  let d0 := g 1 - g 0; let d1 := g 3 - g 2; let d2 := g 5 - g 4; let d3 := g 7 - g 6
  let s0 := g 0 + sar d0 1; let s1 := g 2 + sar d1 1; let s2 := g 4 + sar d2 1; let s3 := g 6 + sar d3 1
  let e0 := d0 - sar (s1 - s0 + 1) 1; let e1 := d1 - sar (s2 - s0 + 2) 2
  let e2 := d2 - sar (s3 - s1 + 2) 2; let e3 := d3 - sar (s3 - s2 + 1) 1
  let sd0 := s1 - s0; let sd1 := s3 - s2
  let ss0 := s0 + sar sd0 1; let ss1 := s2 + sar sd1 1
  let p := sar (ss1 - ss0 + 1) 1
  let y1 := ss1 - ss0
  [ss0 + sar y1 1, y1, sd0 - p, sd1 - p, e0, e1, e2, e3]

/-- l8_inv of R143. -/
def l8Inv (y : List Int) : List Int :=
  let g (i : Nat) := nth y i 0
  let ss0 := g 0 - sar (g 1) 1
  let ss1 := ss0 + g 1
  let p := sar (ss1 - ss0 + 1) 1
  let sd0 := g 2 + p; let sd1 := g 3 + p
  let s0 := ss0 - sar sd0 1; let s1 := s0 + sd0
  let s2 := ss1 - sar sd1 1; let s3 := s2 + sd1
  let d0 := g 4 + sar (s1 - s0 + 1) 1; let d1 := g 5 + sar (s2 - s0 + 2) 2
  let d2 := g 6 + sar (s3 - s1 + 2) 2; let d3 := g 7 + sar (s3 - s2 + 1) 1
  let x0 := s0 - sar d0 1; let x2 := s1 - sar d1 1; let x4 := s2 - sar d2 1; let x6 := s3 - sar d3 1
  [x0, x0 + d0, x2, x2 + d1, x4, x4 + d2, x6, x6 + d3]

/-- Rows and columns exchanged, for a block of w columns. -/
def transp (w : Nat) (b : List (List Int)) : List (List Int) :=
  (List.range w).map fun x => b.map fun r => nth r x 0

/-- The forward L8T of an 8 × 8 block: rows, then columns. -/
def l8t (b : List (List Int)) : List (List Int) := transp 8 ((transp 8 (b.map l8Fwd)).map l8Fwd)

/-- The inverse L8T: columns, then rows. -/
def l8tInv (c : List (List Int)) : List (List Int) := (transp 8 ((transp 8 c).map l8Inv)).map l8Inv

/-- The level-3 inverse of a pair (R145). -/
def lev3 (a b : Int) : Int × Int := let x := a - sar b 1; (x, x + b)

/-- The reduced inverse of R145: one value from L0, or a 2 × 2 array from L0 and L1. -/
def reducedInv (layers : Nat) (c00 c01 c10 c11 : Int) : List (List Int) :=
  if layers < 2 then [[c00]]
  else
    let (a0, b0) := lev3 c00 c10
    let (a1, b1) := lev3 c01 c11
    let (p, q) := lev3 a0 a1
    let (r, t) := lev3 b0 b1
    [[p, q], [r, t]]

/-! ## Scan order (R175) -/

/-- The positions (v, u) of scan indices 0 to 63: the four lowest, then the anti-diagonals 2 to 14 without (1, 1), even ones
from the largest v down, odd ones from the smallest v up. -/
def scanList : List (Nat × Nat) :=
  let diag (n : Nat) : List (Nat × Nat) :=
    let up := ((List.range 8).filter fun v => v ≤ n && n - v < 8).map fun v => (v, n - v)
    if n % 2 = 0 then up.reverse else up
  [(0, 0), (0, 1), (1, 0), (1, 1)] ++ ((List.range 13).flatMap fun i => diag (i + 2)).filter (· != (1, 1))

/-- The coefficients of a block in scan order. -/
def toScan (c : List (List Int)) : List Int := scanList.map fun p => at2 c p.1 p.2

/-- The block whose coefficients in scan order are given. -/
def ofScan (q : List Int) : List (List Int) :=
  let t := scanList.zip q
  blkOf 8 8 fun v u => match t.find? (fun e => e.1 == (v, u)) with | some e => e.2 | none => 0

/-! ## Quantisation (R146 to R148) -/

/-- The table Q16 of R146. -/
def q16 (qp : Nat) : Nat :=
  nth [16, 17, 18, 19, 20, 21, 23, 24, 25, 27, 29, 30, 32, 34, 36, 38, 40, 43, 45, 48, 51, 54, 57, 60,
       64, 68, 72, 76, 81, 85, 91, 96, 102, 108, 114, 121, 128, 136, 144, 152, 161, 171, 181, 192, 203, 215, 228, 242,
       256, 271, 287, 304, 323, 342, 362, 384, 406, 431, 456, 483, 512, 542, 575, 609, 645, 683, 724, 767, 813, 861, 912, 967,
       1024, 1085, 1149, 1218, 1290, 1367, 1448, 1534, 1625, 1722, 1825, 1933,
       2048, 2170, 2299, 2435, 2580, 2734, 2896, 3069, 3251, 3444, 3649, 3866] qp 0

/-- The sign of v put on a magnitude. -/
def withSign (v : Int) (m : Nat) : Int := if v < 0 then -(m : Int) else (m : Int)

/-- deq of R147. -/
def deq (qp : Nat) (q : Int) : Int := withSign q ((q.natAbs * q16 qp + 8) / 16)

/-- The quantiser of R148; low marks the four L0 and L1 positions. -/
def quant (qp : Nat) (low : Bool) (v : Int) : Int :=
  if qp = 0 then v
  else withSign v ((16 * v.natAbs + (if low then q16 qp / 2 else 3 * q16 qp / 8)) / q16 qp)

/-- The 8 × 8 part t (0 top left, 1 top right, 2 bottom left, 3 bottom right) of a 16 × 16 block. -/
def subBlk (b : List (List Int)) (t : Nat) : List (List Int) :=
  ((b.drop (8 * (t / 2))).take 8).map fun r => (r.drop (8 * (t % 2))).take 8

/-- A 16 × 16 block from its four parts. -/
def joinBlk (ts : List (List (List Int))) : List (List Int) :=
  ((nth ts 0 []).zip (nth ts 1 [])).map (fun p => p.1 ++ p.2) ++ ((nth ts 2 []).zip (nth ts 3 [])).map (fun p => p.1 ++ p.2)

/-- The 64 quantised values, in scan order, of a transform block against its prediction (R148). -/
def quantTb (qp : Nat) (b pred : List (List Int)) : List Int :=
  let c := toScan (l8t b); let cp := toScan (l8t pred)
  ((List.range 64).zip (c.zip cp)).map fun e =>
    if e.1 < 4 then quant qp true e.2.1 else quant qp false (e.2.1 - e.2.2)

/-- The reconstructed coefficients of a transform block in scan order (R147). -/
def reconCoef (qp : Nat) (q : List Int) (pred : List (List Int)) : List Int :=
  let cp := toScan (l8t pred)
  ((List.range 64).zip (q.zip cp)).map fun e => if e.1 < 4 then deq qp e.2.1 else e.2.2 + deq qp e.2.1

/-- The working reconstruction of a plane block: inverse L8T of each part, clamped to the plane's range (R128 steps 2 and 3). -/
def reconBlk (qp : Nat) (lo hi : Int) (qs : List (List Int)) (pred : List (List Int)) : List (List Int) :=
  blkMap (clampI lo hi) (joinBlk ((List.range 4).map fun t => l8tInv (ofScan (reconCoef qp (nth qs t []) (subBlk pred t)))))

/-! ## Neighbours (R130 to R132, R205) -/

/-- The neighbours of a plane block after substitution: T[−1] to T[31] and L[0] to L[15]. -/
structure Nbrs where
  top  : List Int
  left : List Int

/-- R130, R131: above is the row above in the coded plane (none where no top neighbour exists), x0 the block's plane column in
the band, lim the columns that count as inside, left the column at x0 − 1 when it exists, mid the mid value. -/
def nbrs (above : Option (List Int)) (left : Option (List Int)) (x0 lim : Nat) (mid : Int) : Nbrs :=
  match above, left with
  | none, none => { top := List.replicate 33 mid, left := List.replicate 16 mid }
  | none, some l => { top := List.replicate 33 (nth l 0 0), left := l }
  | some a, lopt =>
    let t (i : Nat) : Int := nth a (min (x0 + i) (lim - 1)) 0
    let row := (List.range 32).map t
    match lopt with
    | none => { top := t 0 :: row, left := List.replicate 16 (t 0) }
    | some l => { top := nth a (x0 - 1) 0 :: row, left := l }

/-- T[i] for i from −17 to 32 (R132). -/
def Nbrs.t (n : Nbrs) (i : Int) : Int :=
  if i < -1 then nth n.left (-2 - i).toNat 0 else nth n.top (min 31 i + 1).toNat 0

/-- L[i] for i from −17 to 32 (R132; L[−1] is the corner C: DEDUCED, log entry 30). -/
def Nbrs.l (n : Nbrs) (i : Int) : Int :=
  if i < 0 then nth n.top (-1 - i).toNat 0 else nth n.left (min 15 i).toNat 0

/-! ## Intra prediction (R133, R134) -/

/-- The value of the DC mode. -/
def dcValue (n : Nbrs) : Int := sar ((n.top.drop 1 |>.take 16).sum + n.left.sum + 16) 5

/-- top_ref and left_ref of R133. -/
def topRef (n : Nbrs) (a : Int) (y x : Nat) : Int :=
  let p := ((y + 1 : Nat) : Int) * a
  let i := (x : Int) + sar p 5
  let f := p % 32
  sar ((32 - f) * n.t i + f * n.t (i + 1) + 16) 5

def leftRef (n : Nbrs) (a : Int) (y x : Nat) : Int :=
  let p := ((x + 1 : Nat) : Int) * a
  let i := (y : Int) + sar p 5
  let f := p % 32
  sar ((32 - f) * n.l i + f * n.l (i + 1) + 16) 5

/-- May block j use plane-delta (R134)? -/
def deltaOk (fmt j : Nat) : Bool := j != 0 && fmt != 2

/-- Gm: the mean of 256 samples, rounded as R134 says. -/
def mean256 (b : List (List Int)) : Int := sar (blkSum b + 128) 8

/-- The prediction of a plane block in an intra mode. g is the working reconstruction of the bight's block 0. -/
def intraPred (n : Nbrs) (mode : Nat) (alpha : Int) (g : List (List Int)) (lo hi : Int) : List (List Int) :=
  match mode with
  | 0 => let v := dcValue n; blkOf 16 16 fun _ _ => v
  | 1 => blkOf 16 16 fun y x =>
      sar ((15 - x : Int) * n.l y + (x + 1 : Int) * n.t 16 + (15 - y : Int) * n.t x + (y + 1 : Int) * n.l 15 + 16) 5
  | 2 => blkOf 16 16 (topRef n 0)
  | 3 => blkOf 16 16 (topRef n 16)
  | 4 => blkOf 16 16 (topRef n 32)
  | 5 => blkOf 16 16 (topRef n (-16))
  | 6 => blkOf 16 16 (topRef n (-32))
  | 7 => blkOf 16 16 (leftRef n 0)
  | 8 => blkOf 16 16 (leftRef n (-16))
  | 9 => blkOf 16 16 (leftRef n 16)
  | _ =>
    let gm := mean256 g
    let pdc := dcValue n
    blkMap (fun v => clampI lo hi (pdc + sar (alpha * (v - gm) + 4) 3)) g

/-- The quotient a / b (b > 0) rounded to the nearest integer; Config says which way a half goes (log entry 31). -/
def roundDiv (a b : Int) : Int :=
  let q := a / b; let r := a % b
  if 2 * r < b then q else if 2 * r > b then q + 1 else if Config.alphaHalfUp q then q + 1 else q

/-- The scale α that plane-delta is evaluated with (R135): t the target's samples, g the working source block. -/
def alphaOf (t g : List (List Int)) : Int :=
  let tm := mean256 t; let gm := mean256 g
  let prod := ((t.flatten.zip g.flatten).map fun p => (p.1 - tm) * (p.2 - gm)).sum
  let sq := (g.flatten.map fun v => (v - gm) * (v - gm)).sum
  if sq = 0 then 0 else clampI (-8) 7 (roundDiv (8 * prod) sq)

/-! ## Inter prediction (R140, R142) -/

/-- The taps of a quarter phase (R142). -/
def tapsOf (phase : Nat) : List Int :=
  match phase with
  | 0 => [0, 64, 0, 0] | 1 => [-4, 54, 16, -2] | 2 => [-4, 36, 36, -4] | _ => [-2, 16, 54, -4]

/-- The offsets from the integer position that get a non-zero tap. -/
def tapOffs (phase : Nat) : List Int := if phase = 0 then [0] else [-1, 0, 1, 2]

/-- One interpolated sample: px reads the reference plane with its edge clamp, (y, x) is the frame-wide plane position, (my, mx)
the vector in quarter samples of that plane (R142 steps 1 to 3). -/
def interp (px : Int → Int → Int) (d : Nat) (my mx y x : Int) : Int :=
  let tv := tapsOf (my % 4).toNat; let th := tapsOf (mx % 4).toNat
  let iy := y + sar my 2; let ix := x + sar mx 2
  let rowV (j : Nat) : Int :=
    ((List.range 4).map fun i => nth th i 0 * px (iy + j - 1) (ix + i - 1)).sum
  clampI 0 (planeHi d) (sar (((List.range 4).map fun j => nth tv j 0 * rowV j).sum + 2048) 12)

/-- The horizontal component a source plane uses: half for Cb and Cr of format 2 (R140). -/
def mvxOf (fmt k : Nat) (mvx : Int) : Int := if fmt = 2 ∧ k ≠ 0 then sar mvx 1 else mvx

end Sys2Proof.Machine
end

