-- ==== Sys2Proof/Machine/Entropy.lean ====
section
/-! DEFINITION. The entropy coder and the records of the Alazerik bitstream (spec/06): symbols, contexts, Rice and EG0 codes, bit
packing, stuffing, CRC-32C, and the reader that meets them again. -/

namespace Sys2Proof.Machine

/-! ## CRC-32C and stuffing (R160, R161) -/

/-- Eight steps of the reflected Castagnoli polynomial. -/
def crcByte (c : BitVec 32) (b : BitVec 8) : BitVec 32 :=
  (List.range 8).foldl (fun c _ => if c.getLsbD 0 then (c >>> 1) ^^^ 0x82F63B78#32 else c >>> 1) (c ^^^ b.setWidth 32)

/-- CRC-32C of a byte string. -/
def crc32c (bs : List (BitVec 8)) : Nat := ((bs.foldl crcByte 0xFFFFFFFF#32) ^^^ 0xFFFFFFFF#32).toNat

/-- Stored bytes of logical bytes: a 0x00 after every 0xFF. -/
def stuff : List (BitVec 8) → List (BitVec 8)
  | [] => []
  | b :: r => if b = 0xFF#8 then b :: 0#8 :: stuff r else b :: stuff r

/-- Is a byte the code of a record that may start (R160)? -/
def isMarker (b : BitVec 8) : Bool := (0xA0 ≤ b.toNat && b.toNat ≤ 0xA4) || b == 0xAF#8

/-- A record: marker, stored body, and the stuffed big-endian CRC over the stored body. -/
def record (code : BitVec 8) (stored : List (BitVec 8)) : List (BitVec 8) :=
  0xFF#8 :: code :: stored ++ stuff (beBytes 4 (crc32c stored))

/-! ## Symbols and contexts (R176 to R185) -/

/-- A context (R182). -/
structure Ctx where
  a : Nat
  n : Nat
  k : Nat
  runf : Bool
  zc : Nat

def Ctx.init : Ctx := { a := 8, n := 4, k := 1, runf := false, zc := 0 }

/-- The coder's and the parser's states in a row segment: 48 contexts, the last sum of each p and f, two token states. -/
structure Coder where
  ctx : List Ctx
  mag : List Nat
  tok : List Ctx

def Coder.init : Coder :=
  { ctx := List.replicate 48 Ctx.init, mag := List.replicate 16 0, tok := List.replicate 2 Ctx.init }

/-- map of R183. -/
def mapS (v : Int) : Nat := if 0 ≤ v then 2 * v.toNat else 2 * (-v).toNat - 1

/-- The value that map takes to m. -/
def unmapS (m : Nat) : Int := if m % 2 = 0 then ((m / 2 : Nat) : Int) else -(((m + 1) / 2 : Nat) : Int)

/-- map′ of R180. -/
def mapTok (v : Int) : Nat := 2 * (v.natAbs - 1) + (if v < 0 then 1 else 0)

/-- The value that map′ takes to m. -/
def unmapTok (m : Nat) : Int := if m % 2 = 0 then ((m / 2 + 1 : Nat) : Int) else -((m / 2 + 1 : Nat) : Int)

/-- adapt of R184. -/
def adapt (c : Ctx) (sum count : Nat) : Ctx :=
  let a := c.a + sum; let n := c.n + count
  let (a, n) := if n ≥ 128 then ((a + 1) / 2, n / 2) else (a, n)
  { c with a := a, n := n, k := (firstIdx (fun k => a ≤ n * 2 ^ k) 0 20).getD 20 }

/-- The neighbour magnitude class of a sum (R181). -/
def magClass (sum : Nat) : Nat := if sum = 0 then 0 else if sum < 8 then 1 else 2

/-- The context of a group of plane class p and frequency class f. -/
def Coder.ctxNo (c : Coder) (p f : Nat) : Nat := 12 * p + 3 * f + magClass (nth c.mag (4 * p + f) 0)

/-- n bits of v, most significant first. -/
def bitsMsb : Nat → Nat → List Bool
  | 0, _ => []
  | n + 1, v => (v / 2 ^ n % 2 == 1) :: bitsMsb n v

/-- The bit length of x. -/
def bitLen (x : Nat) : Nat := (firstIdx (fun n => x < 2 ^ n) 0 64).getD 64

/-- put_rice of R184. -/
def putRice (m k : Nat) : List Bool :=
  let q := m / 2 ^ k
  if q < 16 then List.replicate q false ++ true :: bitsMsb k m
  else
    let x := m - 16 * 2 ^ k + 1
    let n := bitLen x
    List.replicate 16 false ++ bitsMsb 5 (n - 1) ++ bitsMsb (n - 1) x

/-- EG0 (R185). -/
def putEg (m : Nat) : List Bool := List.replicate (bitLen (m + 1) - 1) false ++ bitsMsb (bitLen (m + 1)) (m + 1)

/-- The context after a group is coded value by value: sum of the mapped values, and whether all four are zero. -/
def Ctx.afterGroup (c : Ctx) (sum : Nat) (zero : Bool) : Ctx :=
  let c := adapt { c with runf := false } sum 4
  if zero then (if c.zc + 1 = 2 then { c with runf := true, zc := 0 } else { c with zc := c.zc + 1 }) else { c with zc := 0 }

/-- put_group of R184. -/
def putGroup (c : Ctx) (v : List Int) : List Bool × Ctx :=
  let zero := v.all (· == 0)
  if c.runf && zero then ([true], c)
  else
    ((if c.runf then [false] else []) ++ v.flatMap (fun x => putRice (mapS x) c.k), c.afterGroup ((v.map mapS).sum) zero)

/-- The sum of absolute values that the next group's class is taken from. -/
def absSum (v : List Int) : Nat := (v.map Int.natAbs).sum

/-- Code a group: its bits and its symbol. -/
def codeGroup (c : Coder) (p f : Nat) (v : List Int) : Coder × List Bool × Sym :=
  let i := c.ctxNo p f
  let (b, x) := putGroup (nth c.ctx i Ctx.init) v
  ({ c with ctx := setAt c.ctx i x, mag := setAt c.mag (4 * p + f) (absSum v) }, b, .grp i v)

/-- Code a token field with its state (R180). -/
def codeTok (c : Coder) (st m : Nat) : Coder × List Bool × Sym :=
  let x := nth c.tok st Ctx.init
  ({ c with tok := setAt c.tok st (adapt x m 1) }, putRice m x.k, .tok st m)

/-- Bytes of a bit string, the last one completed with zero bits (R159). -/
def packBits (bs : List Bool) : List (BitVec 8) :=
  let r : List (BitVec 8) × Nat × Nat := bs.foldl (fun (out, v, n) b =>
    if n = 7 then (BitVec.ofNat 8 (2 * v + b2n b) :: out, 0, 0) else (out, 2 * v + b2n b, n + 1)) ([], 0, 0)
  (if r.2.2 = 0 then r.1 else BitVec.ofNat 8 (r.2.1 * 2 ^ (8 - r.2.2)) :: r.1).reverse

/-! ## The reader -/

/-- Why parsing stopped: the class of R186 (1 invalid code, 2 length mismatch, 3 CRC mismatch) or 6 for a symbol that differs from
the log, 7 for a header field that differs from the intent (R229), 8 for a row segment out of order (R232); and how many stored bytes
had been passed. -/
structure PErr where
  cls : Nat
  at_ : Nat
  deriving DecidableEq, Repr

/-- The reader of one record: stored bytes not yet passed, how many have been, the bits of the last logical byte not yet taken,
the count at which the layer ends, the parser's states, and the symbols that a log expects (none: no log). -/
structure Rd where
  rest  : List (BitVec 8)
  used  : Nat
  bits  : List Bool
  limit : Option Nat
  coder : Coder
  log   : Option (List Sym)

/-- A parser: it fails with a PErr or goes on. -/
abbrev P (α : Type) := StateT Rd (Except PErr) α

/-- Fail with a class at the bytes passed so far. -/
def perr {α : Type} (cls : Nat) : P α := do throw { cls := cls, at_ := (← MonadState.get).used }

/-- The next logical byte (R160). A body cut off by a marker or by the end of the data breaks the layer's length inside a layer and
is an invalid code elsewhere. -/
def rdByte : P Nat := do
  let s ← MonadState.get
  let short := match s.limit with | some _ => 2 | none => 1
  match s.limit with
  | some l => if l ≤ s.used then perr 2
  | none => pure ()
  match s.rest with
  | [] => perr short
  | b :: r =>
    if b = 0xFF#8 then
      match r with
      | [] => perr short
      | c :: r' =>
        if c = 0#8 then
          match s.limit with
          | some l => if l < s.used + 2 then perr 2
          | none => pure ()
          set { s with rest := r', used := s.used + 2 }
          pure 255
        else if isMarker c then perr short
        else perr 1
    else
      set { s with rest := r, used := s.used + 1 }
      pure b.toNat

/-- The next logical byte, an invalid code where it fails ok. -/
def rdByteIf (ok : Nat → Bool) : P Nat := do
  let b ← rdByte
  if ok b then pure b else perr 1

/-- A reserved byte (R186). -/
def rdZero : P Unit := do
  let _ ← rdByteIf (· == 0)

/-- A big-endian field of n logical bytes. -/
def rdBe : Nat → P Nat
  | 0 => pure 0
  | n + 1 => do
    let b ← rdByte
    let r ← rdBe n
    pure (b * 256 ^ n + r)

/-- The next bit of a layer. -/
def rdBit : P Bool := do
  let s ← MonadState.get
  match s.bits with
  | b :: r => set { s with bits := r }; pure b
  | [] =>
    let v ← rdByte
    match bitsMsb 8 v with
    | b :: r => modify fun s => { s with bits := r }; pure b
    | [] => pure false

/-- A field of n bits. -/
def rdBits : Nat → P Nat
  | 0 => pure 0
  | n + 1 => do
    let b ← rdBit
    let r ← rdBits n
    pure (b2n b * 2 ^ n + r)

/-- Zero bits before a one, at most n of them; n when no one came among n bits. -/
def rdZeros : Nat → P Nat
  | 0 => pure 0
  | n + 1 => do
    if ← rdBit then pure 0 else do
      let k ← rdZeros n
      pure (k + 1)

/-- A Rice symbol with parameter k (R183). -/
def rdRice (k : Nat) : P Nat := do
  let q ← rdZeros 16
  if q < 16 then do
    let low ← rdBits k
    pure (q * 2 ^ k + low)
  else do
    let n1 ← rdBits 5
    if n1 > 24 then perr 1
    else do
      let x ← rdBits n1
      pure (2 ^ n1 + x - 1 + 16 * 2 ^ k)

/-- Compare a parsed symbol with the log, when there is one. -/
def rdCheck (y : Sym) : P Unit := do
  let s ← MonadState.get
  match s.log with
  | none => pure ()
  | some [] => perr 6
  | some (e :: r) => if e = y then set { s with log := some r } else perr 6

/-- An EG0 value (R185). -/
def rdEg : P Nat := do
  let z ← rdZeros 25
  if z > 24 then perr 1
  else do
    let r ← rdBits z
    let m := 2 ^ z + r - 1
    rdCheck (.eg m)
    pure m

/-- A field of n bits that is a symbol. -/
def rdFld (n : Nat) : P Nat := do
  let v ← rdBits n
  rdCheck (.fld n v)
  pure v

/-- Compare value j of a group of context i with the log, when there is one (R228: each coded value is a symbol). -/
def rdCheckVal (i j : Nat) (v : Int) : P Unit := do
  match (← MonadState.get).log with
  | none => pure ()
  | some (.grp c vs :: _) => if c = i ∧ vs[j]? = some v then pure () else perr 6
  | some _ => perr 6

/-- The value at place j of a group of context i. -/
def rdVal (i k j : Nat) : P Int := do
  let v := unmapS (← rdRice k)
  rdCheckVal i j v
  pure v

/-- A group of plane class p and frequency class f. -/
def rdGroup (p f : Nat) : P (List Int) := do
  let s ← MonadState.get
  let i := s.coder.ctxNo p f
  let c := nth s.coder.ctx i Ctx.init
  let run ← if c.runf then rdBit else pure false
  let (v, c') ←
    if run then pure ([0, 0, 0, 0], c)
    else do
      let v0 ← rdVal i c.k 0
      let v1 ← rdVal i c.k 1
      let v2 ← rdVal i c.k 2
      let v3 ← rdVal i c.k 3
      let v := [v0, v1, v2, v3]
      let zero := v.all (· == 0)
      if c.runf && zero then perr 1
      pure (v, c.afterGroup ((v.map mapS).sum) zero)
  modify fun s => { s with coder := { s.coder with ctx := setAt s.coder.ctx i c', mag := setAt s.coder.mag (4 * p + f) (absSum v) } }
  rdCheck (.grp i v)
  pure v

/-- A token field with its state. -/
def rdTok (st : Nat) : P Nat := do
  let s ← MonadState.get
  let c := nth s.coder.tok st Ctx.init
  let m ← rdRice c.k
  modify fun s => { s with coder := { s.coder with tok := setAt s.coder.tok st (adapt c m 1) } }
  rdCheck (.tok st m)
  pure m

/-- Read a layer of len stored bytes with p, and check R169 at its end; len 0 stands for a layer that is absent. -/
def rdLayer {α : Type} (len : Nat) (p : P α) : P α := do
  let s ← MonadState.get
  let stop := s.used + len
  set { s with bits := [], limit := some stop }
  let a ← p
  let t ← MonadState.get
  if t.bits.any id || t.used ≠ stop then perr 2
  set { t with bits := [], limit := none }
  pure a

/-- Run p n times and collect the answers. -/
def rdMany {α : Type} (n : Nat) (p : Nat → P α) : P (List α) := (List.range n).mapM p

end Sys2Proof.Machine
end

