-- ==== Sys2Proof/Machine/RowCode.lean ====
section
/-! DEFINITION. Coding and parsing one row segment (R117, R123, R128, R149 to R153, R163, R164, R168 to R180, R203 to R205). Both
sides reconstruct through the same functions, as R128 asks. -/

namespace Sys2Proof.Machine

/-- A region rectangle (R163). -/
structure Roi where
  x0   : Nat
  y0   : Nat
  nx   : Nat
  ny   : Nat
  prio : Nat
  /-- KIND 1: an error bound of its own. -/
  own  : Bool
  val  : Nat
  deriving DecidableEq, Repr

/-- The rectangle in ten bytes, most significant byte first (R159, R163; DEDUCED for the region table, log entry 34). -/
def roiOf (b : List (BitVec 8)) : Roi :=
  let w (i : Nat) := beVal (sliceBytes b (2 * i) 2)
  { x0 := w 0, y0 := w 1, nx := w 2, ny := w 3, prio := bits (w 4) 12 4, own := bitAt (w 4) 11, val := bits (w 4) 0 10 }

/-- Does a rectangle keep to R163? -/
def roiOk (b : List (BitVec 8)) (cols rows : Nat) : Bool :=
  let r := roiOf b; let c := beVal (sliceBytes b 8 2)
  1 ≤ r.nx && 1 ≤ r.ny && r.x0 + r.nx ≤ cols && r.y0 + r.ny ≤ rows && !bitAt c 10 && (r.own || r.val < 32)

/-- What one row segment is coded or decoded with. -/
structure RowIn where
  fmt     : Nat
  d       : Nat
  /-- First source column of the band and its width; true height of the frame; width of the frame. -/
  col     : Nat
  wb      : Nat
  w       : Nat
  h       : Nat
  band    : Nat
  row     : Nat
  qp      : Nat
  e       : Nat
  bounded : Bool
  layers  : Nat
  nref    : Nat
  rois    : List Roi
  /-- COL and NCOL of the refresh column (R166). -/
  refresh : Option (Nat × Nat)
  /-- The row above in each coded plane, none where R131 gives no top neighbour. -/
  above   : Option (List (List Int))

/-- Bights in the band, and the frame-wide bight column of bight i. -/
def RowIn.nb (r : RowIn) : Nat := r.wb / bightW r.fmt
def RowIn.bx (r : RowIn) (i : Nat) : Nat := r.col / bightW r.fmt + i

/-- Real plane rows of the segment; the others are padding (R107). -/
def RowIn.rows (r : RowIn) : Nat := min 16 (planeH r.fmt r.h - 16 * r.row)

/-- The governing rectangle of a bight (R164): highest PRIO, first listed among equals. -/
def governing (rs : List Roi) (bx row : Nat) : Option Roi :=
  rs.foldl (fun g r =>
    if r.x0 ≤ bx ∧ bx < r.x0 + r.nx ∧ r.y0 ≤ row ∧ row < r.y0 + r.ny then
      match g with
      | some q => if q.prio < r.prio then some r else some q
      | none => some r
    else g) none

/-- QPb of bight i (R164). -/
def RowIn.qpb (r : RowIn) (i : Nat) : Nat :=
  match governing r.rois (r.bx i) r.row with
  | some g => if g.own then r.qp else (clampI 0 95 (r.qp + sext 5 g.val)).toNat
  | none => r.qp

/-- Eb of bight i (R164). -/
def RowIn.eb (r : RowIn) (i : Nat) : Nat :=
  match governing r.rois (r.bx i) r.row with
  | some g => if g.own then g.val else r.e
  | none => r.e

/-- Columns of the plane of block j that top neighbours may come from (R131, R205). -/
def RowIn.lim (r : RowIn) (i j : Nat) : Nat :=
  let k := blockPlane r.fmt j
  let full := planeW r.fmt k r.wb
  match r.refresh with
  | some (c, n) => if r.bx i < c + n then min full ((c + n - r.bx 0) * bightPW r.fmt k) else full
  | none => full

/-- Is bight i in the refresh column? -/
def RowIn.inColumn (r : RowIn) (i : Nat) : Bool :=
  match r.refresh with
  | some (c, n) => c ≤ r.bx i && r.bx i < c + n
  | none => false

/-- A coded or parsed bight. -/
structure BightC where
  /-- Reference and vector of an inter bight. -/
  inter : Option (Nat × Int × Int)
  /-- Mode and scale of each block of an intra bight. -/
  modes : List (Nat × Int)
  /-- Quantised values: block, transform block, scan index. -/
  q     : List (List (List Int))

/-- A reference: its samples with the edge clamp of R142, by source plane, row and column. -/
abbrev RefPx := Nat → Int → Int → Int

/-- The neighbours of block j of bight i: prev holds the previous bight's final coded blocks, cur the working blocks made so far. -/
def RowIn.nbrsOf (r : RowIn) (i j : Nat) (prev : Option (List (List (List Int)))) (cur : List (List (List Int))) : Nbrs :=
  let k := blockPlane r.fmt j
  let x := i * bightPW r.fmt k + blockX r.fmt j
  let leftOf (b : List (List Int)) : List Int := b.map fun row => nth row 15 0
  let left : Option (List Int) :=
    if r.fmt = 2 ∧ j = 1 then some (leftOf (nth cur 0 []))
    else prev.map fun p => leftOf (nth p (if r.fmt = 2 ∧ j = 0 then 1 else j) [])
  nbrs (r.above.map fun a => nth a k []) left x (r.lim i j) (planeMid r.fmt r.d j)

/-- The coded-plane prediction of an inter bight (R142). -/
def RowIn.interPred (r : RowIn) (px : RefPx) (i : Nat) (mvx mvy : Int) : List (List (List Int)) :=
  liftBlks (liftFwd r.fmt) ((List.range (nBlocks r.fmt)).map fun j =>
    let k := blockPlane r.fmt j
    let x0 := planeW r.fmt k r.col + i * bightPW r.fmt k + blockX r.fmt j
    blkOf 16 16 fun y x => interp (px k) r.d mvy (mvxOf r.fmt k mvx) ((16 * r.row + y : Nat) : Int) ((x0 + x : Nat) : Int))

/-- Source blocks after R128 steps 4 and 5. -/
def RowIn.toSource (r : RowIn) (work : List (List (List Int))) : List (List (List Int)) :=
  (liftBlks (liftInv r.fmt) work).map (blkMap (clampI 0 (planeHi r.d)))

/-- Positions of a bight that carry corrections (R151), and the index of one of them. -/
def RowIn.posCount (r : RowIn) : Nat := nBlocks r.fmt * 16 * r.rows
def RowIn.posIdx (r : RowIn) (j y x : Nat) : Nat :=
  if r.fmt = 2 then
    if j < 2 then y * 32 + 16 * j + x else 32 * r.rows + ((j - 2) * r.rows + y) * 16 + x
  else (j * r.rows + y) * 16 + x

/-- A bight's positions in order: block, row, column (R151). -/
def RowIn.positions (r : RowIn) : List (Nat × Nat × Nat) :=
  (List.range (nPlanes r.fmt)).flatMap fun k =>
    (List.range r.rows).flatMap fun y => (List.range (bightPW r.fmt k)).map fun x =>
      if r.fmt = 2 then (if k = 0 then (x / 16, y, x % 16) else (k + 1, y, x)) else (k, y, x)

/-- The final source blocks: corrections, in position order, added to step 5's samples (R128 step 6). -/
def RowIn.corrected (r : RowIn) (src : List (List (List Int))) (vals : List Int) : List (List (List Int)) :=
  if vals.all (· == 0) then src
  else (List.range src.length).map fun j =>
    blkOf 16 16 fun y x => at2 (nth src j []) y x + (if y < r.rows then nth vals (r.posIdx j y x) 0 else 0)

/-! ## The coder -/

/-- A reference of the frame being coded: its samples and its clean boundary in bights (R203). -/
structure EncRef where
  px    : RefPx
  clean : Nat

/-- Does a vector keep to R204 in bight i? The rightmost sample fetched in each plane decides. -/
def RowIn.mvOk (r : RowIn) (ref : EncRef) (i : Nat) (mvx : Int) : Bool :=
  match r.refresh with
  | some (c, _) =>
    c ≤ r.bx i || (List.range (nPlanes r.fmt)).all fun k =>
      let m := mvxOf r.fmt k mvx
      let last := planeW r.fmt k r.col + (i + 1) * bightPW r.fmt k - 1
      let off : Int := if m % 4 = 0 then 0 else 2
      clampI 0 ((planeW r.fmt k r.w : Nat) - 1) (last + sar m 2 + off) < ((ref.clean * bightPW r.fmt k : Nat) : Int)
  | none => true

/-- Code a block against a prediction: its values and its working reconstruction. -/
def RowIn.codeBlk (r : RowIn) (i j : Nat) (t pred : List (List Int)) : List (List Int) × List (List Int) :=
  let q := (List.range 4).map fun b => quantTb (r.qpb i) (subBlk t b) (subBlk pred b)
  (q, reconBlk (r.qpb i) (planeLo r.fmt r.d j) (planeHi r.d) q pred)

/-- The sum of absolute quantised L2 values that a mode is judged by (R135). -/
def l2Cost (q : List (List Int)) : Nat := ((q.map fun t => absSum (t.drop 4))).sum

/-- Code an intra block: every permitted mode is evaluated, the least cost wins, a tie goes to the lower code (R135). -/
def RowIn.codeIntra (r : RowIn) (i j : Nat) (t : List (List Int)) (prev : Option (List (List (List Int))))
    (cur : List (List (List Int))) : (Nat × Int) × List (List Int) × List (List Int) :=
  let n := r.nbrsOf i j prev cur
  let g := nth cur 0 []
  let try_ (m : Nat) (al : Int) :=
    ((m, al), r.codeBlk i j t (intraPred n m al g (planeLo r.fmt r.d j) (planeHi r.d)))
  let cands := ((List.range 10).map fun m => try_ m 0) ++ (if deltaOk r.fmt j then [try_ 10 (alphaOf t g)] else [])
  match cands with
  | [] => try_ 0 0
  | c :: cs => cs.foldl (fun b x => if l2Cost x.2.1 < l2Cost b.2.1 then x else b) c

/-- The vector that the two passes of the search end with (R142): the first chooses a whole-sample position of the window of R140, the
second that position or one of the eight quarter-sample positions around it. Which ones is the outcome's, as its criterion is not
stated (log entry 32). -/
def searchMv (outcome : Nat) : Int × Int :=
  let part (d n : Nat) (off : Int) : Int := ((outcome / d % n : Nat) : Int) - off
  (clampI (-1024) 1023 (4 * part 1 512 256 + part 131072 3 1), clampI (-512) 511 (4 * part 512 256 128 + part 393216 3 1))

/-- Code a bight from its coded-plane samples. -/
def RowIn.codeBight (r : RowIn) (refs : List EncRef) (choice i : Nat) (t : List (List (List Int)))
    (prev : Option (List (List (List Int)))) : BightC × List (List (List Int)) :=
  let intra : BightC × List (List (List Int)) :=
    let a := (List.range (nBlocks r.fmt)).foldl (fun (ms, qs, ws) j =>
      let (m, q, w) := r.codeIntra i j (nth t j []) prev ws
      (ms ++ [m], qs ++ [q], ws ++ [w])) (([], [], []) : List (Nat × Int) × List (List (List Int)) × List (List (List Int)))
    ({ inter := none, modes := a.1, q := a.2.1 }, a.2.2)
  let pick := choice % (r.nref + 1)
  if r.nref = 0 ∨ r.inColumn i ∨ pick = 0 then intra
  else
    let (mvx, mvy) := searchMv (choice / (r.nref + 1))
    match refs[pick - 1]? with
    | none => intra
    | some ref =>
      if r.mvOk ref i mvx then
        let pred := r.interPred ref.px i mvx mvy
        let ws := (List.range (nBlocks r.fmt)).map fun j => r.codeBlk i j (nth t j []) (nth pred j [])
        ({ inter := some (pick - 1, mvx, mvy), modes := [], q := ws.map (·.1) }, ws.map (·.2))
      else intra

/-- The correction a sample needs (R150). -/
def correction (e : Int) (eb : Nat) : Int := if e > eb then e - eb else if e < -(eb : Int) then e + eb else 0

/-- What coding has made so far, bight by bight. -/
structure EncAcc where
  bights : List BightC
  /-- Final coded blocks of the last bight, final source blocks of every bight, corrections in position order. -/
  prev   : Option (List (List (List Int)))
  fin    : List (List (List (List Int)))
  vals   : List Int

/-- Code every bight. src gives a source sample by plane, row within the segment and column within the band's plane. -/
def RowIn.codeBights (r : RowIn) (src : Nat → Nat → Nat → Int) (refs : List EncRef) (choice : Nat → Nat) : EncAcc :=
  (List.range r.nb).foldl (fun a i =>
    let s := (List.range (nBlocks r.fmt)).map fun j =>
      let k := blockPlane r.fmt j
      blkOf 16 16 fun y x => src k (min y (r.rows - 1)) (i * bightPW r.fmt k + blockX r.fmt j + x)
    let (b, work) := r.codeBight refs (choice i) i (liftBlks (liftFwd r.fmt) s) a.prev
    let s' := r.toSource work
    let vals := r.positions.map fun (j, y, x) =>
      if r.bounded then correction (at2 (nth s j []) y x - at2 (nth s' j []) y x) (r.eb i) else 0
    let f := r.corrected s' vals
    { bights := a.bights ++ [b], prev := some (liftBlks (liftFwd r.fmt) f), fin := a.fin ++ [f], vals := a.vals ++ vals })
    { bights := [], prev := none, fin := [], vals := [] }

/-- The rows of each source plane of the segment, from the bights' blocks. -/
def joinPlanes (fmt : Nat) (fin : List (List (List (List Int)))) : List (List (List Int)) :=
  (List.range (nPlanes fmt)).map fun k => (List.range 16).map fun y =>
    fin.flatMap fun b =>
      if fmt = 2 then (if k = 0 then nth (nth b 0 []) y [] ++ nth (nth b 1 []) y [] else nth (nth b (k + 1) []) y [])
      else nth (nth b k []) y []

/-- The predictors of R177: the four values of a group less their predictors, from those of the transform block to the left. -/
def l0Diff (left : Option (List Int)) (q : List Int) : List Int :=
  let g (i : Nat) := nth q i 0
  match left with
  | some l => [g 0 - nth l 1 0, g 1 - g 0, g 2 - nth l 3 0, g 3 - g 2]
  | none => [g 0, g 1 - g 0, g 2 - g 0, g 3 - g 2]

/-- The values of a group from its differences. -/
def l0Undo (left : Option (List Int)) (v : List Int) : List Int :=
  let g (i : Nat) := nth v i 0
  let q0 := g 0 + (match left with | some l => nth l 1 0 | none => 0)
  let q2 := g 2 + (match left with | some l => nth l 3 0 | none => q0)
  [q0, g 1 + q0, q2, g 3 + q2]

/-- Scan index k of the four transform blocks of a plane block. -/
def scanGroup (q : List (List Int)) (k : Nat) : List Int := q.map fun t => nth t k 0

/-- The four transform blocks' values at index k in the plane block to the left of block j, none at the band's left edge. -/
def leftQ (fmt j k : Nat) (prev : Option (List (List (List Int)))) (cur : List (List (List Int))) : Option (List Int) :=
  if fmt = 2 ∧ j = 1 then some (scanGroup (nth cur 0 []) k)
  else prev.map fun p => scanGroup (nth p (if fmt = 2 ∧ j = 0 then 1 else j) []) k

/-- Something to code: a group, or a symbol outside the contexts. -/
inductive Raw where
  | grp (p f : Nat) (v : List Int)
  | sym (y : Sym)

/-- Code a list of items with the states c: bits and symbols. -/
def codeRaw (c : Coder) (xs : List Raw) : Coder × List Bool × List Sym :=
  let r := xs.foldl (fun (c, bs, ys) x =>
    match x with
    | .grp p f v => let (c, b, y) := codeGroup c p f v; (c, b :: bs, y :: ys)
    | .sym (.tok st m) => let (c, b, y) := codeTok c st m; (c, b :: bs, y :: ys)
    | .sym (.fld n v) => (c, bitsMsb n v :: bs, .fld n v :: ys)
    | .sym (.eg m) => (c, putEg m :: bs, .eg m :: ys)
    | .sym y => (c, bs, y :: ys)) ((c, [], []) : Coder × List (List Bool) × List Sym)
  (r.1, r.2.1.reverse.flatten, r.2.2.reverse)

/-- Groups of L0 (k = 0) or of one scan index of L1. -/
def lowGroups (fmt f : Nat) (ks : List Nat) (bs : List BightC) : List Raw :=
  let r := bs.foldl (fun (prev, out) b =>
    let gs := (List.range (nBlocks fmt)).flatMap fun j =>
      ks.map fun k => Raw.grp j f (l0Diff (leftQ fmt j k prev b.q) (scanGroup (nth b.q j []) k))
    (some b.q, gs :: out)) ((none, []) : Option (List (List (List Int))) × List (List Raw))
  r.2.reverse.flatten

/-- The side information of a bight (R179), and the vector that the next inter bight is predicted from (R141). -/
def sideInfo (nref : Nat) (pmv : Int × Int) (b : BightC) : List Raw × (Int × Int) :=
  let kind (v : Nat) : List Raw := if nref = 0 then [] else [.sym (.fld 1 v)]
  match b.inter with
  | none =>
    (kind 0 ++ b.modes.flatMap fun m =>
      Raw.sym (.fld 4 m.1) :: (if m.1 = 10 then [Raw.sym (.fld 4 (wrap 4 m.2))] else []), pmv)
  | some (rf, mx, my) =>
    (kind 1 ++ (if nref = 2 then [.sym (.fld 1 rf)] else []) ++
      [.sym (.eg (mapS (mx - pmv.1))), .sym (.eg (mapS (my - pmv.2)))], (mx, my))

/-- The groups of L2 for one bight (R178). -/
def l2Groups (b : BightC) : List Raw :=
  ((List.range b.q.length).zip b.q).flatMap fun (j, q) => q.flatMap fun t =>
    (List.range 15).map fun g => Raw.grp j (if g < 4 then 2 else 3) ((t.drop (4 + 4 * g)).take 4)

/-- Tokens: the positions skipped and the value of each correction that is not zero (R151). -/
def tokensOf (vals : List Int) : List (Nat × Int) :=
  (vals.foldl (fun (run, out) v => if v = 0 then (run + 1, out) else (0, (run, v) :: out)) ((0, []) : Nat × List (Nat × Int))).2.reverse

/-- A coded row segment before its OVF flag is known. -/
structure RowOut where
  l0   : List (BitVec 8)
  l1   : List (BitVec 8)
  l2   : List (BitVec 8)
  log  : List Sym
  /-- Bits of the token section (R195). -/
  k    : Nat
  /-- Final samples: source plane, row, column. -/
  fin  : List (List (List Int))

/-- Code the symbols of a row segment (R176 to R184). -/
def RowIn.emit (r : RowIn) (a : EncAcc) : RowOut :=
  let (c, b0, y0) := codeRaw Coder.init (lowGroups r.fmt 0 [0] a.bights)
  let (c, b1, y1) := codeRaw c (lowGroups r.fmt 1 [1, 2, 3] a.bights)
  let side := a.bights.foldl (fun (pmv, out) b =>
    let (s, pmv) := sideInfo r.nref pmv b
    (pmv, (s ++ l2Groups b) :: out)) (((0, 0), []) : (Int × Int) × List (List Raw))
  let (c, b2, y2) := codeRaw c side.2.reverse.flatten
  let ts := tokensOf a.vals
  let (_, b3, y3) := codeRaw c (.sym (.eg ts.length) :: ts.flatMap fun t => [.sym (.tok 0 t.1), .sym (.tok 1 (mapTok t.2))])
  { l0 := stuff (packBits b0), l1 := stuff (packBits b1), l2 := stuff (packBits (b2 ++ b3)), log := y0 ++ y1 ++ y2 ++ y3,
    k := b3.length, fin := joinPlanes r.fmt a.fin }

/-- Code a row segment. -/
def RowIn.encode (r : RowIn) (src : Nat → Nat → Nat → Int) (refs : List EncRef) (choice : Nat → Nat) : RowOut :=
  r.emit (r.codeBights src refs choice)

/-- The logical header of a row segment record (R168). -/
def rowHeader (row band qp e len0 len1 len2 : Nat) (ovf : Bool) : List (BitVec 8) :=
  beBytes 2 row ++ beBytes 1 band ++ beBytes 1 qp ++ beBytes 2 e ++ beBytes 3 len0 ++ beBytes 3 len1 ++ beBytes 3 len2 ++
    beBytes 1 (b2n ovf)

/-- The row segment record with its OVF flag (R168, R170). -/
def RowIn.recordOf (r : RowIn) (o : RowOut) (ovf : Bool) : List (BitVec 8) :=
  record 0xA2#8 (stuff (rowHeader r.row r.band r.qp r.e o.l0.length o.l1.length o.l2.length ovf) ++ o.l0 ++ o.l1 ++ o.l2)

/-! ## The parser -/

/-- The header of a parsed row segment. -/
structure RowHdr where
  row  : Nat
  band : Nat
  qp   : Nat
  e    : Nat
  len0 : Nat
  len1 : Nat
  len2 : Nat
  ovf  : Bool
  deriving DecidableEq, Repr

/-- A header byte that is the i-th: in range, and as expected. want gives what the byte is to be with the class of its breach. -/
def rdHdrByte (want : Nat → Option (Nat × Nat)) (i : Nat) (ok : Nat → Bool) : P Nat := do
  let b ← rdByteIf ok
  match want i with
  | some (v, cls) => if b = v then pure b else perr cls
  | none => pure b

/-- Nothing is expected of a header. -/
def wantNone (_ : Nat) : Option (Nat × Nat) := none

/-- The 16-byte header, each byte checked as it is met (R168, R186, R215, R229). -/
def rdHdr (bounded : Bool) (want : Nat → Option (Nat × Nat)) : P RowHdr := do
  let any (_ : Nat) : Bool := true
  let r1 ← rdHdrByte want 0 any
  let r0 ← rdHdrByte want 1 any
  let band ← rdHdrByte want 2 any
  let qp ← rdHdrByte want 3 fun b => b ≤ 95
  let e1 ← rdHdrByte want 4 fun b => if bounded then b ≤ 3 else b == 0
  let e0 ← rdHdrByte want 5 fun b => bounded || b == 0
  let len0 ← rdBe 3
  let len1 ← rdBe 3
  let len2 ← rdBe 3
  let fl ← rdHdrByte want 15 fun b => b ≤ 1
  pure { row := 256 * r1 + r0, band, qp, e := 256 * e1 + e0, len0, len1, len2, ovf := fl == 1 }

/-- Fail with an invalid code when a dequantised value is beyond 2^23 (R135). -/
def chkMag (qp : Nat) (qs : List Int) : P Unit := do
  if qs.any fun q => (deq qp q).natAbs > 2 ^ 23 then perr 1

/-- The groups of L0 or of L1: for each bight and block, the values at each index of ks. -/
def rdLow (r : RowIn) (f : Nat) (ks : List Nat) : P (List (List (List (List Int)))) := do
  let bs ← (List.range r.nb).foldlM (fun (acc : List (List (List (List Int)))) i => do
    let bl ← (List.range (nBlocks r.fmt)).foldlM (fun (cur : List (List (List Int))) j => do
      let gs ← (List.range ks.length).foldlM (fun (out : List (List Int)) n => do
        let v ← rdGroup j f
        let left := if r.fmt = 2 ∧ j = 1 then some (nth (nth cur 0 []) n [])
          else acc.head?.map fun p => nth (nth p (if r.fmt = 2 ∧ j = 0 then 1 else j) []) n []
        let q := l0Undo left v
        chkMag (r.qpb i) q
        pure (out ++ [q])) []
      pure (cur ++ [gs])) []
    pure (bl :: acc)) []
  pure bs.reverse

/-- The side information of bight i (R179). -/
def rdSide (r : RowIn) (i : Nat) (pmv : Int × Int) : P (Option (Nat × Int × Int) × List (Nat × Int)) := do
  let kind ← if r.nref = 0 then pure 0 else rdFld 1
  if kind = 1 then do
    if r.inColumn i then perr 1
    let rf ← if r.nref = 2 then rdFld 1 else pure 0
    let dx ← rdEg
    let mx := unmapS dx + pmv.1
    if mx < -1024 ∨ mx > 1023 then perr 1
    let dy ← rdEg
    let my := unmapS dy + pmv.2
    if my < -512 ∨ my > 511 then perr 1
    pure (some (rf, mx, my), [])
  else do
    let ms ← rdMany (nBlocks r.fmt) fun j => do
      let m ← rdFld 4
      if m > 10 ∨ (m = 10 ∧ !deltaOk r.fmt j) then perr 1
      let a ← if m = 10 then rdFld 4 else pure 0
      pure (m, sext 4 a)
    pure (none, ms)

/-- The token section: each token's position, value and the bytes passed when it was read (R180, R152). -/
def rdTokens (r : RowIn) : P (List (Nat × Int × Nat)) := do
  let n ← rdEg
  if !r.bounded ∧ n ≠ 0 then perr 1
  let total := r.nb * r.posCount
  if n > total then perr 1
  let a ← (List.range n).foldlM (fun (acc : Nat × List (Nat × Int × Nat)) _ => do
    let run ← rdTok 0
    let v ← rdTok 1
    let pos := acc.1 + run
    if pos ≥ total then perr 1
    let val := unmapTok v
    if val.natAbs + r.eb (pos / r.posCount) > 2 ^ r.d - 1 then perr 1
    let s ← MonadState.get
    pure (pos + 1, (pos, val, s.used) :: acc.2)) (0, [])
  pure a.2.reverse

/-- A parsed row segment. -/
structure RowParse where
  hdr  : RowHdr
  /-- L0 and L1 values: bight, block, index, transform block. -/
  low0 : List (List (List (List Int)))
  low1 : List (List (List (List Int)))
  bights : List BightC
  toks : List (Nat × Int × Nat)
  /-- The stored CRC is that of R161. -/
  crcOk : Bool

/-- R169: the length of a layer is zero exactly when the stream excludes the layer. -/
def rdLen (len : Nat) (present : Bool) : P Unit := if (len != 0) == present then pure () else perr 2

/-- The coefficients of L2 for bight i. -/
def rdL2 (r : RowIn) (i : Nat) (l0 l1 : List (List (List Int))) : P (List (List (List Int))) := do
  rdMany (nBlocks r.fmt) fun j => rdMany 4 fun t => do
    let gs ← rdMany 15 fun g => do
      let v ← rdGroup j (if g < 4 then 2 else 3)
      chkMag (r.qpb i) v
      pure v
    pure (nth (nth (nth l0 j []) 0 []) t 0 :: ((List.range 3).map fun n => nth (nth (nth l1 j []) n []) t 0) ++ gs.flatten)

/-- The layers and the CRC of a row segment, after its header. bodyOf n is the first n stored bytes after the marker. -/
def rdRowBody (r : RowIn) (h : RowHdr) (bodyOf : Nat → List (BitVec 8)) : P RowParse := do
  let r := { r with qp := h.qp, e := h.e, row := h.row }
  rdLen h.len0 true
  let low0 ← rdLayer h.len0 (rdLow r 0 [0])
  rdLen h.len1 (2 ≤ r.layers)
  let low1 ← if r.layers ≥ 2 then rdLayer h.len1 (rdLow r 1 [1, 2, 3]) else pure []
  rdLen h.len2 (r.layers == 3)
  let (bs, toks) ← if r.layers = 3 then rdLayer h.len2 (do
      let a ← (List.range r.nb).foldlM (fun (acc : (Int × Int) × List BightC) i => do
        let (inter, modes) ← rdSide r i acc.1
        let q ← rdL2 r i (nth low0 i []) (nth low1 i [])
        let pmv := match inter with | some (_, mx, my) => (mx, my) | none => acc.1
        pure (pmv, { inter, modes, q } :: acc.2)) ((0, 0), [])
      let toks ← rdTokens r
      pure (a.2.reverse, toks)) else pure ([], [])
  let s ← MonadState.get
  let want := crc32c (bodyOf s.used)
  let crc ← rdBe 4
  pure { hdr := h, low0, low1, bights := bs, toks, crcOk := crc == want }

/-- The reader at the body of a record. -/
def Rd.start (body : List (BitVec 8)) (log : Option (List Sym)) : Rd :=
  { rest := body, used := 0, bits := [], limit := none, coder := Coder.init, log }

/-- Parse a row segment's body, of whose header want tells what is expected: what was parsed and the stored bytes passed, or the
failure. A CRC that differs is no failure here. -/
def parseRow (r : RowIn) (want : Nat → Option (Nat × Nat)) (body : List (BitVec 8)) : Except PErr (RowParse × Nat) :=
  match (do let h ← rdHdr r.bounded want; rdRowBody r h (fun n => body.take n) : P RowParse).run (Rd.start body none) with
  | .ok (p, s) => .ok (p, s.used)
  | .error e => .error e

/-! ## Reconstruction of a parsed row -/

/-- The corrections of bight i in position order. -/
def RowIn.corrOf (r : RowIn) (toks : List (Nat × Int × Nat)) (i : Nat) : List Int :=
  let mine := toks.filter fun t => t.1 / r.posCount == i
  if mine.isEmpty then []
  else (List.range r.posCount).map fun p => match mine.find? fun t => t.1 == i * r.posCount + p with | some t => t.2.1 | none => 0

/-- Rebuild a parsed row: the final source blocks of every bight, or the place of a token that leaves the sample range (R153). -/
def RowIn.rebuild (r : RowIn) (refs : List RefPx) (p : RowParse) : Except Nat (List (List (List (List Int)))) := do
  let r := { r with qp := p.hdr.qp, e := p.hdr.e, row := p.hdr.row }
  let a ← ((List.range p.bights.length).zip p.bights).foldlM
    (fun (acc : Option (List (List (List Int))) × List (List (List (List Int)))) (e : Nat × BightC) => do
      let (i, b) := e
      let work := match b.inter with
        | some (rf, mx, my) =>
          let pred := r.interPred (nth refs rf fun _ _ _ => ((2 ^ (r.d - 1) : Nat) : Int)) i mx my
          (List.range (nBlocks r.fmt)).map fun j =>
            reconBlk (r.qpb i) (planeLo r.fmt r.d j) (planeHi r.d) (nth b.q j []) (nth pred j [])
        | none => (List.range (nBlocks r.fmt)).foldl (fun ws j =>
            let m := nth b.modes j (0, 0)
            let pred := intraPred (r.nbrsOf i j acc.1 ws) m.1 m.2 (nth ws 0 []) (planeLo r.fmt r.d j) (planeHi r.d)
            ws ++ [reconBlk (r.qpb i) (planeLo r.fmt r.d j) (planeHi r.d) (nth b.q j []) pred]) []
      let src := r.toSource work
      let corr := r.corrOf p.toks i
      let f := if corr.isEmpty then src else r.corrected src corr
      match p.toks.find? fun t => t.1 / r.posCount == i &&
          (let (j, y, x) := nth r.positions (t.1 % r.posCount) (0, 0, 0)
           let v := at2 (nth f j []) y x
           v < 0 || v > planeHi r.d) with
      | some t => throw t.2.2
      | none => pure (some (liftBlks (liftFwd r.fmt) f), acc.2 ++ [f])) (none, [])
  pure a.2

/-- The reduced samples of a row whose stream carries fewer than three layers (R125, R145, R214): source plane, row, column. -/
def RowIn.reduced (r : RowIn) (p : RowParse) : List (List (List Int)) :=
  let n := if r.layers < 2 then 1 else 2
  let r := { r with qp := p.hdr.qp, row := p.hdr.row }
  let coded (j i : Nat) : List (List Int) :=
    let v (k t : Nat) : Int := deq (r.qpb i)
      (if k = 0 then nth (nth (nth (nth p.low0 i []) j []) 0 []) t 0 else nth (nth (nth (nth p.low1 i []) j []) (k - 1) []) t 0)
    let tb (t : Nat) := reducedInv r.layers (v 0 t) (v 1 t) (v 2 t) (v 3 t)
    blkOf (2 * n) (2 * n) fun y x => at2 (tb (2 * (y / n) + x / n)) (y % n) (x % n)
  let bl := (List.range r.nb).map fun i =>
    (liftBlks (liftInv r.fmt) ((List.range (nBlocks r.fmt)).map fun j => coded j i)).map (blkMap (clampI 0 (planeHi r.d)))
  (List.range (nPlanes r.fmt)).map fun k => (List.range (2 * n)).map fun y =>
    bl.flatMap fun b =>
      if r.fmt = 2 then (if k = 0 then nth (nth b 0 []) y [] ++ nth (nth b 1 []) y [] else nth (nth b (k + 1) []) y [])
      else nth (nth b k []) y []

/-! ## The inline echo (R228, R229) -/

/-- What the echo expects of a header byte: the strand's intent, but for the layer lengths. -/
def wantIntent (h : RowHdr) (i : Nat) : Option (Nat × Nat) :=
  if i < 6 ∨ i = 15 then some ((nth (rowHeader h.row h.band h.qp h.e 0 0 0 h.ovf) i 0#8).toNat, 7) else none

/-- The outcome of R229 for a failure of the inline echo. -/
def echoCode (cls : Nat) : Nat := if cls = 1 then 5 else if cls = 2 then 2 else if cls = 3 then 3 else if cls = 6 then 1 else 4

/-- The outcome of echo-checking staged bytes against the log and the header the strand intends, the first discrepancy in byte order
with the CRC last; start is the band start record staged ahead of row 0. -/
def echoOutcome (r : RowIn) (staged start : List (BitVec 8)) (log : List Sym) (intent : RowHdr) : Nat :=
  if staged.take start.length ≠ start then 4
  else match staged.drop start.length with
  | m0 :: m1 :: body =>
    if m0 ≠ 0xFF#8 ∨ m1 ≠ 0xA2#8 then 5
    else
      let prog : P RowParse := do
        let h ← rdHdr r.bounded (wantIntent intent)
        let p ← rdRowBody r h fun n => body.take n
        match (← MonadState.get).log with
        | some (_ :: _) => perr 6
        | _ => pure p
      match prog.run (Rd.start body (some log)) with
      | .ok (p, s) => if !s.rest.isEmpty then 2 else if p.crcOk then 0 else 3
      | .error e => echoCode e.cls
  | _ => 2

end Sys2Proof.Machine
end

