-- ==== Sys2Proof/Machine/StrandCore.lean ====
section
/-! DEFINITION. What the strand commands share (spec/09, spec/04, spec/07): lanes and strands, job descriptors and their checks
(R240 to R246), layouts and rate descriptors (R112 to R115, R187 to R190), samples and references in memory (R86, R90, R138, R142),
checkpoints (R120 to R122), frays (R260, R261). -/

namespace Sys2Proof.Machine

/-! ## Access to the nested state -/

def strandOf (s : State) (n : Nat) : StrandSt := nth s.strs.strand n StrandSt.init
def laneOf (s : State) (l : Nat) : Lane := nth s.strs.lane l Lane.init

/-- Change strand n. -/
def modStrand (s : State) (n : Nat) (f : StrandSt → StrandSt) : State :=
  { s with strs := { s.strs with strand := modAt s.strs.strand n f } }

/-- Change lane l; its register shows how many jobs are queued. -/
def modLane (s : State) (l : Nat) (f : Lane → Lane) : State :=
  let s := { s with strs := { s.strs with lane := modAt s.strs.lane l f } }
  put s (R.STR_LANE_CNT_QDEPTH l) (laneOf s l).queue.length

/-- States of R234. -/
def strSpare : Nat := 0
def strActive : Nat := 1
def strQuar : Nat := 2
def strTesting : Nat := 3

def strState (s : State) (n : Nat) : Nat := get s (R.STR_STATE_STATE n)

/-- R235: NL. -/
def numLanes (s : State) : Nat := get s R.STR_POOL_STAT_LANES

/-- The strand that serves lane l, if one does. -/
def laneStrand (s : State) (l : Nat) : Option Nat :=
  if isSet s (R.STR_LANE_MAP_VALID l) then some (get s (R.STR_LANE_MAP_STRAND l)) else none

/-- R237: lanes served by a strand of their own. -/
def activeStrands (s : State) : Nat :=
  ((List.range 18).filter fun l => isSet s (R.STR_LANE_MAP_VALID l) && !isSet s (R.STR_LANE_MAP_SHARED l)).length

/-- Strands in a state. -/
def countStrands (s : State) (st : Nat) : Nat := ((List.range 18).filter fun n => strState s n == st).length

/-- The counts of STR_POOL_STAT follow the strands' states. -/
def poolStat (s : State) : State :=
  put (put s R.STR_POOL_STAT_SPAREAV (countStrands s strSpare)) R.STR_POOL_STAT_NQUAR (countStrands s strQuar)

/-- A strand takes a state; a QUARANTINED one has its mask bit set (R234, R239). -/
def setStrState (s : State) (n st : Nat) : State :=
  let s := put s (R.STR_STATE_STATE n) st
  let s := if st = strQuar then
      put (put s R.STR_QUAR_MASK_MASK (withBit (get s R.STR_QUAR_MASK_MASK) n true)) (R.STR_TEST_STAT_AFTERQ n) 0
    else s
  poolStat s

/-- The lowest-numbered SPARE (R262). -/
def lowestSpare (s : State) : Option Nat := firstIdx (fun n => strState s n == strSpare) 0 18

/-! ## Job descriptors (R240) -/

def jOpc (d : List Byte) : Nat := leAt d 0 1
def jFlags (d : List Byte) : Nat := leAt d 1 1
def jTag (d : List Byte) : Nat := leAt d 2 2
def jLane (d : List Byte) : Nat := leAt d 4 1
def jBand (d : List Byte) : Nat := leAt d 5 1
def jFirst (d : List Byte) : Nat := leAt d 6 2
def jCount (d : List Byte) : Nat := leAt d 8 2
def jPre (d : List Byte) : Nat := leAt d 0x0A 1
def jMeta (d : List Byte) : Nat := leAt d 0x0B 1
def jTick (d : List Byte) : Nat := leAt d 0x10 8
def jLayout (d : List Byte) : Nat := leAt d 0x18 8
def jRate (d : List Byte) : Nat := leAt d 0x20 8
def jSrc (d : List Byte) : Nat := leAt d 0x28 8
def jOut (d : List Byte) : Nat := leAt d 0x30 8
def jRecon (d : List Byte) : Nat := leAt d 0x38 8
def jRef (d : List Byte) (k : Nat) : Nat := leAt d (0x40 + 8 * k) 8
def jMetaBuf (d : List Byte) : Nat := leAt d 0x50 8
def jArg (d : List Byte) (k : Nat) : Nat := leAt d (0x58 + 4 * k) 4
def jNotify (d : List Byte) : Bool := bitAt (jFlags d) 0
def jRing (d : List Byte) : Bool := bitAt (jFlags d) 1
def jHookPre (d : List Byte) : Bool := bitAt (jFlags d) 2
def jHookMeta (d : List Byte) : Bool := bitAt (jFlags d) 3

/-! Opcodes of R241. -/
def opEncRow : Nat := 1
def opDecRow : Nat := 2
def opEcho : Nat := 3
def opLoadCtx : Nat := 4
def opSaveCtx : Nat := 5
def opSelfTest : Nat := 6

def isCustom (o : Nat) : Bool := 0x10 ≤ o && o ≤ 0x1F

/-! Statuses of R246. -/
def jsOK : Nat := 0x00
def jsModeDenied : Nat := 0x01
def jsBadDesc : Nat := 0x02
def jsBadOpcode : Nat := 0x03
def jsBadLane : Nat := 0x04
def jsBadLayout : Nat := 0x05
def jsBadRate : Nat := 0x06
def jsBadRow : Nat := 0x07
def jsBadAddr : Nat := 0x08
def jsTagBusy : Nat := 0x09
def jsQueueFull : Nat := 0x0A
def jsReadError : Nat := 0x0B
def jsCustomFault : Nat := 0x0C
def jsAborted : Nat := 0x0D
def jsSelftestFail : Nat := 0x0E
def jsEchoFail : Nat := 0x0F
def jsPrivDenied : Nat := 0x10
def jsBadCtx : Nat := 0x11
def jsRunFull : Nat := 0x12

/-- R55, R241: does mode m permit a job of opcode o? st is the state of the strand that a SELFTEST names. -/
def jobPermitted (m o st : Nat) : Bool :=
  if m = modeMAINT then true
  else if o = opSelfTest then m ≥ modeIDLE && st != strActive
  else if m = modeRECBE ∨ m = modeRECLG ∨ m = modeRECDUAL then
    o == opEncRow || o == opEcho || o == opLoadCtx || o == opSaveCtx || isCustom o
  else if m = modePLAY ∨ m = modeOFFLOAD then o == opDecRow || o == opLoadCtx || o == opSaveCtx || isCustom o
  else false

/-! ## Completion (R245) -/

/-- The 16 bytes of a completion record, DONE set. -/
def recordBytes (status : Nat) (spliced ovf damaged : Bool) (tag rows failRow outcome strand epoch detail : Nat) : List Byte :=
  leBytes 1 status ++ leBytes 1 (1 + 2 * b2n spliced + 4 * b2n ovf + 8 * b2n damaged) ++ leBytes 2 tag ++ leBytes 2 rows ++
    leBytes 2 failRow ++ leBytes 1 outcome ++ leBytes 1 strand ++ leBytes 2 epoch ++ leBytes 4 detail

/-- Write a completion record of n bytes where a descriptor lies: SSM, frame store, or host memory through its window. -/
def writeRecord (s : State) (part q space a : Nat) (bs : List Byte) : State :=
  if space = 0 then ssmWrite s a bs
  else if space = 1 then fsWrite s a bs
  else startOp s part (.record q) a bs.length true bs

/-- A job completes: its record is written, then its tag is posted; JOB_DONE is raised when it asks for it. A job of a partition in
reset writes and posts nothing (R247). -/
def jobRecord (s : State) (j : Job) (status failRow outcome strand epoch detail : Nat) : State :=
  if j.dead then s
  else
    let bs := recordBytes status j.spliced j.ovf j.damaged (jTag j.desc) j.rows failRow outcome strand epoch detail
    let s := writeRecord s j.part j.seq j.space (j.addr + 0x70) bs
    let s := tagPost s j.part (jTag j.desc)
    if jNotify j.desc then raiseP s j.part srcJobDone else s

/-- The running job of lane l, on strand n. -/
def runningJob (s : State) (l : Nat) : Option Job := if (laneOf s l).running then (laneOf s l).queue.head? else none

/-- The job that strand n runs, with its lane: the lane map still names the strand. -/
def jobOf (s : State) (n : Nat) : Option (Nat × Job) :=
  match (strandOf s n).lane with
  | none => none
  | some l => if laneStrand s l = some n then (runningJob s l).map fun j => (l, j) else none

/-- Show a strand's running job (STR_JOB). -/
def showJob (s : State) (n : Nat) (opc part tag : Nat) : State :=
  put (put (put s (R.STR_JOB_OPC n) opc) (R.STR_JOB_PART n) part) (R.STR_JOB_TAG n) tag

/-- The strand is free of its job: staged rows and the routine are gone. -/
def freeStrand (s : State) (n : Nat) : State :=
  let s := modStrand s n fun x => { x with lane := none, staged := [], routine := 0, preDone := false, stack := [], ues := [], readErr := [] }
  showJob s n 0 0 0

/-- The SELFTEST job that names strand n and belongs to no lane. -/
def testJob (s : State) (n : Nat) : Option Job := s.strs.tests.find? fun j => jLane j.desc == n

/-- The SELFTEST job of strand n leaves its list with a status. -/
def endTestJob (s : State) (n status detail : Nat) : State :=
  match testJob s n with
  | none => s
  | some j => jobRecord { s with strs := { s.strs with tests := s.strs.tests.erase j } } j status 0xFFFF 0 n 0 detail

/-- A self-test of strand n, running or waiting, is abandoned (R262). -/
def abandonTest (s : State) (n : Nat) : State :=
  let s := if (strandOf s n).test = 0 then s else put (modStrand s n fun x => { x with test := 0 }) (R.STR_TEST_STAT_RESULT n) 0
  endTestJob s n jsAborted 0

/-- Move lane l with its queue to a strand: SPARE → ACTIVE, a self-test of it is abandoned (R262, R271). -/
def giveLane (s : State) (l n : Nat) : State :=
  let s := abandonTest s n
  let s := put (put (put s (R.STR_LANE_MAP_STRAND l) n) (R.STR_LANE_MAP_VALID l) 1) (R.STR_LANE_MAP_SHARED l) 0
  let s := put s (R.STR_STATE_LANE n) l
  let s := modStrand s n fun x => { x with test := 0, lane := none, staged := [], band := none, routine := 0 }
  setStrState s n strActive

/-- The lane's epoch advances (R236). -/
def bumpEpoch (s : State) (l : Nat) : State := put s (R.STR_LANE_MAP_EPOCH l) (get s (R.STR_LANE_MAP_EPOCH l) + 1)

/-- R271: a planned takeover: the lane and its queue move to the lowest-numbered SPARE with any lane that shares the strand, and the
strand is tested. -/
def takeover (s : State) (l n : Nat) : State :=
  match lowestSpare s with
  | none => modLane s l fun x => { x with takeover := false }
  | some m =>
    let s := bumpEpoch s l
    let s := giveLane (setStrState s n strTesting) l m
    let s := forN 18 (fun k s =>
      if laneStrand s k = some n then put (bumpEpoch s k) (R.STR_LANE_MAP_STRAND k) m else s) s
    let s := modLane s l fun x => { x with takeover := false }
    let s := modStrand s n fun x => { x with test := 3, lane := none }
    put s (R.STR_TEST_STAT_RESULT n) 1

/-- A planned takeover of strand n goes on once the strand runs no job, of whichever lane it serves (R271). -/
def takeoverDue (s : State) (n : Nat) : State :=
  let l := get s (R.STR_STATE_LANE n)
  if strState s n = strActive ∧ laneStrand s l = some n ∧ (laneOf s l).takeover ∧ (strandOf s n).lane.isNone then takeover s l n else s

/-- The running job of lane l on strand n ends with a status: it leaves the queue, the strand is free, and a planned takeover that
waited for it goes on. -/
def endJob (s : State) (n l : Nat) (status failRow outcome detail : Nat) : State :=
  match runningJob s l with
  | none => s
  | some j =>
    let s := modLane s l fun x => { x with queue := x.queue.drop 1, running := false }
    let s := freeStrand s n
    takeoverDue (jobRecord s j status failRow outcome n (get s (R.STR_LANE_MAP_EPOCH l)) detail) n

/-- A running job that is to stop after its row in progress, and has coded none that is not committed, ends (R247, R501). -/
def stopDeadJobs (s : State) : State :=
  forN 18 (fun n s => match jobOf s n with
    | some (l, j) => if j.dead && (strandOf s n).staged.isEmpty then endJob s n l 0 0xFFFF 0 0 else s
    | none => s) s

/-- Change the running job of lane l. -/
def modJob (s : State) (l : Nat) (f : Job → Job) : State :=
  modLane s l fun x => { x with queue := modAt x.queue 0 f }

/-! ## Layout descriptors (R112 to R115) -/

def lyFormat (y : List Byte) : Nat := leAt y 0 1
def lyDepth (y : List Byte) : Nat := leAt y 1 1
def lyCfa (y : List Byte) : Nat := leAt y 2 1
def lyBands (y : List Byte) : Nat := leAt y 3 1
def lyW (y : List Byte) : Nat := leAt y 4 2
def lyH (y : List Byte) : Nat := leAt y 6 2
def lyStart (y : List Byte) (b : Nat) : Nat := leAt y (8 + 2 * b) 2
def lyCkpt (y : List Byte) : Nat := leAt y 0x30 8

/-- The width of band b (R109). -/
def lyWidth (y : List Byte) (b : Nat) : Nat := (if b + 1 < lyBands y then lyStart y (b + 1) else lyW y) - lyStart y b

/-- NROWS. -/
def lyRows (y : List Byte) : Nat := nRows (lyFormat y) (lyH y)

/-- Bights across the frame. -/
def lyCols (y : List Byte) : Nat := lyW y / bightW (lyFormat y)

/-- R102: the formats that the strands code. -/
def shapeOk (fmt d w h : Nat) : Bool :=
  w % 64 == 0 && w ≤ (if fmt = 2 then 4096 else 16384) && (if fmt = 0 then 256 else 64) ≤ w &&
  (match fmt with
   | 0 => h % 2 == 0 && 64 ≤ h && h ≤ 8640
   | 1 => 16 ≤ h && h ≤ 8640
   | 2 => 16 ≤ h && h ≤ 2160
   | _ => false) &&
  (if fmt = 2 then d == 10 else d == 10 || d == 12 || d == 14 || d == 16)

/-- R113: does a layout keep to R102, R109 and R112, with a active strands? -/
def layoutOk (y : List Byte) (a : Nat) : Bool :=
  shapeOk (lyFormat y) (lyDepth y) (lyW y) (lyH y) &&
  (if lyFormat y = 0 then lyCfa y ≤ 3 else lyCfa y == 0) &&
  1 ≤ lyBands y && lyBands y ≤ 18 && lyBands y ≤ a && lyStart y 0 == 0 &&
  (List.range (lyBands y)).all (fun b => lyWidth y b % 64 == 0 && 64 ≤ lyWidth y b && lyWidth y b ≤ 4096 &&
    lyStart y b + lyWidth y b ≤ lyW y) &&
  (List.range 18).all (fun b => b < lyBands y || lyStart y b == 0) &&
  zeroAt y 0x2C 4 && zeroAt y 0x38 8 && lyCkpt y != 0 && lyCkpt y % 4096 == 0

/-- R115: does a layout match the intake in force? -/
def ringLayoutOk (s : State) (y : List Byte) : Bool :=
  lyFormat y == 0 && lyW y == get s R.INT_RASTER_WIDTH && lyH y == get s R.INT_RASTER_HEIGHT &&
  lyDepth y == 10 + 2 * get s R.INT_CTL_DEPTH && lyCfa y == get s R.INT_CTL_CFA

/-- What stays constant in a clip (R114). -/
def lyShape (y : List Byte) : List Nat := [lyFormat y, lyDepth y, lyCfa y, lyW y, lyH y]

/-! ## Rate descriptors (R187 to R190) -/

def rtCapped (r : List Byte) : Bool := leAt r 0 1 == 1
def rtBounded (r : List Byte) : Bool := bitAt (leAt r 1 1) 0
def rtQpInit (r : List Byte) : Nat := leAt r 2 1
def rtQpMin (r : List Byte) : Nat := leAt r 3 1
def rtQpMax (r : List Byte) : Nat := leAt r 4 1
def rtSpread (r : List Byte) : Nat := leAt r 5 1
def rtEInit (r : List Byte) : Nat := leAt r 6 2
def rtEMin (r : List Byte) : Nat := leAt r 8 2
def rtEMax (r : List Byte) : Nat := leAt r 0x0A 2
def rtNref (r : List Byte) : Nat := leAt r 0x0C 1
def rtNcol (r : List Byte) : Nat := leAt r 0x0D 1
def rtRbw (r : List Byte) : Nat := leAt r 0x0E 1
def rtNroi (r : List Byte) : Nat := leAt r 0x0F 1
def rtFrameNo (r : List Byte) : Nat := leAt r 0x10 4
def rtWsum (r : List Byte) : Nat := leAt r 0x14 4
def rtTarget (r : List Byte) : Nat := leAt r 0x18 8
def rtWeights (r : List Byte) : Nat := leAt r 0x20 8
def rtRois (r : List Byte) : Nat := leAt r 0x28 8
def rtCarryLim (r : List Byte) : Nat := leAt r 0x30 8

/-- The ten-byte rectangles of a region table. -/
def roiList (b : List Byte) : List (List Byte) := (List.range (b.length / 10)).map fun i => sliceBytes b (10 * i) 10

/-- The row weights (R188): 1 for every row when no table is given. -/
def weightsOf (s : State) (r : List Byte) (rows : Nat) : List Nat :=
  if rtWeights r = 0 then List.replicate rows 1 else (fsRead s (rtWeights r) rows).map (·.toNat)

/-- R189: does a rate descriptor with its tables keep to every condition? ncol is the clip's NCOL when an earlier frame fixed it. -/
def rateOk (r : List Byte) (weights : List Nat) (rois : List Byte) (cols rows : Nat) (ncol : Option Nat) : Bool :=
  leAt r 1 1 < 2 && zeroAt r 0x38 8 && leAt r 0 1 ≤ 1 && 1 ≤ rtRbw r && rtRbw r ≤ 16 && rtNroi r ≤ 16 &&
  rtQpInit r ≤ 95 && rtEInit r ≤ 1023 &&
  (!rtCapped r || (rtSpread r ≤ 6 && rtCarryLim r ≤ 2 ^ 40 && rtQpMin r ≤ rtQpInit r && rtQpInit r ≤ rtQpMax r && rtQpMax r ≤ 95 && rtEMin r ≤ rtEInit r &&
    rtEInit r ≤ rtEMax r && rtEMax r ≤ 1023 && rtTarget r != 0)) &&
  weights.all (· != 0) && rtWsum r == weights.sum &&
  (roiList rois).all (fun b => roiOk b cols rows && (rtBounded r || !(roiOf b).own)) &&
  rtNref r ≤ 2 && (rtNref r == 0 || (rtNref r ≤ rtFrameNo r && rtNcol r != 0)) &&
  (match ncol with | none => true | some n => n == rtNcol r)

/-- R202: N, PHASE, COL and SWEEP_START of a frame with NREF at least 1. -/
def sweepN (cols ncol : Nat) : Nat := ceilDiv cols ncol
def sweepPhase (cols ncol f : Nat) : Nat := (f - 1) % sweepN cols ncol
def sweepCol (cols ncol f : Nat) : Nat := sweepPhase cols ncol f * ncol
def sweepStart (cols ncol f : Nat) : Nat := f - sweepPhase cols ncol f

/-- COL and NCOL of the refresh column of a frame. -/
def refreshOf (r : List Byte) (cols : Nat) : Option (Nat × Nat) :=
  if rtNref r = 0 then none else some (sweepCol cols (rtNcol r) (rtFrameNo r), rtNcol r)

/-- R203: the clean boundary, in bights, of a reference with number g for a frame with number f. -/
def cleanOf (cols ncol f g : Nat) : Nat :=
  if sweepStart cols ncol f ≤ g then min cols ((sweepPhase cols ncol g + 1) * ncol) else 0

/-- Bights of band b in the refresh column (R193). -/
def refreshBights (y : List Byte) (ref : Option (Nat × Nat)) (b : Nat) : Nat :=
  let w := bightW (lyFormat y)
  match ref with
  | none => 0
  | some (c, n) =>
    let lo := max c (lyStart y b / w); let hi := min (c + n) ((lyStart y b + lyWidth y b) / w)
    hi - lo

/-- R193: the target of band b in bytes. -/
def bandTarget (y r : List Byte) (b : Nat) : Nat :=
  let ref := refreshOf r (lyCols y)
  let u (i : Nat) := lyWidth y i / bightW (lyFormat y) + (rtRbw r - 1) * refreshBights y ref i
  let tot := ((List.range (lyBands y)).map u).sum
  rtTarget r * u b / tot

/-- R194: the base budget and the budget of a row in bits. -/
def baseBudget (y r : List Byte) (b w : Nat) : Nat := 8 * bandTarget y r b * w / rtWsum r
def rowBudget (base : Nat) (carry : Int) (spread : Nat) : Int := max ((base : Int) + sar carry spread) (max (base / 4) 64 : Nat)

/-- qp_step of R196. -/
def qpStep (k : Nat) : Int :=
  if k ≥ 64 then 12 else if k ≥ 48 then 8 else if k ≥ 32 then 6 else if k ≥ 24 then 3 else if k ≥ 19 then 1
  else if k ≥ 14 then 0 else if k ≥ 11 then -1 else if k ≥ 8 then -3 else -6

/-- e_up and e_dn of R196. -/
def eUp (e emax : Nat) : Nat := min emax (e + (if e / 2 = 0 then 1 else e / 2))
def eDn (e emin : Nat) : Nat := let d := if e / 4 = 0 then 1 else e / 4; if e < emin + d then emin else e - d

/-- R198: is a row of size S against budget G an overflow row? -/
def isOverflow (r : List Byte) (c : Rc) (g : Int) (sz : Nat) : Bool :=
  rtCapped r && (sz : Int) > g && c.qp == rtQpMax r && (!rtBounded r || c.e == rtEMax r)

/-- rc_update of R196: the state after a row with base budget b, budget g, size sz and token size k. -/
def rcUpdate (r : List Byte) (c : Rc) (b : Nat) (g : Int) (sz k : Nat) (ovf : Bool) : Rc :=
  if !rtCapped r then { qp := rtQpInit r, e := rtEInit r, carry := 0, ovf := 0 }
  else
    let st := qpStep (16 * sz / g.toNat)
    let heavy := rtBounded r && sz ≤ 4 * k
    let (qp, e) : Nat × Nat :=
      if st > 0 then
        if heavy && c.e < rtEMax r then (c.qp, eUp c.e (rtEMax r))
        else if c.qp < rtQpMax r then (min (rtQpMax r) (c.qp + st.toNat), c.e)
        else if rtBounded r && c.e < rtEMax r then (c.qp, eUp c.e (rtEMax r))
        else (c.qp, c.e)
      else if st < 0 then
        if rtBounded r && c.e > rtEMin r then (c.qp, eDn c.e (rtEMin r))
        else (max (rtQpMin r) (c.qp - st.natAbs), c.e)
      else (c.qp, c.e)
    { qp := qp, e := e, carry := clampI (-(rtCarryLim r : Int)) (rtCarryLim r) (c.carry + b - sz), ovf := c.ovf + b2n ovf }

/-- The state at row 0 of a band (R196). -/
def rcInit (r : List Byte) : Rc := { qp := rtQpInit r, e := rtEInit r, carry := 0, ovf := 0 }

/-! ## Samples in memory -/

/-- Bits [lo + w − 1 : lo] of a little-endian bit string in the frame store. -/
def fsBits (s : State) (a lo w : Nat) : Nat := bits (leVal (fsRead s (a + lo / 8) ((lo % 8 + w + 7) / 8))) (lo % 8) w

/-- R90: the address of the capture ring slot of frame n. -/
def ringSlot (s : State) (n : Nat) : Nat :=
  let slots := max 1 (get s R.INT_RING_CFG_SLOTS)
  2 ^ 12 * get s R.INT_RING_BASE_LO_ADDR + 2 ^ 32 * get s R.INT_RING_BASE_HI_ADDR + 4096 * (n % slots) * get s R.INT_RING_STRIDE_UNITS

/-- R90: bytes of a capture ring row. -/
def rowStride (w d : Nat) : Nat := ceilDiv (w * d) 512 * 64

/-- R94: the address of view P's buffer for frame n, and its size. -/
def viewPBuf (s : State) (n : Nat) : Nat :=
  let w := getF s (R.INT_VIEW_SIZE_W 2); let h := getF s (R.INT_VIEW_SIZE_H 2)
  2 ^ 12 * getF s (R.INT_VIEW_BASE_LO_ADDR 2) + 2 ^ 32 * getF s (R.INT_VIEW_BASE_HI_ADDR 2) +
    (n % 2) * (4096 * ceilDiv (w * h * 5) 8192)

/-- A sample of plane k at row y, column x of a buffer in CSI-2 YUV422 10-bit byte order: five bytes for Cb, Y0, Cr, Y1 with the low
bits last (R94; the order inside the five bytes is PRESUMED from CSI-2, log entry 36). -/
def yuvSample (s : State) (base w k y x : Nat) : Nat :=
  let pair := if k = 0 then x / 2 else x
  let a := base + (y * w + 2 * pair) * 5 / 2
  let c := if k = 1 then 0 else if k = 2 then 2 else 1 + 2 * (x % 2)
  leVal (fsRead s (a + c) 1) * 4 + bits (leVal (fsRead s (a + 4) 1)) (2 * c) 2

/-- A sample of a source frame buffer in DRAM, of which the spec does not state the arrangement (log entry 33). -/
def dramSample (s : State) (d y : List Byte) (k py px : Nat) : Nat := Config.dramSample s.fs (jSrc d) y k py px % 2 ^ lyDepth y

/-- A sample of a mosaic at its row and column: from the ring slot (R90) or from a frame buffer. -/
def mosaicSample (s : State) (d y : List Byte) (row col : Nat) : Nat :=
  if jRing d then
    fsBits s (ringSlot s (jTick d) + row * rowStride (lyW y) (lyDepth y)) (col * lyDepth y) (lyDepth y)
  else dramSample s d y 0 row col

/-- A source sample by plane, frame plane row and frame plane column: from the quad of a mosaic (R103), from view P (R94), or from a
frame buffer in DRAM. -/
def srcSample (s : State) (d y : List Byte) (k py px : Nat) : Nat :=
  if lyFormat y = 0 then
    let (dy, dx) := cfaSite (lyCfa y) k
    mosaicSample s d y (2 * py + dy) (2 * px + dx)
  else if lyFormat y = 2 ∧ jSrc d = viewPBuf s (jTick d) then yuvSample s (jSrc d) (lyW y) k py px
  else dramSample s d y k py px

/-- R138: bytes of a row of plane k in a reference or decoded frame buffer, and the offset of the plane. -/
def refPitch (fmt w k : Nat) : Nat := ceilDiv (planeW fmt k w * 2) 64 * 64
def refPlaneOff (fmt w rows k : Nat) : Nat := ((List.range k).map fun i => 16 * rows * refPitch fmt w i).sum

/-- Bytes of a reference buffer. -/
def refBytes (y : List Byte) : Nat := refPlaneOff (lyFormat y) (lyW y) (lyRows y) (nPlanes (lyFormat y))

/-- The address of a sample in a reference buffer. -/
def refAddr (y : List Byte) (base k py px : Nat) : Nat :=
  base + refPlaneOff (lyFormat y) (lyW y) (lyRows y) k + py * refPitch (lyFormat y) (lyW y) k + 2 * px

/-- A sample of a reference or decoded frame buffer. -/
def bufSample (s : State) (y : List Byte) (base k py px : Nat) : Nat := leVal (fsRead s (refAddr y base k py px) 2)

/-- The samples of a reference buffer with the edge clamp of R142. -/
def refPx (s : State) (y : List Byte) (base : Nat) : RefPx := fun k py px =>
  let cy := (clampI 0 ((16 * lyRows y : Nat) - 1) py).toNat
  let cx := (clampI 0 ((planeW (lyFormat y) k (lyW y) : Nat) - 1) px).toNat
  (bufSample s y base k cy cx : Int)

/-- The writes that put a row's final samples into a reference or decoded frame buffer: address and bytes of each plane row. -/
def rowWrites (y : List Byte) (base band row : Nat) (fin : List (List (List Nat))) : List (Nat × List Byte) :=
  (List.range fin.length).flatMap fun k => (List.range 16).map fun r =>
    (refAddr y base k (16 * row + r) (planeW (lyFormat y) k (lyStart y band)), (nth (nth fin k []) r []).flatMap (leBytes 2))

/-- Carry out a list of frame store writes. -/
def fsWrites (s : State) (ws : List (Nat × List Byte)) : State := ws.foldl (fun s w => fsWrite s w.1 w.2) s

/-! ## Checkpoints (R120, R121) -/

/-- Nrow of a band that is wb columns wide. -/
def ckptSamples (fmt wb : Nat) : Nat := if fmt = 1 then 3 * wb else 2 * wb

/-- CKPT_BYTES of a band that is wb columns wide. -/
def ckptBytes (fmt d wb : Nat) : Nat := 4096 * ceilDiv (1024 + ceilDiv (ckptSamples fmt wb * d) 8) 4096

/-- The address of the slot that row r of band b commits to. -/
def ckptSlot (y : List Byte) (b r : Nat) : Nat :=
  lyCkpt y + (2 * b + r % 2) * ckptBytes (lyFormat y) (lyDepth y) (lyWidth y b)

/-- Bytes that pack samples at d bits each, in the order of R86. -/
def packSamples (d : Nat) (xs : List Nat) : List Byte :=
  leBytes (ceilDiv (xs.length * d) 8) (xs.foldr (fun x a => x % 2 ^ d + 2 ^ d * a) 0)

/-- n samples of d bits from a byte string. -/
def unpackSamples (d n : Nat) (bs : List Byte) : List Nat :=
  let v := leVal bs
  (List.range n).map fun i => bits v (d * i) d

/-- The bytes of a checkpoint (R121): header, CRC and row data. -/
def ckptImage (y : List Byte) (b : BandSt) (epoch : Nat) : List Byte :=
  let head := leBytes 4 0x54504B43 ++ leBytes 1 b.band ++ leBytes 1 (lyFormat y) ++ leBytes 2 epoch ++ leBytes 8 b.frame.tick ++
    leBytes 2 (b.rows - 1) ++ leBytes 1 b.rc.qp ++ leBytes 1 0 ++ leBytes 2 b.rc.e ++ leBytes 2 0 ++ leBytes 8 (wrap 64 b.rc.carry) ++
    leBytes 4 b.outBuf ++ leBytes 4 b.outOff ++ leBytes 4 b.runBytes ++ leBytes 4 b.rc.ovf ++ List.replicate 972 0
  let data := packSamples (lyDepth y) b.bottom.flatten
  head ++ leBytes 4 (crc32c (head ++ data)) ++ data

/-- A checkpoint read back: the band state it gives, when MAGIC, BAND, TICKNO, ROW, the epoch (when one is asked for) and CRC are as
R122 asks. -/
def ckptRead (s : State) (y : List Byte) (a : Nat) (f : FrameId) (b row : Nat) (epoch : Option Nat) : Option BandSt :=
  let fmt := lyFormat y; let wb := lyWidth y b; let d := lyDepth y
  let n := ckptSamples fmt wb
  let h := fsRead s a 0x400
  let data := fsRead s (a + 0x400) (ceilDiv (n * d) 8)
  if leAt h 0 4 = 0x54504B43 ∧ leAt h 4 1 = b ∧ leAt h 8 8 = f.tick ∧ leAt h 0x10 2 = row ∧
      leAt h 6 2 = epoch.getD (leAt h 6 2) ∧ leAt h 0x3FC 4 = crc32c (h.take 0x3FC ++ data) then
    let xs := unpackSamples d n data
    let bottom := ((List.range (nPlanes fmt)).foldl (fun (out, rest) k =>
      let w := planeW fmt k wb
      (out ++ [rest.take w], rest.drop w)) (([], xs) : List (List Nat) × List Nat)).1
    some { frame := f, band := b, rows := row + 1,
           rc := { qp := leAt h 0x12 1, e := bits (leAt h 0x14 2) 0 10, carry := sext 64 (leAt h 0x18 8), ovf := leAt h 0x2C 4 },
           outBuf := leAt h 0x20 4, outOff := leAt h 0x24 4, runBytes := leAt h 0x28 4, bottom := bottom, waiting := [],
           good := some row }
  else none

/-- The band state at row 0. -/
def bandInit (f : FrameId) (b : Nat) (rc : Rc) : BandSt :=
  { frame := f, band := b, rows := 0, rc := rc, outBuf := listEnd, outOff := 65536, runBytes := 0, bottom := [], waiting := [],
    good := none }

/-! ## Frames and clips (R114, R190) -/

/-- The stream of a decoded frame: the clip that READ_FRAME read it from, by STRIPE_ID; one stream of its own for frames that reached
the frame store another way (log entry 35). -/
def decStream (s : State) (part tick : Nat) : Nat :=
  match s.strs.reads.find? fun r => r.1 == part && r.2.1 == tick with
  | some r => 3 + r.2.2
  | none => 2

/-- Does a job belong to a decoded frame? A DEC_ROW does, and in PLAY, in OFFLOAD and, for a frame being decoded, in MAINT the jobs that
go with it (log entry 35). -/
def onDecoded (s : State) (part : Nat) (d : List Byte) : Bool :=
  jOpc d == opDecRow ||
  (jOpc d != opEncRow && (modeOf s == modePLAY || modeOf s == modeOFFLOAD ||
    (modeOf s == modeMAINT && s.strs.decs.any fun x => x.id.part == part && x.id.tick == jTick d)))

/-- The stream of a job of a partition: of a decoded frame that of its clip; 1 the proxy of REC-LG or REC-DUAL (format 2); else 0 (log
entry 35). -/
def streamOf (s : State) (part : Nat) (d y : List Byte) : Nat :=
  if onDecoded s part d then decStream s part (jTick d)
  else if lyFormat y = 2 ∧ (modeOf s = modeRECLG ∨ modeOf s = modeRECDUAL) then 1 else 0

/-- The clip that a frame belongs to: its partition and stream. -/
def clipKey (f : FrameId) : Nat := f.part + 8 * f.stream

/-- R51: is a frame a proxy frame that the overrun level drops, or has dropped? -/
def proxyCut (s : State) (f : FrameId) : Bool :=
  f.stream == 1 && (proxyDropped s || s.intake.frames.any fun x => x.tick == f.tick && x.noProxy)

def findFrame (s : State) (f : FrameId) : Option FrameFix := s.strs.frames.find? fun x => x.id == f

def setFrame (s : State) (x : FrameFix) : State :=
  if (findFrame s x.id).isSome then
    { s with strs := { s.strs with frames := s.strs.frames.map fun z => if z.id = x.id then x else z } }
  else { s with strs := { s.strs with frames := s.strs.frames ++ [x] } }

def findClip (s : State) (p st : Nat) : Option ClipFix := s.strs.clips.find? fun x => x.part == p && x.stream == st

def setClip (s : State) (x : ClipFix) : State :=
  { s with strs := { s.strs with clips := x :: s.strs.clips.filter fun z => !(z.part == x.part && z.stream == x.stream) } }

/-- The frames of a stream that were coded before frame f, last first (R137). -/
def framesBefore (s : State) (f : FrameId) : List FrameFix :=
  ((s.strs.frames.filter fun x => x.id.part == f.part && x.id.stream == f.stream).takeWhile fun x => x.id != f).reverse

/-- Has every row of every band of a frame committed (R139)? -/
def frameDone (x : FrameFix) : Bool :=
  (List.range (lyBands x.layout)).all fun b => (lookupKey x.done b).getD 0 == lyRows x.layout

/-- R252 REF_READY: the references of a frame being coded have committed. -/
def refReady (s : State) (x : FrameFix) : Bool :=
  x.rate.isEmpty || ((framesBefore s x.id).take (rtNref x.rate)).all frameDone

/-! ## Frays (R260, R261) -/

/-- What every fray sets: the fault, the cause and the count; rows whose COMMIT word has not issued go. -/
def declareFray (s : State) (n cause : Nat) : State :=
  let s := fault s (fltStrandFrayed n)
  let s := bump (put s (R.STR_STATE_CAUSE n) cause) (R.STR_FRAY_CNT_COUNT n)
  modStrand s n fun x => { x with staged := x.staged.filter (·.handed), bad := true }

/-- A strand is declared frayed: an ACTIVE one waits for its splice, any other is quarantined. -/
def fray (s : State) (n cause : Nat) : State :=
  let s := declareFray s n cause
  if strState s n = strActive then { s with strs := { s.strs with frays := s.strs.frays ++ [(n, cause)] } }
  else setStrState (modStrand s n fun x => { x with test := 0 }) n strQuar

/-- Has a strand been declared frayed and not yet been spliced? -/
def frayed (s : State) (n : Nat) : Bool := s.strs.frays.any fun f => f.1 == n

end Sys2Proof.Machine
end

