-- ==== Sys2Proof/Machine/Admission.lean ====
section
/-! DEFINITION. Admission and overcommitment (R40 to R46, R282): what a program reserves, what each resource allows per tick, and the
tests that compare them. -/

namespace Sys2Proof.Machine

/-! ## What programs reserve -/

/-- A program's amount of a resource: its code of R41, and its index (port or sequencer). q is the sequencer that holds the program. -/
def amountOf (q : Nat) (i : List Byte) (code idx : Nat) : Nat :=
  match code with
  | 1 => hdrSamples i
  | 2 => hdrDram i
  | 4 => hdrMagQ2 i idx + hdrMagQ3 i idx
  | 5 => if idx = q then hdrCycles i else 0
  | _ => 0

/-- What a pair has reserved of an amount: the larger of its active and its standby program's, where both hold reservations (R43). -/
def pairReserves (s : State) (q p : Nat) (f : List Byte → Nat) : Nat :=
  let x := pairOf s q p
  let a := if x.resvA then ((activeImage s q p).map f).getD 0 else 0
  let b := if x.resvS then ((standbyImage s q p).map f).getD 0 else 0
  max a b

/-- The sum of an amount over every pair that satisfies a test. f takes the sequencer and the image. -/
def sumReserved (s : State) (ok : Nat → Nat → Bool) (f : Nat → List Byte → Nat) : Nat :=
  ((List.range 4).flatMap fun q => (List.range 8).map fun p => if ok q p then pairReserves s q p (f q) else 0).sum

/-- Every image that holds a reservation, with its sequencer. -/
def reservedImages (s : State) : List (Nat × List Byte) :=
  (List.range 4).flatMap fun q => (List.range 8).flatMap fun p =>
    (if (pairOf s q p).resvA then ((activeImage s q p).map fun i => (q, i)).toList else []) ++
    (if (pairOf s q p).resvS then ((standbyImage s q p).map fun i => (q, i)).toList else [])

/-! ## Limits per tick (R41) -/

/-- The strand sample limit with a active strands. -/
def strandLimit (s : State) : Nat :=
  10 ^ 9 * activeStrands s * s.tick.den * get s R.TICK_ADM_LIMIT_STRAND / (100 * s.tick.num)

/-- The DRAM byte limit at mts million transfers a second. -/
def dramLimitAt (s : State) (mts : Nat) : Nat :=
  32 * 10 ^ 6 * mts * s.tick.den * get s R.TICK_ADM_LIMIT_DRAM / (100 * s.tick.num)

/-- The DRAM rate that admission uses (R423). -/
def dramRate (s : State) : Nat := get s (R.DRC_TSET_RATE_MTS s.dram.rateSet)

/-- The byte limit of magazine port n (R456). -/
def portLimit (s : State) (n : Nat) : Nat := (14 * 10 ^ 9 - 10 ^ 6 * get s (R.MAG_STRICT_MBPS n)) * s.tick.den / s.tick.num

/-- The shaper limit of queue q of port n. -/
def shaperLimit (s : State) (n q : Nat) : Nat := 10 ^ 6 * get s (R.MAG_Q_SHAPE_RATE n q) * s.tick.den / s.tick.num

/-- The cycle limit of a sequencer: floor((1.2 × 10⁹ × DEN / NUM − 24,000) × SEQ / 100). -/
def cycleLimit (s : State) : Nat :=
  (12 * 10 ^ 8 * s.tick.den - 24000 * s.tick.num) * get s R.TICK_ADM_LIMIT_SEQ / (100 * s.tick.num)

/-- The device limit of a summed resource. -/
def deviceLimit (s : State) (code idx : Nat) : Nat :=
  match code with
  | 1 => strandLimit s
  | 2 => dramLimitAt s (dramRate s)
  | 4 => portLimit s idx
  | _ => if offline s idx then 0 else cycleLimit s

/-- The share in force of a partition, in percent; resource 4 has none, so 100 (R41). -/
def shareOf (s : State) (part code idx : Nat) : Nat :=
  match code with
  | 1 => nth s.seqs.shareS part 0
  | 2 => nth s.seqs.shareD part 0
  | 4 => 100
  | _ => seqShare s part idx

/-- Indexes of a summed resource: ports, sequencers, or one. -/
def unitsOf (code : Nat) : Nat := if code = 4 ∨ code = 5 then 4 else 1

/-! ## The six checks of R41, R42 -/

/-- R40, R282: the capture ring slots a program requires. -/
def ringNeeds (i : List Byte) : Nat :=
  let k := if hdrMasterPorts i = 0 then 0 else countPorts (hdrMasterPorts i)
  let m := if runsIn i modeRECRAW then k + 2
    else if runsIn i modeRECBE || runsIn i modeRECLG || runsIn i modeRECDUAL then 2 else 0
  max (hdrRingMin i) m

/-- R282: is LAT entry k met? -/
def latOk (s : State) (i : List Byte) (k : Nat) : Bool :=
  let port := hdrLatPort i k
  let ns := hdrLatNs i k
  (port == 0 && ns == 0) || (port ≤ 23 && get s (R.DRC_PORT_TGT_NS port) ≤ ns)

/-- A failed check: resource code, scope and index (R42). -/
abbrev Refused := Nat × Nat × Nat

/-- Resource 1, 2, 4 or 5 at one index, for a program of pair (q, p) of a partition. -/
def sumCheck (s : State) (q p part : Nat) (i : List Byte) (code idx : Nat) : Option Refused :=
  let others := fun a b => !(a == q && b == p)
  let amt := amountOf q i code idx
  let lim := deviceLimit s code idx
  let shaped := fun (qn : Nat) (f : List Byte → Nat) =>
    decide (sumReserved s others (fun _ j => f j) + f i ≤ shaperLimit s idx qn)
  if lim < sumReserved s others (fun a j => amountOf a j code idx) + amt then some (code, 0, idx)
  else if code = 4 ∧ ¬ (shaped 2 (fun j => hdrMagQ2 j idx) && shaped 3 (fun j => hdrMagQ3 j idx)) then some (code, 0, idx)
  else if lim * shareOf s part code idx / 100 <
      sumReserved s (fun a b => others a b && ownerOf s a b == part) (fun a j => amountOf a j code idx) + amt then some (code, 1, idx)
  else none

/-- The first failing index of a summed resource. -/
def sumChecks (s : State) (q p part : Nat) (i : List Byte) (code : Nat) : Option Refused :=
  ((List.range (unitsOf code)).map fun idx => sumCheck s q p part i code idx).findSome? id

/-- Admission of a program into pair (q, p): none when it is admitted, else the first check that fails (R41 to R43). -/
def admitCheck (s : State) (q p part : Nat) (i : List Byte) : Option Refused :=
  match sumChecks s q p part i 1, sumChecks s q p part i 2 with
  | some r, _ => some r
  | none, some r => some r
  | none, none =>
    match firstIdx (fun k => !latOk s i k) 0 8 with
    | some k => some (3, 0, k)
    | none => match sumChecks s q p part i 4, sumChecks s q p part i 5 with
      | some r, _ => some r
      | none, some r => some r
      | none, none => if get s R.INT_RING_CFG_SLOTS < ringNeeds i then some (6, 0, 0) else none

/-- A refusal is copied to TICK_ADM_LAST and counted (R42). -/
def noteRefusal (s : State) (part : Nat) (r : Refused) : State :=
  let s := put (put s R.TICK_ADM_LAST_CODE r.1) R.TICK_ADM_LAST_SCOPE r.2.1
  bump (put (put s R.TICK_ADM_LAST_INDEX r.2.2) R.TICK_ADM_LAST_PART part) R.TICK_ADM_REFUSE_CNT_COUNT

/-- The install status word (R277). -/
def instWord (status : Nat) (r : Refused) (detail : Nat) : Nat :=
  status + 2 ^ 8 * r.1 + 2 ^ 12 * r.2.1 + 2 ^ 13 * r.2.2 + 2 ^ 16 * detail

/-! ## Overcommitment (R46) -/

/-- Does every admitted reservation fit every limit of R41, device limits and partition shares? -/
def reservationsFit (s : State) : Bool :=
  let all := fun (_ _ : Nat) => true
  [1, 2, 4, 5].all (fun code => (List.range (unitsOf code)).all fun idx =>
    sumReserved s all (fun a j => amountOf a j code idx) ≤ deviceLimit s code idx &&
    (code != 4 || (sumReserved s all (fun _ j => hdrMagQ2 j idx) ≤ shaperLimit s idx 2 &&
      sumReserved s all (fun _ j => hdrMagQ3 j idx) ≤ shaperLimit s idx 3)) &&
    (List.range 8).all fun part =>
      sumReserved s (fun a b => ownerOf s a b == part) (fun a j => amountOf a j code idx) ≤
        deviceLimit s code idx * shareOf s part code idx / 100) &&
  (reservedImages s).all fun x =>
    (List.range 8).all (latOk s x.2) && ringNeeds x.2 ≤ get s R.INT_RING_CFG_SLOTS

/-- Capacity has been lost: OVERCOMMIT sets when the reservations no longer fit. -/
def overcommitSet (s : State) : State :=
  if reservationsFit s || isSet s R.TICK_ADM_STAT_OVERCOMMIT then s
  else raise (setF s R.TICK_ADM_STAT_OVERCOMMIT) hubAdmOvercommit

/-- Capacity has been lost between boundaries: OVERCOMMIT may set, and does not clear (R46). -/
def overcommitCheck (s : State) : State := if reservationsFit s then s else overcommitSet s

/-- The test of a tick boundary: OVERCOMMIT sets, or clears once everything fits. -/
def overcommitTest (s : State) : State :=
  if reservationsFit s then clrF s R.TICK_ADM_STAT_OVERCOMMIT else overcommitSet s

end Sys2Proof.Machine
end

