-- ==== Sys2Proof/Machine/StrandEnc.lean ====
section
/-! DEFINITION. Issuing, starting and coding strand jobs: R242 to R248, R116 to R122, R154, R187 to R198, R228 to R231, R257. -/

namespace Sys2Proof.Machine

/-! ## Issue (R242, R298) -/

/-- The strand a SELFTEST job names has this state; other jobs name no strand. -/
def namedState (s : State) (d : List Byte) : Nat := strState s (jLane d)

/-- R297: is an ENC_ROW for a frame at or past the boundary at which a recording mode is being left? -/
def leavingDenies (s : State) (tick : Nat) : Bool :=
  match s.tick.leave with
  | none => false
  | some b => b ≤ tick

/-- Does a job with this tag of this partition wait or run? -/
def tagBusy (s : State) (part tag : Nat) : Bool :=
  (s.strs.lane.any fun l => l.queue.any fun j => j.part == part && jTag j.desc == tag) ||
  s.strs.tests.any fun j => j.part == part && jTag j.desc == tag

/-- The status of R242's checks, in order. -/
def issueStatus (s : State) (part : Nat) (d : List Byte) : Nat :=
  let o := jOpc d
  if !((1 ≤ o && o ≤ 6) || isCustom o) then jsBadOpcode
  else if !zeroAt d 0x0C 4 || 16 ≤ jFlags d || 16 ≤ jPre d || 16 ≤ jMeta d then jsBadDesc
  else if !jobPermitted (modeOf s) o (namedState s d) || (o == opEncRow && leavingDenies s (jTick d)) then jsModeDenied
  else if o = opSelfTest ∧ part ≠ 0 then jsPrivDenied
  else if (if o = opSelfTest then 18 ≤ jLane d else numLanes s ≤ jLane d) then jsBadLane
  else if tagBusy s part (jTag d) then jsTagBusy
  else if o = opSelfTest ∧ strState s (jLane d) ≠ strActive then jsOK
  else
    let l := if o = opSelfTest then get s (R.STR_STATE_LANE (jLane d)) else jLane d
    if 32 ≤ (laneOf s l).queue.length then jsQueueFull else jsOK

/-- ISSUE of a job: a refused job writes its record at once, an accepted one joins its lane's queue and its tag becomes outstanding.
Answers the status. -/
def issueJob (s : State) (q part space a : Nat) (d : List Byte) : Nat × State :=
  let st := issueStatus s part d
  let j : Job := { part := part, seq := q, desc := d, space := space, addr := a, spliced := false, ovf := false,
                   damaged := false, rows := 0, dead := false }
  if st = jsOK then
    let s := tagIssue s part (jTag d)
    if jOpc d = opSelfTest ∧ strState s (jLane d) ≠ strActive then
      (st, { s with strs := { s.strs with tests := s.strs.tests ++ [j] } })
    else
      let l := if jOpc d = opSelfTest then get s (R.STR_STATE_LANE (jLane d)) else jLane d
      (st, modLane s l fun x => { x with queue := x.queue ++ [j] })
  else if leavingDenies s (jTick d) ∧ st = jsModeDenied ∧ jobPermitted (modeOf s) (jOpc d) (namedState s d) then (st, s)
  else (st, writeRecord s part q space (a + 0x70) (recordBytes st false false false (jTag d) 0 0xFFFF 0 0 0 0))

/-! ## The checks at the head of the queue (R243) -/

/-- Does an opcode use the layout descriptor? -/
def usesLayout (o : Nat) : Bool := o == opEncRow || o == opDecRow || o == opEcho || o == opLoadCtx || o == opSaveCtx

/-- Address ranges that a job's descriptor names: address and length. -/
def jobRanges (d y r : List Byte) : List (Nat × Nat) :=
  let o := jOpc d
  let rows := lyRows y
  let ck := (lyCkpt y, 2 * lyBands y * ((List.range (lyBands y)).map fun b => ckptBytes (lyFormat y) (lyDepth y) (lyWidth y b)).foldl max 0)
  if o = opEncRow then
    [(jLayout d, 64), (jRate d, 64), ck, (jOut d, 4)] ++ (if jRing d then [] else [(jSrc d, 1)]) ++
    (if jRecon d = 0 then [] else [(jRecon d, refBytes y)]) ++
    (if 1 ≤ rtNref r then [(jRef d 0, refBytes y)] else []) ++ (if 2 ≤ rtNref r then [(jRef d 1, refBytes y)] else []) ++
    (if rtWeights r = 0 then [] else [(rtWeights r, rows)]) ++ (if rtNroi r = 0 then [] else [(rtRois r, 10 * rtNroi r)]) ++
    (if jHookMeta d then [(jMetaBuf d, 64 * rows)] else [])
  else if o = opDecRow then [(jLayout d, 64), ck, (jRate d, 64 + lyCols y * rows), (jSrc d, 4), (jOut d, refBytes y)]
  else if o = opEcho then [(jLayout d, 64), (jSrc d, 4)]
  else if o = opLoadCtx then [(jLayout d, 64)] ++ (if jSrc d = 0 then [ck] else [(jSrc d, 1024)])
  else if o = opSaveCtx then [(jLayout d, 64), (jOut d, ckptBytes (lyFormat y) (lyDepth y) (lyWidth y (jBand d)))]
  else if isCustom o then
    if jArg d 0 = 0 then [] else [(jSrc d, jArg d 0), (jOut d, jArg d 0)]
  else []

/-- The frame a job belongs to. -/
def jobFrame (s : State) (j : Job) (y : List Byte) : FrameId := { part := j.part, stream := streamOf s j.part j.desc y, tick := jTick j.desc }

/-- The committed count of lane l for a frame and band (R243, R244): 0 when they differ from the last ones committed. -/
def countFor (s : State) (l : Nat) (f : FrameId) (b : Nat) : Nat :=
  if (laneOf s l).frame = some f ∧ get s (R.STR_LANE_CNT_BAND l) = b then get s (R.STR_LANE_CNT_ROWS l) else 0

/-- The row after the job's last one. -/
def jobEnd (d y : List Byte) : Nat := if jCount d = 0 then lyRows y else jFirst d + jCount d

/-- The layout check: R102, R109, R112, the frame's and the clip's fixed layout, and the intake's for a ring source. -/
def layoutStatus (s : State) (j : Job) (y : List Byte) : Bool :=
  jLayout j.desc % 64 == 0 && layoutOk y (activeStrands s) && jBand j.desc < lyBands y &&
  (!(jOpc j.desc == opEncRow && jRing j.desc) || ringLayoutOk s y) &&
  (match findFrame s (jobFrame s j y) with | none => true | some x => x.layout == y) &&
  (match findClip s j.part (jobFrame s j y).stream with | none => true | some c => c.shape == lyShape y)

/-- The status of the checks at the head of the queue; restarting is set for a spare that takes the job over. -/
def headStatus (s : State) (l : Nat) (j : Job) (restarting : Bool) : Nat :=
  let d := j.desc
  let o := jOpc d
  let y := fsRead s (jLayout d) 64
  let r := fsRead s (jRate d) 64
  let f := jobFrame s j y
  let w := weightsOf s r (lyRows y)
  let rois := fsRead s (rtRois r) (10 * rtNroi r)
  let end_ := jobEnd d y
  if usesLayout o && !layoutStatus s j y then jsBadLayout
  else if o == opEncRow && !(jRate d % 64 == 0 &&
      rateOk r w rois (lyCols y) (lyRows y) ((findClip s j.part f.stream).bind (·.ncol)) &&
      (match findFrame s f with | none => true | some x => x.rate == r)) then jsBadRate
  else if !(jobRanges d y r).all fun a => fsIn s j.part a.1 a.2 then jsBadAddr
  else if o = opEncRow ∨ o = opDecRow then
    if lyRows y < end_ ∨ end_ < jFirst d then jsBadRow
    else if restarting then jsOK
    else if jFirst d ≠ countFor s l f (jBand d) then jsBadRow else jsOK
  else if isCustom o && (jArg d 0 % 64 != 0 || 262144 < jArg d 0) then jsBadDesc
  else jsOK

/-- R114, R190: the first job of a frame fixes its layout, rate descriptor, weights and rectangles. -/
def fixFrame (s : State) (j : Job) : State :=
  let d := j.desc
  let y := fsRead s (jLayout d) 64
  let f := jobFrame s j y
  let r := if jOpc d = opEncRow then fsRead s (jRate d) 64 else []
  match findFrame s f with
  | some _ => s
  | none =>
    let s := setFrame s { id := f, layout := y, rate := r, weights := if r.isEmpty then [] else weightsOf s r (lyRows y),
                          rois := if r.isEmpty then [] else fsRead s (rtRois r) (10 * rtNroi r), recon := jRecon d, done := [] }
    match findClip s f.part f.stream with
    | some c => if r.isEmpty ∨ c.ncol.isSome then s else setClip s { c with ncol := some (rtNcol r) }
    | none => setClip s { part := f.part, stream := f.stream, shape := lyShape y, ncol := if r.isEmpty then none else some (rtNcol r) }

/-- The frame being decoded with an identity. -/
def findDec (s : State) (f : FrameId) : Option DecFrame := s.strs.decs.find? fun x => x.id == f

/-- The state of a bight in a frame's map (R223). -/
def mapState (df : DecFrame) (row bx : Nat) : Nat := nth df.map (row * lyCols df.layout + bx) 0 % 4

/-- A decoded frame with nothing known of it. -/
def decFresh (j : Job) (y : List Byte) (f : FrameId) : DecFrame :=
  { id := f, layout := y, mapAddr := jRate j.desc, dst := jOut j.desc, hdr := 0, frameNo := 0, tickNo := 0, nref := 0,
    layers := 3, bounded := false, rois := [], refresh := none, refreshLost := false, gapFlag := false, refMiss := false,
    endLost := false, ovf := false, map := List.replicate (lyCols y * lyRows y) 0, errs := [], bands := [], waits := [] }

/-- A DEC_ROW job starts on a frame that is held: a band that is decoded again from row 0, of a frame that was complete or not, counts
no more as committed, and a frame that is decoded again from its frame start loses what that record told. -/
def decAgain (j : Job) (df : DecFrame) : DecFrame :=
  let b := jBand j.desc
  let df :=
    if jFirst j.desc ≠ 0 then df
    else if df.bands.length = lyBands df.layout then
      (if b = 0 then decFresh j df.layout df.id else { df with errs := [], bands := [], waits := [], endLost := false, ovf := false })
    else { df with bands := df.bands.erase b, waits := df.waits.erase b, errs := df.errs.filter fun e => e.1 / 2 ^ 16 != b }
  { df with dst := jOut j.desc, mapAddr := jRate j.desc }

/-- R211, R212: a DEC_ROW job starts on its frame, in the buffer and with the map address that it names; an older frame in the same
buffer is no longer held. -/
def fixDecoded (s : State) (j : Job) : State :=
  let y := fsRead s (jLayout j.desc) 64
  let f := jobFrame s j y
  let x := match findDec s f with
    | some df => decAgain j df
    | none => decFresh j y f
  { s with strs := { s.strs with decs := x :: s.strs.decs.filter fun z => z.id != f && !(z.id.part == f.part && z.dst == jOut j.desc) } }

/-- R244: the lane's committed count restarts when a job starts another frame or band. -/
def startCount (s : State) (l : Nat) (f : FrameId) (b : Nat) : State :=
  if (laneOf s l).frame = some f ∧ get s (R.STR_LANE_CNT_BAND l) = b then s
  else put (put (modLane s l fun x => { x with frame := some f }) (R.STR_LANE_CNT_ROWS l) 0) (R.STR_LANE_CNT_BAND l) b

/-- R122: the band state that c committed rows left in the checkpoints, and whether a check failed on the way. -/
def ckptBand (s : State) (y : List Byte) (f : FrameId) (b c : Nat) (epoch : Nat) (rc : Rc) : BandSt × Bool :=
  if c = 0 then (bandInit f b rc, false)
  else match ckptRead s y (ckptSlot y b (c - 1)) f b (c - 1) (some epoch) with
    | some x => (x, false)
    | none =>
      let other := if c < 2 then none else ckptRead s y (ckptSlot y b (c - 2)) f b (c - 2) (some epoch)
      (other.getD (bandInit f b rc), true)

/-- The bottom row of a decoded row segment, from the decoded frame buffer; nothing of a reduced one serves as a row above. -/
def bufBottom (s : State) (df : DecFrame) (base b row : Nat) : List (List Nat) :=
  let y := df.layout; let fmt := lyFormat y
  if df.layers < 3 then [] else (List.range (nPlanes fmt)).map fun k => (List.range (planeW fmt k (lyWidth y b))).map fun x =>
    bufSample s y base k (16 * row + 15) (planeW fmt k (lyStart y b) + x)

/-- A decoded band's state from its checkpoint: the row above comes from the last row that is not concealed (R222), which the map and
the decoded frame buffer hold. -/
def decBand (s : State) (df : DecFrame) (base : Nat) (x : BandSt) : BandSt :=
  let bx := lyStart df.layout x.band / bightW (lyFormat df.layout)
  match lastIdx (fun r => mapState df r bx != 2) x.rows with
  | some r => { x with good := some r, bottom := bufBottom s df base x.band r }
  | none => { x with good := none, bottom := [] }

/-- R122, R265: the band state a strand goes on from after c committed rows of a job's band, and whether a check failed on the way. A
decoded band with a concealed row that waits for its fill starts again from row 0. -/
def restoreBand (s : State) (d y : List Byte) (f : FrameId) (c : Nat) (epoch : Nat) (rc : Rc) : BandSt × Bool :=
  let b := jBand d
  match findDec s f with
  | some df =>
    if df.waits.contains b then (bandInit f b rc, false)
    else
      let r := ckptBand s y f b c epoch rc
      (if r.1.rows = 0 then r.1 else decBand s df (jOut d) r.1, r.2)
  | none => ckptBand s y f b c epoch rc

/-- The rate state at row 0 of a job's band. -/
def jobRc (s : State) (d : List Byte) : Rc :=
  if jOpc d = opEncRow then rcInit (fsRead s (jRate d) 64) else { qp := 0, e := 0, carry := 0, ovf := 0 }

/-- The strand has the band state of the lane's next row: its own, or one restored from the checkpoint (R122, R271). -/
def loadBand (s : State) (n l : Nat) (j : Job) : State :=
  let d := j.desc
  let y := fsRead s (jLayout d) 64
  let f := jobFrame s j y
  let c := countFor s l f (jBand d)
  let held : Bool := match (strandOf s n).band with
    | some b => b.frame == f && b.band == jBand d && b.rows == c && c != 0
    | none => false
  if held then s
  else
    let (x, bad) := restoreBand s d y f c (laneOf s l).ckEpoch (jobRc s d)
    let s := modStrand s n fun z => { z with band := some x }
    if bad then fault s fltCkptBad else s

/-- The next lane, after the one that ran last, that strand n serves and that has a job to start (R244, R267). -/
def nextLane (s : State) (n : Nat) : Option Nat :=
  let ok := fun l => laneStrand s l == some n && !(laneOf s l).queue.isEmpty && !(laneOf s l).running && !(laneOf s l).restore
  let last := (strandOf s n).last
  match firstIdx ok (last + 1) (17 - last) with
  | some l => some l
  | none => firstIdx ok 0 (last + 1)

/-- May strand n start something? A gated strand holds its requests until it has woken (R515). -/
def strandFree (s : State) (n : Nat) : Bool :=
  !gated s n && (strandOf s n).lane.isNone && (strandOf s n).test == 0 && (strandOf s n).staged.isEmpty && !frayed s n

/-- JOB_START (R243, R244): the job at the head of a lane's queue is checked; one that fails completes with its status and codes no
row, and so does one that the mode in force no longer permits (R55). A CUSTOM or SELFTEST job starts here too. A job for a dropped proxy frame is cancelled (R51; its status is log entry 64). -/
def startJob (s : State) (n : Nat) : State :=
  if strState s n = strActive ∧ strandFree s n then
    match nextLane s n with
    | none => s
    | some l =>
      match (laneOf s l).queue.head? with
      | none => s
      | some j =>
        let o := jOpc j.desc
        let st := if jobPermitted (modeOf s) o (namedState s j.desc) then headStatus s l j false else jsModeDenied
        let s := modLane s l fun x => { x with running := true, lastAt := s.clk }
        let s := modStrand s n fun x => { x with lane := some l, last := l, since := s.clk, epoch := get s (R.STR_LANE_MAP_EPOCH l),
                                                  ues := [], readErr := [], preDone := false }
        let s := showJob s n o j.part (jTag j.desc)
        let y := fsRead s (jLayout j.desc) 64
        let f := jobFrame s j y
        if st ≠ jsOK then endJob s n l st 0xFFFF 0 0
        else if o = opEncRow ∧ proxyCut s f then endJob s n l jsAborted 0xFFFF 0 0
        else
          if o = opEncRow ∨ o = opDecRow then
            let s := fixFrame s j
            let s := if o = opDecRow then fixDecoded s j else s
            let s := loadBand s n l j
            let s := startCount s l f (jBand j.desc)
            if jobEnd j.desc y = jFirst j.desc then endJob s n l jsOK 0xFFFF 0 0 else s
          else s
  else s

/-! ## Open store routines (R257) -/

/-- A routine entry is open store code (R249, R253). -/
def inStore (a : Nat) : Bool := 4352 ≤ a && a ≤ 4863

/-- Start an open store routine at an entry: microregisters as R257 fixes them, scratch in u8, an empty stack. -/
def startRoutine (s : State) (n kind entry : Nat) (regs : List (Nat × Nat)) : State :=
  let u := regs.foldl (fun u r => setAt u r.1 (r.2 % 2 ^ 32)) (strandOf s n).u
  let s := modStrand s n fun x => { x with u := setAt u 8 Config.scratchArea, routine := kind, stack := [], routAt := s.clk }
  put s (R.STR_UPC_ADDR n) entry

/-- The bytes of a row's samples for HOOK_PRE: the planes of R121 in turn, 16 bits each, row-major. -/
def sampleBytes (ps : List (List (List Nat))) : List Byte := ps.flatMap fun p => p.flatMap fun r => r.flatMap (leBytes 2)

/-- The source samples of the row segment: plane, row, column; padding rows repeat the last real row (R107). -/
def rowSamples (s : State) (d y : List Byte) (row : Nat) : List (List (List Nat)) :=
  let fmt := lyFormat y; let b := jBand d
  let last := planeH fmt (lyH y) - 1
  (List.range (nPlanes fmt)).map fun k => (List.range 16).map fun r => (List.range (planeW fmt k (lyWidth y b))).map fun x =>
    srcSample s d y k (min (16 * row + r) last) (planeW fmt k (lyStart y b) + x)

/-- The samples that HOOK_PRE left in its area. -/
def hookSamples (m : Memory) (y : List Byte) (b : Nat) : List (List (List Nat)) :=
  let fmt := lyFormat y; let wb := lyWidth y b
  let off (k : Nat) := ((List.range k).map fun i => 32 * planeW fmt i wb).sum
  (List.range (nPlanes fmt)).map fun k => (List.range 16).map fun r => (List.range (planeW fmt k wb)).map fun x =>
    leVal (memRead m (Config.hookArea + off k + 2 * (r * planeW fmt k wb + x)) 2) % 2 ^ lyDepth y

/-- HOOK_PRE starts on a row (R257): its samples are put into its area. -/
def startPre (s : State) (n : Nat) (d y : List Byte) (row : Nat) : State :=
  let ps := rowSamples s d y row
  let s := modStrand s n fun x => { x with sram := memWriteAll x.sram Config.hookArea (sampleBytes ps) }
  startRoutine s n 1 (get s (R.STR_DISPATCH_ADDR (jPre d)))
    [(1, Config.hookArea), (2, planeW (lyFormat y) 0 (lyWidth y (jBand d))), (3, 16), (4, nPlanes (lyFormat y)), (5, row), (6, jBand d)]

/-- HOOK_META starts on a staged row (R257). -/
def startMeta (s : State) (n : Nat) (d : List Byte) (x : Staged) : State :=
  let s := modStrand s n fun z => { z with sram := memClear z.sram Config.metaArea 64 }
  startRoutine s n 2 (get s (R.STR_DISPATCH_ADDR (jMeta d)))
    [(1, Config.metaArea), (2, x.row), (3, x.sBits), (4, x.kBits), (5, x.qp + 2 ^ 16 * x.e), (6, jBand d)]

/-! ## ENC_ROW (R116 to R119, R154, R192 to R198) -/

/-- The next row that strand n codes in its job. -/
def nextRow (x : StrandSt) (b : BandSt) : Nat := b.rows + x.staged.length

/-- The row above in each coded plane, none where R131 gives no top neighbour. -/
def aboveOf (fmt row : Nat) (bottom : List (List Nat)) : Option (List (List Int)) :=
  if row % 8 = 0 ∨ bottom.isEmpty then none
  else some ((liftBlks (liftFwd fmt) (bottom.map fun r => [r.map fun (v : Nat) => (v : Int)])).map fun b => nth b 0 [])

/-- The coded planes of a row above differ in width for format 2, so they are taken one by one there. -/
def aboveRow (fmt row : Nat) (bottom : List (List Nat)) : Option (List (List Int)) :=
  if fmt = 2 then (if row % 8 = 0 ∨ bottom.isEmpty then none else some (bottom.map (·.map fun (v : Nat) => (v : Int))))
  else aboveOf fmt row bottom

/-- The bottom row of each plane of final samples. -/
def bottomOf (fin : List (List (List Nat))) : List (List Nat) := fin.map fun p => nth p 15 []

/-- What row `row` of a job's band is coded with. -/
def encInput (x : FrameFix) (b row qp e : Nat) (bottom : List (List Nat)) : RowIn :=
  let y := x.layout; let r := x.rate
  { fmt := lyFormat y, d := lyDepth y, col := lyStart y b, wb := lyWidth y b, w := lyW y, h := lyH y, band := b, row := row,
    qp := qp, e := if rtBounded r then e else 0, bounded := rtBounded r, layers := 3, nref := rtNref r,
    rois := (roiList x.rois).map roiOf, refresh := refreshOf r (lyCols y), above := aboveRow (lyFormat y) row bottom }

/-- The references of a frame being coded: sample access and clean boundary (R138, R203). -/
def encRefs (s : State) (x : FrameFix) (d : List Byte) : List EncRef :=
  let cols := lyCols x.layout
  let before := framesBefore s x.id
  (List.range (rtNref x.rate)).map fun k =>
    { px := refPx s x.layout (jRef d k)
      clean := match before[k]? with
        | none => 0
        | some g => cleanOf cols (rtNcol x.rate) (rtFrameNo x.rate) (rtFrameNo g.rate) }

/-- The band start record (R167). -/
def bandStart (y : List Byte) (b : Nat) : List Byte :=
  record 0xA1#8 (stuff (beBytes 1 b ++ beBytes 1 0 ++ beBytes 2 (lyStart y b) ++ beBytes 2 (lyWidth y b)))

/-- Integers of a block as samples. -/
def toSamples (fin : List (List (List Int))) : List (List (List Nat)) := fin.map fun p => p.map fun r => r.map Int.toNat

/-- The bytes of a frame's reference buffers, which the motion search sees (R142). -/
def refImages (s : State) (x : FrameFix) (d : List Byte) : List Byte :=
  (List.range (rtNref x.rate)).flatMap fun k => fsRead s (jRef d k) (refBytes x.layout)

/-- A frame as strand n codes it: a spare that took a band over has read the row weights and the region table again (R190). -/
def frameFor (s : State) (n : Nat) (x : FrameFix) : FrameFix :=
  match (strandOf s n).tab with
  | some (f, w, r) => if f = x.id then { x with weights := w, rois := r } else x
  | none => x

/-- R154: the final samples of a row with those that a fault of the strand's own reconstruction changed: source plane, row, column,
value. -/
def hitSamples (fin : List (List (List Nat))) (ups : List (Nat × Nat × Nat × Nat)) : List (List (List Nat)) :=
  ups.foldl (fun f u => modAt f u.1 fun p => modAt p u.2.1 fun r => setAt r u.2.2.1 u.2.2.2) fin

/-- R154: does every final sample that is no padding lie within the bound of its bight of its source sample? -/
def boundOk (r : RowIn) (src fin : List (List (List Nat))) : Bool :=
  !r.bounded || (List.range (nPlanes r.fmt)).all fun k => (List.range r.rows).all fun y =>
    (List.range (planeW r.fmt k r.wb)).all fun x =>
      let a := nth (nth (nth src k []) y []) x 0
      let b := nth (nth (nth fin k []) y []) x 0
      (a - b) + (b - a) ≤ r.eb (x / bightPW r.fmt k)

/-- Code row `row` from its samples: the row as it is staged. -/
def codeRow (s : State) (x : FrameFix) (d : List Byte) (rc : Rc) (row : Nat) (bottom : List (List Nat))
    (ps : List (List (List Nat))) : Staged :=
  let y := x.layout; let r := x.rate; let b := jBand d
  let inp := encInput x b row rc.qp rc.e bottom
  let key : List Int := (ps.flatten.flatten.map Int.ofNat) ++ (y ++ r ++ x.rois ++ refImages s x d).map (fun v => (v.toNat : Int)) ++
    [Int.ofNat rc.qp, Int.ofNat rc.e, rc.carry, Int.ofNat b, Int.ofNat row]
  let o := inp.encode (fun k yy xx => (nth (nth (nth ps k []) yy []) xx 0 : Nat)) (encRefs s x d) (Config.motion key)
  let plain := inp.recordOf o false
  let base := if rtCapped r then baseBudget y r b (nth x.weights row 1) else 0
  let g := rowBudget base rc.carry (rtSpread r)
  let ovf := isOverflow r rc g (8 * plain.length)
  let rec_ := if ovf then inp.recordOf o true else plain
  let start := if row = 0 then bandStart y b else []
  { row := row, bytes := start ++ rec_, start := start, log := o.log, qp := inp.qp, e := inp.e, ovf := ovf, fin := toSamples o.fin,
    next := rcUpdate r rc base g (8 * rec_.length) o.k ovf, sBits := 8 * rec_.length, kBits := o.k, matched := false, handed := false,
    metaRow := none, writes := [], marks := [], after := none, errs := [], hurt := false }

/-- Staged bytes as an upset leaves them: each entry is an offset and the byte found there. -/
def upsetBytes (bs : List Byte) (ups : List (Nat × Byte)) : List Byte := ups.foldl (fun b u => setAt b u.1 u.2) bs

/-- ENC_ROW: strand n codes the next row of its job and stages it. Two rows at most are uncommitted (R230). hits are final samples that
a fault of the strand's reconstruction changed; when the comparison of R154 finds one beyond its bound the strand frays. upset changes
staged bytes, as a single event in the coder does. -/
def encRow (s : State) (n : Nat) (hits : List (Nat × Nat × Nat × Nat)) (upset : List (Nat × Byte)) : State :=
  match jobOf s n with
  | none => s
  | some (_, j) =>
    let d := j.desc
    let x := strandOf s n
    match x.band with
    | none => s
    | some b =>
      match findFrame s b.frame with
      | none => s
      | some f =>
        let row := nextRow x b
        if jOpc d ≠ opEncRow ∨ frayed s n ∨ 2 ≤ x.staged.length ∨ x.routine ≠ 0 ∨ jobEnd d f.layout ≤ row ∨ j.dead ∨ !refReady s f then s
        else if jHookPre d && !x.preDone then
          let e := get s (R.STR_DISPATCH_ADDR (jPre d))
          if inStore e then startPre s n d f.layout row
          else match x.lane with | some l => endJob s n l jsBadOpcode 0xFFFF 0 b.runBytes | none => s
        else
          let (rc, bottom) := match x.staged.getLast? with
            | some z => (z.next, bottomOf z.fin)
            | none => (b.rc, b.bottom)
          let ps := if jHookPre d then hookSamples x.sram f.layout (jBand d) else rowSamples s d f.layout row
          let f := frameFor s n f
          let z := codeRow s f d rc row bottom ps
          let z := { z with bytes := upsetBytes z.bytes upset, fin := hitSamples z.fin hits }
          if ¬ boundOk (encInput f (jBand d) row rc.qp rc.e bottom) ps z.fin then fray s n 3
          else
          let s := modStrand s n fun q => { q with staged := q.staged ++ [z], preDone := false }
          if jHookMeta d then
            if inStore (get s (R.STR_DISPATCH_ADDR (jMeta d))) then startMeta s n d z
            else match x.lane with | some l => endJob s n l jsBadOpcode 0xFFFF 0 b.runBytes | none => s
          else s

/-! ## ECHO_CHECK_DONE (R228 to R231) -/

/-- The echo outcome of the staged row that waits for it. -/
def echoOf (f : FrameFix) (b : Nat) (z : Staged) : Nat :=
  echoOutcome (encInput f b z.row z.qp z.e []) z.bytes z.start z.log
    { row := z.row, band := b, qp := z.qp, e := z.e, len0 := 0, len1 := 0, len2 := 0, ovf := z.ovf }

/-- The rows whose last echo was a mismatch, but for row `row` of band b of frame f. -/
def missElse (s : State) (f : FrameId) (b row : Nat) : List (FrameId × Nat × Nat × Nat) :=
  s.strs.miss.filter fun m => !(m.1 == f && m.2.1 == b && m.2.2.1 == row)

/-- R230: a mismatch on two strands in succession for one row sets ECHO_REPEAT. -/
def noteMiss (s : State) (f : FrameId) (b row n : Nat) : State :=
  let rep := s.strs.miss.any fun m => m.1 == f && m.2.1 == b && m.2.2.1 == row && m.2.2.2 != n
  let s := { s with strs := { s.strs with miss := (f, b, row, n) :: missElse s f b row } }
  if rep then fault s fltEchoRepeat else s

/-- A row whose echo matched has no mismatch to repeat. -/
def noteMatch (s : State) (f : FrameId) (b row : Nat) : State := { s with strs := { s.strs with miss := missElse s f b row } }

/-- ECHO_CHECK_DONE (R229, R230, R196): the first row not yet matched is checked; MATCH hands it to the commit engine, and QP, E and
CARRY move on; any other outcome frays the strand with cause 2. -/
def echoDone (s : State) (n : Nat) : State :=
  let x := strandOf s n
  match x.band, x.staged.find? fun z => !z.matched && z.after.isNone with
  | some b, some z =>
    match findFrame s b.frame with
    | none => s
    | some f =>
      if frayed s n then s
      else
        let c := echoOf (frameFor s n f) b.band z
        let s := put (bump s (R.STR_ECHO_CNT_COUNT n)) (R.STR_ECHO_STAT_LAST n) c
        if c = 0 then
          modStrand (noteMatch s b.frame b.band z.row) n fun q =>
            { q with staged := q.staged.map (fun w => if w.row = z.row then { w with matched := true, handed := true } else w),
                     ues := q.ues.filter fun u => z.row < u.1, readErr := q.readErr.filter fun u => z.row < u.1 }
        else
          let s := put (setF s (R.STR_ECHO_STAT_FAIL n)) (R.STR_ECHO_STAT_ROW n) z.row
          fray (noteMiss (bump s (R.STR_ECHO_FAIL_CNT_COUNT n)) b.frame b.band z.row n) n 2
  | _, _ => s

/-! ## ROW_COMMIT (R118) -/

/-- The epoch gate (R263): does the lane map name strand n for the lane it works on, with the epoch it holds? -/
def gateOpen (s : State) (n : Nat) : Bool :=
  match (strandOf s n).lane with
  | none => false
  | some l => laneStrand s l == some n && get s (R.STR_LANE_MAP_EPOCH l) == (strandOf s n).epoch

/-- How writing bytes to a band run ended: all written, no buffer to be had now (perhaps because the free list turned out broken),
or no free run list entry (R248). -/
inductive RunRes where
  | done (s : State) (buf off total : Nat)
  | wait (broken : Bool)
  | full

/-- R118 step 1, R248: write bytes to the band run, taking an essence buffer whenever one is full. list is the run list. -/
def writeRun (list : Nat) : Nat → State → Nat → Nat → Nat → List Byte → RunRes
  | 0, s, buf, off, total, bs => if bs.isEmpty then .done s buf off total else .wait false
  | fuel + 1, s, buf, off, total, bs =>
    if bs.isEmpty then .done s buf off total
    else if off < 65536 then
      let k := min (65536 - off) bs.length
      writeRun list fuel (fsWrite s (bufAddr s buf + off) (bs.take k)) buf (off + k) (total + k) (bs.drop k)
    else
      let i := ceilDiv total 65536
      if leVal (fsRead s (list + 4 * i) 4) ≠ listEnd then .full
      else match poolAlloc s true none with
        | (none, s') => .wait (isSet s' R.POOL_STAT_BROKEN_E && !isSet s R.POOL_STAT_BROKEN_E)
        | (some b, s) => writeRun list fuel (fsWrite s (list + 4 * i) (leBytes 4 b)) b 0 total bs

/-- R266: the longest and the last output gap, in whole µs, when one is being measured. -/
def noteGap (s : State) (l t : Nat) : State :=
  if (laneOf s l).gap then
    let us := min ((t - (laneOf s l).lastAt) / usCycles) 65535
    modLane (putMax (put s R.STR_SPLICE_GAP_LAST us) R.STR_SPLICE_GAP_MAX us) l fun x => { x with gap := false }
  else s

/-- R118 step 3 with what follows it: the count, the frame's progress, the no-commit interval, and the job's end. waited is how many
cycles of the interval the strand spent in the waits that stop it (R260). -/
def countRow (s : State) (n l : Nat) (b : BandSt) (waited t : Nat) (ovf damaged : Bool) : State :=
  let s := put s (R.STR_LANE_CNT_ROWS l) b.rows
  let s := modLane (noteGap s l t) l fun x => { x with lastAt := t, ckEpoch := (strandOf s n).epoch }
  let s := putMax s (R.STR_WDOG_MAX_US n) ((t - (strandOf s n).since - waited) / usCycles)
  let later (l : List (Nat × Nat)) : List (Nat × Nat) := l.filter fun u => b.rows ≤ u.1
  let s := modStrand s n fun x =>
    { x with band := some b, staged := x.staged.drop 1, since := t, ues := later x.ues, readErr := later x.readErr }
  let s := match findFrame s b.frame with
    | none => s
    | some f => setFrame s { f with done := insertKey f.done b.band b.rows }
  modJob s l fun j => { j with rows := b.rows - jFirst j.desc, ovf := j.ovf || ovf, damaged := j.damaged || damaged }

/-- The running job ends after its last row, or after the row in progress when its partition is being reset (R247). -/
def endIfLast (s : State) (n l : Nat) (y : List Byte) (rows detail : Nat) : State :=
  match runningJob s l with
  | none => s
  | some j => if jobEnd j.desc y ≤ rows ∨ j.dead then endJob s n l jsOK 0xFFFF 0 detail else s

/-- The commit of a coded row. -/
def commitEnc (s : State) (n l : Nat) (j : Job) (f : FrameFix) (b : BandSt) (z : Staged) (waited t : Nat) : State :=
  match writeRun (jOut j.desc) (z.bytes.length / 65536 + 4) s b.outBuf b.outOff b.runBytes z.bytes with
  | .wait broken => if broken then breakList s true else s
  | .full => endJob s n l jsRunFull 0xFFFF 0 b.runBytes
  | .done s buf off total =>
    let b' : BandSt := { b with rows := z.row + 1, rc := z.next, outBuf := buf, outOff := off, runBytes := total,
                                bottom := bottomOf z.fin, good := some z.row }
    let s := match z.metaRow with
      | some m => if jHookMeta j.desc then fsWrite s (jMetaBuf j.desc + 64 * z.row) m else s
      | none => s
    let s := if jRecon j.desc = 0 then s else fsWrites s (rowWrites f.layout (jRecon j.desc) b.band z.row z.fin)
    let s := fsWrite s (ckptSlot f.layout b.band z.row) (ckptImage f.layout b' (strandOf s n).epoch)
    endIfLast (countRow s n l b' waited t z.ovf false) n l f.layout b'.rows b'.runBytes

end Sys2Proof.Machine
end

