-- ==== Sys2Proof/Machine/StrandDec.lean ====
section
/-! DEFINITION. Decoding, concealment and the concealment map (R211 to R227), and the ECHO, LOADCTX and SAVECTX jobs (R232, R241). -/

namespace Sys2Proof.Machine

/-! ## Run lists (R248) -/

/-- The buffers of a run list, up to the entry that reads 0xFFFF_FFFF. -/
def runEntries (s : State) (list : Nat) : Nat → List Nat
  | 0 => []
  | n + 1 =>
    let b := leVal (fsRead s list 4)
    if b = listEnd then [] else b :: runEntries s (list + 4) n

/-- Every buffer of a run list. -/
def runAll (s : State) (list : Nat) : List Nat := runEntries s list (get s R.POOL_COUNT_N + 1)

/-- The bytes of a run list's buffers, from offset off of the first. -/
def runBytesFrom (s : State) (es : List Nat) (off : Nat) : List Byte :=
  (es.flatMap fun b => fsRead s (bufAddr s b) 65536).drop off

/-- The entries from the buffer that holds the next byte on. -/
def entriesFrom (es : List Nat) (buf : Nat) : List Nat := if buf = listEnd then es else es.dropWhile (· != buf)

/-- The place c bytes further on: buffer and offset. -/
def advance : List Nat → Nat → Nat → Nat × Nat
  | [], off, _ => (listEnd, off)
  | b :: bs, off, c =>
    if off + c ≤ 65536 then (b, off + c)
    else match bs with
      | [] => (b, 65536)
      | _ => advance bs 0 (c - (65536 - off))

/-! ## Records other than row segments (R162, R165, R167, R171, R174) -/

/-- Check a record's CRC at the end of its body. -/
def rdCrc (body : List Byte) : P Unit := do
  let want := crc32c (body.take (← getThe Rd).used)
  let crc ← rdBe 4
  if crc ≠ want then perr 3

/-- A parsed frame start. -/
structure FrameHdr where
  layers : Nat
  bounded : Bool
  nref : Nat
  tick : Nat
  no : Nat
  rois : List Byte

/-- Fail with an invalid code unless a condition holds of what has been read. -/
def rdNeed (ok : Bool) : P Unit := if ok then pure () else perr 1

/-- A region rectangle, each field checked as it is met (R163). -/
def rdRoi (y : List Byte) : P (List Byte) := do
  let x0 ← rdBe 2
  let y0 ← rdBe 2
  let nx ← rdBe 2
  rdNeed (1 ≤ nx && x0 + nx ≤ lyCols y)
  let ny ← rdBe 2
  rdNeed (1 ≤ ny && y0 + ny ≤ lyRows y)
  let c ← rdBe 2
  let b := beBytes 2 x0 ++ beBytes 2 y0 ++ beBytes 2 nx ++ beBytes 2 ny ++ beBytes 2 c
  rdNeed (roiOk b (lyCols y) (lyRows y))
  pure b

/-- The frame start record, each field checked as it is met (R162, R163, R186, R215). -/
def rdFrameStart (y : List Byte) (body : List Byte) : P FrameHdr := do
  let _ ← rdByteIf (· == 1)
  let fmt ← rdByteIf (· ≤ 2)
  let _ ← rdByteIf fun d => if fmt = 2 then d == 10 else d == 10 || d == 12 || d == 14 || d == 16
  let _ ← rdBe 1
  let fl ← rdByteIf fun v => v < 8 && bits v 1 2 != 0
  let nref ← rdByteIf (· ≤ 2)
  let nb ← rdByteIf fun v => 1 ≤ v && v ≤ 18
  let nroi ← rdByteIf (· ≤ 16)
  let _ ← rdBe 2
  let _ ← rdBe 2
  let tick ← rdBe 8
  let no ← rdBe 4
  let _ ← rdMany nb fun _ => rdBe 2
  let rois ← rdMany nroi fun _ => rdRoi y
  rdCrc body
  pure { layers := bits fl 1 2, bounded := bitAt fl 0, nref, tick, no, rois := rois.flatten }

/-- A refresh-column or clean-point record (R165): NCOL, COL and PERIOD of KIND 0, none for KIND 1. kind0 and kind1 say which of the
two R157 admits here. -/
def rdRefresh (kind0 kind1 : Bool) (body : List Byte) : P (Option (Nat × Nat × Nat)) := do
  let kind ← rdByteIf fun k => (k == 0 && kind0) || (k == 1 && kind1)
  if kind = 0 then do
    let ncol ← rdByteIf (· != 0)
    let col ← rdBe 2
    let per ← rdBe 2
    rdNeed (per != 0)
    let ph ← rdBe 2
    rdNeed (ph < per)
    rdCrc body
    pure (some (ncol, col, per))
  else do
    rdZero
    rdZero
    rdZero
    let _ ← rdBe 4
    rdCrc body
    pure none

/-- The band start record: its BAND (R167). -/
def rdBandStart (body : List Byte) : P Nat := do
  let b ← rdBe 1
  rdZero
  let _ ← rdBe 4
  rdCrc body
  pure b

/-- The frame end record (R171). -/
def rdFrameEnd (y : List Byte) (body : List Byte) : P Unit := do
  let rows ← rdBe 2
  rdNeed (rows == lyRows y)
  let nb ← rdByteIf (· == lyBands y)
  let _ ← rdByteIf (· ≤ 1)
  let _ ← rdMany nb fun _ => rdBe 4
  let _ ← rdBe 4
  rdCrc body

/-- A padding record (R174). -/
def rdPadding : P Unit := do
  let n ← rdBe 2
  let _ ← rdMany n fun _ => rdZero
  pure ()

/-- Run a record parser on a body: the answer and the stored bytes passed, or the failure. -/
def runRec {α : Type} (p : P α) (body : List Byte) : Except PErr (α × Nat) :=
  match p.run (Rd.start body none) with
  | .ok (a, s) => .ok (a, s.used)
  | .error e => .error e

/-- R216: stored bytes passed over up to the next record start. -/
def scanMarker : List Byte → Nat
  | a :: b :: r => if a = 0xFF#8 ∧ isMarker b then 0 else scanMarker (b :: r) + 1
  | l => l.length

/-! ## The decoder's work on one band -/

/-- What a DEC_ROW step has in hand. -/
structure DecWork where
  df   : DecFrame
  b    : BandSt
  /-- Stored bytes left, and how many have been passed. -/
  rest : List Byte
  pos  : Nat
  /-- Errors met, in the order of DecFrame.errs, and frame starts lost. -/
  errs : List Nat
  lost : Nat
  /-- Where in the order of R157 the work stands: 0 ahead of the frame start, 1 behind it, 2 behind a KIND 0 record, 3 behind a KIND 1
  record or ahead of the band start of a band other than 0, 4 among the rows. -/
  ph   : Nat
  /-- The record in hand was reached by a scan (R216). -/
  sync : Bool
  /-- NCOL and PERIOD of a KIND 0 record that was used. -/
  ref  : Option (Nat × Nat)

/-- Pass c bytes. -/
def DecWork.pass (w : DecWork) (c : Nat) : DecWork := { w with rest := w.rest.drop c, pos := w.pos + c, sync := false }

/-- Count an error of a kind. -/
def DecWork.err (w : DecWork) (k n : Nat) : DecWork := { w with errs := modAt w.errs k (· + n) }

/-- The place in DecFrame.errs of a class of R186. -/
def errSlot (cls : Nat) : Nat := if cls = 2 then 1 else if cls = 3 then 2 else 0

/-- R216: resynchronise from the place in hand. -/
def DecWork.scan (w : DecWork) : DecWork :=
  let k := scanMarker w.rest
  { ((w.err 5 1).err 6 k).pass k with sync := true }

/-- R215, R216: a failure at at_ bytes of a record's body: counted; after an invalid code or a length mismatch, resynchronise. -/
def DecWork.fail (w : DecWork) (e : PErr) : DecWork :=
  let w := (w.err (errSlot e.cls) 1).pass (2 + e.at_)
  if e.cls = 3 then w else w.scan

/-- Conceal rows from the next one up to (not including) row `to`, with a cause. -/
def DecWork.conceal (w : DecWork) (upto cause : Nat) : DecWork :=
  let new := (List.range (upto - w.b.rows)).map fun i => (w.b.rows + i, cause)
  { w with b := { w.b with rows := max w.b.rows upto, waiting := w.b.waiting ++ new } }

/-- The frame end is missing (R215), counted once in a frame. -/
def DecWork.endMissing (w : DecWork) : DecWork :=
  if w.df.endLost then w else { w.err 4 1 with df := { w.df with endLost := true } }

/-- What one record led to. -/
inductive DecRes where
  /-- Go on with the next record. -/
  | more (w : DecWork)
  /-- A row segment that passed every check and is to be placed. -/
  | row (w : DecWork) (r : RowIn) (p : RowParse) (fin : List (List (List (List Int))))
  /-- A row segment past the job's last row: the place stays ahead of it. -/
  | past (w : DecWork)
  /-- The band run has ended; with or without its frame end. -/
  | stop (w : DecWork) (found : Bool)
  /-- The frame's references are still being decoded (R139). -/
  | wait

/-- Do two decoded frames belong to one clip, with the same layout of their buffers (R114, R138)? -/
def sameClip (a b : DecFrame) : Bool := a.id.part == b.id.part && a.id.stream == b.id.stream && lyShape a.layout == lyShape b.layout

/-- The reference k of a frame being decoded, when the decoder holds it: the decoded frame with FRAME_NO f − 1 − k (R212); one of
fewer than three layers serves as none (R214). -/
def decRef (s : State) (df : DecFrame) (k : Nat) : Option DecFrame :=
  if df.frameNo < k + 1 then none
  else s.strs.decs.find? fun x => sameClip x df && x.id != df.id && x.hdr != 0 && x.layers == 3 && x.frameNo + 1 + k == df.frameNo

/-- Have all bands of a decoded frame committed? -/
def decDone (df : DecFrame) : Bool := df.bands.length == lyBands df.layout

/-- Is the frame start of an earlier frame of the clip still to be met by a strand that runs its band 0? -/
def decAhead (s : State) (df : DecFrame) : Bool :=
  s.strs.decs.any fun x => sameClip x df && x.hdr == 0 && x.id.tick < df.id.tick &&
    s.strs.lane.any fun l => l.running && match l.queue.head? with
      | some j => jOpc j.desc == opDecRow && j.part == x.id.part && jTick j.desc == x.id.tick && jBand j.desc == 0
      | none => false

/-- R139: have the first n references of a frame committed, or are they not held? -/
def decReady (s : State) (df : DecFrame) (n : Nat) : Bool :=
  n == 0 || (!decAhead s df && (List.range n).all fun k => match decRef s df k with | some g => decDone g | none => true)

/-- References that the decoder of a frame reads: none when L2 is absent (R214). -/
def refsUsed (df : DecFrame) : Nat := if df.layers = 3 then df.nref else 0

/-- The row above a row of a decoded band (R222): none where R131 gives none; else the bottom of the nearest row that is not
concealed, or mid values. The flag says that the row above is a substitute. -/
def decAbove (y : List Byte) (b : BandSt) (row : Nat) : List (List Nat) × Bool :=
  match b.good with
  | some g => (b.bottom, g + 1 != row)
  | none => ((List.range (nPlanes (lyFormat y))).map fun k =>
      List.replicate (planeW (lyFormat y) k (lyWidth y b.band)) (2 ^ (lyDepth y - 1)), true)

/-- What a row segment of a decoded frame is parsed and rebuilt with. -/
def decInput (df : DecFrame) (b : BandSt) (row : Nat) : RowIn :=
  let y := df.layout
  { fmt := lyFormat y, d := lyDepth y, col := lyStart y b.band, wb := lyWidth y b.band, w := lyW y, h := lyH y, band := b.band,
    row := row, qp := 0, e := 0, bounded := df.bounded, layers := df.layers, nref := df.nref, rois := (roiList df.rois).map roiOf,
    refresh := df.refresh, above := aboveRow (lyFormat y) row (decAbove y b row).1 }

/-- A gap of missing rows is already counted: the last row is concealed for it (R217). -/
def gapOpen (w : DecWork) : Bool :=
  let r := w.b.rows - 1
  1 ≤ w.b.rows && (w.b.waiting.contains (r, 4) ||
    nth w.df.map (r * lyCols w.df.layout + lyStart w.df.layout w.b.band / bightW (lyFormat w.df.layout)) 0 == 2 + 4 * 4)

/-- The rows up to row `to` are missing: counted once and concealed (R217). -/
def DecWork.gap (w : DecWork) (upto : Nat) : DecWork :=
  if upto ≤ w.b.rows then w else (if gapOpen w then w else w.err 3 1).conceal upto 4

/-- The references of a frame being decoded: 2^(d−1) where one is not held (R212). -/
def decRefs (s : State) (df : DecFrame) : List RefPx :=
  (List.range df.nref).map fun k =>
    match decRef s df k with
    | some x => refPx s df.layout x.dst
    | none => fun _ _ _ => ((2 ^ (lyDepth df.layout - 1) : Nat) : Int)

/-- A row segment record (R215, R217): its codes and lengths, then its place, then its corrections and its CRC. One that fails is
concealed in the place of the next row. lim is the row at which the job ends. -/
def decRowRecord (s : State) (lim : Nat) (w : DecWork) : DecRes :=
  let y := w.df.layout
  let body := w.rest.drop 2
  let bad (e : PErr) : DecRes := .more ((w.fail e).conceal (min lim (w.b.rows + 1)) (errSlot e.cls + 1))
  match runRec (rdHdr w.df.bounded wantNone) body with
  | .error e => bad e
  | .ok (h, _) =>
    let r := { decInput w.df (if h.band < lyBands y then { w.b with band := h.band } else w.b) h.row with qp := h.qp, e := h.e }
    match parseRow r wantNone body with
    | .error e => bad e
    | .ok (p, used) =>
      let crc : PErr := { cls := 3, at_ := used }
      let after : Bool := match w.b.good with | none => true | some g => decide (g < h.row)
      if h.band ≠ w.b.band ∨ lyRows y ≤ h.row ∨ !after then (if p.crcOk then .more ((w.err 3 1).pass (2 + used)) else bad crc)
      else
        let r := { decInput w.df w.b h.row with qp := h.qp, e := h.e }
        match (if w.df.layers = 3 then r.rebuild (decRefs s w.df) p else .ok []) with
        | .error at_ => bad { cls := 1, at_ := at_ }
        | .ok fin =>
          if ¬ p.crcOk then bad crc
          else if lim ≤ h.row then .past (w.gap lim)
          else .row ((w.gap h.row).pass (2 + used)) r p fin

/-- Bytes from the place in hand to the end of its buffer. -/
def DecWork.toBufEnd (w : DecWork) : Nat := (65536 - (w.b.outOff + w.pos) % 65536) % 65536

/-- FRAME_NO of the last frame of the clip whose frame start was met. -/
def lastFrameNo (s : State) (df : DecFrame) : Option Nat := lookupKey s.strs.lastNo (clipKey df.id)

/-- R218: the frame start is lost. -/
def loseStart (s : State) (w : DecWork) : DecWork :=
  { w with df := { w.df with hdr := 2, frameNo := match lastFrameNo s w.df with | some n => n + 1 | none => 1, tickNo := 0, nref := 0 },
           lost := w.lost + 1 }

/-- The frame start record (R162, R217, R218). -/
def decFrameStart (s : State) (w : DecWork) : DecWork :=
  let y := w.df.layout
  let body := w.rest.drop 2
  match runRec (rdFrameStart y body) body with
  | .ok (h, used) =>
    let gap := if w.df.hdr = 0 then (match lastFrameNo s w.df with | some n => decide (n + 1 < h.no) | none => false) else w.df.gapFlag
    let df := { w.df with hdr := 1, frameNo := h.no, tickNo := h.tick, nref := h.nref, layers := h.layers, bounded := h.bounded,
                          rois := h.rois, gapFlag := gap, refresh := none, refreshLost := false }
    let miss := (List.range (refsUsed df)).any fun k => (decRef s df k).isNone
    { ({ w with df := { df with refMiss := miss } }).pass (2 + used) with ph := 1 }
  | .error e => loseStart s (w.fail e)

/-- A KIND 0 record that was not used (R218): COL from FRAME_NO with the last NCOL and PERIOD held, else REFRESH_LOST. -/
def deriveColumn (s : State) (df : DecFrame) : DecFrame :=
  match lookupKey s.strs.lastRef (clipKey df.id) with
  | some (ncol, per) => { df with refresh := some ((df.frameNo - 1) % per * ncol, ncol) }
  | none => { df with refreshLost := true }

/-- The records ahead of the band run are passed: an inter frame of which no KIND 0 record was used has its column derived. -/
def DecWork.headed (s : State) (w : DecWork) : DecWork :=
  if w.ph = 0 ∨ w.b.band ≠ 0 ∨ w.df.nref = 0 ∨ w.df.refresh.isSome ∨ w.df.refreshLost then w
  else { w with df := deriveColumn s w.df }

/-- A 0xFFA4 record: a KIND 0 behind the frame start, a KIND 1 behind a KIND 0 (R157). -/
def decRefresh (w : DecWork) (body : List Byte) : DecWork :=
  let kind := leAt body 0 1
  match runRec (rdRefresh (w.ph == 1) (w.ph == 2) body) body with
  | .ok (some (ncol, col, per), used) =>
    { ({ w with df := { w.df with refresh := some (col, ncol) }, ref := some (ncol, per) }).pass (2 + used) with ph := 2 }
  | .ok (none, used) => { w.pass (2 + used) with ph := 3 }
  | .error e => let w' := w.fail e; if w.ph = 1 ∧ kind = 0 then { w' with ph := 2 } else if w.ph = 2 ∧ kind = 1 then { w' with ph := 3 } else w'

/-- An invalid code where a record should begin: resynchronise from there. -/
def DecWork.noRecord (w : DecWork) : DecWork := (w.err 0 1).scan

/-- One record of the band run. -/
def decRecord (s : State) (lim : Nat) (w : DecWork) : DecRes :=
  let y := w.df.layout
  let last := w.b.band + 1 == lyBands y
  let ended (w : DecWork) : DecRes := if last then .stop w.endMissing false else .stop w true
  match w.rest with
  | m0 :: m1 :: body =>
    if m0 ≠ 0xFF#8 ∨ !isMarker m1 then
      if 1 ≤ w.ph ∧ w.ph < 4 ∧ w.b.band = 0 ∧ w.toBufEnd ≠ 0 then .more { w.pass w.toBufEnd with ph := 3 }
      else .more w.noRecord
    else if m1 = 0xAF#8 then
      match runRec rdPadding body with
      | .ok (_, used) => .more (w.pass (2 + used))
      | .error e => .more (w.fail e)
    else if w.ph = 0 then
      if m1 = 0xA0#8 then .more (decFrameStart s w) else .more (loseStart s (if w.sync then w else w.err 0 1))
    else if m1 = 0xA0#8 then .stop w.endMissing false
    else if m1 = 0xA4#8 then
      if w.ph = 4 then .more ((w.err 0 1).pass 2).scan else .more (decRefresh w body)
    else if m1 = 0xA3#8 then
      match runRec (rdFrameEnd y body) body with
      | .ok _ => .stop w true
      | .error e =>
        let lost := if w.df.endLost then w else { (w.fail e).endMissing with rest := w.rest, pos := w.pos }
        .stop lost false
    else
      let w := DecWork.headed s w
      if m1 = 0xA1#8 then
        if w.ph = 4 then ended w
        else match runRec (rdBandStart body) body with
          | .ok (b, used) => .more { (if b = w.b.band then w else w.err 3 1).pass (2 + used) with ph := 4 }
          | .error e => .more { w.fail e with ph := 4 }
      else if ¬ decReady s w.df (refsUsed w.df) then .wait
      else if w.ph < 4 then
        decRowRecord s lim { (if w.sync then w else (w.err 0 1).err 5 1) with ph := 4 }
      else decRowRecord s lim w
  | _ => if w.ph = 0 then .more (loseStart s w) else ended (DecWork.headed s w)

/-- Records until a row is placed, the band run ends, or the job's rows are done. The run of the last band is read up to its end. -/
def decLoop (s : State) (lim : Nat) : Nat → DecWork → DecRes
  | 0, w => .stop w false
  | n + 1, w =>
    if w.df.hdr = 2 then .stop w true
    else if lim ≤ w.b.rows ∧ ¬ (lim = lyRows w.df.layout ∧ w.b.band + 1 = lyBands w.df.layout) then .past w
    else match decRecord s lim w with
      | .more w => decLoop s lim n w
      | r => r

/-- The records behind the last row of the last band, up to the frame end: rows among them are out of place (R217). -/
def decTail (s : State) : Nat → DecWork → DecWork
  | 0, w => w
  | n + 1, w => match decRecord s (lyRows w.df.layout) w with
    | .more x => decTail s n { x with b := w.b }
    | .stop x _ => x
    | _ => w

/-! ## States of bights (R223, R224) -/

def stIntact : Nat := 0
def stDerived : Nat := 1
def stConcealed : Nat := 2
def stReduced : Nat := 3

/-- Are the bights of a reference that an inter bight fetches from INTACT (R224)? -/
def fetchClean (s : State) (df : DecFrame) (r : RowIn) (i : Nat) (mv : Nat × Int × Int) : Bool :=
  match decRef s df mv.1 with
  | none => false
  | some g =>
    let y := df.layout
    (List.range (nPlanes r.fmt)).all fun k =>
      let mx := mvxOf r.fmt k mv.2.1
      let my := mv.2.2
      let pw := bightPW r.fmt k
      let x0 := planeW r.fmt k r.col + i * pw
      let lo (m : Int) : Int := if m % 4 = 0 then 0 else -1
      let hi (m : Int) : Int := if m % 4 = 0 then 0 else 2
      let cx (v : Int) : Nat := (clampI 0 ((planeW r.fmt k r.w : Nat) - 1) v).toNat / pw
      let cy (v : Int) : Nat := (clampI 0 ((16 * lyRows y : Nat) - 1) v).toNat / 16
      let xa := cx (x0 + sar mx 2 + lo mx); let xb := cx (x0 + pw - 1 + sar mx 2 + hi mx)
      let ya := cy (16 * r.row + sar my 2 + lo my); let yb := cy (16 * r.row + 15 + sar my 2 + hi my)
      (List.range (xb + 1 - xa)).all fun dx => (List.range (yb + 1 - ya)).all fun dy => mapState g (ya + dy) (xa + dx) == stIntact

/-- The states of a placed row's bights. -/
def rowStates (s : State) (df : DecFrame) (b : BandSt) (r : RowIn) (p : RowParse) : List Nat :=
  if df.layers < 3 then List.replicate r.nb stReduced
  else
    let sub := (decAbove df.layout b r.row).2
    ((List.range p.bights.length).zip p.bights).foldl (fun out (i, c) =>
      let clean : Bool := match c.inter with
        | some mv => fetchClean s df r i mv
        | none =>
          (i = 0 || nth out (i - 1) 0 == stIntact) &&
          (r.row % 8 == 0 || (!sub &&
            (i = 0 || mapState df (r.row - 1) (r.bx (i - 1)) == stIntact) &&
            mapState df (r.row - 1) (r.bx i) == stIntact &&
            (!((List.range (nBlocks r.fmt)).any fun j => (i + 1) * bightPW r.fmt (blockPlane r.fmt j) < r.lim i j) ||
              mapState df (r.row - 1) (r.bx (i + 1)) == stIntact)))
      out ++ [if clean ∧ !df.refreshLost then stIntact else stDerived]) []

/-- A bight byte: state and cause (R225). -/
def mapByte (st cause : Nat) : Nat := st + 4 * cause

/-! ## Writing decoded rows (R211, R214) -/

/-- Rows of a plane of a row segment, columns of a plane over w source columns, and the address of a sample, at the size of R126 that a
frame of so many layers is decoded at. -/
def outRows (layers : Nat) : Nat := if layers = 3 then 16 else if layers = 2 then 4 else 2
def outCols (y : List Byte) (layers k w : Nat) : Nat := planeW (lyFormat y) k w * outRows layers / 16
def outAddr (y : List Byte) (layers base k py px : Nat) : Nat :=
  let pitch (k : Nat) := ceilDiv (outCols y layers k (lyW y) * 2) 64 * 64
  base + ((List.range k).map fun i => outRows layers * lyRows y * pitch i).sum + py * pitch k + 2 * px

/-- The writes of a decoded row into its frame buffer: at full size the padded height (R138), at reduced size no row that falls wholly
in padding (R126, R214). -/
def outWrites (y : List Byte) (layers base band row : Nat) (sm : List (List (List Nat))) : List (Nat × List Byte) :=
  let n := outRows layers
  (List.range sm.length).flatMap fun k =>
    ((List.range n).filter fun r => layers == 3 || n * row + r < ceilDiv (planeH (lyFormat y) (lyH y) * n) 16).map fun r =>
      (outAddr y layers base k (n * row + r) (outCols y layers k (lyStart y band)), (nth (nth sm k []) r []).flatMap (leBytes 2))

/-- A sample of a decoded frame buffer. -/
def outSample (s : State) (y : List Byte) (layers base k py px : Nat) : Nat := leVal (fsRead s (outAddr y layers base k py px) 2)

/-- What a DEC_ROW step starts with: the stored bytes of the band from its place on. -/
def decWork (s : State) (j : Job) (df : DecFrame) (b : BandSt) : DecWork :=
  let start : Bool := b.outBuf == listEnd
  let off := if start then 0 else b.outOff
  { df := df, b := { b with outOff := off }, rest := runBytesFrom s (entriesFrom (runAll s (jSrc j.desc)) b.outBuf) off, pos := 0,
    errs := List.replicate 7 0, lost := 0, ph := if start then (if b.band = 0 then 0 else 3) else 4, sync := false, ref := none }

/-- The band state at the place that the work has reached. -/
def decPlace (s : State) (j : Job) (b : BandSt) (w : DecWork) : BandSt :=
  let (buf, o) := advance (entriesFrom (runAll s (jSrc j.desc)) b.outBuf) (if b.outBuf = listEnd then 0 else b.outOff) w.pos
  { w.b with outBuf := buf, outOff := o, runBytes := b.runBytes + w.pos }

/-- A staged row of a decoder with nothing in it yet. -/
def blankRow (rc : Rc) : Staged :=
  { row := 0, bytes := [], start := [], log := [], qp := 0, e := 0, ovf := false, fin := [], next := rc, sBits := 0,
    kBits := 0, matched := true, handed := true, metaRow := none, writes := [], marks := [], after := none, errs := [], hurt := false }

/-- A row that was decoded, as it is staged. -/
def decStaged (s : State) (j : Job) (b : BandSt) (w : DecWork) (r : RowIn) (p : RowParse) (fin : List (List (List (List Int)))) : Staged :=
  let y := w.df.layout
  let dst := jOut j.desc
  let sm := if w.df.layers < 3 then toSamples (r.reduced p) else toSamples (joinPlanes r.fmt fin)
  let codes := (rowStates s w.df b r p).map fun c => mapByte c (if c = stDerived then 7 else 0)
  let full := w.df.layers = 3
  let b' := { decPlace s j b w with rows := r.row + 1, good := some r.row, bottom := if full then bottomOf sm else [],
                                    waiting := w.b.waiting.filter fun q => decide (q.1 < r.row) }
  { blankRow b.rc with
    row := r.row, ovf := p.hdr.ovf, fin := if full then sm else [], marks := [(r.row, codes)], after := some b', errs := w.errs,
    hurt := codes.any (fun v => v % 4 == stDerived) || b.waiting.length < w.b.waiting.length,
    writes := outWrites y w.df.layers dst b.band r.row sm }

/-- What a DEC_ROW step comes to: nothing, a wait, or a row with its work. -/
inductive DecStep where
  | idle
  | wait
  | stage (b : BandSt) (w : DecWork) (z : Staged)

/-- References that the concealed rows of a band are filled from (R220, R221). -/
def fillRefs (df : DecFrame) (b : BandSt) : Nat :=
  if df.hdr = 1 ∧ df.nref ≠ 0 then refsUsed df else if lyRows df.layout ≤ b.rows ∧ b.good = none then 1 else 0

/-- The rest of the job's rows is concealed, or its rows are done: the step ends at the work's place, once the frames that the rows
are filled from have committed (R139). -/
def decRest (s : State) (j : Job) (b : BandSt) (w : DecWork) : DecStep :=
  let b' := decPlace s j b w
  if ¬ decReady s w.df (fillRefs w.df b') then .wait
  else .stage b w { blankRow b.rc with row := w.b.rows - 1, after := some b', errs := w.errs, hurt := b.rows < w.b.rows }

/-- One DEC_ROW step of strand n: the next row of the band is decoded, or the rest of the job's rows concealed. Bands other than 0 wait
until the frame start of band 0 has been met. -/
def decStep (s : State) (n : Nat) : DecStep :=
  let x := strandOf s n
  match jobOf s n, x.band with
  | some (_, j), some b =>
    match findDec s b.frame with
    | none => .idle
    | some df =>
      let lim := jobEnd j.desc df.layout
      if jOpc j.desc ≠ opDecRow ∨ frayed s n ∨ !x.staged.isEmpty ∨ j.dead ∨ lim ≤ b.rows then .idle
      else if df.hdr = 0 ∧ b.band ≠ 0 then .wait
      else
        let w := decWork s j df b
        match decLoop s lim (w.rest.length + 4) w with
        | .row w r p fin =>
          let b' : BandSt := { w.b with rows := r.row + 1, good := some r.row }
          let w := if r.row + 1 = lyRows df.layout ∧ b.band + 1 = lyBands df.layout
            then { decTail s (w.rest.length + 4) { w with b := b' } with b := w.b } else w
          .stage b w (decStaged s j b w r p fin)
        | .past w => decRest s j b w
        | .stop w found => decRest s j b (w.conceal lim (if w.df.hdr = 2 then 6 else if found then 4 else 5))
        | .more w => decRest s j b (w.conceal lim 4)
        | .wait => .wait
  | _, _ => .idle

/-- Does a DEC_ROW step wait for references or for its frame start (R139)? -/
def decWaits (s : State) (n : Nat) : Bool := match decStep s n with | .wait => true | _ => false

/-- What a frame's records told is kept: the frame itself, but for what its commits made of it, and for the clip its FRAME_NO when its
frame start was met, and NCOL and PERIOD of its KIND 0 record. -/
def decLearn (s : State) (w : DecWork) : State :=
  let old : DecFrame := (findDec s w.df.id).getD w.df
  let df : DecFrame := { w.df with map := old.map, errs := old.errs, bands := old.bands, waits := old.waits, ovf := old.ovf }
  let key := clipKey df.id
  let no := if old.hdr = 0 ∧ df.hdr ≠ 0 then insertKey s.strs.lastNo key df.frameNo else s.strs.lastNo
  let refs := match w.ref with | some r => insertKey s.strs.lastRef key r | none => s.strs.lastRef
  { s with strs := { s.strs with decs := s.strs.decs.map (fun f => if f.id = df.id then df else f), lastNo := no, lastRef := refs } }

/-- A DEC_ROW step ends: its row is staged, what was learnt is kept, and the errors met are counted. -/
def decStage (s : State) (n : Nat) (b : BandSt) (w : DecWork) (z : Staged) : State :=
  let s := decLearn (modStrand s n fun q => { q with staged := [z] }) w
  let s := bumpBy (bumpBy (bumpBy s (R.STR_DEC_ERR_INVALID n) (nth w.errs 0 0)) (R.STR_DEC_ERR_LENGTH n) (nth w.errs 1 0))
    (R.STR_DEC_ERR_CRC n) (nth w.errs 2 0)
  let s := bumpBy (bumpBy (bumpBy s (R.STR_DEC_ERR_ROWIDX n) (nth w.errs 3 0)) (R.STR_DEC_MISC_ENDMISS n) (nth w.errs 4 0))
    (R.STR_DEC_MISC_HDRLOST n) w.lost
  let s := bumpBy (bumpBy s (R.STR_DEC_MISC_RESYNC n) (nth w.errs 5 0)) (R.STR_DEC_SKIP_BYTES n) (nth w.errs 6 0)
  bumpBy s (R.STR_DEC_CONCEAL_CNT_COUNT n) (w.b.waiting.length - b.waiting.length)

/-- DEC_ROW (R211 to R218). -/
def decRow (s : State) (n : Nat) : State :=
  match decStep s n with
  | .stage b w z => decStage s n b w z
  | _ => s

/-! ## Concealment (R219 to R221) -/

/-- conceal_v of R220. -/
def concealV (a b ya yb y : Nat) : Nat := (a * (yb - y) + b * (y - ya) + (yb - ya) / 2) / (yb - ya)

/-- The samples of a concealed row: from reference 0 with no motion (R221); or by interpolation between the nearest rows that are
not concealed, or repeated from one of them, or from the frame before (R220). A frame of fewer than three layers is filled at its
reduced size. -/
def concealRow (s : State) (df : DecFrame) (dst : Nat) (b : BandSt) (bad : List Nat) (row : Nat) : List (List (List Nat)) :=
  let y := df.layout; let fmt := lyFormat y; let n := outRows df.layers
  let before (k py px : Nat) : Nat := match decRef s df 0 with
    | some g => if df.layers = 3 then bufSample s y g.dst k py px else 2 ^ (lyDepth y - 1)
    | none => 2 ^ (lyDepth y - 1)
  let here (k py px : Nat) : Nat := outSample s y df.layers dst k py px
  let ok := fun i => !bad.contains i
  let ra := lastIdx ok row
  let rb := firstIdx ok row (lyRows y - row)
  (List.range (nPlanes fmt)).map fun k => (List.range n).map fun i => (List.range (outCols y df.layers k (lyWidth y b.band))).map fun c =>
    let px := outCols y df.layers k (lyStart y b.band) + c
    let py := n * row + i
    if df.hdr = 1 ∧ df.nref ≠ 0 then before k py px
    else match ra, rb with
      | some a, some e => concealV (here k (n * a + n - 1) px) (here k (n * e) px) (n * a + n - 1) (n * e) py
      | some a, none => here k (n * a + n - 1) px
      | none, some e => here k (n * e) px
      | none, none => before k py px

/-- What a frame's commits have met, of one kind. -/
def errSum (df : DecFrame) (i : Nat) : Nat := (df.errs.map fun e => nth e.2 i 0).sum

/-- The header of the concealment map (R225). -/
def mapHeader (df : DecFrame) : List Byte :=
  let y := df.layout
  let cnt (c : Nat) := (df.map.filter fun v => v % 4 == c).length
  let e (i : Nat) := min (errSum df i) 0xFFFF
  let fl := b2n (df.hdr == 2) + 2 * b2n df.endLost + 4 * b2n df.gapFlag + 8 * b2n df.refMiss + 16 * b2n df.refreshLost +
    32 * b2n df.bounded + 64 * b2n df.ovf
  let head := leBytes 4 0x50414D43 ++ leBytes 2 1 ++ leBytes 2 (lyCols y) ++ leBytes 2 (lyRows y) ++ leBytes 1 (lyBands y) ++
    leBytes 1 fl ++ leBytes 4 df.frameNo ++ leBytes 8 df.tickNo ++ leBytes 4 (cnt 0) ++ leBytes 4 (cnt 1) ++ leBytes 4 (cnt 2) ++
    leBytes 4 (cnt 3) ++ leBytes 2 (e 0) ++ leBytes 2 (e 1) ++ leBytes 2 (e 2) ++ leBytes 2 (e 3) ++ leBytes 2 (min 1 (e 4)) ++
    leBytes 2 (e 5) ++ leBytes 4 (min (errSum df 6) 0xFFFFFFFF) ++ leBytes 4 0
  head ++ leBytes 4 (crc32c (head ++ df.map.map fun v => BitVec.ofNat 8 v))

/-- R226: is the frame reported as damaged? -/
def mapDamaged (df : DecFrame) : Bool :=
  (df.map.any fun v => v % 4 == stDerived || v % 4 == stConcealed) ||
  df.hdr == 2 || df.endLost || df.gapFlag || df.refMiss || df.refreshLost

/-- Map bytes of one row of a band, in the frame's record and in memory at the job's map address. -/
def putMarks (s : State) (df : DecFrame) (map : Nat) (b : BandSt) (row : Nat) (codes : List Nat) : DecFrame × State :=
  let y := df.layout
  let at_ := row * lyCols y + lyStart y b.band / bightW (lyFormat y)
  ({ df with map := df.map.take at_ ++ codes ++ df.map.drop (at_ + codes.length) },
   fsWrite s (map + 0x40 + at_) (codes.map fun v => BitVec.ofNat 8 v))

/-- Fill the concealed rows of a band that can be filled (R220, R221): those of an inter frame at once, those of an intra frame once
the band's last row has been decoded. -/
def fillRows (s : State) (d : List Byte) (df : DecFrame) (b : BandSt) : DecFrame × BandSt × State :=
  let y := df.layout
  if b.waiting = [] ∨ ¬ ((df.hdr = 1 ∧ df.nref ≠ 0) ∨ lyRows y ≤ b.rows) then (df, b, s)
  else
    let bad := b.waiting.map (·.1)
    let filled := b.waiting.map fun q => (q, concealRow s df (jOut d) b bad q.1)
    let (df, s) := filled.foldl (fun (df, s) (q, sm) =>
      putMarks (fsWrites s (outWrites y df.layers (jOut d) b.band q.1 sm)) df (jRate d) b q.1
        (List.replicate (lyWidth y b.band / bightW (lyFormat y)) (mapByte stConcealed q.2))) (df, s)
    (df, { b with waiting := [] }, s)

/-- R226: the last band of a frame has committed: the map's header is written, and DEC_DAMAGED raised when something is damaged. -/
def closeDecoded (s : State) (df : DecFrame) (map : Nat) : State :=
  let s := fsWrite s map (mapHeader df)
  if mapDamaged df then raiseP s df.id.part srcDecDamaged else s

/-- The bottom row that a decoded band's checkpoint records (R121): that of the row committed last, placed or filled; one that is not
reconstructed at full size yet has none, and what stands there is a free value (log entry 38). -/
def ckptBottom (s : State) (df : DecFrame) (dst : Nat) (b : BandSt) : List (List Nat) × State :=
  let y := df.layout
  if df.layers < 3 ∨ (b.waiting.any fun q => q.1 + 1 == b.rows) then
    ([unpackSamples (lyDepth y) (ckptSamples (lyFormat y) (lyWidth y b.band)) (leBytes (2 * ckptSamples (lyFormat y) (lyWidth y b.band)) (freeVal s))],
     useFree s)
  else (bufBottom s df dst b.band (b.rows - 1), s)

/-- The commit of a decoded row. -/
def commitDec (s : State) (n l : Nat) (j : Job) (df : DecFrame) (b : BandSt) (z : Staged) (waited t : Nat) : State :=
  let y := df.layout
  let d := j.desc
  let s := fsWrites s z.writes
  let (df, s) := z.marks.foldl (fun (df, s) m => putMarks s df (jRate d) b m.1 m.2) (df, s)
  let (df, b, s) := fillRows s d df b
  let df := { df with errs := insertKey df.errs (2 ^ 16 * b.band + (b.rows - 1)) z.errs, ovf := df.ovf || z.ovf,
                      waits := if b.waiting = [] then df.waits.erase b.band else b.band :: df.waits.erase b.band }
  let last := lyRows y ≤ b.rows && !df.bands.contains b.band
  let df := if last then { df with bands := b.band :: df.bands } else df
  let (row, s) := ckptBottom s df (jOut d) b
  let s := fsWrite s (ckptSlot y b.band (b.rows - 1)) (ckptImage y { b with bottom := row } (strandOf s n).epoch)
  let s := { s with strs := { s.strs with decs := s.strs.decs.map fun f => if f.id = df.id then df else f } }
  let s := if last ∧ decDone df then closeDecoded s df (jRate d) else s
  endIfLast (countRow s n l b waited t z.ovf z.hurt) n l y b.rows 0

/-- ROW_COMMIT (R118, R263): the first staged row is published, or its writes are dropped by the epoch gate; writes says how many
the row had issued when that happens, waited how many cycles of the no-commit interval did not run (R260). A QUARANTINED strand's writes
are dropped whatever it holds (R234). -/
def rowCommit (s : State) (n : Nat) (writes waited t : Nat) : State :=
  let x := strandOf s n
  match x.staged.head? with
  | none => if strState s n = strQuar then bumpBy s (R.STR_STALE_CNT_COUNT n) writes else s
  | some z =>
    if ¬ z.handed then s
    else if ¬ gateOpen s n then
      bumpBy (modStrand s n fun q => { q with staged := q.staged.drop 1 }) (R.STR_STALE_CNT_COUNT n) writes
    else match jobOf s n, x.band with
      | some (l, j), some b =>
        match z.after with
        | some b' =>
          match findDec s b.frame with
          | none => s
          | some df => commitDec s n l j df b' z waited t
        | none =>
          match findFrame s b.frame with
          | none => s
          | some f => if jHookMeta j.desc ∧ z.metaRow.isNone then s else commitEnc s n l j f b z waited t
      | _, _ => s

/-! ## ECHO jobs (R232) -/

/-- What an ECHO job of band b parses rows with: the frame's own parameters when the device holds them. -/
def echoInput (s : State) (j : Job) (y : List Byte) (b : Nat) : Option RowIn :=
  match s.strs.frames.find? (fun f => f.id.part == j.part && f.id.tick == jTick j.desc && f.layout == y && !f.rate.isEmpty) with
  | some f => some (encInput f b 0 0 0 [])
  | none =>
    match s.strs.decs.find? (fun f => f.id.part == j.part && f.id.tick == jTick j.desc && f.hdr == 1) with
    | some df => some (decInput df (bandInit df.id b { qp := 0, e := 0, carry := 0, ovf := 0 }) 0)
    | none => none

/-- The outcome of R229 for a failure; a row segment out of order is 6 (R232). -/
def outcomeOf (e : PErr) : Nat := if e.cls = 2 then 2 else if e.cls = 3 then 3 else if e.cls = 8 then 6 else 5

/-- ROW and BAND that a row segment of the run must carry. -/
def wantRow (row band : Nat) (i : Nat) : Option (Nat × Nat) :=
  match i with
  | 0 => some (row / 256, 8)
  | 1 => some (row % 256, 8)
  | 2 => some (band, 8)
  | _ => none

/-- Check rows row, row + 1, … of a band run, padding between them skipped (R157, R174): rows checked, the first failing ROW and the
outcome. The first count bounds the records read, the second the rows. -/
def echoRows (r : RowIn) : Nat → Nat → Nat → Nat → List Byte → Nat × Nat × Nat
  | 0, _, _, done, _ => (done, 0xFFFF, 0)
  | _ + 1, 0, _, done, _ => (done, 0xFFFF, 0)
  | fuel + 1, n + 1, row, done, bs =>
    match bs with
    | m0 :: m1 :: body =>
      if m0 ≠ 0xFF#8 ∨ !isMarker m1 then (done + 1, row, 5)
      else if m1 = 0xAF#8 then
        match runRec rdPadding body with
        | .error e => (done + 1, row, outcomeOf e)
        | .ok (_, used) => echoRows r fuel (n + 1) row done (body.drop used)
      else if m1 ≠ 0xA2#8 then (done + 1, row, 6)
      else match parseRow r (wantRow row r.band) body with
        | .error e => (done + 1, row, outcomeOf e)
        | .ok (p, used) => if p.crcOk then echoRows r fuel n (row + 1) (done + 1) (body.drop used) else (done + 1, row, 3)
    | _ => (done + 1, row, 6)

/-- Pass the rows before ROW_FIRST, and what stands between them, by their markers. -/
def skipRows : Nat → Nat → List Byte → List Byte
  | 0, _, bs => bs
  | _ + 1, 0, bs => bs
  | fuel + 1, n + 1, bs =>
    let r := bs.drop 2
    skipRows fuel (if leAt bs 1 1 = 0xA2 then n else n + 1) (r.drop (scanMarker r))

/-- A band run from its band start on: rows checked, the first failing ROW and the outcome. -/
def echoRun (r : RowIn) (first rows : Nat) : Nat → List Byte → Nat × Nat × Nat
  | 0, _ => (0, first, 6)
  | fuel + 1, bs =>
    match bs with
    | 0xFF#8 :: 0xAF#8 :: body =>
      match runRec rdPadding body with
      | .error e => (0, first, outcomeOf e)
      | .ok (_, used) => echoRun r first rows fuel (body.drop used)
    | 0xFF#8 :: 0xA1#8 :: body =>
      match runRec (rdBandStart body) body with
      | .error e => (0, first, outcomeOf e)
      | .ok (b, used) =>
        if b ≠ r.band then (0, first, 6)
        else
          let rest := body.drop used
          echoRows r (rest.length + 1) rows first 0 (skipRows (rest.length + 1) first rest)
    | 0xFF#8 :: m :: _ => (0, first, if isMarker m then 6 else 5)
    | _ :: _ => (0, first, 5)
    | [] => (0, first, 6)

/-- ECHO_JOB (R232). -/
def echoJob (s : State) (n : Nat) : State :=
  match jobOf s n with
  | none => s
  | some (l, j) =>
    let d := j.desc
    if jOpc d ≠ opEcho then s
    else
      let y := fsRead s (jLayout d) 64
      let bs := runBytesFrom s (runAll s (jSrc d)) 0
      let rows := min (lyRows y) (jobEnd d y) - jFirst d
      let (cnt, failRow, out, s) : Nat × Nat × Nat × State :=
        match echoInput s j y (jBand d) with
        | none => (rows, 0xFFFF, freeVal s % 7, useFree s)
        | some r => let (c, f, o) := echoRun r (jFirst d) rows (bs.length + 1) bs; (c, f, o, s)
      let s := modJob s l fun q => { q with rows := cnt }
      let s := if out = 0 then s else raiseP s j.part srcEchoJobFail
      endJob s n l (if out = 0 then jsOK else jsEchoFail) failRow out 0

/-! ## LOADCTX and SAVECTX (R241) -/

/-- LOADCTX: band state from a checkpoint, checked as R122 asks but for the epoch (log entry 38); the committed count is set. -/
def loadCtx (s : State) (n : Nat) : State :=
  match jobOf s n with
  | none => s
  | some (l, j) =>
    let d := j.desc
    if jOpc d ≠ opLoadCtx then s
    else
      let y := fsRead s (jLayout d) 64
      let f := jobFrame s j y
      let row := jFirst d - 1
      let a := if jSrc d = 0 then ckptSlot y (jBand d) row else jSrc d
      match (if jFirst d = 0 then none else ckptRead s y a f (jBand d) row none) with
      | none => endJob s n l jsBadCtx 0xFFFF 0 0
      | some b =>
        let b := match findDec s f with
          | some df => decBand s df df.dst b
          | none => b
        let s := startCount s l f (jBand d)
        let s := put s (R.STR_LANE_CNT_ROWS l) (jFirst d)
        let s := modLane s l fun x => { x with ckEpoch := get s (R.STR_LANE_MAP_EPOCH l) }
        let s := modStrand s n fun x => { x with band := some b }
        endJob s n l jsOK 0xFFFF 0 0

/-- SAVECTX: the band state after the lane's last committed row goes to OUT: from the strand, or from the checkpoint of that row when
the strand does not hold the band; with no committed row, BAD_ROW (log entry 38). -/
def saveCtx (s : State) (n : Nat) : State :=
  match jobOf s n with
  | none => s
  | some (l, j) =>
    let d := j.desc
    if jOpc d ≠ opSaveCtx then s
    else
      let y := fsRead s (jLayout d) 64
      let f := jobFrame s j y
      let c := countFor s l f (jBand d)
      let out (b : BandSt) (row : List (List Nat)) (epoch : Nat) (s : State) : State :=
        endJob (fsWrite s (jOut d) (ckptImage y { b with bottom := row } epoch)) n l jsOK 0xFFFF 0 0
      let held := (strandOf s n).band.filter fun b => b.frame == f && b.band == jBand d && b.rows == c
      if c = 0 then endJob s n l jsBadRow 0xFFFF 0 0
      else match held with
        | some b =>
          let (row, s) := match findDec s f with
            | some df => ckptBottom s df df.dst b
            | none => (b.bottom, s)
          out b row (get s (R.STR_LANE_MAP_EPOCH l)) s
        | none =>
          match ckptRead s y (ckptSlot y (jBand d) (c - 1)) f (jBand d) (c - 1) none with
          | some b => out b b.bottom (laneOf s l).ckEpoch s
          | none => endJob s n l jsBadRow 0xFFFF 0 0

end Sys2Proof.Machine
end

