-- ==== Sys2Proof/Machine/Micro.lean ====
section
/-! DEFINITION. The strands' microcode (R249 to R258): control store, microwords, open store routines and CUSTOM jobs. A microword
command names its strand, what the SECDED check of the fetch found, and the word; it is carried out when that word is the one the
strand fetches and the word holds the operation that the command names. One word may hold several operations: its commands are
names of one step. -/

namespace Sys2Proof.Machine

/-! ## Fields of a microword (R250) -/

def uNx (w : MicroWord) : Nat := bits w.toNat 94 2
def uCond (w : MicroWord) : Nat := bits w.toNat 88 6
def uCinv (w : MicroWord) : Bool := bitAt w.toNat 87
def uTarget (w : MicroWord) : Nat := bits w.toNat 74 13
def uStk (w : MicroWord) : Nat := bits w.toNat 72 2
def uCommit (w : MicroWord) : Bool := bitAt w.toNat 71
def uPrivate (w : MicroWord) : Nat := bits w.toNat 64 7
def uAlu (w : MicroWord) : Nat := bits w.toNat 58 6
def uDst (w : MicroWord) : Nat := bits w.toNat 53 5
def uSrcA (w : MicroWord) : Nat := bits w.toNat 48 5
def uSrcB (w : MicroWord) : Nat := bits w.toNat 43 5
def uMem (w : MicroWord) : Nat := bits w.toNat 40 3
def uImm (w : MicroWord) : Nat := bits w.toNat 24 16
def uEngine (w : MicroWord) : Nat := bits w.toNat 0 24

/-! ## Control store (R249, R254, R255) -/

/-- Is an address in the ROM? -/
def inRom (a : Nat) : Bool := a < 4096

/-- A patch RAM word; one that no patch set loaded is not known (log entry 4). -/
def patchWord (s : State) (a : Nat) : MicroWord := (lookupKey s.strs.patch a).getD (Config.romWord a)

/-- The word that a fetch at an address returns: a ROM word or the patch RAM word that a match register puts in its place, a patch
RAM word, or an open store word; none where the space is unmapped. -/
def fetchWord (s : State) (a : Nat) : Option MicroWord :=
  if inRom a then
    match lookupKey s.strs.patchAt a with
    | some p => some (patchWord s p)
    | none => some (Config.romWord a)
  else if a < 4352 then some (patchWord s a)
  else if a < 4864 then some ((lookupKey s.strs.store (a - 4352)).getD (Config.romWord a))
  else none

/-! ## ALU (R251) -/

/-- The low 32 bits of an integer. -/
def w32 (i : Int) : Nat := wrap 32 i

/-- The result and the carry, if the operation sets it, of an ALU code; d is the old value of DST. -/
def uAluOp (op a b imm d : Nat) : Nat × Option Bool :=
  let sa := sext 32 a
  let sb := sext 32 b
  let si := sext 16 imm
  let borrow := if Config.carryIsBorrow then decide (a < b) else decide (b ≤ a)
  match op with
  | 0x01 => ((a + b) % 2 ^ 32, some (decide (2 ^ 32 ≤ a + b)))
  | 0x02 => (w32 (sa - sb), some borrow)
  | 0x03 => (a &&& b, none)
  | 0x04 => (a ||| b, none)
  | 0x05 => (a ^^^ b, none)
  | 0x06 => (a * 2 ^ (b % 32) % 2 ^ 32, none)
  | 0x07 => (a / 2 ^ (b % 32), none)
  | 0x08 => (w32 (sar sa (b % 32)), none)
  | 0x09 => (w32 (sa * sb), none)
  | 0x0A => (w32 (min sa sb), none)
  | 0x0B => (w32 (max sa sb), none)
  | 0x0C => (w32 si, none)
  | 0x0D => (2 ^ 16 * imm + d % 2 ^ 16, none)
  | 0x0E => (w32 (sa + si), some (decide (2 ^ 32 ≤ a + w32 si)))
  | 0x0F => (w32 (sa - sb), some borrow)
  | _ => (0, none)

/-- A microregister; u0 reads zero (R250). -/
def ureg (x : StrandSt) (r : Nat) : Nat := if r = 0 then 0 else nth x.u r 0

/-- Write a microregister; a write to u0 is discarded. -/
def setUreg (x : StrandSt) (r v : Nat) : StrandSt := if r = 0 then x else { x with u := setAt x.u r (v % 2 ^ 32) }

/-! ## Open store routines (R257) -/

/-- Bytes of strand SRAM (R234). -/
def sramBytes : Nat := 1572864

/-- Do n bytes from a lie in the n' bytes from b? -/
def areaHas (b n' a n : Nat) : Bool := b ≤ a && a + n ≤ b + n'

/-- The routine's own area besides the scratch: its start and its bytes. -/
def routineArea (s : State) (n : Nat) : Nat × Nat :=
  let x := strandOf s n
  match jobOf s n with
  | none => (0, 0)
  | some (_, j) =>
    if x.routine = 1 then
      match x.band.bind fun b => findFrame s b.frame with
      | some f => (Config.hookArea, ((List.range (nPlanes (lyFormat f.layout))).map fun k =>
          32 * planeW (lyFormat f.layout) k (lyWidth f.layout (jBand j.desc))).sum)
      | none => (0, 0)
    else if x.routine = 2 then (Config.metaArea, 64)
    else if x.routine = 3 then (Config.customArea, jArg j.desc 0)
    else (0, 0)

/-- May the code that runs touch n bytes of SRAM from a? ROM and patch code may touch all of it. -/
def sramAllowed (s : State) (n : Nat) (store : Bool) (a k : Nat) : Bool :=
  if store then
    let r := routineArea s n
    areaHas Config.scratchArea 16384 a k || areaHas r.1 r.2 a k
  else a + k ≤ sramBytes

/-- The no-commit interval does not run during a routine: when one ends, its start moves on by the time the routine took (R260). -/
def endRoutine (x : StrandSt) (clk : Nat) : StrandSt :=
  { x with routine := 0, stack := [], since := x.since + (clk - x.routAt) }

/-- R258: the job ends with CUSTOM_FAULT; a row whose COMMIT word has issued completes first. -/
def customFault (s : State) (n : Nat) : State :=
  let s := rowCommit s n 0 0 s.clk
  match jobOf s n with
  | none => s
  | some (l, _) =>
    let d := match (strandOf s n).band with | some b => b.runBytes | none => 0
    endJob s n l jsCustomFault 0xFFFF 0 d

/-- An illegal microword: CUSTOM_FAULT in open store code, else fray cause 6 (R258, R259). -/
def uIllegal (s : State) (n : Nat) (store : Bool) : State := if store then customFault s n else fray s n 6

/-- The address a hook's return goes back to is ROM-private (log entry 4). -/
def romReturn (s : State) (n : Nat) : State := put (useFree s) (R.STR_UPC_ADDR n) (freeVal s % 4096)

/-- A routine returns with an empty stack, or dispatches again: it ends (R253, R257). -/
def routineEnd (s : State) (n : Nat) : State :=
  let x := strandOf s n
  match x.routine, jobOf s n with
  | 1, some _ => romReturn (modStrand s n fun z => { endRoutine z s.clk with preDone := true }) n
  | 2, some _ =>
    let m := memRead x.sram Config.metaArea 64
    romReturn (modStrand s n fun z =>
      { endRoutine z s.clk with staged := z.staged.map fun r => if r.metaRow.isNone then { r with metaRow := some m } else r }) n
  | 3, some (l, _) => endJob (modStrand s n fun z => endRoutine z s.clk) n l jsOK 0xFFFF 0 (ureg x 1)
  | _, _ => romReturn s n

/-- COMMIT (R250, R257): a CUSTOM routine's input area goes to OUT through the epoch gate; a staged row that matched goes to the commit
engine. -/
def uHand (s : State) (n : Nat) : State :=
  let x := strandOf s n
  match x.routine, jobOf s n with
  | 3, some (_, j) =>
    if gateOpen s n then fsWrite s (jOut j.desc) (memRead x.sram Config.customArea (jArg j.desc 0))
    else bump s (R.STR_STALE_CNT_COUNT n)
  | _, _ => modStrand s n fun z => { z with staged := z.staged.map fun r => if r.matched then { r with handed := true } else r }

/-! ## Conditions (R252) -/

/-- The job at the head of the queue that strand n serves. -/
def queueHead (s : State) (n : Nat) : Option Job :=
  match jobOf s n with
  | some (_, j) => some j
  | none => (nextLane s n).bind fun l => (laneOf s l).queue.head?

/-- REF_READY (R139, R252): the references of the frame that strand n codes or decodes have committed. -/
def refsReady (s : State) (n : Nat) : Bool :=
  !decWaits s n && (match (strandOf s n).band.bind fun b => findFrame s b.frame with | some f => refReady s f | none => true)

/-- A condition's value. Those of the strand's own engines come with the command (eng). -/
def condVal (s : State) (n c : Nat) (eng : Bool) : Bool :=
  let x := strandOf s n
  let frame := x.band.bind fun b => findFrame s b.frame
  match c with
  | 0 => true
  | 1 => (queueHead s n).isSome
  | 7 => x.staged.all (·.matched)
  | 8 => get s (R.STR_ECHO_STAT_LAST n) == 0
  | 10 => s.pool.headE != listEnd && x.staged.length < 2
  | 11 => refsReady s n
  | 12 => !x.staged.any (·.handed)
  | 14 => x.zero
  | 15 => x.neg
  | 16 => x.carry
  | 18 => match x.band, frame, jobOf s n with
    | some b, some f, some (_, j) => jobEnd j.desc f.layout ≤ nextRow x b + 1
    | _, _, _ => false
  | 19 => frayed s n || (match jobOf s n with | some (_, j) => j.dead | none => false)
  | 20 => x.routine == 0
  | _ => eng

/-- Is a word illegal where it is fetched (R250, R251, R252)? -/
def uBad (s : State) (n : Nat) (store : Bool) (w : MicroWord) : Bool :=
  let x := strandOf s n
  0x10 ≤ uAlu w || 21 ≤ uCond w || uStk w == 3 ||
  (uStk w == 1 && (if x.routine == 1 || x.routine == 2 then 3 else 4) ≤ x.stack.length) ||
  (store && (uPrivate w != 0 || uEngine w != 0 || 5 ≤ uMem w || (uCommit w && x.routine != 3)))

/-- The bytes a MEM code reads or writes, and whether it writes. -/
def memSize (m : Nat) : Option (Nat × Bool) :=
  match m with
  | 1 => some (4, false)
  | 2 => some (4, true)
  | 3 => some (2, false)
  | 4 => some (2, true)
  | _ => none

/-! ## One microword -/

/-- ALU and MEM of a word: registers, flags and SRAM. A destination that both write takes a free value (log entry 40). -/
def uData (s : State) (n : Nat) (w : MicroWord) : State :=
  let x := strandOf s n
  let a := ureg x (uSrcA w)
  let b := ureg x (uSrcB w)
  let (r, c) := uAluOp (uAlu w) a b (uImm w) (ureg x (uDst w))
  let s := modStrand s n fun z => if uAlu w = 0 then z else
    let z := { z with zero := r == 0, neg := bitAt r 31, carry := c.getD z.carry }
    if uAlu w = 0x0F then z else setUreg z (uDst w) r
  let at_ := a + uImm w
  match memSize (uMem w) with
  | none => s
  | some (k, true) => modStrand s n fun z => { z with sram := memWriteAll z.sram at_ (leBytes k b) }
  | some (k, false) =>
    if uAlu w = 0 ∨ uAlu w = 0x0F then modStrand s n fun z => setUreg z (uDst w) (leVal (memRead x.sram at_ k))
    else modStrand (useFree s) n fun z => setUreg z (uDst w) (freeVal s)

/-- NX 3: wait on the queue, then jump to the dispatch entry of the job at its head; a CUSTOM entry outside the open store completes
the job with BAD_OPCODE (R253). A CUSTOM routine that dispatches ends. -/
def uDispatchTo (s : State) (n : Nat) : State :=
  let s := if (strandOf s n).routine = 3 then routineEnd s n else modStrand s n fun z => { z with routine := 0 }
  match queueHead s n with
  | none => s
  | some j =>
    let o := jOpc j.desc
    if isCustom o then
      let e := get s (R.STR_DISPATCH_ADDR (o - 0x10))
      if inStore e then put s (R.STR_UPC_ADDR n) e
      else match jobOf s n with
        | some (l, _) => endJob s n l jsBadOpcode 0xFFFF 0 0
        | none => s
    else put s (R.STR_UPC_ADDR n) (Config.romDispatch o % 4096)

/-- STK and NX of a word whose condition evaluated to taken. -/
def uNext (s : State) (n pc : Nat) (w : MicroWord) (taken : Bool) : State :=
  let seq := (pc + 1) % 8192
  if uStk w = 2 then
    match (strandOf s n).stack with
    | [] => routineEnd s n
    | a :: r => put (modStrand s n fun z => { z with stack := r }) (R.STR_UPC_ADDR n) a
  else
    let s := if uStk w = 1 then modStrand s n fun z => { z with stack := seq :: z.stack } else s
    if uNx w = 3 then uDispatchTo s n
    else put s (R.STR_UPC_ADDR n) (if uNx w = 1 ∧ taken then uTarget w else seq)

/-- One microword at pc: it waits while its condition does not hold, faults or frays when it is illegal, else its results, its commit
and its next address take effect. -/
def uWord (s : State) (n pc : Nat) (w : MicroWord) (eng : Bool) : State :=
  let store := inStore pc
  let taken := condVal s n (uCond w) eng != uCinv w
  if uBad s n store w then uIllegal s n store
  else
    let at_ := ureg (strandOf s n) (uSrcA w) + uImm w
    let ok : Bool := match memSize (uMem w) with | none => true | some (k, _) => sramAllowed s n store at_ k
    if !ok && store then customFault s n
    else if uNx w = 2 ∧ ¬ taken then s
    else
      let s := uData s n w
      let s := if uCommit w then uHand s n else s
      uNext s n pc w taken

/-- R256: an uncorrectable control store error frays the strand with cause 4. -/
def storeUe (s : State) (n : Nat) : State :=
  fray (bump s (R.STR_CS_ECC_UE n)) n 4

/-- CUSTOM (R253, R257): the running CUSTOM job enters its open store routine with its input copied from SRC; an entry outside the open
store completes it with BAD_OPCODE. -/
def startCustom (s : State) (n : Nat) : State :=
  match jobOf s n with
  | none => s
  | some (l, j) =>
    let d := j.desc
    if ¬ isCustom (jOpc d) ∨ (strandOf s n).routine ≠ 0 ∨ frayed s n then s
    else
      let e := get s (R.STR_DISPATCH_ADDR (jOpc d - 0x10))
      if ¬ inStore e then endJob s n l jsBadOpcode 0xFFFF 0 0
      else
        let input := fsRead s (jSrc d) (jArg d 0)
        let s := modStrand s n fun x => { x with sram := memWriteAll x.sram Config.customArea input }
        startRoutine s n 3 e
          [(1, Config.customArea), (2, jArg d 1), (3, jArg d 2), (4, jArg d 3), (5, jArg d 4), (6, jArg d 5)]

end Sys2Proof.Machine
end

