-- ==== Sys2Proof/Machine/Splice.lean ====
section
/-! DEFINITION. Restart, splice, self-test, quarantine and lane assignment (R236 to R239, R259 to R271), and loading the open store
(R255). -/

namespace Sys2Proof.Machine

/-! ## Strand reset and self-test -/

/-- A strand reset: the fields of strand scope and all the strand holds but its SRAM. -/
def resetStrand (s : State) (n : Nat) : State :=
  let lo := 32 * (0x100000 + 0x1000 * n)
  let regs := s.regs.filter fun c => !(c.scope == .strand && lo ≤ c.key && c.key < lo + 32 * 0x1000)
  modStrand { s with regs := regs } n fun x => { StrandSt.init with sram := x.sram }

/-- A self-test of strand n starts; kind as in StrandSt.test. -/
def beginTest (s : State) (n kind : Nat) : State :=
  put (modStrand s n fun x => { x with test := kind }) (R.STR_TEST_STAT_RESULT n) 1

/-- Does strand n run a SELFTEST job of its lane? -/
def laneTest (s : State) (n : Nat) : Bool := match jobOf s n with | some (_, j) => jOpc j.desc == opSelfTest | none => false

/-- SELFTEST (R269): the strand's running SELFTEST job, or one that waits for a strand that serves no lane, starts its test. -/
def startTest (s : State) (n : Nat) : State :=
  if (strandOf s n).test ≠ 0 then s
  else if laneTest s n || (strState s n != strActive && (testJob s n).isSome) then beginTest s n 1
  else s

/-- SELFTEST_DONE (R268, R269, R271): the result is recorded and the job completes; a strand that passes and was TESTING becomes SPARE,
one that fails frays with cause 7. part is 0 for a pass, else the failing part of STR_TEST_STAT.UNIT. -/
def testDone (s : State) (n part sig : Nat) : State :=
  let kind := (strandOf s n).test
  if kind = 0 ∨ 4 < part then s
  else
    let st := strState s n
    let s := put (put s (R.STR_TEST_STAT_RESULT n) (if part = 0 then 2 else 3)) (R.STR_TEST_STAT_UNIT n) part
    let s := modStrand (put s (R.STR_TEST_SIG_SIG n) sig) n fun x => { x with test := 0 }
    let code := if part = 0 then jsOK else jsSelftestFail
    let s := if kind ≠ 1 then s
      else match jobOf s n with
        | some (l, _) => endJob s n l code 0xFFFF 0 sig
        | none => endTestJob s n code sig
    if part ≠ 0 then fray s n 7
    else if st = strQuar then setF s (R.STR_TEST_STAT_AFTERQ n)
    else if st = strTesting then setStrState s n strSpare
    else s

/-- SPARE_SELFTEST_TIMER (R270). -/
def spareTests (s : State) (t : Nat) : State :=
  let per := get s R.STR_POOL_TESTPER
  if per = 0 ∨ anchored s ∨ t < s.strs.testAt + msCycles * 1000 * per then s
  else
    let s := { stamp s t with strs := { s.strs with testAt := t } }
    forN 18 (fun n s => if strState s n = strSpare ∧ (strandOf s n).test = 0 then beginTest s n 2 else s) s

/-! ## Events that meet a running routine (R259, R260) -/

/-- Abandon the routine in progress and run it again from its entry: rows whose COMMIT word has issued stay. -/
def restartRow (s : State) (n : Nat) : State :=
  bump (modStrand s n fun x =>
    { (if x.routine = 0 then x else endRoutine x s.clk) with staged := x.staged.filter (·.handed), preDone := false, stack := [] })
    (R.STR_RESTART_CNT_COUNT n)

/-- The row that strand n works on: the first whose COMMIT word has not issued. -/
def rowHand (x : StrandSt) : Nat := (match x.band with | some b => b.rows | none => 0) + (x.staged.filter (·.handed)).length

/-- STRAND_SRAM_UE (R259): counted; a running routine restarts, and the third error in one row is fray cause 5. -/
def sramUe (s : State) (n : Nat) : State :=
  let s := bump s (R.STR_SRAM_ECC_UE n)
  if (jobOf s n).isNone ∨ frayed s n ∨ strState s n ≠ strActive then s
  else
    let x := strandOf s n
    let r := rowHand x
    let k := (lookupKey x.ues r).getD 0 + 1
    let s := modStrand s n fun x => { x with ues := insertKey x.ues r k }
    if 3 ≤ k then fray s n 5 else restartRow s n

/-- A DRAM read of strand n returned an error (R259): the routine restarts once, and the second error in one row completes the job with
READ_ERROR. -/
def strandReadError (s : State) (n : Nat) : State :=
  match jobOf s n with
  | none => s
  | some (l, _) =>
    if frayed s n then s
    else
      let x := strandOf s n
      let r := rowHand x
      if (lookupKey x.readErr r).isNone then restartRow (modStrand s n fun x => { x with readErr := insertKey x.readErr r 1 }) n
      else
        let s := rowCommit s n 0 0 s.clk
        endJob s n l jsReadError 0xFFFF 0 (match (strandOf s n).band with | some b => b.runBytes | none => 0)

/-- Does strand n wait on OUT_SPACE or REF_READY (R252)? -/
def strandWaits (s : State) (n : Nat) : Bool :=
  let x := strandOf s n
  (x.staged.any (·.handed) && s.pool.headE == listEnd) || !refsReady s n

/-- NO_COMMIT_TIMEOUT (R260): fray cause 1. waited is how many cycles of the interval the strand spent in the waits that stop it. -/
def noCommit (s : State) (n waited t : Nat) : State :=
  match jobOf s n with
  | none => s
  | some (_, j) =>
    let x := strandOf s n
    if isCustom (jOpc j.desc) ∨ jOpc j.desc = opSelfTest ∨ x.routine ≠ 0 ∨ frayed s n ∨ strandWaits s n ∨
        t < 250 * usCycles + x.since + waited then s
    else
      let s := putMax (stamp s t) (R.STR_WDOG_MAX_US n) ((t - x.since - waited) / usCycles)
      fray s n 1

/-! ## Splice (R262 to R267) -/

/-- Has a lane a strand other than n? -/
def otherLane (s : State) (n l k : Nat) : Bool := k != l && (match laneStrand s k with | some m => m != n | none => false)

/-- R267: the lane whose strand takes a lane in: fewest queued jobs, lower number on a tie. -/
def fewestJobs (s : State) (n l : Nat) : Option Nat :=
  (List.range 18).foldl (fun best k =>
    if otherLane s n l k then
      (match best with
       | none => some k
       | some b => if (laneOf s k).queue.length < (laneOf s b).queue.length then some k else some b)
    else best) none

/-- R267: the lane becomes shared. -/
def shareLane (s : State) (n l : Nat) : State :=
  match fewestJobs s n l with
  | none => s
  | some k =>
    let s := put s (R.STR_LANE_MAP_STRAND l) (get s (R.STR_LANE_MAP_STRAND k))
    setF (setF s (R.STR_LANE_MAP_SHARED l)) R.STR_POOL_STAT_DEGRADED

/-- Steps 1, 2 and 4 of R262 for lane l of strand n: the epoch advances, and the lane goes to the lowest-numbered SPARE or is shared.
Its running job is restored there (step 5) and is marked spliced. -/
def passLane (s : State) (n l cause : Nat) : State :=
  let s := bumpEpoch s l
  let x := laneOf s l
  let run := x.running || x.restore
  let s := modLane s l fun x =>
    { x with running := false, restore := run, gap := run, takeover := false, reread := none,
             queue := if run then modAt x.queue 0 (fun j => { j with spliced := true }) else x.queue }
  let s := match lowestSpare s with
    | some m => giveLane s l m
    | none => shareLane s n l
  let s := bump s R.STR_SPLICE_CNT_COUNT
  let s := put (put s R.STR_SPLICE_LAST_LANE l) R.STR_SPLICE_LAST_FROM n
  put (put s R.STR_SPLICE_LAST_TO (get s (R.STR_LANE_MAP_STRAND l))) R.STR_SPLICE_LAST_CAUSE cause

/-- Step 3 of R262: the strand is isolated. One that acknowledges is reset; rows that its commit engine holds may still issue writes,
which the epoch gate drops (R263). -/
def isolate (s : State) (n : Nat) (unack : Bool) : State :=
  let x := strandOf s n
  let s := if unack then s
    else modStrand (resetStrand s n) n fun z =>
      { z with staged := x.staged.filter (·.handed), lane := x.lane, epoch := x.epoch }
  put (setStrState s n strQuar) (R.STR_STATE_UNACK n) (b2n unack)

/-- SPLICE (R262, R265): the fray declared first. A running SELFTEST job of the strand ends with it. -/
def splice (s : State) (unack : Bool) : State :=
  match s.strs.frays with
  | [] => s
  | (n, cause) :: rest =>
    let s := { s with strs := { s.strs with frays := rest } }
    let s := if laneTest s n then (match jobOf s n with | some (l, _) => endJob s n l jsAborted 0xFFFF 0 0 | none => s) else s
    let lanes := (List.range 18).filter fun l => laneStrand s l == some n
    let s := lanes.foldl (fun s l => passLane s n l cause) s
    overcommitSet (isolate s n unack)

/-- R262 step 5: release every run list entry after the one that holds OUT_BUF, writing 0xFFFF_FFFF in its place. -/
def trimRun (s : State) (list outBuf : Nat) : State :=
  let es := runAll s list
  let keep := if outBuf = listEnd then 0 else (es.takeWhile (· != outBuf)).length + 1
  ((List.range es.length).drop keep).foldl (fun s i =>
    fsWrite (poolRelease s (nth es i 0) none).2 (list + 4 * i) (leBytes 4 listEnd)) s

/-- The job's descriptor as a spare reads it again (R262, R298), from SSM, from the frame store, or from host memory once that read has
returned; none before. -/
def rereadJob (s : State) (l : Nat) (j : Job) : Option Job :=
  if j.space = 0 then some { j with desc := ssmRead s j.addr 128 }
  else if j.space = 1 then some { j with desc := fsRead s j.addr 128 }
  else (laneOf s l).reread.map fun b => { j with desc := b }

/-- Is the read of lane l's descriptor in host memory under way? -/
def rereading (s : State) (l : Nat) : Bool :=
  s.host.ops.any fun o => !o.dead && match o.req with | .jobDesc _ k => k == l | _ => false

/-- Go on with the running job of lane l on strand n: its descriptor, layout, rate descriptor and tables have been read again, and the
band is restored (R122, R190, R262 step 5). -/
def resumeJob (s : State) (n l : Nat) (j : Job) : State :=
  let st := headStatus s l j true
  let d := j.desc
  let s := modLane s l fun x => { x with running := true, restore := false, reread := none, queue := modAt x.queue 0 fun _ => j }
  let s := modStrand s n fun x => { x with lane := some l, last := l, since := s.clk, epoch := get s (R.STR_LANE_MAP_EPOCH l),
                                            ues := [], readErr := [], preDone := false }
  let s := showJob s n (jOpc d) j.part (jTag d)
  if st ≠ jsOK then endJob s n l st 0xFFFF 0 0
  else if jOpc d = opEncRow ∧ proxyCut s (jobFrame s j (fsRead s (jLayout d) 64)) then endJob s n l jsAborted 0xFFFF 0 0
  else if jOpc d = opEncRow ∨ jOpc d = opDecRow then
    let y := fsRead s (jLayout d) 64
    let r := fsRead s (jRate d) 64
    let f := jobFrame s j y
    let (b, bad) := restoreBand s d y f (countFor s l f (jBand d)) (laneOf s l).ckEpoch (jobRc s d)
    let tab := if jOpc d = opEncRow then some (f, weightsOf s r (lyRows y), fsRead s (rtRois r) (10 * rtNroi r)) else none
    let s := modStrand s n fun x => { x with band := some b, tab := tab }
    let s := if bad then fault s fltCkptBad else s
    if jOpc d = opEncRow then trimRun s (jOut d) b.outBuf else s
  else s

/-- SPARE_RESTORE (R122, R262 step 5): the strand that took a lane over reads the job again, restores the band and goes on. A
descriptor in host memory is read through its window first. -/
def restoreLane (s : State) (n : Nat) : State :=
  if strState s n = strActive ∧ strandFree s n then
    match firstIdx (fun l => laneStrand s l == some n && (laneOf s l).restore) 0 18 with
    | none => s
    | some l =>
      match (laneOf s l).queue.head? with
      | none => modLane s l fun x => { x with restore := false, gap := false }
      | some j =>
        match rereadJob s l j with
        | some j => resumeJob s n l j
        | none => if rereading s l then s else startOp s j.part (.jobDesc j.seq l) j.addr 128 false []
  else s

/-- The read of lane l's descriptor has returned: the strand that serves the lane goes on. A read that fails leaves the descriptor as
it was first read (log entry 41). -/
def descReread (s : State) (l : Nat) (data : Option (List Byte)) : State :=
  match (laneOf s l).queue.head? with
  | none => s
  | some j =>
    if ¬ (laneOf s l).restore then s
    else
      let s := modLane s l fun x => { x with reread := some (data.getD j.desc) }
      match laneStrand s l with
      | some n => restoreLane s n
      | none => s

/-! ## Lane assignment (R236, R267, R268) -/

/-- R268: strands that were readmitted become SPARE. -/
def readyStrands (s : State) : State :=
  let r := s.strs.ready
  r.foldl (fun s n => setStrState s n strSpare) { s with strs := { s.strs with ready := [] } }

/-- Lane l goes to strand m at a boundary without a new epoch; a running job goes on there from its checkpoint. -/
def moveLane (s : State) (l m : Nat) : State :=
  let old := laneStrand s l
  if old = some m ∧ ¬ isSet s (R.STR_LANE_MAP_SHARED l) then s
  else
    let s := match old with
      | some n => if (strandOf s n).lane = some l then freeStrand s n else s
      | none => s
    let s := modLane s l fun x => { x with restore := x.running || x.restore, running := false, reread := none }
    giveLane s l m

/-- R236: lane L receives the (L+1)-th lowest-numbered healthy strand, strands left over become SPARE, a lane without one is shared. -/
def assignLanes (s : State) : State :=
  let nl := 18 - get s R.STR_POOL_SPARES
  let ok := (List.range 18).filter fun n => strState s n == strSpare || strState s n == strActive
  let s := put { s with strs := { s.strs with assign := false } } R.STR_POOL_STAT_LANES nl
  let s := forN 18 (fun l s =>
    if l < nl then (match ok[l]? with | some m => moveLane s l m | none => s)
    else clrF (clrF s (R.STR_LANE_MAP_VALID l)) (R.STR_LANE_MAP_SHARED l)) s
  let s := (ok.drop nl).foldl (fun s n =>
    if strState s n = strActive then
      setStrState (modStrand (freeStrand s n) n fun x => { x with band := none }) n strSpare
    else s) s
  forN 18 (fun l s => if l < nl ∧ ok.length ≤ l then shareLane (setF s (R.STR_LANE_MAP_VALID l)) 18 l else s) s

/-- The strand actions of a tick boundary: readmitted strands become SPARE, lanes are assigned when they have to be, and a shared lane
takes a spare of its own. -/
def boundaryLanes (s : State) : State :=
  let s := readyStrands s
  let s := if s.strs.assign then assignLanes s else s
  let s := forN 18 (fun l s =>
    if isSet s (R.STR_LANE_MAP_SHARED l) then
      (match lowestSpare s with | some m => moveLane s l m | none => s)
    else s) s
  put s R.STR_POOL_STAT_DEGRADED (b2n ((List.range 18).any fun l => isSet s (R.STR_LANE_MAP_SHARED l)))

/-! ## P0's requests (R238, R239, R255, R268, R271, R273) -/

/-- STR_RESET (R259, R273): refused for an ACTIVE strand; a running job completes with ABORTED. -/
def strReset (s : State) (n : Nat) (v : Nat) : State :=
  if ¬ bitAt v 0 then s
  else if strState s n = strActive then setF s R.STR_POOL_STAT_CFGERR
  else resetStrand (abandonTest s n) n

/-- STR_QUAR_SET (R239): only a SPARE strand is taken. -/
def strQuarSet (s : State) (v : Nat) : State :=
  let n := v % 32
  if n < 18 ∧ strState s n = strSpare then setStrState (abandonTest s n) n strQuar else setF s R.STR_POOL_STAT_CFGERR

/-- STR_READMIT (R268). -/
def strReadmit (s : State) (v : Nat) : State :=
  let n := v % 32
  if 18 ≤ n then put s R.STR_REQ_STAT_RCODE 4
  else if strState s n ≠ strQuar then put s R.STR_REQ_STAT_RCODE 1
  else if ¬ isSet s (R.STR_TEST_STAT_AFTERQ n) then put s R.STR_REQ_STAT_RCODE 2
  else if (strandOf s n).test ≠ 0 then put s R.STR_REQ_STAT_RCODE 3
  else
    let s := put (resetStrand s n) R.STR_QUAR_MASK_MASK (withBit (get s R.STR_QUAR_MASK_MASK) n false)
    put { s with strs := { s.strs with ready := if s.strs.ready.contains n then s.strs.ready else s.strs.ready ++ [n] } }
      R.STR_REQ_STAT_RCODE 0

/-- STR_TEST_REQ (R271). -/
def strTestReq (s : State) (v : Nat) : State :=
  let n := v % 32
  let st := strState s n
  if 18 ≤ n then put s R.STR_REQ_STAT_TCODE 4
  else if st = strQuar then put s R.STR_REQ_STAT_TCODE 2
  else if st = strTesting then put s R.STR_REQ_STAT_TCODE 3
  else if st = strSpare then put (if (strandOf s n).test = 0 then beginTest s n 2 else s) R.STR_REQ_STAT_TCODE 0
  else if (lowestSpare s).isNone then put s R.STR_REQ_STAT_TCODE 1
  else
    let l := get s (R.STR_STATE_LANE n)
    let s := put (modLane s l fun x => { x with takeover := true }) R.STR_REQ_STAT_TCODE 0
    takeoverDue s n

/-- Are the writes of R238 and R255 accepted in the mode in force? -/
def strWritesOk (s : State) : Bool := modeOf s == modeIDLE || modeOf s == modePREVIEW || modeOf s == modeMAINT

/-- STR_POOL_WRITE (R238): SPARES takes effect at the next boundary. -/
def strPoolWrite (s : State) (v : Nat) : State :=
  if strWritesOk s && v % 8 ≤ 4 then
    let s := { s with strs := { s.strs with assign := true } }
    put (put s R.STR_POOL_SPARES (v % 8)) R.STR_POOL_TESTPER (bits v 8 8)
  else setF s R.STR_POOL_STAT_CFGERR

/-- OS_DATA2_WRITE (R255): the word is stored and ADDR advances. -/
def osData2 (s : State) (v : Nat) : State :=
  if strWritesOk s then
    let a := get s R.STR_OS_ADDR_ADDR
    let w : MicroWord := BitVec.ofNat 96 (get s R.STR_OS_DATA0_DATA + 2 ^ 32 * get s R.STR_OS_DATA1_DATA + 2 ^ 64 * v)
    put { s with strs := { s.strs with store := insertKey s.strs.store a w } } R.STR_OS_ADDR_ADDR (a + 1)
  else setF s R.STR_POOL_STAT_CFGERR

end Sys2Proof.Machine
end

