-- ==== Sys2Proof/Machine/MagCore.lean ====
section
/-! DEFINITION. The magazine ports' shared operations: the blocks of the spool (R436 to R445), NVMe commands and their creation
(R430, R431, R457), sessions, records, index blocks, clips and their whips, ready footers. -/

namespace Sys2Proof.Machine

/-! ## Access to the nested state -/

def magOf (s : State) (n : Nat) : MagSt := nth s.mags.port n MagSt.init

/-- Change port n. -/
def modMag (s : State) (n : Nat) (f : MagSt → MagSt) : State :=
  { s with mags := { s.mags with port := modAt s.mags.port n f } }

/-- MAG_STAT.STATE of R467. -/
def mgOff : Nat := 0
def mgTraining : Nat := 1
def mgReady : Nat := 2
def mgSession : Nat := 3
def mgLost : Nat := 4
def mgDropped : Nat := 5
def mgFailed : Nat := 6

def magState (s : State) (n : Nat) : Nat := get s (R.MAG_STAT_STATE n)

/-- Does a session hold port n? -/
def hasSession (s : State) (n : Nat) : Bool := (magOf s n).sess.isSome

/-- The session of port n, with a default that is never used where one is open. -/
def sessOf (s : State) (n : Nat) : Session :=
  (magOf s n).sess.getD { sn := [], nsze := 0, gen := 0, serial := [], tick := 0, dir := [], map := [] }

/-- Change the session of port n. -/
def modSess (s : State) (n : Nat) (f : Session → Session) : State := modMag s n fun m => { m with sess := m.sess.map f }

/-- Hub source j of port n (R468). -/
def magSrc (n j : Nat) : Nat := 0x060 + 8 * n + j

/-- Is a belay core active (R497)? -/
def belayUp (s : State) : Bool := get s R.FLT_BLY_STAT_B0 == 0 || get s R.FLT_BLY_STAT_B1 == 0

/-! ## Blocks of the spool (R436 to R445) -/

/-- A byte string with bytes placed at an offset. -/
def placeB (b : List Byte) (off : Nat) (v : List Byte) : List Byte := b.take off ++ v ++ b.drop (off + v.length)

/-- n zero bytes with fields placed. -/
def buildB (n : Nat) (fs : List (Nat × List Byte)) : List Byte := fs.foldl (fun b f => placeB b f.1 f.2) (List.replicate n 0)

/-- A block whose last four bytes take the CRC-32C of the bytes before them. -/
def sealB (b : List Byte) : List Byte := placeB b (b.length - 4) (beBytes 4 (crc32c (b.take (b.length - 4))))

/-- A big-endian field. -/
def beAt (b : List Byte) (off n : Nat) : Nat := beVal (sliceBytes b off n)

/-- Does a block's CRC hold? -/
def crcGood (b : List Byte) : Bool := beAt b (b.length - 4) 4 == crc32c (b.take (b.length - 4))

/-- R437: allocation units of a namespace of n blocks, floor ((n − 4,097) / 65,536), and the first LBA of one. -/
def ausOf (n : Nat) : Nat := (61439 + n) / 65536 - 1
def auLba (u : Nat) : Nat := 4096 + 65536 * u
def auBlocks : Nat := 65536

/-- Marks of the extent map (R441). -/
def auFree : Nat := 0xFFFFFFFF
def auNone : Nat := 0xFFFFFFFE

/-- AUs of a session that are free. -/
def freeAus (x : Session) : Nat := ausOf x.nsze - x.map.length

/-- R438: a header block. -/
def hdrBlock (x : Session) (dirty : Bool) : List Byte :=
  sealB (buildB 4096 [(0, [0x5A, 0x53, 0x54, 0x53, 0x50, 0x4F, 0x4F, 0x4C]), (8, beBytes 2 1), (0x0A, beBytes 2 0x1000),
    (0x10, beBytes 8 x.gen), (0x18, beBytes 8 x.nsze), (0x20, beBytes 4 (ausOf x.nsze)), (0x24, beBytes 4 65536),
    (0x28, beBytes 8 1), (0x30, beBytes 4 65536), (0x38, beBytes 8 2049), (0x40, beBytes 4 131072), (0x48, beBytes 8 4096),
    (0x50, beBytes 4 (freeAus x)), (0x54, beBytes 4 x.dir.length), (0x58, sliceBytes x.serial 0 20),
    (0x70, beBytes 8 x.tick), (0x78, beBytes 1 (b2n dirty))])

/-- R439: is a header copy valid? -/
def hdrGood (b : List Byte) : Bool := beAt b 0 8 == 0x5A535453504F4F4C && beAt b 8 2 == 1 && crcGood b

/-- R440: a directory entry. -/
def dirEntry (state : Nat) (proxy : Bool) (member k owner : Nat) (alaz : Bool) (stripe first last au aus footer frames : Nat) :
    List Byte :=
  sealB (buildB 128 [(0, beBytes 1 state), (1, beBytes 1 (b2n proxy)), (2, beBytes 1 member), (3, beBytes 1 k), (4, beBytes 1 owner),
    (5, beBytes 1 (b2n alaz)), (8, beBytes 8 stripe), (0x10, beBytes 8 first), (0x18, beBytes 8 last), (0x20, beBytes 4 au),
    (0x24, beBytes 4 aus), (0x28, beBytes 8 footer), (0x30, beBytes 4 frames)])

/-- A free directory entry: zero, with its CRC. -/
def freeEntry : List Byte := sealB (List.replicate 128 0)

/-- Block i of the clip directory, from LBA 1 on. -/
def dirBlock (x : Session) (i : Nat) : List Byte :=
  (List.range 32).flatMap fun j => (lookupKey x.dir (32 * i + j)).getD freeEntry

/-- Extent map entry u (R441). -/
def mapEntry (x : Session) (u : Nat) : List Byte :=
  if ausOf x.nsze ≤ u then beBytes 4 auNone ++ beBytes 4 auFree
  else match lookupKey x.map u with
    | none => beBytes 4 auFree ++ beBytes 4 auFree
    | some (o, nx) => beBytes 4 o ++ beBytes 4 nx

/-- Block i of the extent map, from LBA 2,049 on. -/
def mapBlock (x : Session) (i : Nat) : List Byte := (List.range 512).flatMap fun j => mapEntry x (512 * i + j)

/-- Record FLAGS of R442. -/
def flLate : Nat := 1
def flDamaged : Nat := 2
def flTrunc : Nat := 4
def flAbsent : Nat := 8
def flOvf : Nat := 16
def flRehomed : Nat := 32
def flDropped : Nat := 64

/-- R444: an index block. -/
def idxBlock (num member : Nat) (prev : Option Nat) (es : List IdxEnt) : List Byte :=
  sealB (buildB 4096 ([(0, beBytes 4 0x5A494458), (4, beBytes 4 num), (8, beBytes 4 member), (0x0C, beBytes 4 es.length),
      (0x10, beBytes 8 (prev.getD (2 ^ 64 - 1)))] ++
    (List.range es.length).map fun i =>
      match es[i]? with
      | none => (0, [])
      | some e => (0x20 + 24 * i, beBytes 8 e.tick ++ beBytes 8 e.lba ++ beBytes 4 e.blocks ++ beBytes 1 e.flags ++
          beBytes 1 (b2n e.late) ++ beBytes 2 0)))

/-- Totals of a list of entries: records, gaps, late, damaged, overflow (R445). -/
def entCounts (es : List IdxEnt) : List Nat :=
  [es.length, (es.filter fun e => bitAt e.flags 3 || bitAt e.flags 6).length, (es.filter fun e => bitAt e.flags 0 || e.late).length,
   (es.filter fun e => bitAt e.flags 1 || bitAt e.flags 2).length, (es.filter fun e => bitAt e.flags 4).length]

/-- Sums of totals. -/
def addCounts (a b : List Nat) : List Nat := (List.range 5).map fun i => nth a i 0 + nth b i 0

/-- A stripe history entry: FROM_TICK, member mask, K. -/
def histBytes (h : Nat × Nat × Nat) : List Byte := beBytes 8 h.1 ++ beBytes 1 h.2.1 ++ beBytes 1 h.2.2

/-- R445: a footer block. -/
def footBlock (num member k : Nat) (proxy alaz : Bool) (close stripe first last : Nat) (counts : List Nat) (lastIx : Option Nat)
    (endLba : Nat) (hist : List (Nat × Nat × Nat)) (sns : List (List Byte)) : List Byte :=
  sealB (buildB 4096 ([(0, beBytes 4 0x5A465452), (4, beBytes 4 num), (8, beBytes 1 member), (9, beBytes 1 k),
      (0x0A, beBytes 1 (b2n proxy)), (0x0B, beBytes 1 (b2n alaz)), (0x0C, beBytes 1 close), (0x10, beBytes 8 stripe),
      (0x18, beBytes 8 first), (0x20, beBytes 8 last), (0x28, beBytes 4 (nth counts 0 0)), (0x2C, beBytes 4 (nth counts 1 0)),
      (0x30, beBytes 4 (nth counts 2 0)), (0x34, beBytes 4 (nth counts 3 0)), (0x38, beBytes 4 (nth counts 4 0)),
      (0x40, beBytes 8 (lastIx.getD (2 ^ 64 - 1))), (0x48, beBytes 8 endLba), (0x50, beBytes 1 (min hist.length 4)),
      (0x58, (hist.take 4).flatMap histBytes)] ++
    (List.range 4).map fun i => (0x80 + 20 * i, sliceBytes (nth sns i []) 0 20)))

/-- R442: a record header block. -/
def recBlock (c : Clip) (member : Nat) (r : RecReq) (late : Bool) (alaz : Bool) : List Byte :=
  let fl := if late then r.flags ||| flLate else r.flags
  let mb := ceilDiv r.metaB.length 4096
  let eb := ceilDiv r.ess.length 4096
  sealB (buildB 4096 ([(0, beBytes 4 0x5A46524D), (4, beBytes 2 1), (6, beBytes 1 (b2n r.gap)), (7, beBytes 1 fl), (8, beBytes 8 r.tick),
      (0x10, beBytes 8 c.stripe), (0x18, beBytes 4 c.num), (0x1C, beBytes 1 member), (0x1D, beBytes 1 r.k),
      (0x1E, beBytes 1 (b2n alaz)), (0x1F, beBytes 1 r.bands.length), (0x20, beBytes 4 mb), (0x24, beBytes 4 eb),
      (0x28, beBytes 8 r.ess.length), (0x30, beBytes 4 (crc32c r.ess))] ++
    (List.range r.bands.length).map fun i => (0x38 + 4 * i, beBytes 4 (nth r.bands i 0))))

/-- Is a block a valid record header? -/
def recGood (b : List Byte) : Bool := beAt b 0 4 == 0x5A46524D && beAt b 4 2 == 1 && crcGood b
/-- META_BLOCKS and ESS_BLOCKS of a record header. -/
def recMeta (b : List Byte) : Nat := beAt b 0x20 4
def recEss (b : List Byte) : Nat := beAt b 0x24 4

/-- Zero bytes up to a whole number of blocks. -/
def padBlocks (b : List Byte) : List Byte := b ++ List.replicate (4096 * ceilDiv b.length 4096 - b.length) 0

/-! ## Commands (R430, R431) -/

/-- Blocks of the longest command: min(MDTS, 1 MiB); byte 77 of Identify Controller is MDTS (log entry 42). -/
def maxBlocks (ctrl : List Byte) : Nat := if leAt ctrl 77 1 = 0 then 256 else min (2 ^ leAt ctrl 77 1) 256

/-- R431: blocks of the next command of a transfer: the greatest power of two that keeps within the limit and to which its LBA is
aligned. -/
def chunkLen (m lba left : Nat) : Nat :=
  2 ^ ((lastIdx (fun e => 2 ^ e ≤ m && 2 ^ e ≤ left && lba % 2 ^ e == 0) 9).getD 0)

/-- A transfer split into commands. -/
def splitXfer (m q : Nat) (kind : NvKind) (lba : Nat) (data : List Byte) : Nat → Nat → List NvReq
  | 0, _ => []
  | _, 0 => []
  | fuel + 1, left =>
    let k := chunkLen m lba left
    { q := q, kind := kind, lba := lba, blocks := k, data := data.take (4096 * k) } ::
      splitXfer m q kind (lba + k) (data.drop (4096 * k)) fuel (left - k)

/-- Read n blocks from an LBA through queue q of port p. -/
def readReqs (s : State) (p q lba n : Nat) : List NvReq := splitXfer (maxBlocks (magOf s p).ctrl) q .read lba [] n n

/-- Write whole blocks from an LBA on. -/
def writeReqs (s : State) (p q lba : Nat) (data : List Byte) : List NvReq :=
  splitXfer (maxBlocks (magOf s p).ctrl) q .write lba data (data.length / 4096) (data.length / 4096)

/-- An admin command. -/
def adminReq (k : NvKind) (arg : Nat) : NvReq := { q := 8, kind := k, lba := arg, blocks := 0, data := [] }

/-- R457: 1 MB/s is one 1,228,800th KiB in each cycle. -/
def creditUnit : Nat := 1228800

/-- Does queue q of a port hold a command that is not issued? -/
def queueHolds (m : MagSt) (q : Nat) : Bool := m.cmds.any fun c => c.home == q && c.q == q && c.st == 0

/-- The credit of queue q at the present cycle. -/
def accrueQ (s : State) (n : Nat) (m : MagSt) (q : Nat) : Int :=
  let c := nth m.credit q 0
  if 2 ≤ q && queueHolds m q then
    max c (min (c + ((get s (R.MAG_Q_SHAPE_RATE n q) * (s.clk - m.creditAt) : Nat) : Int))
      ((creditUnit * get s (R.MAG_Q_BURST_KIB n q) : Nat) : Int))
  else c

/-- R457: the weighted queues' credits rise to the present cycle. -/
def magAccrue (s : State) (n : Nat) : State :=
  modMag s n fun m =>
    { m with creditAt := s.clk, credit := (List.range 8).map fun q => accrueQ s n m q }

/-- Commands that queue q holds, queued and outstanding. -/
def queueDepth (m : MagSt) (q : Nat) : Nat := (m.cmds.filter fun c => c.q == q).length

/-- Commands outstanding. -/
def outCount (m : MagSt) : Nat := (m.cmds.filter fun c => c.st == 1 || c.st == 2).length

/-- A command enters its queue; an admin command is issued at once. -/
def addCmd (s : State) (n op : Nat) (r : NvReq) : State :=
  let s := magAccrue s n
  let m := magOf s n
  let c : NvCmd := { cid := m.nextCid, op := op, q := r.q, home := r.q, kind := r.kind, lba := r.lba, blocks := r.blocks, fua := false,
                     data := r.data, entered := s.clk, issued := s.clk, abortAt := 0, order := m.nextOrd, tries := 0,
                     st := if r.q = 8 then 1 else 0 }
  let s := modMag s n fun m => { m with cmds := m.cmds ++ [c], nextCid := m.nextCid + 1, nextOrd := m.nextOrd + b2n (r.q = 8) }
  if 2 ≤ r.q ∧ r.q ≤ 7 then putMax s (R.MAG_Q_HWM_DEPTH n r.q) (queueDepth (magOf s n) r.q) else s

/-- Create an operation on port n. -/
def addOp (s : State) (n : Nat) (kind : MagKind) (steps : List MagStep) (code : Nat) : State :=
  let o : MagOp := { id := s.mags.nextOp, kind := kind, steps := steps, wait := 0, got := [], begun := false, held := magState s n == mgLost,
                     fua := false, code := code, count := 0 }
  modMag { s with mags := { s.mags with nextOp := s.mags.nextOp + 1 } } n fun m => { m with ops := m.ops ++ [o] }

/-- Change operation id of port n. -/
def modMop (s : State) (n id : Nat) (f : MagOp → MagOp) : State :=
  modMag s n fun m => { m with ops := m.ops.map fun o => if o.id = id then f o else o }

/-- Remove operation id of port n. -/
def dropMop (s : State) (n id : Nat) : State := modMag s n fun m => { m with ops := m.ops.filter fun o => o.id != id }

def findMop (s : State) (n id : Nat) : Option MagOp := (magOf s n).ops.find? fun o => o.id == id

/-- Put steps in front of an operation's. -/
def prepend (s : State) (n id : Nat) (l : List MagStep) : State := modMop s n id fun o => { o with steps := l ++ o.steps }

/-- The data read, in order of LBA. -/
def gotBytes (o : MagOp) : List Byte := (o.got.foldl (fun l g => insertKey l g.1 g.2) []).flatMap (·.2)

/-! ## Header updates (R439) -/

/-- A header update: GEN advances, and copy A then copy B take the same content. -/
def headerSteps (s : State) (n : Nat) (dirty : Bool) : State × List MagStep :=
  let s := modSess s n fun x => { x with gen := x.gen + 1 }
  let x := sessOf s n
  let b := hdrBlock x dirty
  (s, [.cmds [{ q := 0, kind := .write, lba := 0, blocks := 1, data := b }],
       .cmds [{ q := 0, kind := .write, lba := x.nsze - 1, blocks := 1, data := b }]])

/-- The write of the directory block that holds entry k. -/
def dirWrite (s : State) (n k : Nat) : MagStep :=
  .cmds [{ q := 0, kind := .write, lba := 1 + k / 32, blocks := 1, data := dirBlock (sessOf s n) (k / 32) }]

/-- The writes of the map blocks that hold some AUs. -/
def mapWrites (s : State) (n : Nat) (aus : List Nat) : MagStep :=
  .cmds (((aus.map (· / 512)).eraseDups).map fun i =>
    { q := 0, kind := .write, lba := 2049 + i, blocks := 1, data := mapBlock (sessOf s n) i })

/-! ## Completion of spool operations (R451, R453) -/

/-- A spool operation of a partition that has been reset completes without a record (R455). -/
def spDead (sp : SpoolReq) : Bool := 8 ≤ sp.q

def spOp (d : List Byte) : Nat := leAt d 0 1
def spFlags (d : List Byte) : Nat := leAt d 1 1
def spTag (d : List Byte) : Nat := leAt d 2 2
def spMetaLen (d : List Byte) : Nat := leAt d 4 4
def spTick (d : List Byte) : Nat := leAt d 8 8
def spRuns (d : List Byte) : Nat := leAt d 0x10 8
def spLayout (d : List Byte) : Nat := leAt d 0x18 8
def spRate (d : List Byte) : Nat := leAt d 0x20 8
def spMeta (d : List Byte) : Nat := leAt d 0x28 8
def spProxy (d : List Byte) : Bool := bitAt (spFlags d) 1
/-- Clip number or block count, and port, of READ_FRAME, READ_BLOCKS and TRIM. -/
def spCount (d : List Byte) : Nat := bits (spRate d) 0 32
def spPort (d : List Byte) : Nat := bits (spRate d) 32 8

/-- FLAGS of a completion: HELD, REHOMED, FUA, GAP. -/
def spDoneFlags (held rehomed fua gap : Bool) : Nat := 1 + 2 * b2n held + 4 * b2n rehomed + 8 * b2n fua + 16 * b2n gap

/-- The completion of a spool operation is written in its descriptor (R451). -/
def spoolRecord (s : State) (sp : SpoolReq) (status flags member bytes : Nat) : State :=
  writeRecord s sp.part sp.seq sp.space (sp.addr + 0x30)
    (leBytes 1 status ++ leBytes 1 flags ++ leBytes 2 (spTag sp.desc) ++ leBytes 4 member ++ leBytes 8 bytes)

/-- A spool operation completes: its completion is written, its tag posted, and JOB_DONE raised when it asks for it. -/
def spoolDone (s : State) (sp : SpoolReq) (status flags member bytes : Nat) : State :=
  if spDead sp then s
  else
    let s := spoolRecord s sp status flags member bytes
    let s := if sp.dup then s else tagPost s sp.part (spTag sp.desc)
    if bitAt (spFlags sp.desc) 0 then raiseP s sp.part srcJobDone else s

/-- Statuses of R453. -/
def spNoSession : Nat := 0x30
def spNoClip : Nat := 0x31
def spNotCoded : Nat := 0x32
def spNotFound : Nat := 0x33
def spRange : Nat := 0x34
def spDropped : Nat := 0x35

/-! ## Clips -/

def findClipId (s : State) (id : Nat) : Option Clip := s.mags.clips.find? fun c => c.id == id

/-- Change clip id. -/
def modClip (s : State) (id : Nat) (f : Clip → Clip) : State :=
  { s with mags := { s.mags with clips := s.mags.clips.map fun c => if c.id = id then f c else c } }

/-- Change what a clip has on port n. -/
def modMem (s : State) (id n : Nat) (f : ClipMem → ClipMem) : State :=
  modClip s id fun c => { c with mem := c.mem.map fun m => if m.port = n then f m else m }

def memOf (c : Clip) (n : Nat) : Option ClipMem := c.mem.find? fun m => m.port == n

/-- A port's position among the members at open. -/
def memberOf (c : Clip) (n : Nat) : Nat := c.ports.idxOf n

/-- The LBA of a stream position, and the stream position of an LBA. -/
def streamLba (chain : List Nat) (pos : Nat) : Nat := auLba (nth chain (pos / auBlocks) 0) + pos % auBlocks
def streamPos (chain : List Nat) (lba : Nat) : Nat := auBlocks * chain.idxOf ((lba - 4096) / auBlocks) + (lba - 4096) % auBlocks

/-- Writes of data at a stream position, cut where an allocation unit ends (R441). -/
def streamWrites (s : State) (n q : Nat) (chain : List Nat) : Nat → Nat → List Byte → List NvReq
  | 0, _, _ => []
  | fuel + 1, pos, data =>
    if data.isEmpty then []
    else
      let room := 4096 * (auBlocks - pos % auBlocks)
      writeReqs s n q (streamLba chain pos) (data.take room) ++
        streamWrites s n q chain fuel (pos + min room data.length / 4096) (data.drop room)

/-- R464, R467: the free AUs show in MAG_SPACE, and LOWSPACE sets once they fall below the level. -/
def showSpace (s : State) (n : Nat) : State :=
  let f := freeAus (sessOf s n)
  let s := put s (R.MAG_SPACE_FREE n) f
  if f < get s (R.MAG_CFG2_LOWAU n) ∧ isSet s (R.MAG_STAT_LOWSPACE n) = false then
    raise (setF s (R.MAG_STAT_LOWSPACE n)) (magSrc n 7)
  else s

/-- The lowest-numbered free AU (R441). -/
def lowestAu (x : Session) : Option Nat := firstIdx (fun u => (lookupKey x.map u).isNone) 0 (ausOf x.nsze)

/-- R441: extend a chain of clip number num by one AU: the new chain, or none when no AU is free. -/
def takeAu (s : State) (n num : Nat) (chain : List Nat) : Option (Nat × State) :=
  (lowestAu (sessOf s n)).map fun u =>
    (u, modSess s n fun x =>
      let m := match chain.getLast? with
        | none => x.map
        | some l => insertKey x.map l (num, u)
      { x with map := insertKey m u (num, auFree) })

/-- Extend a chain until it holds `need` blocks: the chain, the AUs added, and whether there were enough. -/
def extendChain (n num need : Nat) : Nat → State → List Nat → List Nat → State × List Nat × List Nat × Bool
  | 0, s, chain, new => (s, chain, new, need ≤ auBlocks * chain.length)
  | fuel + 1, s, chain, new =>
    if need ≤ auBlocks * chain.length then (s, chain, new, true)
    else match takeAu s n num chain with
      | none => (s, chain, new, false)
      | some (u, s) => extendChain n num need fuel s (chain ++ [u]) (new ++ [u])

/-- R464: port n is to be dropped at the next boundary. -/
def dropDue (s : State) (n why : Nat) : State := modMag s n fun m => if m.drop = 0 then { m with drop := why } else m

/-- Write the map entries of AUs just added, with their predecessor's (R441). -/
def writeMap (s : State) (n : Nat) (chain new : List Nat) : State :=
  if new.isEmpty then s
  else
    let prev := (nth chain (chain.length - new.length - 1) (nth new 0 0))
    let s := modMag s n fun m => { m with mapPend := m.mapPend ++ new }
    addOp (showSpace s n) n .mapWrite [mapWrites s n (prev :: new), .act (.mapDone new)] 7

/-- The queue of a clip's records (R452). -/
def clipQueue (c : Clip) : Nat := if c.proxy then 3 else 2

/-- Place a record of clip c on port n (R441, R442, R447, R498): its stream blocks, an index slot after every 96th record, and the
operation that writes it. A record re-homed to a member whose whip has begun makes it begin again. -/
def placeRecord (s : State) (c : Clip) (n : Nat) (r : RecReq) : State :=
  match memOf c n with
  | none => s
  | some m =>
    let blocks := 1 + ceilDiv r.metaB.length 4096 + ceilDiv r.ess.length 4096
    let ix := (m.ents.length + 1) % 96 == 0
    let (s, chain, new, ok) := extendChain n c.num (m.next + blocks + b2n ix + 2) (blocks / auBlocks + 2) s m.chain []
    let s := writeMap s n chain new
    let s := if ok then s else dropDue (setF s (R.MAG_STAT_LOWSPACE n)) n 4
    let lba := streamLba chain m.next
    let e : IdxEnt := { tick := r.tick, lba := lba, blocks := blocks, flags := r.flags, late := false, done := false }
    let s := modMem s c.id n fun m => { m with chain := chain, ents := m.ents ++ [e], next := m.next + blocks + b2n ix,
                                               idxPos := if ix then m.idxPos ++ [m.next + blocks] else m.idxPos,
                                               phase := if m.phase = 1 ∨ m.phase = 2 then 0 else m.phase }
    let r := { r with pos := m.next, lba := lba, blocks := blocks }
    if ok then
      let aus := (List.range (blocks / auBlocks + 2)).map fun i => nth chain (m.next / auBlocks + i) 0
      addOp s n (.record r)
        [.gate aus, .cmds (streamWrites s n (clipQueue c) chain (blocks + 1) (m.next + 1) (padBlocks r.metaB ++ padBlocks r.ess)),
         .act .recHeader, .act .recDone] 0
    else addOp s n (.record r) [.host] 0

/-! ## Stages of a frame (R35 to R38) -/

/-- Change the pipeline entries of the frame with tick number t. -/
def modFrame (s : State) (t : Nat) (f : Frame → Frame) : State :=
  { s with intake := { s.intake with frames := s.intake.frames.map fun x => if x.tick = t then f x else x } }

def findPipe (s : State) (t : Nat) : Option Frame := s.intake.frames.find? fun x => x.tick == t

/-- Change what a clip knows of the frame with tick number t. -/
def modClipFrame (s : State) (t clip : Nat) (f : ClipFrame → ClipFrame) : State :=
  modFrame s t fun x => { x with clips := x.clips.map fun c => if c.clip = clip then f c else c }

/-- Was the frame's capture or code stage judged late (R442 LATE)? -/
def lateFrame (s : State) (t clip : Nat) : Bool :=
  match findPipe s t with
  | none => false
  | some x => x.capLate || x.clips.any fun c => c.clip == clip && c.codeLate

/-! ## Index blocks and whips (R444, R448) -/

/-- Is an operation on port n of the given kind? -/
def hasOp (s : State) (n : Nat) (p : MagKind → Bool) : Bool := (magOf s n).ops.any fun o => p o.kind

def isIndexOf (id : Nat) : MagKind → Bool
  | .index c => c == id
  | _ => false

def isRecordOf (id : Nat) : MagKind → Bool
  | .record r => r.clip == id
  | _ => false

def isWhip1Of (id : Nat) : MagKind → Bool
  | .whip1 c => c == id
  | _ => false

/-- R444: once the next 96 records have been written, their index block is written in the slot reserved for it. -/
def clipIndex (s : State) (id n : Nat) : State :=
  match findClipId s id with
  | none => s
  | some c => match memOf c n with
    | none => s
    | some m =>
      match m.idxPos with
      | [] => s
      | p :: _ =>
        if ¬ anchored s ∧ (m.ents.take 96).all (·.done) ∧ hasOp s n (isIndexOf id) = false then
          addOp s n (.index id)
            [.gate [nth m.chain (p / auBlocks) 0],
             .cmds [{ q := clipQueue c, kind := .write, lba := streamLba m.chain p, blocks := 1,
                      data := idxBlock c.num (memberOf c n) m.lastIx (m.ents.take 96) }], .act .indexDone] 0
        else s

/-- What a closing of a clip's stream on port n writes from the entries es, with the stream position after the last of them: an index
block when es is not empty, and the footer. -/
def closing (c : Clip) (m : ClipMem) (es : List IdxEnt) (pos close : Nat) : Option (Nat × List Byte) × (Nat × List Byte) :=
  let ixLba := streamLba m.chain pos
  let index := if es.isEmpty then none else some (ixLba, idxBlock c.num (memberOf c m.port) m.lastIx es)
  let fpos := if es.isEmpty then pos else pos + 1
  let flba := streamLba m.chain fpos
  (index, (flba, footBlock c.num (memberOf c m.port) c.ports.length c.proxy c.alaz close c.stripe c.stripe c.last
    (addCounts m.counts (entCounts es)) (if es.isEmpty then m.lastIx else some ixLba) flba c.hist c.sns))

/-- The position after the last of the entries es, or after the last index block, or the start. -/
def afterEnts (m : ClipMem) (es : List IdxEnt) : Nat :=
  match es.getLast? with
  | some e => streamPos m.chain e.lba + e.blocks
  | none => match m.lastIx with
    | some l => streamPos m.chain l + 1
    | none => 0

/-- The closed directory entry of a clip on a member. -/
def closedEntry (c : Clip) (m : ClipMem) (frames footer : Nat) : List Byte :=
  dirEntry 2 c.proxy (memberOf c m.port) c.ports.length c.part c.alaz c.stripe c.stripe c.last (nth m.chain 0 0) m.chain.length
    footer frames

/-- The greatest tick number of a clip's records, those on their way included. -/
def lastPlaced (c : Clip) : Nat := (c.mem.flatMap fun m => m.ents.map (·.tick)).foldl max c.last

/-- Records of a clip on a member. -/
def framesOn (m : ClipMem) : Nat := nth (addCounts m.counts (entCounts m.ents)) 0 0

/-- R448, R499: what a whip writes for a clip on a member: the index block of the records since the last one, the footer with CLOSE 0,
the directory entry. -/
def whipRec (c : Clip) (m : ClipMem) : Ready :=
  let c := { c with last := lastPlaced c }
  let (ix, ft) := closing c m m.ents m.next 0
  { clip := c.id, index := ix, foot := ft, entry := (c.num, closedEntry c m (framesOn m) ft.1) }

/-- R499: a clip's ready-footer record on port n takes the images that its whip issues. -/
def issueReady (s : State) (n : Nat) (r : Ready) : State :=
  let f (b : Bank) : Bank := { b with recs := b.recs.map fun x => if x.clip = r.clip then r else x }
  modMag s n fun m => { m with bank0 := f m.bank0, bank1 := f m.bank1 }

/-- R448 phase 1 on port n. -/
def startWhip1 (s : State) (c : Clip) (n : Nat) (m : ClipMem) : State :=
  let r := whipRec c m
  let w (x : Nat × List Byte) : NvReq := { q := 0, kind := .write, lba := x.1, blocks := 1, data := x.2 }
  let ixs := match r.index with | none => [] | some x => [MagStep.cmds [w x]]
  let s := issueReady (modMem s c.id n fun m => { m with phase := 1, footer := r.foot.1 }) n r
  let aus := [nth m.chain (m.next / auBlocks) 0, nth m.chain ((m.next + 1) / auBlocks) 0]
  addOp s n (.whip1 c.id) ([.gate aus] ++ ixs ++ [.cmds [w r.foot], .act .whip1Done]) 0

/-- R448 phase 2 on port n. -/
def startWhip2 (s : State) (c : Clip) (n : Nat) (m : ClipMem) : State :=
  let s := modSess s n fun x => { x with dir := insertKey x.dir c.num (closedEntry c m (framesOn m) m.footer) }
  let d := dirWrite s n c.num
  let (s, hs) := headerSteps s n true
  let s := modMem s c.id n fun m => { m with phase := 3 }
  addOp s n (.whip2 c.id) ([d] ++ hs ++ [.act .whip2Done]) 0

/-- May phase 1 of a clip start on a member: every record written, no index block on its way? -/
def whip1Ready (s : State) (c : Clip) (m : ClipMem) : Bool :=
  m.phase == 0 && m.ents.all (·.done) && m.idxPos.isEmpty && !hasOp s m.port (isRecordOf c.id) && !hasOp s m.port (isIndexOf c.id) &&
    !hasOp s m.port (isWhip1Of c.id)

/-- R448, R497: the belay pair moves a clip's whip on. -/
def clipProgress (s : State) (id : Nat) : State :=
  match findClipId s id with
  | none => s
  | some c =>
    if c.whip = 0 ∨ ¬ belayUp s then s
    else if c.mem.all fun m => m.phase == 4 || m.phase == 5 then
      { s with mags := { s.mags with clips := s.mags.clips.filter fun x => x.id != id } }
    else if c.mem.all fun m => m.phase == 2 || m.phase == 5 then
      c.mem.foldl (fun s m => if m.phase = 2 then startWhip2 s c m.port m else s) (modClip s id fun c => { c with whip := 2 })
    else c.mem.foldl (fun s m => if whip1Ready s c m then startWhip1 s c m.port m else s) s

/-- Every clip's whip moves on. -/
def clipsProgress (s : State) : State := (s.mags.clips.map (·.id)).foldl clipProgress s

/-- Start the whip of a clip. -/
def whipClip (s : State) (id : Nat) : State := clipProgress (modClip s id fun c => { c with whip := max c.whip 1 }) id

/-! ## Ready footers (R450, R498) -/

/-- The entries whose writes have completed, up to the first that has not, at most 96. -/
def donePart (m : ClipMem) : List IdxEnt := (m.ents.takeWhile (·.done)).take 96

/-- The ready-footer record of a clip on a member; of a whip that has begun, what it issues (R499). -/
def readyRec (c : Clip) (m : ClipMem) : Ready :=
  if 1 ≤ m.phase ∧ m.phase ≤ 3 then whipRec c m
  else
    let es := donePart m
    let (ix, ft) := closing c m es (afterEnts m es) 1
    { clip := c.id, index := ix, foot := ft,
      entry := (c.num, closedEntry c m (nth (addCounts m.counts (entCounts es)) 0 0) ft.1) }

/-- Every record of port n is renewed in the unselected bank, and the select bit flips. -/
def renewReady (s : State) (n : Nat) : State :=
  let rs := s.mags.clips.flatMap fun c => (c.mem.filter fun m => m.port == n && m.phase != 5 && m.phase != 4).map (readyRec c)
  let x := sessOf s n
  let b : Bank := { recs := rs, header := if rs.isEmpty then [] else hdrBlock { x with gen := x.gen + 1 } true }
  modMag s n fun m => if m.sel then { m with bank0 := b, sel := false } else { m with bank1 := b, sel := true }

/-- The bank selected. -/
def selBank (m : MagSt) : Bank := if m.sel then m.bank1 else m.bank0

/-- R499: the record of a clip leaves both banks. -/
def dropReady (s : State) (id n : Nat) : State :=
  let f (b : Bank) : Bank := { b with recs := b.recs.filter fun r => r.clip != id }
  modMag s n fun m => { m with bank0 := f m.bank0, bank1 := f m.bank1 }

end Sys2Proof.Machine
end

