-- ==== Sys2Proof/Machine/SbdCore.lean ====
section
/-! DEFINITION. The sideband's shared operations: transfers (R471), the identity block (R472 to R474), life (R475) and the wear
journal (R476). -/

namespace Sys2Proof.Machine

def sbdOf (s : State) (n : Nat) : SbdSt := nth s.sbd n SbdSt.init

/-- Change sideband port n. -/
def modSbd (s : State) (n : Nat) (f : SbdSt → SbdSt) : State := { s with sbd := modAt s.sbd n f }

/-- Hub source j of port n (R486). -/
def sbdSrc (n j : Nat) : Nat := 0x080 + 8 * n + j

/-- Is a magazine present (R469)? -/
def magPresent (s : State) (n : Nat) : Bool := isSet s (R.SBD_STAT_PRSNT n)

/-! ## Transfers (R471) -/

/-- Request a transfer. -/
def addXfer (s : State) (n : Nat) (use : SbdUse) (dev addr : Nat) (write : List Byte) (read : Nat) : State :=
  modSbd s n fun x => { x with xfers := x.xfers ++ [{ use := use, dev := dev, addr := addr, write := write, read := read, tries := 0 }] }

/-- The EEPROM's address. -/
def eeprom : Nat := 0x50

/-! ## Identity (R472, R473) -/

/-- The cached identity block. -/
def idBlock (s : State) (n : Nat) : List Byte := (List.range 32).flatMap fun w => leBytes 4 (get s (R.SBD_IDCACHE_BYTES n w))

def idValid (s : State) (n : Nat) : Bool := isSet s (R.SBD_STAT_IDVALID n)
def idCap (b : List Byte) : Nat := beAt b 0x20 8
def idTbw (b : List Byte) : Nat := beAt b 0x28 4
def idHoldup (b : List Byte) : Nat := beAt b 0x2C 4
def idVcut (b : List Byte) : Nat := beAt b 0x30 2
def idFixed (b : List Byte) : Nat := beAt b 0x34 4
def idBlk (b : List Byte) : Nat := beAt b 0x38 4
def idLblW (b : List Byte) : Nat := beAt b 0x3C 2
def idLblH (b : List Byte) : Nat := beAt b 0x3E 2
def idLblAddr (b : List Byte) : Nat := leAt b 0x40 1

/-- R473: is an identity block, of 128 bytes, valid? -/
def idGood (b : List Byte) : Bool :=
  beAt b 0 4 == 0x5A4D4944 && beAt b 4 2 == 1 && beAt b 0x7C 4 == crc32c (b.take 0x7C) && idHoldup b != 0 && idVcut b != 0 &&
  idBlk b != 0 && ((idLblW b == 296 && idLblH b == 128) || (idLblW b == 0 && idLblH b == 0)) && idLblAddr b != 0x50

/-- A byte string without its trailing spaces. -/
def trimSpaces (b : List Byte) : List Byte := (b.reverse.dropWhile (· == 0x20)).reverse

/-- R474: the comparison at MAG_OPEN. Without a valid identity there is no SERIAL to compare. -/
def idCompare (s : State) (n : Nat) (sn : List Byte) (nsze : Nat) : State :=
  let b := idBlock s n
  if idValid s n && (trimSpaces (sliceBytes b 8 20) != trimSpaces sn || idCap b != nsze) then
    raise (setF s (R.SBD_STAT_IDMISMATCH n)) (sbdSrc n 7)
  else s

/-! ## Life (R475) -/

/-- EU of R475; the spec states no figure for a TBW of 0, so that one is free. -/
def lifeEu (s : State) (n duw : Nat) : Nat × State :=
  let b := idBlock s n
  if ¬ idValid s n then (0, s)
  else if idTbw b = 0 then (min (freeVal s) 65535, useFree s)
  else (min (1000 * (512000 * duw) / (10 ^ 12 * idTbw b)) 65535, s)

/-- The life figures from a SMART log. -/
def lifeUpdate (s : State) (n pct duw : Nat) : State :=
  let pu := min (10 * pct) 2550
  let (eu, s) := lifeEu s n duw
  let rem := 1000 - max pu eu
  let s := put (put s (R.SBD_LIFE_PU n) pu) (R.SBD_LIFE_REMAIN n) rem
  let s := modSbd s n fun x => { x with pu := pct, duw := duw }
  if rem < 10 then
    if isSet s (R.SBD_STAT_LIFELOW n) then s
    else fault (raise (setF s (R.SBD_STAT_LIFELOW n)) (sbdSrc n 4)) (fltLifeLow n)
  else clrF s (R.SBD_STAT_LIFELOW n)

/-! ## Wear journal (R476) -/

/-- A journal entry. -/
def wearEntry (sq st puO puC tick duwO duwC : Nat) : List Byte :=
  sealB (buildB 64 [(0, beBytes 4 sq), (4, beBytes 1 st), (5, beBytes 1 puO), (6, beBytes 1 puC), (8, beBytes 8 tick),
    (0x10, beBytes 8 duwO), (0x18, beBytes 8 duwC)])

/-- The index of the newest valid entry: the one with the highest SEQ. -/
def wearNewest (es : List (List Byte)) : Option Nat :=
  (List.range es.length).foldl (fun m i =>
    if crcGood (nth es i []) && !(nth es i []).isEmpty then
      match m with
      | none => some i
      | some j => if beAt (nth es j []) 0 4 < beAt (nth es i []) 0 4 then some i else some j
    else m) none

/-- The index that a new entry takes: an invalid one first, else the one with the lowest SEQ. -/
def wearVictim (es : List (List Byte)) : Nat :=
  match firstIdx (fun i => !crcGood (nth es i [])) 0 es.length with
  | some i => i
  | none => (List.range es.length).foldl (fun j i => if beAt (nth es i []) 0 4 < beAt (nth es j []) 0 4 then i else j) 0

/-- Write journal entry i. -/
def wearPut (s : State) (n i : Nat) (e : List Byte) : State :=
  addXfer (modSbd s n fun x => { x with wear := setAt x.wear i e }) n .wearWrite eeprom (0x100 + 64 * i) e 0

/-- An entry closed with a state and the present SMART figures. -/
def wearClose (s : State) (n : Nat) (e : List Byte) (st : Nat) : List Byte :=
  let x := sbdOf s n
  wearEntry (beAt e 0 4) st (beAt e 5 1) x.pu (beAt e 8 8) (beAt e 0x10 8) x.duw

/-- The journal has been read: an unclosed newest entry is rewritten, and the new entry is written. -/
def wearOpened (s : State) (n : Nat) (es : List (List Byte)) : State :=
  let s := modSbd s n fun x => { x with wear := es, jrn := 0 }
  let newest := wearNewest es
  let sq := match newest with | none => 0 | some i => beAt (nth es i []) 0 4 + 1
  let s := match newest with
    | none => s
    | some i => if beAt (nth es i []) 4 1 = 1 then wearPut s n i (wearClose s n (nth es i []) 3) else s
  let x := sbdOf s n
  let v := wearVictim x.wear
  let s := wearPut s n v (wearEntry sq 1 x.pu 0 s.tick.no x.duw 0)
  modSbd s n fun x => { x with wearAt := some v }

/-- R476: the session closes. -/
def wearClosed (s : State) (n : Nat) : State :=
  let x := sbdOf s n
  match x.wearAt with
  | none => s
  | some i => modSbd (wearPut s n i (wearClose s n (nth x.wear i []) 2)) n fun x => { x with wearAt := none }

end Sys2Proof.Machine
end

