-- ==== Sys2Proof/Machine/MagRun.lean ====
section
/-! DEFINITION. What magazine operations do between their commands (R429 to R434, R442, R448, R449, R452), how they fail, and how a
port is lost, dropped or failed (R461 to R464). -/

namespace Sys2Proof.Machine

/-! ## Bring-up (R429) -/

/-- The steps that bring a controller up. -/
def bringUp : List MagStep :=
  [.rdy, .cmds [adminReq .identCtrl 0], .act .gotCtrl, .cmds [adminReq .identNs 1], .act .gotNs, .cmds [adminReq .setQueues 8],
   .act .gotQueues]

/-- Has the controller a volatile write cache (byte 525 of Identify Controller, log entry 42)? -/
def hasVwc (ctrl : List Byte) : Bool := bitAt (leAt ctrl 525 1) 0

/-- The serial number of Identify Controller (bytes 4 to 23, log entry 42). -/
def ctrlSn (ctrl : List Byte) : List Byte := sliceBytes ctrl 4 20

/-- NSZE, and the LBA format in use, of Identify Namespace (log entry 42). -/
def nsSize (ns : List Byte) : Nat := leAt ns 0 8
def nsFormat (ns : List Byte) : Nat := leAt ns (128 + 4 * bits (leAt ns 26 1) 0 4) 4

/-- R429: is namespace 1 usable? -/
def nsGood (ns : List Byte) : Bool :=
  bits (nsFormat ns) 16 8 == 12 && bits (nsFormat ns) 0 16 == 0 && nsSize ns ≤ 2 ^ 33 && 1052673 ≤ nsSize ns

/-- Queue pairs granted by Set Features, eight at most (R431). -/
def pairsOf (dw0 : Nat) : Nat := min (min (bits dw0 0 16) (bits dw0 16 16) + 1) 8

/-- The rest of bring-up: the cache request with its WCE, where the controller reports a cache; completion queues, submission
queues. -/
def queueSteps (vwc wce : Bool) (k : Nat) : List MagStep :=
  (if vwc then [.cmds [adminReq .setVwc (b2n wce)]] else []) ++
    (List.range k).map (fun i => .cmds [adminReq .createCq (i + 1)]) ++ (List.range k).map fun i => .cmds [adminReq .createSq (i + 1)]

/-- Deletion of the I/O queues. -/
def deleteSteps (k : Nat) : List MagStep :=
  (List.range k).map (fun i => .cmds [adminReq .deleteSq (i + 1)]) ++ (List.range k).map fun i => .cmds [adminReq .deleteCq (i + 1)]

/-! ## Ends of operations -/

/-- The port is left without a session and its controller disabled. -/
def portIdle (s : State) (n : Nat) : State :=
  let s := modMag s n fun m => { m with sess := none, cached := [], mapPend := [], lostAt := none,
                                        bank0 := { recs := [], header := [] }, bank1 := { recs := [], header := [] } }
  let s := put (put (clrF s (R.MAG_STAT_VWC n)) (R.MAG_CACHED_BLOCKS n) 0) (R.MAG_SPACE_FREE n) 0
  if magState s n = mgDropped ∨ magState s n = mgFailed then s
  else put s (R.MAG_STAT_STATE n) (if (magOf s n).link then mgReady else mgTraining)

/-- MAG_OPEN ends with a code and the clips recovered (R433). -/
def openEnd (s : State) (n : Nat) (c : RingCmd) (code count : Nat) : State :=
  let s := if code = 0 ∨ code = 6 then s else portIdle s n
  complete s c (if code = 0 then stOK else stNotReady) (code + 256 * count)

/-- R464: the port becomes FAILED. -/
def portFail (s : State) (n : Nat) : State :=
  if magState s n = mgFailed then s
  else
    let s := put s (R.MAG_STAT_STATE n) mgFailed
    modMag (fault (raise s (magSrc n 3)) (fltMagFailed n)) n fun m => { m with drop := 3 }

/-- Release the references of a record's buffers (R454). -/
def freeRec (s : State) (r : RecReq) : State := releaseAll s r.bufs

/-- R501: anchor phase of a port. -/
def setAnc (s : State) (n v : Nat) : State := { s with sup := { s.sup with anc := setAt s.sup.anc n v } }

/-- R516, R518: DORMANT entry aborts: STATE 0 in IDLE, and the block that stopped it is recorded. -/
def dormAbort (s : State) (block kind : Nat) : State :=
  let s := put (put s R.GLB_MODE_STATE 0) R.GLB_MODE_TARGET (modeOf s)
  let s := setF (put (put (bump s R.CLK_LP_REFUSE_CNT_COUNT) R.CLK_LP_LAST_BLOCK block) R.CLK_LP_LAST_KIND kind) R.CLK_LP_LAST_DORM
  { s with sup := { s.sup with dormAt := none } }

/-- Is DORMANT entry under way (R517)? -/
def dormEntering (s : State) : Bool := s.sup.dormAt.isSome && modeOf s != modeDORMANT

/-- An operation fails because a command failed for good (R432) or its port went down. -/
def opFail (s : State) (n : Nat) (o : MagOp) : State :=
  let s := dropMop s n o.id
  let s := modMag s n fun m => { m with cmds := m.cmds.filter fun c => c.op != o.id }
  match o.kind with
  | .opening c => openEnd s n c o.code o.count
  | .closing (some c) => complete (portIdle s n) c stNotReady 0
  | .closing none => if dormEntering s then dormAbort (portIdle s n) (25 + n) 1 else portIdle s n
  | .formatting c _ => complete (portIdle s n) c stNotReady 0
  | .hostio c _ => complete s c stNotReady 0
  | .comeBack => modMag s n fun m => { m with lostAt := none, drop := max m.drop 1 }
  | .readFrame sp => spoolDone s sp jsReadError (spDoneFlags o.held false o.fua false) 0 0
  | .readBlocks sp => spoolDone s sp jsReadError (spDoneFlags o.held false o.fua false) 0 0
  | .trimOp sp => spoolDone s sp jsReadError (spDoneFlags o.held false o.fua false) 0 0
  | .anchorPhase1 => setAnc s n 7
  | .anchorPhase2 => setAnc s n 7
  | _ => s

/-- An operation whose failing command is a write or a flush makes a port with a session FAILED (R432). -/
def cmdFail (s : State) (n : Nat) (c : NvCmd) (o : MagOp) : State :=
  match o.kind with
  | .opening _ => opFail s n o
  | .formatting _ _ => opFail s n o
  | .anchorPhase1 => opFail s n o
  | .anchorPhase2 => opFail s n o
  | .smart => opFail s n o
  | .errLog => opFail s n o
  | _ =>
    if c.kind = .write ∨ c.kind = .flush then
      match o.kind with
      | .closing _ => opFail (portFail s n) n o
      | .hostio _ _ => opFail (portFail s n) n o
      | _ => portFail s n
    else opFail s n o

/-! ## MAG_OPEN (R433, R449) -/

/-- The headers have been read: the valid copy with the higher GEN, copy A when equal (R439). -/
def openHeader (o : MagOp) (nsze : Nat) : Option (List Byte) :=
  let a := (lookupKey o.got 0).getD []
  let b := (lookupKey o.got (nsze - 1)).getD []
  if hdrGood a ∧ (¬ hdrGood b ∨ beAt b 0x10 8 ≤ beAt a 0x10 8) then some a else if hdrGood b then some b else none

/-- Sum of NSZE over the sessions of the other ports. -/
def sessionBlocks (s : State) (n : Nat) : Nat :=
  ((List.range 4).map fun i => if i = n then 0 else if hasSession s i then (sessOf s i).nsze else 0).sum

/-- R433: both header copies are read; then codes 3 to 5, and the session's tables. -/
def openHdrs (s : State) (n : Nat) (o : MagOp) (c : RingCmd) : State :=
  let m := magOf s n
  let nsze := nsSize m.ns
  if o.got.isEmpty then
    prepend (modMop s n o.id fun o => { o with code := 3 }) n o.id
      [.cmds [{ q := 0, kind := .read, lba := 0, blocks := 1, data := [] }, { q := 0, kind := .read, lba := nsze - 1, blocks := 1, data := [] }],
       .act .openHdrs]
  else
  match openHeader o nsze with
  | none => openEnd (dropMop s n o.id) n c 3 0
  | some h =>
    if beAt h 0x18 8 ≠ nsze then openEnd (dropMop s n o.id) n c 4 0
    else if 2 ^ 33 < sessionBlocks s n + nsze then openEnd (dropMop s n o.id) n c 5 0
    else
      let x : Session := { sn := ctrlSn m.ctrl, nsze := nsze, gen := beAt h 0x10 8, serial := sliceBytes h 0x58 20,
                           tick := beAt h 0x70 8, dir := [], map := [] }
      let s := modMag s n fun m => { m with sess := some x }
      let dirty := beAt h 0x78 1 == 1
      modMop s n o.id fun o => { o with code := 7, steps := [.cmds (readReqs s n 0 1 2304), .act .openTabs] ++
        (if dirty then [.act (.openWalk { num := 0, entry := [], chain := [], pos := 0, head := none, ents := [], lastIx := none,
                                          counts := [], last := 0, todo := [], count := 0 })]
         else [.act .openDirty]) }

/-- The directory and the extent map as read. -/
def openTabs (s : State) (n : Nat) (o : MagOp) : State :=
  let b := gotBytes o
  modSess s n fun x =>
    { x with
      dir := ((List.range 65536).map fun i => (i, sliceBytes b (128 * i) 128)).filter fun e => leAt e.2 0 1 != 0,
      map := ((List.range (ausOf x.nsze)).map fun u =>
        (u, beAt b (4096 * 2048 + 8 * u) 4, beAt b (4096 * 2048 + 8 * u + 4) 4)).filter fun e => e.2.1 != auFree }

/-- The chain of AUs from one on, by NEXT. -/
def chainFrom (x : Session) : Nat → Nat → List Nat
  | 0, _ => []
  | fuel + 1, u =>
    match lookupKey x.map u with
    | none => []
    | some (_, nx) => u :: (if nx = auFree then [] else chainFrom x fuel nx)

/-- The OPEN entries of a session. -/
def openEntries (x : Session) : List Nat := (x.dir.filter fun e => leAt e.2 0 1 == 1 && crcGood e.2).map (·.1)

/-- Begin the walk of the next OPEN clip, or go on to DIRTY when none is left. -/
def walkNext (s : State) (n id : Nat) (todo : List Nat) (count : Nat) : State :=
  let s := modMop s n id fun o => { o with count := count }
  match todo with
  | [] => prepend s n id [.act .openDirty]
  | k :: r =>
    let x := sessOf s n
    let e := (lookupKey x.dir k).getD []
    let chain := chainFrom x (ausOf x.nsze) (beAt e 0x20 4)
    prepend s n id [.cmds (readReqs s n 0 (streamLba chain 0) (b2n (!chain.isEmpty))),
      .act (.openWalk { num := k, entry := e, chain := chain, pos := 0, head := none, ents := [], lastIx := none,
                        counts := List.replicate 5 0, last := 0, todo := r, count := count })]

/-- Read the block at the walk's position, or end the walk past its chain. -/
def walkRead (s : State) (n id : Nat) (w : RecWalk) : State :=
  prepend s n id [.cmds (readReqs s n 0 (streamLba w.chain w.pos) (b2n (w.pos < auBlocks * w.chain.length))), .act (.openWalk w)]

/-- Phase 2 of a recovered clip (R449): its entry as RECOVERED, and the header. -/
def walkClose (s : State) (n id : Nat) (w : RecWalk) (pre : List MagStep) (last frames footer : Nat) : State :=
  let e := w.entry
  let d := dirEntry 3 (beAt e 1 1 == 1) (beAt e 2 1) (beAt e 3 1) (beAt e 4 1) (beAt e 5 1 == 1) (beAt e 8 8) (beAt e 0x10 8) last
    (nth w.chain 0 (beAt e 0x20 4)) w.chain.length footer frames
  let s := modSess s n fun x => { x with dir := insertKey x.dir w.num d }
  let dw := dirWrite s n w.num
  let (s, hs) := headerSteps s n true
  prepend s n id (pre ++ [dw] ++ hs ++ [.act (.openWalked { w with count := w.count + 1 })])

/-- What recovery writes at the end of a walk without a footer: an index block for the records since the last one, if any, and a footer
with CLOSE 2, behind the map writes pre. -/
def walkFoot (s : State) (n id : Nat) (w : RecWalk) (pre : List MagStep) : State :=
  let e := w.entry
  let member := beAt e 2 1
  let k := beAt e 3 1
  let counts := addCounts w.counts (entCounts w.ents)
  let ixLba := streamLba w.chain w.pos
  let wr (lba : Nat) (b : List Byte) : MagStep := .cmds [{ q := 0, kind := .write, lba := lba, blocks := 1, data := b }]
  let ixs := if w.ents.isEmpty then [] else [wr ixLba (idxBlock w.num member w.lastIx w.ents)]
  let fl := streamLba w.chain (if w.ents.isEmpty then w.pos else w.pos + 1)
  let sns := (List.range 4).map fun i => if i = member then (sessOf s n).sn else []
  let ft := footBlock w.num member k (beAt e 1 1 == 1) (beAt e 5 1 == 1) 2 (beAt e 8 8) (beAt e 0x10 8) w.last counts
    (if w.ents.isEmpty then w.lastIx else some ixLba) fl [(beAt e 0x10 8, 2 ^ k - 1, k)] sns
  walkClose s n id w (pre ++ ixs ++ [wr fl ft]) w.last (nth counts 0 0) fl

/-- The end of a walk without a footer. A chain with no room for the two blocks is extended first (R441); with no free AU the recovery
fails. -/
def walkEnd (s : State) (n id : Nat) (w : RecWalk) : State :=
  let (s, chain, new, ok) := extendChain n w.num (w.pos + 2) 2 s w.chain []
  let pre := if new.isEmpty then [] else [mapWrites s n ((w.chain.getLast?.getD (nth new 0 0)) :: new)]
  if ok then walkFoot s n id { w with chain := chain } pre
  else match findMop s n id with
    | some o => opFail s n o
    | none => s

/-- A record met in the walk. -/
def walkTake (w : RecWalk) (h : List Byte) : RecWalk :=
  let b := 1 + recMeta h + recEss h
  let e : IdxEnt := { tick := beAt h 8 8, lba := streamLba w.chain w.pos, blocks := b, flags := beAt h 7 1, late := false, done := true }
  { w with head := none, pos := w.pos + b, last := max w.last (beAt h 8 8), ents := w.ents ++ [e] }

/-- R449: one block, or one record's data, of the walk has been read. -/
def walkStep (s : State) (n : Nat) (o : MagOp) (w : RecWalk) : State :=
  let b := gotBytes o
  match w.head with
  | some h =>
    let ess := (b.drop (4096 * recMeta h)).take (beAt h 0x28 8)
    if crc32c ess = beAt h 0x30 4 then walkRead s n o.id (walkTake w h) else walkEnd s n o.id { w with head := none }
  | none =>
    if w.entry.isEmpty then walkNext s n o.id (openEntries (sessOf s n)) 0
    else if b.isEmpty then walkEnd s n o.id w
    else if recGood b ∧ w.pos + 1 + recMeta b + recEss b ≤ auBlocks * w.chain.length then
      if recMeta b + recEss b = 0 then
        (if crc32c [] = beAt b 0x30 4 then walkRead s n o.id (walkTake w b) else walkEnd s n o.id w)
      else prepend s n o.id [.cmds ((List.range (recMeta b + recEss b)).flatMap fun i =>
          readReqs s n 0 (streamLba w.chain (w.pos + 1 + i)) 1), .act (.openWalk { w with head := some b })]
    else if beAt b 0 4 = 0x5A494458 ∧ crcGood b then
      let late := (List.range (beAt b 0x0C 4)).map fun i => bitAt (beAt b (0x20 + 24 * i + 21) 1) 0
      let es := (List.range w.ents.length).map fun i =>
        let e := nth w.ents i { tick := 0, lba := 0, blocks := 0, flags := 0, late := false, done := true }
        { e with late := nth late i false }
      walkRead s n o.id { w with counts := addCounts w.counts (entCounts es), ents := [], pos := w.pos + 1,
                                 lastIx := some (streamLba w.chain w.pos) }
    else if beAt b 0 4 = 0x5A465452 ∧ crcGood b ∧ beAt b 0x10 8 = beAt w.entry 8 8 then
      walkClose s n o.id w [] (beAt b 0x20 8) (beAt b 0x28 4) (streamLba w.chain w.pos)
    else walkEnd s n o.id w

/-- The session is open. -/
def openDone (s : State) (n : Nat) (o : MagOp) (c : RingCmd) : State :=
  let x := sessOf s n
  let s := showSpace (put (clrF s (R.MAG_STAT_LOWSPACE n)) (R.MAG_STAT_STATE n) mgSession) n
  let s := modMag s n fun m => { m with smartAt := s.clk, drop := 0, lostAt := none }
  let s := idCompare s n x.sn x.nsze
  let s := modSbd s n fun b => { b with jrn := 1, wearAt := none }
  let s := addOp s n .smart [.cmds [adminReq .smart 0], .act .smartDone] 0
  openEnd (dropMop s n o.id) n c 0 o.count

/-! ## Records and clips -/

/-- R442: every data write of a record has completed, so its header is written. -/
def recHeader (s : State) (n : Nat) (o : MagOp) (r : RecReq) : State :=
  match findClipId s r.clip with
  | none => s
  | some c =>
    let b := recBlock c (memberOf c n) r (lateFrame s r.tick r.clip) c.alaz
    prepend s n o.id [.cmds [{ q := clipQueue c, kind := .write, lba := r.lba, blocks := 1, data := b }]]

/-- A record has been written. -/
def recDone (s : State) (n : Nat) (o : MagOp) (r : RecReq) : State :=
  let late := lateFrame s r.tick r.clip
  let s := freeRec (dropMop s n o.id) r
  let mark (e : IdxEnt) : IdxEnt :=
    if e.lba = r.lba then { e with done := true, flags := if late then e.flags ||| flLate else e.flags } else e
  let s := modMem s r.clip n fun m => { m with ents := m.ents.map mark }
  let s := modClip s r.clip fun c => { c with last := max c.last r.tick }
  let s := modClipFrame s r.tick r.clip fun f => { f with done := true }
  let member := match findClipId s r.clip with | none => 0 | some c => memberOf c n
  let s := match r.sp with
    | none => s
    | some sp => spoolDone s sp jsOK (spDoneFlags o.held (bitAt r.flags 5) o.fua r.gap) member r.ess.length
  clipProgress (clipIndex s r.clip n) r.clip

/-- R444: an index block has been written. -/
def indexDone (s : State) (n id : Nat) : State :=
  let s := modMem s id n fun m =>
    let es := m.ents.take 96
    { m with idxPos := m.idxPos.drop 1, ents := m.ents.drop 96, counts := addCounts m.counts (entCounts es),
             lastIx := m.idxPos.head?.map (streamLba m.chain) }
  clipProgress (clipIndex s id n) id

/-! ## READ_FRAME (R452) -/

/-- Buffers that a byte string takes. -/
def bufsFor (l : List Byte) : Nat := ceilDiv l.length 65536

/-- The parts of an essence in the order in which they are placed: run list index and bytes, each beginning a fresh buffer. -/
def essParts (h ess : List Byte) : List (Nat × List Byte) :=
  let nb := beAt h 0x1F 1
  if nb = 0 then [(0, ess)]
  else
    let off (b : Nat) : Nat := if b < nb then beAt h (0x38 + 4 * b) 4 else ess.length
    (0, ess.take (off 0)) :: (List.range nb).map fun b => (b, (ess.drop (off b)).take (off (b + 1) - off b))

/-- The buffers of an essence in order: run list index and bytes; each part begins a fresh buffer. -/
def essChunks (h ess : List Byte) : List (Nat × List Byte) :=
  (essParts h ess).flatMap fun x => (List.range (bufsFor x.2)).map fun i => (x.1, (x.2.drop (65536 * i)).take 65536)

/-- The address of the run list entry that buffer k of a list of buffers takes: each list goes on where it stopped. -/
def chunkEntry (s : State) (runs : Nat) (cs : List (Nat × List Byte)) (k : Nat) : Nat :=
  let b := (nth cs k (0, [])).1
  leVal (fsRead s (runs + 8 * b) 8) + 4 * ((cs.take k).filter fun c => c.1 == b).length

/-- Is a run list entry free (R248)? -/
def entryFree (s : State) (a : Nat) : Bool := leVal (fsRead s a 4) == listEnd

/-- May an essence buffer be allocated now (R400, R401)? -/
def essFree (s : State) : Bool :=
  !isSet s R.POOL_STAT_BUSY && !isSet s R.POOL_STAT_BROKEN_E && s.pool.headE != listEnd

/-- READ_FRAME ends. -/
def rfEnd (s : State) (n : Nat) (o : MagOp) (sp : SpoolReq) (status : Nat) (gap : Bool) (bytes : Nat) : State :=
  spoolDone (dropMop s n o.id) sp status (spDoneFlags o.held false o.fua gap) n bytes

/-- R114: the record header read names the clip that the frame belongs to, by partition and tick number. -/
def noteRead (s : State) (p : Nat) (h : List Byte) : State :=
  let t := beAt h 8 8
  let l := (s.strs.reads.filter fun r => !(r.1 == p && r.2.1 == t)) ++ [(p, t, beAt h 0x10 8)]
  { s with strs := { s.strs with reads := l } }

/-- A stage of READ_FRAME: the block read is a footer, an index block or a record header, or the record's essence. -/
def rfStep (s : State) (n : Nat) (o : MagOp) (sp : SpoolReq) (a : MagAct) : State :=
  let b := gotBytes o
  let index (lba : Nat) : State :=
    if lba = 2 ^ 64 - 1 then rfEnd s n o sp spNotFound false 0
    else prepend s n o.id [.cmds (readReqs s n sp.q lba 1), .act .rfIndex]
  match a with
  | .rfFooter => index (if beAt b 0 4 = 0x5A465452 ∧ crcGood b then beAt b 0x40 8 else 2 ^ 64 - 1)
  | .rfIndex =>
    match firstIdx (fun i => beAt b (0x20 + 24 * i) 8 == spTick sp.desc) 0 (min (beAt b 0x0C 4) 96) with
    | some i => prepend s n o.id [.cmds (readReqs s n sp.q (beAt b (0x20 + 24 * i + 8) 8) 1), .act .rfHeader]
    | none => index (if beAt b 0 4 = 0x5A494458 ∧ crcGood b then beAt b 0x10 8 else 2 ^ 64 - 1)
  | .rfHeader =>
    if ¬ recGood b then rfEnd s n o sp spNotFound false 0
    else if beAt b 6 1 = 1 then rfEnd s n o sp jsOK true 0
    else
      let lba := (o.got.head?.map (·.1)).getD 0
      let x := sessOf s n
      let chain := chainFrom x (ausOf x.nsze) (beAt ((lookupKey x.dir (spCount sp.desc)).getD []) 0x20 4)
      let pos := streamPos chain lba + 1 + recMeta b
      prepend (noteRead s sp.part b) n o.id [.cmds ((List.range (recEss b)).flatMap fun i => readReqs s n sp.q (streamLba chain (pos + i)) 1),
        .act (.rfData b)]
  | .rfData h =>
    let ess := b.take (beAt h 0x28 8)
    if crc32c ess ≠ beAt h 0x30 4 then rfEnd s n o sp jsReadError false 0
    else prepend s n o.id [.act (.rfPlace h 0)]
  | .rfPlace h k =>
    let ess := b.take (beAt h 0x28 8)
    let cs := essChunks h ess
    if cs.length ≤ k then rfEnd s n o sp jsOK false ess.length
    else if ¬ entryFree s (chunkEntry s (spRuns sp.desc) cs k) then rfEnd s n o sp jsRunFull false 0
    else match poolAlloc s true (some sp.part) with
      | (none, s) => prepend s n o.id [.act (.rfPlace h k)]
      | (some x, s) =>
        let s := fsWrite (fsWrite s (bufAddr s x) (nth cs k (0, [])).2) (chunkEntry s (spRuns sp.desc) cs k) (leBytes 4 x)
        prepend s n o.id [.act (.rfPlace h (k + 1))]
  | _ => s

/-- Can READ_FRAME go on at buffer k: nothing is left, its entry is not free, or a buffer may be allocated? -/
def rfReady (s : State) (h ess : List Byte) (sp : SpoolReq) (k : Nat) : Bool :=
  let cs := essChunks h (ess.take (beAt h 0x28 8))
  cs.length ≤ k || !entryFree s (chunkEntry s (spRuns sp.desc) cs k) || essFree s

/-! ## Return after port loss (R462) -/

/-- R462: the magazine has returned with its own SN: indeterminate writes are reissued in order of issue, then indeterminate flushes,
and held work resumes. -/
def portReturn (s : State) (n : Nat) : State :=
  let m := magOf s n
  let ind := m.cmds.filter fun c => c.st == 3 && (c.kind == .write || c.kind == .flush)
  let ranks (k : NvKind) (c : NvCmd) : Nat :=
    (ind.filter fun d => d.kind == k && d.order < c.order).length +
      (if k = .flush then (ind.filter fun d => d.kind == .write).length else 0)
  let re (c : NvCmd) : NvCmd := { c with st := 1, issued := s.clk, order := m.nextOrd + ranks c.kind c }
  let back (c : NvCmd) : NvCmd := if c.st = 3 then (if c.kind = .write ∨ c.kind = .flush then re c else { c with st := 0 }) else c
  let s := modMag s n fun m => { m with lostAt := none, nextOrd := m.nextOrd + ind.length, cmds := m.cmds.map back }
  let s := bumpBy (put s (R.MAG_STAT_STATE n) mgSession) (R.MAG_LOSS_CNT_REISSUE n) ind.length
  raise s (magSrc n 1)

/-- The bring-up after port loss has completed: the SN decides (R462). -/
def comeBackDone (s : State) (n : Nat) : State :=
  if ctrlSn (magOf s n).ctrl = (sessOf s n).sn then portReturn s n
  else modMag s n fun m => { m with lostAt := none, drop := max m.drop 1 }

/-! ## Actions -/

/-- The shaping of a controller's grant (R429, R431). -/
def gotQueues (s : State) (n : Nat) (o : MagOp) : State :=
  let m := magOf s n
  let k := pairsOf (leVal (gotBytes o))
  let v := hasVwc m.ctrl
  let s := put (put s (R.MAG_QMAP_NPAIRS n) k) (R.MAG_STAT_VWC n) (b2n (v && isSet s (R.MAG_CFG_VWC n)))
  prepend s n o.id (queueSteps v (isSet s (R.MAG_CFG_VWC n)) k)

/-- R437: the metadata area of a new format behind its header: directory, map, and unused blocks of zeros. -/
def formatTables (x : Session) : List Byte :=
  (List.range 2048).flatMap (dirBlock x) ++ (List.range 256).flatMap (mapBlock x) ++ List.replicate (4096 * 1791) 0

/-- Perform an action of operation o, whose steps already are those after it; o holds the data read. -/
def magAct (s : State) (n : Nat) (o : MagOp) (a : MagAct) : State :=
  let id := o.id
  match a, o.kind with
  | .gotCtrl, _ => modMag s n fun m => { m with ctrl := gotBytes o }
  | .gotNs, _ =>
    let s := modMag s n fun m => { m with ns := gotBytes o }
    if nsGood (gotBytes o) then s else opFail s n o
  | .gotQueues, _ => gotQueues s n o
  | .openHdrs, .opening c => openHdrs s n o c
  | .openTabs, _ => openTabs s n o
  | .openWalk w, _ => walkStep s n o w
  | .openWalked w, _ => walkNext (raise s (magSrc n 6)) n id w.todo w.count
  | .openDirty, _ =>
    let (s, hs) := headerSteps s n true
    prepend s n id (hs ++ [.act .openDone])
  | .openDone, .opening c => openDone s n o c
  | .returned, _ => comeBackDone (dropMop s n id) n
  | .closeHdr, _ =>
    let (s, hs) := headerSteps s n false
    prepend s n id (hs ++ deleteSteps (get s (R.MAG_QMAP_NPAIRS n)))
  | .closeDone, .closing (some c) => complete (portIdle (dropMop (wearClosed s n) n id) n) c stOK 0
  | .closeDone, _ => portIdle (dropMop (wearClosed s n) n id) n
  | .fmtStart, .formatting _ trim =>
    let m := magOf s n
    let x : Session := { sn := ctrlSn m.ctrl, nsze := nsSize m.ns, gen := 0, serial := ctrlSn m.ctrl, tick := s.tick.no, dir := [], map := [] }
    let s := modMag s n fun m => { m with sess := some x }
    prepend s n id (if trim then [.cmds [{ q := 0, kind := .dealloc, lba := 4096, blocks := auBlocks * ausOf x.nsze, data := [] }],
      .act .fmtWrite] else [.act .fmtWrite])
  | .fmtWrite, _ =>
    let x := sessOf s n
    let (s, hs) := headerSteps s n false
    prepend s n id ([.cmds (writeReqs s n 0 1 (formatTables x))] ++ hs ++ [.act .fmtDone])
  | .fmtDone, .formatting c _ =>
    let a := ausOf (sessOf s n).nsze
    complete (portIdle (dropMop s n id) n) c stOK a
  | .ioDone, .hostio c w =>
    if w ∨ 8 ≤ c.part then complete (dropMop s n id) c stOK (leAt c.entry 0x10 4)
    else startOp (prepend s n id [.host]) c.part (.magDirect n id) (leAt c.entry 0x18 8) (4096 * leAt c.entry 0x10 4) true (gotBytes o)
  | .ioWrite, .hostio c _ =>
    prepend s n id [.cmds (writeReqs s n 6 (leAt c.entry 8 8) (gotBytes o)), .act .ioDone]
  | .recHeader, .record r => recHeader s n o r
  | .recDone, .record r => recDone s n o r
  | .mapDone aus, _ => modMag s n fun m => { m with mapPend := m.mapPend.filter fun u => !aus.contains u }
  | .indexDone, .index c => indexDone (dropMop s n id) n c
  | .whip1Done, .whip1 c => clipProgress (modMem (dropMop s n id) c n fun m => if m.phase = 1 then { m with phase := 2 } else m) c
  | .whip2Done, .whip2 c =>
    let s := modMem (dropMop s n id) c n fun m => { m with phase := 4 }
    clipProgress (dropReady (raise s (magSrc n 5)) c n) c
  | .clipOpened, .clipOpen c => clipProgress (modMem (dropMop s n id) c n fun m => { m with phase := 0 }) c
  | .rbDone, .readBlocks sp =>
    let b := gotBytes o
    spoolDone (fsWrite (dropMop s n id) (spMeta sp.desc) b) sp jsOK (spDoneFlags o.held false o.fua false) n b.length
  | .trimDone, .trimOp sp => spoolDone (dropMop s n id) sp jsOK (spDoneFlags o.held false o.fua false) n 0
  | .smartDone, _ =>
    let b := gotBytes o
    let s := lifeUpdate (dropMop s n id) n (leAt b 5 1) (leAt b 48 16)
    if (sbdOf s n).jrn = 1 then addXfer s n (.wear 0) eeprom 0x100 [] 1024 else s
  | .errDone, .errLog =>
    let b := gotBytes o
    let st := leAt b 12 2
    let s := dropMop s n id
    put (put (put s (R.MAG_ERR_SC n) (bits st 1 8)) (R.MAG_ERR_SCT n) (bits st 9 3)) (R.MAG_ERR_OPC n) o.code
  | .anchor1, _ => bumpBy (setAnc (dropMop s n id) n 4) R.FLT_ANC_STAT_CLIPS (selBank (magOf s n)).recs.length
  | .anchor2, _ => put (setAnc (dropMop s n id) n 6) R.FLT_ANC_STAT_WHIPPED (withBit (get s R.FLT_ANC_STAT_WHIPPED) n true)
  | a, .readFrame sp => rfStep s n o sp a
  | _, _ => s

/-! ## Volatile cache (R460) -/

/-- Q1 where the mode permits it, else Q0. -/
def strictQ (s : State) : Nat := let m := modeOf s; if (5 ≤ m && m ≤ 11) then 1 else 0

/-- Is the volatile write cache enabled? -/
def cacheOn (s : State) (n : Nat) : Bool := isSet s (R.MAG_STAT_VWC n)

/-- FUAALL follows LIMIT and FUAMIN; FUA_ALL is raised when it sets. -/
def fuaAll (s : State) (n : Nat) : State :=
  let all := cacheOn s n && get s (R.MAG_HOLDUP_LIMIT n) < get s (R.MAG_FUAMIN_BLOCKS n)
  if all = isSet s (R.MAG_STAT_FUAALL n) then s
  else if all then raise (setF s (R.MAG_STAT_FUAALL n)) (magSrc n 4) else clrF s (R.MAG_STAT_FUAALL n)

def isFlushOp : MagKind → Bool
  | .flush => true
  | _ => false

/-- One Flush when MAG_CACHED reaches LIMIT / 2 and none is on its way. -/
def cacheFlush (s : State) (n : Nat) : State :=
  if cacheOn s n && !anchored s && get s (R.MAG_CACHED_BLOCKS n) != 0 && get s (R.MAG_HOLDUP_LIMIT n) ≤ 2 * get s (R.MAG_CACHED_BLOCKS n) &&
      !hasOp s n isFlushOp then
    addOp s n .flush [.cmds [{ q := strictQ s, kind := .flush, lba := 0, blocks := 0, data := [] }]] 0
  else s

/-! ## The pump -/

/-- Does an operation's next step find what it waits for? -/
def magReady (s : State) (n : Nat) (o : MagOp) : Bool :=
  o.wait == 0 && match o.steps with
    | [] => true
    | .cmds _ :: _ => true
    | .rdy :: _ => false
    | .host :: _ => false
    | .clear :: _ => (magOf s n).cmds.isEmpty && (magOf s n).ops.all fun x => x.id == o.id
    | .gate aus :: _ => aus.all fun u => !(magOf s n).mapPend.contains u
    | .act (.rfPlace h k) :: _ => (match o.kind with
      | .readFrame sp => rfReady s h (gotBytes o) sp k
      | _ => true)
    | .act _ :: _ => true

/-- Carry out the next step of an operation. -/
def magStep (s : State) (n : Nat) (o : MagOp) : State :=
  match o.steps with
  | [] => if o.kind = .flush then cacheFlush (dropMop s n o.id) n else dropMop s n o.id
  | .cmds l :: r => l.foldl (fun s c => addCmd s n o.id c) (modMop s n o.id fun o => { o with steps := r, wait := l.length, got := [] })
  | .act a :: r => magAct (modMop s n o.id fun o => { o with steps := r }) n { o with steps := r } a
  | _ :: r => modMop s n o.id fun o => { o with steps := r }

/-- The first operation of any port that can go on; a gated port holds its own until it has woken (R515). -/
def magNext (s : State) : Option (Nat × MagOp) :=
  (List.range 4).findSome? fun n => if gated s (25 + n) then none else ((magOf s n).ops.find? (magReady s n)).map fun o => (n, o)

/-- Carry on every magazine operation as far as it goes. -/
def magRun : Nat → State → State
  | 0, s => s
  | fuel + 1, s =>
    match magNext s with
    | none => s
    | some (n, o) => magRun fuel (magStep s n o)

/-! ## Port loss and drops (R461 to R464) -/

/-- The operations of a port that belong to clips. -/
def isClipOp : MagKind → Bool
  | .record _ => true
  | .mapWrite => true
  | .index _ => true
  | .whip1 _ => true
  | .whip2 _ => true
  | .clipOpen _ => true
  | _ => false

/-- R461: the port is lost. A loss during the bring-up that follows a return ends the window (R462). -/
def portLose (s : State) (n t : Nat) : State :=
  let st := magState s n
  let s := modMag s n fun m => { m with link := false }
  if st = mgOff ∨ st = mgTraining then s
  else if st = mgLost then
    (magOf s n).ops.foldl (fun s o => match o.kind with | .comeBack => opFail s n o | _ => s) s
  else if st = mgDropped ∨ st = mgFailed then
    ((magOf s n).ops.filter fun o => !isClipOp o.kind).foldl (fun s o => opFail s n o) (modMag s n fun m => { m with cmds := [] })
  else
    let down : List MagOp := (magOf s n).ops.filter fun o => match o.kind with
      | .opening _ => true | .closing _ => true | .formatting _ _ => true | .smart => true | .errLog => true | _ => false
    let s := down.foldl (fun s o => opFail s n o) s
    let s := put s (R.MAG_STAT_STATE n) mgLost
    let ind (c : NvCmd) : NvCmd := if c.st = 1 ∨ c.st = 2 then { c with st := 3 } else c
    let hold (o : MagOp) : MagOp := { o with held := true }
    let s := modMag s n fun m =>
      { m with cmds := (m.cmds.filter fun c => c.q != 8).map ind, ops := m.ops.map hold, lostAt := some t }
    raise (bump s (R.MAG_LOSS_CNT_LOSS n)) (magSrc n 0)

/-- R463: re-home a record that had not completed on a dropped member: whole, on member n mod k′, ahead of later writes. -/
def rehome (s : State) (held : Bool) (r : RecReq) : State :=
  match findClipId s r.clip with
  | none => freeRec s r
  | some c =>
    match c.active with
    | [] =>
      let s := freeRec s r
      match r.sp with
      | none => s
      | some sp => spoolDone s sp spDropped (spDoneFlags held false false r.gap) 0 0
    | a :: as =>
      let k := (a :: as).length
      let p := nth (a :: as) (r.tick % k) a
      let s := modClipFrame s r.tick r.clip fun f => { f with k := some k }
      placeRecord (bump s (R.MAG_REHOME_CNT_FRAMES p)) c p { r with flags := r.flags ||| flRehomed, k := k }

/-- The stripe of clip c without port n, with its history entry (R463). -/
def leaveStripe (c : Clip) (n tick : Nat) : Clip :=
  if c.active.contains n then
    let a := c.active.filter (· != n)
    let mask := (a.map fun p => 2 ^ c.ports.idxOf p).sum
    let out (m : ClipMem) : ClipMem := if m.port = n then { m with phase := 5 } else m
    { c with active := a, hist := c.hist ++ [(tick, mask, a.length)], mem := c.mem.map out }
  else c

/-- R463, R464: at a boundary with tick number t, port n is dropped from every stripe. -/
def dropPort (s : State) (n t : Nat) : State :=
  let m := magOf s n
  let soft := (m.drop == 2 || m.drop == 4) && magState s n == mgSession
  let s := { s with mags := { s.mags with clips := s.mags.clips.map fun c => leaveStripe c n t } }
  let clipOps := m.ops.filter fun o => isClipOp o.kind
  let ids := clipOps.map (·.id)
  let s := modMag s n fun m => { m with drop := 0, lostAt := none, mapPend := [], ops := m.ops.filter fun o => !isClipOp o.kind,
                                        cmds := m.cmds.filter fun c => !ids.contains c.op || (soft && c.st != 0) }
  let failed := magState s n == mgFailed
  let s := if failed then s else put s (R.MAG_STAT_STATE n) mgDropped
  let s := raise s (magSrc n 2)
  let s := if m.drop = 5 then s else fault s (fltMagDropped n)
  let s := clipOps.foldl (fun s o => match o.kind with | .record r => rehome s o.held r | _ => s) s
  if soft then addOp s n (.closing none) [.clear, .cmds [{ q := 0, kind := .flush, lba := 0, blocks := 0, data := [] }], .act .closeHdr, .act .closeDone] 7
  else
    let s := (magOf s n).ops.foldl (fun s o => opFail s n o) s
    portIdle (modMag s n fun m => { m with cmds := [], ops := [] }) n

/-- Has the master stripe lost its last member (R67)? -/
def masterGone (s : State) : Bool := s.mags.clips.any fun c => !c.proxy && c.active.isEmpty

/-- The boundary's drops (R463, R464): every port that is due leaves its stripes; a clip left with no member ends there. -/
def magDrops (s : State) : State :=
  let due := (List.range 4).filter fun n => (magOf s n).drop != 0
  let had := s.mags.clips.any fun c => !c.proxy && !c.active.isEmpty
  let s := due.foldl (fun s n => dropPort s n s.tick.no) s
  let s := if had && masterGone s then
      fault { s with sup := { s.sup with lost := true } } fltMasterLost
    else s
  let s := { s with mags := { s.mags with clips := s.mags.clips.filter fun c => !c.active.isEmpty } }
  clipsProgress s

end Sys2Proof.Machine
end

