-- ==== Sys2Proof/Machine/Hub.lean ====
section
/-! DEFINITION. The signal hub (R359 to R369): assignment, claims, ends of interrupt, routes and targets, the partition's own hub
window, and the MSI-X emitters. A raise itself is `raise` in Ops.lean; the assignment it leads to is the command HUB_ASSIGN. -/

namespace Sys2Proof.Machine

/-- R361: a source is deliverable while PEND is 1, MASK is 0 and INSERV is 0. -/
def deliverable (s : State) (src : Nat) : Bool :=
  isSet s (R.HUB_PEND src) && !isSet s (R.HUB_MASK src) && !isSet s (R.HUB_INSERV src)

/-- The targets a source may go to: set in HUB_ROUTE.TGT, enabled, and not the reserved T14 and T15 (R362, R363). -/
def routesTo (s : State) (src t : Nat) : Bool :=
  t < 14 && bitAt (get s (R.HUB_ROUTE_TGT src)) t && isSet s (R.HUB_TGT_CTL_EN t)

/-- R363: the next target after the one last used, ascending with wrap. -/
def nextTarget (s : State) (src : Nat) : Option Nat :=
  match lookupKey s.hub.lastTgt src with
  | none => firstIdx (routesTo s src) 0 14
  | some l =>
    match firstIdx (routesTo s src) (l + 1) (13 - l) with
    | some t => some t
    | none => firstIdx (routesTo s src) 0 (l + 1)

/-- Word w of entry v of partition p's MSI-X table: 0 address low, 1 address high, 2 data. -/
def msixWord (s : State) (p v w : Nat) : Nat := (lookupKey s.hub.msixTab (128 * p + 4 * v + w)).getD 0

/-- A word of the MSI-X table is written. -/
def msixSet (s : State) (p v w x : Nat) : State :=
  { s with hub := { s.hub with msixTab := insertKey s.hub.msixTab (128 * p + 4 * v + w) x } }

/-- Is vector v of partition p masked, by itself or by its function's mask? -/
def vecMasked (s : State) (p v : Nat) : Bool := nth s.hub.msixHush p false || bitAt (nth s.hub.vecMask p 0) v

/-- R343: the message of vector v, to the address and with the data that the table holds. -/
def msixMsg (s : State) (p v : Nat) : State :=
  { s with sent := s.sent ++ [.msix p v (msixWord s p v 0 + 2 ^ 32 * msixWord s p v 1) (msixWord s p v 2)] }

/-- R365: the emitter of partition p sends vector v, or sets its pending bit while it is masked or the function may send nothing;
nothing while MSI-X is off. -/
def msixSend (s : State) (p v : Nat) : State :=
  if nth s.hub.msixOn p false then
    if vecMasked s p v || !mayIssue s p then { s with hub := { s.hub with vecPend := modAt s.hub.vecPend p (fun m => withBit m v true) } }
    else msixMsg s p v
  else s

/-- R365: a pending vector that is masked no longer has its message sent. -/
def msixFlush (s : State) (p v : Nat) : State :=
  if nth s.hub.msixOn p false && !vecMasked s p v && mayIssue s p && bitAt (nth s.hub.vecPend p 0) v then
    msixMsg { s with hub := { s.hub with vecPend := modAt s.hub.vecPend p (fun m => withBit m v false) } } p v
  else s

/-- The mask bit of vector v of partition p is written. -/
def msixMask (s : State) (p v : Nat) (m : Bool) : State :=
  msixFlush { s with hub := { s.hub with vecMask := modAt s.hub.vecMask p (fun x => withBit x v m) } } p v

/-- Every pending vector of partition p that may be sent is sent. -/
def msixFlushAll (s : State) (p : Nat) : State := forN 32 (fun v s => msixFlush s p v) s

/-- MSI-X Enable and Function Mask of a function are written (PCI Express). -/
def msixControl (s : State) (p : Nat) (en hush : Bool) : State :=
  msixFlushAll (p := p)
    { s with hub := { s.hub with msixOn := setAt s.hub.msixOn p en, msixHush := setAt s.hub.msixHush p hush } }

/-- The target a source is assigned to and not yet claimed by. -/
def assignedTo (s : State) (src : Nat) : Option Nat := lookupKey s.hub.assigned src

/-- R363: assign a deliverable, unassigned source to its next target; a partition target sends the source's vector. -/
def assignSrc (s : State) (src : Nat) : State :=
  if deliverable s src && (assignedTo s src).isNone then
    match nextTarget s src with
    | none => s
    | some t =>
      let s1 := { s with hub := { s.hub with assigned := insertKey s.hub.assigned src t,
                                             lastTgt := insertKey s.hub.lastTgt src t } }
      if t < 8 then msixSend s1 t (get s1 (R.HUB_ROUTE_VEC src)) else s1
  else s

/-- R363: a source that stops being deliverable loses its assignment. -/
def withdraw (s : State) (src : Nat) : State :=
  { s with hub := { s.hub with assigned := eraseKey s.hub.assigned src } }

/-- R361: PEND_CLR. -/
def pendClr (s : State) (src : Nat) : State := withdraw (put s (R.HUB_PEND src) 0) src

/-- R361: MASK_SET. -/
def maskSet (s : State) (src : Nat) : State := withdraw (put s (R.HUB_MASK src) 1) src

/-- R361: MASK_CLR. -/
def maskClr (s : State) (src : Nat) : State := put s (R.HUB_MASK src) 0

/-- The highest-numbered source assigned to target t. -/
def highestAssigned (s : State) (t : Nat) : Option Nat :=
  s.hub.assigned.foldl (fun m e => if e.2 = t then (match m with | none => some e.1 | some x => some (max x e.1)) else m) none

/-- The state after target t claims source src: INSERV set, PEND and assignment cleared (R364). -/
def claimSrc (s : State) (t src : Nat) : State :=
  let s := put (put s (R.HUB_INSERV src) 1) (R.HUB_PEND src) 0
  { s with hub := { s.hub with assigned := eraseKey s.hub.assigned src, held := insertKey s.hub.held src t } }

/-- R364: a read of a claim register. -/
def claimRead (s : State) (t : Nat) : State :=
  match highestAssigned s t with
  | none => { s with rdata := 0 }
  | some src => { claimSrc s t src with rdata := 2 ^ 31 + src }

/-- Does target t hold src in service? -/
def holds (s : State) (t src : Nat) : Bool := lookupKey s.hub.held src == some t

/-- R364: an end of interrupt for a source the target holds. -/
def endSrc (s : State) (src : Nat) : State :=
  let s := put s (R.HUB_INSERV src) 0
  { s with hub := { s.hub with held := eraseKey s.hub.held src } }

/-- R363: after a route or enable change, an unclaimed source whose target is gone is reassigned, and a deliverable one without a
target is assigned if it now has one. -/
def reassign (s : State) (src : Nat) : State :=
  match assignedTo s src with
  | some t => if routesTo s src t then s else assignSrc (withdraw s src) src
  | none => assignSrc s src

/-- Reassign every source. -/
def reassignAll (s : State) : State := forN 1024 (fun i s => reassign s i) s

/-- Enable or disable a target, and reassign (R363, R559). -/
def setTarget (s : State) (t : Nat) (en : Bool) : State := reassignAll (put s (R.HUB_TGT_CTL_EN t) (b2n en))

/-- R366: partition p's own sources. -/
def ownSource (s : State) (p src : Nat) : Bool :=
  (partSource p 0 ≤ src && src ≤ partSource p 31) || (0x200 ≤ src && src < 1024 && get s (R.HUB_ROUTE_OWNER src) == p)

/-- R301, R366: may partition p raise source src? -/
def mayRaise (s : State) (p src : Nat) : Bool :=
  0x200 ≤ src && src < 1024 && get s (R.HUB_ROUTE_OWNER src) == p && isSet s (R.HUB_ROUTE_RAISE src)

/-- R366: an ignored write to a window's hub registers. -/
def pwHubErr (s : State) (p : Nat) : State := bump s (R.PW_HUB_ERR_CNT_COUNT p)

/-- R342: a partition that is not present has no window, so no access through it happens. -/
def inWindow (s : State) (p : Nat) (s' : State) : State := if present s p then s' else s

/-! ## Meanings -/

/-- HUB_RAISE (R361). -/
def execHubRaise (src : Source) (s : State) : Host.Outcome State Fault Refusal := answered s <|
  .next (raise s src)

/-- HUB_PEND_SET (R361). -/
def execHubPendSet (src : Source) (s : State) : Host.Outcome State Fault Refusal := answered s <|
  .next (raise s src)

/-- HUB_PEND_CLR (R361, R363). -/
def execHubPendClr (src : Source) (s : State) : Host.Outcome State Fault Refusal := answered s <|
  .next (pendClr s src)

/-- HUB_MASK_SET (R361, R363). -/
def execHubMaskSet (src : Source) (s : State) : Host.Outcome State Fault Refusal := answered s <|
  .next (maskSet s src)

/-- HUB_MASK_CLR (R361). -/
def execHubMaskClr (src : Source) (s : State) : Host.Outcome State Fault Refusal := answered s <|
  .next (maskClr s src)

/-- HUB_ASSIGN (R363, R365). -/
def execHubAssign (src : Source) (s : State) : Host.Outcome State Fault Refusal := .next (assignSrc s src)

/-- HUB_CLAIM (R364). -/
def execHubClaim (tgt : Target) (s : State) : Host.Outcome State Fault Refusal := answered s <|
  .next (claimRead s tgt)

/-- HUB_EOI (R364, R368): an ignored write is counted and raises HUB_ERR. -/
def execHubEoi (tgt : Target) (src : Source) (s : State) : Host.Outcome State Fault Refusal := answered s <|
  .next (if holds s tgt src then endSrc s src else raise (bump s R.HUB_ERR_CNT_COUNT) hubErr)

/-- HUB_ROUTE_WRITE (R363, R368): OWNER and RAISE are ignored for other than software sources. -/
def execHubRouteWrite (src : Source) (v : Word32) (s : State) : Host.Outcome State Fault Refusal := answered s <|
  let n := v.toNat
  let s := put (put s (R.HUB_ROUTE_TGT src) n) (R.HUB_ROUTE_VEC src) (bits n 16 5)
  let s := if 0x200 ≤ src.val
    then put (put s (R.HUB_ROUTE_OWNER src) (bits n 24 3)) (R.HUB_ROUTE_RAISE src) (bits n 27 1) else s
  .next (reassign s src)

/-- HUB_TGT_CTL_WRITE (R363, R368). -/
def execHubTgtCtlWrite (tgt : Target) (v : Word32) (s : State) : Host.Outcome State Fault Refusal := answered s <|
  let n := v.toNat
  let s := put (put s (R.HUB_TGT_CTL_PART tgt) (bits n 8 3)) (R.HUB_TGT_CTL_PDB tgt) (bits n 12 4)
  .next (setTarget s tgt (bitAt n 0))

/-- MSIX_VECTOR_UNMASK (R365): a pending vector's message is sent. -/
def execMsixVectorUnmask (p : Part) (vec : Fin 32) (s : State) : Host.Outcome State Fault Refusal := answered s <|
  .next (inWindow s p (msixMask s p vec false))

/-- PW_HUB_RAISE (R366). -/
def execPwHubRaise (p : Part) (src : Source) (s : State) : Host.Outcome State Fault Refusal := answered s <|
  .next (inWindow s p (if mayRaise s p src then raise s src else pwHubErr s p))

/-- PW_HUB_PEND_CLR (R366). -/
def execPwHubPendClr (p : Part) (src : Source) (s : State) : Host.Outcome State Fault Refusal := answered s <|
  .next (inWindow s p (if ownSource s p src then pendClr s src else pwHubErr s p))

/-- PW_HUB_MASK_SET (R366). -/
def execPwHubMaskSet (p : Part) (src : Source) (s : State) : Host.Outcome State Fault Refusal := answered s <|
  .next (inWindow s p (if ownSource s p src then maskSet s src else pwHubErr s p))

/-- PW_HUB_MASK_CLR (R366). -/
def execPwHubMaskClr (p : Part) (src : Source) (s : State) : Host.Outcome State Fault Refusal := answered s <|
  .next (inWindow s p (if ownSource s p src then maskClr s src else pwHubErr s p))

/-- PW_HUB_CLAIM (R366, R364): partition p claims on its own target Tp. -/
def execPwHubClaim (p : Part) (s : State) : Host.Outcome State Fault Refusal := answered s <|
  .next (inWindow s p (claimRead s p))

/-- PW_HUB_EOI (R366, R364). -/
def execPwHubEoi (p : Part) (src : Source) (s : State) : Host.Outcome State Fault Refusal := answered s <|
  .next (inWindow s p (if holds s p src then endSrc s src else pwHubErr s p))

end Sys2Proof.Machine
end

