-- ==== Sys2Proof/Machine/MoverCore.lean ====
section
/-! DEFINITION. The mover (R386 to R397): channels, their programs, each instruction's effect, and the halt of the whole mover. -/

namespace Sys2Proof.Machine

def chOf (s : State) (c : Nat) : MovCh := nth s.mov c MovCh.init
def modCh (s : State) (c : Nat) (f : MovCh → MovCh) : State := { s with mov := modAt s.mov c f }

/-- MOV_CH_STAT.STATE of R407. -/
def chIdle : Nat := 0
def chRun : Nat := 1
def chWait : Nat := 2
def chStop : Nat := 3

def chState (s : State) (c : Nat) : Nat := get s (R.MOV_CH_STAT_STATE c)
def chIndex (s : State) (c : Nat) : Nat := get s (R.MOV_CH_STAT_INDEX c)

/-- The partition that owns a channel, if one does (R386). -/
def chOwner (s : State) (c : Nat) : Option Nat :=
  if isSet s (R.MOV_CH_OWNER_VALID c) then some (get s (R.MOV_CH_OWNER_PART c)) else none

/-- The owner of a channel that runs. -/
def chPart (s : State) (c : Nat) : Nat := get s (R.MOV_CH_OWNER_PART c)

/-- Program status codes of R394. -/
def mvOK : Nat := 0
def mvBadProg : Nat := 1
def mvXlate : Nat := 2
def mvRange : Nat := 3
def mvBusError : Nat := 4
def mvAborted : Nat := 5
def mvPrivDenied : Nat := 6
def mvWaitTimeout : Nat := 7
def mvPoolFault : Nat := 8

/-- Does an access belong to channel c? -/
def opOfCh (c : Nat) (o : HostOp) : Bool :=
  match o.req with
  | .moverFetch d => d == c
  | .moverRead d => d == c
  | .moverWrite d => d == c
  | .moverStat d => d == c
  | _ => false

/-- Are writes of channel c still to be issued? -/
def chWriting (s : State) (c : Nat) : Bool :=
  s.host.ops.any fun o => match o.req with
    | .moverWrite d => d == c
    | .moverStat d => d == c
    | _ => false

/-- The status word of R387. -/
def statusWord (status idx moved : Nat) : Nat := status + 2 ^ 15 + 2 ^ 16 * idx + 2 ^ 32 * (moved % 2 ^ 32)

/-- Write 8 bytes at an address of the channel's program space. -/
def chWriteProg (s : State) (c a : Nat) (bs : List Byte) : State :=
  match (chOf s c).space with
  | 0 => ssmWrite s a bs
  | 1 => fsWrite s a bs
  | _ => startOp s (chPart s c) (.moverStat c) a bs.length true bs

/-- The status word of the program that ends on channel c. -/
def chWord (s : State) (c : Nat) : Nat := let x := chOf s c; statusWord x.endSt x.endIdx x.moved

/-- R387: every write of the program has completed: its status word is written. -/
def chReport (s : State) (c : Nat) : State :=
  modCh (chWriteProg s c ((2 ^ 64 + (chOf s c).base - 8) % 2 ^ 64) (leBytes 8 (chWord s c))) c fun x => { x with hold := 4 }

/-- The program of channel c ends once its writes have completed (R387, R393). -/
def chEnd (s : State) (c status idx : Nat) : State :=
  modCh s c (fun x => { x with hold := 3, endSt := status, endIdx := idx, ibuf := none, waitAt := none, reading := false })

/-- The program fails at the instruction being executed. -/
def chFail (s : State) (c status : Nat) : State := chEnd s c status (chIndex s c)

/-- R387, R394: the end of a program whose status word has been written: registers, MOV_CH_FAIL, and the ring commands that waited. -/
def chFinish (s : State) (c : Nat) : State :=
  let x := chOf s c
  let w := chWord s c
  let s := put (put s (R.MOV_CH_STAT_STATE c) chIdle) (R.MOV_CH_STAT_STATUS c) x.endSt
  let s := if x.endSt = mvOK then s else raise s (hubMovChFail c)
  let s := modCh s c (fun _ => MovCh.init)
  let s := match x.cmd with
    | none => s
    | some m => complete s m stOK w
  x.stops.foldl (fun s m => complete s m stOK 0) s

/-! ## Fetch -/

/-- Are all the bytes of instruction i that R388 does not assign zero, and its OP known? -/
def mvFormOk (i : List Byte) : Bool :=
  let op := leAt i 0 1
  if op = 1 then zeroAt i 2 2 && zeroAt i 0x18 8 && !bitAt (leAt i 1 1) 7
  else if op = 2 then zeroAt i 1 1 && zeroAt i 0x18 8
  else if op = 3 then zeroAt i 2 2 && leAt i 1 1 ≤ 1
  else if op = 4 then zeroAt i 4 4 && zeroAt i 0x18 8 && leAt i 1 1 < 8
  else false

/-- The channel receives the bytes of the instruction at INDEX; an unknown or malformed one ends the program with BAD_PROG. -/
def chReceive (s : State) (c : Nat) (i : List Byte) : State :=
  if mvFormOk i then modCh s c (fun x => { x with ibuf := some i }) else chFail s c mvBadProg

/-- R387: fetch the instruction at INDEX. A program that runs out of its SSM allocation or window has run past its last instruction
(R393, log entry 21). -/
def chFetch (s : State) (c : Nat) : State :=
  let x := chOf s c
  let a := x.base + 32 * chIndex s c
  let s := modCh s c (fun x => { x with ibuf := none })
  if a < x.lo ∨ x.hi < a + 32 then chFail s c mvBadProg
  else match x.space with
    | 0 => chReceive s c (ssmRead s a 32)
    | 1 => chReceive s c (fsRead s a 32)
    | _ => startOp s (chPart s c) (.moverFetch c) a 32 false []

/-- Go on at instruction idx; a stopping channel ends with ABORTED instead (R398). -/
def chGoto (s : State) (c idx : Nat) : State :=
  let s := modCh s c (fun x => { x with waitAt := none, reading := false, hold := 0 })
  if chState s c = chStop then chEnd s c mvAborted 0xFFFF
  else chFetch (put (put s (R.MOV_CH_STAT_INDEX c) idx) (R.MOV_CH_STAT_STATE c) chRun) c

/-- Go on at the next instruction; INDEX has 16 bits, and a program that runs past it fails with BAD_PROG. -/
def chNext (s : State) (c : Nat) : State :=
  if chIndex s c + 1 < 2 ^ 16 then chGoto s c (chIndex s c + 1) else chFail s c mvBadProg

/-- R386, R398: an idle channel starts a program. -/
def chStart (s : State) (c space base lo hi : Nat) (cmd : Option RingCmd) : State :=
  let s := modCh s c (fun _ => { MovCh.init with space := space, base := base, lo := lo, hi := hi, cmd := cmd })
  chFetch (put (put s (R.MOV_CH_STAT_STATE c) chRun) (R.MOV_CH_STAT_INDEX c) 0) c

/-! ## MOVE (R389, R390) -/

/-- The fields of a MOVE. -/
structure MvMove where
  barrier : Bool
  ssp     : Nat
  dsp     : Nat
  refop   : Nat
  len     : Nat
  src     : Nat
  dst     : Nat
  deriving DecidableEq, Repr

/-- Read a MOVE; OS and OD are added in spaces 0 to 2 (R391). -/
def mvMove (x : MovCh) (i : List Byte) : MvMove :=
  let f := leAt i 1 1
  let off (sp : Nat) (a : Nat) (o : Int) : Nat := if sp = 3 then a else wrap 64 ((a : Int) + o)
  { barrier := bitAt f 0, ssp := bits f 1 2, dsp := bits f 3 2, refop := bits f 5 2, len := leAt i 4 4,
    src := off (bits f 1 2) (leAt i 8 8) x.os, dst := off (bits f 3 2) (leAt i 0x10 8) x.od }

/-- Buffer number and offset of a coil side. -/
def coilBuf (a : Nat) : Nat := bits a 0 32
def coilOff (a : Nat) : Nat := bits a 32 16

/-- R389: does one side keep the form of its space? -/
def sideForm (sp a len : Nat) : Bool :=
  match sp with
  | 2 => a % 8 == 0 && len % 8 == 0
  | 3 => coilOff a + len ≤ 65536
  | _ => true

/-- R390: does one side lie where the owner may reach? -/
def sideRange (s : State) (o sp a len : Nat) (dest : Bool) (adds : Bool) : Bool :=
  match sp with
  | 0 => fsIn s o a len
  | 1 => true
  | 2 => ssmIn s o a len
  | _ =>
    let b := coilBuf a
    b < get s R.POOL_COUNT_N &&
      (if dest then (if isEssence s b then o == 0 else holdsBuf s o b) else (holdsBuf s o b || adds || o == 0))

/-- Read the source bytes of a side on the device. -/
def sideRead (s : State) (o sp a len : Nat) : List Byte :=
  match sp with
  | 0 => fsRead s a len
  | 2 => ssmRead s (ssmBase s o + a) len
  | _ => fsRead s (bufAddr s (coilBuf a) + coilOff a) len

/-- Write the destination bytes of a side. -/
def sideWrite (s : State) (o c sp a : Nat) (bs : List Byte) : State :=
  match sp with
  | 0 => fsWrite s a bs
  | 1 => startOp s o (.moverWrite c) a bs.length true bs
  | 2 => ssmWrite s (ssmBase s o + a) bs
  | _ => fsWrite s (bufAddr s (coilBuf a) + coilOff a) bs

/-- R389, R393: the bytes of a MOVE have been read: they are written, a release is performed, and the channel goes on once its last
access is issued; a BARRIER holds it until its writes have completed, which a posted write has when it is issued. -/
def mvDeliver (s : State) (c : Nat) (m : MvMove) (bs : List Byte) : State :=
  let o := chPart s c
  let s := if m.len = 0 then s else sideWrite s o c m.dsp m.dst bs
  let s := bumpBy (modCh s c (fun x => { x with moved := x.moved + m.len, reading := false })) (R.MOV_CH_BYTES_COUNT c) m.len
  let (ok, s) := if m.refop = 2 then poolRelease s (coilBuf m.src) (some o) else (true, s)
  if ¬ ok then chFail s c mvPoolFault
  else if m.barrier ∨ (m.dsp = 1 ∧ m.len ≠ 0) then modCh s c (fun x => { x with hold := 1 })
  else chNext s c

/-- R389, R390: carry out a MOVE. -/
def mvDoMove (s : State) (c : Nat) (i : List Byte) : State :=
  let o := chPart s c
  let m := mvMove (chOf s c) i
  let adds := m.refop == 1
  if m.refop = 3 ∨ (m.refop ≠ 0 ∧ m.ssp ≠ 3) ∨ ¬ sideForm m.ssp m.src m.len ∨ ¬ sideForm m.dsp m.dst m.len then
    chFail s c mvBadProg
  else if ¬ sideRange s o m.ssp m.src m.len false adds ∨ ¬ sideRange s o m.dsp m.dst m.len true false then
    chFail s c mvRange
  else
    let (ok, s) := if adds then poolAdd s (coilBuf m.src) (some o) else (true, s)
    if ¬ ok then chFail s c mvPoolFault
    else if m.len = 0 then mvDeliver s c m []
    else if m.ssp = 1 then
      modCh (startOp s o (.moverRead c) m.src m.len false []) c (fun x => { x with reading := true })
    else
      let bs := sideRead s o m.ssp m.src m.len
      mvDeliver s c m bs

/-! ## LOOP, WAIT, SIGNAL (R391 to R393) -/

/-- R391: carry out a LOOP. -/
def mvDoLoop (s : State) (c : Nat) (i : List Byte) : State :=
  let k := chIndex s c
  let back := leAt i 2 2
  let x := chOf s c
  let bad := back == 0 || k < back || (match x.loop with | some (j, _) => j != k | none => false)
  if bad then chFail s c mvBadProg
  else
    let n := match x.loop with | some (_, n) => n | none => leAt i 4 4
    if n = 0 then chNext (modCh s c (fun x => { x with os := 0, od := 0, loop := none })) c
    else
      let s := modCh s c (fun x => { x with loop := some (k, n - 1), os := x.os + sext 64 (leAt i 8 8),
                                            od := x.od + sext 64 (leAt i 0x10 8) })
      chGoto s c (k - back)

/-- R392: the channel waits from cycle t on; a stopping channel stays stopping. -/
def chWaiting (s : State) (c t : Nat) : State :=
  let s := if chState s c = chRun then put s (R.MOV_CH_STAT_STATE c) chWait else s
  modCh s c (fun x => { x with waitAt := some (x.waitAt.getD t) })

/-- R392: the test of a WAIT of KIND 1 at cycle t. Its SSM word must be aligned and in the owner's allocation. -/
def mvDoWaitSsm (s : State) (c t : Nat) (i : List Byte) : State :=
  let o := chPart s c
  let a := leAt i 8 8
  if a % 8 ≠ 0 then chFail s c mvBadProg
  else if ¬ ssmIn s o a 8 then chFail s c mvRange
  else if leVal (ssmRead s (ssmBase s o + a) 8) &&& leAt i 0x10 8 = leAt i 0x18 8 then chNext s c
  else chWaiting s c t

/-- R393: the write and the raise of a SIGNAL, and the end of the program with LAST. -/
def mvSignalAct (s : State) (c : Nat) (i : List Byte) : State :=
  let o := chPart s c
  let f := leAt i 1 1
  let a := leAt i 8 8
  let src := leAt i 2 2
  if bitAt f 2 ∧ a % 8 ≠ 0 then chFail s c mvBadProg
  else if bitAt f 2 ∧ ¬ ssmIn s o a 8 then chFail s c mvRange
  else
    let s := if bitAt f 2 then ssmWrite s (ssmBase s o + a) (leBytes 8 (leAt i 0x10 8)) else s
    if bitAt f 1 ∧ ¬ mayRaise s o src then chFail s c mvPrivDenied
    else
      let s := if bitAt f 1 then raise s src else s
      if bitAt f 0 then chEnd s c mvOK 0xFFFF else chNext s c

/-- R393: a SIGNAL; with LAST it first waits for every write of the program. -/
def mvDoSignal (s : State) (c : Nat) (i : List Byte) : State :=
  if bitAt (leAt i 1 1) 0 then modCh s c (fun x => { x with hold := 2 }) else mvSignalAct s c i

/-- What a channel held for its writes does once they have completed. -/
def chProgress (s : State) (c : Nat) : State :=
  if chWriting s c then s
  else match (chOf s c).hold with
    | 1 => chNext s c
    | 2 => match (chOf s c).ibuf with
      | some i => mvSignalAct (modCh s c (fun x => { x with hold := 0 })) c i
      | none => s
    | 3 => chReport s c
    | 4 => chFinish s c
    | _ => s

/-- Let every held channel make progress. -/
def chAllProgress (s : State) : State := forN 16 (fun c s => chProgress s c) s

/-! ## Halt and stop (R386, R396) -/

/-- Accesses of channel c that have not been issued are dropped; those issued will have their data discarded. -/
def chKillOps (s : State) (c : Nat) : State :=
  { s with host := { s.host with
      ops := (s.host.ops.filter fun o => !(opOfCh c o) || o.issued).map fun o => if opOfCh c o then { o with dead := true } else o } }

/-- R396: stop every running channel with MOVER_BUS_ERROR. -/
def movStopAll (s : State) : State :=
  forN 16 (fun c s => if chState s c = chIdle then s else chFail (chKillOps s c) c mvBusError) s

/-- R396: a bus error halts the whole mover. -/
def movBusError (s : State) (addr : Nat) : State :=
  let s := movStopAll s
  let s := put (put s R.MOV_STAT_HALTED 1) R.MOV_STAT_BUSERR 1
  let s := bump (put2 s R.MOV_BUSERR_ADDR_LO_ADDR R.MOV_BUSERR_ADDR_HI_ADDR addr) R.MOV_BUSERR_CNT_COUNT
  raise (fault s fltMovBus) hubMovBusError

/-- R386: a partition reset of the owner stops the channel without a status word, and restores its registers. -/
def chReset (s : State) (c : Nat) : State :=
  let s := modCh (chKillOps s c) c (fun _ => MovCh.init)
  let s := put (put (put (put s (R.MOV_CH_STAT_STATE c) 0) (R.MOV_CH_STAT_STATUS c) 0) (R.MOV_CH_STAT_INDEX c) 0)
    (R.MOV_CH_BYTES_COUNT c) 0
  let src := hubMovChFail c
  { withdraw (put (put (put s (R.HUB_PEND src) 0) (R.HUB_INSERV src) 0) (R.HUB_MASK src) 1) src with
    hub := { s.hub with assigned := eraseKey s.hub.assigned src, held := eraseKey s.hub.held src } }

/-- Is the mover halted? -/
def movHalted (s : State) : Bool := isSet s R.MOV_STAT_HALTED

end Sys2Proof.Machine
end

