-- ==== Sys2Proof/Machine/ModeCore.lean ====
section
/-! DEFINITION. Mode requests and transitions (R55 to R73), the opening of clips (R446), and the drain and whip on leaving a recording
mode (R65). -/

namespace Sys2Proof.Machine

/-! ## Programs that name a mode -/

/-- The images of a pair that hold a reservation, the active one first. -/
def admittedImages (s : State) (q p : Nat) : List (List Byte) :=
  let x := pairOf s q p
  (match activeImage s q p with | some i => if x.resvA then [i] else [] | none => []) ++
    (match standbyImage s q p with | some i => if x.resvS then [i] else [] | none => [])

/-- Every admitted program that satisfies a test, in ascending order of sequencer and pair: sequencer, pair, image. -/
def admittedWith (s : State) (f : Nat → List Byte → Bool) : List (Nat × Nat × List Byte) :=
  (List.range 4).flatMap fun q => (List.range 8).flatMap fun p =>
    if pairValid s q p then ((admittedImages s q p).filter (f (ownerOf s q p))).take 1 |>.map fun i => (q, p, i) else []

/-- The admitted P0 program that names recording mode m and the master destination (R64). -/
def masterProgram (s : State) (m : Nat) : Option (Nat × Nat × List Byte) :=
  (admittedWith s fun o i => o == 0 && hdrMaster i && runsIn i m && hdrMasterPorts i % 16 != 0).head?

/-- The admitted programs with a proxy destination whose mode set names mode m (R446). -/
def proxyPrograms (s : State) (m : Nat) : List (Nat × Nat × List Byte) :=
  if m = modeRECLG ∨ m = modeRECDUAL then admittedWith s fun _ i => hdrProxy i && runsIn i m && hdrProxyPorts i % 16 != 0 else []

/-- The ports of a four-bit mask, ascending. -/
def portsOf (mask : Nat) : List Nat := (List.range 4).filter (bitAt mask)

/-- R64, R446, R475: may port n take a clip? -/
def memberReady (s : State) (n : Nat) : Bool :=
  magPresent s n && magState s n == mgSession && hasSession s n &&
    !(isSet s (R.SBD_STAT_LIFELOW n) && !isSet s (R.SBD_CTL_LIFEOVR n)) &&
    (sessOf s n).dir.length < 65536 && 0 < freeAus (sessOf s n)

/-- R446: the lowest clip number free in the directory of every member. -/
def freeClip (s : State) (ports : List Nat) : Option Nat :=
  firstIdx (fun k => ports.all fun n => (lookupKey (sessOf s n).dir k).isNone) 0 65536

/-! ## Requests (R61, R62, R63) -/

/-- R63: the transitions P0 may request. -/
def permitted (a b : Nat) : Bool :=
  if a = modeIDLE then b == modeDORMANT || (modePREVIEW ≤ b && b ≤ modeMAINT)
  else if a = modePREVIEW then b == modeIDLE || (modeRECRAW ≤ b && b ≤ modeMAINT)
  else if isRec a then b == modePREVIEW || b == modeIDLE
  else if modePLAY ≤ a then b == modeIDLE || b == modePREVIEW
  else false

/-- R61 code 6: is a ring of any partition enabled, or a tick program installed? -/
def busyForDormant (s : State) : Bool :=
  ((List.range 8).any fun p => (List.range 16).any fun r => isSet s (R.PW_SQ_CTL_EN p r) || isSet s (R.PW_CQ_CTL_EN p r)) ||
  (s.seqs.seq.any fun q => q.pair.any fun p => p.slot0.isSome || p.slot1.isSome)

/-- R64: codes 4 and 5 for a recording mode, 0 when its master destination is ready. -/
def recordingCode (s : State) (m : Nat) : Nat :=
  match masterProgram s m with
  | none => 4
  | some (_, _, i) =>
    let ports := portsOf (hdrMasterPorts i)
    if ports.all (memberReady s) ∧ (freeClip s ports).isSome then 0 else 5

/-- R61: the cause that refuses a request, 0 when none does. -/
def requestCode (s : State) (m : Nat) : Nat :=
  if m = 0 ∨ m = 1 ∨ 12 ≤ m then 7
  else if get s R.GLB_MODE_STATE ≠ 0 ∨ anchored s then 2
  else if ¬ permitted (modeOf s) m then 1
  else if m = modeDORMANT then (if busyForDormant s then 6 else 0)
  else if isRec m then recordingCode s m
  else 0

/-- R62. -/
def modeRefuse (s : State) (m code : Nat) : State :=
  raise (bump (put (put s R.GLB_MODE_REFUSE_CODE code) R.GLB_MODE_REFUSE_MODE m) R.GLB_MODE_REFUSE_CNT_COUNT) hubModeRefused

/-- The state and target of a transition in progress. -/
def setTransition (s : State) (st target : Nat) : State := put (put s R.GLB_MODE_STATE st) R.GLB_MODE_TARGET target

/-- No transition in progress. -/
def noTransition (s : State) : State :=
  let s := setTransition s 0 (modeOf s)
  { s with tick := { s.tick with leave := none }, sup := { s.sup with forced := false, asked := none } }

/-! ## Clips (R446) -/

/-- What opening a clip writes on one member: its first AU, its directory entry, the header. -/
def openMember (c : Clip) (s : State) (n : Nat) : State :=
  match takeAu s n c.num [] with
  | none => s
  | some (u, s) =>
    let e := dirEntry 1 c.proxy (memberOf c n) c.ports.length c.part c.alaz c.stripe c.stripe 0 u 1 0 0
    let s := modSess s n fun x => { x with dir := insertKey x.dir c.num e }
    let s := showSpace s n
    let mw := mapWrites s n [u]
    let dw := dirWrite s n c.num
    let (s, hs) := headerSteps s n true
    let s := modMag s n fun m => { m with mapPend := m.mapPend ++ [u] }
    let s := addOp s n (.clipOpen c.id) ([mw, .act (.mapDone [u]), dw] ++ hs ++ [.act .clipOpened]) 7
    modMem s c.id n fun m => { m with chain := [u] }

/-- Open a clip of the program in pair p of sequencer q. -/
def openClip (s : State) (q p : Nat) (proxy alaz : Bool) (ports : List Nat) : State :=
  let k := ports.length
  let mem (n : Nat) : ClipMem :=
    { port := n, chain := [], next := 0, lastIx := none, ents := [], idxPos := [], counts := List.replicate 5 0, phase := 6, footer := 0 }
  let c : Clip :=
    { id := s.mags.nextClip, part := ownerOf s q p, seq := q, pair := p, proxy := proxy, num := (freeClip s ports).getD 0, stripe := s.tick.no,
      alaz := alaz, ports := ports, active := ports, last := 0, hist := [(s.tick.no, 2 ^ k - 1, k)],
      sns := ports.map fun n => (sessOf s n).sn, mem := ports.map mem, whip := 0 }
  let s := { s with mags := { s.mags with clips := s.mags.clips ++ [c], nextClip := s.mags.nextClip + 1 } }
  ports.foldl (openMember c) s

/-- R446: the clips of recording mode m. -/
def openClips (s : State) (m : Nat) : State :=
  let s := match masterProgram s m with
    | none => s
    | some (q, p, i) => openClip s q p false (m != modeRECRAW) (portsOf (hdrMasterPorts i))
  (proxyPrograms s m).foldl (fun s x =>
    let ports := portsOf (hdrProxyPorts x.2.2)
    if (ports.all fun n => hasSession s n && magState s n == mgSession && 0 < freeAus (sessOf s n)) && (freeClip s ports).isSome then openClip s x.1 x.2.1 true true ports
    else s) s

/-! ## Leaving a recording mode (R65, R66) -/

/-- R37: has every row of a partition's master or proxy frame committed? -/
def idCoded (s : State) (part : Nat) (proxy : Bool) (tick : Nat) : Bool :=
  match findFrame s { part := part, stream := if proxy then 1 else 0, tick := tick } with
  | none => false
  | some x => frameDone x

/-- R37: has every row of a clip's frame committed? A raw clip codes nothing. -/
def frameCoded (s : State) (tick clip : Nat) : Bool :=
  match findClipId s clip with
  | none => true
  | some c => !c.alaz || idCoded s c.part c.proxy tick

/-- Is a captured frame with ev < e still to be coded or committed for a clip that is open? -/
def frameOwed (s : State) (e : Nat) (x : Frame) : Bool :=
  x.ev < e && x.kind == 0 &&
  x.clips.any fun c => (s.mags.clips.any fun d => d.id == c.clip) && !(frameCoded s x.tick c.clip && c.done)

/-- A job or a spool operation is in progress. -/
def workLeft (s : State) : Bool :=
  (s.strs.lane.any fun l => !l.queue.isEmpty) || !s.mags.spool.isEmpty ||
  (List.range 4).any fun n => (magOf s n).ops.any fun o => match o.kind with | .record _ => true | _ => false

/-- The event number of the boundary that R65 names, once it has come. -/
def leaveEvent (s : State) : Option Nat :=
  match s.tick.leave with
  | none => none
  | some n => ((findPipe s n).map (·.ev)).orElse fun _ => some s.tick.events

/-- R65: have the frames captured before the boundary all been coded and committed? A frame that no job or operation works on any
more is not waited for once its window has passed (log entry 46). -/
def drained (s : State) : Bool :=
  match leaveEvent s with
  | none => false
  | some e =>
    let k := ((s.mags.clips.map fun c => c.active.length).foldl max 0)
    !(s.intake.frames.any (frameOwed s e)) || (e + 1 + k ≤ s.tick.events && !workLeft s)

/-- R65: a drained recording has its clips whipped, STATE 3. -/
def modeProgress (s : State) : State :=
  if get s R.GLB_MODE_STATE = 2 ∧ drained s ∧ belayUp s then
    (s.mags.clips.map (·.id)).foldl whipClip (put s R.GLB_MODE_STATE 3)
  else s

/-! ## Taking effect (R63, R69, R73) -/

/-- GLB_MODE_LAST. -/
def modeLast (s : State) (reason a b : Nat) : State :=
  put (put (put s R.GLB_MODE_LAST_REASON reason) R.GLB_MODE_LAST_FROM a) R.GLB_MODE_LAST_TO b

/-- Ending arming stops every injector (R491). -/
def injStop (s : State) : State :=
  let s := forN 17 (fun i s => clrF s (R.INJ_CTL_EN i)) (clrF s R.INJ_STAT_ARMED)
  { s with sup := { s.sup with armAt := none, inj := s.sup.inj.map fun x => { x with held := none } } }

/-- Injection ends by a write or a partition reset of P0; in MAINT it is always armed (R491). -/
def injDisarm (s : State) : State :=
  if modeOf s = modeMAINT then { s with sup := { s.sup with armAt := none } } else injStop s

/-- R491: injection at a mode transition. -/
def injMode (s : State) : State := if modeOf s = modeMAINT then setF s R.INJ_STAT_ARMED else injStop s

/-- A mode takes effect: registers and the tick number at which it did. -/
def setMode (s : State) (m reason : Nat) : State :=
  let s := modeLast s reason (modeOf s) m
  let s := put2 s R.GLB_MODE_TICK_LO_NO R.GLB_MODE_TICK_HI_NO s.tick.no
  injMode (noTransition (put s R.GLB_MODE_CUR m))

/-- R69: a program halted by mode. -/
def haltByMode (s : State) (q p : Nat) : State :=
  let s := drainAll s q p
  let s := modPair s q p fun x => { x with wait := none, stall := none, resvA := false, readmit := false }
  let s := put s (R.SEQ_PAIR_STAT_STATE q p) stByMode
  let s := modSeq s q fun x => if x.cur = some p then { x with cur := none } else x
  raiseP s (ownerOf s q p) srcHaltMode

/-- Is pair p's active program blocked, runnable or running? -/
def liveProg (s : State) (q p : Nat) : Bool := let t := progState s q p; t == stBlocked || t == stRunnable || t == stRunning

/-- R69: halt every live program whose mode set excludes the mode in force. -/
def haltExcluded (s : State) : State :=
  forN 32 (fun i s => match activeImage s (i / 8) (i % 8) with
    | none => s
    | some im => if liveProg s (i / 8) (i % 8) && !runsIn im (modeOf s) then haltByMode s (i / 8) (i % 8) else s) s

/-- R69 point 1: programs halted by mode that the new mode names wait for admission, in ascending order. -/
def queueReadmit (s : State) : State :=
  forN 32 (fun i s => match activeImage s (i / 8) (i % 8) with
    | none => s
    | some im =>
      if progState s (i / 8) (i % 8) == stByMode && runsIn im (modeOf s) && !(s.seqs.adm.any fun a => a.seq == i / 8 && a.pair == i % 8 && !a.install) then
        { s with seqs := { s.seqs with adm := s.seqs.adm ++ [{ seq := i / 8, pair := i % 8, install := false, restart := none }] } }
      else s) s

/-- Work that keeps PREVIEW, PLAY, OFFLOAD and MAINT from being left: reads and decodes accepted and not complete (R63). -/
def readsLeft (s : State) : Bool :=
  (s.strs.lane.any fun l => l.queue.any fun j => jOpc j.desc == opDecRow && !j.dead) ||
  (s.mags.spool.any fun x => spOp x.desc == 2 || spOp x.desc == 3) ||
  (List.range 4).any fun n => (magOf s n).ops.any fun o =>
    match o.kind with | .readFrame _ => true | .readBlocks _ => true | .hostio _ w => !w | _ => false

end Sys2Proof.Machine
end

