-- ==== Sys2Proof/Machine/SeqDevCore.lean ====
section
/-! DEFINITION. What the device instructions of Lysilo share (R286, R295 to R300, R305): descriptor pointers, the passing of jobs and spool
operations, and the end of a stall for a host access. -/

namespace Sys2Proof.Machine

/-! ## Descriptor pointers (R286, R306) -/

/-- Where a descriptor pointer leads: space (0 SSM, 1 frame store, 2 host), address there, and the range it may use. -/
structure DescRef where
  space : Nat
  addr  : Nat
  lo    : Nat
  hi    : Nat
  deriving DecidableEq, Repr

/-- The lowest cause of R306 that a pointer meets, for an instruction that needs it a multiple of al and uses the bytes from before it
to after it; 0 when none applies. -/
def descCause (s : State) (q p ptr al before after : Nat) : Nat :=
  if ptr < 2 ^ 63 then
    firstCause [(ptr < before || !ssmIn s (ownerOf s q p) ptr after, 2), (ptr % al != 0, 7)]
  else
    let r := winRef ((activeImage s q p).getD []) ptr
    firstCause [(r.size == 0 || r.off < before || r.size < r.off + after, 4), (ptr % al != 0 || bits ptr 51 12 != 0, 7)]

/-- Where the pointer leads. -/
def descRef (s : State) (q p ptr : Nat) : DescRef :=
  if ptr < 2 ^ 63 then
    let b := ssmBase s (ownerOf s q p)
    { space := 0, addr := b + ptr, lo := b, hi := b + ssmSize s (ownerOf s q p) }
  else
    let r := winRef ((activeImage s q p).getD []) ptr
    { space := if r.host then 2 else 1, addr := r.base + r.off, lo := r.base, hi := r.base + r.size }

/-- Carry out k when no cause of R306 applies, else fault with the cause at address a. -/
def orFault (s : State) (q p cause a : Nat) (k : State → State) : State :=
  if cause = 0 then k s else progFault s q p cause (pairOf s q p).pc a

/-! ## Spool operations (R300, R451) -/

/-- The run lists that a spool descriptor's run table names: NBANDS 8-byte addresses. -/
def spRunLists (s : State) (d : List Byte) : List Nat :=
  let n := min (lyBands (fsRead s (spLayout d) 64)) 18
  (List.range n).map fun b => leVal (fsRead s (spRuns d + 8 * b) 8)

/-- Every essence buffer that those run lists hold. -/
def spBuffers (s : State) (d : List Byte) : List Nat := (spRunLists s d).flatMap (runAll s)

/-- R300: is queue q full for the operation? A queue holds at most 1,023 commands, the greatest count that MAG_Q_HWM.DEPTH can show;
operations on their way to a queue count too (log entry 50). -/
def spoolFull (s : State) (q : Nat) : Bool :=
  ((List.range 4).any fun n => 1023 ≤ queueDepth (magOf s n) q) || 1023 ≤ (s.mags.spool.filter fun x => x.q == q).length

/-- R56, R297, R300: pass a spool descriptor to queue q. Answers the status. Where the mode does not permit the queue, the completion
shows it too, and no tag is posted. -/
def spoolPass (s : State) (sq p : Nat) (r : DescRef) (q : Nat) (d : List Byte) : Nat × State :=
  let o := ownerOf s sq p
  let op := spOp d
  if ¬ queuePermitted (modeOf s) q then
    (devModeDenied, spoolRecord s { q := q, part := o, seq := sq, pair := p, space := r.space, addr := r.addr, desc := d, dup := false }
      devModeDenied (spDoneFlags false false false false) 0 0)
  else if op ≤ 1 ∧ leavingDenies s (spTick d) then
    (devModeDenied, if op = 1 then releaseAll s (spBuffers s d) else s)
  else if op ≤ 1 ∧ ¬ spProxy d ∧ o ≠ 0 then (devPrivDenied, s)
  else if spoolFull s q then (devBusy, s)
  else
    let dup := lookupKey (partOf s o).tags (spTag d) == some false
    let x : SpoolReq := { q := q, part := o, seq := sq, pair := p, space := r.space, addr := r.addr, desc := d, dup := dup }
    let s := if dup then s else tagIssue s o (spTag d)
    (devOK, { s with mags := { s.mags with spool := s.mags.spool ++ [x] } })

/-- R298, R300: the descriptor of an ISSUE (sel none) or of a SPOOL to a queue has been read: pass it on and write the status. -/
def descPass (s : State) (q p rd : Nat) (r : DescRef) (sel : Option Nat) (d : List Byte) (cost : Nat) : State :=
  let (st, s) := match sel with
    | none => issueJob s q (ownerOf s q p) r.space r.addr d
    | some k => spoolPass s q p r k d
  seqWrite s q p rd st cost

/-! ## Stalls (R305, R306) -/

/-- The sequencer and pair whose program stalls on a host access. -/
def stalledOn (s : State) (op : Nat) : Option (Nat × Nat × Stall) :=
  ((List.range 32).findSome? fun i => match (pairOf s (i / 8) (i % 8)).stall with
    | some x => if x.op = op then some (i / 8, i % 8, x) else none
    | none => none)

/-- The cycles that an instruction which stalls is charged beside its stall (R305). -/
def stallBase (x : Stall) : Nat := if x.kind = 1 ∨ x.kind = 2 then 32 else 4

/-- The stall ends with the data read, at the cycle in force: a load writes rd, a descriptor is passed on, a store has been accepted. -/
def stallDone (s : State) (op : Nat) (data : List Byte) : State :=
  match stalledOn s op with
  | none => s
  | some (q, p, x) =>
    let s := modPair s q p fun y => { y with stall := none }
    let cost := stallBase x + (s.clk - x.since)
    pick (match x.kind with
    | 0 => seqWrite s q p x.rd (leVal data) cost
    | 1 => descPass s q p x.rd (descRef s q p x.ptr) none data cost
    | 2 => descPass s q p x.rd (descRef s q p x.ptr) (some x.sel) data cost
    | _ => seqNext s q p cost) q

/-- The stall ends with a cause of R306: 5 for a translation fault, 6 for a failed read. It is charged as any stall (R280). -/
def stallFail (s : State) (op cause : Nat) : State :=
  match stalledOn s op with
  | none => s
  | some (q, p, x) => progFault (charge s q p (stallBase x + (s.clk - x.since))) q p cause (pairOf s q p).pc x.ptr

/-- R280: a program that stalls when a tick ends is charged the part of its stall that lies in that tick. -/
def stallTick (s : State) (q p : Nat) : State :=
  match (pairOf s q p).stall with
  | none => s
  | some x =>
    if (pairOf s q p).moving then s
    else modPair (charge s q p (s.clk - x.since)) q p fun y => { y with stall := some { x with since := s.clk } }

/-- R297: an ISSUE or a SPOOL that waits for its descriptor when its partition is reset returns ABORTED. -/
def stallAbort (s : State) (q p : Nat) : State :=
  match (pairOf s q p).stall with
  | none => s
  | some x =>
    if x.kind = 1 ∨ x.kind = 2 then
      pick (seqWrite (modPair s q p fun y => { y with stall := none }) q p x.rd devAborted (32 + (s.clk - x.since))) q
    else s

end Sys2Proof.Machine
end

