-- ==== Sys2Proof/Machine/AnchorCore.lean ====
section
/-! DEFINITION. The anchor's work after it has acted (R500 to R503): each port concerned waits for its commands, then writes the selected
ready footers, then the directories and headers. -/

namespace Sys2Proof.Machine

/-- The anchor's progress on port n (State.lean says what the numbers mean). -/
def ancOf (s : State) (n : Nat) : Nat := nth s.sup.anc n 0

/-- Is the anchor at work on a port? -/
def ancBusy (a : Nat) : Bool := 1 ≤ a && a ≤ 5

/-- The writes of phase 1 on port n: every selected index and footer image, through Q0. -/
def ancPhase1Writes (s : State) (n : Nat) : List NvReq :=
  (selBank (magOf s n)).recs.flatMap fun r =>
    (match r.index with
     | some (lba, b) => [{ q := 0, kind := .write, lba := lba, blocks := 1, data := b }]
     | none => []) ++ [{ q := 0, kind := .write, lba := r.foot.1, blocks := 1, data := r.foot.2 }]

/-- Has phase 1 of a clip completed on every member? -/
def ancClipOk (s : State) (id : Nat) : Bool :=
  match findClipId s id with
  | none => true
  | some c => c.active.all fun p => ancOf s p == 4 || ancOf s p == 5 || ancOf s p == 6

/-- Phase 2 of port n: the directory blocks of the clips that get it, then the header's copies. -/
def ancPhase2Steps (s : State) (n : Nat) (rs : List Ready) : List MagStep :=
  let x := sessOf s n
  let x := { x with dir := rs.foldl (fun d r => insertKey d r.entry.1 r.entry.2) x.dir }
  let h := (selBank (magOf s n)).header
  let blocks := (rs.map fun r => r.entry.1 / 32).eraseDups
  [.cmds (blocks.map fun i => { q := 0, kind := .write, lba := 1 + i, blocks := 1, data := dirBlock x i }),
   .cmds [{ q := 0, kind := .write, lba := 0, blocks := 1, data := h }],
   .cmds [{ q := 0, kind := .write, lba := x.nsze - 1, blocks := 1, data := h }], .act .anchor2]

/-- A port that is skipped from this point. -/
def ancSkip (s : State) (n : Nat) : State :=
  let s := put (setAnc s n 7) R.FLT_ANC_STAT_SKIPPED (withBit (get s R.FLT_ANC_STAT_SKIPPED) n true)
  modMag s n fun m => { m with ops := m.ops.filter fun o => o.kind != .anchorPhase1 && o.kind != .anchorPhase2 }

/-- Steps 3 and 4 of R501 for one port. -/
def ancPort (s : State) (n : Nat) : State :=
  let a := ancOf s n
  let m := magOf s n
  if a = 7 then ancSkip s n
  else if ancBusy a && (magState s n != mgSession || !m.link) then ancSkip s n
  else if a = 1 ∨ a = 2 then
    let cmds := if a = 2 then m.cmds.filter fun c => c.st != 0 else m.cmds
    let s := modMag s n fun m => { m with cmds := cmds }
    if cmds.isEmpty then
      if (selBank m).recs.isEmpty then setAnc s n 4
      else addOp (setAnc s n 3) n .anchorPhase1 [.cmds (ancPhase1Writes s n), .act .anchor1] 0
    else s
  else s

/-- Step 5 for one port, once no port is left in step 3 or 4. -/
def ancPort2 (s : State) (n : Nat) : State :=
  if ancOf s n = 4 then
    let rs := (selBank (magOf s n)).recs.filter fun r => ancClipOk s r.clip
    if rs.isEmpty then setAnc s n 6 else addOp (setAnc s n 5) n .anchorPhase2 (ancPhase2Steps s n rs) 0
  else s

/-- Step 6: FAULT_N is asserted (R503). -/
def ancEnd (s : State) : State :=
  let s := put s R.FLT_ANC_TIME_US ((s.clk - s.sup.ancAt) / usCycles)
  raise (setF (put s R.FLT_ANC_STAT_STATE 2) R.FLT_PIN_FAULT) hubFltFatal

/-- Carry the anchor on as far as it goes. -/
def anchorRun (s : State) : State :=
  if get s R.FLT_ANC_STAT_STATE = 1 then
    let s := forN 4 (fun n s => ancPort s n) s
    let s := if s.sup.anc.any fun a => 1 ≤ a && a ≤ 3 then s else forN 4 (fun n s => ancPort2 s n) s
    if s.sup.anc.any ancBusy then s else ancEnd s
  else s

end Sys2Proof.Machine
end

