-- ==== Sys2Proof/Machine/InstallCore.lean ====
section
/-! DEFINITION. Installs in progress (R275 to R277, R281, R283, R290): the copy of an image into the install buffer, the checks of the install
status table, and the end of an install. -/

namespace Sys2Proof.Machine

/-! ## Checks of the status table (R277, R281, R283) -/

/-- The byte offset of the first reserved header byte that is not zero. -/
def hdrReserved (i : List Byte) : Option Nat :=
  let bad := fun k => (i.getD k 0) != 0
  match firstIdx bad 0x17 1 with
  | some k => some k
  | none => match firstIdx bad 0x1C 4 with
    | some k => some k
    | none => firstIdx bad 0x118 228

/-- R277: is MODES a set of modes 0x3 to 0xB that is not empty? -/
def modesOk (m : Nat) : Bool := m != 0 && bits m 0 3 == 0 && bits m 12 4 == 0

/-- R277: are FLAGS, the port masks and OVR_POLICY in order? -/
def destOk (i : List Byte) : Bool :=
  hdrFlags i < 4 && hdrMasterPorts i < 16 && hdrProxyPorts i < 16 && hdrPolicy i ≤ 3 &&
  (hdrMaster i == (hdrMasterPorts i != 0)) && (hdrProxy i == (hdrProxyPorts i != 0))

/-- R283: is window w of an image in order, for partition o? -/
def windowOk (s : State) (o : Nat) (i : List Byte) (w : Nat) : Bool :=
  let b := hdrWinBase i w
  let n := hdrWinSize i w
  if n = 0 then b == 0
  else bits b 2 10 == 0 && n % 4096 == 0 && (bitAt b 0 || fsIn s o (4096 * (b / 4096)) n)

/-- R277: the checks after the image has been read, in table order, for partition o: status and DETAIL, (0, 0) when all pass. -/
def imageCheck (s : State) (o : Nat) (i : List Byte) : Nat × Nat :=
  let n := hdrCode i
  if hdrMagic i ≠ 0x3153594C then (4, 0)
  else if hdrVersion i ≠ 1 then (5, 0)
  else if hdrBytes i ≠ 512 ∨ n = 0 ∨ n % 4 ≠ 0 ∨ 15872 < n ∨ n ≤ hdrEntry i ∨ hdrEntry i % 4 ≠ 0 then (6, 0)
  else if hdrCrc i ≠ crc32c (i.take 0x1FC ++ (i.drop 512).take n) then (7, 0)
  else match hdrReserved i with
    | some k => (8, k)
    | none =>
      if ¬ modesOk (hdrModes i) then (9, 0)
      else if hdrMaster i ∧ o ≠ 0 then (0x0A, 0)
      else if ¬ destOk i then (0x0B, 0)
      else match firstIdx (fun w => !windowOk s o i w) 0 8 with
        | some w => (0x0C, w)
        | none => match firstBadWord i with
          | some k => (0x0D, k)
          | none => (0, 0)

/-- The code bytes that a header asks for, within the slot: none are read when CODE_BYTES is out of range. -/
def codeBytes (h : List Byte) : Nat := if 15872 < hdrCode h then 0 else hdrCode h

/-! ## Progress -/

/-- The install of pair p on sequencer q that is in progress. -/
def findInstall (s : State) (q p : Nat) : Option Install := (seqOf s q).installs.find? fun x => x.pair == p

/-- The install whose image is being read or has been read on sequencer q. -/
def curInstall (s : State) (q : Nat) : Option Install := (seqOf s q).installs.find? fun x => x.stage != 0 && x.stage != 4

/-- Change the install of pair p. -/
def modInstall (s : State) (q p : Nat) (f : Install → Install) : State :=
  modSeq s q fun x => { x with installs := x.installs.map fun y => if y.pair = p then f y else y }

/-- R276: the buffer is free: the next install of sequencer q begins to read its header. -/
def installNext (s : State) (q : Nat) : State :=
  match curInstall s q with
  | some _ => s
  | none => match (seqOf s q).installs.find? fun x => x.stage == 0 with
    | none => s
    | some x =>
      if (seqOf s q).installs.any fun y => y.stage == 4 then s
      else
        let s := modInstall (modSeq s q fun y => { y with buffer := [] }) q x.pair fun y => { y with stage := 1 }
        startOp s x.cmd.part (.image q x.pair) x.addr 512 false []

/-- R276: bytes of the image have been read: after the header the code, after the code the image is in the buffer. -/
def installRead (s : State) (q p : Nat) (data : List Byte) : State :=
  match findInstall s q p with
  | none => s
  | some x =>
    let s := modSeq s q fun y => { y with buffer := y.buffer ++ data }
    let n := codeBytes (seqOf s q).buffer
    if x.stage = 1 ∧ 0 < n then
      startOp (modInstall s q p fun y => { y with stage := 2 }) x.cmd.part (.image q p) (x.addr + 512) n false []
    else modInstall s q p fun y => { y with stage := 3 }

/-- R276, R277: an install ends with its status word: STBY takes its new value, SEQ_PAIR_INST the word unless its status is BAD_PAIR or
BUSY, the completion carries it, and the buffer goes to the next install. -/
def installEnd (s : State) (q p stby word : Nat) : State :=
  match findInstall s q p with
  | none => s
  | some x =>
    let s := modSeq s q fun y => { y with installs := y.installs.filter fun z => z.pair != p, buffer := [] }
    let s := put s (R.SEQ_PAIR_STAT_STBY q p) stby
    let s := if word % 256 = 1 ∨ word % 256 = 2 then s else put s (R.SEQ_PAIR_INST_WORD q p) word
    installNext (complete s x.cmd stOK word) q

/-- An install that a check refuses: STBY returns to what it was. -/
def installRefuse (s : State) (q p word : Nat) : State := installEnd s q p (pairOf s q p).stbyOld word

/-- R277: the image in the buffer is checked; it waits for admission when every check passes. -/
def installCheck (s : State) (q : Nat) : State :=
  match curInstall s q with
  | none => s
  | some x =>
    if x.stage ≠ 3 then s
    else match imageCheck s (ownerOf s q x.pair) (seqOf s q).buffer with
      | (0, _) =>
        let s := modInstall s q x.pair fun y => { y with stage := 4 }
        { s with seqs := { s.seqs with adm := s.seqs.adm ++ [{ seq := q, pair := x.pair, install := true, restart := none }] } }
      | (st, d) => installRefuse s q x.pair (instWord st (0, 0, 0) d)

end Sys2Proof.Machine
end

