-- ==== Sys2Proof/Machine/Pump.lean ====
section
/-! DEFINITION. What goes on by itself once its conditions hold: host accesses pass through translation page by page (R370 to R376,
R395), channels and magazine operations that waited go on, clips are whipped and transitions progress. Every command that can start
such work ends with `settle`. -/

namespace Sys2Proof.Machine

/-! ## Rings that stop on an error (R355) -/

/-- A submission ring stops on a fetch error. -/
def sqFetchFail (s : State) (p r code : Nat) : State :=
  let s := put (setF (clrF s (R.PW_SQ_CTL_EN p r)) (R.PW_SQ_STAT_ERR p r)) (R.PW_SQ_STAT_ECODE p r) code
  raiseP (modSq s p r fun q => { q with visit := none }) p srcRingErr

/-- A completion ring stops on a translation fault of a completion write. -/
def cqWriteFail (s : State) (p r : Nat) : State :=
  raiseP (put (setF (cqStop s p r) (R.PW_CQ_STAT_ERR p r)) (R.PW_CQ_STAT_ECODE p r) 4) p srcRingErr

/-- R395: a translation fault stops channel c with XLATE, unless its program has ended already. The status word of a program that
ended well is the one access that can still fail it. -/
def chXlate (s : State) (c : Nat) (stat : Bool) : State :=
  let x := chOf s c
  if chState s c = chIdle then s
  else if stat then modCh s c fun x => { x with endSt := if x.endSt = mvOK then mvXlate else x.endSt }
  else if x.hold = 3 then s
  else chFail (chKillOps s c) c mvXlate

/-! ## The end of an access -/

/-- A host-direct magazine transfer ends with a ring status (R466). -/
def magDirectEnd (s : State) (n k st : Nat) : State :=
  match findMop s n k with
  | none => s
  | some o => match o.kind with
    | .hostio c _ => complete (dropMop s n k) c st (if st = stOK then leAt c.entry 0x10 4 else 0)
    | _ => s

/-- A translation fault fails only the operation that asked for the access (R373). -/
def opFault (s : State) (o : HostOp) : State :=
  let s := dropOp s o.id
  match o.req with
  | .ringFetch r _ => sqFetchFail s o.part r 1
  | .complete r => cqWriteFail s o.part r
  | .image q p => installRefuse s q p (instWord 3 (0, 0, 0) 0)
  | .load _ _ => stallFail s o.id 5
  | .store _ => stallFail s o.id 5
  | .record _ => s
  | .jobDesc _ l => descReread s l none
  | .moverFetch c => chXlate s c false
  | .moverRead c => chXlate s c false
  | .moverWrite c => chXlate s c false
  | .moverStat c => chXlate s c true
  | .magDirect n k => magDirectEnd s n k stXlate

/-- A write has been issued whole. -/
def writeIssued (s : State) (o : HostOp) : State :=
  let s := dropOp s o.id
  match o.req with
  | .complete r =>
    let s := complWritten s o.part r
    if isSet s (R.PW_CQ_CFG_IRQ o.part r) then raiseP s o.part (srcCqDone r) else s
  | .store _ => stallDone s o.id []
  | .magDirect n k => magDirectEnd s n k stOK
  | _ => s

/-- An access has been issued whole: a write is finished, a read waits for its completion. -/
def opIssued (s : State) (o : HostOp) : State := if o.write then writeIssued s o else setOp s { o with issued := true }

/-- Does the page of an access hit in the translation cache (R377, R561)? One that waited for the page's walk does not. -/
def cacheHit (s : State) (o : HostOp) : Bool :=
  let a := o.addr + o.done
  !o.missed && isSet s (R.IOM_ROOT_LO_EN o.part) && a < 2 ^ 48 && (cacheFind s o.part (a / 4096)).isSome

/-- One page of an access (R370, R561). -/
def accessPage (s : State) (o : HostOp) : State :=
  let t := if cacheHit s o then bump s R.IOM_HIT_CNT_COUNT else s
  match xlate s o.part (o.addr + o.done) o.write with
  | .hit pa =>
    let msgs := pieceMsgs s o pa
    let t := { t with sent := t.sent ++ msgs }
    let o := { o with done := o.done + pageLen o, missed := false, reqs := if o.write then 0 else msgs.length }
    if o.len ≤ o.done then opIssued t o else setOp t o
  | .miss => startWalk (setOp t { o with missed := true }) o.part ((o.addr + o.done) / 4096)
  | .flt cause level region => opFault (xfault t o.part (o.addr + o.done) o.write o.req cause level region) o

/-- An access goes on by one page. -/
def opPage (s : State) (o : HostOp) : State :=
  if o.dead then dropOp s o.id
  else if o.len ≤ o.done then opIssued s o
  else match o.req with
    | .complete r => accessPage s (complFill s o r)
    | _ => accessPage s o

/-! ## Which access goes on -/

/-- Must an access wait: for its page's walk, for its function to be allowed requests, or for one of the 512 outstanding requests of
the port (R340)? -/
def opBlocked (s : State) (o : HostOp) : Bool :=
  (o.missed && s.host.walks.any fun w => w.part == o.part && w.page == (o.addr + o.done) / 4096) ||
  !mayIssue s o.part || 512 < outstanding s - o.reqs + requestsFor s o

/-- The first access that can go on: no earlier access of the same requester is still being translated. -/
def opNext (s : State) : List HostOp → List (Nat × HostReq) → Option HostOp
  | [], _ => none
  | o :: r, seen =>
    if o.issued then opNext s r seen
    else if seen.contains (o.part, o.req) || opBlocked s o then opNext s r ((o.part, o.req) :: seen)
    else some o

/-- Accesses go on until each waits for a walk, a completion or its turn. -/
def opRun : Nat → State → State
  | 0, s => s
  | fuel + 1, s => match opNext s s.host.ops [] with
    | none => s
    | some o => opRun fuel (opPage s o)

/-! ## Reset of a partition and DORMANT entry (R381, R517) -/

/-- R381: the last whip of a partition in reset is done: its SSM area and pool references go, and the reset is over. -/
def resetEnd (s : State) (p : Nat) : State :=
  let s := { s with ssm := memClear s.ssm (ssmBase s p) (ssmSize s p) }
  let s := modPart (poolSweep s p) p fun x => { x with rst := 0 }
  bump (raise (clrF s (R.PW_STAT_RST_BUSY p)) hubPartResetDone) R.PRT_RESET_CNT_COUNT

/-- Does partition p still own a clip? -/
def ownsClip (s : State) (p : Nat) : Bool := s.mags.clips.any fun c => c.part == p

/-- Partitions whose reset waits for whips only. -/
def resetsProgress (s : State) : State :=
  forN 8 (fun p s => if (partOf s p).rst = 2 ∧ ¬ ownsClip s p then resetEnd s p else s) s

/-- R517: with every session closed, DORMANT is entered: power goes off, the frame store is lost, the host link is down. -/
def dormProgress (s : State) : State :=
  if ¬ dormEntering s then s
  else if busyForDormant s then dormAbort s 30 1
  else if (List.range 4).any fun n => hasSession s n then s
  else
    let s := forN 4 (fun n s => clrF s (R.SBD_STAT_PWREN n)) s
    let s := setF (setMode s modeDORMANT 3) R.AON_REG_STAT_LP
    { s with fs := [], host := { s.host with up := false }, sup := { s.sup with dormAt := some s.clk } }

/-! ## settle -/

/-- Enough steps for every access in hand: one for each page and a few for each access. -/
def opFuel (s : State) : Nat := 64 + (s.host.ops.map fun o => o.len / 4096 + 8).sum

/-- Enough steps for every magazine operation in hand, and one for each essence buffer of the data it holds. -/
def magFuel (s : State) : Nat :=
  let one (o : MagOp) : Nat := o.steps.length + 48 + (o.got.map fun g => g.2.length).sum / 65536
  64 + ((List.range 4).map fun n => ((magOf s n).ops.map one).sum).sum

/-- Accesses go on while the host link is up (log entry 51). -/
def hostRun (s : State) : State := if s.host.up then opRun (opFuel s) s else s

/-- One round of everything that can go on. -/
def settleOnce (s : State) : State :=
  let s := hostRun s
  let s := chAllProgress s
  let s := anchorRun (magRun (magFuel s) s)
  let s := modeProgress (clipsProgress s)
  dormProgress (resetsProgress (hostRun s))

/-- Everything that can go on by itself does so. -/
def settle (s : State) : State := settleOnce (settleOnce (settleOnce s))

/-- The outcome of a command after everything that follows from it by itself. -/
def finSettle (s : State) : Host.Outcome State Fault Refusal := .next (settle s)

end Sys2Proof.Machine
end

