-- ==== Sys2Proof/Machine/Dram.lean ====
section
/-! DEFINITION. The frame store's DRAM controller (R409 to R427): the address map, requests and their urgency, refresh, timing sets,
training and the change of frequency. -/

namespace Sys2Proof.Machine

/-! ## Address map (R413) -/

/-- The channel of a frame store address. -/
def drcChannel (a : Nat) : Nat := bits a 8 4

/-- The channel address C. -/
def drcC (a : Nat) : Nat := 256 * bits a 12 23 + bits a 0 8

/-- The bank under a map order. -/
def drcBank (map a : Nat) : Nat :=
  let c := drcC a
  match map with
  | 0 => bits c 11 4
  | 1 => bits c 8 4
  | _ => bits c 8 4 ^^^ bits c 15 4

/-- The row, its width given by the capacity. -/
def drcRow (cap a : Nat) : Nat := bits (drcC a) 15 (14 + cap)

/-- The column byte within the row. -/
def drcColumn (map a : Nat) : Nat :=
  let c := drcC a
  if map = 0 then bits c 0 11 else 256 * bits c 12 3 + bits c 0 8

/-- The number of the bank that an address lies in: 16 × channel + bank. -/
def bankOf (s : State) (a : Nat) : Nat := 16 * drcChannel a + drcBank (get s R.DRC_CFG_MAP) a

/-- The bank's open row becomes that of an address. -/
def openRowOf (s : State) (a : Nat) : State :=
  { s with dram := { s.dram with openRow := insertKey s.dram.openRow (bankOf s a) (drcRow (get s R.DRC_CFG_CAP) a) } }

/-! ## Requests (R412, R415 to R417) -/

/-- The urgency level of a request that has waited ns of its port's target. -/
def urgency (tgt ns : Nat) : Nat :=
  if 10 * ns < 5 * tgt then 0 else if 4 * ns < 3 * tgt then 1 else if 10 * ns < 9 * tgt then 2 else 3

/-- Is a waiting request the one named? -/
def sameReq (port addr : Nat) (write : Bool) (since : Nat) (r : DramReq) : Bool :=
  r.port == port && r.addr == addr && r.write == write && r.since == since

/-- R415: the request waits at its port with the level it has reached; a level never falls. -/
def waitAtPort (s : State) (port addr : Nat) (write : Bool) (since level : Nat) : State :=
  let w := s.dram.waiting
  let w := if w.any (sameReq port addr write since) then
      w.map fun r => if sameReq port addr write since r then { r with level := max r.level level } else r
    else w ++ [{ port := port, addr := addr, write := write, since := since, level := level }]
  { s with dram := { s.dram with waiting := w } }

/-- R416: requests of one port to one 64-byte unit are performed in the order of their issue: does an older one wait before this? -/
def unitBusy (s : State) (port addr since : Nat) : Bool :=
  s.dram.waiting.any fun r => r.port == port && r.addr / 64 == addr / 64 && r.since < since

/-- R417: a completed request enters its port's figures. -/
def portStat (s : State) (port ns : Nat) : State :=
  let s := putMax s (R.DRC_PORT_STAT_MAXLAT port) ns
  if get s (R.DRC_PORT_TGT_NS port) < ns then bump s (R.DRC_PORT_STAT_MISS port) else s

/-- R412: the event of an uncorrectable read. -/
def drcUe (s : State) (addr : Nat) : State :=
  let s := put2 (bump s R.DRC_ECC_UE) R.DRC_UE_ADDR_LO_ADDR R.DRC_UE_ADDR_HI_ADDR addr
  raise (fault s fltDrcUe) hubDrcUe

/-- What the requestor of a read that returned an error does, where the event itself decides it: a strand restarts its row (R259), the
mover halts (R396). A sequencer's read carries the error in its own command. -/
def readErrorAt (s : State) (port unit addr : Nat) : State :=
  if 4 ≤ port ∧ port ≤ 9 then strandReadError s (3 * (port - 4) + unit % 3)
  else if port = 16 ∧ ((List.range 16).any fun c => chState s c != chIdle) then movBusError s addr
  else s

/-- DRAM_REQUEST_DONE: not before an older request of its port to the same unit. -/
def requestDone (s : State) (port unit addr : Nat) (write : Bool) (since t : Nat) (ce ue : Bool) : State :=
  if unitBusy s port addr since then s
  else
  let s := stamp s t
  let s := { s with dram := { s.dram with waiting := s.dram.waiting.filter fun r => !sameReq port addr write since r } }
  let s := portStat (openRowOf s addr) port (cyclesNs (t - since))
  if write then s
  else
    let s := if ce then fault (bump s R.DRC_ECC_CE) fltDrcCe else s
    if ue then readErrorAt (drcUe s addr) port unit addr else s

/-! ## Refresh (R419, R420) -/

/-- Refreshes a bank still owes. -/
def owed (s : State) (b : Nat) : Nat := (lookupKey s.dram.postponed b).getD 0

/-- A bank owes n refreshes. -/
def setOwed (s : State) (b n : Nat) : State :=
  { s with dram := { s.dram with postponed := if n = 0 then eraseKey s.dram.postponed b else insertKey s.dram.postponed b n } }

/-- A refresh closes the bank's row. -/
def closeRow (s : State) (b : Nat) : State := { s with dram := { s.dram with openRow := eraseKey s.dram.openRow b } }

/-- Does a request that the block knows of wait for bank b? -/
def bankWaits (s : State) (b : Nat) : Bool := s.dram.waiting.any fun r => bankOf s r.addr == b

/-- A refresh interval of bank b ends, while requests wait for it or while none does. In an idle interval one postponed refresh is paid
back beside the due one (log entry 53). -/
def refreshDue (s : State) (b : Nat) (waiting : Bool) : State :=
  if ¬ (waiting || bankWaits s b) then setOwed (closeRow s b) b (owed s b - 1)
  else
    let n := owed s b + 1
    if n < get s R.DRC_REF_POSTMAX then setOwed s b n
    else bump (setOwed (closeRow s b) b (n - 1)) R.DRC_REF_CNT_FORCED

/-! ## Frequency change (R422 to R424) -/

/-- Has a timing set been trained? -/
def setTrained (s : State) (k : Nat) : Bool := isSet s (if k = 0 then R.DRC_STAT_TRAINED0 else R.DRC_STAT_TRAINED1)

/-- The sum of admitted DRAM byte reservations. -/
def dramReserved (s : State) : Nat := sumReserved s (fun _ _ => true) fun _ i => hdrDram i

/-- R422: the first condition that fails for a request, 0 when the change may start. -/
def freqWait (s : State) (r : FreqReq) : Nat :=
  if ¬ setTrained s r.set ∨ r.set = get s R.DRC_STAT_SET then 1
  else if r.force then 0
  else if dramLimitAt s (get s (R.DRC_TSET_RATE_MTS r.set)) < dramReserved s then 2
  else if isSet s R.TICK_OVR_LAST_LEVEL then 3
  else if s.seqs.adm.any (·.install) then 4
  else 0

/-- R422, R423: a request becomes pending. A thermally forced one is not replaced (log entry 54). -/
def freqRequest (s : State) (r : FreqReq) : State :=
  match s.dram.req with
  | some ⟨_, _, true⟩ => s
  | _ =>
    let s := { s with dram := { s.dram with req := some r } }
    if get s R.DRC_FREQ_STAT_STATE = 2 then s else put s R.DRC_FREQ_STAT_STATE 1

/-- R423: the junction reaches 100 °C: a change to set 1 is forced, unless set 1 names no lower rate, or is in force or on its way
(log entry 54). -/
def freqHot (s : State) : State :=
  let low := get s (R.DRC_TSET_RATE_MTS 1)
  if 0 < low ∧ low < get s (R.DRC_TSET_RATE_MTS 0) ∧ get s R.DRC_STAT_SET = 0 ∧ s.dram.rateSet = 0 then
    let s := { s with dram := { s.dram with req := some { set := 1, force := true, hot := true } } }
    if get s R.DRC_FREQ_STAT_STATE = 2 then s else put s R.DRC_FREQ_STAT_STATE 1
  else s

/-- R32, R422: the DRAM frequency change step of a tick boundary. -/
def freqBoundary (s : State) : State :=
  match s.dram.req with
  | none => s
  | some r =>
    if get s R.DRC_FREQ_STAT_STATE = 2 then s
    else
      let w := freqWait s r
      let s := put s R.DRC_FREQ_STAT_WAIT w
      if w ≠ 0 then s
      else
        let s := setF (put s R.DRC_FREQ_STAT_STATE 2) R.DRC_STAT_FCBUSY
        let s := { s with dram := { s.dram with req := none, rateSet := r.set, started := s.clk } }
        overcommitSet (if r.hot then raise (setF s R.DRC_STAT_HOT) hubDrcHot else s)

/-- FREQ_CHANGE_DONE. -/
def freqDone (s : State) (relocked : Bool) (t : Nat) : State :=
  if get s R.DRC_FREQ_STAT_STATE ≠ 2 then s
  else
    let s := stamp s t
    let s := if relocked then put s R.DRC_STAT_SET s.dram.rateSet
      else { setF s R.DRC_FREQ_STAT_FAILED with dram := { s.dram with rateSet := get s R.DRC_STAT_SET } }
    let s := { s with dram := { s.dram with postponed := [], openRow := [] } }
    let s := put s R.DRC_FREQ_STAT_LAST (min 255 ((t - s.dram.started) / 120))
    let s := put (clrF s R.DRC_STAT_FCBUSY) R.DRC_FREQ_STAT_STATE (if s.dram.req.isSome then 1 else 0)
    overcommitCheck (raise (bump s R.DRC_FREQ_CNT_COUNT) hubDrcFreqDone)

/-! ## Training and configuration (R418, R425) -/

/-- Are writes to timing set k taken? -/
def tsetOpen (s : State) (k : Nat) : Bool :=
  k != get s R.DRC_STAT_SET && (modeOf s == modeIDLE || modeOf s == modeMAINT)

/-- TRAINED of a set. -/
def putTrained (s : State) (k : Nat) (b : Bool) : State := put s (if k = 0 then R.DRC_STAT_TRAINED0 else R.DRC_STAT_TRAINED1) (b2n b)

/-- A word of a timing set takes a value. -/
def putTset (s : State) (k reg v : Nat) : State :=
  match reg with
  | 0 => put s (R.DRC_TSET_RATE_MTS k) (bits v 0 14)
  | 1 => put (put (put s (R.DRC_TSET_A_RCD k) (bits v 0 8)) (R.DRC_TSET_A_RP k) (bits v 8 8)) (R.DRC_TSET_A_RAS k) (bits v 16 8)
  | 2 => put (put s (R.DRC_TSET_B_WR k) (bits v 0 8)) (R.DRC_TSET_B_RFCPB k) (bits v 8 12)
  | _ => put s (R.DRC_TSET_C_REFI k) (bits v 0 16)

/-- Does an admitted program declare a requirement for a port that is shorter than ns? -/
def latShorter (s : State) (port ns : Nat) : Bool :=
  (reservedImages s).any fun x => (List.range 8).any fun k =>
    hdrLatPort x.2 k == port && !(hdrLatPort x.2 k == 0 && hdrLatNs x.2 k == 0) && hdrLatNs x.2 k < ns

/-! ## Meanings -/

/-- DRAM_REQUEST_DONE (R412, R415 to R417, R259, R396): a request accepted at cycle since completes at cycle t; unit names the strand
within its port's three. -/
def execDramRequestDone (port : Fin 24) (unit addr : Nat) (write : Bool) (since t : Nat) (ce ue : Bool) (s : State) :
    Host.Outcome State Fault Refusal :=
  finSettle (requestDone s port unit addr write since t ce ue)

/-- URGENCY_ESCALATE (R415). -/
def execUrgencyEscalate (port : Fin 24) (addr : Nat) (write : Bool) (since t : Nat) (s : State) : Host.Outcome State Fault Refusal :=
  .next (waitAtPort (stamp s t) port addr write since (urgency (get s (R.DRC_PORT_TGT_NS port)) (cyclesNs (t - since))))

/-- REFRESH_DUE (R419, R420). -/
def execRefreshDue (chan bank : Fin 16) (waiting : Bool) (s : State) : Host.Outcome State Fault Refusal :=
  .next (refreshDue s (16 * chan.val + bank.val) waiting)

/-- DQS_TRACKING (R411): every 100 ms. -/
def execDqsTracking (t : Nat) (s : State) : Host.Outcome State Fault Refusal :=
  .next (if 100 * msCycles + s.dram.lastDqs ≤ t then { stamp s t with dram := { s.dram with lastDqs := t } } else s)

/-- MR4_READ (R411, R426): one rate code for each channel. -/
def execMr4Read (codes : List (BitVec 3)) (s : State) : Host.Outcome State Fault Refusal :=
  let l := ((codes.take 16).map (·.toNat)).zipIdx
  let m := (l.filter fun c => c.1 != 0).map fun c => (c.2, c.1)
  .next (put { s with dram := { s.dram with mr4 := m } } R.DRC_MR4_RATE ((l.map (·.1)).foldl max 0))

/-- DRC_FREQ_SET (R422). -/
def execDrcFreqSet (set : Fin 2) (s : State) : Host.Outcome State Fault Refusal := answered s <|
  .next (freqRequest s { set := set, force := false, hot := false })

/-- DRC_FREQ_FORCE (R423). -/
def execDrcFreqForce (set : Fin 2) (s : State) : Host.Outcome State Fault Refusal := answered s <|
  .next (freqRequest s { set := set, force := true, hot := false })

/-- DRC_FREQ_CANCEL (R422): no effect on a change in progress. -/
def execDrcFreqCancel (s : State) : Host.Outcome State Fault Refusal := answered s <|
  .next (match s.dram.req with
    | some ⟨_, _, false⟩ =>
      let s := { s with dram := { s.dram with req := none } }
      if get s R.DRC_FREQ_STAT_STATE = 1 then put (put s R.DRC_FREQ_STAT_STATE 0) R.DRC_FREQ_STAT_WAIT 0 else s
    | _ => s)

/-- FREQ_CHANGE_DONE (R421, R424, R46). -/
def execFreqChangeDone (relocked : Bool) (t : Nat) (s : State) : Host.Outcome State Fault Refusal := .next (freqDone s relocked t)

/-- DRC_TRAIN (R425): a write of 1 trains the inactive set. -/
def execDrcTrain (v : Word32) (s : State) : Host.Outcome State Fault Refusal := answered s <|
  let k := 1 - get s R.DRC_STAT_SET
  .next (if ¬ bitAt v.toNat 0 then s
    else if tsetOpen s k ∧ s.dram.training.isNone then { s with dram := { s.dram with training := some k } }
    else setF s R.DRC_STAT_CFGERR)

/-- TRAINING_DONE (R425). -/
def execTrainingDone (ok : Bool) (s : State) : Host.Outcome State Fault Refusal :=
  .next (match s.dram.training with
    | none => s
    | some k => putTrained { s with dram := { s.dram with training := none } } k ok)

/-- DRC_PORT_TGT_WRITE (R418). -/
def execDrcPortTgtWrite (port : Fin 24) (v : Word32) (s : State) : Host.Outcome State Fault Refusal := answered s <|
  let n := bits v.toNat 0 16
  .next (if n < 250 ∨ (get s (R.DRC_PORT_TGT_NS port) < n ∧ latShorter s port n) then setF s R.DRC_STAT_CFGERR
    else put s (R.DRC_PORT_TGT_NS port) n)

/-- DRC_TSET_WRITE (R425). -/
def execDrcTsetWrite (set : Fin 2) (reg : Fin 4) (v : Word32) (s : State) : Host.Outcome State Fault Refusal := answered s <|
  .next (if tsetOpen s set then putTrained (putTset s set reg v.toNat) set false else setF s R.DRC_STAT_CFGERR)

end Sys2Proof.Machine
end

