-- ==== Sys2Proof/Machine/PartReset.lean ====
section
/-! DEFINITION. The partition reset (R380 to R385, R247, R386, R455): what it does at once. Programs halt at the next boundary, and the
reset ends with the last whip. -/

namespace Sys2Proof.Machine

/-- Registers at addresses from lo to hi that a scope restores go back to their reset values. -/
def restoreRange (s : State) (sc : Scope) (lo hi : Nat) : State :=
  { s with regs := s.regs.filter fun c => !(c.scope == sc && 32 * lo ≤ c.key && c.key < 32 * hi) }

/-- A ring command of partition p that will end without a completion. -/
def deadCmd (p : Nat) (c : RingCmd) : RingCmd := if c.part = p then { c with part := 8 } else c

/-- The command of a magazine operation ends without a completion when it is p's. -/
def deadKind (p : Nat) : MagKind → MagKind
  | .opening c => .opening (deadCmd p c)
  | .closing c => .closing (c.map (deadCmd p))
  | .formatting c t => .formatting (deadCmd p c) t
  | .hostio c w => .hostio (deadCmd p c) w
  | k => k

/-- The spool request of an operation. -/
def kindSpool : MagKind → Option SpoolReq
  | .record r => r.sp
  | .readFrame x => some x
  | .readBlocks x => some x
  | .trimOp x => some x
  | _ => none

/-- A spool operation in progress that ends without a completion record. -/
def deadSpool (p : Nat) (x : SpoolReq) : SpoolReq := if x.part = p then { x with q := x.q % 8 + 8 } else x

/-- The same for the operation that carries it out. -/
def deadSpoolKind (p : Nat) : MagKind → MagKind
  | .record r => .record { r with sp := r.sp.map (deadSpool p) }
  | .readFrame x => .readFrame (deadSpool p x)
  | .readBlocks x => .readBlocks (deadSpool p x)
  | .trimOp x => .trimOp (deadSpool p x)
  | k => k

/-- R455: is an operation partition p's and has it issued no command? -/
def opRemoved (p : Nat) (o : MagOp) : Bool :=
  !o.begun && match kindSpool o.kind with
    | some x => x.part == p
    | none => false

/-- R455: an operation is removed: its commands go, its references are released, and its record is placed nowhere. -/
def removeOp (s : State) (n : Nat) (o : MagOp) : State :=
  let s := dropMop (modMag s n fun m => { m with cmds := m.cmds.filter fun c => c.op != o.id }) n o.id
  match o.kind with
  | .record r => modMem (freeRec s r) r.clip n fun m => { m with ents := m.ents.filter fun e => e.lba != r.lba }
  | _ => s

/-- A host-direct transfer of partition p that waits for its host access (R381). -/
def hostWaits (p : Nat) (o : MagOp) : Bool :=
  match o.kind, o.steps with
  | .hostio c _, .host :: _ => c.part == p
  | _, _ => false

/-- R455: partition p's spool operations that have issued no command are removed, and those in progress finish without records. -/
def spoolReset (s : State) (p : Nat) : State :=
  let mine := s.mags.spool.filter fun x => x.part == p
  let s := { s with mags := { s.mags with spool := s.mags.spool.filter fun x => x.part != p } }
  let s := mine.foldl (fun s x => if spOp x.desc ≤ 1 then releaseAll s (spBuffers s x.desc) else s) s
  let s := forN 4 (fun n s => ((magOf s n).ops.filter (opRemoved p)).foldl (fun s o => removeOp s n o) s) s
  forN 4 (fun n s => modMag s n fun m => { m with ops := (m.ops.filter fun o => !hostWaits p o).map fun o => { o with kind := deadSpoolKind p (deadKind p o.kind) } }) s

/-- R247: partition p's queued jobs are removed; its running ones stop after the row in progress. -/
def jobsReset (s : State) (p : Nat) : State :=
  let keep (run : Bool) (q : List Job) : List Job :=
    (if run then (q.take 1).map fun j => if j.part = p then { j with dead := true } else j else []) ++
      (q.drop (b2n run)).filter fun j => j.part != p
  let lane (l : Lane) : Lane :=
    let gone := l.restore && (match l.queue with | j :: _ => j.part == p | [] => true)
    { l with queue := keep (l.running && !gone) l.queue, restore := l.restore && !gone, gap := l.gap && !gone,
             reread := if gone then none else l.reread }
  let tests := s.strs.tests.map fun j => if j.part = p then { j with dead := true } else j
  let s := { s with strs := { s.strs with lane := s.strs.lane.map lane, tests := tests } }
  stopDeadJobs (forN 18 (fun l s => modLane s l fun x => x) s)

/-- R361, R381: PEND and INSERV of p's own sources clear and MASK sets; routes stay. -/
def hubReset (s : State) (p : Nat) : State :=
  let one (i : Nat) (s : State) : State :=
    if ownSource s p i then
      let s := put (put (put s (R.HUB_PEND i) 0) (R.HUB_INSERV i) 0) (R.HUB_MASK i) 1
      { s with hub := { s.hub with assigned := eraseKey s.hub.assigned i, held := eraseKey s.hub.held i } }
    else s
  let s := forN 1024 one s
  { s with hub := { s.hub with vecMask := setAt s.hub.vecMask p 0xFFFFFFFF, vecPend := setAt s.hub.vecPend p 0
                               msixTab := s.hub.msixTab.filter fun e => e.1 / 128 != p } }

/-- R375: every cache entry of partition p goes, and its walks are repeated. -/
def cachePurge (s : State) (p first pages : Nat) : State :=
  let hit (a b : Nat) : Bool := a == p && (pages == 0 || (first ≤ b && b < first + pages))
  let cache := s.host.cache.filter fun e => !hit e.part e.page
  let walks := s.host.walks.map fun w => if hit w.part w.page then { w with again := true } else w
  { s with host := { s.host with cache := cache, walks := walks } }

/-- R381: partition p's host accesses not issued are dropped, the data of those issued is discarded, and its walks end. -/
def accessReset (s : State) (p : Nat) : State :=
  let ops := (s.host.ops.filter fun o => o.part != p || o.issued).map fun o => if o.part = p then { o with dead := true } else o
  { s with host := { s.host with ops := ops, walks := s.host.walks.filter fun w => w.part != p,
                                 cache := s.host.cache.filter (fun e => e.part != p), cmds := s.host.cmds.filter fun c => c.part != p } }

/-- Ring state starts again; completion rings keep counting their enablings, so that no old completion is written. -/
def ringsReset (s : State) (p : Nat) : State :=
  modPH s p fun h => { PartHost.init with cq := h.cq.map fun q => { gen := q.gen + 1, used := 0, resv := 0 } }

/-- Installs of partition p end without a completion. -/
def installsReset (s : State) (p : Nat) : State :=
  forN 4 (fun q s =>
    let s := modSeq s q fun x => { x with installs := x.installs.filter fun i => i.cmd.part != p }
    let s := { s with seqs := { s.seqs with adm := s.seqs.adm.filter fun a => !(a.seq == q && a.install && ownerOf s q a.pair == p) } }
    installNext s q) s

/-- R381: a partition reset of p begins; one in progress is joined. -/
def partReset (s : State) (p : Nat) : State :=
  if (partOf s p).rst ≠ 0 then s
  else
    let w := 0x400000 + 0x10000 * p
    let s := restoreRange (restoreRange s .partition w (w + 0x10000)) .partition (0xC1000 + 0x400 * p) (0xC1400 + 0x400 * p)
    let s := setF s (R.PW_STAT_RST_BUSY p)
    let s := modPart s p fun _ => { PartSt.init with rst := 1 }
    let s := spoolReset (jobsReset s p) p
    let s := forN 16 (fun c s => if chOwner s c = some p then chReset s c else s) s
    let s := forN 32 (fun i s => if ownerOf s (i / 8) (i % 8) = p then stallAbort s (i / 8) (i % 8) else s) s
    let s := accessReset (hubReset s p) p
    let s := if p = 0 then injDisarm s else s
    ringsReset (installsReset s p) p

end Sys2Proof.Machine
end

