-- ==== Sys2Proof/Machine/Host.lean ====
section
/-! DEFINITION. The host interface's commands (R342 to R358, R370 to R383): rings, translation, invalidation, allocations, partition
resets, and the completion of the device's reads. -/

namespace Sys2Proof.Machine

/-! ## Ring service (R350 to R354) -/

/-- Is ring r of partition p enabled and rung? -/
def sqLive (s : State) (p r : Nat) : Bool := isSet s (R.PW_SQ_CTL_EN p r) && isSet s (R.PW_SQ_STAT_RUNG p r)

/-- Has partition p a ring to serve (R342, R381)? -/
def partRung (s : State) (p : Nat) : Bool :=
  present s p && (partOf s p).rst == 0 && (List.range 16).any (sqLive s p)

/-- The completion ring of submission ring r. -/
def cqFor (s : State) (p r : Nat) : Nat := get s (R.PW_SQ_CFG_CQ p r)

/-- R351: may an entry be taken for completion ring c? -/
def cqRoom (s : State) (p c : Nat) : Bool :=
  !isSet s (R.PW_CQ_CTL_EN p c) ||
  (cqOf s p c).used + (cqOf s p c).resv + 1 < ringSize (get s (R.PW_CQ_CFG_LOG2N p c))

/-- Entries a visit to ring r may still take, with n taken. -/
def visitLeft (s : State) (p r n : Nat) : Nat :=
  min (get s (R.PW_SQ_CFG_BURST p r) - n) (min (sqOf s p r).credit (phOf s p).deficit)

/-- R350 steps 1 and 4: read the next window of a visit that has taken n entries: BURST entries, or those up to the ring's last. The
visit ends when nothing more may be taken. -/
def readWindow (s : State) (p r n : Nat) : State :=
  let size := ringSize (get s (R.PW_SQ_CFG_LOG2N p r))
  let at_ := get s (R.PW_SQ_STAT_TAKEN p r)
  let k := min (get s (R.PW_SQ_CFG_BURST p r)) (size - at_)
  if visitLeft s p r n = 0 ∨ ¬ cqRoom s p (cqFor s p r) ∨ ¬ isSet s (R.PW_SQ_CTL_EN p r) then modSq s p r fun q => { q with visit := none }
  else startOp (modSq s p r fun q => { q with visit := some n }) p (.ringFetch r k) (sqBase s p r + 64 * at_) (64 * k) false []

/-- The opcodes of R357, R398 and R466. -/
def opcodeKnown (n : Nat) : Bool := n ≤ 3 || (0x10 ≤ n && n ≤ 0x13) || (0x20 ≤ n && n ≤ 0x23)

/-- R350 step 2, R351: an owned entry is taken; an unknown opcode completes at once. -/
def takeEntry (s : State) (p r : Nat) (e : List Byte) : State :=
  let size := ringSize (get s (R.PW_SQ_CFG_LOG2N p r))
  let at_ := get s (R.PW_SQ_STAT_TAKEN p r) + 1
  let s := if at_ < size then put s (R.PW_SQ_STAT_TAKEN p r) at_
    else put (put s (R.PW_SQ_STAT_TAKEN p r) 0) (R.PW_SQ_STAT_SENSE p r) (1 - get s (R.PW_SQ_STAT_SENSE p r))
  let c := cqFor s p r
  let en := isSet s (R.PW_CQ_CTL_EN p c)
  let s := if en then modCq s p c fun q => { q with resv := q.resv + 1 } else s
  let s := modSq s p r fun q => { q with open_ := q.open_ + 1, credit := q.credit - 1, visit := q.visit.map (· + 1) }
  let s := clrF (modPH s p fun h => { h with deficit := h.deficit - 1 }) (R.PW_SQ_STAT_IDLE p r)
  let m : RingCmd := { part := p, sq := r, cq := c, resv := if en then some (cqOf s p c).gen else none, id := leAt e 2 2,
                       opc := leAt e 0 1, entry := e }
  if opcodeKnown m.opc then { s with host := { s.host with cmds := s.host.cmds ++ [m] } } else complete s m stBadOpcode 0

/-- R350 steps 2 to 5 for the entries of a window: take those owned, up to the first that is not or that may not be taken. -/
def takeWindow (s : State) (p r : Nat) : List (List Byte) → State
  | [] => readWindow s p r ((sqOf s p r).visit.getD 0)
  | e :: es =>
    if b2n (bitAt (leAt e 1 1) 0) ≠ get s (R.PW_SQ_STAT_SENSE p r) then
      let s := put s (R.PW_SQ_STAT_RUNG p r) (b2n (sqOf s p r).again)
      modSq s p r fun q => { q with visit := none, again := false }
    else if visitLeft s p r ((sqOf s p r).visit.getD 0) = 0 ∨ ¬ cqRoom s p (cqFor s p r) then
      modSq s p r fun q => { q with visit := none }
    else takeWindow (takeEntry s p r e) p r es

/-- The entries of a window's bytes. -/
def splitEntries (data : List Byte) (n : Nat) : List (List Byte) := (List.range n).map fun i => sliceBytes data (64 * i) 64

/-- May ring r of partition p be visited: it is enabled and rung, its completion ring has room, and its function may read. -/
def ringReady (s : State) (p r : Nat) : Bool := partRung s p && sqLive s p r && cqRoom s p (cqFor s p r) && mayIssue s p

/-- Is a visit in progress, of a partition whose function may read? -/
def visiting (s : State) : Bool :=
  (List.range 8).any fun p => mayIssue s p && (List.range 16).any fun r => (sqOf s p r).visit.isSome

/-- The first number after k, cyclically below n, that passes a test. -/
def nextCyclic (n k : Nat) (f : Nat → Bool) : Option Nat :=
  ((List.range n).map fun i => (k + 1 + i) % n).find? f

/-- R354: the partition whose turn it is: it goes on while it has deficit; then the next that may be visited gains its quanta. One
with no rung ring keeps no deficit. -/
def turnPart (s : State) : Option (Nat × State) :=
  let s := forN 8 (fun p s => if partRung s p then s else modPH s p fun h => { h with deficit := 0 }) s
  let can (p : Nat) : Bool := (List.range 16).any (ringReady s p)
  if can s.host.turn && (phOf s s.host.turn).deficit != 0 then some (s.host.turn, s)
  else (nextCyclic 8 s.host.turn can).map fun p =>
    (p, modPH { s with host := { s.host with turn := p } } p fun h => { h with deficit := h.deficit + get s (R.PRT_SHARE_HOST p) })

/-- R353: the ring of partition p whose turn it is: the next that has credit. When none has, the round ends and all credits are
refilled. -/
def turnRing (s : State) (p : Nat) : Option (Nat × State) :=
  let rich (s : State) (r : Nat) : Bool := ringReady s p r && (sqOf s p r).credit != 0
  let s := if (List.range 16).any (rich s) then s
    else forN 16 (fun r s => modSq s p r fun q => { q with credit := get s (R.PW_SQ_CFG_WEIGHT p r) }) s
  (nextCyclic 16 (phOf s p).turn (rich s)).map fun r => (r, modPH s p fun h => { h with turn := r })

/-- The ring whose turn it is (R353, R354). -/
def ringTurn (s : State) : Option ((Nat × Nat) × State) :=
  match turnPart s with
  | none => none
  | some (p, s) => (turnRing s p).map fun x => ((p, x.1), x.2)

/-- R350: a visit to ring r of partition p begins, in its turn. -/
def serveRing (s : State) (p r : Nat) : State :=
  if anchored s ∨ ¬ s.host.up ∨ visiting s then s
  else match ringTurn s with
    | none => s
    | some (x, s') => if x = (p, r) then readWindow (modSq s' p r fun q => { q with again := false, visit := none }) p r 0 else s

/-- A submission ring is enabled (R355). -/
def sqEnable (s : State) (p r : Nat) : State :=
  if (partOf s p).rst ≠ 0 then put (setF s (R.PW_SQ_STAT_ERR p r)) (R.PW_SQ_STAT_ECODE p r) 3
  else if isSet s (R.PW_SQ_CTL_EN p r) then s
  else
    let mine (o : HostOp) : Bool := o.part == p && match o.req with | .ringFetch k _ => k == r | _ => false
    let ops := (s.host.ops.filter fun o => !mine o || o.issued).map fun o => if mine o then { o with dead := true } else o
    let s := { s with host := { s.host with ops := ops } }
    let s := put (put (setF s (R.PW_SQ_CTL_EN p r)) (R.PW_SQ_STAT_TAKEN p r) 0) (R.PW_SQ_STAT_SENSE p r) 1
    modSq s p r fun q => { q with visit := none, again := false }

/-- A completion ring is enabled (R351, R355). -/
def cqEnable (s : State) (p r : Nat) : State :=
  if (partOf s p).rst ≠ 0 then put (setF s (R.PW_CQ_STAT_ERR p r)) (R.PW_CQ_STAT_ECODE p r) 3
  else if isSet s (R.PW_CQ_CTL_EN p r) then s
  else
    let s := put (put (setF s (R.PW_CQ_CTL_EN p r)) (R.PW_CQ_STAT_TAIL p r) 0) (R.PW_CQ_STAT_SENSE p r) 1
    modCq (put s (R.PW_CQ_HEAD_INDEX p r) 0) p r fun q => { gen := q.gen + 1, used := 0, resv := 0 }

/-- R351: a write of PW_CQ_HEAD. -/
def cqHead (s : State) (p r v : Nat) : State :=
  let size := ringSize (get s (R.PW_CQ_CFG_LOG2N p r))
  let h := get s (R.PW_CQ_HEAD_INDEX p r)
  let n := (v + size - h) % size
  if v < size ∧ n ≤ (cqOf s p r).used then
    modCq (put s (R.PW_CQ_HEAD_INDEX p r) v) p r fun q => { q with used := q.used - n }
  else put (setF s (R.PW_CQ_STAT_ERR p r)) (R.PW_CQ_STAT_ECODE p r) 5

/-! ## Ring command forms (R346, R358) -/

/-- Are FLAGS [7:1] and every PARAM byte outside the fields given (offset, length) zero? -/
def formOk (e : List Byte) (fields : List (Nat × Nat)) : Bool :=
  leAt e 1 1 ≤ 1 && (List.range 60).all fun i => fields.any (fun f => f.1 ≤ i + 4 && i + 4 < f.1 + f.2) || leAt e (i + 4) 1 == 0

/-! ## Translation (R371 to R375, R561) -/

/-- Accesses that wait for the walk of a page. -/
def waitingOn (s : State) (p page : Nat) : List HostOp :=
  s.host.ops.filter fun o => o.part == p && o.missed && !o.issued && (o.addr + o.done) / 4096 == page

/-- A walk ends with a fault: every access that waited for it fails. -/
def walkFault (s : State) (p page cause level region : Nat) : State :=
  (waitingOn s p page).foldl (fun s o =>
    opFault (xfault s p (o.addr + o.done) o.write o.req cause level region) o) s

/-- A leaf enters the cache of 2,048 entries; which entry a full cache gives up is a free value (log entry 3). -/
def cacheAdd (s : State) (e : CacheEnt) : State :=
  if s.host.cache.length < 2048 then { s with host := { s.host with cache := s.host.cache ++ [e] } }
  else
    let c := s.host.cache.eraseIdx (freeVal s % 2048)
    useFree { s with host := { s.host with cache := c ++ [e] } }

/-- The leaf entry v of a page. -/
def leafOf (p page v : Nat) : CacheEnt :=
  { part := p, page := page, frame := bits v 12 40, r := bitAt v 1, w := bitAt v 2, peer := bitAt v 3, ns := bitAt v 4 }

/-- The walk of a page is taken off the list, or begins again from the root when an invalidation met it (R375), with the checks of
R561 before its first read. -/
def walkEnds (s : State) (w : Walk) (k : State → State) : State :=
  let s := { s with host := { s.host with walks := s.host.walks.filter fun x => !(x.part == w.part && x.page == w.page) } }
  if ¬ w.again then k s
  else match xlate s w.part (4096 * w.page) false with
    | .flt cause level region => walkFault s w.part w.page cause level region
    | _ => startWalk s w.part w.page

/-- R561 step 3: the entry read at a level of a walk. -/
def tableRead (s : State) (w : Walk) (ok : Bool) (v : Nat) : State :=
  let fail (cause region : Nat) : State := walkEnds s w fun s => walkFault s w.part w.page cause w.level region
  if ¬ ok then fail 4 31
  else if ¬ bitAt v 0 then fail 1 31
  else if w.level = 1 then
    if bits v 5 3 ≠ 0 ∨ bits v 52 12 ≠ 0 then fail 3 31
    else walkEnds s w fun s => cacheAdd s (leafOf w.part w.page v)
  else if bits v 1 7 ≠ 0 ∨ bits v 52 12 ≠ 0 then fail 3 31
  else
    let table := 4096 * bits v 12 40
    match regionOf s table with
    | some r => fail 5 r
    | none =>
      let x := { w with level := w.level - 1, entry := table + 8 * bits (4096 * w.page) (12 + 9 * (w.level - 2)) 9 }
      { s with host := { s.host with walks := s.host.walks.map fun y => if y.part = w.part ∧ y.page = w.page then x else y } }

/-- R375: has an access of the partition that is not complete been issued to a page being invalidated? -/
def invBusy (s : State) (i : Inval) : Bool :=
  s.host.ops.any fun o => o.part == i.part && o.done != 0 &&
    (i.pages == 0 || (4096 * i.first < o.addr + o.done && o.addr < 4096 * (i.first + i.pages)))

/-! ## Allocations (R378) -/

/-- Does partition p hold an installed program? -/
def hasProgram (s : State) (p : Nat) : Bool :=
  (List.range 4).any fun q => (List.range 8).any fun k =>
    pairValid s q k && ownerOf s q k == p && ((pairOf s q k).slot0.isSome || (pairOf s q k).slot1.isSome)

/-- Has partition p an enabled ring? -/
def hasRing (s : State) (p : Nat) : Bool :=
  (List.range 16).any fun r => isSet s (R.PW_SQ_CTL_EN p r) || isSet s (R.PW_CQ_CTL_EN p r)

/-- Do two areas of base and size overlap? An empty one overlaps nothing. -/
def areasMeet (a n b m : Nat) : Bool := n != 0 && m != 0 && a < b + m && b < a + n

/-- R378: a write of PRT_FS_SIZE. -/
def fsCommit (s : State) (p pages : Nat) : State :=
  let base := 4096 * get s (R.PRT_FS_BASE_LO_ADDR p) + 2 ^ 32 * get s (R.PRT_FS_BASE_HI_ADDR p)
  let size := 4096 * pages
  let bad := hasProgram s p || hasRing s p || fsCapacity s < base + size ||
    (List.range 8).any fun k => k != p && areasMeet base size (fsBase s k) (fsSize s k)
  if bad then
    let s := setF s R.PRT_CFG_CFGERR
    put (put s (R.PRT_FS_BASE_LO_ADDR p) (bits (fsBase s p) 12 20)) (R.PRT_FS_BASE_HI_ADDR p) (bits (fsBase s p) 32 3)
  else { put s (R.PRT_FS_SIZE_PAGES p) pages with areas := setAt s.areas p (base, size) }

/-- R378: a write of PRT_SSM. -/
def ssmCommit (s : State) (p base size : Nat) : State :=
  let bad := hasProgram s p || hasRing s p || 512 < base + size ||
    (List.range 8).any fun k => k != p && areasMeet base size (get s (R.PRT_SSM_BASE k)) (get s (R.PRT_SSM_SIZE k))
  if bad then setF s R.PRT_CFG_CFGERR else put (put s (R.PRT_SSM_BASE p) base) (R.PRT_SSM_SIZE p) size

/-! ## Reads that return (R343) -/

/-- What a returned read is for. -/
def readReturned (s : State) (o : HostOp) (ok : Bool) (data : List Byte) : State :=
  match o.req with
  | .ringFetch r n => if ok then takeWindow s o.part r (splitEntries data n) else sqFetchFail s o.part r 2
  | .image q p => if ok then installRead s q p data else installRefuse s q p (instWord 3 (0, 0, 0) 0)
  | .load _ _ => if ok then stallDone s o.id data else stallFail s o.id 6
  | .jobDesc _ l => descReread s l (if ok then some data else none)
  | .moverFetch c => if ok then chReceive s c data else movBusError s o.addr
  | .moverRead c => if ok then
      (match (chOf s c).ibuf with
       | some i => mvDeliver s c (mvMove (chOf s c) i) data
       | none => s)
    else movBusError s o.addr
  | .magDirect n k => if ok then
      modMop s n k fun x => { x with steps := x.steps.drop 1, got := [(0, data)] }
    else magDirectEnd s n k stNotReady
  | _ => s

/-! ## Meanings -/

/-- SQ_DOORBELL (R350, R381): ignored for a disabled ring and while p is being reset. -/
def execSqDoorbell (p : Part) (r : Ring) (s : State) : Host.Outcome State Fault Refusal := answered s <|
  .next (inWindow s p (if (partOf s p).rst = 0 ∧ isSet s (R.PW_SQ_CTL_EN p r) then
    modSq (setF s (R.PW_SQ_STAT_RUNG p r)) p r fun q => { q with again := q.visit.isSome } else s))

/-- RING_SERVICE (R350 to R354). -/
def execRingService (p : Part) (r : Ring) (s : State) : Host.Outcome State Fault Refusal := finSettle (serveRing s p r)

/-- SQ_ENABLE (R355, R381). -/
def execSqEnable (p : Part) (r : Ring) (s : State) : Host.Outcome State Fault Refusal := answered s <|
  .next (inWindow s p (sqEnable s p r))

/-- SQ_DISABLE (R355). -/
def execSqDisable (p : Part) (r : Ring) (s : State) : Host.Outcome State Fault Refusal := answered s <|
  .next (inWindow s p (clrF s (R.PW_SQ_CTL_EN p r)))

/-- CQ_ENABLE (R351, R355, R381). -/
def execCqEnable (p : Part) (r : Ring) (s : State) : Host.Outcome State Fault Refusal := answered s <|
  .next (inWindow s p (cqEnable s p r))

/-- CQ_DISABLE (R355). -/
def execCqDisable (p : Part) (r : Ring) (s : State) : Host.Outcome State Fault Refusal := answered s <|
  .next (inWindow s p (cqStop s p r))

/-- CQ_HEAD_WRITE (R351). -/
def execCqHeadWrite (p : Part) (r : Ring) (v : Word32) (s : State) : Host.Outcome State Fault Refusal := answered s <|
  .next (inWindow s p (cqHead s p r (bits v.toNat 0 12)))

/-- SEQ_TARGET_CLAIM (R365): the target of sequencer q claims a source, rings its program doorbell and ends the interrupt. -/
def execSeqTargetClaim (q : Seq) (s : State) : Host.Outcome State Fault Refusal :=
  let t := 8 + q.val
  .next (match highestAssigned s t with
    | none => s
    | some src =>
      let o := get s (R.HUB_TGT_CTL_PART t)
      let s := claimSrc s t src
      endSrc (if (partOf s o).rst = 0 then bellRing s o (get s (R.HUB_TGT_CTL_PDB t)) else s) src)

/-- WALK_READ_DONE (R371 to R376, R561): the read of a walk in progress returns its entry, or fails. -/
def execWalkReadDone (p : Part) (page : Nat) (ok : Bool) (entry : Word64) (s : State) : Host.Outcome State Fault Refusal :=
  match s.host.walks.find? fun w => w.part == p.val && w.page == page with
  | none => .next s
  | some w => finSettle (tableRead s w ok entry.toNat)

/-- IOM_INV_CMD (R375). -/
def execIomInvCmd (v : Word32) (s : State) : Host.Outcome State Fault Refusal := answered s <|
  .next (if isSet s R.IOM_INV_STAT_BUSY then setF s R.IOM_STAT_CFGERR
    else
      let first := get s R.IOM_INV_ADDR_LO_ADDR + 2 ^ 20 * get s R.IOM_INV_ADDR_HI_ADDR
      let i : Inval := { part := bits v.toNat 24 3, first := first, pages := bits v.toNat 0 20 }
      let s := setF (clrF s R.IOM_INV_STAT_DONE) R.IOM_INV_STAT_BUSY
      cachePurge { s with host := { s.host with inval := some i } } i.part i.first i.pages)

/-- INVALIDATION_DONE (R375): no access that used an entry of the range is left. -/
def execInvalidationDone (s : State) : Host.Outcome State Fault Refusal :=
  .next (match s.host.inval with
    | none => s
    | some i => if invBusy s i then s else
      setF (clrF { s with host := { s.host with inval := none } } R.IOM_INV_STAT_BUSY) R.IOM_INV_STAT_DONE)

/-- IOM_ROOT_WRITE (R375, R377): the low or the high word of a root is written, and every entry of the partition is invalidated. -/
def execIomRootWrite (p : Part) (hi : Bool) (v : Word32) (s : State) : Host.Outcome State Fault Refusal := answered s <|
  let n := v.toNat
  let s := if hi then put s (R.IOM_ROOT_HI_ADDR p) (bits n 0 20)
    else put (put s (R.IOM_ROOT_LO_EN p) (bits n 0 1)) (R.IOM_ROOT_LO_ADDR p) (bits n 12 20)
  .next (cachePurge s p 0 0)

/-- PW_FQ_POP (R376). -/
def execPwFqPop (p : Part) (s : State) : Host.Outcome State Fault Refusal := answered s <|
  .next (inWindow s p (modPH s p fun h => { h with faults := h.faults.drop 1 }))

/-- PRT_FS_SIZE_WRITE (R378). -/
def execPrtFsSizeWrite (p : Part) (v : Word32) (s : State) : Host.Outcome State Fault Refusal := answered s <|
  .next (fsCommit s p (bits v.toNat 0 24))

/-- PRT_SSM_WRITE (R378). -/
def execPrtSsmWrite (p : Part) (v : Word32) (s : State) : Host.Outcome State Fault Refusal := answered s <|
  .next (ssmCommit s p (bits v.toNat 0 9) (bits v.toNat 16 10))

/-- PRT_SHARE_WRITE (R378). -/
def execPrtShareWrite (p : Part) (v : Word32) (s : State) : Host.Outcome State Fault Refusal := answered s <|
  let n := v.toNat
  .next (if bits n 16 8 = 0 then setF s R.PRT_CFG_CFGERR
    else put (put (put s (R.PRT_SHARE_STRAND p) (bits n 0 8)) (R.PRT_SHARE_DRAM p) (bits n 8 8)) (R.PRT_SHARE_HOST p) (bits n 16 8))

/-- PRT_PRESET (R380). -/
def execPrtPreset (v : Word32) (s : State) : Host.Outcome State Fault Refusal := answered s <|
  let p := bits v.toNat 0 3
  if present s p then finSettle (partReset s p) else .next (setF s R.PRT_CFG_CFGERR)

/-- A function's own configuration space is reset: MSI-X and Bus Master Enable are off. -/
def msixOff (s : State) (p : Nat) : State :=
  { modCfg s p (fun _ => CfgSt.init) with
    hub := { s.hub with msixOn := setAt s.hub.msixOn p false, msixHush := setAt s.hub.msixHush p false } }

/-- FUNCTION_LEVEL_RESET (R380, R382, R383): of the PF, it also clears VF Enable and resets every VF's partition. -/
def execFunctionLevelReset (p : Part) (s : State) : Host.Outcome State Fault Refusal :=
  if ¬ present s p then .next s
  else if p.val = 0 then
    let here := (List.range 8).filter (present s)
    let s := here.foldl (fun s k => partReset (msixOff s k) k) s
    finSettle { s with host := { s.host with vfOn := false, numVfs := 0, bar0 := none, bar2 := none, vfBar := none } }
  else finSettle (partReset (msixOff s p) p)

/-- VF_ENABLE_CLEAR (R342, R374, R380): VF Enable clears (n = 0), and NumVFs stays, or NumVFs falls to n: the partitions removed are
reset. -/
def execVfEnableClear (n : Fin 8) (s : State) : Host.Outcome State Fault Refusal :=
  let gone := (List.range 8).filter fun k => n.val < k && present s k
  let s := gone.foldl (fun s k => partReset (msixOff s k) k) s
  finSettle { s with host := if n.val = 0 then { s.host with vfOn := false } else { s.host with numVfs := min s.host.numVfs n } }

/-- VF_ENABLE_SET (R342): VF Enable sets with NumVFs n, or NumVFs rises to n: partitions P1 to Pn become present. -/
def execVfEnableSet (n : Fin 8) (s : State) : Host.Outcome State Fault Refusal :=
  .next { s with host := { s.host with vfOn := true, numVfs := if s.host.vfOn then max s.host.numVfs n else n } }

/-- NOP (R357). -/
def execNop (p : Part) (r : Ring) (id : Nat) (s : State) : Host.Outcome State Fault Refusal :=
  finSettle (withCmd s p r id 0 fun c s => complete s c (if formOk c.entry [] then stOK else stBadField) 0)

/-- R340: a read that ends with poisoned data or a timeout sets its bit of the function's Uncorrectable Error Status; Unsupported
Request and Completer Abort set none there. Which of the four it was the event does not say (log entry 9). -/
def aerNote (s : State) (p : Nat) : State :=
  let k := freeVal s % 3
  useFree (modCfg s p fun c => { c with aer := if k = 0 then c.aer else withBit c.aer (if k = 1 then 12 else 14) true })

/-- The access of a returned read: data of a dropped operation is discarded (R381); a mover access that fails is a bus error whether its
channel still waits for it or not (R396). -/
def readArrived (s : State) (o : HostOp) (ok : Bool) (data : List Byte) : State :=
  if ¬ o.dead then readReturned s o ok data
  else if ok then s
  else match o.req with
    | .moverFetch _ => movBusError s o.addr
    | .moverRead _ => movBusError s o.addr
    | _ => s

/-- HOST_READ_COMPLETION (R343, R381): the read of access op returns its data at cycle t, or an error. -/
def execHostReadCompletion (op : Nat) (ok : Bool) (data : List Byte) (t : Nat) (s : State) : Host.Outcome State Fault Refusal :=
  match s.host.ops.find? fun o => o.id == op && o.issued && !o.write with
  | none => .next s
  | some o =>
    let s := dropOp (stamp s t) op
    finSettle (readArrived (if ok then s else aerNote s o.part) o ok (sliceBytes data 0 o.len))

end Sys2Proof.Machine
end

