-- ==== Sys2Proof/Machine/IntakeCore.lean ====
section
/-! DEFINITION. The sensor intake (R74 to R91): the port map, capture windows, replacement of lost line segments, defect correction,
black level, the packing FIFOs and the capture ring. -/

namespace Sys2Proof.Machine

/-! ## Configuration (R77, R90) -/

/-- d: bits of a sample. -/
def sampBits (s : State) : Nat := 10 + 2 * get s R.INT_CTL_DEPTH

/-- Is port n in the stripe group (R76)? -/
def ganged (s : State) (n : Nat) : Bool := bitAt (get s R.INT_GANG_MASK) n

/-- The ganged ports, ascending. -/
def gangPorts (s : State) : List Nat := (List.range 12).filter (ganged s)

def portStart (s : State) (n : Nat) : Nat := get s (R.INT_PORT_COL_START n)
def portWidth (s : State) (n : Nat) : Nat := get s (R.INT_PORT_COL_WIDTH n)

/-- Bytes of a line segment of port n (R75, R86). -/
def segLen (s : State) (n : Nat) : Nat := portWidth s n * sampBits s / 8

def rasterW (s : State) : Nat := get s R.INT_RASTER_WIDTH
def rasterH (s : State) : Nat := get s R.INT_RASTER_HEIGHT

/-- R90: INT_ROW_STRIDE follows the raster and the depth. -/
def showStride (s : State) : State := put s R.INT_ROW_STRIDE_BYTES (rowStride (rasterW s) (sampBits s))

/-- Slots of the ring and the address of slot k (R90). -/
def ringSlots (s : State) : Nat := get s R.INT_RING_CFG_SLOTS

def slotAddr (s : State) (k : Nat) : Nat :=
  2 ^ 12 * get s R.INT_RING_BASE_LO_ADDR + 2 ^ 32 * get s R.INT_RING_BASE_HI_ADDR + 4096 * k * get s R.INT_RING_STRIDE_UNITS

/-- R77: the ganged ports tile columns from c on, none left over at column w. -/
def tiles (s : State) (w : Nat) : Nat → Nat → List Nat → Bool
  | 0, c, ps => ps.isEmpty && c == w
  | n + 1, c, ps =>
    match ps.find? fun p => portStart s p == c with
    | none => ps.isEmpty && c == w
    | some p => tiles s w n (c + portWidth s p) (ps.filter (· != p))

/-- R77, R90: is the port map valid? -/
def mapOk (s : State) : Bool :=
  (gangPorts s).all (fun n => portStart s n % 256 == 0 && portWidth s n % 64 == 0 && 256 ≤ portWidth s n &&
    get s (R.INT_PORT_CFG_LANES n) != 3) &&
  tiles s (rasterW s) 12 0 (gangPorts s) && rasterW s % 64 == 0 && 256 ≤ rasterW s && rasterW s ≤ 16384 &&
  rasterH s % 2 == 0 && 64 ≤ rasterH s && rasterH s ≤ 8640 &&
  rasterH s * rowStride (rasterW s) (sampBits s) ≤ 4096 * get s R.INT_RING_STRIDE_UNITS

/-! ## Frames and windows -/

/-- Change the frame of tick event e. -/
def modEv (s : State) (e : Nat) (f : Frame → Frame) : State :=
  { s with intake := { s.intake with frames := s.intake.frames.map fun x => if x.ev = e then f x else x } }

def findEv (s : State) (e : Nat) : Option Frame := s.intake.frames.find? fun x => x.ev == e

def winOf (x : Frame) (n : Nat) : Option Win := x.win.find? fun w => w.port == n

/-- Change the window of port n in the frame of event e. -/
def modWin (s : State) (e n : Nat) (f : Win → Win) : State :=
  modEv s e fun x => { x with win := x.win.map fun w => if w.port = n then f w else w }

def newWin (n : Nat) : Win := { port := n, st := 0, rows := [], packed := [], tail := false, drained := false, ended := false }

/-- The event of the frame that port n is capturing. -/
def openEv (s : State) (n : Nat) : Option Nat :=
  (s.intake.frames.find? fun x => x.win.any fun w => w.port == n && w.st == 1).map (·.ev)

def sensPort (s : State) (n : Nat) : SensPort := nth s.intake.port n { fifo := [], skip := false }

def modPort (s : State) (n : Nat) (f : SensPort → SensPort) : State :=
  { s with intake := { s.intake with port := modAt s.intake.port n f } }

/-! ## Samples (R75, R84 to R86) -/

/-- The samples of a RAW10 payload: four samples in five bytes, low bits in the fifth (R74; CSI-2, log entry 65). -/
def raw10 : List Byte → List Nat
  | a :: b :: c :: d :: l :: r =>
    let lo (k : Nat) : Nat := bits l.toNat (2 * k) 2
    [a.toNat * 4 + lo 0, b.toNat * 4 + lo 1, c.toNat * 4 + lo 2, d.toNat * 4 + lo 3] ++ raw10 r
  | _ => []

/-- RAW12: two samples in three bytes. -/
def raw12 : List Byte → List Nat
  | a :: b :: l :: r => [a.toNat * 16 + bits l.toNat 0 4, b.toNat * 16 + bits l.toNat 4 4] ++ raw12 r
  | _ => []

/-- RAW14: four samples in seven bytes. -/
def raw14 : List Byte → List Nat
  | a :: b :: c :: d :: x :: y :: z :: r =>
    let l := x.toNat + 256 * y.toNat + 65536 * z.toNat
    [a.toNat * 64 + bits l 0 6, b.toNat * 64 + bits l 6 6, c.toNat * 64 + bits l 12 6, d.toNat * 64 + bits l 18 6] ++ raw14 r
  | _ => []

/-- RAW16: a sample in two bytes, high byte first. -/
def raw16 : List Byte → List Nat
  | a :: b :: r => (256 * a.toNat + b.toNat) :: raw16 r
  | _ => []

/-- The samples of a payload at depth d. -/
def unpackRaw (d : Nat) (b : List Byte) : List Nat :=
  if d = 10 then raw10 b else if d = 12 then raw12 b else if d = 14 then raw14 b else raw16 b

/-- The sample at (r, c) as received, none where the segment was not delivered. -/
def recvAt (s : State) (x : Frame) (r c : Nat) : Option Nat :=
  match x.win.find? fun w => portStart s w.port ≤ c && c < portStart s w.port + portWidth s w.port with
  | none => none
  | some w => (nth w.rows r none).bind fun l => l[c - portStart s w.port]?

/-- R84: the value for n sorted candidates. -/
def defectValue (c : List Nat) : Nat :=
  match c with
  | [_, a, b, _] => (a + b) / 2
  | [_, a, _] => a
  | [a, b] => (a + b) / 2
  | [a] => a
  | _ => 0

/-- Insertion into an ascending list. -/
def insertAsc (v : Nat) : List Nat → List Nat
  | [] => [v]
  | x :: l => if v ≤ x then v :: x :: l else x :: insertAsc v l

/-- R84: the candidates for (r, c), sorted. One in a segment that was not delivered has no received value: it is free. -/
def candidates (s : State) (x : Frame) (r c : Nat) : List Nat :=
  let at_ := fun (p : Nat × Nat) => if x.defects.contains p then [] else [(recvAt s x p.1 p.2).getD (freeVal s % 2 ^ sampBits s)]
  let l := (if 2 ≤ c then at_ (r, c - 2) else []) ++ (if c + 2 < rasterW s then at_ (r, c + 2) else []) ++
    (if 2 ≤ r then at_ (r - 2, c) else []) ++ (if r + 2 < rasterH s then at_ (r + 2, c) else [])
  l.foldl (fun a v => insertAsc v a) []

/-- R84: the mapped positions of a segment corrected, and how many had no candidate. -/
def correctSeg (s : State) (x : Frame) (r start : Nat) (l : List Nat) : List Nat × Nat :=
  ((x.defects.filter fun p => p.1 == r && start ≤ p.2 && p.2 < start + l.length)).foldl (fun a p =>
    match candidates s x r p.2 with
    | [] => (a.1, a.2 + 1)
    | c => (setAt a.1 (p.2 - start) (defectValue c), a.2)) (l, 0)

/-- The colour plane of site (r, c) (R85, R103): 0 G1, 1 G2, 2 R, 3 B. -/
def planeOf (cfa r c : Nat) : Nat := ((List.range 4).find? fun k => cfaSite cfa k == (r % 2, c % 2)).getD 0

/-- R85: black level, with the values staged for the frame. -/
def blackLevel (s : State) (x : Frame) (r start : Nat) (l : List Nat) : List Nat :=
  let lv := fun c => getOld s x.old (R.INT_BLK_LEVEL (planeOf (get s R.INT_CTL_CFA) r c))
  let e := lv start; let o := lv (start + 1)
  l.zipIdx.map fun v => v.1 - (if v.2 % 2 = 0 then e else o)

/-! ## Packing FIFOs (R86 to R89) -/

/-- The FIFO words of a segment: 64 bytes each, the last padded, tagged with their valid bytes. -/
def segWords (e r : Nat) (b : List Byte) : List FifoWord :=
  (List.range (ceilDiv b.length 64)).map fun i =>
    { ev := e, row := r, off := 64 * i, tag := min 64 (b.length - 64 * i), data := sliceBytes b (64 * i) 64 }

/-- Words enter the FIFO of port n: fill, peak and level (R89). -/
def fifoPush (s : State) (n : Nat) (ws : List FifoWord) : State :=
  let f0 := (sensPort s n).fifo.length
  let f1 := f0 + ws.length
  let lvl := get s (R.INT_PORT_FIFO_LEVEL n)
  let s := modPort s n fun p => { p with fifo := p.fifo ++ ws }
  let s := putMax (put s (R.INT_PORT_FIFO_STAT_FILL n) f1) (R.INT_PORT_FIFO_STAT_PEAK n) f1
  if lvl ≠ 0 ∧ f0 < lvl ∧ lvl ≤ f1 then raise s hubFifoLevel else s

/-- The address of byte off of row r of port n's columns in the frame's slot (R90). -/
def segAddr (s : State) (x : Frame) (n r off : Nat) : Nat :=
  slotAddr s x.slot + r * rowStride (rasterW s) (sampBits s) + portStart s n * sampBits s / 8 + off

/-- R81: the replacement of a segment of port n in row r: row r − 2 as packed, zeros for rows 0 and 1. -/
def replacement (s : State) (w : Win) (r : Nat) : List Byte :=
  if r < 2 then List.replicate (segLen s w.port) 0 else sliceBytes (nth w.packed (r - 2) []) 0 (segLen s w.port)

/-- A row of port n has taken its bytes. -/
def addPacked (s : State) (e n : Nat) (b : List Byte) : State := modWin s e n fun w => { w with packed := w.packed ++ [b] }

/-- R81: the rest of a segment, from byte off on, is replaced. -/
def replaceFrom (s : State) (x : Frame) (w : Win) (r off : Nat) : State :=
  let s := fsWrite s (segAddr s x w.port r off) ((replacement s w r).drop off)
  modEv s x.ev fun f => { f with damaged := true, repl := f.repl + 1 }

/-- Row r of a window is packed, or replaced where it was not delivered. A segment that finds the FIFO full has its rest replaced
(R86). -/
def packRow (s : State) (x : Frame) (w : Win) : State :=
  let r := w.packed.length
  match nth w.rows r none with
  | none => addPacked (replaceFrom s x w r 0) x.ev w.port (replacement s w r)
  | some l =>
    let start := portStart s w.port
    let (c, bad) := correctSeg s x r start l
    let b := packSamples (sampBits s) (blackLevel s x r start c)
    let s := if x.defects.isEmpty then s else useFree (bumpBy s R.INT_DEF_UNRES_CNT_COUNT bad)
    let room := 512 - (sensPort s w.port).fifo.length
    let ws := segWords x.ev r b
    if ws.length ≤ room then addPacked (fifoPush s w.port ws) x.ev w.port b
    else
      let s := raise (setF (fifoPush s w.port (ws.take room)) (R.INT_PORT_FIFO_STAT_OVF w.port)) hubFifoOvf
      addPacked (replaceFrom s x w r (64 * room)) x.ev w.port (b.take (64 * room) ++ (replacement s w r).drop (64 * room))

/-- Is row r of a window known: delivered, or missing for good? -/
def rowKnown (w : Win) (r : Nat) : Bool := r < w.rows.length || w.st == 2

/-- May the window pack its next row? Correction needs the rows two above and below on every port. -/
def rowReady (s : State) (x : Frame) (w : Win) : Bool :=
  let r := w.packed.length
  r < rasterH s && rowKnown w r &&
  (x.defects.isEmpty || x.win.all fun v => rowKnown v r && (rasterH s ≤ r + 2 || rowKnown v (r + 2)))

/-- Pack what can be packed of the frame of event e, at most n rows. -/
def packLoop (e : Nat) : Nat → State → State
  | 0, s => s
  | n + 1, s =>
    match findEv s e with
    | none => s
    | some x =>
      match x.win.find? (rowReady s x) with
      | none => s
      | some w => packLoop e n (packRow s x w)

/-- R87: a closed window whose rows are all packed emits its word tagged 0. -/
def emitTails (s : State) (e : Nat) : State :=
  match findEv s e with
  | none => s
  | some x =>
    x.win.foldl (fun s w =>
      if w.st = 2 ∧ ¬ w.tail ∧ w.packed.length = rasterH s ∧ (sensPort s w.port).fifo.length < 512 then
        modWin (fifoPush s w.port [{ ev := e, row := 0, off := 0, tag := 0, data := [] }]) e w.port fun v => { v with tail := true }
      else s) s

/-- Every frame whose tag-0 words a full FIFO has held back emits them, oldest first. -/
def emitAll (s : State) : State := (s.intake.frames.map (·.ev)).foldl emitTails s

/-- What a packet, a closure or a drain lets the frame of event e do. -/
def intakeRun (s : State) (e : Nat) : State := emitTails (packLoop e (12 * rasterH s) s) e

/-! ## Closure (R80 to R82, R87) -/

/-- Port n closes the frame of event e; every closure but a frame end sets TRUNC. -/
def closeWin (s : State) (e n : Nat) (trunc : Bool) : State :=
  intakeRun (modEv (modWin s e n fun w => { w with st := 2 }) e fun x => { x with trunc := x.trunc || trunc }) e

/-- R82: the status of the frame of event e is final. -/
def finalize (s : State) (x : Frame) : State :=
  let k := x.slot
  let s := modEv s x.ev fun f => { f with final := true }
  let s := put (put (put (put (put (clrF s (R.INT_SLOT_STAT_OPEN k)) (R.INT_SLOT_STAT_DAMAGED k) (b2n x.damaged))
    (R.INT_SLOT_STAT_TRUNC k) (b2n x.trunc)) (R.INT_SLOT_STAT_ABSENT k) (b2n (x.kind == 1)))
    (R.INT_SLOT_STAT_REPL k) (min x.repl 65535)) (R.INT_SLOT_STAT_LATE k) (b2n x.capLate)
  if x.damaged || x.trunc || x.kind == 1 then raise (bump s R.INT_FRAME_DMG_CNT_COUNT) hubFrameDmg else s

/-- R87: the frame is final once the word tagged 0 of every ganged port has drained. -/
def checkFinal (s : State) (e : Nat) : State :=
  match findEv s e with
  | none => s
  | some x => if x.kind = 0 ∧ ¬ x.final ∧ ¬ x.win.isEmpty ∧ x.win.all (·.drained) then finalize s x else s

/-- R36, R80: the frame end of port n for the frame of event e. -/
def endWin (s : State) (e n : Nat) : State := closeWin (modWin s e n fun w => { w with ended := true }) e n false

/-- R80: port n's frame start at cycle t for the frame of event e. -/
def startWin (s : State) (e n t : Nat) : State :=
  match findEv s e with
  | none => s
  | some x =>
    match winOf x n with
    | none => s
    | some w =>
      if x.kind ≠ 0 then s
      else if w.st = 0 then
        match x.first with
        | none => modWin (modEv s e fun f => { f with first := some t }) e n fun v => { v with st := 1 }
        | some f =>
          if t ≤ f + usCycles * getF s R.INT_SKEW_US then modWin s e n fun v => { v with st := 1 }
          else closeWin s e n true
      else if w.st = 1 then bump (closeWin s e n true) R.INT_EXTRA_CNT_COUNT
      else s

/-- Is the window of port n for a captured frame still to close, its capture begun on some port (R80)? -/
def winWaits (x : Frame) (n : Nat) : Bool := x.kind == 0 && x.first.isSome && x.win.any fun w => w.port == n && w.st != 2

/-- Port n closes every frame of a tick event before e that waits for it (R80). -/
def closeBefore (s : State) (e n : Nat) : State :=
  ((s.intake.frames.filter fun x => x.ev < e && winWaits x n).map (·.ev)).foldl (fun s v => closeWin s v n true) s

/-- R80, R35: a frame start on port n. It closes the frames of earlier tick events there, whether they had begun on the port or not,
and opens the frame of the tick event in progress (log entry 43). -/
def frameStart (s : State) (n t : Nat) : State := startWin (closeBefore s s.tick.events n) s.tick.events n t

/-- A line packet of port n: its samples, or none when it is discarded. -/
def takeRow (s : State) (n : Nat) (l : Option (List Nat)) : State :=
  match openEv s n with
  | none => s
  | some e =>
    match (findEv s e).bind fun x => winOf x n with
    | none => s
    | some w =>
      if rasterH s ≤ w.rows.length then bump s (R.INT_PORT_ERR_LEN n)
      else intakeRun (modWin s e n fun v => { v with rows := v.rows ++ [l] }) e

/-- R75: a packet header of port n. Nothing on a port that is off (R76), or in the rest of a burst that is being discarded. -/
def csiHeader (s : State) (n : Nat) (burst : Bool) (hdr : Ecc) (lost use : State → State) : State :=
  if s.intake.on && ganged s n then
    let s := if burst then modPort s n fun p => { p with skip := false } else s
    if (sensPort s n).skip then s
    else match hdr with
      | .ue => lost (modPort (bump s (R.INT_PORT_ERR_HDR_UNC n)) n fun p => { p with skip := true })
      | .ce => use (bump s (R.INT_PORT_ERR_HDR_CORR n))
      | .ok => use s
  else s

/-- R74: is the virtual channel the port's own? Any other is discarded and counted. -/
def csiChannel (s : State) (n vc : Nat) (use : State → State) : State :=
  if vc = get s (R.INT_PORT_CFG_VC n) then use s else bump s (R.INT_PORT_DISC_COUNT n)

/-! ## Drains (R87, R88) -/

/-- A word of port n drains, with what its SECDED check found and, where that is uncorrectable, the bytes as read. -/
def fifoDrain (s : State) (n : Nat) (ecc : Ecc) (data : List Byte) : State :=
  match (sensPort s n).fifo with
  | [] => s
  | w :: r =>
    let s := put (modPort s n fun p => { p with fifo := r }) (R.INT_PORT_FIFO_STAT_FILL n) r.length
    let s := match ecc with
      | .ok => s
      | .ce => fault (bump s (R.INT_PORT_ECC_CE n)) (fltIntEcc n)
      | .ue => fault (modEv (bump s (R.INT_PORT_ECC_UE n)) w.ev fun x => { x with damaged := true }) fltIntFifoUe
    emitAll (match findEv s w.ev with
    | none => s
    | some x =>
      if w.tag = 0 then checkFinal (modWin s w.ev n fun v => { v with drained := true }) w.ev
      else
        let b := match ecc with | .ue => sliceBytes data 0 w.tag | _ => w.data.take w.tag
        fsWrite s (segAddr s x n w.row w.off) b)

/-! ## The tick event (R36, R52, R80, R83, R91) -/

/-- R83: the defect map in force, up to the first entry that is out of order or outside the raster, and whether there is one. -/
def readDefects (s : State) : List (Nat × Nat) × Bool :=
  let a := getF s R.INT_DEF_BASE_LO_ADDR + 2 ^ 32 * getF s R.INT_DEF_BASE_HI_ADDR
  let n := min 65536 (getF s R.INT_DEF_COUNT_COUNT)
  let step := fun (x : List (Nat × Nat) × Bool × Nat) (i : Nat) =>
    if x.2.1 then x
    else
      let w := leVal (fsRead s (a / 4 * 4 + 4 * i) 4)
      let r := bits w 14 14; let c := bits w 0 14
      let key := 2 ^ 14 * r + c + 1
      if x.2.2 < key && r < rasterH s && c < rasterW s then (x.1 ++ [(r, c)], false, key) else (x.1, true, 0)
  let y := (List.range n).foldl step ([], false, 0)
  (y.1, y.2.1)

/-- Does a job or a spool operation that reads the capture ring slot of tick number n wait or run (R560)? -/
def slotJobs (s : State) (n : Nat) : Bool :=
  (s.strs.lane.any fun l => l.queue.any fun j => jOpc j.desc == opEncRow && jRing j.desc && jTick j.desc == n) ||
  (s.mags.spool.any fun x => spOp x.desc == 0 && spTick x.desc == n) ||
  (List.range 4).any fun k => (magOf s k).ops.any fun o => match o.kind with
    | .record r => r.tick == n && r.bands.isEmpty && !r.gap
    | _ => false

/-- R39, R560: is the slot of a captured frame still needed? -/
def slotNeeded (s : State) (x : Frame) : Bool :=
  if x.kind ≠ 0 then false
  else if ¬ x.final then true
  else
    match x.clips.find? fun c => (findClipId s c.clip).any fun d => d.part == 0 && !d.proxy && d.whip == 0 with
    | some c => if (findClipId s c.clip).any (·.alaz) then !frameCoded s x.tick c.clip else !c.done
    | none => slotJobs s x.tick

/-- The slots that are no longer needed are released. -/
def releaseSlots (s : State) : State :=
  { s with intake := { s.intake with frames := s.intake.frames.map fun x => { x with held := x.held && slotNeeded s x } } }

/-- R80 at the tick event: captures of the frame before last close; a last frame with no frame start is absent (R36). Its capture
stage is on time when the frame end of every ganged port had arrived. -/
def captureClose (s : State) : State :=
  let e := s.tick.events
  let s := forN 12 (fun n s => closeBefore s (e - 1) n) s
  match s.intake.frames.find? fun x => x.ev + 1 == e && x.kind == 0 with
  | none => s
  | some x =>
    if x.first.isNone then
      let s := modEv s x.ev fun f => { f with kind := 1, capLate := true, held := false }
      match findEv s x.ev with | none => s | some y => finalize s y
    else
      let late := !x.win.all (·.ended)
      let s := modEv s x.ev fun f => { f with capLate := late }
      if late && x.final then setF s (R.INT_SLOT_STAT_LATE x.slot) else s

/-- A clip that takes the frames captured from now on, with what the frame knows of it. -/
def newClipFrame (c : Clip) : ClipFrame :=
  { clip := c.id, part := c.part, proxy := c.proxy, alaz := c.alaz, codeJudged := false, codeLate := false, k := none, done := false, judged := false, late := false }

/-- R35, R52, R91: the frame of the tick event in progress; noProxy where the overrun level drops proxy frames (R51). -/
def openFrame (s : State) (noProxy : Bool) : State :=
  if ¬ intakeOn (modeOf s) then s
  else
    let k := s.tick.no % max 1 (ringSlots s)
    let stuck := s.intake.frames.any fun x => x.slot == k && x.held
    let (defs, bad) := if s.intake.on && getF s R.INT_CTL_DEF_EN != 0 then readDefects s else ([], false)
    let clips := if s.tick.leave.isSome then [] else s.mags.clips.filter fun c => c.whip == 0 && !(noProxy && c.proxy)
    let x : Frame :=
      { tick := s.tick.no, ev := s.tick.events, slot := k, kind := if stuck then 2 else 0, first := none,
        win := if s.intake.on && !stuck then (gangPorts s).map newWin else [], final := stuck, capLate := false, damaged := false,
        trunc := false, repl := 0, noProxy := noProxy, held := !stuck, defects := defs, old := [], clips := clips.map newClipFrame }
    let s := if bad then setF s R.INT_STAT_DEFORDER else s
    let s := { s with intake := { s.intake with frames := s.intake.frames ++ [x] } }
    if stuck then fault (bump s R.TICK_DROP_CNT_COUNT) fltMasterDrop
    else
      put (put (put (put (put (put s (R.INT_SLOT_STAT_OPEN k) (b2n s.intake.on)) (R.INT_SLOT_STAT_DAMAGED k) 0) (R.INT_SLOT_STAT_TRUNC k) 0)
        (R.INT_SLOT_STAT_LATE k) 0) (R.INT_SLOT_STAT_ABSENT k) 0) (R.INT_SLOT_STAT_REPL k) 0

/-- Frames that nothing concerns any more leave the pipeline. -/
def pruneFrames (s : State) : State :=
  { s with intake := { s.intake with frames := s.intake.frames.filter fun x =>
      !(x.final && !x.held && x.ev + 8 ≤ s.tick.events &&
        x.clips.all fun c => (c.done && c.judged) || (findClipId s c.clip).isNone) } }

/-- R78: a mode starts the intake; an invalid map keeps it off. A mode without intake stops it. -/
def intakeMode (s : State) : State :=
  if intakeOn (modeOf s) then
    if s.intake.on then s
    else if mapOk s then { s with intake := { s.intake with on := true } }
    else raise (setF s R.INT_STAT_BADMAP) hubMapBad
  else
    let s := forN 12 (fun n s => clrF s (R.INT_PORT_FIFO_STAT_FILL n)) (forN 8 (fun k s => clrF s (R.INT_SLOT_STAT_OPEN k)) s)
    { s with intake := { s.intake with on := false, frames := [], port := s.intake.port.map fun _ => { fifo := [], skip := false } } }

end Sys2Proof.Machine
end

