-- ==== Sys2Proof/Machine/Mag.lean ====
section
/-! DEFINITION. The magazine ports (R428 to R468): the magazine ring commands, spool operations, the queue scheduler, NVMe completions
and timeouts, link events and the queue registers. -/

namespace Sys2Proof.Machine

/-! ## Ring commands (R433, R434, R466) -/

def mgPortOf (c : RingCmd) : Nat := leAt c.entry 4 1

/-- The checks every magazine command shares: P0 alone where priv is set, then the form and the port. -/
def mgChecked (c : RingCmd) (priv : Bool) (fields : List (Nat × Nat)) (s : State) (k : State → State) : State :=
  if priv ∧ c.part ≠ 0 then complete s c stPrivDenied 0
  else if ¬ formOk c.entry ((4, 1) :: fields) ∨ 4 ≤ mgPortOf c then complete s c stBadField 0
  else k s

/-- Is a command that owns the whole port at work on it? Another one waits. -/
def isOwner : MagKind → Bool
  | .opening _ => true
  | .closing _ => true
  | .formatting _ _ => true
  | _ => false

/-- Is the port behind the oldest such command busy? -/
def mgWaits (s : State) (p r id opc : Nat) : Bool :=
  match findCmd s p r id opc with
  | none => false
  | some c => mgPortOf c < 4 && hasOp s (mgPortOf c) isOwner

/-- Can a controller be brought up on port n? -/
def mgReachable (s : State) (n : Nat) : Bool := (magOf s n).link && magPresent s n && isSet s (R.MAG_CTL_EN n) && magState s n != mgLost

/-- R433. -/
def magOpen (c : RingCmd) (s : State) : State :=
  mgChecked c true [] s fun s =>
    let n := mgPortOf c
    if hasSession s n then openEnd s n c 6 0
    else if ¬ mgReachable s n then complete s c stNotReady 1
    else addOp s n (.opening c) (bringUp ++ [.act .openHdrs]) 2

/-- Is a clip open on port n? -/
def clipOn (s : State) (n : Nat) : Bool := s.mags.clips.any fun c => c.mem.any fun m => m.port == n && m.phase != 5

/-- R434: MAG_CLOSE. -/
def magClose (c : RingCmd) (s : State) : State :=
  mgChecked c true [] s fun s =>
    let n := mgPortOf c
    if ¬ hasSession s n ∨ clipOn s n ∨ magState s n ≠ mgSession then complete s c stNotReady 0
    else addOp s n (.closing (some c))
      [.cmds [{ q := 0, kind := .flush, lba := 0, blocks := 0, data := [] }], .act .closeHdr, .act .closeDone] 0

/-- R434: MAG_FORMAT. -/
def magFormat (c : RingCmd) (s : State) : State :=
  mgChecked c true [(5, 1)] s fun s =>
    let n := mgPortOf c
    let fl := leAt c.entry 5 1
    if 2 ≤ fl then complete s c stBadField 0
    else if (modeOf s ≠ modeIDLE ∧ modeOf s ≠ modeMAINT) ∨ hasSession s n ∨ ¬ mgReachable s n then complete s c stNotReady 0
    else addOp s n (.formatting c (bitAt fl 0)) (bringUp ++ [.act .fmtStart]) 0

/-- R466: HOSTIO. -/
def hostio (c : RingCmd) (s : State) : State :=
  let w := bitAt (leAt c.entry 5 1) 0
  mgChecked c w [(5, 1), (8, 8), (0x10, 4), (0x18, 8)] s fun s =>
    let n := mgPortOf c
    let lba := leAt c.entry 8 8; let k := leAt c.entry 0x10 4; let a := leAt c.entry 0x18 8
    if 2 ≤ leAt c.entry 5 1 ∨ k = 0 ∨ 256 < k ∨ a % 4096 ≠ 0 then complete s c stBadField 0
    else if ¬ hasSession s n ∨ (w ∧ modeOf s ≠ modeIDLE ∧ modeOf s ≠ modeMAINT) then complete s c stNotReady 0
    else if (sessOf s n).nsze < lba + k then complete s c stBadField 0
    else if w then startOp (addOp s n (.hostio c true) [.host, .act .ioWrite] 0) c.part (.magDirect n s.mags.nextOp) a (4096 * k) false []
    else addOp s n (.hostio c false) [.cmds (readReqs s n 6 lba k), .act .ioDone] 0

/-- HOSTIO's two rows: the oldest such command, when its WRITE flag is the row's. -/
def hostioRow (s : State) (p r id : Nat) (w : Bool) : State :=
  match findCmd s p r id 0x13 with
  | none => s
  | some c => if bitAt (leAt c.entry 5 1) 0 = w then hostio c (dropCmd s c) else s

/-! ## Spool operations (R451 to R455) -/

/-- R452: is an operation permitted on a queue? -/
def spAllowed (op q : Nat) : Bool :=
  if op ≤ 1 then q == 2 || q == 3
  else if op = 2 then q == 4 || q == 5
  else if op = 3 then 4 ≤ q && q ≤ 7
  else q == 7

/-- R453 BAD_DESC: reserved fields zero, META_LEN a multiple of 64 up to 4 MiB. -/
def spForm (d : List Byte) : Bool :=
  spFlags d < 4 && spMetaLen d % 64 == 0 && spMetaLen d ≤ 4194304 && (spOp d ≤ 1 || spRate d < 2 ^ 40)

/-- R453 BAD_ADDR: what an operation uses lies in its partition's frame store allocation. -/
def spAddrs (s : State) (x : SpoolReq) : Bool :=
  let d := x.desc
  let lists := spRunLists s d
  let runs := fsIn s x.part (spLayout d) 64 && fsIn s x.part (spRuns d) (8 * lists.length) && lists.all fun l => fsIn s x.part l 4
  match spOp d with
  | 0 => (spMetaLen d == 0 || fsIn s x.part (spMeta d) (spMetaLen d)) && (modeOf s == modeRECRAW || (runs && fsIn s x.part (spRate d) 64))
  | 1 => modeOf s == modeRECRAW || runs
  | 2 => runs
  | 3 => fsIn s x.part (spMeta d) (4096 * spCount d)
  | _ => true

/-- The buffers whose references pass to the port (R454). -/
def spRefs (s : State) (d : List Byte) : List Nat := if modeOf s = modeRECRAW then [] else spBuffers s d

/-- The clip that an operation writes to (R453 NO_CLIP). -/
def spClip (s : State) (x : SpoolReq) : Option Clip :=
  s.mags.clips.find? fun c => c.part == x.part && c.seq == x.seq && c.pair == x.pair && c.proxy == spProxy x.desc && c.whip == 0

/-- The final checkpoints of a frame's bands, none unless every one shows the last row and the tick number (R453 NOT_CODED). -/
def finalCkpts (s : State) (f : FrameId) (y : List Byte) : Option (List BandSt) :=
  let last := lyRows y - 1
  (List.range (lyBands y)).foldl (fun a b =>
    match a, ckptRead s y (ckptSlot y b last) f b last none with
    | some l, some c => some (l ++ [c])
    | _, _ => none) (some [])

/-- R162, R191: the frame start record. -/
def startRecord (y r rois : List Byte) (tick : Nat) : List Byte :=
  record 0xA0#8 (stuff (beBytes 1 1 ++ beBytes 1 (lyFormat y) ++ beBytes 1 (lyDepth y) ++ beBytes 1 (lyCfa y) ++
    beBytes 1 (b2n (rtBounded r) + 2 * 3) ++ beBytes 1 (rtNref r) ++ beBytes 1 (lyBands y) ++ beBytes 1 (rtNroi r) ++
    beBytes 2 (lyW y) ++ beBytes 2 (lyH y) ++ beBytes 8 tick ++ beBytes 4 (rtFrameNo r) ++
    ((List.range (lyBands y)).flatMap fun b => beBytes 2 (lyStart y b)) ++ rois))

/-- R165, R202: the 0xFFA4 records of a frame. -/
def refreshRecords (y r : List Byte) : List Byte :=
  if rtNref r = 0 then []
  else
    let n := ceilDiv (lyCols y) (max 1 (rtNcol r))
    let f := rtFrameNo r
    let ph := (f - 1) % n
    record 0xA4#8 (stuff (beBytes 1 0 ++ beBytes 1 (rtNcol r) ++ beBytes 2 (ph * rtNcol r) ++ beBytes 2 n ++ beBytes 2 ph)) ++
      (if ph + 1 = n then record 0xA4#8 (stuff (beBytes 1 1 ++ beBytes 3 0 ++ beBytes 4 (f - ph))) else [])

/-- R171, R172: the frame end record. -/
def endRecord (y : List Byte) (cs : List BandSt) : List Byte :=
  let ovf := (cs.map fun c => c.rc.ovf).sum
  record 0xA3#8 (stuff (beBytes 2 (lyRows y) ++ beBytes 1 (lyBands y) ++ beBytes 1 (b2n (ovf != 0)) ++
    (cs.flatMap fun c => beBytes 4 c.runBytes) ++ beBytes 4 ovf))

/-- R443: Alazerik essence with the offset of each band start marker, and whether a row has OVF set. -/
def alazEssence (s : State) (x : SpoolReq) (f : FrameId) (cs : List BandSt) : List Byte × List Nat × Bool :=
  let d := x.desc
  let y := fsRead s (spLayout d) 64
  let r := match findFrame s f with | some z => z.rate | none => fsRead s (spRate d) 64
  let rois := match findFrame s f with | some z => z.rois | none => fsRead s (rtRois r) (10 * rtNroi r)
  let head := startRecord y r (rois.take (10 * rtNroi r)) f.tick ++ refreshRecords y r
  let runs := (cs.zip (spRunLists s d)).map fun c => sliceBytes (runBytesFrom s (runAll s c.2) 0) 0 c.1.runBytes
  let offs := (List.range runs.length).map fun i => head.length + ((runs.take i).map (·.length)).sum
  (head ++ runs.flatten ++ endRecord y cs, offs, cs.any fun c => c.rc.ovf != 0)

/-- R443: packed raw essence from the capture ring slot. -/
def rawEssence (s : State) (tick : Nat) : List Byte :=
  let w := get s R.INT_RASTER_WIDTH; let d := 10 + 2 * get s R.INT_CTL_DEPTH
  (List.range (get s R.INT_RASTER_HEIGHT)).flatMap fun r => fsRead s (ringSlot s tick + r * rowStride w d) (ceilDiv (w * d) 8)

/-- The record flags copied from the slot's status (R442). -/
def slotFlags (x : Option Frame) : Nat :=
  match x with
  | none => 0
  | some x => flDamaged * b2n x.damaged + flTrunc * b2n x.trunc

/-- The flag of a gap record that takes a frame's place (R447): ABSENT, or DROPPED. -/
def gapFlag (x : Option Frame) : Nat := match x with
  | some x => if x.kind = 1 then flAbsent else flDropped
  | none => flDropped

/-- Place a record of clip c on member n mod k of its stripe (R447); with no member left it completes with DROPPED. -/
def spPlace (s : State) (c : Clip) (x : SpoolReq) (gap : Bool) (flags : Nat) (metaB ess : List Byte) (bands bufs : List Nat) : State :=
  match c.active with
  | [] => spoolDone (releaseAll s bufs) x spDropped (spDoneFlags false false false gap) 0 0
  | a :: as =>
    let k := (a :: as).length
    let t := spTick x.desc
    let s := modClipFrame s t c.id fun f => { f with k := some k }
    let s := if gap then releaseAll s bufs else s
    placeRecord s c (nth (a :: as) (t % k) a)
      { clip := c.id, tick := t, gap := gap, flags := flags, k := k, pos := 0, lba := 0, blocks := 0, metaB := metaB, ess := ess,
        bands := bands, bufs := if gap then [] else bufs, sp := some x }

/-- WRITE_FRAME and DISCARD of a clip that is open (R447, R452, R454). -/
def spWrite (s : State) (x : SpoolReq) (c : Clip) : State :=
  let d := x.desc
  let pipe := findPipe s (spTick d)
  let bufs := spRefs s d
  let missing : Bool := match pipe with | some f => f.kind != 0 | none => !c.alaz
  if spOp d = 1 ∨ missing then spPlace s c x true (gapFlag (if missing then pipe else none)) [] [] [] bufs
  else
    let m := fsRead s (spMeta d) (spMetaLen d)
    if c.alaz then
      let f : FrameId := { part := x.part, stream := b2n c.proxy, tick := spTick d }
      match finalCkpts s f (fsRead s (spLayout d) 64) with
      | none => spoolDone (releaseAll s bufs) x spNotCoded (spDoneFlags false false false false) 0 0
      | some cs =>
        let (e, offs, ovf) := alazEssence s x f cs
        spPlace s c x false (slotFlags pipe + flOvf * b2n ovf) m e offs bufs
    else spPlace s c x false (slotFlags pipe) m (rawEssence s (spTick d)) [] []

/-- READ_FRAME (R452, R453): the clip's footer on the member named leads to the record. -/
def spReadFrame (s : State) (x : SpoolReq) : State :=
  let n := spPort x.desc
  match lookupKey (sessOf s n).dir (spCount x.desc) with
  | none => spoolDone s x spNotFound (spDoneFlags false false false false) n 0
  | some e =>
    let lba := beAt e 0x28 8
    if lba = 0 then spoolDone s x spNotFound (spDoneFlags false false false false) n 0
    else addOp s n (.readFrame x) [.cmds (readReqs s n x.q lba 1), .act .rfFooter] 0

/-- The AUs that a range of blocks touches are all free, and the range lies in the data area. -/
def trimOk (x : Session) (lba k : Nat) : Bool :=
  4096 ≤ lba && lba + k ≤ auLba (ausOf x.nsze) && (x.map.all fun e => lba + k ≤ auLba e.1 || auLba (e.1 + 1) ≤ lba)

/-- READ_BLOCKS and TRIM (R452, R453): the first LBA is LAYOUT. -/
def spBlocks (s : State) (x : SpoolReq) : State :=
  let d := x.desc
  let n := spPort d; let lba := spLayout d; let k := spCount d
  if spOp d = 3 then
    if (sessOf s n).nsze < lba + k then spoolDone s x spRange (spDoneFlags false false false false) n 0
    else addOp s n (.readBlocks x) [.cmds (readReqs s n x.q lba k), .act .rbDone] 0
  else if trimOk (sessOf s n) lba k then
    addOp s n (.trimOp x) [.cmds [{ q := x.q, kind := .dealloc, lba := lba, blocks := k, data := [] }], .act .trimDone] 0
  else spoolDone s x spRange (spDoneFlags false false false false) n 0

/-- R453: an operation reaches its queue: the first status that applies, or its work begins. One whose queue the mode no longer permits
does not start (R55). -/
def spTake (s : State) (x : SpoolReq) : State :=
  let d := x.desc
  let op := spOp d
  let fail (s : State) (st : Nat) : State := spoolDone s x st (spDoneFlags false false false false) 0 0
  let freed (s : State) : State := if op ≤ 1 then releaseAll s (spRefs s d) else s
  if ¬ queuePermitted (modeOf s) x.q then fail (if spAddrs s x then freed s else s) jsModeDenied
  else if 4 < op ∨ ¬ spAllowed op x.q then fail s jsBadOpcode
  else if ¬ spForm d then fail (if spAddrs s x then freed s else s) jsBadDesc
  else if x.dup then fail (if spAddrs s x then freed s else s) jsTagBusy
  else if ¬ spAddrs s x then fail s jsBadAddr
  else if 2 ≤ op ∧ (4 ≤ spPort d ∨ ¬ hasSession s (spPort d)) then fail s spNoSession
  else if op ≤ 1 then
    match spClip s x with
    | none => fail (freed s) spNoClip
    | some c => spWrite s x c
  else if op = 2 then spReadFrame s x
  else spBlocks s x

/-- The first operation on its way to queue q reaches it, when it is the row's; one of no known OP completes at any row. -/
def spoolRow (s : State) (q op : Nat) : State :=
  match s.mags.spool.find? fun x => x.q == q with
  | none => s
  | some x =>
    if spOp x.desc = op ∨ 4 < spOp x.desc then
      spTake { s with mags := { s.mags with spool := s.mags.spool.erase x } } x
    else s

/-! ## The queue scheduler (R456, R457, R460) -/

/-- Submission queue depth (R429). -/
def sqDepth (m : MagSt) : Nat := min 256 (m.mqes + 1)

/-- May queue q of port n issue another command? -/
def queueRoom (s : State) (n q : Nat) : Bool :=
  let m := magOf s n
  (m.cmds.filter fun c => c.q == q && (c.st == 1 || c.st == 2)).length < min (get s (R.MAG_Q_CFG_MAXOUT n q)) (sqDepth m - 1)

/-- How a command issues (R460): its queue pair, whether it carries FUA, and the blocks that count as cached. -/
def issueForm (s : State) (n : Nat) (c : NvCmd) : Nat × Bool × Nat :=
  if c.kind ≠ .write then (c.q, false, 0)
  else if c.q = 0 then (0, true, 0)
  else if ¬ cacheOn s n then (c.q, false, 0)
  else if get s (R.MAG_HOLDUP_LIMIT n) < get s (R.MAG_FUAMIN_BLOCKS n) ∨
      get s (R.MAG_HOLDUP_LIMIT n) < get s (R.MAG_CACHED_BLOCKS n) + c.blocks then (strictQ s, true, 0)
  else (c.q, false, c.blocks)

/-- Queue q's next command. -/
def queueFront (m : MagSt) (q : Nat) : Option NvCmd := m.cmds.find? fun c => c.q == q && c.st == 0

/-- Has queue q a command that may issue now, by itself and by the queue that it travels on? -/
def queueReady (s : State) (n q : Nat) : Bool :=
  match queueFront (magOf s n) q with
  | none => false
  | some c => queueRoom s n q && queueRoom s n (issueForm s n c).1

/-- May weighted queue q be served? -/
def weightedReady (s : State) (n q : Nat) : Bool :=
  queueReady s n q && 0 < get s (R.MAG_Q_CFG_WEIGHT n q) && 0 ≤ nth (magOf s n).credit q 0

/-- The weighted queue served next, with the commands it has left after this one (R456). -/
def nextWeighted (s : State) (n : Nat) : Option (Nat × Nat) :=
  let (q, left) := (magOf s n).rr
  if 0 < left ∧ weightedReady s n q then some (q, left - 1)
  else
    let order := (List.range 6).map fun i => 2 + (q - 2 + 1 + i) % 6
    (order.find? (weightedReady s n)).map fun k => (k, get s (R.MAG_Q_CFG_WEIGHT n k) - 1)

/-- Commands outstanding on all ports. -/
def outAll (s : State) : Nat := ((List.range 4).map fun n => outCount (magOf s n)).sum

/-- May port n issue at all? -/
def portIssues (s : State) (n : Nat) : Bool :=
  (magOf s n).link && magState s n != mgOff && magState s n != mgLost && magState s n != mgFailed && outCount (magOf s n) < 512 && outAll s < 2048

/-- KiB that a command is charged (R457). -/
def cmdKib (c : NvCmd) : Nat := if c.kind = .read ∨ c.kind = .write then 4 * c.blocks else 0

/-- R460: the writes that stand in MAG_CACHED. -/
def setCached (s : State) (n : Nat) (l : List (Nat × Nat × Nat)) : State :=
  put (modMag s n fun m => { m with cached := l }) (R.MAG_CACHED_BLOCKS n) (l.map (·.2.2)).sum

/-- The first command of queue q of port n is issued. -/
def issueFrom (s : State) (n q : Nat) : State :=
  match queueFront (magOf s n) q with
  | none => s
  | some c =>
    let (tq, fua, blocks) := issueForm s n c
    let s := if blocks = 0 then s else setCached s n ((magOf s n).cached ++ [(c.cid, (magOf s n).nextOrd, blocks)])
    let s := modMag s n fun m =>
      { m with
        cmds := m.cmds.map fun d => if d.cid = c.cid then { d with q := tq, fua := fua, issued := s.clk, order := m.nextOrd, st := 1 } else d,
        nextOrd := m.nextOrd + 1,
        credit := modAt m.credit c.home fun x => if 2 ≤ c.home then x - ((creditUnit * cmdKib c : Nat) : Int) else x }
    let s := modMop s n c.op fun o => { o with begun := true, fua := o.fua || fua }
    let s := if fua then bump s (R.MAG_IOCNT_FUA n) else s
    if c.kind = .flush then bump s (R.MAG_IOCNT_FLUSH n) else s

/-- R456: one command slot. -/
def schedulerSlot (s : State) (n : Nat) : State :=
  let s := fuaAll (magAccrue s n) n
  if ¬ portIssues s n then s
  else if queueReady s n 0 then issueFrom s n 0
  else if queueReady s n 1 then issueFrom s n 1
  else match nextWeighted s n with
    | none => s
    | some (q, left) => cacheFlush (issueFrom (modMag s n fun m => { m with rr := (q, left) }) n q) n

/-! ## Completions (R431, R432, R459, R460) -/

/-- The NVMe opcode of a command (log entry 42). -/
def nvOpcode (k : NvKind) : Nat :=
  match k with
  | .read => 0x02 | .write => 0x01 | .flush => 0x00 | .dealloc => 0x09
  | .identCtrl => 0x06 | .identNs => 0x06 | .smart => 0x02 | .errLog => 0x02 | .setQueues => 0x09 | .setVwc => 0x09
  | .createCq => 0x05 | .createSq => 0x01 | .deleteSq => 0x00 | .deleteCq => 0x04 | .abort => 0x08

/-- Remove a command. -/
def dropNv (s : State) (n cid : Nat) : State := modMag s n fun m => { m with cmds := m.cmds.filter fun c => c.cid != cid }

/-- What a completed command has read, for its operation. -/
def nvData (c : NvCmd) (dw0 : Nat) (data : List Byte) : Option (List Byte) :=
  match c.kind with
  | .read => some (sliceBytes data 0 (4096 * c.blocks))
  | .identCtrl => some (sliceBytes data 0 4096)
  | .identNs => some (sliceBytes data 0 4096)
  | .smart => some (sliceBytes data 0 512)
  | .errLog => some (sliceBytes data 0 64)
  | .setQueues => some (leBytes 4 dw0)
  | _ => none

/-- R459: the time from a command's entry into its queue to its completion. -/
def latNote (s : State) (n : Nat) (c : NvCmd) : State :=
  if 2 ≤ c.home ∧ c.home ≤ 7 then putMax s (R.MAG_Q_LATHWM_US n c.home) ((s.clk - c.entered) / usCycles) else s

/-- A command has completed without error; a Flush covers the cached writes issued before it (R460). -/
def nvOk (s : State) (n : Nat) (c : NvCmd) (dw0 : Nat) (data : List Byte) : State :=
  let s := dropNv (latNote s n c) n c.cid
  let s := if c.kind = .flush then setCached s n ((magOf s n).cached.filter fun e => c.order ≤ e.2.1) else s
  modMop s n c.op fun o => { o with wait := o.wait - 1, got := match nvData c dw0 data with | none => o.got | some b => insertKey o.got c.lba b }

/-- A command has completed with an error: it is retried, or fails its operation. The error log is read (R430). -/
def nvError (s : State) (n : Nat) (c : NvCmd) : State :=
  let s := if c.kind = .errLog ∨ c.kind = .abort then s
    else addOp s n .errLog [.cmds [adminReq .errLog 1], .act .errDone] (nvOpcode c.kind)
  let s := if (magOf s n).cached.any fun e => e.1 == c.cid then setCached s n ((magOf s n).cached.filter fun e => e.1 != c.cid) else s
  if c.tries < get s (R.MAG_CFG_RETRY n) then
    modMag s n fun m => { m with cmds := m.cmds.map fun d =>
      if d.cid = c.cid then { d with tries := d.tries + 1, q := d.home, issued := s.clk, st := if d.home = 8 then 1 else 0 } else d }
  else
    let s := dropNv (latNote s n c) n c.cid
    match findMop s n c.op with
    | none => s
    | some o => cmdFail s n c o

/-- A completion of command cid. -/
def nvComplete (s : State) (n cid sc sct dw0 : Nat) (data : List Byte) : State :=
  match (magOf s n).cmds.find? fun c => c.cid == cid && (c.st == 1 || c.st == 2) with
  | none => s
  | some c =>
    let s := magAccrue s n
    if c.kind = .abort then dropNv s n cid
    else if sc = 0 ∧ sct = 0 then nvOk s n c dw0 data
    else nvError s n c

/-- The operation number that Abort commands carry: that of no operation. -/
def abortOp : Nat := 2 ^ 64

/-- R432: a command outstanding for CMDTO ms is aborted. -/
def cmdTimeout (s : State) (n cid : Nat) : State :=
  match (magOf s n).cmds.find? fun c => c.cid == cid && c.st == 1 && c.kind != .abort with
  | none => s
  | some c =>
    if c.issued + msCycles * get s (R.MAG_CFG_CMDTO n) ≤ s.clk then
      addCmd (modMag s n fun m => { m with cmds := m.cmds.map fun d => if d.cid = cid then { d with st := 2, abortAt := s.clk } else d })
        n abortOp (adminReq .abort cid)
    else s

/-- R432: an Abort that has not completed within 10 ms: the controller is reset. -/
def abortTimeout (s : State) (n cid : Nat) : State :=
  if (magOf s n).cmds.any fun c => c.kind == .abort && c.lba == cid && 10 * msCycles + c.issued ≤ s.clk then portLose s n s.clk else s

/-! ## Links (R461 to R464) -/

/-- R462: has the hold window of a lost port run out? -/
def windowOver (s : State) (n : Nat) : Bool :=
  match (magOf s n).lostAt with
  | none => false
  | some a => a + msCycles * get s (R.MAG_CFG_HOLD n) ≤ s.clk

/-- R462: the link has trained: the controller of a lost port with a session is brought up when it did within the window. -/
def linkTrained (s : State) (n : Nat) : State :=
  if ¬ isSet s (R.MAG_CTL_EN n) ∨ (magOf s n).link then s
  else
    let s := modMag s n fun m => { m with link := true }
    if magState s n = mgTraining then put s (R.MAG_STAT_STATE n) mgReady
    else if magState s n = mgLost then
      let s' := modMag s n fun m => { m with lostAt := none }
      if ¬ hasSession s n then put s' (R.MAG_STAT_STATE n) mgReady
      else if (magOf s n).lostAt.isNone then s
      else if windowOver s n then dropDue s' n 1
      else addOp s' n .comeBack (bringUp ++ [.act .returned]) 0
    else s

/-- R462, R463: the hold window ends. -/
def holdExpire (s : State) (n : Nat) : State :=
  if windowOver s n then
    let s := modMag s n fun m => { m with lostAt := none }
    if hasSession s n then dropDue s n 1 else put s (R.MAG_STAT_STATE n) mgTraining
  else s

/-- R464: a deliberate drop. -/
def dropRequest (s : State) (n : Nat) : State :=
  if magState s n = mgOff ∨ magState s n = mgDropped ∨ magState s n = mgFailed then s
  else dropDue s n (if hasSession s n && magState s n == mgSession then 2 else 1)

/-- The steps of the operation that waits for CSTS.RDY, once it is set (R429). -/
def readySet (s : State) (n mqes mpsmin : Nat) : State :=
  match (magOf s n).ops.find? fun o => match o.steps with | .rdy :: _ => true | _ => false with
  | none => s
  | some o =>
    if mqes < 31 ∨ mpsmin ≠ 0 then opFail s n o
    else modMop (modMag s n fun m => { m with mqes := mqes }) n o.id fun o => { o with steps := o.steps.drop 1 }

/-- CSTS.RDY has not set in time (R429). -/
def readyTimeout (s : State) (n : Nat) : State :=
  match (magOf s n).ops.find? fun o => match o.steps with | .rdy :: _ => true | _ => false with
  | none => s
  | some o => opFail s n o

/-- MAG_CTL.EN is written (R467): the root port comes up training, or goes off; a port with a session is lost (log entry 67). -/
def magEnable (s : State) (n : Nat) (en : Bool) : State :=
  let was := isSet s (R.MAG_CTL_EN n)
  let s := put s (R.MAG_CTL_EN n) (b2n en)
  if en = was then s
  else if en then (if magState s n = mgOff then put s (R.MAG_STAT_STATE n) mgTraining else s)
  else if hasSession s n then portLose s n s.clk
  else put (modMag ((magOf s n).ops.foldl (fun s o => opFail s n o) s) n fun m => { m with link := false, lostAt := none })
    (R.MAG_STAT_STATE n) mgOff

/-! ## Meanings -/

/-- MAG_OPEN (R433). -/
def execMagOpen (p : Part) (r : Ring) (id : Nat) (s : State) : Host.Outcome State Fault Refusal :=
  if mgWaits s p r id 0x10 then .next s else finSettle (withCmd s p r id 0x10 magOpen)

/-- MAG_CLOSE (R434). -/
def execMagClose (p : Part) (r : Ring) (id : Nat) (s : State) : Host.Outcome State Fault Refusal :=
  if mgWaits s p r id 0x11 then .next s else finSettle (withCmd s p r id 0x11 magClose)

/-- MAG_FORMAT (R434). -/
def execMagFormat (p : Part) (r : Ring) (id : Nat) (s : State) : Host.Outcome State Fault Refusal :=
  if mgWaits s p r id 0x12 then .next s else finSettle (withCmd s p r id 0x12 magFormat)

/-- HOSTIO with WRITE 0 (R466). -/
def execHostioRead (p : Part) (r : Ring) (id : Nat) (s : State) : Host.Outcome State Fault Refusal := finSettle (hostioRow s p r id false)

/-- HOSTIO with WRITE 1 (R466). -/
def execHostioWrite (p : Part) (r : Ring) (id : Nat) (s : State) : Host.Outcome State Fault Refusal := finSettle (hostioRow s p r id true)

/-- WRITE_FRAME (R452). -/
def execWriteFrame (q : Fin 8) (t : Nat) (s : State) : Host.Outcome State Fault Refusal := finSettle (spoolRow (stamp s t) q 0)

/-- DISCARD (R452). -/
def execDiscard (q : Fin 8) (t : Nat) (s : State) : Host.Outcome State Fault Refusal := finSettle (spoolRow (stamp s t) q 1)

/-- READ_FRAME (R452). -/
def execReadFrame (q : Fin 8) (t : Nat) (s : State) : Host.Outcome State Fault Refusal := finSettle (spoolRow (stamp s t) q 2)

/-- READ_BLOCKS (R452). -/
def execReadBlocks (q : Fin 8) (t : Nat) (s : State) : Host.Outcome State Fault Refusal := finSettle (spoolRow (stamp s t) q 3)

/-- TRIM (R452). -/
def execTrim (q : Fin 8) (t : Nat) (s : State) : Host.Outcome State Fault Refusal := finSettle (spoolRow (stamp s t) q 4)

/-- SCHEDULER_SLOT (R456). -/
def execSchedulerSlot (n : MagPort) (t : Nat) (s : State) : Host.Outcome State Fault Refusal := finSettle (schedulerSlot (stamp s t) n)

/-- NVME_COMPLETION (R431, R432): status code and type, dword 0 and the data of a read. -/
def execNvmeCompletion (n : MagPort) (cid : Nat) (sc : Fin 256) (sct : Fin 8) (dw0 : Word32) (data : List Byte) (t : Nat) (s : State) :
    Host.Outcome State Fault Refusal := finSettle (nvComplete (stamp s t) n cid sc sct dw0.toNat data)

/-- NVME_COMMAND_TIMEOUT (R432). -/
def execNvmeCommandTimeout (n : MagPort) (cid t : Nat) (s : State) : Host.Outcome State Fault Refusal :=
  finSettle (cmdTimeout (stamp s t) n cid)

/-- ABORT_TIMEOUT (R432). -/
def execAbortTimeout (n : MagPort) (cid t : Nat) (s : State) : Host.Outcome State Fault Refusal :=
  finSettle (abortTimeout (stamp s t) n cid)

/-- CSTS_CFS_SET (R432): the controller is reset, which starts port loss. -/
def execCstsCfsSet (n : MagPort) (t : Nat) (s : State) : Host.Outcome State Fault Refusal := finSettle (portLose (stamp s t) n t)

/-- CSTS_RDY_SET (R429): with CAP.MQES and CAP.MPSMIN. -/
def execCstsRdySet (n : MagPort) (mqes mpsmin t : Nat) (s : State) : Host.Outcome State Fault Refusal :=
  finSettle (readySet (stamp s t) n mqes mpsmin)

/-- CSTS_RDY_TIMEOUT (R429). -/
def execCstsRdyTimeout (n : MagPort) (t : Nat) (s : State) : Host.Outcome State Fault Refusal := finSettle (readyTimeout (stamp s t) n)

/-- SMART_POLL (R430): each 1 s while a session is open. -/
def execSmartPoll (n : MagPort) (t : Nat) (s : State) : Host.Outcome State Fault Refusal :=
  let s := stamp s t
  finSettle (if magState s n = mgSession ∧ 1000 * msCycles + (magOf s n).smartAt ≤ t then
    addOp (modMag s n fun m => { m with smartAt := t }) n .smart [.cmds [adminReq .smart 0], .act .smartDone] 0
  else s)

/-- MAG_LINK_DOWN (R461). -/
def execMagLinkDown (n : MagPort) (t : Nat) (s : State) : Host.Outcome State Fault Refusal := finSettle (portLose (stamp s t) n t)

/-- LINK_RETRAIN (R461, R462): a retry of link training, and whether the link came up. -/
def execLinkRetrain (n : MagPort) (up : Bool) (t : Nat) (s : State) : Host.Outcome State Fault Refusal :=
  let s := stamp s t
  finSettle (if up then linkTrained s n else s)

/-- MAG_LINK_UP (R462). -/
def execMagLinkUp (n : MagPort) (t : Nat) (s : State) : Host.Outcome State Fault Refusal := finSettle (linkTrained (stamp s t) n)

/-- HOLD_WINDOW_EXPIRY (R462, R463). -/
def execHoldWindowExpiry (n : MagPort) (t : Nat) (s : State) : Host.Outcome State Fault Refusal := finSettle (holdExpire (stamp s t) n)

/-- A write of MAG_CTL: EN, then DROP. -/
def magCtlWrite (s : State) (n v : Nat) : State :=
  let s := magEnable s n (bitAt v 0)
  if bitAt v 1 then dropRequest s n else s

/-- MAG_DROP_REQUEST (R464): the write of MAG_CTL. -/
def execMagDropRequest (n : MagPort) (v : Word32) (s : State) : Host.Outcome State Fault Refusal := answered s <|
  finSettle (magCtlWrite s n v.toNat)

/-- MAG_Q_SHAPE_WRITE (R458): a RATE above 14,000 is discarded. Q0 and Q1 have no shaper (R467). -/
def execMagQShapeWrite (n : MagPort) (q : Fin 8) (v : Word32) (t : Nat) (s : State) : Host.Outcome State Fault Refusal := answered s <|
  let s := magAccrue (stamp s t) n
  .next (if q.val < 2 then s
  else if 14000 < bits v.toNat 0 16 then setF s (R.MAG_STAT_CFGERR n)
  else
    let s := put s (R.MAG_Q_SHAPE_RATE n q) (bits v.toNat 0 16)
    let c := if bitAt v.toNat 31 then ((creditUnit * get s (R.MAG_Q_BURST_KIB n q) : Nat) : Int) else 0
    modMag s n fun m => { m with credit := setAt m.credit q c })

/-- MAG_Q_BURST_WRITE (R458). -/
def execMagQBurstWrite (n : MagPort) (q : Fin 8) (v : Word32) (t : Nat) (s : State) : Host.Outcome State Fault Refusal := answered s <|
  let s := magAccrue (stamp s t) n
  .next (if q.val < 2 then s
  else modMag (put s (R.MAG_Q_BURST_KIB n q) (bits v.toNat 0 24)) n fun m => { m with credit := setAt m.credit q 0 })

end Sys2Proof.Machine
end

