-- ==== Sys2Proof/Machine/Sbd.lean ====
section
/-! DEFINITION. The sideband (R469 to R486): presence and power, transfers, the hold-up gauge and the label. -/

namespace Sys2Proof.Machine

/-! ## Hold-up gauge (R477 to R480) -/

/-- The charge count's unit: 160,000 of them make a µC, so that every step of R478 and R479 is exact. -/
def chargeUnit : Nat := 160000

/-- R477: is the gauge in doubt? -/
def gaugeDoubtful (s : State) (n : Nat) : Bool :=
  let x := sbdOf s n
  !magPresent s n || !idValid s n || 16 ≤ x.stuckV || 16 ≤ x.stuckI || !x.cal

/-- A new LIMIT, and what R460 makes of it. -/
def gaugeLimit (s : State) (n v : Nat) : State :=
  cacheFlush (fuaAll (put s (R.MAG_HOLDUP_LIMIT n) (min v 0xFFFFFF)) n) n

/-- R477: the gauge enters doubt when it has not been in doubt. -/
def gaugeDoubtCheck (s : State) (n : Nat) : State :=
  if gaugeDoubtful s n && !(sbdOf s n).inDoubt then
    let s := put (modSbd s n fun x => { x with inDoubt := true }) (R.SBD_GAUGE_STAT_STATE n) 0
    raise (gaugeLimit s n 0) (sbdSrc n 3)
  else s

/-- Ten times the mean voltage code of the last ten samples. -/
def gaugeSum (x : SbdSt) : Nat := if x.volts.length = 10 then x.volts.sum else 10 * x.volts.sum / max 1 x.volts.length

/-- The charge of C × (V − Vc) in charge units, 0 when V ≤ Vc: capacitance in µF, V as ten times a voltage code, Vc in mV. -/
def chargeOf (uf sum vc : Nat) : Nat := uf * (75 * sum - 160 * vc)

/-- The charge count's upper bound C × (19.195 − Vc). -/
def chargeMax (uf vc : Nat) : Nat := 160 * uf * (19195 - vc)

/-- The charge count after a sample of a bank current, in mA. -/
def chargeAdd (uf vc q : Nat) (ma : Int) : Nat := min ((q : Int) + 16000 * ma).toNat (chargeMax uf vc)

/-- The common denominator of the energies of R478, in µJ. -/
def energyDen (uf : Nat) : Nat := 51200000000 * uf

/-- The charge estimate over energyDen. -/
def energyQ (uf vc q : Nat) : Nat := 320 * q * vc * uf + q * q

/-- The voltage estimate over energyDen. -/
def energyV (uf vc sum : Nat) : Nat := uf * uf * (5625 * (sum * sum) - 25600 * (vc * vc))

/-- R478: usable energy over 4 × energyDen, the state, and whether Q is set to 0. -/
def gaugeChoose (uf vc q sum : Nat) : Nat × Nat × Bool :=
  let eq := energyQ uf vc q
  let ev := energyV uf vc sum
  if 75 * sum ≤ 160 * vc then (0, 3, true)
  else if q = 0 ∧ 0 < ev then (3 * ev, 2, false)
  else (4 * min eq ev, 1, false)

/-- R480: LIMIT for an energy over 4 × energyDen. -/
def limitOf (uf fixed blk e4 : Nat) : Nat := 1000 * (e4 - fixed * (4 * energyDen uf)) / (blk * (4 * energyDen uf))

/-- A gauge register takes a / b; the rounding, and a value beyond its 32 bits, are open (log entry 68). -/
def putGauge (s : State) (f : Fld) (a b : Nat) : State :=
  let v := if Config.gaugeUp then ceilDiv a b else a / b
  if v < 2 ^ f.width then put s f v else put (useFree s) f (freeVal s)

/-- R478, R480: the evaluation of every millisecond. -/
def gaugeEvaluate (s : State) (n : Nat) : State :=
  let s := gaugeDoubtCheck s n
  let x := sbdOf s n
  let b := idBlock s n
  let uf := idHoldup b
  let vc := idVcut b
  let sum := gaugeSum x
  let s := if idValid s n then
      putGauge (putGauge s (R.SBD_GAUGE_EQ_UJ n) (energyQ uf vc x.charge) (energyDen uf)) (R.SBD_GAUGE_EV_UJ n)
        (energyV uf vc sum) (energyDen uf)
    else s
  if gaugeDoubtful s n then gaugeLimit (put s (R.SBD_GAUGE_STAT_STATE n) 0) n 0
  else
    let (e4, st, zero) := gaugeChoose uf vc x.charge sum
    let s := modSbd s n fun x => { x with inDoubt := false, charge := if zero then 0 else x.charge }
    let s := if zero then put s (R.SBD_GAUGE_Q_UC n) 0 else s
    let s := putGauge s (R.SBD_GAUGE_E_UJ n) e4 (4 * energyDen uf)
    let s := if st = 2 ∧ get s (R.SBD_GAUGE_STAT_STATE n) ≠ 2 then
        fault (raise (setF s (R.SBD_GAUGE_STAT_DISAGREE n)) (sbdSrc n 2)) (fltGaugeDisagree n)
      else s
    gaugeLimit (put s (R.SBD_GAUGE_STAT_STATE n) st) n (limitOf uf (idFixed b) (idBlk b) e4)

/-- Is an ADC code at an end of its range (R477)? -/
def codeStuck (c : Nat) : Bool := c == 0 || c == 4095

/-- R477, R478: one sample of both inputs. -/
def gaugeSample (s : State) (n v i : Nat) : State :=
  let b := idBlock s n
  let ma : Int := (i : Int) - 2048
  let good := idValid s n
  let s := modSbd s n fun x =>
    { x with
      volts := (x.volts ++ [v]).drop (x.volts.length - 9)
      stuckV := if codeStuck v then min 16 (x.stuckV + 1) else 0
      stuckI := if codeStuck i then min 16 (x.stuckI + 1) else 0
      rest := if -5 < ma ∧ ma < 5 then (if x.rest < 20000 then x.rest + 1 else x.rest) else 0
      charge := if good then chargeAdd (idHoldup b) (idVcut b) x.charge ma else x.charge }
  let x := sbdOf s n
  let s := putGauge (putInt s (R.SBD_GAUGE_V_MA n) ma) (R.SBD_GAUGE_V_MV n) (75 * v) 16
  let s := putGauge (put s (R.SBD_GAUGE_STAT_REST n) (min 2000 (x.rest / 10))) (R.SBD_GAUGE_Q_UC n) x.charge chargeUnit
  gaugeDoubtCheck s n

/-- R479: 2 s of rest are complete; a rest counts once. -/
def restComplete (s : State) (n : Nat) : State :=
  let x := sbdOf s n
  if x.rest = 20000 && magPresent s n && idValid s n then
    let b := idBlock s n
    let q := chargeOf (idHoldup b) (gaugeSum x) (idVcut b)
    putGauge (modSbd s n fun x => { x with charge := q, cal := true, rest := 20001 }) (R.SBD_GAUGE_Q_UC n) q chargeUnit
  else s

/-! ## Label (R481 to R484) -/

/-- Is the label present (R473)? -/
def hasLabel (s : State) (n : Nat) : Bool := idValid s n && idLblW (idBlock s n) == 296

def slotGood (b : List Byte) : Bool := b.length == 32 && crcGood b

/-- The current journal slot: the valid one with the higher SEQ. -/
def curSlot (x : SbdSt) : Option Nat :=
  let a := nth x.slots 0 []
  let b := nth x.slots 1 []
  if slotGood a && slotGood b then some (if beAt a 0 4 < beAt b 0 4 then 1 else 0)
  else if slotGood a then some 0
  else if slotGood b then some 1
  else none

/-- The SEQ of the current slot, 0 without one. -/
def curSeq (x : SbdSt) : Nat := match curSlot x with | none => 0 | some k => beAt (nth x.slots k []) 0 4

/-- Is the journal open (R481)? -/
def journalOpen (x : SbdSt) : Bool := match curSlot x with | none => false | some k => beAt (nth x.slots k []) 4 1 == 1

/-- The slot that is not current, and the SEQ it takes. -/
def nextSlot (x : SbdSt) : Nat × Nat := (match curSlot x with | some 0 => 1 | _ => 0, curSeq x + 1)

/-- A journal slot's bytes. -/
def slotBytes (sq st flags hash tick : Nat) : List Byte :=
  sealB (buildB 32 [(0, beBytes 4 sq), (4, beBytes 1 st), (5, beBytes 1 flags), (8, beBytes 4 hash), (12, beBytes 8 tick)])

/-- The word address of a journal slot (R472). -/
def labelSlotAddr (k : Nat) : Nat := 0x80 + 0x40 * k

/-- The panel's I²C address. -/
def panel (s : State) (n : Nat) : Nat := idLblAddr (idBlock s n)

/-- A journal slot now reads as written. -/
def slotNow (s : State) (n k : Nat) (b : List Byte) : State :=
  let s := modSbd s n fun x => { x with slots := setAt x.slots k b }
  put s (R.SBD_LBL_SEQ_SEQ n) (curSeq (sbdOf s n))

/-- R483: may an update run? -/
def labelAllowed (s : State) (n : Nat) : Bool :=
  let m := modeOf s
  hasLabel s n && magPresent s n && (m == modeIDLE || m == modePREVIEW || m == modeMAINT || isRec m)

/-- R483: the update of the image at an address begins. -/
def labelStart (s : State) (n a : Nat) : State :=
  if ¬ labelAllowed s n then put s (R.SBD_LBL_STAT_LAST n) 3
  else
    let img := fsRead s a 4736
    let (k, sq) := nextSlot (sbdOf s n)
    let s := put (modSbd s n fun x => { x with image := img, slot := k }) (R.SBD_LBL_STAT_STATE n) 1
    addXfer s n .updOpen eeprom (labelSlotAddr k) (slotBytes sq 1 0 (crc32c img) s.tick.no) 0

/-- The panel is free: the pending update begins (R484). -/
def labelNext (s : State) (n : Nat) : State :=
  if isSet s (R.SBD_LBL_STAT_PEND n) then labelStart (clrF s (R.SBD_LBL_STAT_PEND n)) n (sbdOf s n).pend else s

/-- An update or a recovery ends, with what it leaves in LAST. -/
def labelEnd (s : State) (n : Nat) (last : Option Nat) : State :=
  let s := put (modSbd s n fun x => { x with image := [], sentAt := none }) (R.SBD_LBL_STAT_STATE n) 0
  let s := match last with | none => s | some l => put s (R.SBD_LBL_STAT_LAST n) l
  labelNext s n

/-- A panel transfer of an update has failed: the spec gives LAST no code for it (log entry 69). -/
def labelBroken (s : State) (n : Nat) : State := labelEnd (useFree s) n (some (freeVal s))

/-- R481: recovery. -/
def recover (s : State) (n : Nat) : State :=
  addXfer (put s (R.SBD_LBL_STAT_STATE n) 2) n .recClear (panel s n) 0 [0x03#8] 0

/-- LABEL_GO (R483, R484): with the device still at R470's steps for this magazine, the update waits as a pending one. -/
def labelGo (s : State) (n : Nat) : State :=
  let a := get s (R.SBD_LBL_SRC_LO_ADDR n) + 2 ^ 32 * get s (R.SBD_LBL_SRC_HI_ADDR n)
  if get s (R.SBD_LBL_STAT_STATE n) ≠ 0 ∨ (magPresent s n ∧ ¬ (sbdOf s n).known) then
    setF (modSbd s n fun x => { x with pend := a }) (R.SBD_LBL_STAT_PEND n)
  else labelStart s n a

/-- A poll of the panel's BUSY bit (R482). -/
def labelPoll (s : State) (n : Nat) (busy : Bool) (t : Nat) : State :=
  match (sbdOf s n).sentAt with
  | none => s
  | some a =>
    let s := stamp s t
    let rec2 := get s (R.SBD_LBL_STAT_STATE n) == 2
    if busy then (if 5000 * msCycles + a ≤ t then labelEnd s n (some 1) else s)
    else
      let x := sbdOf s n
      let s := modSbd s n fun x => { x with sentAt := none }
      if rec2 then
        let (k, sq) := nextSlot x
        addXfer s n .recSlot eeprom (labelSlotAddr k) (slotBytes sq 2 1 0 s.tick.no) 0
      else
        let b := nth x.slots x.slot []
        addXfer s n .updClose eeprom (labelSlotAddr x.slot) (slotBytes (beAt b 0 4) 2 (beAt b 5 1) (beAt b 8 4) (beAt b 12 8)) 0

/-! ## Presence and power (R469, R470) -/

/-- R470: with AUTO at 0, power follows PWR, while a magazine is present. -/
def powerFollow (s : State) (n : Nat) : State :=
  if isSet s (R.SBD_CTL_AUTO n) then s else put s (R.SBD_STAT_PWREN n) (b2n (isSet s (R.SBD_CTL_PWR n) && magPresent s n))

/-- R470: identity and label journal have been read. -/
def magKnown (s : State) (n : Nat) : State :=
  let s := put (modSbd s n fun x => { x with known := true }) (R.SBD_LBL_SEQ_SEQ n) (curSeq (sbdOf s n))
  let s := raise s (sbdSrc n 0)
  let s := if isSet s (R.SBD_CTL_AUTO n) then setF s (R.SBD_STAT_PWREN n) else powerFollow s n
  if journalOpen (sbdOf s n) && hasLabel s n then recover s n else labelNext s n

/-- R469, R470: presence is asserted. -/
def presenceAssert (s : State) (n : Nat) : State :=
  if magPresent s n then s
  else
    let s := clrF (bump (setF s (R.SBD_STAT_PRSNT n)) (R.SBD_PRSNT_CNT_COUNT n)) (R.SBD_STAT_IDVALID n)
    let s := modSbd s n fun x =>
      { x with xfers := [], nakAt := none, slots := [[], []], known := false, cal := false, charge := 0, rest := 0, volts := [] }
    let s := powerFollow s n
    addXfer (addXfer (addXfer s n .ident eeprom 0 [] 128) n (.slot 0) eeprom (labelSlotAddr 0) [] 32) n (.slot 1) eeprom (labelSlotAddr 1) [] 32

/-- R469, R475, R477, R484: presence is removed. -/
def presenceRemove (s : State) (n t : Nat) : State :=
  if magPresent s n then
    let x := sbdOf s n
    let s := clrF (clrF (clrF s (R.SBD_STAT_PRSNT n)) (R.SBD_STAT_PWREN n)) (R.SBD_CTL_LIFEOVR n)
    let s := if x.xfers.any fun q => decide (q.use = .wearWrite) then setF s (R.SBD_STAT_JRNERR n) else s
    let s := modSbd s n fun x => { x with xfers := [], nakAt := none, sentAt := none, image := [], known := false, cal := false, jrn := 0 }
    let s := if get s (R.SBD_LBL_STAT_STATE n) = 1 then put s (R.SBD_LBL_STAT_LAST n) 4 else s
    let s := put s (R.SBD_LBL_STAT_STATE n) 0
    raise (portLose (gaugeDoubtCheck s n) n t) (sbdSrc n 1)
  else s

/-! ## Transfers (R471) -/

/-- R473: the identity block has been read, or the read has failed. -/
def identDone (s : State) (n : Nat) (b : Option (List Byte)) : State :=
  match b with
  | none => s
  | some b =>
    if idGood b then
      forN 32 (fun w s => put s (R.SBD_IDCACHE_BYTES n w) (leAt b (4 * w) 4)) (setF s (R.SBD_STAT_IDVALID n))
    else s

/-- The first transfer of port n has ended, well or badly, and its use goes on. -/
def xferDone (s : State) (n : Nat) (x : SbdXfer) (ok : Bool) (data : List Byte) (t : Nat) : State :=
  match x.use with
  | .ident => identDone s n (if ok then some data else none)
  | .slot k =>
    let s := if ok then modSbd s n fun y => { y with slots := setAt y.slots k data } else s
    if k = 1 then magKnown s n else s
  | .wear _ =>
    if ok then wearOpened s n ((List.range 16).map fun i => sliceBytes data (64 * i) 64)
    else modSbd (setF s (R.SBD_STAT_JRNERR n)) n fun y => { y with jrn := 0 }
  | .wearWrite => if ok then s else setF s (R.SBD_STAT_JRNERR n)
  | .recClear => if ok then modSbd s n fun y => { y with sentAt := some t } else labelEnd s n none
  | .recSlot =>
    if ok then
      let s := slotNow s n ((x.addr - 0x80) / 0x40) x.write
      labelEnd (raise (setF s (R.SBD_LBL_STAT_RECOVERED n)) (sbdSrc n 6)) n none
    else labelEnd s n none
  | .updOpen =>
    if ok then
      let s := slotNow s n (sbdOf s n).slot x.write
      addXfer s n .updImage (panel s n) 0 (0x01#8 :: (sbdOf s n).image) 0
    else labelEnd s n (some 2)
  | .updImage => if ok then addXfer s n .updGo (panel s n) 0 [0x02#8] 0 else labelBroken s n
  | .updGo => if ok then modSbd s n fun y => { y with sentAt := some t } else labelBroken s n
  | .updClose =>
    if ok then labelEnd (raise (slotNow s n (sbdOf s n).slot x.write) (sbdSrc n 5)) n (some 0) else labelEnd s n (some 2)

/-- R471: the transfer on the bus ends, or meets a NAK: it is tried again, or after three retries fails. -/
def i2cDone (s : State) (n : Nat) (nak : Bool) (data : List Byte) (t : Nat) : State :=
  let y := sbdOf s n
  match y.xfers, y.nakAt with
  | x :: xs, none =>
    let s := stamp s t
    if nak ∧ x.tries < 3 then modSbd s n fun y => { y with xfers := { x with tries := x.tries + 1 } :: xs, nakAt := some t }
    else xferDone (modSbd s n fun y => { y with xfers := xs }) n x (!nak) (sliceBytes data 0 x.read) t
  | _, _ => s

/-- R471: the retry after 1 ms. -/
def i2cRetry (s : State) (n t : Nat) : State :=
  match (sbdOf s n).nakAt with
  | none => s
  | some a => if msCycles + a ≤ t then modSbd (stamp s t) n fun y => { y with nakAt := none } else s

/-! ## Meanings -/

/-- PRESENCE_ASSERT (R469). -/
def execPresenceAssert (n : MagPort) (t : Nat) (s : State) : Host.Outcome State Fault Refusal := finSettle (presenceAssert (stamp s t) n)

/-- PRESENCE_REMOVE (R469). -/
def execPresenceRemove (n : MagPort) (t : Nat) (s : State) : Host.Outcome State Fault Refusal := finSettle (presenceRemove (stamp s t) n t)

/-- SBD_CTL_WRITE (R470). -/
def execSbdCtlWrite (n : MagPort) (v : Word32) (s : State) : Host.Outcome State Fault Refusal := answered s <|
  let w := v.toNat
  .next (if isSet s (R.SBD_CTL_PWR n) && !bitAt w 0 && hasSession s n then setF s (R.SBD_STAT_CFGERR n)
    else
      powerFollow (put (put (put s (R.SBD_CTL_PWR n) (bits w 0 1)) (R.SBD_CTL_AUTO n) (bits w 1 1)) (R.SBD_CTL_LIFEOVR n) (bits w 2 1)) n)

/-- SBD_I2C_DONE (R471). -/
def execSbdI2cDone (n : MagPort) (nak : Bool) (data : List Byte) (t : Nat) (s : State) : Host.Outcome State Fault Refusal :=
  finSettle (i2cDone s n nak data t)

/-- SBD_I2C_RETRY (R471). -/
def execSbdI2cRetry (n : MagPort) (t : Nat) (s : State) : Host.Outcome State Fault Refusal := .next (i2cRetry s n t)

/-- GAUGE_SAMPLE (R477): a code of the voltage input and one of the current input. -/
def execGaugeSample (n : MagPort) (v i : BitVec 12) (s : State) : Host.Outcome State Fault Refusal :=
  finSettle (gaugeSample s n v.toNat i.toNat)

/-- GAUGE_EVALUATE (R478). -/
def execGaugeEvaluate (n : MagPort) (s : State) : Host.Outcome State Fault Refusal := finSettle (gaugeEvaluate s n)

/-- GAUGE_REST_COMPLETE (R479). -/
def execGaugeRestComplete (n : MagPort) (s : State) : Host.Outcome State Fault Refusal := .next (restComplete s n)

/-- LABEL_GO (R483). -/
def execLabelGo (n : MagPort) (v : Word32) (s : State) : Host.Outcome State Fault Refusal := answered s <|
  .next (if bitAt v.toNat 0 then labelGo s n else s)

/-- LABEL_BUSY_POLL (R482). -/
def execLabelBusyPoll (n : MagPort) (busy : Bool) (t : Nat) (s : State) : Host.Outcome State Fault Refusal := .next (labelPoll s n busy t)

end Sys2Proof.Machine
end

