-- ==== Sys2Proof/Machine/Faults.lean ====
section
/-! DEFINITION. Fault handling and supervision (R487 to R507): the collector, forcing, the link injectors, the belay pair, the anchor and
LANYARD. -/

namespace Sys2Proof.Machine

/-! ## Causes (R487, R490) -/

/-- Bits of CLK_TEMP at 100 °C and at 112 °C. -/
def hotAt : Int := 400
def critAt : Int := 448

/-- 200 µs without a heartbeat make a core silent (R494). -/
def silentAfter : Nat := 200 * usCycles

/-- The state of belay core c in FLT_BLY_STAT. -/
def coreSt (s : State) (c : Nat) : Nat := get s (if c = 0 then R.FLT_BLY_STAT_B0 else R.FLT_BLY_STAT_B1)

def setCore (s : State) (c v : Nat) : State := put s (if c = 0 then R.FLT_BLY_STAT_B0 else R.FLT_BLY_STAT_B1) v

/-- Is a core running: active or standby? -/
def coreRuns (s : State) (c : Nat) : Bool := coreSt s c == 0 || coreSt s c == 1

/-- The cycle of a core's last heartbeat, or of its start. -/
def lastBeat (s : State) (c : Nat) : Nat := (nth s.sup.beat c none).getD (nth s.sup.since c 0)

/-- Is core c silent at time t? -/
def coreSilent (s : State) (c t : Nat) : Bool := coreRuns s c && silentAfter + lastBeat s c ≤ t

/-- The cycle from which a core's time counts. -/
def setSince (s : State) (c t : Nat) : State := { s with sup := { s.sup with since := setAt s.sup.since c t } }

/-- R487: is the cause of a source present? -/
def causePresent (s : State) (f : Nat) : Bool :=
  if f = fltThermHot then hotAt ≤ getInt s R.CLK_TEMP_DEGC
  else if f = fltThermCrit then critAt ≤ getInt s R.CLK_TEMP_DEGC
  else if f = fltClkFail then s.sup.clkBad
  else if f = fltSupplyOor then s.sup.railBad
  else if f = fltMovBus then movHalted s
  else if f = fltPoolBroken then isSet s R.POOL_STAT_BROKEN_E || isSet s R.POOL_STAT_BROKEN_G
  else if f = fltHostLink then s.sup.linkBad
  else if 0x10 ≤ f ∧ f < 0x22 then (strandOf s (f - 0x10)).bad
  else if f = 0x48 ∨ f = 0x49 then
    let c := f - 0x48
    nth s.sup.mute c false || coreSilent s c s.clk
  else if 0x60 ≤ f ∧ f < 0x70 ∧ f % 4 = 2 then get s (R.SBD_GAUGE_STAT_STATE ((f - 0x60) / 4)) == 2
  else if 0x60 ≤ f ∧ f < 0x70 ∧ f % 4 = 3 then isSet s (R.SBD_STAT_LIFELOW ((f - 0x60) / 4))
  else if f = fltAnchorActed then anchored s
  else false

/-- R492: a force bit clears; a belay core that it held in reset starts from there. -/
def unforce (s : State) (f : Nat) : State :=
  if (f = 0x48 ∨ f = 0x49) ∧ isSet s (R.FLT_FORCE f) = true ∧ coreSt s (f - 0x48) = 2 then setSince (clrF s (R.FLT_FORCE f)) (f - 0x48) s.clk
  else clrF s (R.FLT_FORCE f)

/-- R490, R492: a write of 1 to one status bit: the force bit clears, then the status bit unless its cause is present. -/
def statClear (s : State) (f : Nat) : State :=
  if R.fltAssigned f then
    let s := unforce s f
    if causePresent s f then s else clrF s (R.FLT_STAT f)
  else s

/-- Is a fatal source set? -/
def fatalSet (s : State) : Bool :=
  isSet s (R.FLT_STAT fltThermCrit) || isSet s (R.FLT_STAT fltClkFail) || isSet s (R.FLT_STAT fltSupplyOor) || isSet s (R.FLT_STAT fltAnchorActed)

/-! ## The belay pair (R494 to R497) -/

/-- R494: HEALTHY at time t. -/
def showHealth (s : State) (t : Nat) : State :=
  let up (c : Nat) : Bool := coreRuns s c && (nth s.sup.beat c none).isSome && t < silentAfter + lastBeat s c
  put s R.FLT_BLY_STAT_HEALTHY (b2n (up 0 || up 1))

def setBeat (s : State) (c : Nat) (b : Option Nat) : State := { s with sup := { s.sup with beat := setAt s.sup.beat c b } }

/-- R490: the cause of core c's source persists from its silence until its belay reset completes. -/
def setMute (s : State) (c : Nat) (b : Bool) : State := { s with sup := { s.sup with mute := setAt s.sup.mute c b } }

/-- A core enters belay reset. -/
def belayReset (s : State) (c t : Nat) : State := setSince (setBeat (setCore s c 2) c none) c t

/-- R559: the new active core's target is enabled and the other's disabled, which moves unclaimed sources. -/
def activate (s : State) (o : Nat) : State :=
  setTarget (setTarget (put (setCore s o 0) R.FLT_BLY_STAT_ACTIVE o) (12 + o) true) (12 + (1 - o)) false

/-- R495: core o takes over from core 1 − o; the takeover has ended at cycle e. -/
def belayTakeover (s : State) (o e : Nat) : State :=
  let c := 1 - o
  let us := (e - lastBeat s c) / usCycles
  let s := put (bump (activate s o) R.FLT_BLY_CNT_TAKEOVER) R.FLT_BLY_LAST_US (min us 65535)
  raise s hubBelayTakeover

/-- Core c is silent, or held in reset by force: the standby takes over where there is one, and the core is reset (R495, R492). -/
def coreLost (s : State) (c t e : Nat) (always : Bool) : State :=
  let s := fault (setMute s c true) (fltBelaySilent c)
  if coreSt s c = 0 then
    if coreSt s (1 - c) = 1 then belayReset (belayTakeover s (1 - c) e) c t
    else if always then belayReset s c t
    else s
  else raise (belayReset s c t) hubBelayStandbyLost

/-- A core that has become standby takes over at once when the active core cannot go on. -/
def takeoverCheck (s : State) (o t : Nat) : State :=
  let c := 1 - o
  if coreSt s o = 1 then
    if coreSt s c = 0 then (if coreSilent s c t then belayReset (belayTakeover s o t) c t else s) else belayTakeover s o t
  else s

/-- R496: the switch at a tick boundary. -/
def belaySwitch (s : State) : State :=
  if s.sup.switch then
    let s := { s with sup := { s.sup with switch := false } }
    let a := get s R.FLT_BLY_STAT_ACTIVE
    let o := 1 - a
    if coreSt s a = 0 ∧ coreSt s o = 1 then bump (activate (setCore s a 1) o) R.FLT_BLY_CNT_SWITCH else s
  else s

/-- A discarded write of FLT_BLY_CTL. -/
def blyErr (s : State) : State := setF s R.FLT_CTL_STAT_CFGERR

/-! ## Forcing (R492) -/

/-- R491: are forcing and injection armed? -/
def injArmed (s : State) : Bool := modeOf s == modeMAINT || isSet s R.INJ_STAT_ARMED

/-- R492: a forced source has its class's response and the reaction that its chapter gives to the cause, where the cause names what it
concerns (log entry 70). -/
def forceOne (s : State) (f : Nat) : State :=
  let s := setF s (R.FLT_FORCE f)
  if f = fltMasterLost then fault (if isRec (modeOf s) then { s with sup := { s.sup with lost := true } } else s) f
  else if f = fltThermHot then freqHot (fault s f)
  else if f = fltDrcUe then raise (fault s f) hubDrcUe
  else if f = fltMovBus then movBusError (useFree s) (freeVal s)
  else if f = fltPoolBroken then breakList (useFree s) (freeVal s % 2 == 0)
  else if 0x10 ≤ f ∧ f < 0x22 then fray s (f - 0x10) 0
  else if 0x40 ≤ f ∧ f < 0x44 then
    let q := f - 0x40
    match (seqOf s q).cur with
    | some p => progFault (fault s f) q p 8 (pairOf s q p).pc (pairOf s q p).pc
    | none => fault s f
  else if f = 0x48 ∨ f = 0x49 then
    if coreRuns s (f - 0x48) || coreSt s (f - 0x48) == 4 then showHealth (coreLost s (f - 0x48) s.clk s.clk true) s.clk
    else fault (if coreSt s (f - 0x48) = 2 then setMute s (f - 0x48) true else s) f
  else if 0x50 ≤ f ∧ f < 0x58 then fault (raiseP s (f - 0x50) srcProgFault) f
  else if 0x58 ≤ f ∧ f < 0x60 then fault (raiseP s (f - 0x58) srcXlateFault) f
  else if 0x60 ≤ f ∧ f < 0x70 then
    let n := (f - 0x60) / 4
    match f % 4 with
    | 0 => if hasSession s n then portFail s n else fault (put s (R.MAG_STAT_STATE n) mgFailed) f
    | 1 => if hasSession s n then fault (dropDue s n 5) f else fault (put s (R.MAG_STAT_STATE n) mgDropped) f
    | 2 => fault (raise (setF s (R.SBD_GAUGE_STAT_DISAGREE n)) (sbdSrc n 2)) f
    | _ => fault (raise (setF s (R.SBD_STAT_LIFELOW n)) (sbdSrc n 4)) f
  else fault s f

/-! ## Link injectors (R493) -/

/-- Change injector i. -/
def modInj (s : State) (i : Nat) (f : InjSt → InjSt) : State := { s with sup := { s.sup with inj := modAt s.sup.inj i f } }

def injOf (s : State) (i : Nat) : InjSt := nth s.sup.inj i { lfsr := 0, seen := 0, next := 0, acts := 0, held := none, did := none }

/-- The next state of the Galois LFSR. -/
def lfsrNext (x : Nat) : Nat := if x % 2 = 1 then (x / 2) ^^^ 0x80200003 else x / 2

/-- EN is set: counting starts from the configuration. -/
def injStart (s : State) (i : Nat) : State :=
  let x : InjSt := { lfsr := get s (R.INJ_SEED_SEED i), seen := 0, next := get s (R.INJ_INTERVAL_UNITS i), acts := 0, held := none, did := none }
  modInj s i fun _ => x

/-- The injector acts on the unit just counted, of len bits. -/
def injAct (s : State) (i len t : Nat) : State :=
  let act := get s (R.INJ_CTL_ACT i)
  let iv := get s (R.INJ_INTERVAL_UNITS i)
  let x := injOf s i
  let l := lfsrNext x.lfsr
  let fixed := get s (R.INJ_SEED_SEED i) == 0
  let x := { x with
    lfsr := if fixed then x.lfsr else l
    next := x.next + (if fixed then iv else 1 + l % (2 * iv))
    acts := x.acts + 1
    held := if act = 2 then some t else x.held
    did := some (act, if act = 1 then get s (R.INJ_BIT_BIT i) % len else 0) }
  let s := bump (modInj s i fun _ => x) (R.INJ_DONE_COUNT i)
  let n := get s (R.INJ_COUNT_N i)
  if n ≠ 0 ∧ n ≤ x.acts then raise (clrF s (R.INJ_CTL_EN i)) hubInjDone else s

/-- A unit passes injector i: a unit held goes on behind it, and it is counted while EN is set. -/
def injUnit (s : State) (i len t : Nat) : State :=
  let s := modInj (stamp s t) i fun x => { x with held := none, did := none }
  if isSet s (R.INJ_CTL_EN i) then
    let s := modInj s i fun x => { x with seen := x.seen + 1 }
    if (injOf s i).seen = (injOf s i).next then injAct s i len t else s
  else s

/-! ## The anchor (R500, R501) -/

/-- R500: does the anchor act at time t, and why? -/
def anchorCause (s : State) (t : Nat) : Nat :=
  if anchored s then 0
  else if s.sup.ready ∧ silentAfter + msCycles + max (lastBeat s 0) (lastBeat s 1) ≤ t then 1
  else if fatalSet s then 2
  else 0

/-- May an operation's steps go on by themselves? The belay pair drives all but the spool's data and host-direct transfers. -/
def ancKeeps : MagKind → Bool
  | .record _ => true
  | .readFrame _ => true
  | .readBlocks _ => true
  | .trimOp _ => true
  | .hostio _ _ => true
  | _ => false

/-- Step 1 on port n: operations that have issued no command go; of those the belay pair drives, the commands issued remain. -/
def ancHalt (s : State) (n : Nat) : State :=
  let m := magOf s n
  let gone := (m.ops.filter fun o => !o.begun).map (·.id)
  let stops := (m.ops.filter fun o => !ancKeeps o.kind).map (·.id)
  let stop (o : MagOp) : MagOp := if ancKeeps o.kind then o else { o with steps := [] }
  modMag s n fun m =>
    { m with ops := (m.ops.filter fun o => o.begun).map stop,
             cmds := m.cmds.filter fun c => !gone.contains c.op && !(stops.contains c.op && c.st == 0) }

/-- Which ports the anchor works on: those with a session; a lost one is skipped. -/
def ancStart (s : State) (n : Nat) : State := if hasSession s n then setAnc s n 1 else s

/-- R501: step 1, and the end of what follows it at once. -/
def anchorAct (s : State) (cause t : Nat) : State :=
  let s := noTransition (setF (stamp s t) R.GLB_MODE_ANCHORED)
  let s := clrF (setCore (setCore s 0 5) 1 5) R.FLT_BLY_STAT_HEALTHY
  let s := fault s fltAnchorActed
  let s := put (put s R.FLT_ANC_STAT_STATE 1) R.FLT_ANC_STAT_CAUSE cause
  let s := put2 s R.FLT_ANC_TICK_LO_NO R.FLT_ANC_TICK_HI_NO s.tick.no
  let s := { s with sup := { s.sup with ancAt := t, lost := false, switch := false, dormAt := none }, mags := { s.mags with spool := [] } }
  let s := setF (movStopAll s) R.MOV_STAT_HALTED
  let stop (l : Lane) : Lane := if l.running then { l with queue := modAt l.queue 0 fun j => { j with dead := true } } else l
  let s := stopDeadJobs { s with strs := { s.strs with lane := s.strs.lane.map stop } }
  forN 4 (fun n s => ancStart (ancHalt s n) n) s

/-- Step 3 of R501 on port n: after 20 ms the commands outstanding are aborted, and after 10 ms more the port is skipped. -/
def anchorTimeout (s : State) (n t : Nat) : State :=
  let s' := stamp s t
  if ancOf s n = 1 ∧ 20 * msCycles + s.sup.ancAt ≤ t then
    let out := (magOf s n).cmds.filter fun c => c.st == 1 && c.kind != .abort
    let s := out.foldl (fun s c =>
      addCmd (modMag s n fun m => { m with cmds := m.cmds.map fun d => if d.cid = c.cid then { d with st := 2, abortAt := t } else d })
        n abortOp (adminReq .abort c.cid)) s'
    setAnc s n 2
  else if ancOf s n = 2 ∧ 30 * msCycles + s.sup.ancAt ≤ t then setAnc s' n 7
  else s

/-! ## Meanings: the collector -/

/-- FLT_STAT_CLEAR (R490, R492): a write to word w of FLT_STAT. -/
def execFltStatClear (w : Fin 8) (v : Word32) (s : State) : Host.Outcome State Fault Refusal := answered s <|
  .next (forN 32 (fun i s => if bitAt v.toNat i then statClear s (32 * w + i) else s) s)

/-- FLT_FORCE (R492): a write to word w of FLT_FORCE. -/
def execFltForce (w : Fin 8) (v : Word32) (s : State) : Host.Outcome State Fault Refusal := answered s <|
  finSettle (if injArmed s then
    forN 32 (fun i s => if bitAt v.toNat i && R.fltAssigned (32 * w + i) then forceOne s (32 * w + i) else s) s
  else setF s R.INJ_STAT_CFGERR)

/-! ## Meanings: arming and injection -/

/-- INJ_ARM_FIRST (R491). -/
def execInjArmFirst (t : Nat) (s : State) : Host.Outcome State Fault Refusal := answered s <|
  .next { stamp s t with sup := { s.sup with armAt := some t } }

/-- INJ_ARM_SECOND (R491): with no first key, or more than 1 ms after it, the write cancels the sequence. -/
def execInjArmSecond (t : Nat) (s : State) : Host.Outcome State Fault Refusal := answered s <|
  let s' := { stamp s t with sup := { s.sup with armAt := none } }
  .next (match s.sup.armAt with
    | some a => if t ≤ msCycles + a then setF s' R.INJ_STAT_ARMED else s'
    | none => s')

/-- INJ_DISARM (R491): a write of 0 ends arming; any other value but the keys cancels the sequence. -/
def execInjDisarm (v : Word32) (s : State) : Host.Outcome State Fault Refusal := answered s <|
  .next (if v = 0 then injDisarm s
    else if v = 0xA5 ∨ v = 0x5A then s
    else { s with sup := { s.sup with armAt := none } })

/-- INJ_ARM_TIMEOUT (R491). -/
def execInjArmTimeout (t : Nat) (s : State) : Host.Outcome State Fault Refusal :=
  .next (match s.sup.armAt with
    | some a => if msCycles + a < t then { stamp s t with sup := { s.sup with armAt := none } } else s
    | none => s)

/-- INJ_UNIT (R493): a unit of some bytes passes injector i. -/
def execInjUnit (i : Fin 17) (bytes t : Nat) (s : State) : Host.Outcome State Fault Refusal := .next (injUnit s i (8 * bytes) t)

/-- INJ_REORDER_TIMEOUT (R493). -/
def execInjReorderTimeout (i : Fin 17) (t : Nat) (s : State) : Host.Outcome State Fault Refusal :=
  .next (match (injOf s i).held with
    | some a => if msCycles + a ≤ t then modInj (stamp s t) i fun x => { x with held := none, did := none } else s
    | none => s)

/-! ## Meanings: the belay pair -/

/-- BELAY_HEARTBEAT (R494). -/
def execBelayHeartbeat (c : Fin 2) (t : Nat) (s : State) : Host.Outcome State Fault Refusal :=
  .next (if coreRuns s c then showHealth (setBeat (stamp s t) c (some t)) t else s)

/-- BELAY_SILENT (R494, R495): core c has written no heartbeat for 200 µs; a takeover ends at cycle e, at most 300 µs after the last. -/
def execBelaySilent (c : Fin 2) (t e : Nat) (s : State) : Host.Outcome State Fault Refusal :=
  finSettle (if s.sup.ready && coreSilent s c t then
    let e := max t (min e (300 * usCycles + lastBeat s c))
    showHealth (coreLost (stamp s t) c t e false) t
  else s)

/-- BELAY_RESET_DONE (R495): a core held by force stays in reset (R492). -/
def execBelayResetDone (c : Fin 2) (pass : Bool) (t : Nat) (s : State) : Host.Outcome State Fault Refusal :=
  finSettle (if coreSt s c = 2 && !isSet s (R.FLT_FORCE (fltBelaySilent c)) then
    let s := setMute s c false
    if pass then showHealth (takeoverCheck (setBeat (setCore (stamp s t) c 1) c (some t)) c t) t else setCore (stamp s t) c 3
  else s)

/-- BELAY_RESET_TIMEOUT (R495). -/
def execBelayResetTimeout (c : Fin 2) (t : Nat) (s : State) : Host.Outcome State Fault Refusal :=
  .next (if coreSt s c = 2 && !isSet s (R.FLT_FORCE (fltBelaySilent c)) && msCycles + nth s.sup.since c 0 ≤ t then setCore (stamp s t) c 3
  else s)

/-- BELAY_SWITCH (R496): taken at the next tick boundary. -/
def execBelaySwitch (s : State) : Host.Outcome State Fault Refusal := answered s <|
  let a := get s R.FLT_BLY_STAT_ACTIVE
  .next (if coreSt s a = 0 ∧ coreSt s (1 - a) = 1 then { s with sup := { s.sup with switch := true } } else blyErr s)

/-- BELAY_TEST (R496). -/
def execBelayTest (t : Nat) (s : State) : Host.Outcome State Fault Refusal := answered s <|
  let o := 1 - get s R.FLT_BLY_STAT_ACTIVE
  .next (if coreSt s o = 1 then put (setSince (setBeat (setCore (stamp s t) o 4) o none) o t) R.FLT_BLY_TEST_RESULT 1 else blyErr s)

/-- BELAY_TEST_DONE (R496): the core is standby again, or FAILED. -/
def execBelayTestDone (pass : Bool) (t : Nat) (s : State) : Host.Outcome State Fault Refusal :=
  let c := if coreSt s 0 = 4 then 0 else 1
  finSettle (if coreSt s c = 4 then
    let s := put (stamp s t) R.FLT_BLY_TEST_RESULT (if pass then 2 else 3)
    if pass then showHealth (takeoverCheck (setBeat (setCore s c 1) c (some t)) c t) t else setCore s c 3
  else s)

/-- BELAY_RESET_REQUEST (R496). -/
def execBelayResetRequest (t : Nat) (s : State) : Host.Outcome State Fault Refusal := answered s <|
  let one (c : Nat) (s : State) : State := if coreSt s c = 3 then belayReset s c t else s
  .next (if coreSt s 0 = 3 ∨ coreSt s 1 = 3 then one 1 (one 0 (stamp s t)) else blyErr s)

/-- BELAY_CLAIM (R559): the active core claims the source assigned to its target, records it and ends the interrupt. -/
def execBelayClaim (s : State) : Host.Outcome State Fault Refusal :=
  let a := get s R.FLT_BLY_STAT_ACTIVE
  .next (if coreSt s a = 0 then
    match highestAssigned s (12 + a) with
    | none => s
    | some src =>
      let s := endSrc (claimSrc s (12 + a) src) src
      { s with sup := { s.sup with journal := s.sup.journal ++ [src] } }
  else s)

/-! ## Meanings: the anchor and the pins -/

/-- ANCHOR_ACT (R500, R501). -/
def execAnchorAct (t : Nat) (s : State) : Host.Outcome State Fault Refusal :=
  finSettle (match anchorCause s t with
    | 0 => s
    | c => anchorAct s c t)

/-- ANCHOR_ABORT_TIMEOUT (R501). -/
def execAnchorAbortTimeout (n : MagPort) (t : Nat) (s : State) : Host.Outcome State Fault Refusal := finSettle (anchorTimeout s n t)

/-- LANYARD_TOGGLE (R502). -/
def execLanyardToggle (t : Nat) (s : State) : Host.Outcome State Fault Refusal :=
  let s' := showHealth (stamp s t) t
  .next (if s.sup.ready && !anchored s && !fatalSet s && isSet s' R.FLT_BLY_STAT_HEALTHY && 495 * usCycles + s.sup.lanyAt ≤ t then
    { put s' R.FLT_PIN_LANYARD (1 - get s R.FLT_PIN_LANYARD) with sup := { s.sup with lanyAt := t } }
  else s)

end Sys2Proof.Machine
end

