-- ==== Sys2Proof/Machine/Boot.lean ====
section
/-! DEFINITION. Power, reset and start-up (R508 to R527): resets, the boot image and its checks, attempts, DORMANT, clock gating, and the
causes that the collector holds. -/

namespace Sys2Proof.Machine

/-! ## Resets (R15, R513, R514, R562) -/

/-- Is a register in the always-on domain (R385)? -/
def aonKey (k : Nat) : Bool := (32 * 0x10000 ≤ k && k < 32 * 0x20000) || k == fldKey R.STR_QUAR_MASK_MASK

/-- What a cold reset leaves, the internal reset still asserted: every unit and register as State.reset has it, but for the causes that
come from outside, the messages sent, the free counter and the waiting commands. CYCLE starts again. -/
def freshState (s : State) : State :=
  { State.reset with
      free := s.free, sent := s.sent, pending := s.pending
      sup := { Sup.init with held := true, tryAt := none, clkBad := s.sup.clkBad, railBad := s.sup.railBad,
                             testEn := s.sup.testEn, tap := s.sup.tap, cells := s.sup.cells } }

/-- A cold reset (R513). -/
def coldReset (s : State) (cause : Nat) : State := put (freshState s) R.AON_RSTCAUSE_CAUSE cause

/-! ## Test pads (R547) -/

/-- The test access port after TRST_N or power-on: IDCODE is selected (IEEE 1149.1). -/
def tapReset (s : State) : State := { s with sup := { s.sup with tap := .idcode } }

/-- R547: TEST_EN takes a level: high, it asserts the internal reset, which restores what a cold reset restores; the spec names no
cause for it (log entry 84). -/
def testEnable (s : State) (high : Bool) : State :=
  if high && !s.sup.testEn then
    useFree (coldReset { s with sup := { s.sup with testEn := true } } (freeVal s % 8))
  else { s with sup := { s.sup with testEn := high } }

/-- Does the selected instruction scan the boundary register? -/
def scansCells (s : State) : Bool := s.sup.tap == .samplePreload || s.sup.tap == .extest

/-- A write at the test pads: a scan that ends in an update, or a level. -/
def testWrite (s : State) (x : TestPad) (v : Nat) : State :=
  match x with
  | .load i => { s with sup := { s.sup with tap := i } }
  | .data k => if scansCells s then { s with sup := { s.sup with cells := insertKey s.sup.cells k v } } else s
  | .reset => tapReset s
  | .enable => testEnable s (bitAt v 0)

/-- What a scan of a data register shifts out: IDCODE; the zero that BYPASS captures; the levels that the boundary cells capture, which
are free (log entry 84). -/
def testRead (s : State) (x : TestPad) : State :=
  match x with
  | .data k => match s.sup.tap with
    | .idcode => { s with rdata := if k = 0 then 0x28840B47 else 0 }
    | .bypass => { s with rdata := 0 }
    | _ => useFree { s with rdata := freeVal s % 2 ^ 32 }
  | _ => s

/-- R239: a strand in the mask is QUARANTINED. -/
def maskStates (s : State) : State := forN 18 (fun n s => if bitAt (get s R.STR_QUAR_MASK_MASK) n then setStrState s n strQuar else s) s

/-- R514, R383, R555: a warm reset: registers of cold scope and the PCIe link with its configuration space stay. -/
def warmReset (s : State) (cause : Nat) : State :=
  let m := modeOf s
  let f := freshState s
  let line (_ : LineSt) : LineSt := { LineSt.init with settle := some (nsCycles 256) }
  let s' : State :=
    { f with
        regs := s.regs.filter fun c => c.scope == .cold
        fs := s.fs
        host := { f.host with up := s.host.up, vfOn := s.host.vfOn, numVfs := s.host.numVfs, bar0 := s.host.bar0, bar2 := s.host.bar2, vfBar := s.host.vfBar, cfg := s.host.cfg }
        hub := { f.hub with msixOn := s.hub.msixOn, msixHush := s.hub.msixHush }
        pins := { f.pins with line := s.pins.line.map line }
        sup := { f.sup with held := false, sel := s.sup.sel, tryAt := some 0, linkBad := s.sup.linkBad } }
  modeLast (put (maskStates s') R.AON_RSTCAUSE_CAUSE cause) 1 m modeBOOT

/-- R72, R519: wake from DORMANT: a cold reset of everything outside the always-on domain. -/
def wakeUp (s : State) (src : Nat) : State :=
  let f := freshState s
  let s' : State := { f with regs := s.regs.filter fun c => aonKey c.key, sup := { f.sup with held := false, sel := s.sup.sel, tryAt := some 0 } }
  modeLast (clrF (put (put (maskStates s') R.AON_RSTCAUSE_CAUSE 5) R.AON_RSTCAUSE_WAKESRC src) R.AON_REG_STAT_LP) 2 modeDORMANT modeBOOT

/-- An enabled wake source: it wakes the device from DORMANT, and aborts an entry under way (R518, R519). -/
def wakeEvent (s : State) (src : Nat) (en : Bool) : State :=
  if ¬ en then s else if modeOf s = modeDORMANT then wakeUp s src else if dormEntering s then dormAbort s 30 1 else s

/-! ## The image (R520 to R522) -/

/-- The source of an attempt (R520, R525). -/
def bootSource (s : State) : Nat := if isSet s R.AON_BOOT_CTL_OVR then get s R.AON_BOOT_CTL_SRC else s.sup.sel

/-- What the boot firmware's cryptography finds: the fuse hash that PUBKEY matches, and whether SIG verifies and the GCM tag passes
(log entry 73). -/
structure BootCrypto where
  key : Option Nat
  sig : Bool
  gcm : Bool

/-- A section of an image lies inside it. -/
def sectionIn (i : List Byte) (off : Nat) : Bool := leAt i off 4 + leAt i (off + 4) 4 ≤ leAt i 0x0C 4

/-- R522 FORMAT: the form is right; limit is AON_BOOT_LEN for a host image. -/
def imageForm (i : List Byte) (limit : Option Nat) : Bool :=
  let total := leAt i 0x0C 4
  let cfg := leAt i 0x10 4
  leAt i 0 4 == 0x544F4F42 && leAt i 4 2 == 1 && leAt i 6 2 < 2 && zeroAt i 0x28 4 && zeroAt i 0xF1 15 && total ≤ 1048576 &&
  (match limit with | none => true | some l => total ≤ l) && leAt i 0x14 4 == 64 && (leAt i 0x24 4 < 8 || (zeroAt i (leAt i 0x20 4 + 3) 1 && zeroAt i (leAt i 0x20 4 + 6) 2)) && sectionIn i 0x10 && sectionIn i 0x18 &&
  sectionIn i 0x20 && zeroAt i (cfg + 2) 14 && zeroAt i (cfg + 0x30) 16

/-- R410: is a rate one that the controller takes? -/
def drcRateOk (r : Nat) : Bool := 1600 ≤ r && r ≤ 8533

/-- R522 CONFIG: CAP, MAP and the rates of both sets. -/
def configOk (i : List Byte) : Bool :=
  let cfg := leAt i 0x10 4
  let r1 := leAt i (cfg + 0x20) 4
  leAt i cfg 1 < 3 && leAt i (cfg + 1) 1 < 3 && drcRateOk (leAt i (cfg + 0x10) 4) && (r1 == 0 || drcRateOk r1)

/-- R522 PATCH: the counts and addresses of the patch set. -/
def patchOk (i : List Byte) : Bool :=
  let p := leAt i 0x20 4
  let n := leAt i (p + 2) 1
  n ≤ 32 && leAt i (p + 4) 2 ≤ 256 && (List.range n).all fun k =>
    let rom := leAt i (p + 8 + 4 * k) 2
    let ram := leAt i (p + 8 + 4 * k + 2) 2
    rom < 4096 && 4096 ≤ ram && ram < 4352

/-- R522: the first failure of an image, 0 when it passes. -/
def imageCode (s : State) (i : List Byte) (limit : Option Nat) (c : BootCrypto) (trained b0 b1 : Bool) : Nat :=
  if ¬ imageForm i limit then 1
  else if leAt i 0x2C 4 ≠ (crc32c (sliceBytes i 0 0x2C)) then 2
  else if (match c.key with | none => true | some k => bitAt (get s R.AON_FUSE_REVOKE) k) || !c.sig then 3
  else if ¬ c.gcm ∨ 65536 + 28 < leAt i 0x1C 4 then 4
  else if leAt i 8 4 < get s R.AON_FUSE_SVNMIN then 5
  else if ¬ configOk i then 6
  else if ¬ trained then 7
  else if ¬ patchOk i then 8
  else if ¬ b0 ∧ ¬ b1 then 9
  else 0

/-! ## Loading (R523) -/

/-- The configuration block is applied: capacity, map and both timing sets; a set that names a rate has been trained. P0's area is
the whole frame store (R379). -/
def loadConfig (s : State) (i : List Byte) : State :=
  let cfg := leAt i 0x10 4
  let s := put (put s R.DRC_CFG_CAP (leAt i cfg 1)) R.DRC_CFG_MAP (leAt i (cfg + 1) 1)
  let s := { put s (R.PRT_FS_SIZE_PAGES 0) (fsCapacity s / 4096) with areas := setAt s.areas 0 (0, fsCapacity s) }
  let set (k : Nat) (s : State) : State :=
    let s := forN 4 (fun r s => putTset s k r (leAt i (cfg + 0x10 + 0x10 * k + 4 * r) 4)) s
    putTrained s k (get s (R.DRC_TSET_RATE_MTS k) != 0)
  set 1 (set 0 s)

/-- The patch set goes into every strand (R254). -/
def loadPatch (s : State) (i : List Byte) : State :=
  let p := leAt i 0x20 4
  let n := leAt i (p + 2) 1
  let ats := (List.range n).map fun k => (leAt i (p + 8 + 4 * k) 2, leAt i (p + 8 + 4 * k + 2) 2)
  let words := (List.range (leAt i (p + 4) 2)).map fun k => (4096 + k, BitVec.ofNat 96 (leAt i (p + 8 + 4 * n + 12 * k) 12))
  let s := { s with strs := { s.strs with patchAt := ats, patch := words } }
  forN 18 (fun k s => put (put s (R.STR_PATCH_VER_VER k) (leAt i p 2)) (R.STR_PATCH_VER_NMATCH k) n) s

/-- R239, R269: a strand outside the mask has run SELFTEST, with its failing part (0 for a pass) and its signature; one that fails is
quarantined without a splice, with cause 7. -/
def bootTest (s : State) (n part sig : Nat) : State :=
  if bitAt (get s R.STR_QUAR_MASK_MASK) n then s
  else
    let s := put (put s (R.STR_TEST_STAT_RESULT n) (if part = 0 then 2 else 3)) (R.STR_TEST_STAT_UNIT n) part
    let s := put s (R.STR_TEST_SIG_SIG n) sig
    if part = 0 then s else setStrState (declareFray s n 7) n strQuar

/-- The self-tests of an attempt, strand by strand. -/
def bootTests (s : State) (tests : List (Nat × Word32)) : State :=
  forN 18 (fun n s => bootTest s n (nth tests n (0, 0)).1 (nth tests n (0, 0)).2.toNat) s

/-- The belay cores start: B0 active and B1 standby; a core that failed its self-check is FAILED. -/
def startCores (s : State) (b0 b1 : Bool) : State :=
  if b0 then setCore s 1 (if b1 then 1 else 3) else activate (setCore s 0 3) 1

/-! ## Attempts (R523 to R525) -/

/-- R524: an attempt fails with a reason. -/
def bootFail (s : State) (code : Nat) : State :=
  let s := put s R.AON_BOOT_STAT_A2 (get s R.AON_BOOT_STAT_A1)
  let s := put (put s R.AON_BOOT_STAT_A1 (get s R.AON_BOOT_STAT_A0)) R.AON_BOOT_STAT_A0 code
  let n := get s R.AON_BOOT_CNT_COUNT + 1
  let s := put s R.AON_BOOT_CNT_COUNT n
  if n < 3 then warmReset s 6
  else
    let s := setF (setMode s modeBARE 5) R.AON_BOOT_STAT_BARE
    { s with sup := { s.sup with tryAt := none } }

/-- Is an attempt in progress? -/
def booting (s : State) : Bool := !s.sup.held && s.sup.tryAt.isSome && modeOf s == modeBOOT && !s.sup.loaded

/-- SRC and OVR of AON_BOOT_CTL take their bits. -/
def bootCtlStore (s : State) (v : Nat) : State := put (put s R.AON_BOOT_CTL_SRC (bits v 0 2)) R.AON_BOOT_CTL_OVR (bits v 2 1)

/-- Does BOOT wait for, or take, a host image? -/
def hostImage (s : State) : Bool := booting s && bootSource s == 1 && !s.sup.given

/-- R522, R523: an attempt checks its image and loads it. flash is what xSPI read, none when it does not answer. -/
def bootAttempt (s : State) (flash : Option (List Byte)) (c : BootCrypto) (trained b0 b1 : Bool) (tests : List (Nat × Word32)) :
    State :=
  let src := bootSource s
  if ¬ booting s ∨ (src = 1 ∧ ¬ s.sup.given) then s
  else
    let s := put s R.AON_BOOT_STAT_SRC src
    if 2 ≤ src then bootFail s 11
    else match (if src = 1 then some s.sup.image else flash) with
      | none => bootFail s 12
      | some i =>
        match imageCode s i (if src = 1 then some (get s R.AON_BOOT_LEN_BYTES) else none) c trained b0 b1 with
        | 0 =>
          let s := startCores (bootTests (loadPatch (loadConfig s i) i) tests) b0 b1
          { s with sup := { s.sup with loaded := true } }
        | k => bootFail s k

/-- R523: the ready report. -/
def bootReady (s : State) (t : Nat) : State :=
  if booting s ∨ ¬ s.sup.loaded ∨ modeOf s ≠ modeBOOT then s
  else
    let s := clrF (setMode (stamp s t) modeIDLE 4) R.AON_BOOT_CNT_COUNT
    let s := { s with sup := { s.sup with ready := true, lanyAt := t, tryAt := none, beat := [some t, some t] } }
    raiseAll (setF s R.FLT_BLY_STAT_HEALTHY) srcModeChanged

/-! ## Clock and power gating (R515, R516) -/

/-- Is block b without work (R515)? The monitor ports and views work while a port sends, the intake while a frame is open. -/
def blockIdle (s : State) (b : Nat) : Bool :=
  if b < 18 then (strandOf s b).lane.isNone && (strandOf s b).test == 0 && (strandOf s b).staged.isEmpty
  else if b < 22 then (seqOf s (b - 18)).cur.isNone
  else if b = 22 then (List.range 16).all fun c => chState s c == chIdle
  else if b = 23 then s.intake.frames.isEmpty && s.intake.port.all fun p => p.fifo.isEmpty
  else if b = 24 then s.intake.mon.all fun m => m.startAt.isNone
  else (magOf s (b - 25)).ops.isEmpty && (magOf s (b - 25)).cmds.isEmpty

/-- R516: a refusal or an abort of a block's entry. -/
def gateRefused (s : State) (b kind : Nat) : State :=
  clrF (put (put (bump s R.CLK_LP_REFUSE_CNT_COUNT) R.CLK_LP_LAST_BLOCK b) R.CLK_LP_LAST_KIND kind) R.CLK_LP_LAST_DORM

/-- CLOCK_GATE: the entry completes, or the block refuses it. In DORMANT entry a refusal aborts that. -/
def clockGate (s : State) (b : Nat) (refused : Bool) (t : Nat) : State :=
  let g := get s R.CLK_LP_STAT_GATED
  if bitAt g b then s
  else if dormEntering s ∧ refused then dormAbort (stamp s t) b 0
  else if 29 ≤ b ∨ get s R.CLK_LP_CTL_HOLDOFF = 0 then s
  else if refused then gateRefused (stamp s t) b 0
  else if ¬ blockIdle s b then s
  else
    let s := put (stamp s t) R.CLK_LP_STAT_GATED (withBit g b true)
    { s with sup := { s.sup with gatedAt := insertKey s.sup.gatedAt b t } }

/-- BLOCK_WAKE: a wake within 10 µs of the entry counts as aborted. -/
def blockWake (s : State) (b t : Nat) : State :=
  let g := get s R.CLK_LP_STAT_GATED
  if bitAt g b then
    let at0 := (lookupKey s.sup.gatedAt b).getD 0
    let s := put (stamp s t) R.CLK_LP_STAT_GATED (withBit g b false)
    let s := { s with sup := { s.sup with gatedAt := eraseKey s.sup.gatedAt b } }
    if t < 10 * usCycles + at0 then gateRefused s b 1 else s
  else s

/-! ## Causes held by the collector (R487, R423, R543, R557) -/

/-- The junction temperature, in quarters of a degree: THERM_HOT sets on reaching 100 °C, THERM_CRIT on reaching 112 °C. -/
def setTemp (s : State) (d : BitVec 11) : State :=
  let was := getInt s R.CLK_TEMP_DEGC
  let s := put s R.CLK_TEMP_DEGC d.toNat
  let s := if was < hotAt ∧ hotAt ≤ d.toInt then freqHot (fault s fltThermHot) else s
  if was < critAt ∧ critAt ≤ d.toInt then fault s fltThermCrit else s

/-- Change a cause that comes from outside. -/
def setCause (s : State) (f : Sup → Sup) : State := { s with sup := f s.sup }

/-! ## Meanings: resets -/

/-- POWER_ON (R510, R513): the test access port starts as well. -/
def execPowerOn (s : State) : Host.Outcome State Fault Refusal := .next (tapReset (coldReset s 0))

/-- Is a boot attempt in progress, from its start to the ready report or its failure? -/
def attempting (s : State) : Bool := !s.sup.held && s.sup.tryAt.isSome && modeOf s == modeBOOT

/-- The cold reset of the RESET_N pin: one that ends an attempt in progress leaves the count of failed attempts (R524). -/
def pinReset (s : State) : State :=
  if attempting s then put (coldReset s 1) R.AON_BOOT_CNT_COUNT (get s R.AON_BOOT_CNT_COUNT) else coldReset s 1

/-- RESET_N_ASSERT (R511): RESET_N has been low for ns nanoseconds; from 1 µs to 10 µs it may or may not cause the reset. -/
def execResetNAssert (ns : Nat) (takes : Bool) (s : State) : Host.Outcome State Fault Refusal :=
  .next (if 10000 ≤ ns || (1000 ≤ ns && takes) then pinReset s else s)

/-- INTERNAL_RESET_RELEASE (R510, R520): the boot source is sampled from BOOT_SEL; CYCLE and the tick accumulator start. TEST_EN high
holds the reset (R547). -/
def execInternalResetRelease (sel : Fin 4) (s : State) : Host.Outcome State Fault Refusal :=
  .next (if s.sup.held && !s.sup.railBad && !s.sup.clkBad && !s.sup.testEn then
    { s with clk := 0, sup := { s.sup with held := false, sel := sel, tryAt := some 0 } }
  else s)

/-- AON_BROWN_OUT (R512). -/
def execAonBrownOut (s : State) : Host.Outcome State Fault Refusal := .next (coldReset s 2)

/-- Does the always-on block answer P0's accesses? -/
def aonAnswers (s : State) : Bool := !s.sup.held && modeOf s != modeDORMANT

/-- AON_RST_CTL (R514): the write is P0's. -/
def execAonRstCtl (v : Word32) (s : State) : Host.Outcome State Fault Refusal :=
  .next (if v = 0xA55A ∧ aonAnswers s then warmReset s 3 else s)

/-! ## Meanings: start-up -/

/-- BOOT_ATTEMPT (R522, R523): what the flash read, what the cryptography, the training, the self-checks and the self-tests found. -/
def execBootAttempt (flash : Option (List Byte)) (key : Option (Fin 4)) (sig gcm trained b0 b1 : Bool) (tests : List (Nat × Word32)) (s : State) :
    Host.Outcome State Fault Refusal :=
  .next (bootAttempt s flash { key := key.map (·.val), sig := sig, gcm := gcm } trained b0 b1 tests)

/-- BOOT_TIMEOUT (R522): 2 s after the attempt began, or after GO for a host image. -/
def execBootTimeout (t : Nat) (s : State) : Host.Outcome State Fault Refusal :=
  .next (match s.sup.tryAt with
    | some a =>
      if !s.sup.held && modeOf s == modeBOOT && !hostImage s && 2000 * msCycles + a ≤ t then
        bootFail (put s R.AON_BOOT_STAT_SRC (bootSource s)) 10
      else s
    | none => s)

/-- AON_BOOT_DATA (R520): words beyond LEN are discarded, as are those that no host image waits for. -/
def execAonBootData (v : Word32) (s : State) : Host.Outcome State Fault Refusal :=
  .next (if hostImage s && s.sup.image.length < get s R.AON_BOOT_LEN_BYTES then
    { s with sup := { s.sup with image := s.sup.image ++ leBytes 4 v.toNat } }
  else s)

/-- R525: a word with RETRY written in BARE. -/
def bootRetry (s : State) : State :=
  if modeOf s = modeBARE then warmReset (clrF (clrF (setF s R.AON_BOOT_CTL_OVR) R.AON_BOOT_CNT_COUNT) R.AON_BOOT_STAT_BARE) 7 else s

/-- R520, R525: a word with GO written: it ends a host image that BOOT waits for, by the source in force before the write. -/
def bootGo (s : State) (t : Nat) : State :=
  if hostImage s then { stamp s t with sup := { s.sup with given := true, tryAt := some t } } else s

/-- A write of AON_BOOT_CTL: SRC and OVR take their bits (R11); then GO and RETRY act. -/
def bootCtl (s : State) (v t : Nat) : State :=
  let s := bootCtlStore (if bitAt v 8 then bootGo s t else s) v
  if bitAt v 4 then bootRetry s else s

/-- AON_BOOT_GO (R520, R525): a word with GO set. -/
def execAonBootGo (x : Timed Word32) (s : State) : Host.Outcome State Fault Refusal :=
  .next (if aonAnswers s ∧ bitAt x.val.toNat 8 then bootCtl s x.val.toNat x.t else s)

/-- AON_BOOT_RETRY (R525): a word with RETRY set. -/
def execAonBootRetry (v : Word32) (s : State) : Host.Outcome State Fault Refusal :=
  .next (if aonAnswers s ∧ bitAt v.toNat 4 then bootCtl s v.toNat s.clk else s)

/-- B0_READY (R523, R63, R73). -/
def execB0Ready (t : Nat) (s : State) : Host.Outcome State Fault Refusal := .next (bootReady s t)

/-! ## Meanings: gating and wake -/

/-- CLOCK_GATE (R515, R516). -/
def execClockGate (b : Fin 32) (refused : Bool) (t : Nat) (s : State) : Host.Outcome State Fault Refusal := .next (clockGate s b refused t)

/-- BLOCK_WAKE (R515, R516): what was held for the block goes on. -/
def execBlockWake (b : Fin 32) (t : Nat) (s : State) : Host.Outcome State Fault Refusal := finSettle (blockWake s b t)

/-- WAKE_N_FALL (R519). -/
def execWakeNFall (s : State) : Host.Outcome State Fault Refusal := .next (wakeEvent s 1 (isSet s R.AON_WAKE_CTL_WAKEN))

/-- PERST_N_RISE (R519). -/
def execPerstNRise (s : State) : Host.Outcome State Fault Refusal := .next (wakeEvent s 2 (isSet s R.AON_WAKE_CTL_PERST))

/-- WAKE_TIMER_EXPIRY (R519): SEC seconds after DORMANT entry, to within 5%. -/
def execWakeTimerExpiry (t : Nat) (s : State) : Host.Outcome State Fault Refusal :=
  let due := match s.sup.dormAt with
    | some a => decide (95 * (msCycles * 1000 * get s R.AON_WAKE_TMR_SEC) ≤ 100 * (t - a))
    | none => false
  .next (if modeOf s = modeDORMANT && due && isSet s R.AON_WAKE_CTL_TMR then wakeUp s 3 else s)

/-! ## Meanings: causes -/

/-- THERMAL_HOT (R423, R487). -/
def execThermalHot (d : BitVec 11) (s : State) : Host.Outcome State Fault Refusal := .next (if hotAt ≤ d.toInt then setTemp s d else s)

/-- THERMAL_CRIT (R557). -/
def execThermalCrit (d : BitVec 11) (s : State) : Host.Outcome State Fault Refusal := .next (if critAt ≤ d.toInt then setTemp s d else s)

/-- JUNCTION_BELOW_100C (R487): below 100 °C, or below 112 °C. -/
def execJunctionBelow100c (d : BitVec 11) (s : State) : Host.Outcome State Fault Refusal := .next (if d.toInt < critAt then setTemp s d else s)

/-- SUPPLY_OOR (R510, R543): before the internal reset is released it only holds that; in DORMANT no rail is monitored. -/
def execSupplyOor (s : State) : Host.Outcome State Fault Refusal :=
  .next (if s.sup.railBad ∨ modeOf s = modeDORMANT then s
    else
      let s' := setCause s fun x => { x with railBad := true }
      if s.sup.held then s' else fault s' fltSupplyOor)

/-- RAIL_IN_RANGE (R543). -/
def execRailInRange (s : State) : Host.Outcome State Fault Refusal := .next (setCause s fun x => { x with railBad := false })

/-- CLK_FAIL (R487). -/
def execClkFail (s : State) : Host.Outcome State Fault Refusal :=
  .next (if s.sup.clkBad then s
    else
      let s' := setCause s fun x => { x with clkBad := true }
      if s.sup.held then s' else fault s' fltClkFail)

/-- CLOCK_RESTORED (R487). -/
def execClockRestored (s : State) : Host.Outcome State Fault Refusal := .next (setCause s fun x => { x with clkBad := false })

/-- HOST_LINK_DOWN (R487): the link has left L0 unrequested. -/
def execHostLinkDown (s : State) : Host.Outcome State Fault Refusal :=
  .next (if s.host.up then
    fault { setCause s fun x => { x with linkBad := true } with host := { s.host with up := false } } fltHostLink
  else s)

/-- HOST_LINK_UP (R487). -/
def execHostLinkUp (s : State) : Host.Outcome State Fault Refusal :=
  if modeOf s = modeDORMANT then .next s
  else finSettle { setCause s fun x => { x with linkBad := false } with host := { s.host with up := true } }

end Sys2Proof.Machine
end

