-- ==== Sys2Proof/Machine/Exchange.lean ====
section
/-! DEFINITION. Installing, admitting, exchanging and migrating programs (R41 to R46, R69, R275 to R278, R329 to R337, R357): the commands.
What a SWAP, a RESTART and a migration do at their boundary stands with the boundary. -/

namespace Sys2Proof.Machine

/-! ## Pairs -/

/-- The pair a ring command names: SEQ at 0x04, PAIR at 0x05. -/
def cmdSeq (c : RingCmd) : Nat := leAt c.entry 4 1
def cmdPair (c : RingCmd) : Nat := leAt c.entry 5 1

/-- Does partition o own pair p of sequencer q? -/
def ownsPair (s : State) (o q p : Nat) : Bool := q < 4 && p < 8 && pairValid s q p && ownerOf s q p == o

/-- R336: is pair p of sequencer q part of a migration: on its source from the request on, or moved and not yet resumed? -/
def migrating (s : State) (q p : Nat) : Bool :=
  let st := get s R.SEQ_MIG_STAT_STATE
  ((st == 1 || st == 2) && get s R.SEQ_MIG_STAT_SRC == q) || (pairOf s q p).moving

/-! ## INSTALL (R276, R277, R357) -/

/-- Carry out an INSTALL command. -/
def installCmd (c : RingCmd) (s : State) : State :=
  let q := cmdSeq c
  let p := cmdPair c
  let img := leAt c.entry 8 8
  if ¬ formOk c.entry [(4, 1), (5, 1), (8, 8)] ∨ img % 64 ≠ 0 then complete s c stBadField 0
  else if ¬ ownsPair s c.part q p ∨ migrating s q p then complete s c stOK (instWord 1 (0, 0, 0) 0)
  else if (findInstall s q p).isSome then complete s c stOK (instWord 2 (0, 0, 0) 0)
  else
    let s := modPair s q p fun x => { x with stbyOld := get s (R.SEQ_PAIR_STAT_STBY q p) }
    let s := put s (R.SEQ_PAIR_STAT_STBY q p) 1
    installNext (modSeq s q fun x => { x with installs := x.installs ++ [{ pair := p, cmd := c, addr := img, stage := 0 }] }) q

/-! ## ADMISSION (R41 to R44, R69) -/

/-- R276 steps 3 to 6: the program in the install buffer of sequencer q, for pair p, is judged. -/
def admitInstall (s : State) (q p : Nat) : State :=
  let img := (seqOf s q).buffer
  match admitCheck s q p (ownerOf s q p) img with
  | some r => installRefuse (noteRefusal s (ownerOf s q p) r) q p (instWord 0x0E r 0)
  | none =>
    let s := setStandby s q p (some img)
    installEnd (modPair s q p fun x => { x with resvS := true }) q p 2 0

/-- R69: a program halted by mode is judged again; one that is admitted starts at the next boundary. -/
def admitAgain (s : State) (q p : Nat) (cmd : Option RingCmd) : State :=
  let refused (s : State) : State := match cmd with
    | none => s
    | some c => complete s c stNotReady 0
  match activeImage s q p with
  | none => refused s
  | some img =>
    if progState s q p ≠ stByMode ∨ ¬ runsIn img (modeOf s) then refused s
    else match admitCheck s q p (ownerOf s q p) img with
      | some r =>
        let s := put (noteRefusal s (ownerOf s q p) r) (R.SEQ_PAIR_INST_WORD q p) (instWord 0x0E r 0)
        refused (raiseP s (ownerOf s q p) srcHaltMode)
      | none => modPair s q p fun x => { x with resvA := true, readmit := true, restart := cmd }

/-- R44: the belay pair judges the program at the head of the line. -/
def admitNext (s : State) : State :=
  match s.seqs.adm with
  | [] => s
  | a :: r =>
    if ¬ belayUp s then s
    else
      let s := { s with seqs := { s.seqs with adm := r } }
      if a.install then admitInstall s a.seq a.pair else admitAgain s a.seq a.pair a.restart

/-! ## SWAP and RESTART (R329, R357) -/

/-- R336: has a program of partition o left pair p of sequencer q in the migration in progress? -/
def movedFrom (s : State) (o q p : Nat) : Bool :=
  get s R.SEQ_MIG_STAT_STATE == 2 && get s R.SEQ_MIG_STAT_SRC == q &&
  (List.range 32).any fun i => (pairOf s (i / 8) (i % 8)).moving && ownerOf s (i / 8) (i % 8) == o &&
    get s (R.PW_PAIR_WHERE_SEQ o i) == q && get s (R.PW_PAIR_WHERE_PAIR o i) == p

/-- The checks that SWAP and RESTART share: PRIV_DENIED first (R329), but not for a pair that is being moved away (R336), then the form; k
goes on with sequencer and pair. -/
def exchangeCmd (c : RingCmd) (s : State) (k : Nat → Nat → State) : State :=
  let q := cmdSeq c
  let p := cmdPair c
  if q < 4 ∧ p < 8 ∧ ¬ ownsPair s c.part q p ∧ ¬ movedFrom s c.part q p then complete s c stPrivDenied 0
  else if ¬ formOk c.entry [(4, 1), (5, 1)] ∨ 4 ≤ q ∨ 8 ≤ p then complete s c stBadField 0
  else k q p

/-- A SWAP: accepted when STBY reads 2, no SWAP is pending and the pair is not being migrated. -/
def swapCmd (c : RingCmd) (s : State) : State :=
  exchangeCmd c s fun q p =>
    if get s (R.SEQ_PAIR_STAT_STBY q p) = 2 ∧ (pairOf s q p).swap.isNone ∧ ¬ migrating s q p then
      modPair s q p fun x => { x with swap := some c }
    else complete s c stNotReady 0

/-- R69: a RESTART of a program halted by mode whose mode set names the mode in force has it judged again; one that is already waiting
for another RESTART is refused. -/
def restartAgain (s : State) (q p : Nat) (c : RingCmd) : State :=
  match s.seqs.adm.find? fun a => a.seq == q && a.pair == p && !a.install with
  | none => { s with seqs := { s.seqs with adm := s.seqs.adm ++ [{ seq := q, pair := p, install := false, restart := some c }] } }
  | some a =>
    if a.restart.isSome then complete s c stNotReady 0
    else
      let f (b : AdmReq) : AdmReq := if b.seq = q ∧ b.pair = p ∧ b.install = false then { b with restart := some c } else b
      { s with seqs := { s.seqs with adm := s.seqs.adm.map f } }

/-- A RESTART. -/
def restartCmd (c : RingCmd) (s : State) : State :=
  exchangeCmd c s fun q p =>
    let x := pairOf s q p
    match activeImage s q p with
    | none => complete s c stNotReady 0
    | some img =>
      if migrating s q p ∨ x.swap.isSome ∨ x.restart.isSome then complete s c stNotReady 0
      else if progState s q p = stByMode ∧ runsIn img (modeOf s) ∧ ¬ x.readmit then restartAgain s q p c
      else modPair s q p fun x => { x with restart := some c }

/-! ## Migration (R334) -/

/-- Valid pairs of sequencer q. -/
def validPairs (s : State) (q : Nat) : List Nat := (List.range 8).filter (pairValid s q)

/-- Cycles reserved on a sequencer, by partition o or by all. -/
def cyclesOn (s : State) (q : Nat) (o : Option Nat) : Nat :=
  ((validPairs s q).map fun p => if o.isNone || o == some (ownerOf s q p) then pairReserves s q p hdrCycles else 0).sum

/-- R334 codes 4 and 5, 0 when neither applies. -/
def migFits (s : State) (a b : Nat) : Nat :=
  if 8 - (validPairs s b).length < (validPairs s a).length then 4
  else if deviceLimit s 5 b < cyclesOn s a none + cyclesOn s b none ∨
      (List.range 8).any fun o => decide (0 < cyclesOn s a (some o) ∧
        deviceLimit s 5 b * shareOf s o 5 b / 100 < cyclesOn s a (some o) + cyclesOn s b (some o)) then 5
  else 0

/-- R334: the code of a request from a to b. -/
def migCode (s : State) (a b : Nat) : Nat :=
  let st := get s R.SEQ_MIG_STAT_STATE
  if a = b then 1
  else if offline s a ∨ offline s b then 2
  else if st = 1 ∨ st = 2 then 3
  else migFits s a b

/-! ## Meanings -/

/-- INSTALL (R276, R357). -/
def execInstall (p : Part) (r : Ring) (id : Nat) (s : State) : Host.Outcome State Fault Refusal :=
  finSettle (withCmd s p r id 1 installCmd)

/-- INSTALL_IMAGE_LOADED (R276, R277): the image in sequencer q's install buffer is checked. -/
def execInstallImageLoaded (q : Seq) (s : State) : Host.Outcome State Fault Refusal := finSettle (installCheck s q)

/-- ADMISSION (R41 to R44, R69). -/
def execAdmission (s : State) : Host.Outcome State Fault Refusal := finSettle (admitNext s)

/-- SWAP (R329, R357). -/
def execSwap (p : Part) (r : Ring) (id : Nat) (s : State) : Host.Outcome State Fault Refusal :=
  finSettle (withCmd s p r id 2 swapCmd)

/-- RESTART (R357, R69). -/
def execRestart (p : Part) (r : Ring) (id : Nat) (s : State) : Host.Outcome State Fault Refusal :=
  finSettle (withCmd s p r id 3 restartCmd)

/-- SEQ_MIG_REQ (R334). -/
def execSeqMigReq (v : Word32) (s : State) : Host.Outcome State Fault Refusal := answered s <|
  let a := bits v.toNat 0 2
  let b := bits v.toNat 2 2
  let c := migCode s a b
  .next (if c ≠ 0 then put s R.SEQ_MIG_STAT_CODE c
    else put (put (put (put s R.SEQ_MIG_STAT_STATE 1) R.SEQ_MIG_STAT_CODE 0) R.SEQ_MIG_STAT_SRC a) R.SEQ_MIG_STAT_DST b)

/-- SEQ_ONLINE_REQUEST (R337): the offline sequencers written as 1 come online at the next boundary. -/
def execSeqOnlineRequest (v : Word32) (s : State) : Host.Outcome State Fault Refusal := answered s <|
  let l := (List.range 4).filter fun q => bitAt v.toNat q && offline s q && !s.seqs.online.contains q
  .next { s with seqs := { s.seqs with online := s.seqs.online ++ l } }

/-- SEQ_TEST_REQ (R337): discarded for an online sequencer, and while a test runs (log entry 52). -/
def execSeqTestReq (v : Word32) (s : State) : Host.Outcome State Fault Refusal := answered s <|
  let q := bits v.toNat 0 2
  .next (if offline s q ∧ get s R.SEQ_TEST_STAT_RESULT ≠ 1 then put (put s R.SEQ_TEST_STAT_RESULT 1) R.SEQ_TEST_STAT_SEQ q else s)

/-- SEQ_TEST_DONE (R337). -/
def execSeqTestDone (pass : Bool) (s : State) : Host.Outcome State Fault Refusal :=
  .next (if get s R.SEQ_TEST_STAT_RESULT = 1 then put s R.SEQ_TEST_STAT_RESULT (if pass then 2 else 3) else s)

end Sys2Proof.Machine
end

