-- ==== Sys2Proof/Machine/Pins.lean ====
section
/-! DEFINITION. The pin multiplexer (R549 to R556): function switches, what each output function does at a tick event, linear timecode,
the lens UARTs and the auxiliary I²C buses. -/

namespace Sys2Proof.Machine

/-- A write is discarded: PIN_STAT.CFGERR (R549, R551, R556). -/
def pinErr (s : State) : State := setF s R.PIN_STAT_CFGERR

def lineOf (s : State) (n : Nat) : LineSt := nth s.pins.line n LineSt.init

def modLine (s : State) (n : Nat) (f : LineSt → LineSt) : State := { s with pins := { s.pins with line := modAt s.pins.line n f } }

def modLtc (s : State) (f : Ltc → Ltc) : State := { s with pins := { s.pins with ltc := f s.pins.ltc } }

/-- R549: does line n offer function f? -/
def offers (n f : Nat) : Bool :=
  match f with
  | 1 => n ≤ 1
  | 3 => 8 ≤ n && n ≤ 15
  | 6 => 40 ≤ n && n ≤ 47
  | 7 => 16 ≤ n && n ≤ 23
  | _ => true

/-- R549, R556: may line n take a configuration word? -/
def cfgOk (n v : Nat) : Bool := offers n (bits v 0 3) && bits v 4 2 != 3 && bits v 6 2 != 3

/-- Does line n carry function f, outside the settle window of a switch? -/
def carries (s : State) (n f : Nat) : Bool := get s (R.PIN_GL_CFG_FUNC n) == f && (lineOf s n).settle.isNone

/-! ## Levels (R550) -/

/-- Bit n of the pair of words that PIN_GPIO_OUT and PIN_GPIO_OE are. -/
def lineBit (s : State) (lo hi : Fld) (n : Nat) : Bool := if n < 32 then bitAt (get s lo) n else bitAt (get s hi) (n - 32)

/-- The level at which the device holds line n, none where the level is that of a waveform in progress, of a boundary cell (R547), or
comes from outside. -/
def lineDrives (s : State) (n : Nat) : Option Bool :=
  let out := lineBit s R.PIN_GPIO_OUT_LO_BITS R.PIN_GPIO_OUT_HI_BITS n
  let arg := get s (R.PIN_GL_FARG_ARG n)
  if modeOf s = modeDORMANT ∨ s.sup.tap = .extest then none
  else match get s (R.PIN_GL_CFG_FUNC n) with
  | 0 => if lineBit s R.PIN_GPIO_OE_LO_BITS R.PIN_GPIO_OE_HI_BITS n then some out else none
  | 2 => some ((isRec (modeOf s) && !anchored s && out) == bitAt arg 0)
  | 3 => if n % 2 = 0 then some true else none
  | 4 => some ((lineOf s n).pulse == bitAt arg 24)
  | 5 => some ((lineOf s n).high != bitAt arg 0)
  | _ => none

/-- The pad level of line n; a level the device does not hold is free. -/
def padLevel (s : State) (n : Nat) : Bool := (lineDrives s n).getD (bitAt (freeVal s) n)

/-! ## Function switches (R553, R554) -/

/-- Line n switches to configuration word v at cycle t: the settle window starts, or starts again. -/
def switchLine (s : State) (n v t : Nat) : State :=
  let s := put (put (put (put s (R.PIN_GL_CFG_FUNC n) (bits v 0 3)) (R.PIN_GL_CFG_PULL n) (bits v 4 2))
    (R.PIN_GL_CFG_DRIVE n) (bits v 6 2)) (R.PIN_GL_CFG_SLEW n) (bits v 8 1)
  let s := clrF s (R.PIN_GL_STAGE_PEND n)
  modLine (bump s R.PIN_SWITCH_CNT_COUNT) n fun l => { l with settle := some (t + nsCycles 256), pulse := false, high := false }

/-- The configuration held in PIN_GL_STAGE. -/
def stagedCfg (s : State) (n : Nat) : Nat :=
  get s (R.PIN_GL_STAGE_FUNC n) + 2 ^ 4 * get s (R.PIN_GL_STAGE_PULL n) + 2 ^ 6 * get s (R.PIN_GL_STAGE_DRIVE n) +
    2 ^ 8 * get s (R.PIN_GL_STAGE_SLEW n)

/-- R32, R553: the pending switches at a tick event. -/
def stagedSwitches (s : State) : State :=
  forN 48 (fun n s => if isSet s (R.PIN_GL_STAGE_PEND n) then switchLine s n (stagedCfg s n) s.clk else s) s

/-- The tick event starts SYNC_OUT pulses and TICK_OUT high halves (R550). -/
def pulseLines (s : State) : State :=
  forN 48 (fun n s =>
    let m := bits (get s (R.PIN_GL_FARG_ARG n)) 16 8 + 1
    modLine s n fun l => { l with pulse := get s (R.PIN_GL_CFG_FUNC n) == 4 && s.tick.no % m == 0,
                                  high := get s (R.PIN_GL_CFG_FUNC n) == 5 }) s

/-- R550: the width of a SYNC_OUT pulse in cycles. -/
def pulseCycles (s : State) (n : Nat) : Nat := 12 * bits (get s (R.PIN_GL_FARG_ARG n)) 0 16

/-! ## Linear timecode (R550, R551) -/

/-- F of R551: the rate rounded to the nearest integer. Which of two equally near integers it is, is open. -/
def ltcRate (num den : Nat) : Nat :=
  let q := (2 * num + den) / (2 * den)
  if (2 * num + den) % (2 * den) = 0 then q - b2n Config.ltcTieDown else q

/-- U and B of R551, none at a rate with no base. -/
def ltcBase (s : State) : Option (Nat × Nat) :=
  let f := ltcRate s.tick.num s.tick.den
  match [1, 2, 3, 4].find? fun u => f == 24 * u || f == 25 * u || f == 30 * u with
  | none => none
  | some u => some (u, f / u)

/-- R551: does the device count drop-frame at this rate with multiple u? -/
def dropFrame (s : State) (u : Nat) : Bool := 1001 * s.tick.num == 30000 * u * s.tick.den

/-- A two-digit field of the timecode data bits: units at u, tens of w bits at t (log entry 60). -/
def ltcDigits (d u t w : Nat) : Nat := bits d u 4 + 10 * bits d t w

/-- Data bits d with a two-digit field set to v. -/
def ltcPut (d u t w v : Nat) : Nat :=
  d - bits d u 4 * 2 ^ u - bits d t w * 2 ^ t + (v % 10) * 2 ^ u + (v / 10 % 2 ^ w) * 2 ^ t

/-- The time address one frame later, at base b (R550, R551). -/
def ltcNext (d b : Nat) (drop : Bool) : Nat :=
  let f := ltcDigits d 0 8 2 + 1
  if f < b then ltcPut d 0 8 2 f
  else
    let sec := ltcDigits d 16 24 3 + 1
    if sec < 60 then ltcPut (ltcPut d 0 8 2 0) 16 24 3 sec
    else
      let m := ltcDigits d 32 40 3 + 1
      let m' := if m < 60 then m else 0
      let h := ltcDigits d 48 56 2
      let h' := if m < 60 then h else if h + 1 < 24 then h + 1 else 0
      let d := ltcPut (ltcPut (ltcPut d 16 24 3 0) 32 40 3 m') 48 56 2 h'
      ltcPut d 0 8 2 (if drop && m' % 10 != 0 then 2 else 0)

/-- PIN_LTC_TX. -/
def ltcTx (s : State) : Nat := get s R.PIN_LTC_TX_LO_DATA + 2 ^ 32 * get s R.PIN_LTC_TX_HI_DATA

/-- GL1 starts to send the frame in PIN_LTC_TX. -/
def ltcSend (s : State) : State := if carries s 1 1 then modLtc s fun l => { l with tx := some (ltcTx s) } else s

/-- A tick event for timecode: the received frame is latched; GL1 starts a frame every U ticks, its address advanced under AUTO. -/
def ltcTick (s : State) : State :=
  let s := put2 s R.PIN_LTC_RX_LO_DATA R.PIN_LTC_RX_HI_DATA s.pins.ltc.last
  match ltcBase s with
  | none => s
  | some (u, b) =>
    if s.tick.no % u ≠ 0 then s
    else if isSet s R.PIN_LTC_CTL_AUTO then
      ltcSend (put2 s R.PIN_LTC_TX_LO_DATA R.PIN_LTC_TX_HI_DATA (ltcNext (ltcTx s) b (dropFrame s u)))
    else ltcSend s

/-- R551: a rate change under AUTO that leads to a rate with no base. -/
def ltcRateCheck (s : State) : State :=
  if isSet s R.PIN_LTC_CTL_AUTO && (ltcBase s).isNone then pinErr (clrF s R.PIN_LTC_CTL_AUTO) else s

/-- What a tick event does at the pins, TICKNO being the new one (R32). -/
def pinTick (s : State) : State := ltcTick (pulseLines (stagedSwitches s))

/-! ## UARTs and I²C (R550, R556) -/

def uartOf (s : State) (u : Nat) : Uart := nth s.pins.uart u { tx := [], rx := [] }

/-- A UART's FIFOs take a value, shown in PIN_UART_STAT. -/
def setUart (s : State) (u : Nat) (x : Uart) : State :=
  put (put { s with pins := { s.pins with uart := setAt s.pins.uart u x } } (R.PIN_UART_STAT_TXLVL u) x.tx.length)
    (R.PIN_UART_STAT_RXLVL u) x.rx.length

def auxOf (s : State) (b : Nat) : Aux := nth s.pins.aux b { fifo := [], xfer := none }

def setAux (s : State) (b : Nat) (x : Aux) : State := { s with pins := { s.pins with aux := setAt s.pins.aux b x } }

/-- R556: a write of PIN_I2C_DATA; a byte for a full FIFO is lost (log entry 61). -/
def auxPush (s : State) (b : Nat) (v : Byte) : State :=
  let x := auxOf s b
  if x.fifo.length < 16 then setAux s b { x with fifo := x.fifo ++ [v] } else s

/-- R556: a read of PIN_I2C_DATA; what an empty FIFO reads as is open. -/
def auxPop (s : State) (b : Nat) : State :=
  let x := auxOf s b
  match x.fifo with
  | [] => { useFree s with rdata := freeVal s % 256 }
  | v :: r => { setAux s b { x with fifo := r } with rdata := v.toNat }

/-- R556: a write of PIN_UART_CTL. -/
def uartCtl (s : State) (u v : Nat) : State :=
  if bits v 0 16 < 16 then pinErr s else put (put s (R.PIN_UART_CTL_DIV u) (bits v 0 16)) (R.PIN_UART_CTL_EN u) (bits v 16 1)

/-! ## Meanings -/

/-- PIN_GL_CFG_WRITE (R549, R553, R554). -/
def execPinGlCfgWrite (n : Line) (v : Word32) (t : Nat) (s : State) : Host.Outcome State Fault Refusal := answered s <|
  .next (if cfgOk n v.toNat then switchLine (stamp s t) n v.toNat t else pinErr (stamp s t))

/-- PIN_GL_STAGE_WRITE (R549, R553, R554): it replaces a pending switch. -/
def execPinGlStageWrite (n : Line) (v : Word32) (s : State) : Host.Outcome State Fault Refusal := answered s <|
  let w := v.toNat
  .next (if cfgOk n w then
    setF (put (put (put (put s (R.PIN_GL_STAGE_FUNC n) (bits w 0 3)) (R.PIN_GL_STAGE_PULL n) (bits w 4 2))
      (R.PIN_GL_STAGE_DRIVE n) (bits w 6 2)) (R.PIN_GL_STAGE_SLEW n) (bits w 8 1)) (R.PIN_GL_STAGE_PEND n)
  else pinErr s)

/-- R553: the armed detectors of a line take the pad level afresh, so that no edge is captured. -/
def relevel (s : State) (n : Nat) : State :=
  forN 128 (fun i s => if get s (R.TICK_EDGE_CFG_INPUT (i / 16) (i % 16)) = n then setLevel s (i / 16) (i % 16) none else s) s

/-- SWITCH_SETTLE_END (R553): the pad level is taken as the old level, so no edge is captured. -/
def execSwitchSettleEnd (n : Line) (t : Nat) (s : State) : Host.Outcome State Fault Refusal :=
  .next (match (lineOf s n).settle with
    | none => s
    | some e =>
      if e ≤ t then relevel (modLine (stamp s t) n fun l => { l with settle := none }) n else s)

/-- The partition that PIN_GL_OWNER names, if one. -/
def lineOwner (s : State) (n : Nat) : Option Nat :=
  if isSet s (R.PIN_GL_OWNER_VALID n) then some (get s (R.PIN_GL_OWNER_PART n)) else none

/-- R552: the former owner's detectors that are armed on the line are disarmed. -/
def disarmLine (s : State) (o n : Nat) : State :=
  forN 16 (fun e s => if get s (R.TICK_EDGE_CFG_INPUT o e) = n ∧ isSet s (R.TICK_EDGE_CFG_EDGES o e) then edgeDisarm s o e else s) s

/-- PIN_GL_OWNER_WRITE (R552). -/
def execPinGlOwnerWrite (n : Line) (v : Word32) (s : State) : Host.Outcome State Fault Refusal := answered s <|
  let s' := put (put s (R.PIN_GL_OWNER_PART n) (bits v.toNat 0 3)) (R.PIN_GL_OWNER_VALID n) (bits v.toNat 7 1)
  .next (match lineOwner s n with
    | none => s'
    | some o => if lineOwner s' n = some o then s' else disarmLine s' o n)

/-- PIN_LTC_CTL_WRITE (R551). -/
def execPinLtcCtlWrite (v : Word32) (s : State) : Host.Outcome State Fault Refusal := answered s <|
  .next (if bitAt v.toNat 0 && (ltcBase s).isNone then pinErr s else put s R.PIN_LTC_CTL_AUTO (bits v.toNat 0 1))

/-- SYNC_OUT_PULSE_END (R550): the pulse has lasted the width given. -/
def execSyncOutPulseEnd (n : Line) (t : Nat) (s : State) : Host.Outcome State Fault Refusal :=
  .next (if (lineOf s n).pulse && s.tick.last + pulseCycles s n ≤ t then modLine (stamp s t) n fun l => { l with pulse := false } else s)

/-- TICK_OUT_FALL (R550): half a nominal period after the tick event. -/
def execTickOutFall (n : Line) (t : Nat) (s : State) : Host.Outcome State Fault Refusal :=
  .next (if (lineOf s n).high && 600000000 * s.tick.den ≤ (t - s.tick.last) * s.tick.num then
    modLine (stamp s t) n fun l => { l with high := false } else s)

/-- LTC_RX_FRAME (R550, R556): a frame decoded on GL0, with whether its sync word is valid. -/
def execLtcRxFrame (data : Word64) (sync : Bool) (s : State) : Host.Outcome State Fault Refusal :=
  .next (if carries s 0 1 then
    if sync then
      let s := modLtc s fun l => { l with last := data.toNat, good := min 4 (l.good + 1) }
      if 4 ≤ s.pins.ltc.good then setF s R.PIN_LTC_STAT_LOCK else s
    else clrF (bump (modLtc s fun l => { l with good := 0 }) R.PIN_LTC_STAT_ERR) R.PIN_LTC_STAT_LOCK
  else s)

/-- LTC_TX_FRAME_TIMER (R551): at a rate with no base, a frame starts every 1/30 s of the crystal (40,000,000 cycles). -/
def execLtcTxFrameTimer (t : Nat) (s : State) : Host.Outcome State Fault Refusal :=
  .next (if (ltcBase s).isNone && (s.pins.ltc.tx.isNone || 40000000 + s.pins.ltc.txAt ≤ t) then
    ltcSend (modLtc (stamp s t) fun l => { l with txAt := t })
  else s)

/-- UART_RX_BYTE (R550, R556): a byte received on the odd line; one that finds the FIFO of 64 full is lost and counted. -/
def execUartRxByte (u : Fin 4) (b : Byte) (s : State) : Host.Outcome State Fault Refusal :=
  let x := uartOf s u
  .next (if isSet s (R.PIN_UART_CTL_EN u) && carries s (8 + 2 * u.val + 1) 3 then
    if x.rx.length < 64 then setUart s u { x with rx := x.rx ++ [b] } else bump s (R.PIN_UART_STAT_OVF u)
  else s)

/-- UART_TX_BYTE (R550): the oldest byte of the transmit FIFO has been sent. -/
def execUartTxByte (u : Fin 4) (s : State) : Host.Outcome State Fault Refusal :=
  let x := uartOf s u
  .next (if isSet s (R.PIN_UART_CTL_EN u) then setUart s u { x with tx := x.tx.drop 1 } else s)

/-- PIN_UART_DATA_WRITE (R556): a byte is queued; one for a full FIFO of 64 is lost (log entry 61). -/
def execPinUartDataWrite (u : Fin 4) (v : Word32) (s : State) : Host.Outcome State Fault Refusal := answered s <|
  let x := uartOf s u
  .next (if x.tx.length < 64 then setUart s u { x with tx := x.tx ++ [BitVec.ofNat 8 v.toNat] } else s)

/-- PIN_UART_DATA_READ (R556): the oldest received byte with VALID; VALID 0 and an open byte when there is none. -/
def execPinUartDataRead (u : Fin 4) (s : State) : Host.Outcome State Fault Refusal := answered s <|
  let x := uartOf s u
  .next (match x.rx with
    | [] => { useFree s with rdata := freeVal s % 256 }
    | b :: r => { setUart s u { x with rx := r } with rdata := b.toNat + 256 })

/-- PIN_I2C_CMD (R550, R556): a length outside 1 to 16, a speed code 3 or a bus that is busy discards the command (log entry 62). -/
def execPinI2cCmd (b : Fin 4) (v : Word32) (s : State) : Host.Outcome State Fault Refusal := answered s <|
  let w := v.toNat
  let x := auxOf s b
  .next (if x.xfer.isSome || bits w 8 5 == 0 || 16 < bits w 8 5 || bits w 16 2 == 3 then pinErr s
    else setF (setAux s b { x with xfer := some (bits w 0 7, bitAt w 7, bits w 8 5, bits w 16 2) }) (R.PIN_I2C_STAT_BUSY b))

/-- AUX_I2C_DONE (R550, R556): a transfer ends; a read has put its bytes in the FIFO, a write has taken its own (log entry 62). -/
def execAuxI2cDone (b : Fin 4) (nak : Bool) (data : List Byte) (s : State) : Host.Outcome State Fault Refusal :=
  let x := auxOf s b
  .next (match x.xfer with
    | none => s
    | some (_, read, len, _) =>
      let s := clrF s (R.PIN_I2C_STAT_BUSY b)
      if nak then setF (setAux s b { x with xfer := none }) (R.PIN_I2C_STAT_NAK b)
      else
        let f := if read then (x.fifo ++ sliceBytes data 0 len).take 16 else x.fifo.drop len
        setF (setAux s b { fifo := f, xfer := none }) (R.PIN_I2C_STAT_DONE b))

end Sys2Proof.Machine
end

