-- ==== Sys2Proof/Machine/SeqDev.lean ====
section
/-! DEFINITION. The device instructions of Lysilo (R295 to R303, R305, R321 to R328): ISSUE, MOVE, SPOOL, SIG, WAIT, TSET, TGET, EARM, and
the events a sequencer meets between instructions: the end of a quantum, a timer's expiry, an edge, a doorbell. -/

namespace Sys2Proof.Machine

/-! ## ISSUE, SPOOL, MOVE -/

/-- ISSUE (sel none) and SPOOL: earlier stores drain; a bad pointer faults; the descriptor of n bytes is read and passed on. A
window descriptor in the frame store takes a free number of cycles; one in host memory stalls the sequencer (R298, R300, R305). -/
def descRow (s : State) (q p rd ra n : Nat) (sel : Option Nat) (ue : Bool) : State :=
  let s := drainAll s q p
  if devDead s (ownerOf s q p) then seqWrite s q p rd devAborted 32
  else
    let ptr := greg s q p ra
    let r := descRef s q p ptr
    orFault s q p (descCause s q p ptr 64 0 n) ptr fun s =>
      if r.space = 0 then descPass s q p rd r sel (ssmRead s r.addr n) 32
      else if r.space = 1 then
        orFault s q p (if ue then 6 else 0) ptr fun s =>
          let (stall, s) := stallCycles s
          descPass s q p rd r sel (fsRead s r.addr n) (32 + stall)
      else
        let x : Stall := { op := s.host.nextOp, since := s.clk, kind := if sel.isNone then 1 else 2, rd := rd, sel := sel.getD 0, ptr := ptr }
        modPair (startOp s (ownerOf s q p) (.load q rd) r.addr n false []) q p fun y => { y with stall := some x }

/-- MOVE (R299): the status, and the channel started. The program's status word stands 8 bytes before its first instruction. -/
def moveStart (s : State) (q p c : Nat) (r : DescRef) : Nat × State :=
  if chOwner s c ≠ some (ownerOf s q p) then (devPrivDenied, s)
  else if chState s c ≠ chIdle ∨ movHalted s then (devBusy, s)
  else (devOK, chStart s c r.space r.addr r.lo r.hi none)

/-! ## WAIT (R302) -/

/-- The program blocks on an object: its place in the waiting order is taken, and the sequencer picks another program. -/
def blockOn (s : State) (q p kind obj rd : Nat) : State :=
  let w : WaitSt := { kind := kind, obj := obj, rd := rd, order := s.seqs.order }
  let s := modPair s q p fun y => { y with wait := some w }
  leave { s with seqs := { s.seqs with order := s.seqs.order + 1 } } q p stBlocked

/-- WAIT on an object: f answers the value at once and the state after consuming it, none when the condition does not hold. -/
def waitRow (s : State) (q : Nat) (ecc : Ecc) (kind rd ra lim : Nat) (poll : Bool) (f : Nat → Nat → State → Option (Nat × State)) : State :=
  seqRun s q ecc (encImm 0x24 rd ra (kind + 2 ^ 15 * b2n poll)) fun p s =>
    let o := ownerOf s q p
    let x := greg s q p ra
    if devDead s o then seqWrite s q p rd (neg64 2) 4
    else if lim ≤ x then seqWrite s q p rd (neg64 3) 4
    else match f o x s with
      | some (v, s) => seqWrite s q p rd v 4
      | none => if poll then seqWrite s q p rd (neg64 1) 4 else blockOn (charge s q p 4) q p kind x rd

/-- WAIT on a tag: bits [15:0] of ra. -/
def waitTag (o x : Nat) (s : State) : Option (Nat × State) :=
  match lookupKey (partOf s o).tags x with
  | none => some (neg64 2, s)
  | some true => if heldFor s o 1 x then none else some (0, modPart s o fun y => { y with tags := eraseKey y.tags x })
  | some false => none

/-- WAIT on a timer consumes every pending expiry. -/
def waitTimer (o t : Nat) (s : State) : Option (Nat × State) :=
  let n := get s (R.TICK_TMR_STAT_PEND o t)
  if n = 0 ∨ heldFor s o 2 t then none else some (n, put s (R.TICK_TMR_STAT_PEND o t) 0)

/-- WAIT on a detector consumes the oldest capture. -/
def waitEdge (o e : Nat) (s : State) : Option (Nat × State) :=
  match capsOf s o e with
  | [] => none
  | c :: r => if heldFor s o 3 e then none else some (c, setCaps s o e r)

/-- WAIT on a program doorbell consumes its count. -/
def waitBell (o k : Nat) (s : State) : Option (Nat × State) :=
  let n := nth (partOf s o).bells k 0
  if n = 0 ∨ heldFor s o 4 k then none else some (n, modPart s o fun x => { x with bells := setAt x.bells k 0 })

/-! ## TSET, TGET, EARM (R303) -/

/-- R303: is ra in range for a TSET mode? Modes 3 and 4: at most the nominal tick period less 1 ns. -/
def tsetOk (s : State) (mode ns : Nat) : Bool :=
  if mode = 0 then true
  else if mode ≤ 2 then 1 ≤ ns && ns ≤ 2 ^ 40
  else (ns + 1) * s.tick.num ≤ 10 ^ 9 * s.tick.den

/-- TSET. -/
def tsetRow (s : State) (q : Nat) (ecc : Ecc) (mode rd ra tm : Nat) : State :=
  seqRun s q ecc (encImm 0x25 rd ra (tm + 32 * mode)) fun p s =>
    let ns := greg s q p ra
    let o := ownerOf s q p
    devRun s q p rd 4 fun s =>
      if ¬ tsetOk s mode ns then (devBadArg, s)
      else if mode = 0 then (devOK, tmrCancel s o tm)
      else (devOK, tmrLoad s o tm mode ns s.clk)

/-- TGET: f answers the value and the state after the read. -/
def tgetRow (s : State) (q : Nat) (ecc : Ecc) (sel rd ra tm : Nat) (f : Nat → State → Nat × State) : State :=
  seqRun s q ecc (encImm 0x26 rd ra (tm + 32 * sel)) fun p s =>
    let o := ownerOf s q p
    if devDead s o then seqWrite s q p rd 0 4
    else
      let (v, s) := f o s
      seqWrite s q p rd v 4

/-- The ns until a timer's next expiry: 0 when idle. A fraction of a ns is rounded one way or the other, and the time to an expiry that
waits for a tick event is not known yet: free values (log entry 3). -/
def tmrLeft (s : State) (o t : Nat) : Nat × State :=
  if tmrMode s o t = 0 then (0, s)
  else match (timerOf s o t).due with
    | none => (freeVal s, useFree s)
    | some d =>
      let c := d - s.clk
      if c * 5 % 6 = 0 then (c * 5 / 6, s) else (c * 5 / 6 + freeVal s % 2, useFree s)

/-- R327: arm a detector; the same input and edges keep the captures held. -/
def edgeArm (s : State) (o e input edges : Nat) (once : Bool) : State :=
  let same := get s (R.TICK_EDGE_CFG_INPUT o e) == input && get s (R.TICK_EDGE_CFG_EDGES o e) == edges
  let s := if same then s else setLevel (edgeFlush s o e) o e none
  put (put (put s (R.TICK_EDGE_CFG_EDGES o e) edges) (R.TICK_EDGE_CFG_INPUT o e) input) (R.TICK_EDGE_CFG_ONCE o e) (b2n once)

/-- R303: the status of an EARM for input x by partition o. -/
def earmStatus (s : State) (o x : Nat) : Nat :=
  if 50 ≤ x then devBadArg
  else if x < 48 ∧ ¬ (isSet s (R.PIN_GL_OWNER_VALID x) && get s (R.PIN_GL_OWNER_PART x) == o) then devPrivDenied
  else devOK

/-- Does a detector capture an edge of this direction (edges: bit 0 rising, bit 1 falling)? -/
def edgeWanted (edges : Nat) (rise : Bool) : Bool := if rise then bitAt edges 0 else bitAt edges 1

/-! ## Meanings -/

/-- ISSUE (R298, R305). ue: the read of a frame store descriptor met an uncorrectable error. -/
def execIssue (q : Seq) (ecc : Ecc) (rd ra : Fin 32) (ue : Bool) (t : Nat) (s : State) : Host.Outcome State Fault Refusal :=
  finSettle (seqRun (stamp s t) q ecc (encImm 0x20 rd ra 0) fun p s => descRow s q p rd ra 128 none ue)

/-- SPOOL (R300, R305). -/
def execSpool (q : Seq) (ecc : Ecc) (rd ra : Fin 32) (sel : Fin 8) (ue : Bool) (t : Nat) (s : State) : Host.Outcome State Fault Refusal :=
  finSettle (seqRun (stamp s t) q ecc (encImm 0x22 rd ra sel) fun p s => descRow s q p rd ra 64 (some sel) ue)

/-- MOVE (R299, R305). -/
def execMove (q : Seq) (ecc : Ecc) (rd ra : Fin 32) (chan : Chan) (s : State) : Host.Outcome State Fault Refusal :=
  finSettle (seqRun s q ecc (encImm 0x21 rd ra chan) fun p s =>
    let s := drainAll s q p
    if devDead s (ownerOf s q p) then seqWrite s q p rd devAborted 16
    else
      let ptr := greg s q p ra
      orFault s q p (descCause s q p ptr 8 8 32) ptr fun s =>
        let (st, s) := moveStart s q p chan (descRef s q p ptr)
        seqWrite s q p rd st 16)

/-- SIG (R301, R305). -/
def execSig (q : Seq) (ecc : Ecc) (rd ra : Fin 32) (src : BitVec 10) (s : State) : Host.Outcome State Fault Refusal :=
  .next (seqRun s q ecc (encImm 0x23 rd ra src.toNat) fun p s =>
    let n := (greg s q p ra + src.toNat) % 1024
    devRun s q p rd 4 fun s => if mayRaise s (ownerOf s q p) n then (devOK, raise s n) else (devPrivDenied, s))

/-- WAIT on the next tick boundary (R302). -/
def execWaitTick (q : Seq) (ecc : Ecc) (rd ra : Fin 32) (poll : Bool) (s : State) : Host.Outcome State Fault Refusal :=
  .next (seqRun s q ecc (encImm 0x24 rd ra (2 ^ 15 * b2n poll)) fun p s =>
    if devDead s (ownerOf s q p) then seqWrite s q p rd (neg64 2) 4
    else if poll then seqWrite s q p rd (neg64 1) 4
    else blockOn (charge s q p 4) q p 0 0 rd)

/-- WAIT on a tag (R302): the tag is bits [15:0] of ra. -/
def execWaitTag (q : Seq) (ecc : Ecc) (rd ra : Fin 32) (poll : Bool) (s : State) : Host.Outcome State Fault Refusal :=
  .next (seqRun s q ecc (encImm 0x24 rd ra (1 + 2 ^ 15 * b2n poll)) fun p s =>
    let o := ownerOf s q p
    let x := greg s q p ra % 2 ^ 16
    if devDead s o then seqWrite s q p rd (neg64 2) 4
    else match waitTag o x s with
      | some (v, s) => seqWrite s q p rd v 4
      | none => if poll then seqWrite s q p rd (neg64 1) 4 else blockOn (charge s q p 4) q p 1 x rd)

/-- WAIT on a timer (R302, R323). -/
def execWaitTimer (q : Seq) (ecc : Ecc) (rd ra : Fin 32) (poll : Bool) (s : State) : Host.Outcome State Fault Refusal :=
  .next (waitRow s q ecc 2 rd ra 32 poll waitTimer)

/-- WAIT on an edge detector (R302, R326). -/
def execWaitEdge (q : Seq) (ecc : Ecc) (rd ra : Fin 32) (poll : Bool) (s : State) : Host.Outcome State Fault Refusal :=
  .next (waitRow s q ecc 3 rd ra 16 poll waitEdge)

/-- WAIT on a program doorbell (R302). -/
def execWaitDoorbell (q : Seq) (ecc : Ecc) (rd ra : Fin 32) (poll : Bool) (s : State) : Host.Outcome State Fault Refusal :=
  .next (waitRow s q ecc 4 rd ra 16 poll waitBell)

/-- TSET mode 0 (R303, R324). -/
def execTsetCancel (q : Seq) (ecc : Ecc) (rd ra tm : Fin 32) (s : State) : Host.Outcome State Fault Refusal :=
  .next (tsetRow s q ecc 0 rd ra tm)

/-- TSET mode 1 (R303, R321). -/
def execTsetOneshot (q : Seq) (ecc : Ecc) (rd ra tm : Fin 32) (t : Nat) (s : State) : Host.Outcome State Fault Refusal :=
  .next (tsetRow (stamp s t) q ecc 1 rd ra tm)

/-- TSET mode 2 (R303, R321). -/
def execTsetPeriodic (q : Seq) (ecc : Ecc) (rd ra tm : Fin 32) (t : Nat) (s : State) : Host.Outcome State Fault Refusal :=
  .next (tsetRow (stamp s t) q ecc 2 rd ra tm)

/-- TSET mode 3 (R303, R322). -/
def execTsetTickOneshot (q : Seq) (ecc : Ecc) (rd ra tm : Fin 32) (s : State) : Host.Outcome State Fault Refusal :=
  .next (tsetRow s q ecc 3 rd ra tm)

/-- TSET mode 4 (R303, R322). -/
def execTsetTickPeriodic (q : Seq) (ecc : Ecc) (rd ra tm : Fin 32) (s : State) : Host.Outcome State Fault Refusal :=
  .next (tsetRow s q ecc 4 rd ra tm)

/-- TGET select 0 (R303). -/
def execTgetNs (q : Seq) (ecc : Ecc) (rd ra tm : Fin 32) (t : Nat) (s : State) : Host.Outcome State Fault Refusal :=
  .next (tgetRow (stamp s t) q ecc 0 rd ra tm fun o s => tmrLeft s o tm)

/-- TGET select 1 (R303). -/
def execTgetPending (q : Seq) (ecc : Ecc) (rd ra tm : Fin 32) (s : State) : Host.Outcome State Fault Refusal :=
  .next (tgetRow s q ecc 1 rd ra tm fun o s => (get s (R.TICK_TMR_STAT_PEND o tm), s))

/-- TGET select 2 (R303, R323): the lost count is read and cleared. -/
def execTgetLost (q : Seq) (ecc : Ecc) (rd ra tm : Fin 32) (s : State) : Host.Outcome State Fault Refusal :=
  .next (tgetRow s q ecc 2 rd ra tm fun o s => ((timerOf s o tm).lost, modTimer s o tm fun x => { x with lost := 0 }))

/-- EARM with edges 1 to 3 (R303, R327); edges 0 is the disarming form. -/
def execEarmArm (q : Seq) (ecc : Ecc) (rd ra : Fin 32) (det : Fin 16) (edges : Fin 4) (once : Bool) (s : State) :
    Host.Outcome State Fault Refusal :=
  .next (if edges.val = 0 then s else
    seqRun s q ecc (encImm 0x27 rd ra (det + 16 * edges.val + 64 * b2n once)) fun p s =>
      let o := ownerOf s q p
      let x := greg s q p ra
      devRun s q p rd 4 fun s =>
        let st := earmStatus s o x
        (st, if st = devOK then edgeArm s o det x edges once else s))

/-- EARM with edges 0 (R303, R327): the detector is disarmed; its input is checked as for arming. -/
def execEarmDisarm (q : Seq) (ecc : Ecc) (rd ra : Fin 32) (det : Fin 16) (once : Bool) (s : State) :
    Host.Outcome State Fault Refusal :=
  .next (seqRun s q ecc (encImm 0x27 rd ra (det + 64 * b2n once)) fun p s =>
    let o := ownerOf s q p
    let x := greg s q p ra
    devRun s q p rd 4 fun s =>
      let st := earmStatus s o x
      (st, if st = devOK then put (put (edgeDisarm s o det) (R.TICK_EDGE_CFG_INPUT o det) x) (R.TICK_EDGE_CFG_ONCE o det) (b2n once)
        else s))

/-- QUANTUM_EXPIRY (R279, R317): a program that has run 512 cycles gives way when another is runnable; it goes on when none is. -/
def execQuantumExpiry (q : Seq) (s : State) : Host.Outcome State Fault Refusal :=
  .next (match (seqOf s q).cur with
    | none => s
    | some p => if 512 ≤ (seqOf s q).quantum then leave s q p stRunnable else s)

/-- TIMER_EXPIRY (R321 to R323): timer tm of partition p reaches its next expiry at cycle t. -/
def execTimerExpiry (p : Part) (tm : Fin 32) (t : Nat) (s : State) : Host.Outcome State Fault Refusal :=
  .next (match (timerOf s p tm).due with
    | none => s
    | some d => if d ≤ t then tmrExpire (tmrNext (stamp s t) p tm) p tm else s)

/-- R553: is input x a general line within the settle window of a switch at cycle t? -/
def lineSettling (s : State) (x t : Nat) : Bool :=
  match (nth s.pins.line x LineSt.init).settle with
  | none => false
  | some e => x < 48 && t < e

/-- R325, R326, R553: an armed detector takes a level: an edge is captured when it differs from the one it took before, in a direction
that is wanted. The first level it takes is a change (log entry 47). -/
def edgeSample (s : State) (o e : Nat) (rise : Bool) (t : Nat) : State :=
  let edges := get s (R.TICK_EDGE_CFG_EDGES o e)
  if edges = 0 ∨ lineSettling s (get s (R.TICK_EDGE_CFG_INPUT o e)) (t - 12) ∨ levelOf s o e = some rise then s
  else
    let s := setLevel (stamp s t) o e (some rise)
    if edgeWanted edges rise then edgeTake s o e (t - 12) else s

/-- EDGE_CAPTURE (R325, R326, R553): detector det of partition p sees its input settle at a new level, first sampled at cycle t. -/
def execEdgeCapture (p : Part) (det : Fin 16) (rise : Bool) (t : Nat) (s : State) : Host.Outcome State Fault Refusal :=
  .next (edgeSample s p det rise t)

/-- PROGRAM_DOORBELL (R302, R344): a host write to program doorbell k through p's window; ignored while p is being reset (R381). -/
def execProgramDoorbell (p : Part) (k : Fin 16) (s : State) : Host.Outcome State Fault Refusal := answered s <|
  .next (inWindow s p (if (partOf s p).rst = 0 then bellRing s p k else s))

end Sys2Proof.Machine
end

