-- ==== Sys2Proof/Machine/Views.lean ====
section
/-! DEFINITION. The view pipeline and the monitor outputs (R92 to R100). -/

namespace Sys2Proof.Machine

/-! ## The overrun level's steps (R50, R51) -/

/-- The highest level a policy permits. -/
def policyMax (p : Nat) : Nat := if p = 0 then 3 else if p = 3 then 1 else 2

/-- R51: does the level stall the monitor? -/
def monitorStalled (s : State) : Bool :=
  let l := get s R.TICK_OVR_LAST_LEVEL
  (s.tick.policy == 0 && 2 ≤ l) || (s.tick.policy == 1 && 1 ≤ l)

/-! ## The picture a view shows (R92, R93) -/

/-- A source picture: format, depth, width, height and its samples by plane, row and column. -/
structure Picture where
  fmt : Nat
  d   : Nat
  w   : Nat
  h   : Nat
  px  : Nat → Nat → Nat → Nat

/-- An index mirrored about the edges of 0 to n − 1. -/
def mirror (i : Int) (n : Nat) : Nat := if i < 0 then (-i).toNat else if (n : Int) ≤ i then (2 * ((n : Int) - 1) - i).toNat else i.toNat

/-- The sample of a captured frame at (r, c), after black level, as packed (R92). -/
def capturedPx (s : State) (x : Frame) (r c : Nat) : Nat :=
  match x.win.find? fun w => portStart s w.port ≤ c && c < portStart s w.port + portWidth s w.port with
  | none => 0
  | some w =>
    let d := sampBits s
    let b := (c - portStart s w.port) * d
    bits (leVal (sliceBytes (nth w.packed r []) (b / 8) 3)) (b % 8) d

/-- A captured frame as a picture: plane 0 is the mosaic itself. -/
def capturedPicture (s : State) (x : Frame) : Picture :=
  { fmt := 0, d := sampBits s, w := rasterW s, h := rasterH s, px := fun _ r c => capturedPx s x r c }

/-- A decoded frame's buffer as a picture, full size or reduced (R126, R211, R214). -/
def decodedPicture (s : State) (f : DecFrame) : Picture :=
  let y := f.layout
  let fmt := lyFormat y
  let plane (k r c : Nat) : Nat :=
    if 3 ≤ f.layers then (refPx s y f.dst k r c).toNat
    else
      let n := if f.layers < 2 then 1 else 2
      let pitch (k : Nat) := ceilDiv (ceilDiv (planeW fmt k (lyW y) * n) 8 * 2) 64 * 64
      let off := ((List.range k).map fun i => 2 * n * lyRows y * pitch i).sum
      leVal (memRead s.fs (f.dst + off + r * pitch k + 2 * c) 2)
  let n := if 3 ≤ f.layers then 8 else if f.layers < 2 then 1 else 2
  let w := ceilDiv (planeW fmt 0 (lyW y) * n) 8 * (if fmt = 0 then 2 else 1)
  let h := ceilDiv (planeH fmt (lyH y) * n) 8 * (if fmt = 0 then 2 else 1)
  { fmt := fmt, d := lyDepth y, w := w, h := h,
    px := if fmt = 0 then fun _ r c => plane (planeOf (lyCfa y) r c) (r / 2) (c / 2) else plane }

/-- Colour channel of a mosaic plane: 0 red, 1 green, 2 blue. -/
def planeColour (k : Nat) : Nat := if k = 2 then 0 else if k = 3 then 2 else 1

/-- Steps 1 and 2 of R93: channel ch at (r, c) of a mosaic picture. -/
def demosaic (p : Picture) (cfa ch r c : Nat) : Nat :=
  let v (i j : Int) : Nat := p.px 0 (mirror i p.h) (mirror j p.w) * 2 ^ (16 - p.d)
  let col (i j : Nat) : Nat := planeColour (planeOf cfa i j)
  let y : Int := r; let x : Int := c
  if col r c = ch then v y x
  else if ch = 1 then (v y (x - 1) + v y (x + 1) + v (y - 1) x + v (y + 1) x) / 4
  else if col r c = 1 then
    if col r (c + 1) = ch then (v y (x - 1) + v y (x + 1)) / 2 else (v (y - 1) x + v (y + 1) x) / 2
  else (v (y - 1) (x - 1) + v (y - 1) (x + 1) + v (y + 1) (x - 1) + v (y + 1) (x + 1)) / 4

/-- Step 3 of R93: output channel i of the matrix of view v. -/
def viewMatrix (s : State) (old : List (Nat × Nat)) (v i : Nat) (c : List Nat) : Nat :=
  let m (j : Nat) : Int := sext 16 (getOld s old (R.INT_VIEW_MAT_COEF v (3 * i + j)))
  (clampI 0 65535 ((m 0 * (nth c 0 0 : Nat) + m 1 * (nth c 1 0 : Nat) + m 2 * (nth c 2 0 : Nat) + 2048) / 4096)).toNat

def viewSt (s : State) (v : Nat) : ViewSt := nth s.intake.view v ViewSt.init

/-- An entry of a LUT bank of view v. -/
def lutEntry (s : State) (v bank ch i : Nat) : Nat := (lookupKey (viewSt s v).lut (4096 * (3 * bank + ch) + i)).getD i

/-- Step 4 of R93, in the bank that LUTSEL selects. -/
def viewLut (s : State) (old : List (Nat × Nat)) (v ch x : Nat) : Nat :=
  let i := x / 16; let f := x % 16
  let bank := getOld s old (R.INT_VIEW_CFG_LUTSEL v)
  let e0 := lutEntry s v bank ch i
  let e1 := lutEntry s v bank ch (min 4095 (i + 1))
  (e0 * (16 - f) + e1 * f + 8) / 16

/-- Steps 1 to 4 of R93: channel ch of the picture, row by row; a YCbCr picture goes on as it is. -/
def viewChannel (s : State) (old : List (Nat × Nat)) (v : Nat) (p : Picture) (cfa ch : Nat) : List (List Nat) :=
  if p.fmt = 2 then (List.range p.h).map fun r => (List.range (if ch = 0 then p.w else p.w / 2)).map fun c => p.px ch r c
  else
    (List.range p.h).map fun r => (List.range p.w).map fun c =>
      let rgb := (List.range 3).map fun k => if p.fmt = 0 then demosaic p cfa k r c else p.px k r c * 2 ^ (16 - p.d)
      viewLut s old v ch (viewMatrix s old v ch rgb)

/-! Step 5 of R93: the scaler. -/

/-- The box average that comes first for a ratio below 1/2: by 2, or by 4 below 1/4. -/
def boxOf (src dst : Nat) : Nat := if 4 * dst < src then 4 else if 2 * dst < src then 2 else 1

/-- The averages of a line's groups of b. -/
def boxLine (b : Nat) (l : List Nat) : List Nat :=
  (List.range (ceilDiv l.length b)).map fun i =>
    let g := (l.drop (b * i)).take b
    (g.sum + Config.boxRound g.length % g.length) / g.length

/-- A sample of a line by its index; one beyond an edge is open (log entry 66). -/
def tapAt (l : List Nat) (i : Int) : Nat := if 0 ≤ i ∧ i < l.length then nth l i.toNat 0 else Config.scaleEdge l i

/-- A line scaled to dst samples: the box average by b, then four taps at one of 64 phases. -/
def scaleLine (b dst : Nat) (l : List Nat) : List Nat :=
  let l := boxLine b l
  (List.range dst).map fun x =>
    let p := x * l.length * 64 / dst + Config.scaleShift l.length dst % 64
    let i : Int := (p / 64 : Nat)
    Config.scaleTap (p % 64) [tapAt l (i - 1), tapAt l i, tapAt l (i + 1), tapAt l (i + 2)]

/-- Is a ratio of dst to src one that the scaler has: 1/8 to 2? -/
def ratioOk (src dst : Nat) : Bool := src ≤ 8 * dst && dst ≤ 2 * src

/-- One channel of a picture of w0 × h0 scaled to w × h: each axis by itself, columns first. -/
def scalePlane (w0 h0 w h : Nat) (pl : List (List Nat)) : List (List Nat) :=
  if ratioOk w0 w && ratioOk h0 h then
    let rows := pl.map (scaleLine (boxOf w0 w) w)
    let cols := (List.range w).map fun x => scaleLine (boxOf h0 h) h (rows.map fun r => nth r x 0)
    (List.range h).map fun y => cols.map fun c => nth c y 0
  else (List.range h).map fun y => (List.range w).map fun x => Config.viewScale pl w h y x

/-- Step 6 of R93: the BT.709 narrow-range codes times 10^4 × 4095 exactly, and one of the codes within one of it. -/
def yccCode (k r g b : Nat) : Nat :=
  let luma : Int := 2126 * (r : Int) + 7152 * g + 722 * b
  let (num, den) : Int × Int :=
    if k = 0 then (64 * 40950000 + 876 * luma, 40950000)
    else if k = 1 then (512 * (18556 * 4095) + 896 * (10000 * (b : Int) - luma), 18556 * 4095)
    else (512 * (15748 * 4095) + 896 * (10000 * (r : Int) - luma), 15748 * 4095)
  let f := num / den
  let pick := Config.viewCode k r g b % 3
  (clampI 0 1023 (if pick = 0 then f else if num % den = 0 ∧ pick = 1 then f - 1 else f + 1)).toNat

/-- Steps 5 to 7 of R93: the pixels of a view frame of W × H, as Cb, Y, Cr, Y groups of each row. -/
def viewRows (s : State) (old : List (Nat × Nat)) (v : Nat) (p : Picture) (cfa w h : Nat) : List (List (List Nat)) :=
  let ch := (List.range 3).map fun k => scalePlane p.w p.h w h (viewChannel s old v p cfa k)
  let sc (k y x : Nat) : Nat := nth (nth (nth ch k []) y []) x 0 % (if p.fmt = 2 then 1024 else 4096)
  let comp (k y x : Nat) : Nat := if p.fmt = 2 then sc k y x else yccCode k (sc 0 y x) (sc 1 y x) (sc 2 y x)
  let chroma (k y x : Nat) : Nat :=
    let l := if x = 0 then Config.viewBeyond (comp k y x) % 1024 else comp k y (x - 1)
    let r := if w ≤ x + 1 then Config.viewBeyond (comp k y x) % 1024 else comp k y (x + 1)
    (l + 2 * comp k y x + r + Config.viewRound % 4) / 4
  (List.range h).map fun y => (List.range (ceilDiv w 2)).map fun i =>
    [chroma 1 y (2 * i), comp 0 y (2 * i), chroma 2 y (2 * i), comp 0 y (min (w - 1) (2 * i + 1))]

/-- R94: the five bytes of a Cb, Y, Cr, Y group (log entry 36). -/
def yuvBytes (g : List Nat) : List Byte :=
  (g.map fun v => BitVec.ofNat 8 (v / 4)) ++ [BitVec.ofNat 8 (((g.zipIdx).map fun v => v.1 % 4 * 4 ^ v.2).sum)]

/-! ## View frames (R94, R95) -/

def monSt (s : State) (m : Nat) : MonSt := nth s.intake.mon m MonSt.init

/-- R94: bytes of a view's buffer for w × h pixels. -/
def viewBufBytes (w h : Nat) : Nat := 4096 * ceilDiv (w * h * 5) 8192

/-- R94: the address of buffer b of view v, and the size of its frames. -/
def viewPlace (s : State) (old : List (Nat × Nat)) (v b : Nat) : ViewShot :=
  let w := getOld s old (R.INT_VIEW_SIZE_W v); let h := getOld s old (R.INT_VIEW_SIZE_H v)
  { buf := b, w := w, h := h,
    addr := 2 ^ 12 * getOld s old (R.INT_VIEW_BASE_LO_ADDR v) + 2 ^ 32 * getOld s old (R.INT_VIEW_BASE_HI_ADDR v) + b * viewBufBytes w h }

/-- The view that monitor port m carries (R97), if any. -/
def monView (s : State) (m : Nat) : Option Nat :=
  match getF s (R.INT_MO_CFG_SRC m) with
  | 0 => some 0
  | 1 => some 1
  | 2 => some 0
  | _ => none

/-- Is port m on: enabled, in a mode with the monitor ports? -/
def monOn (s : State) (m : Nat) : Bool := getF s (R.INT_MO_CFG_EN m) == 1 && viewsOn (modeOf s)

/-- Does port m carry view v, and has it sent a frame of it? -/
def carriesView (s : State) (m v : Nat) : Bool := monOn s m && monView s m == some v && (monSt s m).sentView == some v

/-- R94: the buffer for the frame of tick number n of view v: view P's two alternate; views A and B take the lowest that is neither
being sent nor the most recent complete, none where there is none (log entry 44). -/
def viewNextBuf (s : State) (v n : Nat) : Option Nat :=
  if v = 2 then some (n % 2)
  else firstIdx (fun b => (viewSt s v).last.all (·.buf != b) &&
    !((List.range 2).any fun m => monOn s m && (monSt s m).sentView == some v && (monSt s m).buf == some b)) 0 3

/-- A source of a view: its picture, its CFA, and the staged words of its tick that have been replaced since. -/
structure ViewSrc where
  pic : Picture
  cfa : Nat
  old : List (Nat × Nat)

/-- R92: the picture of the frame of tick number n: with the intake on the captured frame once all of it is packed; in PLAY and
OFFLOAD a decoded frame of a partition once all its bands have been decoded. -/
def viewSource (s : State) (part n : Nat) : Option ViewSrc :=
  if intakeOn (modeOf s) then
    match findPipe s n with
    | none => none
    | some x =>
      if x.kind = 0 ∧ ¬ x.win.isEmpty ∧ x.win.all (fun w => w.packed.length == rasterH s) then
        some { pic := capturedPicture s x, cfa := get s R.INT_CTL_CFA, old := x.old }
      else none
  else if modeOf s = modePLAY ∨ modeOf s = modeOFFLOAD then
    match s.strs.decs.find? fun f => f.id.part == part && f.id.tick == n && lyBands f.layout ≤ f.bands.length with
    | none => none
    | some f => some { pic := decodedPicture s f, cfa := lyCfa f.layout, old := [] }
  else none

/-- R92, R95: may view v write a frame? -/
def viewRuns (s : State) (old : List (Nat × Nat)) (v : Nat) : Bool :=
  getOld s old (R.INT_VIEW_CFG_EN v) == 1 && viewsOn (modeOf s) &&
  (if v = 2 then (modeOf s == modeRECLG || modeOf s == modeRECDUAL) && !proxyDropped s else !monitorStalled s)

/-- R99: a completed frame of view v that port m never sent is skipped. -/
def countSkip (s : State) (v m : Nat) : State :=
  if carriesView s m v && (monSt s m).sentSeq < (viewSt s v).seqn then bump s (R.INT_MO_CNT_SKIP m) else s

/-- The bytes of a row of a view frame (R94). -/
def rowBytes (w : Nat) (r : List (List Nat)) : List Byte := (r.flatMap yuvBytes).take (w * 5 / 2)

/-- View v completes its frame of tick number n. -/
def viewDone (s : State) (v part n : Nat) : State :=
  match viewSource s part n with
  | none => s
  | some x =>
    match viewRuns s x.old v, viewNextBuf s v n with
    | true, some b =>
      let z := viewPlace s x.old v b
      let s := countSkip (countSkip s v 0) v 1
      let s := fsWrite s z.addr ((viewRows s x.old v x.pic x.cfa z.w z.h).flatMap (rowBytes z.w))
      { s with intake := { s.intake with view := modAt s.intake.view v fun y => { y with last := some z, seqn := y.seqn + 1 } } }
    | _, _ => s

/-! ## Monitor ports (R96 to R100) -/

/-- The unlocked frame rate of port m as a fraction, at most 60 (R99). -/
def monFps (s : State) (m : Nat) : Nat × Nat :=
  let n := getF s (R.INT_MO_FPS_NUM m); let d := getF s (R.INT_MO_FPS_DEN m)
  if 60 * d < n then (60, 1) else (n, d)

/-- The frame rate of port m (R98): unlocked the rate set; locked every n-th tick at 60 fps or less. -/
def monRate (s : State) (m : Nat) : Nat × Nat :=
  if getF s (R.INT_MO_CFG_LOCK m) = 1 then (s.tick.num, s.tick.den * max 1 (ceilDiv s.tick.num (60 * s.tick.den))) else monFps s m

/-- Does a port that is on ask for split? -/
def splitAsked (s : State) : Bool := (List.range 2).any fun m => monOn s m && getF s (R.INT_MO_CFG_SRC m) == 2

/-- R97: the conditions of split. -/
def splitOk (s : State) : Bool :=
  let same (f : Nat → Fld) : Bool := getF s (f 0) == getF s (f 1)
  getF s (R.INT_MO_CFG_SRC 0) == 2 && getF s (R.INT_MO_CFG_SRC 1) == 2 && same R.INT_MO_CFG_RATE && same R.INT_MO_FPS_NUM &&
  same R.INT_MO_FPS_DEN && same R.INT_MO_BLANK_HB && same R.INT_MO_BLANK_VB && same R.INT_MO_CFG_LOCK &&
  getF s (R.INT_VIEW_SIZE_W 0) % 16 == 0

/-- R98: does port m's stream fit its lanes? -/
def monFits (s : State) (m : Nat) : Bool :=
  match monView s m with
  | none => false
  | some v =>
    let cols := getF s (R.INT_VIEW_SIZE_W v) / (if splitAsked s then 2 else 1)
    let (n, d) := monRate s m
    d != 0 && n != 0 && cols * getF s (R.INT_VIEW_SIZE_H v) * n * 20 ≤ 3840000 * getF s (R.INT_MO_CFG_RATE m) * d

/-- Crystal cycles from an unlocked port's last frame start to its next (R99). -/
def monLeft (s : State) (m : Nat) : Nat :=
  let (n, d) := monFps s m
  max 1 (ceilDiv (25000000 * d - (monSt s m).acc) n)

/-- R99: may port m start a frame at cycle t? Locked at a tick event 1/60 s or more after its last; unlocked at its rate, counted in
crystal cycles. -/
def monDue (s : State) (m t : Nat) : Bool :=
  match getF s (R.INT_MO_CFG_LOCK m), (monSt s m).startAt with
  | 1, none => t == s.tick.last
  | 1, some a => t == s.tick.last && 20000000 + a ≤ t
  | _, none => true
  | _, some a => t == a + 48 * monLeft s m

/-- The accumulator at that start: nothing of a locked or a first start is kept. -/
def monAcc (s : State) (m : Nat) : Nat :=
  let (n, d) := monFps s m
  if getF s (R.INT_MO_CFG_LOCK m) = 1 ∨ (monSt s m).startAt.isNone then 0 else (monSt s m).acc + monLeft s m * n - 25000000 * d

/-- R96: the frame number, from 1 to 65,535 and back to 1. -/
def nextNumber (n : Nat) : Nat := if n = 65535 then 1 else n + 1

def modMon (s : State) (m : Nat) (f : MonSt → MonSt) : State :=
  { s with intake := { s.intake with mon := modAt s.intake.mon m f } }

/-- R96, R97: the packets of a frame: frame start, one long packet of data type 0x1F for each line on virtual channel 0, frame end.
In split port m carries its half of the columns. -/
def monPackets (split : Bool) (m w number : Nat) (rows : List (List Byte)) : List MonPkt :=
  let cols (r : List Byte) : List Byte := if split then sliceBytes r (m * (w / 2 * 5 / 2)) (w / 2 * 5 / 2) else r
  [.short 0 0x00 number] ++ rows.map (fun r => .long 0 0x1F (cols r)) ++ [.short 0 0x01 number]

/-- R100: the rows of the last complete frame of view v for port m. A frame that one read has fetched feeds both ports. -/
def monFetch (s : State) (m v : Nat) (z : ViewShot) : List (List Byte) × State :=
  let seqn := (viewSt s v).seqn
  let fresh :=
    let rows := (List.range z.h).map fun r => fsRead s (z.addr + r * (z.w * 5 / 2)) (z.w * 5 / 2)
    (rows, { s with intake := { s.intake with read := some { view := v, seqn := seqn, rows := rows, fed := [m] }, reads := s.intake.reads + 1 } })
  match s.intake.read with
  | none => fresh
  | some r =>
    if r.view = v ∧ r.seqn = seqn ∧ ¬ r.fed.contains m then
      (r.rows, { s with intake := { s.intake with read := some { r with fed := m :: r.fed } } })
    else fresh

/-- Port m starts a frame at cycle t: the most recently completed frame z of view v. One that it has sent before is a repeat. -/
def monSend (s : State) (m v t : Nat) (z : ViewShot) : State :=
  let x := monSt s m
  let seqn := (viewSt s v).seqn
  let s := if x.sentView = some v ∧ x.sentSeq = seqn then bump s (R.INT_MO_CNT_REPEAT m) else s
  let acc := monAcc s m
  let k := nextNumber x.number
  let (rows, s) := monFetch s m v z
  modMon s m fun _ =>
    { startAt := some t, number := k, acc := acc, buf := some z.buf, sentView := some v, sentSeq := seqn,
      out := monPackets (splitAsked s) m z.w k rows }

/-- A port in LP-11. -/
def monIdle (x : MonSt) : MonSt := { x with startAt := none, acc := 0, buf := none, sentView := none, out := [] }

/-- R97, R98: port m stays off. -/
def monBad (s : State) (m : Nat) : State := setF (modMon s m monIdle) (R.INT_MO_STAT_BADFMT m)

/-- A frame start of port m at cycle t. In split one frame starts on both ports (log entry 44); where split lacks a condition, both
stay off. -/
def monStart (s : State) (m t : Nat) : State :=
  if ¬ monOn s m then s
  else if splitAsked s ∧ ¬ splitOk s then monBad (monBad s 0) 1
  else if ¬ monFits s m then monBad s m
  else match monView s m with
    | none => s
    | some v =>
      match (viewSt s v).last, monDue s m t with
      | some z, true => (if splitAsked s then (List.range 2).filter (monOn s) else [m]).foldl (fun s k => monSend s k v t z) s
      | _, _ => s

/-- A view or a port that the configuration or the mode has off holds nothing. -/
def viewMode (s : State) : State :=
  let s := forN 3 (fun v s => if viewsOn (modeOf s) && getF s (R.INT_VIEW_CFG_EN v) == 1 then s
    else { s with intake := { s.intake with view := modAt s.intake.view v fun x => { x with last := none } } }) s
  forN 2 (fun m s => if monOn s m then s else modMon s m monIdle) s

/-! ## Meanings -/

/-- VIEW_FRAME_DONE (R92 to R95): view v completes the frame of a tick number; part names whose decoded frame it is in PLAY and
OFFLOAD. -/
def execViewFrameDone (v : Fin 3) (part : Part) (tick : Nat) (s : State) : Host.Outcome State Fault Refusal :=
  .next (viewDone s v part tick)

/-- MO_FRAME_START (R96 to R100). -/
def execMoFrameStart (m : Fin 2) (t : Nat) (s : State) : Host.Outcome State Fault Refusal := .next (monStart (stamp s t) m t)

end Sys2Proof.Machine
end

