-- ==== Sys2Proof/Machine/Boundary.lean ====
section
/-! DEFINITION. The tick boundary (R32): what a tick event sets off, step by step in the order of R32. The commands that make a tick event
stand in Tick.lean. -/

namespace Sys2Proof.Machine

/-! ## The tick number, the rate and the source (R21, R28 to R30) -/

/-- R29, R30: the tick event at cycle t takes its number: 0 after reset, the loaded number, or one more. -/
def tickNumber (s : State) (t : Nat) : State :=
  let k := s.tick
  let no := k.preset.getD (if k.begun then (k.no + 1) % 2 ^ 64 else 0)
  { stamp s t with tick := { k with no := no, begun := true, preset := none, events := k.events + 1, last := t } }

/-- R21: does a pair give a rate from 1 to 120 a second? -/
def tickRateOk (n d : Nat) : Bool := d != 0 && d ≤ n && n ≤ 120 * d

/-- R21: the pair committed by a TICK_RATE_DEN write takes effect, or both registers take back the pair in force. -/
def rateCommit (s : State) : State :=
  match s.tick.ratePend with
  | none => s
  | some (n, d) =>
    if tickRateOk n d then ltcRateCheck { s with tick := { s.tick with ratePend := none, num := n, den := d } }
    else
      let s := setF (put (put s R.TICK_RATE_NUM_NUM s.tick.num) R.TICK_RATE_DEN_DEN s.tick.den) R.TICK_STAT_BADCFG
      { s with tick := { s.tick with ratePend := none } }

/-- R22, R28: a change of TICK_CTL.SRC takes effect; nothing of an earlier source is kept. -/
def sourceCommit (s : State) : State :=
  let v := get s R.TICK_CTL_SRC
  if get s R.TICK_STAT_ACTIVE = v then s
  else
    let s := clrF (clrF (put s R.TICK_STAT_ACTIVE v) R.TICK_STAT_LOCKED) R.TICK_STAT_HOLDOVER
    { s with tick := { s.tick with acc := 0, accAt := s.tick.last, lastEdge := none, pairOk := false, lastRef := none, goodRefs := 0 } }

/-! ## Cycles of the tick that ends (R280, R310) -/

/-- SEQ_USED, SEQ_PAIR_USED and SEQ_PAIR_PEAK take the cycles charged, and SLOTLEFT is reloaded. -/
def cyclesStep (s : State) : State :=
  let s := forN 32 (fun i s => stallTick s (i / 8) (i % 8)) s
  forN 4 (fun q s =>
    let s := put s (R.SEQ_USED_CYCLES q) ((seqOf s q).charged.foldl (· + ·) 0)
    let s := forN 8 (fun p s =>
      let n := (pairOf s q p).charged
      let s := putMax (put s (R.SEQ_PAIR_USED_CYCLES q p) n) (R.SEQ_PAIR_PEAK_CYCLES q p) n
      modPair s q p fun x => { x with charged := 0, excess := false }) s
    modSeq s q fun x => { x with charged := List.replicate 8 0 }) s

/-! ## Timers that count from the tick event (R322) -/

/-- Timer k of partition p at a tick event at cycle t: an expiry that has not occurred does so now, and the next is scheduled. -/
def timerTick (s : State) (p k t : Nat) : State :=
  let m := tmrMode s p k
  if m ≠ 3 ∧ m ≠ 4 then s
  else
    let next := t + nsToCycles (tmrNs s p k)
    match (timerOf s p k).due with
    | none => modTimer s p k fun x => { x with due := some next }
    | some _ =>
      let s := tmrExpire (tmrNext (bump s (R.TICK_PART_STAT_LATE p)) p k) p k
      if m = 4 then modTimer s p k fun x => { x with due := some next } else s

def timersStep (s : State) (t : Nat) : State := forN 256 (fun i s => timerTick s (i / 32) (i % 32) t) s

/-! ## The judge (R36 to R38, R48 to R50) -/

/-- R48: a stage of the frame with tick number n is late. -/
def noteLate (s : State) (stage part n : Nat) : State :=
  let s := raiseAll (bump s R.TICK_OVR_CNT_COUNT) srcTickOverrun
  let s := put (put s R.TICK_OVR_LAST_STAGE stage) R.TICK_OVR_LAST_PART part
  put2 s R.TICK_OVR_TICK_LO_NO R.TICK_OVR_TICK_HI_NO n

/-- The index entries of a clip's record for tick number n are marked late. -/
def markLate (s : State) (clip n : Nat) : State :=
  let ent (e : IdxEnt) : IdxEnt := if e.tick = n then { e with late := true } else e
  modClip s clip fun c => { c with mem := c.mem.map fun m => { m with ents := m.ents.map ent } }

/-- A frame's capture stage at tick event e. The state carries whether a stage has been found late. -/
def judgeCapture (e : Nat) (x : Frame) (a : State × Bool) : State × Bool :=
  if x.ev + 1 = e ∧ x.kind ≠ 2 ∧ x.capLate then (noteLate a.1 1 0 x.tick, true) else a

/-- R48: the partition that owns a frame's clip; 0 once the frame belongs to no clip that is open. -/
def clipOwner (s : State) (c : ClipFrame) : Nat := if (findClipId s c.clip).isSome then c.part else 0

/-- R37: has every row of a clip's frame committed? What has been written to its clip had. -/
def clipCoded (s : State) (tick : Nat) (c : ClipFrame) : Bool := c.done || !c.alaz || idCoded s c.part c.proxy tick

/-- The code stage of a clip's frame. -/
def judgeCode (e : Nat) (x : Frame) (a : State × Bool) (c : ClipFrame) : State × Bool :=
  if x.kind = 0 ∧ c.alaz ∧ c.codeJudged = false ∧ x.ev + 2 ≤ e then
    let ok := clipCoded a.1 x.tick c
    let s := modClipFrame a.1 x.tick c.clip fun f => { f with codeJudged := true, codeLate := !ok }
    if ok then (s, a.2) else (noteLate s 2 (clipOwner s c) x.tick, true)
  else a

/-- The members of the stripe that a clip's frame is judged by (R38): those at the placing of its record, or those in force. -/
def commitWidth (s : State) (c : ClipFrame) : Nat := c.k.getD (((findClipId s c.clip).map (·.active.length)).getD 1)

/-- The commit stage of a clip's frame. -/
def judgeCommit (e : Nat) (x : Frame) (a : State × Bool) (c : ClipFrame) : State × Bool :=
  if x.kind = 0 ∧ c.judged = false ∧ x.ev + 2 + commitWidth a.1 c ≤ e then
    let s := modClipFrame a.1 x.tick c.clip fun f => { f with judged := true, late := !c.done }
    if c.done then (s, a.2) else (noteLate (markLate s c.clip x.tick) 3 (clipOwner s c) x.tick, true)
  else a

/-- The code stage of a captured frame that no clip takes: it has one where jobs code it from the ring (R48). -/
def judgeLoose (e : Nat) (x : Frame) (a : State × Bool) : State × Bool :=
  let work := (a.1.strs.frames.any fun f => f.id.tick == x.tick && !frameDone f) ||
    a.1.strs.lane.any fun l => l.queue.any fun j => jOpc j.desc == opEncRow && jRing j.desc && jTick j.desc == x.tick
  if x.kind = 0 ∧ x.clips = [] ∧ x.ev + 2 = e ∧ work = true then (noteLate a.1 2 0 x.tick, true) else a

/-- Every stage of a frame, in ascending stage code. -/
def judgeFrame (e : Nat) (a : State × Bool) (x : Frame) : State × Bool :=
  x.clips.foldl (judgeCommit e x) (x.clips.foldl (judgeCode e x) (judgeLoose e x (judgeCapture e x a)))

/-- R50: the overrun level moves. -/
def moveLevel (s : State) (late : Bool) : State :=
  let l := get s R.TICK_OVR_LAST_LEVEL
  let calm (n : Nat) (s : State) : State := { s with tick := { s.tick with calm := n } }
  if late then calm 0 (put s R.TICK_OVR_LAST_LEVEL (min (l + 1) (policyMax s.tick.policy)))
  else if s.tick.calm + 1 < 2 then calm (s.tick.calm + 1) s
  else calm 0 (put s R.TICK_OVR_LAST_LEVEL (l - 1))

/-- The judge step of R32, frames in ascending order. -/
def judgeStep (s : State) : State :=
  let a := s.intake.frames.foldl (judgeFrame s.tick.events) (s, false)
  releaseSlots (moveLevel a.1 a.2)

/-! ## Partition resets (R45, R308, R381) -/

/-- Pair p of sequencer q halts and both its slots empty; its registers of partition scope are restored and its owner stays. -/
def emptyPair (s : State) (q p : Nat) : State :=
  let s := modPair (drainAll s q p) q p fun x => { PairSt.init with moving := x.moving }
  let s := modSeq s q fun x => if x.cur = some p then { x with cur := none } else x
  let s := { s with seqs := { s.seqs with adm := s.seqs.adm.filter fun a => !(a.seq == q && a.pair == p) } }
  let a := 0x140100 + 0x1000 * q + p * 0x40
  restoreRange s .partition a (a + 0x40)

/-- The boundary of a partition reset of p: programs halt, reservations go, and the whips of its clips begin. -/
def resetStep (s : State) (p : Nat) : State :=
  if (partOf s p).rst ≠ 1 then s
  else
    let s := forN 32 (fun i s => if ownerOf s (i / 8) (i % 8) = p then emptyPair s (i / 8) (i % 8) else s) s
    let s := modPart s p fun x => { x with rst := 2 }
    ((s.mags.clips.filter fun c => c.part == p).map (·.id)).foldl whipClip s

def resetsStep (s : State) : State := forN 8 (fun p s => resetStep s p) s

/-! ## Shares (R320, R378) -/

/-- The sequencer share that PRT holds. -/
def prtSeqShare (s : State) (p q : Nat) : Nat :=
  get s (match q with
    | 0 => R.PRT_SEQSHARE_SQ0 p
    | 1 => R.PRT_SEQSHARE_SQ1 p
    | 2 => R.PRT_SEQSHARE_SQ2 p
    | _ => R.PRT_SEQSHARE_SQ3 p)

/-- The shares that PRT holds are in force for the tick. -/
def sharesStep (s : State) : State :=
  { s with seqs := { s.seqs with shareQ := (List.range 32).map fun i => prtSeqShare s (i / 4) (i % 4),
                                 shareS := (List.range 8).map fun p => get s (R.PRT_SHARE_STRAND p),
                                 shareD := (List.range 8).map fun p => get s (R.PRT_SHARE_DRAM p) } }

/-! ## Modes (R63 to R69, R73) -/

/-- A mode takes effect at the boundary; a request that a forced transition replaced is refused (R68). -/
def modeEffect (s : State) (m reason : Nat) : State :=
  let s := match s.sup.asked with
    | some a => modeRefuse s a 3
    | none => s
  let s := viewMode (intakeMode (setMode s m reason))
  let s := { s with strs := { s.strs with frames := [], clips := [], decs := [], lastRef := [], lastNo := [], reads := [] } }
  queueReadmit (raiseAll s srcModeChanged)

/-- R65: the boundary that R65 names has come. -/
def leaveNow (s : State) : State := { s with tick := { s.tick with leave := some (s.tick.leave.getD s.tick.no) } }

/-- R67, R68: every member of the master stripe is lost: PREVIEW is forced, after what remains to be drained and whipped. -/
def forcePreview (s : State) : State :=
  let st := get s R.GLB_MODE_STATE
  let s := { s with sup := { s.sup with lost := false, forced := true } }
  if st = 2 ∨ st = 3 then
    setTransition (leaveNow { s with sup := { s.sup with asked := some (get s R.GLB_MODE_TARGET) } }) st modePREVIEW
  else setTransition ((s.mags.clips.map (·.id)).foldl whipClip s) 3 modePREVIEW

/-- R63: does leaving mode a for mode b wait for reads and decodes? -/
def waitsForReads (a b : Nat) : Bool :=
  (a == modePREVIEW || modePLAY ≤ a) && (b == modeIDLE || b == modePREVIEW)

/-- The mode step of a boundary. -/
def modeStep (s : State) : State :=
  let st := get s R.GLB_MODE_STATE
  let tg := get s R.GLB_MODE_TARGET
  if s.sup.lost then forcePreview s
  else if st = 1 then
    if tg = modeDORMANT then s
    else if isRec tg then
      let c := recordingCode s tg
      if c = 0 then openClips (modeEffect s tg 3) tg else noTransition (modeRefuse s tg c)
    else if waitsForReads (modeOf s) tg && readsLeft s then s
    else modeEffect s tg 3
  else if st = 2 then leaveNow s
  else if st = 3 ∧ s.mags.clips.isEmpty then modeEffect s tg (if s.sup.forced then 6 else 3)
  else s

/-! ## Swaps, restarts and readmissions (R278, R329 to R333, R69) -/

/-- R278: the active program of a pair starts. -/
def startProg (s : State) (q p : Nat) : State :=
  match activeImage s q p with
  | none => s
  | some i =>
    let s := modPair (drainAll s q p) q p fun x =>
      { x with pc := hdrEntry i, gregs := List.replicate 32 0, sbuf := [], wait := none, stall := none, tickRef := s.tick.no }
    let s := put s (R.SEQ_PAIR_STAT_STATE q p) stRunnable
    modSeq s q fun x => if x.cur = some p then { x with cur := none } else x

/-- R331: the timers of partition o are handed over to the incoming program. -/
def timersHandover (s : State) (o policy : Nat) : State := forN 32 (fun t s => if bitAt policy t then tmrCancel s o t else s) s

/-- R330: the standby program of a pair becomes the active one. -/
def swapPair (s : State) (q p : Nat) : State :=
  let s := setActive (drainAll s q p) q p none
  let s := put s (R.SEQ_PAIR_STAT_ACTIVE q p) (1 - get s (R.SEQ_PAIR_STAT_ACTIVE q p))
  let s := put s (R.SEQ_PAIR_STAT_STBY q p) (b2n (findInstall s q p).isSome)
  let s := modPair s q p fun x => { x with swap := none, resvA := x.resvS, resvS := false, stbyOld := 0 }
  timersHandover s (ownerOf s q p) (hdrTimerPolicy ((activeImage s q p).getD []))

/-- R69: is the RESTART in hand for a program halted by mode that has to be judged again, the mode having just changed? -/
def judgeFirst (s : State) (q p : Nat) : Bool :=
  progState s q p == stByMode && !(pairOf s q p).resvA && (pairOf s q p).swap.isNone &&
    match activeImage s q p with
    | some i => runsIn i (modeOf s)
    | none => false

/-- The swap step for one pair: a SWAP and a RESTART at one boundary start the program once. -/
def pairStep (s : State) (q p : Nat) : State :=
  let x := pairOf s q p
  match x.restart, judgeFirst s q p with
  | some c, true => restartAgain (modPair s q p fun y => { y with restart := none }) q p c
  | r, _ =>
    if x.swap.isNone ∧ r.isNone ∧ x.readmit = false then s
    else
      let s := if x.swap.isSome then swapPair s q p else s
      let s := startProg (modPair s q p fun y => { y with restart := none, readmit := false }) q p
      let fin (s : State) (c : Option RingCmd) : State := match c with
        | some c => complete s c stOK s.tick.no
        | none => s
      fin (fin s x.swap) r

def pairsStep (s : State) : State := forN 32 (fun i s => pairStep s (i / 8) (i % 8)) s

/-! ## The policy in force (R50, R53) -/

/-- The governing OVR_POLICY, 0 when no active program sets FLAGS.MASTER. -/
def policyGoverning (s : State) : Nat :=
  let pol (i : Nat) : Option Nat :=
    let q := i / 8; let p := i % 8
    match activeImage s q p with
    | none => none
    | some im =>
      if ownerOf s q p = 0 ∧ hdrMaster im ∧ progState s q p ≠ stEmpty ∧ progState s q p ≠ stByMode then some (hdrPolicy im) else none
  ((List.range 32).findSome? pol).getD 0

/-- The policy takes effect, and the level is cut to what it permits. -/
def policyStep (s : State) : State :=
  let p := policyGoverning s
  let s := { s with tick := { s.tick with policy := p } }
  put s R.TICK_OVR_LAST_LEVEL (min (get s R.TICK_OVR_LAST_LEVEL) (policyMax p))

/-! ## Migration and return of sequencers (R335, R337) -/

/-- The registers of a pair that move with it. -/
def pairFields : List (Nat → Nat → Fld) :=
  [R.SEQ_PAIR_OWNER_PART, R.SEQ_PAIR_OWNER_VALID, R.SEQ_PAIR_STAT_ACTIVE, R.SEQ_PAIR_STAT_STATE, R.SEQ_PAIR_STAT_STBY,
   R.SEQ_PAIR_FAULT_CAUSE, R.SEQ_PAIR_FAULT_PC, R.SEQ_PAIR_FAULT_CODE, R.SEQ_PAIR_FADDR_LO_ADDR, R.SEQ_PAIR_FADDR_HI_ADDR,
   R.SEQ_PAIR_USED_CYCLES, R.SEQ_PAIR_PEAK_CYCLES, R.SEQ_PAIR_LATE_CNT_COUNT, R.SEQ_PAIR_EXCESS_CNT_COUNT, R.SEQ_PAIR_INST_WORD]

/-- Pair p of sequencer a moves to pair d of sequencer b. -/
def movePair (a b : Nat) (s : State) (m : Nat × Nat) : State :=
  let p := m.1; let d := m.2
  let s := installRefuse (drainAll s a p) a p (instWord 1 (0, 0, 0) 0)
  let x := pairOf s a p
  let s := pairFields.foldl (fun s f => put (put s (f b d) (get s (f a p))) (f a p) 0) s
  let s := if progState s b d = stRunning then put s (R.SEQ_PAIR_STAT_STATE b d) stRunnable else s
  let s := modPair (modPair s b d fun _ => { x with moving := true }) a p fun _ => PairSt.init
  let adm (r : AdmReq) : AdmReq := if r.seq = a ∧ r.pair = p then { r with seq := b, pair := d } else r
  let clip (c : Clip) : Clip := if c.seq = a ∧ c.pair = p then { c with seq := b, pair := d } else c
  let spool (r : SpoolReq) : SpoolReq := if r.seq = a ∧ r.pair = p then { r with seq := b, pair := d } else r
  let o := ownerOf s b d
  let i := 8 * b + d
  let s := { s with seqs := { s.seqs with adm := s.seqs.adm.map adm },
                    mags := { s.mags with clips := s.mags.clips.map clip, spool := s.mags.spool.map spool } }
  setF (put (put s (R.PW_PAIR_WHERE_SEQ o i) a) (R.PW_PAIR_WHERE_PAIR o i) p) (R.PW_PAIR_WHERE_MOVED o i)

/-- R335: an accepted migration starts at this boundary, or is abandoned. -/
def migStart (s : State) : State :=
  if get s R.SEQ_MIG_STAT_STATE ≠ 1 then s
  else
    let a := get s R.SEQ_MIG_STAT_SRC
    let b := get s R.SEQ_MIG_STAT_DST
    let c := migFits s a b
    if c ≠ 0 then put (put s R.SEQ_MIG_STAT_STATE 0) R.SEQ_MIG_STAT_CODE c
    else
      let src := validPairs s a
      let dst := (List.range 8).filter fun p => !pairValid s b p
      let s := { s with seqs := { s.seqs with adm := s.seqs.adm.filter fun r => !(r.seq == a && r.install) } }
      let s := (src.zip dst).foldl (movePair a b) s
      let s := modSeq s a fun x => { x with cur := none, quantum := 0 }
      put (put s R.SEQ_OFFLINE_MASK (withBit (get s R.SEQ_OFFLINE_MASK) a true)) R.SEQ_MIG_STAT_STATE 2

/-- What an object has for a program that waits on it. -/
def postOf (o : Nat) (w : WaitSt) (s : State) : Option (Nat × State) :=
  match w.kind with
  | 1 => if lookupKey (partOf s o).tags w.obj = some true then waitTag o w.obj s else none
  | 2 => waitTimer o w.obj s
  | 3 => waitEdge o w.obj s
  | 4 => waitBell o w.obj s
  | _ => none

/-- R335: what was posted for the program of pair i (8q + p) while it moved is delivered. -/
def postHeld (s : State) (i : Nat) : State :=
  let q := i / 8; let p := i % 8
  match (pairOf s q p).wait with
  | none => s
  | some w =>
    if progState s q p ≠ stBlocked then s
    else match postOf (ownerOf s q p) w s with
      | some (v, s) => wake s q p v
      | none => s

/-- The pairs whose programs wait, in the order of R328. -/
def waitOrder (s : State) : List Nat :=
  ((List.range 32).foldl (fun l i => match (pairOf s (i / 8) (i % 8)).wait with
    | some w => insertKey l w.order i
    | none => l) ([] : List (Nat × Nat))).map (·.2)

/-- A program that moved is ready to go on; a stall counts from now. -/
def landPair (s : State) (x : PairSt) : PairSt := { x with moving := false, stall := x.stall.map fun z => { z with since := s.clk } }

/-- R335: at the boundary after, the programs resume. -/
def migResume (s : State) : State :=
  if get s R.SEQ_MIG_STAT_STATE ≠ 2 then s
  else
    let s := forN 32 (fun i s =>
      if (pairOf s (i / 8) (i % 8)).moving then
        raiseP (modPair s (i / 8) (i % 8) (landPair s)) (ownerOf s (i / 8) (i % 8)) srcSeqMigrated
      else s) s
    let s := (waitOrder s).foldl postHeld s
    bump (put s R.SEQ_MIG_STAT_STATE 3) R.SEQ_MIG_CNT_COUNT

/-- R337: sequencers that software asked for come online, every pair at VALID 0. -/
def onlineStep (s : State) : State :=
  let l := s.seqs.online
  let s := { s with seqs := { s.seqs with online := [] } }
  l.foldl (fun s q => put s R.SEQ_OFFLINE_MASK (withBit (get s R.SEQ_OFFLINE_MASK) q false)) s

/-! ## The last step of R32 -/

/-- R302: a program blocked on the tick returns. -/
def wakeTick (s : State) (q p : Nat) : State :=
  match (pairOf s q p).wait with
  | none => s
  | some w =>
    if w.kind ≠ 0 ∨ progState s q p ≠ stBlocked ∨ (pairOf s q p).moving then s
    else
      let n := (2 ^ 64 + s.tick.no - (pairOf s q p).tickRef) % 2 ^ 64
      let s := setGreg s q p w.rd n
      let s := modPair s q p fun y => { y with wait := none, pc := y.pc + 4, tickRef := s.tick.no }
      let s := put s (R.SEQ_PAIR_STAT_STATE q p) stRunnable
      let s := if 1 < n then bump s (R.SEQ_PAIR_LATE_CNT_COUNT q p) else s
      if pastEnd s q p then progFault s q p 1 (pairOf s q p).pc (pairOf s q p).pc else s

/-- Programs that wait on the tick resume, and each sequencer takes one to run. -/
def resumeStep (s : State) : State :=
  let s := forN 32 (fun i s => wakeTick s (i / 8) (i % 8)) s
  forN 4 (fun q s => match (seqOf s q).cur with
    | some p => noteExcess s q p
    | none => pick s q) s

/-- R392: channels that wait for the tick go on. -/
def moversStep (s : State) : State :=
  forN 16 (fun c s => match (chOf s c).ibuf with
    | some i => if leAt i 0 1 = 3 ∧ leAt i 1 1 = 0 ∧ (chOf s c).waitAt.isSome then chNext s c else s
    | none => s) s

/-! ## The frame that the tick begins (R51, R52, R447) -/

/-- The gap record of a dropped proxy frame with tick number t. -/
def proxyGap (t : Nat) (s : State) (c : Clip) : State :=
  match c.active with
  | [] => s
  | a :: as =>
    let k := (a :: as).length
    placeRecord s c (nth (a :: as) (t % k) a)
      { clip := c.id, tick := t, gap := true, flags := flDropped, k := k, pos := 0, lba := 0, blocks := 0, metaB := [], ess := [],
        bands := [], bufs := [], sp := none }

/-- R51: the proxy frames of a frame captured before are dropped too where they are not wholly coded and no record is placed for
them; each leaves a gap. -/
def dropProxy (s : State) (x : Frame) : State :=
  let lost := x.clips.filter fun c => c.proxy && c.k.isNone && !c.done && !idCoded s c.part true x.tick
  let s := modFrame s x.tick fun f => { f with noProxy := true, clips := f.clips.filter fun c => !(lost.any fun d => d.clip == c.clip) }
  if x.kind ≠ 0 then s
  else lost.foldl (fun s c => match findClipId s c.clip with
    | some d => if d.whip = 0 then proxyGap x.tick s d else s
    | none => s) s

/-- Does a job code a proxy frame that is dropped? -/
def cutJob (s : State) (j : Job) : Bool := jOpc j.desc == opEncRow && proxyCut s (jobFrame s j (fsRead s (jLayout j.desc) 64))

/-- R51: the jobs of lane l that code dropped proxy frames are cancelled: the one that runs, and those that wait. -/
def cancelLane (l : Nat) (s : State) : State :=
  let s := match runningJob s l, laneStrand s l with
    | some j, some n => if cutJob s j && (strandOf s n).lane == some l then endJob s n l jsAborted 0xFFFF 0 0 else s
    | _, _ => s
  let k := b2n ((laneOf s l).running || (laneOf s l).restore)
  let out := ((laneOf s l).queue.drop k).filter (cutJob s)
  let kept := ((laneOf s l).queue.drop k).filter fun j => !cutJob s j
  let s := modLane s l fun x => { x with queue := x.queue.take k ++ kept }
  out.foldl (fun s j => jobRecord s j jsAborted 0xFFFF 0 ((laneStrand s l).getD 0) (get s (R.STR_LANE_MAP_EPOCH l)) 0) s

/-- The tick's frame enters the pipeline; proxy frames that the overrun level drops leave gaps, and their jobs are cancelled. -/
def frameStep (s : State) : State :=
  let drop := proxyDropped s
  let s := if drop then s.intake.frames.foldl dropProxy s else s
  let s := openFrame s drop
  let s := if drop && isRec (modeOf s) && s.tick.leave.isNone then
      (s.mags.clips.filter fun c => c.proxy && c.whip == 0).foldl (proxyGap s.tick.no) s
    else s
  pruneFrames (if drop then forN 18 cancelLane s else s)

/-! ## What the belay pair does (R67, R236, R463, R496, R498) -/

/-- Drops, then the mode. -/
def belayEarly (s : State) : State := if belayUp s && modeOf s != modeBOOT && !anchored s then modeStep (magDrops s) else s

/-- Lanes, ready footers and the switch of roles. -/
def belayLate (s : State) : State :=
  if belayUp s && modeOf s != modeBOOT && !anchored s then
    belaySwitch (forN 4 (fun n s => if hasSession s n then renewReady s n else s) (boundaryLanes s))
  else s

/-! ## The boundary -/

/-- A frame keeps the words that its tick was given and that are replaced now (R79). -/
def keepOld (ws : List (Nat × Nat)) (x : Frame) : Frame :=
  { x with old := ws.foldl (fun o w => if (lookupKey o w.1).isSome then o else insertKey o w.1 w.2) x.old }

/-- Staged intake, view and monitor values take effect (R79). -/
def stagedStep (s : State) : State :=
  viewMode (showStride { s with intake := { s.intake with force := [], frames := s.intake.frames.map (keepOld s.intake.force) } })

/-- A tick event at cycle t, and the actions of its boundary in the order of R32. -/
def boundary (s : State) (t : Nat) : State :=
  let s := pinTick (tickNumber s t)
  let s := cyclesStep (sourceCommit (rateCommit s))
  let s := judgeStep (captureClose (timersStep s t))
  let s := sharesStep (resetsStep s)
  let s := haltExcluded (pairsStep (belayEarly s))
  let s := policyStep (overcommitTest s)
  let s := onlineStep (migStart (migResume s))
  let s := stagedStep (freqBoundary s)
  let s := belayLate s
  let s := raiseAll s srcTickBoundary
  frameStep (moversStep (resumeStep s))

end Sys2Proof.Machine
end

