-- ==== Sys2Proof/Machine/Tick.lean ====
section
/-! DEFINITION. The commands of the frame tick (R20 to R34) and the mode request (R61 to R64, R517). -/

namespace Sys2Proof.Machine

/-! ## When a tick may fall -/

/-- CYCLE counts a second. -/
def secCycles : Nat := 1200000000

/-- R33: is an edge of TICK_IN or GENLOCK_IN the one that POL makes active? -/
def activeEdge (s : State) (rise : Bool) : Bool := isSet s R.TICK_CTL_POL != rise

/-- The source in force is n. -/
def sourceIs (s : State) (n : Nat) : Bool := unitsRun s && get s R.TICK_STAT_ACTIVE == n

/-- Are e cycles at least pct percent of the nominal period? -/
def atLeast (s : State) (e pct : Nat) : Bool := secCycles * pct * s.tick.den ≤ 100 * e * s.tick.num

/-- Are e cycles at most pct percent of it? -/
def atMost (s : State) (e pct : Nat) : Bool := 100 * e * s.tick.num ≤ secCycles * pct * s.tick.den

/-- Are e cycles pct percent of the nominal period, to within one crystal cycle (48 cycles)? -/
def about (s : State) (e pct : Nat) : Bool := atLeast s (e + 47) pct && atMost s (e - 47) pct

/-! ## Free run (R22) -/

/-- Crystal cycles from the last update of the accumulator to the next free-run tick. -/
def freeRunLeft (s : State) : Nat := max 1 (ceilDiv (25000000 * s.tick.den - s.tick.acc) s.tick.num)

/-- The cycle of the next free-run tick. -/
def freeRunDue (s : State) : Nat := s.tick.accAt + 48 * freeRunLeft s

/-- The accumulator at that tick. -/
def freeRunAcc (s : State) : Nat := s.tick.acc + freeRunLeft s * s.tick.num - 25000000 * s.tick.den

/-! ## TICK_IN (R23 to R25) -/

/-- R25: an edge while the ticks come from holdover and no pair has ended it: it may complete the pair. -/
def pairEdge (s : State) (t : Nat) : State :=
  let ok := match s.tick.lastEdge with
    | none => false
    | some e => atLeast s (t - e) 95 && atMost s (t - e) 125
  { s with tick := { s.tick with lastEdge := some t, pairOk := ok } }

/-- A tick taken from TICK_IN. -/
def edgeTick (s : State) (t : Nat) : State :=
  let s := clrF s R.TICK_STAT_HOLDOVER
  boundary { s with tick := { s.tick with lastEdge := none, pairOk := false } } t

/-- R23, R25: the active edge at cycle t; a tick it makes follows d cycles later. -/
def tickInEdge (s : State) (t d : Nat) : State :=
  if isSet s R.TICK_STAT_HOLDOVER && !s.tick.pairOk then pairEdge (stamp s t) t
  else if !atLeast s (t - s.tick.last) 95 then bump (stamp s t) R.TICK_EARLY_CNT_COUNT
  else edgeTick s (t + d)

/-! ## Holdover (R24, R27) -/

/-- Is a generated tick due at cycle t? -/
def holdoverDue (s : State) (t : Nat) : Bool :=
  let e := t - s.tick.last
  if isSet s R.TICK_STAT_HOLDOVER then (sourceIs s 1 || sourceIs s 2) && about s e 100 else sourceIs s 1 && about s e 125

/-- A generated tick. -/
def holdoverTick (s : State) (t : Nat) : State :=
  let s := if isSet s R.TICK_STAT_HOLDOVER then s
    else { setF s R.TICK_STAT_HOLDOVER with tick := { s.tick with lastEdge := none, pairOk := false } }
  boundary (bump s R.TICK_MISS_CNT_COUNT) t

/-! ## Genlock (R26, R27) -/

/-- R27: lock is lost: LOCKED clears and the generator enters holdover. -/
def lockLost (s : State) : State :=
  let s := { s with tick := { s.tick with goodRefs := 0 } }
  if isSet s R.TICK_STAT_LOCKED then setF (clrF s R.TICK_STAT_LOCKED) R.TICK_STAT_HOLDOVER else s

/-- R27: a reference edge with phase error err in ns. -/
def genlockEdge (s : State) (err : Int) (t : Nat) : State :=
  let s := putInt (stamp s t) R.TICK_PHASE_ERR_ERR err
  let s := { s with tick := { s.tick with lastRef := some t } }
  if err.natAbs < 1000 then
    let n := min 16 (s.tick.goodRefs + 1)
    let s := { s with tick := { s.tick with goodRefs := n } }
    if n = 16 then clrF (setF s R.TICK_STAT_LOCKED) R.TICK_STAT_HOLDOVER else s
  else if 10000 < err.natAbs then lockLost s
  else { s with tick := { s.tick with goodRefs := 0 } }

/-- R26: where the generator's next tick belongs, in cycles times 5 × NUM: OFFSET ns after a reference edge, or a whole number of
nominal periods from there, nearest to one period after the last tick; with no reference edge one period after it. -/
def genlockAim (s : State) : Int :=
  let p : Int := 5 * secCycles * s.tick.den
  let x : Int := 5 * s.tick.num * s.tick.last + p
  match s.tick.lastRef with
  | none => x
  | some r =>
    let b : Int := 5 * s.tick.num * r + 6 * s.tick.num * getInt s R.TICK_GL_PHASE_OFFSET
    b + (2 * (x - b) + p) / (2 * p) * p

/-- R26: the generator pulls its period towards that place by at most ±500 ppm. -/
def genlockNext (s : State) : Int :=
  let l : Int := 5 * s.tick.num * s.tick.last
  clampI (l + 5997000000 * s.tick.den) (l + 6003000000 * s.tick.den) (genlockAim s)

/-- Is a tick of the genlock generator due at cycle t, to within one crystal cycle? -/
def genlockDue (s : State) (t : Nat) : Bool :=
  sourceIs s 2 && !isSet s R.TICK_STAT_HOLDOVER && ((5 * s.tick.num * t : Int) - genlockNext s).natAbs ≤ 240 * s.tick.num

/-- Have two expected reference edges been missing at cycle t? -/
def refsMissing (s : State) (t : Nat) : Bool :=
  match s.tick.lastRef with
  | none => false
  | some r => atLeast s (t - r) (200 * get s R.TICK_GL_DIV)

/-! ## Register writes (R21, R30, R33, R34) -/

/-- R30: does the mode in force refuse a preset? -/
def presetRefused (s : State) : Bool := isRec (modeOf s) || modeOf s == modePLAY || modeOf s == modeOFFLOAD

/-- A write of TICK_CTL: SRC 3 is refused, and LOAD asks for a preset (R30, R33). -/
def tickCtlWrite (s : State) (v : Nat) : State :=
  let s := if bits v 0 2 = 3 then setF s R.TICK_STAT_BADCFG else put s R.TICK_CTL_SRC (bits v 0 2)
  let s := put s R.TICK_CTL_POL (bits v 2 1)
  if bitAt v 3 then
    if presetRefused s then setF s R.TICK_STAT_REFUSED
    else { s with tick := { s.tick with preset := some (get s R.TICK_NO_SET_LO_NO + 2 ^ 32 * get s R.TICK_NO_SET_HI_NO) } }
  else s

/-- R21: a write of TICK_RATE_DEN commits both fields, as they stand, at the next boundary. -/
def rateDenWrite (s : State) (v : Nat) : State :=
  let s := put s R.TICK_RATE_DEN_DEN v
  { s with tick := { s.tick with ratePend := some (get s R.TICK_RATE_NUM_NUM, get s R.TICK_RATE_DEN_DEN) } }

/-- R34: are all three limits from 50 to 100? -/
def limitsOk (v : Nat) : Bool := [0, 8, 16].all fun k => 50 ≤ bits v k 8 && bits v k 8 ≤ 100

/-- R34. -/
def admLimitWrite (s : State) (v : Nat) : State :=
  if limitsOk v then put (put (put s R.TICK_ADM_LIMIT_STRAND (bits v 0 8)) R.TICK_ADM_LIMIT_DRAM (bits v 8 8)) R.TICK_ADM_LIMIT_SEQ (bits v 16 8)
  else setF s R.TICK_STAT_BADCFG

/-- The latch of partition p. -/
def tickLatch (s : State) (p : Nat) : Option Nat := nth s.tick.latch p none

def setLatch (s : State) (p : Nat) (x : Option Nat) : State := { s with tick := { s.tick with latch := setAt s.tick.latch p x } }

/-- R31: a read of TICK_NO_LO by partition p. -/
def tickLoRead (s : State) (p : Nat) : State :=
  { setLatch s p (some (s.tick.no / 2 ^ 32)) with rdata := s.tick.no % 2 ^ 32 }

/-- R31: a read of TICK_NO_HI by partition p. -/
def tickHiRead (s : State) (p : Nat) : State :=
  { setLatch s p none with rdata := (tickLatch s p).getD (s.tick.no / 2 ^ 32) }

/-! ## The mode request (R61 to R65, R517) -/

/-- R517: DORMANT entry begins: every open session closes as MAG_CLOSE does. -/
def dormStart (s : State) (t : Nat) : State :=
  let s := stamp s t
  let s := { s with sup := { s.sup with dormAt := some t } }
  forN 4 (fun n s => if hasSession s n then
    addOp s n (.closing none) [.cmds [{ q := 0, kind := .flush, lba := 0, blocks := 0, data := [] }], .act .closeHdr, .act .closeDone] 7
  else s) s

/-- A request of GLB_MODE_REQ that passes R61, at cycle t. STATE shows the drain of a recording mode from the request on. -/
def modeRequest (s : State) (m t : Nat) : State :=
  if isRec (modeOf s) then setTransition s 2 m
  else
    let s := setTransition s 1 m
    if m = modeDORMANT then dormStart s t else s

/-! ## Meanings -/

/-- FREE_RUN_TICK (R22): at the cycle at which the accumulator reaches its amount. -/
def execFreeRunTick (t : Nat) (s : State) : Host.Outcome State Fault Refusal :=
  if sourceIs s 0 ∧ t = freeRunDue s then
    finSettle (boundary { s with tick := { s.tick with acc := freeRunAcc s, accAt := t } } t)
  else .next s

/-- TICK_IN_EDGE (R23, R25): a rising or falling edge; d is the delay of R23, at most 40 ns. -/
def execTickInEdge (rise : Timed Bool) (d : Fin 49) (s : State) : Host.Outcome State Fault Refusal :=
  if sourceIs s 1 ∧ activeEdge s rise.val ∧ s.tick.last ≤ rise.t then finSettle (tickInEdge s rise.t d) else .next s

/-- HOLDOVER_TICK (R24, R27). -/
def execHoldoverTick (t : Nat) (s : State) : Host.Outcome State Fault Refusal :=
  if holdoverDue s t ∧ s.tick.last ≤ t then finSettle (holdoverTick s t) else .next s

/-- GENLOCK_EDGE (R26, R27): a rising or falling edge; err is the phase error that the device measures against OFFSET, in ns. -/
def execGenlockEdge (err : Int) (rise : Timed Bool) (s : State) : Host.Outcome State Fault Refusal :=
  .next (if sourceIs s 2 ∧ activeEdge s rise.val then genlockEdge s err rise.t else s)

/-- GENLOCK_TICK (R26). -/
def execGenlockTick (t : Nat) (s : State) : Host.Outcome State Fault Refusal :=
  if genlockDue s t ∧ s.tick.last ≤ t then finSettle (boundary s t) else .next s

/-- GENLOCK_EDGE_MISSING (R27). -/
def execGenlockEdgeMissing (t : Nat) (s : State) : Host.Outcome State Fault Refusal :=
  .next (if sourceIs s 2 ∧ refsMissing s t then lockLost (stamp s t) else s)

/-- TICK_RATE_DEN_WRITE (R21). -/
def execTickRateDenWrite (v : Word32) (s : State) : Host.Outcome State Fault Refusal :=
  answered s (.next (rateDenWrite s v.toNat))

/-- TICK_NO_LOAD (R30): the write of TICK_CTL. -/
def execTickNoLoad (v : Word32) (s : State) : Host.Outcome State Fault Refusal :=
  answered s (.next (tickCtlWrite s v.toNat))

/-- TICK_NO_LO_READ (R31). -/
def execTickNoLoRead (p : Part) (s : State) : Host.Outcome State Fault Refusal :=
  answered s (.next (inWindow s p (tickLoRead s p)))

/-- TICK_NO_HI_READ (R31). -/
def execTickNoHiRead (p : Part) (s : State) : Host.Outcome State Fault Refusal :=
  answered s (.next (inWindow s p (tickHiRead s p)))

/-- TICK_ADM_LIMIT_WRITE (R34). -/
def execTickAdmLimitWrite (v : Word32) (s : State) : Host.Outcome State Fault Refusal :=
  answered s (.next (admLimitWrite s v.toNat))

/-- MODE_REQUEST (R61 to R65). -/
def execModeRequest (v : Word32) (t : Nat) (s : State) : Host.Outcome State Fault Refusal :=
  let m := bits v.toNat 0 4
  answered s (if requestCode s m ≠ 0 then .next (modeRefuse s m (requestCode s m)) else finSettle (modeRequest s m t))

end Sys2Proof.Machine
end

