-- ==== Sys2Proof/Machine/Access.lean ====
section
/-! DEFINITION. Register accesses that have no command of their own (R7 to R14, R18): writes, reads, accesses that break R7 and accesses
that reach no register; and the locked, staged and lookup-table registers of the intake (R79, R101). -/

namespace Sys2Proof.Machine

/-! ## Access errors (R8, R9, R18) -/

/-- The byte offset an access error records: the lowest enabled byte, or the first word of an access that enables none. -/
def errOffset (off : Nat) (lanes : List Bool) : Nat := off + (firstIdx (fun i => nth lanes i false) 0 lanes.length).getD 0

/-- Record an access error at a byte offset of the global BAR0, or of a window; a window's error raises the partition's ACCERR. -/
def accErr (s : State) (win : Option Part) (unmapped : Bool) (off : Nat) : State :=
  match win with
  | none =>
    let s := setF s (if unmapped then R.GLB_ACCERR_UNMAPPED else R.GLB_ACCERR_SIZE)
    bump (put s R.GLB_ACCERR_ADDR_OFFSET off) R.GLB_ACCERR_CNT_COUNT
  | some p =>
    let s := setF s (if unmapped then R.PW_ACCERR_UNMAPPED p else R.PW_ACCERR_SIZE p)
    raiseP (bump (put s (R.PW_ACCERR_ADDR_OFFSET p) off) (R.PW_ACCERR_CNT_COUNT p)) p srcAccErr

/-- Is a BAR0 offset in the always-on block? -/
def aonOffset (off : Nat) : Bool := 0x10000 ≤ off && off < 0x20000

/-- Is an access through the global BAR0 or a window answered (R342, R525; log entry 72)? -/
def reaches (s : State) (win : Option Part) (off : Nat) : Bool :=
  match win with
  | none => off < 0x400000 && (unitsRun s || (aonOffset off && !s.sup.held && modeOf s != modeDORMANT))
  | some p => off < 0x10000 && unitsRun s && present s p

/-- The register address of an offset. -/
def regAt (win : Option Part) (off : Nat) : Nat :=
  match win with
  | none => off
  | some p => winAddr p off

/-- Is a window offset in the MSI-X table or the pending bit array (R344)? -/
def msixArea (off : Nat) : Bool := (0x8000 ≤ off && off < 0x8200) || off == 0x9000 || off == 0x9004

/-- Does an offset hold a register? -/
def mapped (win : Option Part) (off : Nat) : Bool := hasRegister (regAt win off) || (win.isSome && off % 4 == 0 && msixArea off)

/-- The byte enables of one whole word. -/
def wholeWord : List Bool := [true, true, true, true]

/-- R8, R9: a failing access. One that does not enable one whole word makes a size error, one of an offset without a register an
unmapped error, each recorded and counted by its own rule; a read returns zero, a write is discarded. -/
def failAccess (s : State) (win : Option Part) (write : Bool) (off : Nat) (lanes : List Bool) : State :=
  let s := if lanes = wholeWord then s else accErr s win false (errOffset off lanes)
  let s := if mapped win off then s else accErr s win true (errOffset off lanes)
  if write then s else { s with rdata := 0 }

/-! ## Field by field (R10, R11) -/

/-- A written word acts on one field by its access code. -/
def writeFld (v : Nat) (s : State) (f : Fld) : State :=
  match f.acc with
  | .rw => put s f (bits v f.lo f.width)
  | .w1s => put s f (get s f ||| bits v f.lo f.width)
  | .w1c => if bits v f.lo f.width = 0 then s else put s f (get s f - (get s f &&& bits v f.lo f.width))
  | .ro => s
  | .wo => s
  | .rc => s

/-- The word acts on every field of the register at address a. -/
def writeWord (s : State) (a v : Nat) : State := (fieldsAt a).foldl (writeFld v) s

/-- The value of a field as a read shows it. -/
def readFld (s : State) (f : Fld) : Nat := match f.acc with
  | .wo => 0
  | _ => get s f

/-- The word that the stored fields of a register make. -/
def storedWord (s : State) (a : Nat) : Nat := ((fieldsAt a).map fun f => readFld s f * 2 ^ f.lo).sum

/-- The RC fields of a register that has been read clear. -/
def clearRead (s : State) (a : Nat) : State := (fieldsAt a).foldl (fun s f => if f.acc = .rc then clrF s f else s) s

/-! ## Registers that show other state -/

/-- SEQ_STAT.RUN and NRUN of sequencer q (R310). -/
def seqStatWord (s : State) (q : Nat) : Nat :=
  let run := (List.range 8).countP fun p => get s (R.SEQ_PAIR_STAT_STATE q p) == stRunnable
  b2n (seqOf s q).cur.isSome + 2 * run + 2 ^ 8 * get s (R.SEQ_STAT_CFGERR q)

/-- Is the pair at window position i VALID and partition p's? -/
def ownsPos (s : State) (p i : Nat) : Bool := pairValid s (i / 8) (i % 8) && ownerOf s (i / 8) (i % 8) == p

/-- SEQ_PAIR_STAT, SEQ_PAIR_FAULT and SEQ_PAIR_INST as PW_PAIR_STAT, PW_PAIR_FAULT and PW_PAIR_INST show them to partition p. -/
def pairView (s : State) (p i w : Nat) : Nat :=
  let q := i / 8
  let k := i % 8
  if ownsPos s p i then
    match w with
    | 0 => 2 ^ 31 + storedWord s (0x140104 + 0x1000 * q + k * 0x40)
    | 1 => storedWord s (0x14010C + 0x1000 * q + k * 0x40)
    | _ => get s (R.SEQ_PAIR_INST_WORD q k)
  else 0

/-- The head of a partition's fault queue as PW_FQ_ADDR_LO, PW_FQ_ADDR_HI and PW_FQ_INFO show it (R376). -/
def faultView (s : State) (p w : Nat) : Nat :=
  match (nth s.host.part p PartHost.init).faults with
  | [] => if w = 2 then 31 * 2 ^ 16 else 0
  | x :: _ =>
    match w with
    | 0 => x.addr % 2 ^ 32
    | 1 => x.addr / 2 ^ 32
    | _ => x.cause + 2 ^ 4 * x.level + 2 ^ 7 * b2n x.write + 2 ^ 8 * x.req + 2 ^ 12 * x.unit + 2 ^ 16 * x.region

/-- PRT_STAT of partition p (R379). -/
def prtStatWord (s : State) (p : Nat) : Nat :=
  let prog := (List.range 32).any fun i =>
    ownerOf s (i / 8) (i % 8) == p && ((pairOf s (i / 8) (i % 8)).slot0.isSome || (pairOf s (i / 8) (i % 8)).slot1.isSome)
  let ring := (List.range 16).any fun r => isSet s (R.PW_SQ_CTL_EN p r) || isSet s (R.PW_CQ_CTL_EN p r)
  b2n (present s p) + 2 * b2n ((partOf s p).rst != 0) + 4 * b2n prog + 8 * b2n ring

/-- Slot k's word with HELD as R39 has it. -/
def slotWord (s : State) (k : Nat) : Nat :=
  storedWord s (0xA0080 + 4 * k) - 2 * get s (R.INT_SLOT_STAT_HELD k) +
    2 * b2n (s.intake.frames.any fun x => x.slot == k && x.held && slotNeeded s x)

/-- The pad levels of n lines from line l on (R556). -/
def padWord (s : State) (l n : Nat) : Nat := ((List.range n).map fun i => b2n (padLevel s (l + i)) * 2 ^ i).sum

/-- Is a in the family at base with n registers every step bytes? -/
def inFam (a base step n : Nat) : Bool := base ≤ a && (a - base) % step == 0 && (a - base) / step < n

/-- The word of a register that shows other state than its own fields; none for the others. -/
def viewWord (s : State) (a : Nat) : Option Nat :=
  if inFam a 0x140000 0x1000 4 then some (seqStatWord s ((a - 0x140000) / 0x1000))
  else if 0x140100 ≤ a && a < 0x144000 && 0x100 ≤ a % 0x1000 && a % 0x1000 < 0x300 && a % 0x40 == 8 then
    some ((pairOf s ((a - 0x140000) / 0x1000) ((a % 0x1000 - 0x100) / 0x40)).pc % 2 ^ 14)
  else if inFam a 0x10002C 0x1000 18 then some (get s R.STR_OS_GEN_COMMON_GEN)
  else if inFam a 0x4200C 0x10 16 then some (b2n (highestAssigned s ((a - 0x4200C) / 0x10)).isSome)
  else if inFam a 0x300018 0x100 8 then some (prtStatWord s ((a - 0x300018) / 0x100))
  else if a = 0x1A0044 then
    let r := bufRef s (get s R.POOL_REF_SEL_BUF)
    some (r.count % 256 + 256 * (r.mask % 256))
  else if inFam a 0xA0080 4 8 then some (slotWord s ((a - 0xA0080) / 4))
  else if inFam a 0x200020 0x10000 4 then some (min 1023 ((magOf s ((a - 0x200020) / 0x10000)).cmds.length))
  else if 0x200140 ≤ a && a < 0x240000 && 0x140 ≤ a % 0x10000 && a % 0x10000 < 0x200 && a % 0x20 == 0xC then
    let n := (a - 0x200000) / 0x10000
    some (wrap 32 (accrueQ s n (magOf s n) ((a % 0x10000 - 0x100) / 0x20) / 1228800))
  else if a = 0x80410 then some (padWord s 0 32)
  else if a = 0x80414 then some (padWord s 32 16)
  else if a = 0x10024 then some (get s R.AON_REG_STAT_LP + 16 * (freeVal s % 256))
  else if 0x400000 ≤ a then
    let p := (a - 0x400000) / 0x10000
    let off := a % 0x10000
    if off = 0x0000 then some p
    else if off = 0x0004 then some (get s (R.PW_STAT_RST_BUSY p) + 2 ^ 4 * modeOf s + 2 ^ 8 * b2n (anchored s))
    else if 0x2000 ≤ off ∧ off < 0x2200 ∧ off % 0x10 ≠ 0xC then some (pairView s p ((off - 0x2000) / 0x10) (off % 0x10 / 4))
    else if off = 0x0800 then some (nth s.host.part p PartHost.init).faults.length
    else if 0x0804 ≤ off ∧ off ≤ 0x080C then some (faultView s p ((off - 0x0804) / 4))
    else if 0x8000 ≤ off ∧ off < 0x8200 then
      let v := (off - 0x8000) / 16
      some (if off % 16 = 12 then b2n (bitAt (nth s.hub.vecMask p 0) v) else msixWord s p v (off % 16 / 4))
    else if off = 0x9000 then some (nth s.hub.vecPend p 0)
    else if off = 0x9004 then some 0
    else none
  else none

/-- The word a read of the register at address a returns. -/
def readWord (s : State) (a : Nat) : Nat := (viewWord s a).getD (storedWord s a)

/-- Reads that have a command of their own: TICK_NO (R31), claims (R364) and PIN_UART_DATA (R556). -/
def ownRead (a : Nat) : Bool :=
  a == 0xC0020 || a == 0xC0024 || inFam a 0x42004 0x10 16 || inFam a 0x400410 0x10000 8 || inFam a 0x80504 0x10 4

/-- A read of the register at address a (R11). Reads that show a value the spec leaves open use it up. -/
def readReg (s : State) (a : Nat) : State :=
  if ownRead a then s
  else if inFam a 0x80604 0x10 4 then auxPop s ((a - 0x80604) / 0x10)
  else
    let s' := clearRead { s with rdata := readWord s a } a
    let s' := if a = 0x1A0030 then put s' R.POOL_MIN_E_COUNT (get s' R.POOL_FREE_E_COUNT) else s'
    if a = 0x80410 ∨ a = 0x80414 ∨ a = 0x10024 then useFree s' else s'

/-! ## Writes that are checked or have an effect -/

/-- R355, R356: a write to BASE or CFG of submission ring r of partition p, ok where the values are allowed. -/
def sqCfgWrite (s : State) (p r a v : Nat) (ok : Bool) : State :=
  if ok && !isSet s (R.PW_SQ_CTL_EN p r) && isSet s (R.PW_SQ_STAT_IDLE p r) then writeWord s a v
  else put (setF s (R.PW_SQ_STAT_ERR p r)) (R.PW_SQ_STAT_ECODE p r) 3

/-- The same of completion ring r. -/
def cqCfgWrite (s : State) (p r a v : Nat) (ok : Bool) : State :=
  if ok && !isSet s (R.PW_CQ_CTL_EN p r) then writeWord s a v
  else put (setF s (R.PW_CQ_STAT_ERR p r)) (R.PW_CQ_STAT_ECODE p r) 3

/-- A value of PW_SQ_CFG that R356 allows. -/
def sqCfgOk (v : Nat) : Bool := 4 ≤ bits v 0 4 && bits v 0 4 ≤ 12 && bits v 16 8 != 0 && 1 ≤ bits v 24 4 && bits v 24 4 ≤ 8

/-- A value of PW_CQ_CFG that R356 allows. -/
def cqCfgOk (v : Nat) : Bool := 4 ≤ bits v 0 4 && bits v 0 4 ≤ 12

/-- A write to a partition window (R344, R355, R356). -/
def winWrite (s : State) (p off v : Nat) : State :=
  let a := winAddr p off
  if 0x1000 ≤ off ∧ off < 0x1200 then
    let r := (off - 0x1000) / 0x20
    match off % 0x20 with
    | 0x00 => sqCfgWrite s p r a v true
    | 0x04 => sqCfgWrite s p r a v true
    | 0x08 => sqCfgWrite s p r a v (sqCfgOk v)
    | 0x0C => s
    | _ => writeWord s a v
  else if 0x1400 ≤ off ∧ off < 0x1600 then
    let r := (off - 0x1400) / 0x20
    match off % 0x20 with
    | 0x00 => cqCfgWrite s p r a v true
    | 0x04 => cqCfgWrite s p r a v true
    | 0x08 => cqCfgWrite s p r a v (cqCfgOk v)
    | 0x0C => s
    | 0x10 => s
    | _ => writeWord s a v
  else if off = 0x410 ∨ off = 0x418 then pwHubErr s p
  else if 0x8000 ≤ off ∧ off < 0x8200 then
    if off % 16 = 12 then msixMask s p ((off - 0x8000) / 16) (bitAt v 0) else msixSet s p ((off - 0x8000) / 16) (off % 16 / 4) v
  else writeWord s a v

/-- R310, R337: a write of SEQ_PAIR_OWNER. -/
def ownerWrite (s : State) (q p v : Nat) : State :=
  let x := pairOf s q p
  if x.slot0.isSome || x.slot1.isSome || bitAt (get s R.SEQ_OFFLINE_MASK) q then setF s (R.SEQ_STAT_CFGERR q)
  else put (put s (R.SEQ_PAIR_OWNER_PART q p) (bits v 0 3)) (R.SEQ_PAIR_OWNER_VALID q p) (bits v 7 1)

/-- R400, R408: a write of POOL_BASE, POOL_COUNT or POOL_NESS; ok where the value is allowed. -/
def poolCfgWrite (s : State) (a v : Nat) (ok : Bool) : State :=
  if poolCfgOk s && ok then writeWord s a v else setF s R.POOL_STAT_CFGERR

/-- R255: the open store registers and STR_DISPATCH. The data words that a later write stores are held. -/
def openStoreWrite (s : State) (a v : Nat) : State :=
  if strWritesOk s then
    if a = 0x13F034 then put s R.STR_OS_DATA0_DATA v else if a = 0x13F038 then put s R.STR_OS_DATA1_DATA v else writeWord s a v
  else setF s R.STR_POOL_STAT_CFGERR

/-- R491, R507: a write to a register of the INJ block other than INJ_ARM: it cancels an arming sequence. -/
def injWrite (s : State) (a v : Nat) : State :=
  let s := { s with sup := { s.sup with armAt := none } }
  if a < 0x341000 then writeWord s a v
  else
    let i := (a - 0x341000) / 0x20
    let k := (a - 0x341000) % 0x20
    if k = 0 then
      let on := isSet s (R.INJ_CTL_EN i)
      if bits v 1 2 = 3 ∨ (on ∧ bits v 1 2 ≠ get s (R.INJ_CTL_ACT i)) ∨ (bitAt v 0 ∧ ¬ injArmed s) then setF s R.INJ_STAT_CFGERR
      else if bitAt v 0 ∧ ¬ on then injStart (writeWord s a v) i
      else writeWord s a v
    else if k = 0x14 then s
    else if isSet s (R.INJ_CTL_EN i) ∨ (k = 4 ∧ v = 0) then setF s R.INJ_STAT_CFGERR
    else writeWord s a v

/-- R489: a write to word w of FLT_MASK; the mask bits of fatal sources and of unassigned numbers take nothing. -/
def fltMaskWrite (s : State) (w v : Nat) : State :=
  forN 32 (fun i s =>
    let f := 32 * w + i
    if R.fltAssigned f && R.fltClassCode f != 3 then put s (R.FLT_MASK f) (bits v i 1) else s) s

/-- A write of AON_BOOT_LEN starts a host image again, unless it has been given. -/
def bootLenWrite (s : State) (v : Nat) : State :=
  let s := put s R.AON_BOOT_LEN_BYTES (bits v 0 21)
  if s.sup.given then s else { s with sup := { s.sup with image := [] } }

/-- A write to the always-on block. -/
def aonWrite (s : State) (a v : Nat) : State :=
  if a = 0x1000C then (if bitAt v 4 || bitAt v 8 then s else bootCtlStore s v)
  else if a = 0x10010 then bootLenWrite s v
  else if a = 0x10014 ∨ a = 0x10020 then s
  else writeWord s a v

/-- Writes that have a command of their own, whatever the value written. -/
def ownWrite (a : Nat) : Bool :=
  a == 0x100 || a == 0xC0008 || a == 0xC0100 ||
  (0xA0000 ≤ a && a ≤ 0xA000C) || (0xA0020 ≤ a && a ≤ 0xA0038) || (0xA0040 ≤ a && a ≤ 0xA004C) ||
  (0xA1000 ≤ a && a < 0xA1C00 && a % 0x100 ≤ 4) ||
  (0xA2000 ≤ a && a < 0xA2300 && (a % 0x100 ≤ 0x30 || a % 0x100 == 0x44)) || (0xA2400 ≤ a && a < 0xA2480 && a % 0x40 ≤ 8) ||
  inFam a 0x100004 0x1000 18 || a == 0x13F000 || a == 0x13F00C || a == 0x13F010 || a == 0x13F014 || a == 0x13F03C ||
  a == 0x17F000 || a == 0x17F008 || a == 0x17F00C ||
  (0x40000 ≤ a && a ≤ 0x40010) || (0x41000 ≤ a && a < 0x42000) || (0x42000 ≤ a && a < 0x42100 && a % 0x10 != 0xC) ||
  (0x2C0100 ≤ a && a < 0x2C0180) || a == 0x2C0208 ||
  (0x300000 ≤ a && a < 0x300800 && (a % 0x100 == 0 || a % 0x100 == 0x10 || a % 0x100 == 0x14)) || a == 0x33F000 ||
  a == 0x180000 || a == 0x1A0000 || a == 0x1C0008 || a == 0x1C0014 || (0x1C0040 ≤ a && a < 0x1C0060) || (0x1C0100 ≤ a && a < 0x1C0160) ||
  (0x200100 ≤ a && a < 0x240000 && 0x100 ≤ a % 0x10000 && a % 0x10000 < 0x200 && (a % 0x20 == 4 || a % 0x20 == 8)) ||
  inFam a 0x280000 0x1000 4 || inFam a 0x280038 0x1000 4 ||
  (0x60000 ≤ a && a < 0x60040) || a == 0x60104 || a == 0x340000 ||
  (0x80000 ≤ a && a < 0x80300 && a % 0x10 != 0xC) || a == 0x8044C || inFam a 0x80504 0x10 4 || inFam a 0x80600 0x10 4 ||
  (0x400000 ≤ a &&
    ((0x100 ≤ a % 0x10000 && a % 0x10000 < 0x140) || (0x200 ≤ a % 0x10000 && a % 0x10000 < 0x240) ||
      (0x400 ≤ a % 0x10000 && a % 0x10000 ≤ 0x40C) || a % 0x10000 == 0x414 || a % 0x10000 == 0x810))

/-- A write to a register of the global BAR0 (R11 and the rules of each register). -/
def bar0Write (s : State) (a v : Nat) : State :=
  if a = 0xC0000 then (if bitAt v 3 then s else tickCtlWrite s v)
  else if a = 0xC000C then (if 1 ≤ bits v 0 5 ∧ bits v 0 5 ≤ 16 then writeWord s a v else setF s R.TICK_STAT_BADCFG)
  else if aonOffset a then aonWrite s a v
  else if 0x13F030 ≤ a ∧ a < 0x13F0C0 then openStoreWrite s a v
  else if 0x140100 ≤ a ∧ a < 0x144000 ∧ 0x100 ≤ a % 0x1000 ∧ a % 0x1000 < 0x300 ∧ a % 0x40 = 0 then
    ownerWrite s ((a - 0x140000) / 0x1000) ((a % 0x1000 - 0x100) / 0x40) v
  else if inFam a 0x181000 0x40 16 then
    (if chState s ((a - 0x181000) / 0x40) = chIdle then writeWord s a v else s)
  else if a = 0x1A0008 ∨ a = 0x1A000C then poolCfgWrite s a v true
  else if a = 0x1A0010 then poolCfgWrite s a v (bits v 0 19 ≤ 262144)
  else if a = 0x1A0014 then poolCfgWrite s a v (bits v 0 19 ≤ get s R.POOL_COUNT_N)
  else if a = 0x1C0080 then (if 1 ≤ bits v 0 4 ∧ bits v 0 4 ≤ 8 then writeWord s a v else setF s R.DRC_STAT_CFGERR)
  else if inFam a 0x200000 0x10000 4 then (if bitAt v 1 then s else magCtlWrite s ((a - 0x200000) / 0x10000) v)
  else if inFam a 0x200008 0x10000 4 then
    (if 1 ≤ bits v 0 10 ∧ bits v 0 10 ≤ 500 then writeWord s a v else setF s (R.MAG_STAT_CFGERR ((a - 0x200008) / 0x10000)))
  else if inFam a 0x200018 0x10000 4 then
    let n := (a - 0x200018) / 0x10000
    cacheFlush (fuaAll (writeWord s a v) n) n
  else if inFam a 0x280010 0x1000 4 then
    (if get s (R.SBD_GAUGE_STAT_STATE ((a - 0x280010) / 0x1000)) = 2 then s else writeWord s a v)
  else if 0x60040 ≤ a ∧ a < 0x60060 then fltMaskWrite s ((a - 0x60040) / 4) v
  else if 0x340000 ≤ a ∧ a < 0x380000 then injWrite s a v
  else if inFam a 0x80500 0x10 4 then uartCtl s ((a - 0x80500) / 0x10) v
  else if inFam a 0x80604 0x10 4 then auxPush s ((a - 0x80604) / 0x10) (BitVec.ofNat 8 v)
  else writeWord s a v

/-! ## Configuration space (R341, R365, R374, R383) -/

/-- A base address with its low or its high word written, aligned to its size. -/
def barPut (b : Option Nat) (hi : Bool) (size v : Nat) : Option Nat :=
  let old := b.getD 0
  some (if hi then 2 ^ 32 * v + old % 2 ^ 32 else 2 ^ 32 * (old / 2 ^ 32) + v / size * size)

/-- A configuration write. The base addresses are the PF's. -/
def cfgWrite (s : State) (p : Part) (r : CfgReg) (v : Nat) : State :=
  let pf (f : HostSt → HostSt) : State := if p.val = 0 then { s with host := f s.host } else s
  match r with
  | .command => msixFlushAll (modCfg s p fun c => { c with memory := bitAt v 1, master := bitAt v 2 }) p
  | .devControl => modCfg s p fun c => { c with devCtl := v &&& 0x78FF }
  | .linkControl => modCfg s p fun c => { c with aspmL1 := bitAt v 1 }
  | .powerState => if bits v 0 2 = 0 ∨ bits v 0 2 = 3 then msixFlushAll (modCfg s p fun c => { c with d3hot := bits v 0 2 == 3 }) p else s
  | .aerUncor => modCfg s p fun c => { c with aer := c.aer - (c.aer &&& v) }
  | .id => s
  | .classCode => s
  | .sriovControl => s
  | .sriovCounts => s
  | .sriovNumVfs => s
  | .sriovOffsets => s
  | .bar0Lo => pf fun h => { h with bar0 := barPut h.bar0 false 0x400000 v }
  | .bar0Hi => pf fun h => { h with bar0 := barPut h.bar0 true 0x400000 v }
  | .bar2Lo => pf fun h => { h with bar2 := barPut h.bar2 false 0x10000 v }
  | .bar2Hi => pf fun h => { h with bar2 := barPut h.bar2 true 0x10000 v }
  | .vfBarLo => pf fun h => { h with vfBar := barPut h.vfBar false 0x10000 v }
  | .vfBarHi => pf fun h => { h with vfBar := barPut h.vfBar true 0x10000 v }
  | .msixControl => msixControl s p (bitAt v 15) (bitAt v 14)

/-- What a configuration read returns. A base address has type bits of a 64-bit, non-prefetchable memory BAR (R341). -/
def cfgWord (s : State) (p : Part) (r : CfgReg) : Nat :=
  let pf (x : Nat) : Nat := if p.val = 0 then x else 0
  let bar (b : Option Nat) (hi : Bool) : Nat := pf (if hi then b.getD 0 / 2 ^ 32 else b.getD 0 % 2 ^ 32 + 4)
  let c := cfgOf s p
  match r with
  | .id => 0x5D8A + 2 ^ 16 * (if p.val = 0 then 0x8840 else 0x8841)
  | .classCode => 0x04800000
  | .command => 2 * b2n c.memory + 4 * b2n c.master
  | .devControl => c.devCtl
  | .linkControl => 2 * b2n c.aspmL1
  | .powerState => if c.d3hot then 3 else 0
  | .aerUncor => c.aer
  | .sriovControl => pf (b2n s.host.vfOn)
  | .sriovCounts => pf (7 + 2 ^ 16 * 7)
  | .sriovNumVfs => pf s.host.numVfs
  | .sriovOffsets => pf (1 + 2 ^ 16)
  | .bar0Lo => bar s.host.bar0 false
  | .bar0Hi => bar s.host.bar0 true
  | .bar2Lo => bar s.host.bar2 false
  | .bar2Hi => bar s.host.bar2 true
  | .vfBarLo => bar s.host.vfBar false
  | .vfBarHi => bar s.host.vfBar true
  | .msixControl => 2 ^ 15 * b2n (nth s.hub.msixOn p false) + 2 ^ 14 * b2n (nth s.hub.msixHush p false)

/-- Are configuration requests for p's function answered? -/
def cfgReaches (s : State) (p : Nat) : Bool := !s.sup.held && modeOf s != modeDORMANT && present s p

/-! ## The intake's own registers (R79, R101) -/

/-- A write that the lock of R79 or a check of its value turns away. -/
def cfgLock (s : State) : State := setF s R.INT_STAT_CFGLOCK

/-- Does the mode keep the intake off, so that locked registers take writes? -/
def intakeOpen (s : State) : Bool := !intakeOn (modeOf s)

/-- The word in force before a staged register's first write since the last boundary stays in force until the next (R79). -/
def stageOld (s : State) (a : Nat) : State :=
  if (lookupKey s.intake.force a).isSome then s
  else { s with intake := { s.intake with force := insertKey s.intake.force a (storedWord s a) } }

/-- INT_CTL holds locked and staged fields: DEPTH and CFA are taken or turned away, DEF_EN is staged either way. -/
def intCtlWrite (s : State) (v : Nat) : State :=
  let s := put (stageOld s 0xA0000) R.INT_CTL_DEF_EN (bits v 4 1)
  if intakeOpen s then showStride (put (put s R.INT_CTL_DEPTH (bits v 0 2)) R.INT_CTL_CFA (bits v 2 2)) else cfgLock s

/-- A locked register other than INT_CTL. -/
def lockedReg (a : Nat) : Bool :=
  a == 0xA0004 || a == 0xA0008 || a == 0xA0040 || a == 0xA0044 || a == 0xA0048 || a == 0xA004C ||
  inFam a 0xA1000 0x100 12 || inFam a 0xA1004 0x100 12

/-- A write to a locked register (R79): INT_RING_CFG also checks its value (R101). -/
def lockedWrite (s : State) (a v : Nat) : State :=
  if a = 0xA0000 then intCtlWrite s v
  else if ¬ lockedReg a then s
  else if ¬ intakeOpen s ∨ (a = 0xA0048 ∧ (bits v 0 4 < 2 ∨ 8 < bits v 0 4)) then cfgLock s
  else showStride (writeWord s a v)

/-- A staged register other than INT_CTL. -/
def stagedReg (a : Nat) : Bool :=
  a == 0xA000C || inFam a 0xA0020 4 4 || a == 0xA0030 || a == 0xA0034 || a == 0xA0038 ||
  (0xA2000 ≤ a && a < 0xA2300 && a % 4 == 0 && a % 0x100 ≤ 0x30) || (0xA2400 ≤ a && a < 0xA2480 && a % 4 == 0 && a % 0x40 ≤ 8)

/-- A write to a staged register (R79). -/
def stagedWrite (s : State) (a v : Nat) : State :=
  if a = 0xA0000 then intCtlWrite s v else if stagedReg a then writeWord (stageOld s a) a v else s

/-- A table entry of view v (R101): an entry that is its own index is not listed. -/
def setLut (s : State) (v k i x : Nat) : State :=
  { s with intake := { s.intake with view := modAt s.intake.view v fun y =>
      { y with lut := if x = i then eraseKey y.lut k else insertKey y.lut k x } } }

/-- R101: a write of INT_VIEW_LUT_DATA. A channel select of 3 names no channel, and only IDX moves. -/
def lutWrite (s : State) (v x : Nat) : State :=
  let i := get s (R.INT_VIEW_LUT_IDX_IDX v)
  let ch := get s (R.INT_VIEW_LUT_IDX_CH v)
  let bank := 1 - getF s (R.INT_VIEW_CFG_LUTSEL v)
  let s := if ch = 3 then s else setLut s v (4096 * (3 * bank + ch) + i) i (x % 4096)
  put s (R.INT_VIEW_LUT_IDX_IDX v) (i + 1)

/-! ## Meanings -/

/-- ACCESS_SIZE_ERROR (R7, R8): an access from word offset off whose byte enables, one for each byte, are not those of one whole word. -/
def execAccessSizeError (win : Option Part) (write : Bool) (off : Nat) (lanes : List Bool) (s : State) : Host.Outcome State Fault Refusal :=
  .next (if off % 4 = 0 ∧ lanes ≠ wholeWord ∧ reaches s win off then failAccess s win write off lanes else s)

/-- ACCESS_UNMAPPED (R9): an access of any width to a word offset that holds no register. -/
def execAccessUnmapped (win : Option Part) (write : Bool) (x : BusBytes) (s : State) : Host.Outcome State Fault Refusal :=
  .next (if x.off % 4 = 0 ∧ ¬ mapped win x.off ∧ reaches s win x.off then failAccess s win write x.off x.lanes else s)

/-- What a write of a whole word at an offset does: R9 where no register is there; nothing here where the register's write is a
command of its own. -/
def busWrite (s : State) (win : Option Part) (off v : Nat) : State :=
  if ¬ reaches s win off then s
  else if ¬ mapped win off then failAccess s win true off wholeWord
  else if ownWrite (regAt win off) then s
  else match win with
    | none => bar0Write s off v
    | some p => winWrite s p off v

/-- What a read of a whole word at an offset does. -/
def busRead (s : State) (win : Option Part) (off : Nat) : State :=
  if ¬ reaches s win off then s
  else if ¬ mapped win off then failAccess s win false off wholeWord
  else readReg s (regAt win off)

/-- REGISTER_WRITE (R11). -/
def execRegisterWrite (a : RegAddr) (v : Word32) (s : State) : Host.Outcome State Fault Refusal :=
  match a with
  | .bar0 off => finSettle (busWrite s none off v.toNat)
  | .window p off => finSettle (busWrite s (some p) off v.toNat)
  | .config p r => finSettle (if cfgReaches s p then cfgWrite s p r v.toNat else s)
  | .test x => finSettle (testWrite s x v.toNat)

/-- READ_CLEAR (R11, R13): a read of a register that has no command of its own; its RC fields clear. -/
def execReadClear (a : RegAddr) (s : State) : Host.Outcome State Fault Refusal :=
  .next (match a with
    | .bar0 off => busRead s none off
    | .window p off => busRead s (some p) off
    | .config p r => if cfgReaches s p then { s with rdata := cfgWord s p r } else s
    | .test x => testRead s x)

/-- LOCKED_REGISTER_WRITE (R79). -/
def execLockedRegisterWrite (off : Nat) (v : Word32) (s : State) : Host.Outcome State Fault Refusal := answered s <|
  .next (lockedWrite s off v.toNat)

/-- STAGED_REGISTER_WRITE (R79). -/
def execStagedRegisterWrite (off : Nat) (v : Word32) (s : State) : Host.Outcome State Fault Refusal := answered s <|
  .next (stagedWrite s off v.toNat)

/-- LUT_DATA_WRITE (R101). -/
def execLutDataWrite (v : Fin 3) (w : Word32) (s : State) : Host.Outcome State Fault Refusal := answered s <|
  .next (lutWrite s v w.toNat)

end Sys2Proof.Machine
end

