-- ==== Sys2Proof/Machine/Intake.lean ====
section
/-! DEFINITION. The packets that reach the sensor ports and the drains of their FIFOs (R74 to R91). -/

namespace Sys2Proof.Machine

/-- CSI2_FRAME_START (R35, R75, R80): a frame start short packet at cycle t, with what the header check found. -/
def execCsi2FrameStart (n : SensorPort) (burst : Bool) (hdr : Ecc) (vc : Fin 4) (t : Nat) (s : State) :
    Host.Outcome State Fault Refusal :=
  .next (csiHeader (stamp s t) n burst hdr id fun s => csiChannel s n vc fun s => frameStart s n t)

/-- CSI2_FRAME_END (R75, R80): the port closes the frame it captures. -/
def execCsi2FrameEnd (n : SensorPort) (burst : Bool) (hdr : Ecc) (vc : Fin 4) (s : State) : Host.Outcome State Fault Refusal :=
  .next (csiHeader s n burst hdr id fun s => csiChannel s n vc fun s => match openEv s n with
    | none => s
    | some e => endWin s e n)

/-- CSI2_LONG_PACKET (R74, R75, R80, R81): a long packet with its data type, payload and CRC check. -/
def execCsi2LongPacket (n : SensorPort) (burst : Bool) (hdr : Ecc) (vc : Fin 4) (dt : BitVec 6) (payload : List Byte) (crcOk : Bool)
    (s : State) : Host.Outcome State Fault Refusal :=
  .next (csiHeader s n burst hdr (fun s => takeRow s n none) fun s => csiChannel s n vc fun s =>
    if dt.toNat ≠ 0x2B + get s R.INT_CTL_DEPTH then bump s (R.INT_PORT_DISC_COUNT n)
    else
      let bad := payload.length != segLen s n
      let s := if crcOk then s else bump s (R.INT_PORT_ERR_CRC n)
      let s := if bad then bump s (R.INT_PORT_ERR_LEN n) else s
      takeRow s n (if bad || !crcOk then none else some (unpackRaw (sampBits s) payload)))

/-- CSI2_SHORT_PACKET_IGNORED (R74): line start, line end or a generic short packet. -/
def execCsi2ShortPacketIgnored (n : SensorPort) (burst : Bool) (hdr : Ecc) (vc : Fin 4) (s : State) :
    Host.Outcome State Fault Refusal :=
  .next (csiHeader s n burst hdr id fun s => csiChannel s n vc id)

/-- CSI2_PACKET_DISCARDED (R74): embedded data, any other data type or any other virtual channel. -/
def execCsi2PacketDiscarded (n : SensorPort) (burst : Bool) (hdr : Ecc) (s : State) : Host.Outcome State Fault Refusal :=
  .next (csiHeader s n burst hdr id fun s => bump s (R.INT_PORT_DISC_COUNT n))

/-- FIFO_DRAIN (R87, R88): the oldest word of a packing FIFO drains; data is what was read where the check found it uncorrectable. -/
def execFifoDrain (n : SensorPort) (ecc : Ecc) (data : List Byte) (s : State) : Host.Outcome State Fault Refusal :=
  .next (fifoDrain s n ecc data)

end Sys2Proof.Machine
end

