-- ==== Sys2Proof/Machine/MoverCmd.lean ====
section
/-! DEFINITION. The mover's commands (R386 to R398) and the pool's ring commands (R398 to R403): an instruction of a channel is carried out
when the channel has fetched it, is not waiting for a read and is not held for its writes. -/

namespace Sys2Proof.Machine

/-- Carry out the instruction that channel c has fetched, when it has the OP given and passes the test; else nothing happens (log
entry 1). A gated mover holds it (R515). -/
def chInstr (s : State) (c op : Nat) (ok : List Byte → Bool) (f : List Byte → State → State) : State :=
  let x := chOf s c
  match x.ibuf with
  | none => s
  | some i =>
    if chState s c = chIdle ∨ x.hold ≠ 0 ∨ x.reading ∨ movHalted s ∨ gated s 22 ∨ leAt i 0 1 ≠ op ∨ ¬ ok i then s else f i s

/-- The program of a mover ring command runs on its channel: CH at 0x04. -/
def cmdChan (c : RingCmd) : Nat := leAt c.entry 4 1

/-- MV_START (R398). -/
def mvStart (c : RingCmd) (s : State) : State :=
  let k := cmdChan c
  let prog := leAt c.entry 8 8
  if ¬ formOk c.entry [(4, 1), (8, 8)] ∨ 16 ≤ k ∨ prog % 8 ≠ 0 then complete s c stBadField 0
  else if chOwner s k ≠ some c.part then complete s c stPrivDenied 0
  else if chState s k ≠ chIdle ∨ movHalted s then complete s c stNotReady 0
  else chStart s k 2 prog 0 (2 ^ 64) (some c)

/-- MV_STOP (R386, R398): the running instruction finishes first. -/
def mvStop (c : RingCmd) (s : State) : State :=
  let k := cmdChan c
  if ¬ formOk c.entry [(4, 1)] ∨ 16 ≤ k then complete s c stBadField 0
  else if chOwner s k ≠ some c.part then complete s c stPrivDenied 0
  else if chState s k = chIdle then complete s c stOK 0
  else modCh (put s (R.MOV_CH_STAT_STATE k) chStop) k fun x => { x with stops := x.stops ++ [c] }

/-- POOL_ALLOC (R398). -/
def poolAllocCmd (c : RingCmd) (s : State) : State :=
  if ¬ formOk c.entry [] then complete s c stBadField 0
  else match poolAlloc s false (some c.part) with
    | (some b, s) => complete s c stOK b
    | (none, s) => complete s c stNotReady 0

/-- POOL_RELEASE (R398). -/
def poolReleaseCmd (c : RingCmd) (s : State) : State :=
  let b := leAt c.entry 4 4
  if ¬ formOk c.entry [(4, 4)] ∨ get s R.POOL_COUNT_N ≤ b then complete s c stBadField 0
  else match poolRelease s b (some c.part) with
    | (true, s) => complete s c stOK (bufRef s b).count
    | (false, s) => complete s c stNotReady 0

/-- Is an access of the mover outstanding (R397)? -/
def movBusy (s : State) : Bool := s.host.ops.any fun o => (List.range 16).any fun c => opOfCh c o

/-! ## Meanings -/

/-- MV_START (R398). -/
def execMvStart (p : Part) (r : Ring) (id : Nat) (s : State) : Host.Outcome State Fault Refusal :=
  finSettle (withCmd s p r id 0x20 mvStart)

/-- MV_STOP (R398). -/
def execMvStop (p : Part) (r : Ring) (id : Nat) (s : State) : Host.Outcome State Fault Refusal :=
  finSettle (withCmd s p r id 0x21 mvStop)

/-- POOL_ALLOC (R398, R400): it waits while the pool initialises. -/
def execPoolAlloc (p : Part) (r : Ring) (id : Nat) (s : State) : Host.Outcome State Fault Refusal :=
  if isSet s R.POOL_STAT_BUSY then .next s else finSettle (withCmd s p r id 0x22 poolAllocCmd)

/-- POOL_RELEASE (R398). -/
def execPoolRelease (p : Part) (r : Ring) (id : Nat) (s : State) : Host.Outcome State Fault Refusal :=
  finSettle (withCmd s p r id 0x23 poolReleaseCmd)

/-- POOL_ALLOCATE (R400, R401): an allocation from the essence or the general pool, by a partition or a hardware holder. -/
def execPoolAllocate (ess : Bool) (holder : Option Part) (s : State) : Host.Outcome State Fault Refusal :=
  .next (poolAlloc s ess (holder.map (·.val))).2

/-- MV_MOVE (R389, R390, R393, R395). -/
def execMvMove (c : Chan) (s : State) : Host.Outcome State Fault Refusal :=
  finSettle (chInstr s c 1 (fun _ => true) fun i s => mvDoMove s c i)

/-- MV_LOOP (R391). -/
def execMvLoop (c : Chan) (s : State) : Host.Outcome State Fault Refusal :=
  finSettle (chInstr s c 2 (fun _ => true) fun i s => mvDoLoop s c i)

/-- MV_WAIT_TICK (R392): the channel waits for the next tick boundary. -/
def execMvWaitTick (c : Chan) (t : Nat) (s : State) : Host.Outcome State Fault Refusal :=
  .next (chInstr s c 3 (fun i => leAt i 1 1 == 0) fun _ s => chWaiting (stamp s t) c t)

/-- MV_WAIT_SSM (R392): a test of the condition. -/
def execMvWaitSsm (c : Chan) (t : Nat) (s : State) : Host.Outcome State Fault Refusal :=
  finSettle (chInstr s c 3 (fun i => leAt i 1 1 == 1) fun i s => mvDoWaitSsm (stamp s t) c t i)

/-- MV_WAIT_TIMEOUT (R392). -/
def execMvWaitTimeout (c : Chan) (t : Nat) (s : State) : Host.Outcome State Fault Refusal :=
  finSettle (chInstr s c 3 (fun i => leAt i 4 4 != 0) fun i s => match (chOf s c).waitAt with
    | none => s
    | some w => if w + usCycles * leAt i 4 4 ≤ t then chFail (stamp s t) c mvWaitTimeout else s)

/-- MV_SIGNAL (R393). -/
def execMvSignal (c : Chan) (s : State) : Host.Outcome State Fault Refusal :=
  finSettle (chInstr s c 4 (fun _ => true) fun i s => mvDoSignal s c i)

/-- MOVER_BUS_ERROR (R396): an access that a channel has issued fails at an address of the frame store or SSM. -/
def execMoverBusError (addr : Nat) (s : State) : Host.Outcome State Fault Refusal :=
  finSettle (if (List.range 16).any fun c => chState s c != chIdle then movBusError s addr else s)

/-- MOV_RESTART (R397). -/
def execMovRestart (v : Word32) (s : State) : Host.Outcome State Fault Refusal := answered s <|
  .next (if bitAt v.toNat 0 && movHalted s then { s with movRestart := true } else s)

/-- MOV_RESTART_DONE (R397). -/
def execMovRestartDone (s : State) : Host.Outcome State Fault Refusal :=
  .next (if s.movRestart && !movBusy s && !anchored s then { clrF s R.MOV_STAT_HALTED with movRestart := false } else s)

end Sys2Proof.Machine
end

