-- ==== Sys2Proof/Machine/SeqAlu.lean ====
section
/-! DEFINITION. Lysilo arithmetic, immediates, system registers, branches and HALT (R284, R285, R288, R289, R304). -/

namespace Sys2Proof.Machine

/-! ## Results (R289) -/

def aluAdd (a b : Nat) : Nat := (a + b) % 2 ^ 64
def aluSub (a b : Nat) : Nat := wrap 64 ((a : Int) - b)
def aluAnd (a b : Nat) : Nat := a &&& b
def aluOr (a b : Nat) : Nat := a ||| b
def aluXor (a b : Nat) : Nat := a ^^^ b
def aluShl (a n : Nat) : Nat := a * 2 ^ (n % 64) % 2 ^ 64
def aluShr (a n : Nat) : Nat := a / 2 ^ (n % 64)
def aluSar (a n : Nat) : Nat := wrap 64 (sext 64 a / (2 ^ (n % 64) : Nat))
def aluSlt (a b : Nat) : Nat := b2n (sext 64 a < sext 64 b)
def aluSltu (a b : Nat) : Nat := b2n (a < b)
def aluMul (a b : Nat) : Nat := a * b % 2 ^ 64
def aluMulhu (a b : Nat) : Nat := a * b / 2 ^ 64
def aluMin (a b : Nat) : Nat := if sext 64 a ≤ sext 64 b then a else b
def aluMax (a b : Nat) : Nat := if sext 64 a ≤ sext 64 b then b else a
def aluMinu (a b : Nat) : Nat := min a b
def aluMaxu (a b : Nat) : Nat := max a b
def aluSext (w a : Nat) : Nat := wrap 64 (sext w a)
/-- Leading zeros of a 64-bit value. -/
def aluClz (a : Nat) : Nat := if a = 0 then 64 else 63 - Nat.log2 a

/-- An ALU operation on two registers: rd takes f ra rb. -/
def aluRow (s : State) (q : Nat) (ecc : Ecc) (rd ra rb fn cost : Nat) (f : Nat → Nat → Nat) : State :=
  seqRun s q ecc (encReg 0 rd ra rb fn) fun p s => seqWrite s q p rd (f (greg s q p ra) (greg s q p rb)) cost

/-- An ALU operation on one register, rb zero. -/
def unRow (s : State) (q : Nat) (ecc : Ecc) (rd ra fn : Nat) (f : Nat → Nat) : State :=
  seqRun s q ecc (encReg 0 rd ra 0 fn) fun p s => seqWrite s q p rd (f (greg s q p ra)) 1

/-- An operation on a register and imm16. -/
def immRow (s : State) (q : Nat) (ecc : Ecc) (op rd ra imm : Nat) (f : Nat → Nat → Nat) : State :=
  seqRun s q ecc (encImm op rd ra imm) fun p s => seqWrite s q p rd (f (greg s q p ra) imm) 1

/-- A conditional branch on ra: 3 cycles taken, 1 not taken (R305). -/
def brRow (s : State) (q : Nat) (ecc : Ecc) (op ra off : Nat) (c : Nat → Bool) : State :=
  seqRun s q ecc (encBr op ra off) fun p s =>
    if c (greg s q p ra) then seqGoto (charge s q p 3) q p (brTarget (pairOf s q p).pc off).toNat else seqNext s q p 1

/-! ## Meanings -/

/-- ADD (R289, R305). -/
def execAdd (q : Seq) (ecc : Ecc) (rd ra rb : Fin 32) (s : State) : Host.Outcome State Fault Refusal :=
  .next (aluRow s q ecc rd ra rb 0x00 1 aluAdd)

/-- SUB (R289, R305). -/
def execSub (q : Seq) (ecc : Ecc) (rd ra rb : Fin 32) (s : State) : Host.Outcome State Fault Refusal :=
  .next (aluRow s q ecc rd ra rb 0x01 1 aluSub)

/-- AND (R289, R305). -/
def execAnd (q : Seq) (ecc : Ecc) (rd ra rb : Fin 32) (s : State) : Host.Outcome State Fault Refusal :=
  .next (aluRow s q ecc rd ra rb 0x02 1 aluAnd)

/-- OR (R289, R305). -/
def execOr (q : Seq) (ecc : Ecc) (rd ra rb : Fin 32) (s : State) : Host.Outcome State Fault Refusal :=
  .next (aluRow s q ecc rd ra rb 0x03 1 aluOr)

/-- XOR (R289, R305). -/
def execXor (q : Seq) (ecc : Ecc) (rd ra rb : Fin 32) (s : State) : Host.Outcome State Fault Refusal :=
  .next (aluRow s q ecc rd ra rb 0x04 1 aluXor)

/-- SHL (R289, R305). -/
def execShl (q : Seq) (ecc : Ecc) (rd ra rb : Fin 32) (s : State) : Host.Outcome State Fault Refusal :=
  .next (aluRow s q ecc rd ra rb 0x05 1 aluShl)

/-- SHR (R289, R305). -/
def execShr (q : Seq) (ecc : Ecc) (rd ra rb : Fin 32) (s : State) : Host.Outcome State Fault Refusal :=
  .next (aluRow s q ecc rd ra rb 0x06 1 aluShr)

/-- SAR (R289, R305). -/
def execSar (q : Seq) (ecc : Ecc) (rd ra rb : Fin 32) (s : State) : Host.Outcome State Fault Refusal :=
  .next (aluRow s q ecc rd ra rb 0x07 1 aluSar)

/-- SLT (R289, R305). -/
def execSlt (q : Seq) (ecc : Ecc) (rd ra rb : Fin 32) (s : State) : Host.Outcome State Fault Refusal :=
  .next (aluRow s q ecc rd ra rb 0x08 1 aluSlt)

/-- SLTU (R289, R305). -/
def execSltu (q : Seq) (ecc : Ecc) (rd ra rb : Fin 32) (s : State) : Host.Outcome State Fault Refusal :=
  .next (aluRow s q ecc rd ra rb 0x09 1 aluSltu)

/-- MUL (R289, R305). -/
def execMul (q : Seq) (ecc : Ecc) (rd ra rb : Fin 32) (s : State) : Host.Outcome State Fault Refusal :=
  .next (aluRow s q ecc rd ra rb 0x0A 3 aluMul)

/-- MULHU (R289, R305). -/
def execMulhu (q : Seq) (ecc : Ecc) (rd ra rb : Fin 32) (s : State) : Host.Outcome State Fault Refusal :=
  .next (aluRow s q ecc rd ra rb 0x0B 3 aluMulhu)

/-- MIN (R289, R305). -/
def execMin (q : Seq) (ecc : Ecc) (rd ra rb : Fin 32) (s : State) : Host.Outcome State Fault Refusal :=
  .next (aluRow s q ecc rd ra rb 0x0C 1 aluMin)

/-- MAX (R289, R305). -/
def execMax (q : Seq) (ecc : Ecc) (rd ra rb : Fin 32) (s : State) : Host.Outcome State Fault Refusal :=
  .next (aluRow s q ecc rd ra rb 0x0D 1 aluMax)

/-- MINU (R289, R305). -/
def execMinu (q : Seq) (ecc : Ecc) (rd ra rb : Fin 32) (s : State) : Host.Outcome State Fault Refusal :=
  .next (aluRow s q ecc rd ra rb 0x0E 1 aluMinu)

/-- MAXU (R289, R305). -/
def execMaxu (q : Seq) (ecc : Ecc) (rd ra rb : Fin 32) (s : State) : Host.Outcome State Fault Refusal :=
  .next (aluRow s q ecc rd ra rb 0x0F 1 aluMaxu)

/-- SEXTB (R289, R305). -/
def execSextb (q : Seq) (ecc : Ecc) (rd ra : Fin 32) (s : State) : Host.Outcome State Fault Refusal :=
  .next (unRow s q ecc rd ra 0x10 (aluSext 8))

/-- SEXTH (R289, R305). -/
def execSexth (q : Seq) (ecc : Ecc) (rd ra : Fin 32) (s : State) : Host.Outcome State Fault Refusal :=
  .next (unRow s q ecc rd ra 0x11 (aluSext 16))

/-- SEXTW (R289, R305). -/
def execSextw (q : Seq) (ecc : Ecc) (rd ra : Fin 32) (s : State) : Host.Outcome State Fault Refusal :=
  .next (unRow s q ecc rd ra 0x12 (aluSext 32))

/-- ZEXTW (R289, R305). -/
def execZextw (q : Seq) (ecc : Ecc) (rd ra : Fin 32) (s : State) : Host.Outcome State Fault Refusal :=
  .next (unRow s q ecc rd ra 0x13 (fun a => a % 2 ^ 32))

/-- CLZ (R289, R305). -/
def execClz (q : Seq) (ecc : Ecc) (rd ra : Fin 32) (s : State) : Host.Outcome State Fault Refusal :=
  .next (unRow s q ecc rd ra 0x15 aluClz)

/-- JR (R289, R306): rd takes PC + 4 and PC takes ra; a target outside the code, or not a multiple of 4, faults with cause 1. -/
def execJr (q : Seq) (ecc : Ecc) (rd ra : Fin 32) (s : State) : Host.Outcome State Fault Refusal :=
  .next (seqRun s q ecc (encReg 0 rd ra 0 0x14) fun p s =>
    let pc := (pairOf s q p).pc
    let t := greg s q p ra
    match activeImage s q p with
    | none => s
    | some i =>
      if hdrCode i ≤ t ∨ t % 4 ≠ 0 then progFault s q p 1 pc t
      else seqGoto (charge (setGreg s q p rd (pc + 4)) q p 3) q p t)

/-- ADDI (R288, R305). -/
def execAddi (q : Seq) (ecc : Ecc) (rd ra : Fin 32) (imm : BitVec 16) (s : State) : Host.Outcome State Fault Refusal :=
  .next (immRow s q ecc 0x01 rd ra imm.toNat (fun a i => wrap 64 ((a : Int) + sext 16 i)))

/-- ANDI (R288, R305). -/
def execAndi (q : Seq) (ecc : Ecc) (rd ra : Fin 32) (imm : BitVec 16) (s : State) : Host.Outcome State Fault Refusal :=
  .next (immRow s q ecc 0x02 rd ra imm.toNat aluAnd)

/-- ORI (R288, R305). -/
def execOri (q : Seq) (ecc : Ecc) (rd ra : Fin 32) (imm : BitVec 16) (s : State) : Host.Outcome State Fault Refusal :=
  .next (immRow s q ecc 0x03 rd ra imm.toNat aluOr)

/-- XORI (R288, R305). -/
def execXori (q : Seq) (ecc : Ecc) (rd ra : Fin 32) (imm : BitVec 16) (s : State) : Host.Outcome State Fault Refusal :=
  .next (immRow s q ecc 0x04 rd ra imm.toNat aluXor)

/-- SLTI (R288, R305). -/
def execSlti (q : Seq) (ecc : Ecc) (rd ra : Fin 32) (imm : BitVec 16) (s : State) : Host.Outcome State Fault Refusal :=
  .next (immRow s q ecc 0x05 rd ra imm.toNat (fun a i => b2n (sext 64 a < sext 16 i)))

/-- SLTIU (R288, R305). -/
def execSltiu (q : Seq) (ecc : Ecc) (rd ra : Fin 32) (imm : BitVec 16) (s : State) : Host.Outcome State Fault Refusal :=
  .next (immRow s q ecc 0x06 rd ra imm.toNat (fun a i => b2n (a < wrap 64 (sext 16 i))))

/-- LUI (R288): rd = sext(imm) << 16; ra zero. -/
def execLui (q : Seq) (ecc : Ecc) (rd : Fin 32) (imm : BitVec 16) (s : State) : Host.Outcome State Fault Refusal :=
  .next (immRow s q ecc 0x07 rd 0 imm.toNat (fun _ i => wrap 64 (65536 * sext 16 i)))

/-- R285: the value of a system register. -/
def sysReg (s : State) (q p reg : Nat) : Nat :=
  match reg with
  | 0 => s.tick.no
  | 1 => ownerOf s q p
  | 2 => s.clk % 2 ^ 64
  | _ => slotLeft s q p

/-- RDS (R285, R305): TICKNO, PARTID, CYCLE at time t, or SLOTLEFT as it stands before this instruction's charge (log entry 20). -/
def execRds (q : Seq) (ecc : Ecc) (rd : Fin 32) (reg : Fin 4) (t : Nat) (s : State) : Host.Outcome State Fault Refusal :=
  .next (seqRun (stamp s t) q ecc (encImm 0x08 rd 0 reg) fun p s => seqWrite s q p rd (sysReg s q p reg) 1)

/-- SHLI (R288, R305). -/
def execShli (q : Seq) (ecc : Ecc) (rd ra : Fin 32) (sh : Fin 64) (s : State) : Host.Outcome State Fault Refusal :=
  .next (immRow s q ecc 0x09 rd ra sh aluShl)

/-- SHRI (R288, R305). -/
def execShri (q : Seq) (ecc : Ecc) (rd ra : Fin 32) (sh : Fin 64) (s : State) : Host.Outcome State Fault Refusal :=
  .next (immRow s q ecc 0x0A rd ra sh aluShr)

/-- SARI (R288, R305). -/
def execSari (q : Seq) (ecc : Ecc) (rd ra : Fin 32) (sh : Fin 64) (s : State) : Host.Outcome State Fault Refusal :=
  .next (immRow s q ecc 0x0B rd ra sh aluSar)

/-- BEQZ (R287, R288, R305). -/
def execBeqz (q : Seq) (ecc : Ecc) (ra : Fin 32) (off : BitVec 21) (s : State) : Host.Outcome State Fault Refusal :=
  .next (brRow s q ecc 0x18 ra off.toNat (fun a => a == 0))

/-- BNEZ (R287, R288, R305). -/
def execBnez (q : Seq) (ecc : Ecc) (ra : Fin 32) (off : BitVec 21) (s : State) : Host.Outcome State Fault Refusal :=
  .next (brRow s q ecc 0x19 ra off.toNat (fun a => a != 0))

/-- BLTZ (R287, R288, R305). -/
def execBltz (q : Seq) (ecc : Ecc) (ra : Fin 32) (off : BitVec 21) (s : State) : Host.Outcome State Fault Refusal :=
  .next (brRow s q ecc 0x1A ra off.toNat (fun a => sext 64 a < 0))

/-- BGEZ (R287, R288, R305). -/
def execBgez (q : Seq) (ecc : Ecc) (ra : Fin 32) (off : BitVec 21) (s : State) : Host.Outcome State Fault Refusal :=
  .next (brRow s q ecc 0x1B ra off.toNat (fun a => 0 ≤ sext 64 a))

/-- BGTZ (R287, R288, R305). -/
def execBgtz (q : Seq) (ecc : Ecc) (ra : Fin 32) (off : BitVec 21) (s : State) : Host.Outcome State Fault Refusal :=
  .next (brRow s q ecc 0x1C ra off.toNat (fun a => 0 < sext 64 a))

/-- BLEZ (R287, R288, R305). -/
def execBlez (q : Seq) (ecc : Ecc) (ra : Fin 32) (off : BitVec 21) (s : State) : Host.Outcome State Fault Refusal :=
  .next (brRow s q ecc 0x1D ra off.toNat (fun a => sext 64 a ≤ 0))

/-- JAL (R288): ra = address + 4, then branch; with ra = g0 a plain jump. -/
def execJal (q : Seq) (ecc : Ecc) (ra : Fin 32) (off : BitVec 21) (s : State) : Host.Outcome State Fault Refusal :=
  .next (seqRun s q ecc (encBr 0x1E ra off.toNat) fun p s =>
    let pc := (pairOf s q p).pc
    seqGoto (charge (setGreg s q p ra (pc + 4)) q p 3) q p (brTarget pc off.toNat).toNat)

/-- HALT (R304, R305): the program stops, the halt code is recorded with CAUSE 0, and PROG_HALT is raised. -/
def execHalt (q : Seq) (ecc : Ecc) (imm : BitVec 16) (s : State) : Host.Outcome State Fault Refusal :=
  .next (seqRun s q ecc (encImm 0x3F 0 0 imm.toNat) fun p s =>
    let s := charge s q p 1
    let s := put (put (put s (R.SEQ_PAIR_FAULT_CAUSE q p) 0) (R.SEQ_PAIR_FAULT_PC q p) (pairOf s q p).pc)
      (R.SEQ_PAIR_FAULT_CODE q p) imm.toNat
    leave (raiseP s (ownerOf s q p) srcProgHalt) q p stHalted)

end Sys2Proof.Machine
end

