-- ==== Sys2Proof/Machine/SeqMem.lean ====
section
/-! DEFINITION. The memory instructions of Lysilo (R291 to R294, R311 to R319, R305, R306): LD, ST, LDW, STW, the atomics and FENCE, and
the draining of a store buffer. -/

namespace Sys2Proof.Machine

/-! ## Atomics (R293) -/

/-- An atomic: the store buffer drains, the cell is read and, when f answers a value, written in one step; rd receives the value read. -/
def atomicRow (s : State) (q : Nat) (ecc : Ecc) (op rd ra rb : Nat) (dbl : Bool) (f : Nat → Nat → Nat → Option Nat) : State :=
  seqRun s q ecc (encReg op rd ra rb (b2n dbl)) fun p s =>
    let a := greg s q p ra
    let n := if dbl then 8 else 4
    orFault s q p (ssmCause s q p a n) a fun s =>
      let s := drainAll s q p
      let x := ssmBase s (ownerOf s q p) + a
      let old := leVal (ssmRead s x n)
      let s' := match f old (greg s q p rd % 2 ^ (8 * n)) (greg s q p rb % 2 ^ (8 * n)) with
        | none => s
        | some v => ssmWrite s x (leBytes n v)
      seqWrite s' q p rd old 12

/-! ## Windows (R286, R318, R319) -/

/-- A load of n bytes from a host window: the access is queued and the sequencer stalls for its data (R305). -/
def hostLoad (s : State) (q p rd a n t : Nat) : State :=
  let k := s.host.nextOp
  let s := startOp s (ownerOf s q p) (.load q rd) a n false []
  settle (modPair s q p fun y => { y with stall := some { op := k, since := t, kind := 0, rd := rd, sel := 0, ptr := a } })

/-- A store to a host window: the sequencer stalls until the window accepts it (R305). -/
def hostStore (s : State) (q p a t : Nat) (bs : List Byte) : State :=
  let k := s.host.nextOp
  let s := startOp s (ownerOf s q p) (.store q) a bs.length true bs
  settle (modPair s q p fun y => { y with stall := some { op := k, since := t, kind := 3, rd := 0, sel := 0, ptr := a } })

/-- LDW and STW of n bytes at window address a: k receives the window once its conditions hold (R306). -/
def windowRow (s : State) (q p a n : Nat) (store : Bool) (k : WinRef → State → State) : State :=
  match activeImage s q p with
  | none => s
  | some i => orFault s q p (winCause i a n store) a (k (winRef i a))

/-! ## Meanings -/

/-- STORE_BUFFER_DRAIN (R292, R312): the oldest store of the program running on q becomes visible to all sequencers. -/
def execStoreBufferDrain (q : Seq) (s : State) : Host.Outcome State Fault Refusal :=
  .next (match (seqOf s q).cur with | none => s | some p => drainOne s q p)

/-- LD (R291, R313, R305). -/
def execLd (q : Seq) (ecc : Ecc) (rd base : Fin 32) (sz : Fin 4) (off : BitVec 14) (s : State) : Host.Outcome State Fault Refusal :=
  .next (seqRun s q ecc (encMem 0x10 rd base sz off.toNat) fun p s =>
    let a := memAddr (greg s q p base) off.toNat
    let n := szBytes sz
    orFault s q p (ssmCause s q p a n) a fun s =>
      let (bs, s) := ssmLoad s q p (ssmBase s (ownerOf s q p) + a) n
      seqWrite s q p rd (leVal bs) 4)

/-- ST (R291, R292, R305). -/
def execSt (q : Seq) (ecc : Ecc) (rs base : Fin 32) (sz : Fin 4) (off : BitVec 14) (s : State) : Host.Outcome State Fault Refusal :=
  .next (seqRun s q ecc (encMem 0x11 rs base sz off.toNat) fun p s =>
    let a := memAddr (greg s q p base) off.toNat
    let n := szBytes sz
    orFault s q p (ssmCause s q p a n) a fun s =>
      let (stall, s) := ssmStore s q p (ssmBase s (ownerOf s q p) + a) (leBytes n (greg s q p rs))
      seqNext s q p (1 + stall))

/-- LDW (R291, R318, R305). A frame store read that meets an uncorrectable error (ue) faults with READ_ERR (R306); the cycles until
its data returns are a free value. -/
def execLdw (q : Seq) (ecc : Ecc) (rd base : Fin 32) (sz : Fin 4) (off : BitVec 14) (ue : Bool) (t : Nat) (s : State) :
    Host.Outcome State Fault Refusal :=
  .next (seqRun (stamp s t) q ecc (encMem 0x12 rd base sz off.toNat) fun p s =>
    let a := memAddr (greg s q p base) off.toNat
    let n := szBytes sz
    windowRow s q p a n false fun w s =>
      if w.host then hostLoad s q p rd (w.base + w.off) n s.clk
      else orFault s q p (if ue then 6 else 0) a fun s =>
        let (stall, s) := stallCycles s
        seqWrite s q p rd (leVal (fsRead s (w.base + w.off) n)) (4 + stall))

/-- STW (R291, R318, R305): a store to a frame store window is posted with a stall whose length is a free value. -/
def execStw (q : Seq) (ecc : Ecc) (rs base : Fin 32) (sz : Fin 4) (off : BitVec 14) (t : Nat) (s : State) :
    Host.Outcome State Fault Refusal :=
  .next (seqRun (stamp s t) q ecc (encMem 0x13 rs base sz off.toNat) fun p s =>
    let a := memAddr (greg s q p base) off.toNat
    let n := szBytes sz
    let bs := leBytes n (greg s q p rs)
    windowRow s q p a n true fun w s =>
      if w.host then hostStore s q p (w.base + w.off) s.clk bs
      else
        let (stall, s) := stallCycles s
        seqNext (fsWrite s (w.base + w.off) bs) q p (4 + stall))

/-- AMOADD (R293, R305). -/
def execAmoadd (q : Seq) (ecc : Ecc) (rd ra rb : Fin 32) (dbl : Bool) (s : State) : Host.Outcome State Fault Refusal :=
  .next (atomicRow s q ecc 0x14 rd ra rb dbl fun old _ b => some (old + b))

/-- AMOSWAP (R293, R305). -/
def execAmoswap (q : Seq) (ecc : Ecc) (rd ra rb : Fin 32) (dbl : Bool) (s : State) : Host.Outcome State Fault Refusal :=
  .next (atomicRow s q ecc 0x15 rd ra rb dbl fun _ _ b => some b)

/-- CAS (R293, R305): stores rb only when the value read equals what rd held. -/
def execCas (q : Seq) (ecc : Ecc) (rd ra rb : Fin 32) (dbl : Bool) (s : State) : Host.Outcome State Fault Refusal :=
  .next (atomicRow s q ecc 0x16 rd ra rb dbl fun old d b => if old = d then some b else none)

/-- FENCE (R294, R319, R305): every earlier store becomes visible; a stall for a buffer that is not empty has a free length. -/
def execFence (q : Seq) (ecc : Ecc) (s : State) : Host.Outcome State Fault Refusal :=
  .next (seqRun s q ecc (encReg 0x17 0 0 0 0) fun p s =>
    let (stall, s) := if (pairOf s q p).sbuf.isEmpty then (0, s) else stallCycles s
    seqNext (drainAll s q p) q p (1 + stall))

end Sys2Proof.Machine
end

