-- ==== Sys2Proof/Machine/StrandExec.lean ====
section
/-! DEFINITION. The commands of the strands (R235 to R271): jobs and their rows, microwords, the open store's routines, frays and
splices, self-tests, and the writes of the strand registers that have rows of their own. -/

namespace Sys2Proof.Machine

/-- R259, R487: n corrected strand SRAM errors are counted, and STR_CE of the strand sets. -/
def sramCe (s : State) (n k : Nat) : State :=
  if k = 0 ∨ (jobOf s n).isNone then s else fault (bumpBy s (R.STR_SRAM_ECC_CE n) k) (fltStrCe n)

/-! ## Jobs and rows -/

/-- JOB_START (R243, R244). -/
def execJobStart (n : Strand) (t : Nat) (s : State) : Host.Outcome State Fault Refusal := finSettle (if anchored s then s else startJob (stamp s t) n)

/-- ENC_ROW (R241). -/
def execEncRow (n : Strand) (hits : List (Nat × Nat × Nat × Nat)) (upset : List (Nat × Byte)) (ce : Nat) (s : State) : Host.Outcome State Fault Refusal :=
  finSettle (encRow (sramCe s n ce) n hits upset)

/-- ECHO_CHECK_DONE (R230). -/
def execEchoCheckDone (x : StrandRun) (s : State) : Host.Outcome State Fault Refusal := finSettle (echoDone (sramCe s x.n x.ce) x.n)

/-- DEC_ROW (R211). -/
def execDecRow (x : StrandRun) (s : State) : Host.Outcome State Fault Refusal := finSettle (decRow (sramCe s x.n x.ce) x.n)

/-- ROW_COMMIT (R118). -/
def execRowCommit (n : Strand) (writes : Nat) (waited : Timed Nat) (s : State) : Host.Outcome State Fault Refusal :=
  finSettle (rowCommit (stamp s waited.t) n writes waited.val waited.t)

/-- ECHO_JOB (R232). -/
def execEchoJob (x : StrandRun) (s : State) : Host.Outcome State Fault Refusal := finSettle (echoJob (sramCe s x.n x.ce) x.n)

/-- LOADCTX (R241). -/
def execLoadctx (n : Strand) (s : State) : Host.Outcome State Fault Refusal := finSettle (loadCtx s n)

/-- SAVECTX (R241). -/
def execSavectx (n : Strand) (s : State) : Host.Outcome State Fault Refusal := finSettle (saveCtx s n)

/-! ## Microwords (R249 to R256) -/

/-- A microword command: op says whether a word holds the operation that the command names. -/
def uStep (n : Nat) (ecc : Ecc) (w : MicroWord) (eng : Bool) (op : MicroWord → Bool) (s : State) : Host.Outcome State Fault Refusal :=
  let pc := get s (R.STR_UPC_ADDR n)
  if frayed s n ∨ strState s n = strQuar then .next s
  else
    match fetchWord s pc with
    | none => finSettle (uIllegal s n (decide ((strandOf s n).routine ≠ 0)))
    | some x =>
      if x ≠ w ∨ ¬ (op w ∨ uBad s n (inStore pc) w) then .next s
      else match ecc with
        | .ue => finSettle (storeUe s n)
        | .ok => finSettle (uWord s n pc w eng)
        | .ce =>
          if inRom pc ∧ (lookupKey s.strs.patchAt pc).isNone then finSettle (storeUe s n)
          else finSettle (uWord (fault (bump s (R.STR_CS_ECC_CE n)) (fltStrCe n)) n pc w eng)

/-- A word with the given ALU code. -/
def hasAlu (k : Nat) (w : MicroWord) : Bool := uAlu w == k

/-- A word with the given MEM code. -/
def hasMem (k : Nat) (w : MicroWord) : Bool := uMem w == k

/-- A word with no operation but its next address, sequential. -/
def plainWord (w : MicroWord) : Bool := uAlu w == 0 && !(1 ≤ uMem w && uMem w ≤ 4) && uNx w == 0 && uStk w == 0 && !uCommit w

/-! ## Meanings -/

/-- U_ADD (R251). -/
def execUAdd (n : Strand) (ecc : Ecc) (w : MicroWord) (eng : Bool) (s : State) : Host.Outcome State Fault Refusal :=
  uStep n ecc w eng (hasAlu 0x01) s
/-- U_SUB (R251). -/
def execUSub (n : Strand) (ecc : Ecc) (w : MicroWord) (eng : Bool) (s : State) : Host.Outcome State Fault Refusal :=
  uStep n ecc w eng (hasAlu 0x02) s
/-- U_AND (R251). -/
def execUAnd (n : Strand) (ecc : Ecc) (w : MicroWord) (eng : Bool) (s : State) : Host.Outcome State Fault Refusal :=
  uStep n ecc w eng (hasAlu 0x03) s
/-- U_OR (R251). -/
def execUOr (n : Strand) (ecc : Ecc) (w : MicroWord) (eng : Bool) (s : State) : Host.Outcome State Fault Refusal :=
  uStep n ecc w eng (hasAlu 0x04) s
/-- U_XOR (R251). -/
def execUXor (n : Strand) (ecc : Ecc) (w : MicroWord) (eng : Bool) (s : State) : Host.Outcome State Fault Refusal :=
  uStep n ecc w eng (hasAlu 0x05) s
/-- U_SHL (R251). -/
def execUShl (n : Strand) (ecc : Ecc) (w : MicroWord) (eng : Bool) (s : State) : Host.Outcome State Fault Refusal :=
  uStep n ecc w eng (hasAlu 0x06) s
/-- U_SHR (R251). -/
def execUShr (n : Strand) (ecc : Ecc) (w : MicroWord) (eng : Bool) (s : State) : Host.Outcome State Fault Refusal :=
  uStep n ecc w eng (hasAlu 0x07) s
/-- U_SAR (R251). -/
def execUSar (n : Strand) (ecc : Ecc) (w : MicroWord) (eng : Bool) (s : State) : Host.Outcome State Fault Refusal :=
  uStep n ecc w eng (hasAlu 0x08) s
/-- U_MUL (R251). -/
def execUMul (n : Strand) (ecc : Ecc) (w : MicroWord) (eng : Bool) (s : State) : Host.Outcome State Fault Refusal :=
  uStep n ecc w eng (hasAlu 0x09) s
/-- U_MIN (R251). -/
def execUMin (n : Strand) (ecc : Ecc) (w : MicroWord) (eng : Bool) (s : State) : Host.Outcome State Fault Refusal :=
  uStep n ecc w eng (hasAlu 0x0A) s
/-- U_MAX (R251). -/
def execUMax (n : Strand) (ecc : Ecc) (w : MicroWord) (eng : Bool) (s : State) : Host.Outcome State Fault Refusal :=
  uStep n ecc w eng (hasAlu 0x0B) s
/-- U_LI (R251). -/
def execULi (n : Strand) (ecc : Ecc) (w : MicroWord) (eng : Bool) (s : State) : Host.Outcome State Fault Refusal :=
  uStep n ecc w eng (hasAlu 0x0C) s
/-- U_LUI (R251). -/
def execULui (n : Strand) (ecc : Ecc) (w : MicroWord) (eng : Bool) (s : State) : Host.Outcome State Fault Refusal :=
  uStep n ecc w eng (hasAlu 0x0D) s
/-- U_ADDI (R251). -/
def execUAddi (n : Strand) (ecc : Ecc) (w : MicroWord) (eng : Bool) (s : State) : Host.Outcome State Fault Refusal :=
  uStep n ecc w eng (hasAlu 0x0E) s
/-- U_CMP (R251). -/
def execUCmp (n : Strand) (ecc : Ecc) (w : MicroWord) (eng : Bool) (s : State) : Host.Outcome State Fault Refusal :=
  uStep n ecc w eng (hasAlu 0x0F) s
/-- U_LD (R250). -/
def execULd (n : Strand) (ecc : Ecc) (w : MicroWord) (eng : Bool) (s : State) : Host.Outcome State Fault Refusal :=
  uStep n ecc w eng (hasMem 1) s
/-- U_ST (R250). -/
def execUSt (n : Strand) (ecc : Ecc) (w : MicroWord) (eng : Bool) (s : State) : Host.Outcome State Fault Refusal :=
  uStep n ecc w eng (hasMem 2) s
/-- U_LDH (R250). -/
def execULdh (n : Strand) (ecc : Ecc) (w : MicroWord) (eng : Bool) (s : State) : Host.Outcome State Fault Refusal :=
  uStep n ecc w eng (hasMem 3) s
/-- U_STH (R250). -/
def execUSth (n : Strand) (ecc : Ecc) (w : MicroWord) (eng : Bool) (s : State) : Host.Outcome State Fault Refusal :=
  uStep n ecc w eng (hasMem 4) s
/-- U_BRANCH (R250): NX 1; a word without any operation goes on sequentially here too. -/
def execUBranch (n : Strand) (ecc : Ecc) (w : MicroWord) (eng : Bool) (s : State) : Host.Outcome State Fault Refusal :=
  uStep n ecc w eng (fun w => uNx w == 1 || plainWord w) s
/-- U_WAIT_COND (R252): NX 2. -/
def execUWaitCond (n : Strand) (ecc : Ecc) (w : MicroWord) (eng : Bool) (s : State) : Host.Outcome State Fault Refusal :=
  uStep n ecc w eng (fun w => uNx w == 2) s
/-- U_DISPATCH (R253): NX 3. -/
def execUDispatch (n : Strand) (ecc : Ecc) (w : MicroWord) (eng : Bool) (s : State) : Host.Outcome State Fault Refusal :=
  uStep n ecc w eng (fun w => uNx w == 3) s
/-- U_CALL (R250): STK 1. -/
def execUCall (n : Strand) (ecc : Ecc) (w : MicroWord) (eng : Bool) (s : State) : Host.Outcome State Fault Refusal :=
  uStep n ecc w eng (fun w => uStk w == 1) s
/-- U_RETURN (R250): STK 2. -/
def execUReturn (n : Strand) (ecc : Ecc) (w : MicroWord) (eng : Bool) (s : State) : Host.Outcome State Fault Refusal :=
  uStep n ecc w eng (fun w => uStk w == 2) s
/-- U_COMMIT (R250): COMMIT. -/
def execUCommit (n : Strand) (ecc : Ecc) (w : MicroWord) (eng : Bool) (s : State) : Host.Outcome State Fault Refusal :=
  uStep n ecc w eng uCommit s

/-- CONTROL_STORE_UE (R256, R259): fray cause 4, with no restart. -/
def execControlStoreUe (n : Strand) (s : State) : Host.Outcome State Fault Refusal :=
  finSettle (if frayed s n ∨ strState s n = strQuar then s else storeUe s n)

/-! ## The open store's routines -/

/-- CUSTOM (R257). -/
def execCustom (n : Strand) (t : Nat) (s : State) : Host.Outcome State Fault Refusal := finSettle (if anchored s then s else startCustom (stamp s t) n)

/-- CUSTOM_TIMEOUT (R258): an open store routine has run for 250 µs. -/
def execCustomTimeout (n : Strand) (t : Nat) (s : State) : Host.Outcome State Fault Refusal :=
  let x := strandOf s n
  finSettle (if x.routine ≠ 0 ∧ 250 * usCycles + x.routAt ≤ t then customFault (stamp s t) n else s)

/-! ## Frays, splices and tests -/

/-- NO_COMMIT_TIMEOUT (R260): waited cycles of the interval were spent in waits that stop it. -/
def execNoCommitTimeout (n : Strand) (waited t : Nat) (s : State) : Host.Outcome State Fault Refusal := finSettle (noCommit s n waited t)

/-- STRAND_SRAM_UE (R259). -/
def execStrandSramUe (n : Strand) (s : State) : Host.Outcome State Fault Refusal := finSettle (sramUe s n)

/-- SPLICE (R262 to R267): the belay pair splices the fray declared first; unack: the strand does not acknowledge its reset. -/
def execSplice (unack : Bool) (s : State) : Host.Outcome State Fault Refusal := finSettle (if belayUp s then splice s unack else s)

/-- SPARE_RESTORE (R262 step 5). -/
def execSpareRestore (n : Strand) (t : Nat) (s : State) : Host.Outcome State Fault Refusal := finSettle (if anchored s then s else restoreLane (stamp s t) n)

/-- SELFTEST (R269). -/
def execSelftest (n : Strand) (s : State) : Host.Outcome State Fault Refusal := finSettle (if anchored s then s else startTest s n)

/-- SELFTEST_DONE (R268, R269, R271): part is 0 for a pass, else the part that failed. -/
def execSelftestDone (n : Strand) (part : Nat) (sig : Word32) (s : State) : Host.Outcome State Fault Refusal :=
  finSettle (testDone s n part sig.toNat)

/-- SPARE_SELFTEST_TIMER (R270). -/
def execSpareSelftestTimer (t : Nat) (s : State) : Host.Outcome State Fault Refusal := finSettle (spareTests s t)

/-! ## Register writes -/

/-- STR_RESET (R273). -/
def execStrReset (n : Strand) (v : Word32) (s : State) : Host.Outcome State Fault Refusal := answered s <|
  finSettle (strReset s n v.toNat)

/-- STR_QUAR_SET (R268, R274). -/
def execStrQuarSet (v : Word32) (s : State) : Host.Outcome State Fault Refusal := answered s <|
  finSettle (strQuarSet s v.toNat)

/-- STR_READMIT (R268). -/
def execStrReadmit (v : Word32) (s : State) : Host.Outcome State Fault Refusal := answered s <|
  finSettle (strReadmit s v.toNat)

/-- STR_TEST_REQ (R269). -/
def execStrTestReq (v : Word32) (s : State) : Host.Outcome State Fault Refusal := answered s <|
  finSettle (strTestReq s v.toNat)

/-- STR_POOL_WRITE (R236, R237). -/
def execStrPoolWrite (v : Word32) (s : State) : Host.Outcome State Fault Refusal := answered s <|
  finSettle (strPoolWrite s v.toNat)

/-- OS_DATA2_WRITE (R255). -/
def execOsData2Write (v : Word32) (s : State) : Host.Outcome State Fault Refusal := answered s <|
  finSettle (osData2 s v.toNat)

end Sys2Proof.Machine
end

