-- ==== Sys2Proof/Machine/Dispatch.lean ====
section
/-! DEFINITION. One arm for each command: the meaning it calls. -/

namespace Sys2Proof.Machine

/-- The effect of a command on everything but the queue. -/
def exec (i : Instr) (s : State) : Host.Outcome State Fault Refusal :=
  match i with
  | .accessSizeError win write off lanes => Sys2Proof.Machine.execAccessSizeError win write off lanes s
  | .accessUnmapped win write x => Sys2Proof.Machine.execAccessUnmapped win write x s
  | .registerWrite a v => Sys2Proof.Machine.execRegisterWrite a v s
  | .readClear a => Sys2Proof.Machine.execReadClear a s
  | .powerOn => Sys2Proof.Machine.execPowerOn s
  | .resetNAssert ns takes => Sys2Proof.Machine.execResetNAssert ns takes s
  | .internalResetRelease sel => Sys2Proof.Machine.execInternalResetRelease sel s
  | .aonBrownOut => Sys2Proof.Machine.execAonBrownOut s
  | .supplyOor => Sys2Proof.Machine.execSupplyOor s
  | .clkFail => Sys2Proof.Machine.execClkFail s
  | .aonRstCtl v => Sys2Proof.Machine.execAonRstCtl v s
  | .bootAttempt flash key sig gcm trained b0 b1 tests => Sys2Proof.Machine.execBootAttempt flash key sig gcm trained b0 b1 tests s
  | .bootTimeout t => Sys2Proof.Machine.execBootTimeout t s
  | .aonBootData v => Sys2Proof.Machine.execAonBootData v s
  | .aonBootGo x => Sys2Proof.Machine.execAonBootGo x s
  | .aonBootRetry v => Sys2Proof.Machine.execAonBootRetry v s
  | .b0Ready t => Sys2Proof.Machine.execB0Ready t s
  | .clockGate b refused t => Sys2Proof.Machine.execClockGate b refused t s
  | .blockWake b t => Sys2Proof.Machine.execBlockWake b t s
  | .wakeNFall => Sys2Proof.Machine.execWakeNFall s
  | .perstNRise => Sys2Proof.Machine.execPerstNRise s
  | .wakeTimerExpiry t => Sys2Proof.Machine.execWakeTimerExpiry t s
  | .thermalHot d => Sys2Proof.Machine.execThermalHot d s
  | .thermalCrit d => Sys2Proof.Machine.execThermalCrit d s
  | .hostLinkDown => Sys2Proof.Machine.execHostLinkDown s
  | .freeRunTick t => Sys2Proof.Machine.execFreeRunTick t s
  | .tickInEdge rise d => Sys2Proof.Machine.execTickInEdge rise d s
  | .holdoverTick t => Sys2Proof.Machine.execHoldoverTick t s
  | .genlockEdge err rise => Sys2Proof.Machine.execGenlockEdge err rise s
  | .genlockTick t => Sys2Proof.Machine.execGenlockTick t s
  | .genlockEdgeMissing t => Sys2Proof.Machine.execGenlockEdgeMissing t s
  | .tickRateDenWrite v => Sys2Proof.Machine.execTickRateDenWrite v s
  | .tickNoLoad v => Sys2Proof.Machine.execTickNoLoad v s
  | .tickNoLoRead p => Sys2Proof.Machine.execTickNoLoRead p s
  | .tickNoHiRead p => Sys2Proof.Machine.execTickNoHiRead p s
  | .tickAdmLimitWrite v => Sys2Proof.Machine.execTickAdmLimitWrite v s
  | .admission => Sys2Proof.Machine.execAdmission s
  | .modeRequest v t => Sys2Proof.Machine.execModeRequest v t s
  | .csi2FrameStart n burst hdr vc t => Sys2Proof.Machine.execCsi2FrameStart n burst hdr vc t s
  | .csi2FrameEnd n burst hdr vc => Sys2Proof.Machine.execCsi2FrameEnd n burst hdr vc s
  | .csi2LongPacket n burst hdr vc dt payload crcOk => Sys2Proof.Machine.execCsi2LongPacket n burst hdr vc dt payload crcOk s
  | .csi2ShortPacketIgnored n burst hdr vc => Sys2Proof.Machine.execCsi2ShortPacketIgnored n burst hdr vc s
  | .csi2PacketDiscarded n burst hdr => Sys2Proof.Machine.execCsi2PacketDiscarded n burst hdr s
  | .fifoDrain n ecc data => Sys2Proof.Machine.execFifoDrain n ecc data s
  | .lockedRegisterWrite off v => Sys2Proof.Machine.execLockedRegisterWrite off v s
  | .stagedRegisterWrite off v => Sys2Proof.Machine.execStagedRegisterWrite off v s
  | .lutDataWrite v w => Sys2Proof.Machine.execLutDataWrite v w s
  | .viewFrameDone v part tick => Sys2Proof.Machine.execViewFrameDone v part tick s
  | .moFrameStart m t => Sys2Proof.Machine.execMoFrameStart m t s
  | .quantumExpiry q => Sys2Proof.Machine.execQuantumExpiry q s
  | .storeBufferDrain q => Sys2Proof.Machine.execStoreBufferDrain q s
  | .add q ecc rd ra rb => Sys2Proof.Machine.execAdd q ecc rd ra rb s
  | .sub q ecc rd ra rb => Sys2Proof.Machine.execSub q ecc rd ra rb s
  | .and q ecc rd ra rb => Sys2Proof.Machine.execAnd q ecc rd ra rb s
  | .or q ecc rd ra rb => Sys2Proof.Machine.execOr q ecc rd ra rb s
  | .xor q ecc rd ra rb => Sys2Proof.Machine.execXor q ecc rd ra rb s
  | .shl q ecc rd ra rb => Sys2Proof.Machine.execShl q ecc rd ra rb s
  | .shr q ecc rd ra rb => Sys2Proof.Machine.execShr q ecc rd ra rb s
  | .sar q ecc rd ra rb => Sys2Proof.Machine.execSar q ecc rd ra rb s
  | .slt q ecc rd ra rb => Sys2Proof.Machine.execSlt q ecc rd ra rb s
  | .sltu q ecc rd ra rb => Sys2Proof.Machine.execSltu q ecc rd ra rb s
  | .mul q ecc rd ra rb => Sys2Proof.Machine.execMul q ecc rd ra rb s
  | .mulhu q ecc rd ra rb => Sys2Proof.Machine.execMulhu q ecc rd ra rb s
  | .min q ecc rd ra rb => Sys2Proof.Machine.execMin q ecc rd ra rb s
  | .max q ecc rd ra rb => Sys2Proof.Machine.execMax q ecc rd ra rb s
  | .minu q ecc rd ra rb => Sys2Proof.Machine.execMinu q ecc rd ra rb s
  | .maxu q ecc rd ra rb => Sys2Proof.Machine.execMaxu q ecc rd ra rb s
  | .sextb q ecc rd ra => Sys2Proof.Machine.execSextb q ecc rd ra s
  | .sexth q ecc rd ra => Sys2Proof.Machine.execSexth q ecc rd ra s
  | .sextw q ecc rd ra => Sys2Proof.Machine.execSextw q ecc rd ra s
  | .zextw q ecc rd ra => Sys2Proof.Machine.execZextw q ecc rd ra s
  | .jr q ecc rd ra => Sys2Proof.Machine.execJr q ecc rd ra s
  | .clz q ecc rd ra => Sys2Proof.Machine.execClz q ecc rd ra s
  | .addi q ecc rd ra imm => Sys2Proof.Machine.execAddi q ecc rd ra imm s
  | .andi q ecc rd ra imm => Sys2Proof.Machine.execAndi q ecc rd ra imm s
  | .ori q ecc rd ra imm => Sys2Proof.Machine.execOri q ecc rd ra imm s
  | .xori q ecc rd ra imm => Sys2Proof.Machine.execXori q ecc rd ra imm s
  | .slti q ecc rd ra imm => Sys2Proof.Machine.execSlti q ecc rd ra imm s
  | .sltiu q ecc rd ra imm => Sys2Proof.Machine.execSltiu q ecc rd ra imm s
  | .lui q ecc rd imm => Sys2Proof.Machine.execLui q ecc rd imm s
  | .rds q ecc rd reg t => Sys2Proof.Machine.execRds q ecc rd reg t s
  | .shli q ecc rd ra sh => Sys2Proof.Machine.execShli q ecc rd ra sh s
  | .shri q ecc rd ra sh => Sys2Proof.Machine.execShri q ecc rd ra sh s
  | .sari q ecc rd ra sh => Sys2Proof.Machine.execSari q ecc rd ra sh s
  | .ld q ecc rd base sz off => Sys2Proof.Machine.execLd q ecc rd base sz off s
  | .st q ecc rs base sz off => Sys2Proof.Machine.execSt q ecc rs base sz off s
  | .ldw q ecc rd base sz off ue t => Sys2Proof.Machine.execLdw q ecc rd base sz off ue t s
  | .stw q ecc rs base sz off t => Sys2Proof.Machine.execStw q ecc rs base sz off t s
  | .amoadd q ecc rd ra rb dbl => Sys2Proof.Machine.execAmoadd q ecc rd ra rb dbl s
  | .amoswap q ecc rd ra rb dbl => Sys2Proof.Machine.execAmoswap q ecc rd ra rb dbl s
  | .cas q ecc rd ra rb dbl => Sys2Proof.Machine.execCas q ecc rd ra rb dbl s
  | .fence q ecc => Sys2Proof.Machine.execFence q ecc s
  | .beqz q ecc ra off => Sys2Proof.Machine.execBeqz q ecc ra off s
  | .bnez q ecc ra off => Sys2Proof.Machine.execBnez q ecc ra off s
  | .bltz q ecc ra off => Sys2Proof.Machine.execBltz q ecc ra off s
  | .bgez q ecc ra off => Sys2Proof.Machine.execBgez q ecc ra off s
  | .bgtz q ecc ra off => Sys2Proof.Machine.execBgtz q ecc ra off s
  | .blez q ecc ra off => Sys2Proof.Machine.execBlez q ecc ra off s
  | .jal q ecc ra off => Sys2Proof.Machine.execJal q ecc ra off s
  | .issue q ecc rd ra ue t => Sys2Proof.Machine.execIssue q ecc rd ra ue t s
  | .move q ecc rd ra chan => Sys2Proof.Machine.execMove q ecc rd ra chan s
  | .spool q ecc rd ra sel ue t => Sys2Proof.Machine.execSpool q ecc rd ra sel ue t s
  | .sig q ecc rd ra src => Sys2Proof.Machine.execSig q ecc rd ra src s
  | .waitTick q ecc rd ra poll => Sys2Proof.Machine.execWaitTick q ecc rd ra poll s
  | .waitTag q ecc rd ra poll => Sys2Proof.Machine.execWaitTag q ecc rd ra poll s
  | .waitTimer q ecc rd ra poll => Sys2Proof.Machine.execWaitTimer q ecc rd ra poll s
  | .waitEdge q ecc rd ra poll => Sys2Proof.Machine.execWaitEdge q ecc rd ra poll s
  | .waitDoorbell q ecc rd ra poll => Sys2Proof.Machine.execWaitDoorbell q ecc rd ra poll s
  | .tsetCancel q ecc rd ra tm => Sys2Proof.Machine.execTsetCancel q ecc rd ra tm s
  | .tsetOneshot q ecc rd ra tm t => Sys2Proof.Machine.execTsetOneshot q ecc rd ra tm t s
  | .tsetPeriodic q ecc rd ra tm t => Sys2Proof.Machine.execTsetPeriodic q ecc rd ra tm t s
  | .tsetTickOneshot q ecc rd ra tm => Sys2Proof.Machine.execTsetTickOneshot q ecc rd ra tm s
  | .tsetTickPeriodic q ecc rd ra tm => Sys2Proof.Machine.execTsetTickPeriodic q ecc rd ra tm s
  | .tgetNs q ecc rd ra tm t => Sys2Proof.Machine.execTgetNs q ecc rd ra tm t s
  | .tgetPending q ecc rd ra tm => Sys2Proof.Machine.execTgetPending q ecc rd ra tm s
  | .tgetLost q ecc rd ra tm => Sys2Proof.Machine.execTgetLost q ecc rd ra tm s
  | .earmArm q ecc rd ra det edges once => Sys2Proof.Machine.execEarmArm q ecc rd ra det edges once s
  | .earmDisarm q ecc rd ra det once => Sys2Proof.Machine.execEarmDisarm q ecc rd ra det once s
  | .halt q ecc imm => Sys2Proof.Machine.execHalt q ecc imm s
  | .timerExpiry p tm t => Sys2Proof.Machine.execTimerExpiry p tm t s
  | .edgeCapture p det rise t => Sys2Proof.Machine.execEdgeCapture p det rise t s
  | .programDoorbell p k => Sys2Proof.Machine.execProgramDoorbell p k s
  | .jobStart n t => Sys2Proof.Machine.execJobStart n t s
  | .encRow n hits upset ce => Sys2Proof.Machine.execEncRow n hits upset ce s
  | .decRow x => Sys2Proof.Machine.execDecRow x s
  | .echoJob x => Sys2Proof.Machine.execEchoJob x s
  | .loadctx n => Sys2Proof.Machine.execLoadctx n s
  | .savectx n => Sys2Proof.Machine.execSavectx n s
  | .selftest n => Sys2Proof.Machine.execSelftest n s
  | .custom n t => Sys2Proof.Machine.execCustom n t s
  | .uAdd n ecc w eng => Sys2Proof.Machine.execUAdd n ecc w eng s
  | .uSub n ecc w eng => Sys2Proof.Machine.execUSub n ecc w eng s
  | .uAnd n ecc w eng => Sys2Proof.Machine.execUAnd n ecc w eng s
  | .uOr n ecc w eng => Sys2Proof.Machine.execUOr n ecc w eng s
  | .uXor n ecc w eng => Sys2Proof.Machine.execUXor n ecc w eng s
  | .uShl n ecc w eng => Sys2Proof.Machine.execUShl n ecc w eng s
  | .uShr n ecc w eng => Sys2Proof.Machine.execUShr n ecc w eng s
  | .uSar n ecc w eng => Sys2Proof.Machine.execUSar n ecc w eng s
  | .uMul n ecc w eng => Sys2Proof.Machine.execUMul n ecc w eng s
  | .uMin n ecc w eng => Sys2Proof.Machine.execUMin n ecc w eng s
  | .uMax n ecc w eng => Sys2Proof.Machine.execUMax n ecc w eng s
  | .uLi n ecc w eng => Sys2Proof.Machine.execULi n ecc w eng s
  | .uLui n ecc w eng => Sys2Proof.Machine.execULui n ecc w eng s
  | .uAddi n ecc w eng => Sys2Proof.Machine.execUAddi n ecc w eng s
  | .uCmp n ecc w eng => Sys2Proof.Machine.execUCmp n ecc w eng s
  | .uLd n ecc w eng => Sys2Proof.Machine.execULd n ecc w eng s
  | .uSt n ecc w eng => Sys2Proof.Machine.execUSt n ecc w eng s
  | .uLdh n ecc w eng => Sys2Proof.Machine.execULdh n ecc w eng s
  | .uSth n ecc w eng => Sys2Proof.Machine.execUSth n ecc w eng s
  | .uBranch n ecc w eng => Sys2Proof.Machine.execUBranch n ecc w eng s
  | .uWaitCond n ecc w eng => Sys2Proof.Machine.execUWaitCond n ecc w eng s
  | .uDispatch n ecc w eng => Sys2Proof.Machine.execUDispatch n ecc w eng s
  | .uCall n ecc w eng => Sys2Proof.Machine.execUCall n ecc w eng s
  | .uReturn n ecc w eng => Sys2Proof.Machine.execUReturn n ecc w eng s
  | .uCommit n ecc w eng => Sys2Proof.Machine.execUCommit n ecc w eng s
  | .rowCommit n writes waited => Sys2Proof.Machine.execRowCommit n writes waited s
  | .echoCheckDone x => Sys2Proof.Machine.execEchoCheckDone x s
  | .noCommitTimeout n waited t => Sys2Proof.Machine.execNoCommitTimeout n waited t s
  | .strandSramUe n => Sys2Proof.Machine.execStrandSramUe n s
  | .controlStoreUe n => Sys2Proof.Machine.execControlStoreUe n s
  | .customTimeout n t => Sys2Proof.Machine.execCustomTimeout n t s
  | .splice unack => Sys2Proof.Machine.execSplice unack s
  | .spareRestore n t => Sys2Proof.Machine.execSpareRestore n t s
  | .selftestDone n part sig => Sys2Proof.Machine.execSelftestDone n part sig s
  | .spareSelftestTimer t => Sys2Proof.Machine.execSpareSelftestTimer t s
  | .strReset n v => Sys2Proof.Machine.execStrReset n v s
  | .strQuarSet v => Sys2Proof.Machine.execStrQuarSet v s
  | .strReadmit v => Sys2Proof.Machine.execStrReadmit v s
  | .strTestReq v => Sys2Proof.Machine.execStrTestReq v s
  | .strPoolWrite v => Sys2Proof.Machine.execStrPoolWrite v s
  | .osData2Write v => Sys2Proof.Machine.execOsData2Write v s
  | .install p r id => Sys2Proof.Machine.execInstall p r id s
  | .installImageLoaded q => Sys2Proof.Machine.execInstallImageLoaded q s
  | .swap p r id => Sys2Proof.Machine.execSwap p r id s
  | .restart p r id => Sys2Proof.Machine.execRestart p r id s
  | .nop p r id => Sys2Proof.Machine.execNop p r id s
  | .seqMigReq v => Sys2Proof.Machine.execSeqMigReq v s
  | .seqOnlineRequest v => Sys2Proof.Machine.execSeqOnlineRequest v s
  | .seqTestReq v => Sys2Proof.Machine.execSeqTestReq v s
  | .seqTestDone pass => Sys2Proof.Machine.execSeqTestDone pass s
  | .sqDoorbell p r => Sys2Proof.Machine.execSqDoorbell p r s
  | .ringService p r => Sys2Proof.Machine.execRingService p r s
  | .sqEnable p r => Sys2Proof.Machine.execSqEnable p r s
  | .sqDisable p r => Sys2Proof.Machine.execSqDisable p r s
  | .cqEnable p r => Sys2Proof.Machine.execCqEnable p r s
  | .cqDisable p r => Sys2Proof.Machine.execCqDisable p r s
  | .cqHeadWrite p r v => Sys2Proof.Machine.execCqHeadWrite p r v s
  | .hubRaise src => Sys2Proof.Machine.execHubRaise src s
  | .hubPendSet src => Sys2Proof.Machine.execHubPendSet src s
  | .hubPendClr src => Sys2Proof.Machine.execHubPendClr src s
  | .hubMaskSet src => Sys2Proof.Machine.execHubMaskSet src s
  | .hubMaskClr src => Sys2Proof.Machine.execHubMaskClr src s
  | .hubAssign src => Sys2Proof.Machine.execHubAssign src s
  | .hubClaim tgt => Sys2Proof.Machine.execHubClaim tgt s
  | .hubEoi tgt src => Sys2Proof.Machine.execHubEoi tgt src s
  | .hubRouteWrite src v => Sys2Proof.Machine.execHubRouteWrite src v s
  | .hubTgtCtlWrite tgt v => Sys2Proof.Machine.execHubTgtCtlWrite tgt v s
  | .seqTargetClaim q => Sys2Proof.Machine.execSeqTargetClaim q s
  | .belayClaim => Sys2Proof.Machine.execBelayClaim s
  | .msixVectorUnmask p vec => Sys2Proof.Machine.execMsixVectorUnmask p vec s
  | .pwHubRaise p src => Sys2Proof.Machine.execPwHubRaise p src s
  | .pwHubPendClr p src => Sys2Proof.Machine.execPwHubPendClr p src s
  | .pwHubMaskSet p src => Sys2Proof.Machine.execPwHubMaskSet p src s
  | .pwHubMaskClr p src => Sys2Proof.Machine.execPwHubMaskClr p src s
  | .pwHubClaim p => Sys2Proof.Machine.execPwHubClaim p s
  | .pwHubEoi p src => Sys2Proof.Machine.execPwHubEoi p src s
  | .walkReadDone p page ok entry => Sys2Proof.Machine.execWalkReadDone p page ok entry s
  | .iomInvCmd v => Sys2Proof.Machine.execIomInvCmd v s
  | .invalidationDone => Sys2Proof.Machine.execInvalidationDone s
  | .iomRootWrite p hi v => Sys2Proof.Machine.execIomRootWrite p hi v s
  | .pwFqPop p => Sys2Proof.Machine.execPwFqPop p s
  | .prtFsSizeWrite p v => Sys2Proof.Machine.execPrtFsSizeWrite p v s
  | .prtSsmWrite p v => Sys2Proof.Machine.execPrtSsmWrite p v s
  | .prtShareWrite p v => Sys2Proof.Machine.execPrtShareWrite p v s
  | .prtPreset v => Sys2Proof.Machine.execPrtPreset v s
  | .functionLevelReset p => Sys2Proof.Machine.execFunctionLevelReset p s
  | .vfEnableClear n => Sys2Proof.Machine.execVfEnableClear n s
  | .mvStart p r id => Sys2Proof.Machine.execMvStart p r id s
  | .mvStop p r id => Sys2Proof.Machine.execMvStop p r id s
  | .poolAlloc p r id => Sys2Proof.Machine.execPoolAlloc p r id s
  | .poolRelease p r id => Sys2Proof.Machine.execPoolRelease p r id s
  | .mvMove c => Sys2Proof.Machine.execMvMove c s
  | .mvLoop c => Sys2Proof.Machine.execMvLoop c s
  | .mvWaitTick c t => Sys2Proof.Machine.execMvWaitTick c t s
  | .mvWaitSsm c t => Sys2Proof.Machine.execMvWaitSsm c t s
  | .mvWaitTimeout c t => Sys2Proof.Machine.execMvWaitTimeout c t s
  | .mvSignal c => Sys2Proof.Machine.execMvSignal c s
  | .moverBusError addr => Sys2Proof.Machine.execMoverBusError addr s
  | .movRestart v => Sys2Proof.Machine.execMovRestart v s
  | .movRestartDone => Sys2Proof.Machine.execMovRestartDone s
  | .poolInit => Sys2Proof.Machine.execPoolInit s
  | .poolInitDone essOrder genOrder => Sys2Proof.Machine.execPoolInitDone essOrder genOrder s
  | .poolAllocate ess holder => Sys2Proof.Machine.execPoolAllocate ess holder s
  | .poolIncrement buf holder => Sys2Proof.Machine.execPoolIncrement buf holder s
  | .poolDecrement buf holder => Sys2Proof.Machine.execPoolDecrement buf holder s
  | .dramRequestDone port unit addr write since t ce ue => Sys2Proof.Machine.execDramRequestDone port unit addr write since t ce ue s
  | .urgencyEscalate port addr write since t => Sys2Proof.Machine.execUrgencyEscalate port addr write since t s
  | .refreshDue chan bank waiting => Sys2Proof.Machine.execRefreshDue chan bank waiting s
  | .dqsTracking t => Sys2Proof.Machine.execDqsTracking t s
  | .mr4Read codes => Sys2Proof.Machine.execMr4Read codes s
  | .drcFreqSet set => Sys2Proof.Machine.execDrcFreqSet set s
  | .drcFreqForce set => Sys2Proof.Machine.execDrcFreqForce set s
  | .drcFreqCancel => Sys2Proof.Machine.execDrcFreqCancel s
  | .freqChangeDone relocked t => Sys2Proof.Machine.execFreqChangeDone relocked t s
  | .drcTrain v => Sys2Proof.Machine.execDrcTrain v s
  | .trainingDone ok => Sys2Proof.Machine.execTrainingDone ok s
  | .drcPortTgtWrite port v => Sys2Proof.Machine.execDrcPortTgtWrite port v s
  | .drcTsetWrite set reg v => Sys2Proof.Machine.execDrcTsetWrite set reg v s
  | .magOpen p r id => Sys2Proof.Machine.execMagOpen p r id s
  | .magClose p r id => Sys2Proof.Machine.execMagClose p r id s
  | .magFormat p r id => Sys2Proof.Machine.execMagFormat p r id s
  | .hostioRead p r id => Sys2Proof.Machine.execHostioRead p r id s
  | .hostioWrite p r id => Sys2Proof.Machine.execHostioWrite p r id s
  | .writeFrame q t => Sys2Proof.Machine.execWriteFrame q t s
  | .discard q t => Sys2Proof.Machine.execDiscard q t s
  | .readFrame q t => Sys2Proof.Machine.execReadFrame q t s
  | .readBlocks q t => Sys2Proof.Machine.execReadBlocks q t s
  | .trim q t => Sys2Proof.Machine.execTrim q t s
  | .schedulerSlot n t => Sys2Proof.Machine.execSchedulerSlot n t s
  | .nvmeCompletion n cid sc sct dw0 data t => Sys2Proof.Machine.execNvmeCompletion n cid sc sct dw0 data t s
  | .nvmeCommandTimeout n cid t => Sys2Proof.Machine.execNvmeCommandTimeout n cid t s
  | .abortTimeout n cid t => Sys2Proof.Machine.execAbortTimeout n cid t s
  | .smartPoll n t => Sys2Proof.Machine.execSmartPoll n t s
  | .magLinkDown n t => Sys2Proof.Machine.execMagLinkDown n t s
  | .linkRetrain n up t => Sys2Proof.Machine.execLinkRetrain n up t s
  | .magLinkUp n t => Sys2Proof.Machine.execMagLinkUp n t s
  | .holdWindowExpiry n t => Sys2Proof.Machine.execHoldWindowExpiry n t s
  | .magDropRequest n v => Sys2Proof.Machine.execMagDropRequest n v s
  | .magQShapeWrite n q v t => Sys2Proof.Machine.execMagQShapeWrite n q v t s
  | .magQBurstWrite n q v t => Sys2Proof.Machine.execMagQBurstWrite n q v t s
  | .presenceAssert n t => Sys2Proof.Machine.execPresenceAssert n t s
  | .presenceRemove n t => Sys2Proof.Machine.execPresenceRemove n t s
  | .sbdCtlWrite n v => Sys2Proof.Machine.execSbdCtlWrite n v s
  | .sbdI2cDone n nak data t => Sys2Proof.Machine.execSbdI2cDone n nak data t s
  | .sbdI2cRetry n t => Sys2Proof.Machine.execSbdI2cRetry n t s
  | .gaugeEvaluate n => Sys2Proof.Machine.execGaugeEvaluate n s
  | .gaugeRestComplete n => Sys2Proof.Machine.execGaugeRestComplete n s
  | .labelGo n v => Sys2Proof.Machine.execLabelGo n v s
  | .labelBusyPoll n busy t => Sys2Proof.Machine.execLabelBusyPoll n busy t s
  | .fltStatClear w v => Sys2Proof.Machine.execFltStatClear w v s
  | .fltForce w v => Sys2Proof.Machine.execFltForce w v s
  | .injArmFirst t => Sys2Proof.Machine.execInjArmFirst t s
  | .injArmSecond t => Sys2Proof.Machine.execInjArmSecond t s
  | .injDisarm v => Sys2Proof.Machine.execInjDisarm v s
  | .injArmTimeout t => Sys2Proof.Machine.execInjArmTimeout t s
  | .injUnit j bytes t => Sys2Proof.Machine.execInjUnit j bytes t s
  | .injReorderTimeout j t => Sys2Proof.Machine.execInjReorderTimeout j t s
  | .belayHeartbeat c t => Sys2Proof.Machine.execBelayHeartbeat c t s
  | .belaySilent c t e => Sys2Proof.Machine.execBelaySilent c t e s
  | .belayResetDone c pass t => Sys2Proof.Machine.execBelayResetDone c pass t s
  | .belayResetTimeout c t => Sys2Proof.Machine.execBelayResetTimeout c t s
  | .belaySwitch => Sys2Proof.Machine.execBelaySwitch s
  | .belayTest t => Sys2Proof.Machine.execBelayTest t s
  | .belayTestDone pass t => Sys2Proof.Machine.execBelayTestDone pass t s
  | .belayResetRequest t => Sys2Proof.Machine.execBelayResetRequest t s
  | .anchorAct t => Sys2Proof.Machine.execAnchorAct t s
  | .anchorAbortTimeout n t => Sys2Proof.Machine.execAnchorAbortTimeout n t s
  | .lanyardToggle t => Sys2Proof.Machine.execLanyardToggle t s
  | .pinGlCfgWrite n v t => Sys2Proof.Machine.execPinGlCfgWrite n v t s
  | .pinGlStageWrite n v => Sys2Proof.Machine.execPinGlStageWrite n v s
  | .switchSettleEnd n t => Sys2Proof.Machine.execSwitchSettleEnd n t s
  | .pinGlOwnerWrite n v => Sys2Proof.Machine.execPinGlOwnerWrite n v s
  | .pinLtcCtlWrite v => Sys2Proof.Machine.execPinLtcCtlWrite v s
  | .syncOutPulseEnd n t => Sys2Proof.Machine.execSyncOutPulseEnd n t s
  | .tickOutFall n t => Sys2Proof.Machine.execTickOutFall n t s
  | .ltcRxFrame data sync => Sys2Proof.Machine.execLtcRxFrame data sync s
  | .ltcTxFrameTimer t => Sys2Proof.Machine.execLtcTxFrameTimer t s
  | .uartRxByte u b => Sys2Proof.Machine.execUartRxByte u b s
  | .uartTxByte u => Sys2Proof.Machine.execUartTxByte u s
  | .pinUartDataWrite u v => Sys2Proof.Machine.execPinUartDataWrite u v s
  | .pinUartDataRead u => Sys2Proof.Machine.execPinUartDataRead u s
  | .pinI2cCmd b v => Sys2Proof.Machine.execPinI2cCmd b v s
  | .auxI2cDone b nak data => Sys2Proof.Machine.execAuxI2cDone b nak data s
  | .hostLinkUp => Sys2Proof.Machine.execHostLinkUp s
  | .junctionBelow100c d => Sys2Proof.Machine.execJunctionBelow100c d s
  | .railInRange => Sys2Proof.Machine.execRailInRange s
  | .clockRestored => Sys2Proof.Machine.execClockRestored s
  | .vfEnableSet n => Sys2Proof.Machine.execVfEnableSet n s
  | .cstsCfsSet n t => Sys2Proof.Machine.execCstsCfsSet n t s
  | .cstsRdySet n mqes mpsmin t => Sys2Proof.Machine.execCstsRdySet n mqes mpsmin t s
  | .cstsRdyTimeout n t => Sys2Proof.Machine.execCstsRdyTimeout n t s
  | .gaugeSample n v j => Sys2Proof.Machine.execGaugeSample n v j s
  | .hostReadCompletion op ok data t => Sys2Proof.Machine.execHostReadCompletion op ok data t s

end Sys2Proof.Machine
end

