-- ==== Sys2Proof/Safety.lean ====
section
/-! DEFINITION. What counts as a sound state of the block, in the terms the statements use: the canonical form of the register store
and of both byte memories, and what it means that nothing is in hand that goes on by itself. -/

namespace Sys2Proof.Machine

/-- The cells of the register store stand with their keys strictly rising, so each field has at most one value. -/
def regsRise (r : List RegCell) : Prop := r.Pairwise fun a b => a.key < b.key

/-- The canonical form: one value for each register field, and both byte memories sorted with no zero byte listed. Equal register
files and equal memories are then equal data. -/
def State.Canonical (s : State) : Prop := regsRise s.regs ∧ Memory.wf s.fs = true ∧ Memory.wf s.ssm = true

/-- Nothing in hand can go on by itself: every host access waits for a walk, a completion or its turn, or the link is down; no mover
channel waits for writes that have completed; every magazine operation waits; the anchor is not acting; no clip is being whipped; no
recording mode is being drained; no partition reset waits for whips, and DORMANT is not being entered. -/
def AtRest (s : State) : Prop :=
  (s.host.up = true → opNext s s.host.ops [] = none) ∧
  (∀ c < 16, chWriting s c = true ∨ (chOf s c).hold = 0) ∧
  magNext s = none ∧
  get s R.FLT_ANC_STAT_STATE ≠ 1 ∧
  (∀ c ∈ s.mags.clips, c.whip = 0) ∧
  get s R.GLB_MODE_STATE ≠ 2 ∧
  (∀ p < 8, (partOf s p).rst ≠ 2) ∧
  s.sup.dormAt = none

/-- Command i completes in s with effect u: what u lets go on then goes on, and the command answers the state that this leaves. -/
def Completes (i : Instr) (s u : State) : Prop := exec i s = .next (settle u)

/-- Sequencer q runs program p, which is not stalled and has cycles left in its quantum, the word at its PC is w, and 24,000 cycles have
passed since the tick event: the instruction that w encodes can be carried out (R279, R280, R290). -/
def Fetches (s : State) (q p w : Nat) : Prop :=
  s.tick.last + 24000 ≤ s.clk ∧ (seqOf s q).cur = some p ∧ (pairOf s q p).stall = none ∧ (seqOf s q).quantum < 512 ∧
  ∃ i, activeImage s q p = some i ∧ (pairOf s q p).pc < hdrCode i ∧ codeWord i (pairOf s q p).pc = w

/-- The commands that may change the tick number: the four that make a tick event (R29), and those that reset the block or let it boot
again, where it is restored: among them a write of AON_BOOT_CTL with RETRY, and TEST_EN going high. -/
def movesTick : Instr → Bool
  | .freeRunTick _ => true
  | .tickInEdge _ _ => true
  | .holdoverTick _ => true
  | .genlockTick _ => true
  | .powerOn => true
  | .resetNAssert _ _ => true
  | .aonBrownOut => true
  | .aonRstCtl _ => true
  | .aonBootRetry _ => true
  | .aonBootGo x => bitAt x.val.toNat 4
  | .registerWrite (.test .enable) v => bitAt v.toNat 0
  | .bootAttempt _ _ _ _ _ _ _ _ => true
  | .bootTimeout _ => true
  | .wakeNFall => true
  | .perstNRise => true
  | .wakeTimerExpiry _ => true
  | _ => false

end Sys2Proof.Machine
end

