-- ==== Sys2Proof/Certificates/Slice0/Obligations.lean ====
section
/-! DEFINITION. The statements for the provers. Those that give the next state of a command write it out field by field wherever the
rules do, so that each says at once what the command does and that it does nothing else; `put s f v` is s with field f holding v
(FieldReadsBackAndLeavesTheOthers). -/

open Sys2Proof Sys2Proof.Machine

/-! ## The block as a whole -/

/-- For every command c and state s: one step with c at the front of the queue is exec of c on s, the queue's rest left in
place. -/
def Obligations.StepCarriesOutTheFrontCommand : Prop :=
  ∀ (c : Instr) (s : State), Sys2Proof.core.step { s with pending := c :: s.pending } = exec c s

/-- Whatever the command at the front, after a step that answers a next state the queue holds the commands that stood behind it,
in their order: no command adds, drops or reorders waiting commands. -/
def Obligations.StepTakesOneCommandFromTheQueue : Prop :=
  ∀ (c : Instr) (rest : List Instr) (s t : State), s.pending = c :: rest → step s = .next t → t.pending = rest

/-- Every command of the table has a meaning that runs: for every command with every operand and every state, exec answers a
next state, so never a fault and never a refusal. What that state is, the statements of each family say. -/
def Obligations.NoCommandIsRefused : Prop :=
  (∀ (c : Instr) (s : State), ∃ t : State, exec c s = .next t) ∧ ∀ (c : Instr) (s : State) (r : Refusal), exec c s ≠ .refused r

/-- At State.reset the identity registers read as R19 gives them (GLB_ID 0x0021_8840, GLB_VENDOR 0x5D8A), the mode is BOOT, the
tick number is 0, the hub routes every device source to T0 and partition p's source k to Tp with vector k, the queue shapers of
M0 hold the rates of R467, and the frame rate in force is 24/1. -/
def Obligations.ResetShowsTheStatedValues : Prop :=
  readWord State.reset 0x0000 = 0x00218840 ∧ readWord State.reset 0x0004 = 0x5D8A ∧ modeOf State.reset = modeBOOT ∧
  State.reset.tick.no = 0 ∧ (State.reset.tick.num, State.reset.tick.den) = (24, 1) ∧
  (∀ src : Nat, 1 ≤ src → src < 0x100 → get State.reset (R.HUB_ROUTE_TGT src) = 1 ∧ get State.reset (R.HUB_ROUTE_VEC src) = 0) ∧
  (∀ p k : Nat, p < 8 → k < 32 →
    get State.reset (R.HUB_ROUTE_TGT (partSource p k)) = 2 ^ p ∧ get State.reset (R.HUB_ROUTE_VEC (partSource p k)) = k) ∧
  [2, 3, 4, 5, 6, 7].map (fun q => get State.reset (R.MAG_Q_SHAPE_RATE 0 q)) = [8000, 2000, 8000, 6000, 1000, 200]

/-- State.reset has its register store in order and both byte memories in their canonical form. -/
def Obligations.ResetIsCanonical : Prop := State.reset.Canonical

/-- From any state, reachable or not, whose register store has one cell for each field in order and whose frame store and
scratch memory are sorted with no zero byte listed, every command leads to such a state again. Equal register files and equal
memories are therefore equal data in every state a run can reach. -/
def Obligations.StepKeepsTheCanonicalForm : Prop := ∀ s t : State, s.Canonical → step s = .next t → t.Canonical

/-- Over all commands and all states: a command that is none of the four tick events and does not reset or boot the block leaves
the tick number as it is. The tick number counts tick events and nothing else. -/
def Obligations.OnlyTickEventsAndResetsMoveTheTickNumber : Prop :=
  ∀ (c : Instr) (s t : State), movesTick c = false → exec c s = .next t → t.tick.no = s.tick.no

/-- For every address, the fields of the register there lie in that register's 32 bits, in rising order without overlap, each at
least one bit wide and with a reset value that fits. -/
def Obligations.RegisterFieldsDoNotOverlap : Prop :=
  ∀ a : Nat, (fieldsAt a).Pairwise (fun f g => f.lo + f.width ≤ g.lo) ∧
    ∀ f ∈ fieldsAt a, f.addr = a ∧ 0 < f.width ∧ f.lo + f.width ≤ 32 ∧ f.reset < 2 ^ f.width

/-- For every canonical state, address a and word v: after a plain register write, each RW field of the register holds its bits
of v, each W1S field its old value with the ones of v set, each W1C field its old value with them cleared, and each RO, WO and
RC field its old value; every field of every other register, and every part of the state beside the registers, is unchanged. -/
def Obligations.WrittenWordActsByAccessCode : Prop :=
  ∀ (s : State) (a v : Nat), s.Canonical →
    (∀ f ∈ fieldsAt a, get (writeWord s a v) f =
      match f.acc with
      | .rw => bits v f.lo f.width
      | .w1s => (get s f ||| bits v f.lo f.width) % 2 ^ f.width
      | .w1c => if bits v f.lo f.width = 0 then get s f else (get s f - (get s f &&& bits v f.lo f.width)) % 2 ^ f.width
      | .ro => get s f
      | .wo => get s f
      | .rc => get s f) ∧
    (∀ b, b ≠ a → ∀ g ∈ fieldsAt b, get (writeWord s a v) g = get s g) ∧
    { writeWord s a v with regs := s.regs } = s

/-- For a memory in canonical form: bytes written from address a on read back in order, every byte outside them reads as before,
and the canonical form is kept. Shared scratch memory is such a memory, and so is the frame store, whose addresses are taken
modulo the fitted capacity (the model's reading of R413, log entry 83): bytes of no more than the capacity read back from where
they were written, even across its end, and from any address that is the same modulo the capacity. -/
def Obligations.MemoryReadsBackWhatWasStored : Prop :=
  ∀ (s : State) (a : Nat) (bs : List Byte), s.Canonical →
    ssmRead (ssmWrite s a bs) a bs.length = bs ∧
    (∀ q, q < a ∨ a + bs.length ≤ q → ssmRead (ssmWrite s a bs) q 1 = ssmRead s q 1) ∧
    (bs.length ≤ fsCapacity s →
      fsRead (fsWrite s a bs) a bs.length = bs ∧
      (∀ b, b % fsCapacity s = a % fsCapacity s → fsRead (fsWrite s a bs) b bs.length = bs) ∧
      ∀ q, bs.length ≤ (q + fsCapacity s - a % fsCapacity s) % fsCapacity s → fsRead (fsWrite s a bs) q 1 = fsRead s q 1) ∧
    (fsWrite s a bs).Canonical ∧ (ssmWrite s a bs).Canonical

/-- On an empty queue a step answers the state unchanged (the model's choice, log entry 7). Where no host access, mover channel,
magazine operation, whip, anchor act, drain, partition reset or DORMANT entry can go on by itself, settling changes nothing.
With this, a command whose own effect leaves the block at rest has that effect and no other. -/
def Obligations.RestingBlockStaysAsItIs : Prop :=
  (∀ s : State, s.pending = [] → step s = .next s) ∧
  (∀ s : State, AtRest s → settle s = s ∧ finSettle s = .next s)

/-! ## Register accesses -/

/-- Through the global BAR0 while the units run: an access whose byte enables are not those of one whole word sets
GLB_ACCERR.SIZE, records the offset of its lowest enabled byte, and counts; an access to an offset that holds no register sets
UNMAPPED, records its offset and counts; an access that is both does both. Through the window of a present partition the same
happens in that partition's own registers, and its ACCERR source is raised. A read returns zero and clears nothing; a write is
discarded. The commands complete on every such access, and do nothing on one that breaks neither rule. -/
def Obligations.AccessErrorsAreRecordedAndChangeNothingElse : Prop :=
  let whole : List Bool := [true, true, true, true]
  (∀ (s : State) (write : Bool) (off k : Nat) (lanes : List Bool), unitsRun s = true → off % 4 = 0 → off < 0x400000 →
    lanes.take k = List.replicate k false → lanes[k]? = some true →
    let size (x : State) : State := bump (put (put x R.GLB_ACCERR_SIZE 1) R.GLB_ACCERR_ADDR_OFFSET (off + k)) R.GLB_ACCERR_CNT_COUNT
    let none' (x : State) : State := bump (put (put x R.GLB_ACCERR_UNMAPPED 1) R.GLB_ACCERR_ADDR_OFFSET (off + k)) R.GLB_ACCERR_CNT_COUNT
    let ends (x : State) : State := { x with rdata := if write then s.rdata else 0 }
    (lanes ≠ whole → fieldsAt off ≠ [] → exec (.accessSizeError none write off lanes) s = .next (ends (size s)) ∧
      exec (.accessUnmapped none write ⟨off, lanes⟩) s = .next s) ∧
    (lanes ≠ whole → fieldsAt off = [] → exec (.accessSizeError none write off lanes) s = .next (ends (none' (size s))) ∧
      exec (.accessUnmapped none write ⟨off, lanes⟩) s = .next (ends (none' (size s)))) ∧
    (lanes = whole → fieldsAt off = [] → exec (.accessUnmapped none write ⟨off, lanes⟩) s = .next (ends (none' s))) ∧
    (lanes = whole → exec (.accessSizeError none write off lanes) s = .next s)) ∧
  (∀ (s : State) (p : Part) (write : Bool) (off k : Nat) (lanes : List Bool), unitsRun s = true → present s p = true → off % 4 = 0 →
    off < 0x10000 → lanes.take k = List.replicate k false → lanes[k]? = some true →
    let seen (x : State) : State := put (bump (put x (R.PW_ACCERR_ADDR_OFFSET p) (off + k)) (R.PW_ACCERR_CNT_COUNT p)) (R.HUB_PEND (partSource p srcAccErr)) 1
    let size (x : State) : State := seen (put x (R.PW_ACCERR_SIZE p) 1)
    let none' (x : State) : State := seen (put x (R.PW_ACCERR_UNMAPPED p) 1)
    let ends (x : State) : State := { x with rdata := if write then s.rdata else 0 }
    (lanes ≠ whole → mapped (some p) off = true → exec (.accessSizeError (some p) write off lanes) s = .next (ends (size s))) ∧
    (lanes ≠ whole → mapped (some p) off = false → exec (.accessSizeError (some p) write off lanes) s = .next (ends (none' (size s))) ∧
      exec (.accessUnmapped (some p) write ⟨off, lanes⟩) s = .next (ends (none' (size s)))) ∧
    (lanes = whole → mapped (some p) off = false → exec (.accessUnmapped (some p) write ⟨off, lanes⟩) s = .next (ends (none' s))))

/-- A write of a register with no command of its own through an answering BAR0 or window has the effect of that register's
rules, and what that lets go on goes on (for TICK_GL_PHASE: OFFSET takes its bits; TICK_GL.DIV outside 1 to 16 is turned away
with BADCFG); one to an offset with no register is recorded as an access error; one that nothing answers changes nothing.
Configuration writes keep the Memory Space and Bus Master Enables, the base addresses aligned to their sizes, and leave
read-only words alone. A read returns the word, clears exactly its RC fields and changes nothing else, POOL_MIN_E starting again
from the free count; PIN_I2C_DATA takes its FIFO's oldest byte. Configuration reads give the identity of R341 and what was
written. The test pads take an instruction, a reset and TEST_EN, and IDCODE reads 0x2884_0B47; the values of configuration words
of PCI Express beyond R340 and R341 and of BYPASS are the model's (log entries 9 and 84). -/
def Obligations.PlainWritesStoreAndReadsClearTheirFields : Prop :=
  (∀ (s : State) (off : Nat) (v : Word32),
    (reaches s none off = true → fieldsAt off ≠ [] → ownWrite off = false →
      exec (.registerWrite (.bar0 off) v) s = .next (settle (bar0Write s off v.toNat))) ∧
    (reaches s none off = true → fieldsAt off = [] → exec (.registerWrite (.bar0 off) v) s = .next (settle
      (bump (put (put s R.GLB_ACCERR_UNMAPPED 1) R.GLB_ACCERR_ADDR_OFFSET off) R.GLB_ACCERR_CNT_COUNT))) ∧
    (reaches s none off = false → exec (.registerWrite (.bar0 off) v) s = .next (settle s) ∧ exec (.readClear (.bar0 off)) s = .next s)) ∧
  (∀ (s : State) (p : Part) (off : Nat) (v : Word32), reaches s (some p) off = true → mapped (some p) off = true →
    ownWrite (winAddr p off) = false → exec (.registerWrite (.window p off) v) s = .next (settle (winWrite s p off v.toNat))) ∧
  (∀ (s : State) (v : Word32), unitsRun s = true →
    exec (.registerWrite (.bar0 0xC0010) v) s = .next (settle (put s R.TICK_GL_PHASE_OFFSET (bits v.toNat 0 R.TICK_GL_PHASE_OFFSET.width))) ∧
    exec (.registerWrite (.bar0 0xC000C) v) s =
      .next (settle (if 1 ≤ bits v.toNat 0 5 ∧ bits v.toNat 0 5 ≤ 16 then put s R.TICK_GL_DIV (bits v.toNat 0 5) else put s R.TICK_STAT_BADCFG 1))) ∧
  (∀ (s : State) (p : Part) (r : CfgReg) (v : Word32),
    (cfgReaches s p = true → exec (.registerWrite (.config p r) v) s = .next (settle (cfgWrite s p r v.toNat)) ∧
      exec (.readClear (.config p r)) s = .next { s with rdata := cfgWord s p r }) ∧
    (cfgReaches s p = false → exec (.registerWrite (.config p r) v) s = .next (settle s) ∧ exec (.readClear (.config p r)) s = .next s) ∧
    (p.val < s.host.cfg.length → (∀ k < 32, bitAt (nth s.hub.vecPend p 0) k = false) →
      let c := nth s.host.cfg p CfgSt.init
      cfgWrite s p .command v.toNat =
        { s with host := { s.host with cfg := setAt s.host.cfg p { c with memory := bitAt v.toNat 1, master := bitAt v.toNat 2 } } }) ∧
    (let b := 2 ^ 32 * (s.host.vfBar.getD 0 / 2 ^ 32) + v.toNat / 0x10000 * 0x10000
     cfgWrite s 0 .vfBarLo v.toNat = { s with host := { s.host with vfBar := some b } }) ∧
    cfgWrite s 0 .vfBarHi v.toNat = { s with host := { s.host with vfBar := some (2 ^ 32 * v.toNat + s.host.vfBar.getD 0 % 2 ^ 32) } } ∧
    (r = .id ∨ r = .classCode ∨ r = .sriovCounts ∨ r = .sriovOffsets → cfgWrite s p r v.toNat = s) ∧
    cfgWord s p .id = 0x5D8A + 2 ^ 16 * (if p.val = 0 then 0x8840 else 0x8841) ∧ cfgWord s p .classCode = 0x04800000) ∧
  (∀ (s : State) (off : Nat), s.Canonical → reaches s none off = true → fieldsAt off ≠ [] → ownRead off = false →
    inFam off 0x80604 0x10 4 = false → off ≠ 0x1A0030 →
    ∃ t : State, exec (.readClear (.bar0 off)) s = .next t ∧ t.rdata = readWord s off ∧
      (∀ f ∈ fieldsAt off, get t f = if f.acc = .rc then 0 else get s f) ∧
      (∀ a, a ≠ off → ∀ f ∈ fieldsAt a, get t f = get s f) ∧
      (off ≠ 0x80410 → off ≠ 0x80414 → off ≠ 0x10024 → { t with regs := s.regs, rdata := s.rdata } = s) ∧
      { t with regs := s.regs, rdata := s.rdata, free := s.free } = s) ∧
  (∀ (s : State) (p : Part) (off : Nat), s.Canonical → reaches s (some p) off = true → mapped (some p) off = true →
    ownRead (winAddr p off) = false →
    ∃ t : State, exec (.readClear (.window p off)) s = .next t ∧ t.rdata = readWord s (winAddr p off) ∧
      (∀ f ∈ fieldsAt (winAddr p off), get t f = if f.acc = .rc then 0 else get s f) ∧
      (∀ a, a ≠ winAddr p off → ∀ f ∈ fieldsAt a, get t f = get s f) ∧ { t with regs := s.regs, rdata := s.rdata } = s) ∧
  (∀ s : State, unitsRun s = true → exec (.readClear (.bar0 0x1A0030)) s =
    .next (put (put { s with rdata := get s R.POOL_MIN_E_COUNT } R.POOL_MIN_E_COUNT 0) R.POOL_MIN_E_COUNT (get s R.POOL_FREE_E_COUNT))) ∧
  (∀ (s : State) (b : Fin 4) (v : Byte) (r : List Byte), unitsRun s = true → (auxOf s b).fifo = v :: r →
    exec (.readClear (.bar0 (0x80604 + 0x10 * b.val))) s = .next { setAux s b { auxOf s b with fifo := r } with rdata := v.toNat }) ∧
  (∀ (s : State) (i : TapInstr) (k : Nat) (v : Word32),
    exec (.registerWrite (.test (.load i)) v) s = .next (settle { s with sup := { s.sup with tap := i } }) ∧
    exec (.registerWrite (.test .reset) v) s = .next (settle { s with sup := { s.sup with tap := .idcode } }) ∧
    (bitAt v.toNat 0 = false → exec (.registerWrite (.test .enable) v) s = .next (settle { s with sup := { s.sup with testEn := false } })) ∧
    (s.sup.tap = .idcode → exec (.readClear (.test (.data 0))) s = .next { s with rdata := 0x28840B47 }) ∧
    (s.sup.tap = .bypass → exec (.readClear (.test (.data k))) s = .next { s with rdata := 0 }) ∧
    (s.sup.tap = .extest ∨ s.sup.tap = .samplePreload → exec (.registerWrite (.test (.data k)) v) s =
      .next (settle { s with sup := { s.sup with cells := insertKey s.sup.cells k v.toNat } })))

/-- While the units run: a write of a locked intake register in a mode with the intake on is discarded and sets
INT_STAT.CFGLOCK; in a mode without intake a locked register other than INT_CTL takes the word, INT_RING_CFG only a SLOTS value
from 2 to 8 (the row stride is shown anew). A write of a staged register stores the word while the word of before stays in force
until the boundary. INT_CTL does both: DEF_EN is staged in every mode, DEPTH and CFA are taken or turned away with CFGLOCK. A
write of INT_VIEW_LUT_DATA writes the entry that IDX and CH name in the bank that is not in force, and IDX moves on. -/
def Obligations.LockedStagedAndTableRegistersTakeWritesAsStated : Prop :=
  (∀ (s : State) (off : Nat) (v : Word32), unitsRun s = true → intakeOn (modeOf s) = true → lockedReg off = true →
    exec (.lockedRegisterWrite off v) s = .next (put s R.INT_STAT_CFGLOCK 1)) ∧
  (∀ (s : State) (off : Nat) (v : Word32), unitsRun s = true → intakeOn (modeOf s) = false → lockedReg off = true → off ≠ 0xA0048 →
    exec (.lockedRegisterWrite off v) s = .next (showStride (writeWord s off v.toNat))) ∧
  (∀ (s : State) (v : Word32), unitsRun s = true → intakeOn (modeOf s) = false →
    exec (.lockedRegisterWrite 0xA0048 v) s = .next (if 2 ≤ bits v.toNat 0 4 ∧ bits v.toNat 0 4 ≤ 8 then
      showStride (put s R.INT_RING_CFG_SLOTS (bits v.toNat 0 4)) else put s R.INT_STAT_CFGLOCK 1)) ∧
  (∀ (s : State) (off w : Nat) (v : Word32), unitsRun s = true → stagedReg off = true → lookupKey s.intake.force off = some w →
    exec (.stagedRegisterWrite off v) s = .next (writeWord s off v.toNat)) ∧
  (∀ (s : State) (off : Nat) (v : Word32), unitsRun s = true → stagedReg off = true → lookupKey s.intake.force off = none →
    exec (.stagedRegisterWrite off v) s = .next (writeWord
      { s with intake := { s.intake with force := insertKey s.intake.force off (storedWord s off) } } off v.toNat)) ∧
  (∀ (s : State) (v : Fin 3) (w : Word32), unitsRun s = true → get s (R.INT_VIEW_LUT_IDX_CH v) < 3 →
    let i := get s (R.INT_VIEW_LUT_IDX_IDX v)
    exec (.lutDataWrite v w) s = .next (put
      (setLut s v (4096 * (3 * (1 - getF s (R.INT_VIEW_CFG_LUTSEL v)) + get s (R.INT_VIEW_LUT_IDX_CH v)) + i) i (w.toNat % 4096))
      (R.INT_VIEW_LUT_IDX_IDX v) (i + 1))) ∧
  (∀ (s : State) (v : Word32), unitsRun s = true →
    let old : State := if (lookupKey s.intake.force 0xA0000).isSome then s
      else { s with intake := { s.intake with force := insertKey s.intake.force 0xA0000 (storedWord s 0xA0000) } }
    let x : State := put old R.INT_CTL_DEF_EN (bits v.toNat 4 1)
    exec (.lockedRegisterWrite 0xA0000 v) s = exec (.stagedRegisterWrite 0xA0000 v) s ∧
    exec (.lockedRegisterWrite 0xA0000 v) s = .next (if intakeOn (modeOf s) then put x R.INT_STAT_CFGLOCK 1
      else showStride (put (put x R.INT_CTL_DEPTH (bits v.toNat 0 2)) R.INT_CTL_CFA (bits v.toNat 2 2))))

/-! ## Power, reset and start-up -/

/-- POWER_ON, AON_BROWN_OUT and RESET_N low for 10 µs or more each leave the block as State.reset has it, the internal reset
still asserted, with AON_RSTCAUSE.CAUSE 0, 2 and 1; what lies outside the block (causes that persist, the test pads, messages
sent, commands that wait) and the model's own free counter stay. A RESET_N that ends a boot attempt in progress leaves
AON_BOOT_CNT. RESET_N low for less than 1 µs does nothing; from 1 µs to 10 µs it does either. The internal reset is released
once no rail is out of range, the crystal runs and TEST_EN is low: CYCLE starts at 0 and the boot source is sampled. -/
def Obligations.ColdResetRestoresEverything : Prop :=
  let sup (s : State) : Sup := { Sup.init with
    held := true, tryAt := none, clkBad := s.sup.clkBad, railBad := s.sup.railBad
    testEn := s.sup.testEn, tap := s.sup.tap, cells := s.sup.cells }
  let cold (s : State) (cause : Nat) : State :=
    put { State.reset with free := s.free, sent := s.sent, pending := s.pending, sup := sup s } R.AON_RSTCAUSE_CAUSE cause
  let pin (s : State) : State := if s.sup.held = false ∧ s.sup.tryAt.isSome = true ∧ modeOf s = modeBOOT then
    put (cold s 1) R.AON_BOOT_CNT_COUNT (get s R.AON_BOOT_CNT_COUNT) else cold s 1
  ∀ s : State,
    exec .powerOn s = .next { cold s 0 with sup := { sup s with tap := .idcode } } ∧ exec .aonBrownOut s = .next (cold s 2) ∧
    (∀ (ns : Nat) (b : Bool), 10000 ≤ ns → exec (.resetNAssert ns b) s = .next (pin s)) ∧
    (∀ ns : Nat, 1000 ≤ ns → ns < 10000 → exec (.resetNAssert ns true) s = .next (pin s) ∧ exec (.resetNAssert ns false) s = .next s) ∧
    (∀ (ns : Nat) (b : Bool), ns < 1000 → exec (.resetNAssert ns b) s = .next s) ∧
    (∀ sel : Fin 4, s.sup.held = true → s.sup.railBad = false → s.sup.clkBad = false → s.sup.testEn = false →
      exec (.internalResetRelease sel) s = .next { s with clk := 0, sup := { s.sup with held := false, sel := sel, tryAt := some 0 } }) ∧
    (∀ sel : Fin 4, s.sup.held = false ∨ s.sup.railBad = true ∨ s.sup.clkBad = true ∨ s.sup.testEn = true →
      exec (.internalResetRelease sel) s = .next s)

/-- The write of the key 0xA55A to AON_RST_CTL completes with: every field of cold scope as before (R17) and every other field
at its reset value (R15), but for AON_RSTCAUSE.CAUSE, which is 3, and GLB_MODE_LAST, which shows REASON 1 from the mode left to
BOOT; the frame store contents and the PCIe link unchanged; scratch memory empty, the tick number 0 (R29) and mode BOOT; the
strands of the quarantine mask read QUARANTINED; no waiting command lost. A write of another value does nothing. For a field
whose cells carry the field's own scope, as every write leaves them. -/
def Obligations.WarmResetKeepsOnlyColdScope : Prop :=
  ∀ s : State, s.sup.held = false → modeOf s ≠ modeDORMANT →
    (∃ t : State, exec (.aonRstCtl 0xA55A) s = .next t ∧
      (∀ f : Fld, (∀ c ∈ s.regs, c.key = fldKey f → c.scope = f.scope) → fldKey f ≠ fldKey R.AON_RSTCAUSE_CAUSE →
        fldKey f ≠ fldKey R.GLB_MODE_LAST_REASON → fldKey f ≠ fldKey R.GLB_MODE_LAST_FROM → fldKey f ≠ fldKey R.GLB_MODE_LAST_TO →
        (s.Canonical ∧ get s R.STR_QUAR_MASK_MASK = 0 ∨ (∀ n < 18, fldKey f ≠ fldKey (R.STR_STATE_STATE n)) ∧
          fldKey f ≠ fldKey R.STR_POOL_STAT_SPAREAV ∧ fldKey f ≠ fldKey R.STR_POOL_STAT_NQUAR) →
        get t f = if f.scope = .cold then get s f else f.reset) ∧
      (s.Canonical → get t R.AON_RSTCAUSE_CAUSE = 3 ∧ get t R.GLB_MODE_LAST_REASON = 1 ∧ get t R.GLB_MODE_LAST_FROM = modeOf s % 16 ∧
        get t R.GLB_MODE_LAST_TO = modeBOOT) ∧
      (s.Canonical → (∀ c ∈ s.regs, c.key = fldKey R.STR_QUAR_MASK_MASK → c.scope = .cold) →
        ∀ n < 18, bitAt (get s R.STR_QUAR_MASK_MASK) n = true → get t (R.STR_STATE_STATE n) = strQuar) ∧
      t.fs = s.fs ∧ t.host.up = s.host.up ∧ t.host.numVfs = s.host.numVfs ∧ t.host.vfOn = s.host.vfOn ∧ t.host.cfg = s.host.cfg ∧ t.host.bar0 = s.host.bar0 ∧ t.hub.msixOn = s.hub.msixOn ∧
      t.ssm = [] ∧ t.tick = Tick.init ∧ t.clk = 0 ∧ t.pending = s.pending) ∧
    (∀ v : Word32, v ≠ 0xA55A → exec (.aonRstCtl v) s = .next s)

/-- While BOOT attempts an image: one that passes every check of R522 is loaded (configuration, patches, self-tests, cores) and
recorded; a failure with a reason code (one of the image, 11 for a reserved source, 12 for a flash that does not answer) is
recorded in A0 with the older reasons moved on and counted, a first and a second one by a warm reset with cause 6, a third by
mode BARE with BARE set. The same follows 2 s after an attempt began (code 10). A host image is taken word by word, and GO
starts its attempt; GO and RETRY words store SRC and OVR in either case. In BARE a RETRY clears the count and BARE, sets OVR
with SRC and causes a warm reset with cause 7. B0_READY on a loaded image enters IDLE with the count cleared, both cores beating
and HEALTHY set. -/
def Obligations.BootAttemptsLoadOrFailAsStated : Prop :=
  let failed (s : State) (code : Nat) : State := put (put (put (put s R.AON_BOOT_STAT_A2 (get s R.AON_BOOT_STAT_A1))
    R.AON_BOOT_STAT_A1 (get s R.AON_BOOT_STAT_A0)) R.AON_BOOT_STAT_A0 code) R.AON_BOOT_CNT_COUNT (get s R.AON_BOOT_CNT_COUNT + 1)
  let bare (s : State) : State := let b := put (setMode s modeBARE 5) R.AON_BOOT_STAT_BARE 1
    { b with sup := { b.sup with tryAt := none } }
  let fails (s : State) (code : Nat) : State := if get s R.AON_BOOT_CNT_COUNT < 2 then warmReset (failed s code) 6 else bare (failed s code)
  (∀ (s : State) (flash : Option (List Byte)) (key : Option (Fin 4)) (sig gcm trained b0 b1 : Bool) (tests : List (Nat × Word32)),
    booting s = true →
    let at' (n : Nat) : State := put s R.AON_BOOT_STAT_SRC n
    let does (u : State) : Prop := exec (.bootAttempt flash key sig gcm trained b0 b1 tests) s = .next u
    let code (n : Nat) (i : List Byte) (limit : Option Nat) : Nat :=
      imageCode (at' n) i limit { key := key.map (·.val), sig := sig, gcm := gcm } trained b0 b1
    let loads (n : Nat) (i : List Byte) : State :=
      let u := startCores (bootTests (loadPatch (loadConfig (at' n) i) i) tests) b0 b1
      { u with sup := { u.sup with loaded := true } }
    (∀ i, bootSource s = 0 → flash = some i → does (if code 0 i none = 0 then loads 0 i else fails (at' 0) (code 0 i none))) ∧
    (bootSource s = 0 → flash = none → does (fails (at' 0) 12)) ∧
    (bootSource s = 1 → s.sup.given = true →
      let c := code 1 s.sup.image (some (get s R.AON_BOOT_LEN_BYTES))
      does (if c = 0 then loads 1 s.sup.image else fails (at' 1) c)) ∧
    (bootSource s = 1 → s.sup.given = false → does s) ∧
    (2 ≤ bootSource s → does (fails (at' (bootSource s)) 11))) ∧
  (∀ (s : State) (a t : Nat), s.sup.held = false → modeOf s = modeBOOT → hostImage s = false → s.sup.tryAt = some a → 2000 * msCycles + a ≤ t →
    exec (.bootTimeout t) s = .next (fails (put s R.AON_BOOT_STAT_SRC (bootSource s)) 10)) ∧
  (∀ (s : State) (v : Word32), hostImage s = true → s.sup.image.length < get s R.AON_BOOT_LEN_BYTES →
    exec (.aonBootData v) s = .next { s with sup := { s.sup with image := s.sup.image ++ leBytes 4 v.toNat } }) ∧
  (∀ (s : State) (v : Word32) (t : Nat), s.sup.held = false → modeOf s ≠ modeDORMANT →
    let kept (u : State) : State := put (put u R.AON_BOOT_CTL_SRC (bits v.toNat 0 2)) R.AON_BOOT_CTL_OVR (bits v.toNat 2 1)
    (bitAt v.toNat 8 = true → bitAt v.toNat 4 = false → hostImage s = true →
      exec (.aonBootGo ⟨v, t⟩) s = .next (kept { stamp s t with sup := { s.sup with given := true, tryAt := some t } })) ∧
    (bitAt v.toNat 8 = true → bitAt v.toNat 4 = false → hostImage s = false → exec (.aonBootGo ⟨v, t⟩) s = .next (kept s)) ∧
    (bitAt v.toNat 4 = true → modeOf s = modeBARE → exec (.aonBootRetry v) s =
      .next (warmReset (put (put (put (kept s) R.AON_BOOT_CTL_OVR 1) R.AON_BOOT_CNT_COUNT 0) R.AON_BOOT_STAT_BARE 0) 7)) ∧
    (bitAt v.toNat 4 = true → bitAt v.toNat 8 = false → modeOf (kept s) ≠ modeBARE → exec (.aonBootRetry v) s = .next (kept s))) ∧
  (∀ (s : State) (t : Nat), s.sup.loaded = true → modeOf s = modeBOOT →
    let u := put (setMode (stamp s t) modeIDLE 4) R.AON_BOOT_CNT_COUNT 0
    let w := put { u with sup := { u.sup with ready := true, lanyAt := t, tryAt := none, beat := [some t, some t] } } R.FLT_BLY_STAT_HEALTHY 1
    exec (.b0Ready t) s = .next (raiseAll w srcModeChanged))

/-- A block without work whose HOLDOFF is not 0 gates: its bit of CLK_LP_STAT.GATED sets; one with work does not. A refusal is
counted and recorded with the block and kind 0. A wake clears the bit, within 10 µs of the entry counts as an abort, kind 1, and
lets what was held for the block go on. In DORMANT an enabled WAKE_N edge, PERST_N rise or timer expiry wakes the device: fields
outside the always-on domain return to reset, AON_RSTCAUSE shows CAUSE 5 and the wake source, GLB_MODE_LAST reads REASON 2, FROM
DORMANT, TO BOOT (R72); disabled ones do nothing. -/
def Obligations.BlocksGateAndWakeSourcesLeaveDormant : Prop :=
  (∀ (s : State) (b : Fin 32) (t : Nat), b.val < 29 → get s R.CLK_LP_CTL_HOLDOFF ≠ 0 → bitAt (get s R.CLK_LP_STAT_GATED) b = false →
    dormEntering s = false →
    let g := put (stamp s t) R.CLK_LP_STAT_GATED (withBit (get s R.CLK_LP_STAT_GATED) b true)
    (blockIdle s b = true → exec (.clockGate b false t) s = .next { g with sup := { s.sup with gatedAt := insertKey s.sup.gatedAt b t } }) ∧
    (blockIdle s b = false → exec (.clockGate b false t) s = .next s) ∧
    exec (.clockGate b true t) s = .next (put (put (put (bump (stamp s t) R.CLK_LP_REFUSE_CNT_COUNT)
      R.CLK_LP_LAST_BLOCK b) R.CLK_LP_LAST_KIND 0) R.CLK_LP_LAST_DORM 0)) ∧
  (∀ (s : State) (b : Fin 32) (t at0 : Nat), bitAt (get s R.CLK_LP_STAT_GATED) b = true → lookupKey s.sup.gatedAt b = some at0 →
    let g := put (stamp s t) R.CLK_LP_STAT_GATED (withBit (get s R.CLK_LP_STAT_GATED) b false)
    let w := { g with sup := { s.sup with gatedAt := eraseKey s.sup.gatedAt b } }
    Completes (.blockWake b t) s (if t < at0 + 12000 then
      put (put (put (bump w R.CLK_LP_REFUSE_CNT_COUNT) R.CLK_LP_LAST_BLOCK b) R.CLK_LP_LAST_KIND 1) R.CLK_LP_LAST_DORM 0 else w)) ∧
  (∀ (s : State) (c : Instr) (src : Nat) (en : Fld) (t : Nat),
    (c = .wakeNFall ∧ src = 1 ∧ en = R.AON_WAKE_CTL_WAKEN) ∨ (c = .perstNRise ∧ src = 2 ∧ en = R.AON_WAKE_CTL_PERST) ∨
      (c = .wakeTimerExpiry t ∧ src = 3 ∧ en = R.AON_WAKE_CTL_TMR ∧
        ∃ a, s.sup.dormAt = some a ∧ 95 * (msCycles * 1000 * get s R.AON_WAKE_TMR_SEC) ≤ 100 * (t - a)) →
    modeOf s = modeDORMANT →
    (isSet s en = false → exec c s = .next s) ∧
    (isSet s en = true → s.Canonical → ∃ u : State, exec c s = .next u ∧
      get u R.AON_RSTCAUSE_CAUSE = 5 ∧ get u R.AON_RSTCAUSE_WAKESRC = src ∧ get u R.GLB_MODE_LAST_REASON = 2 ∧
      get u R.GLB_MODE_LAST_FROM = modeDORMANT ∧ get u R.GLB_MODE_LAST_TO = modeBOOT ∧ modeOf u = modeBOOT ∧
      get u R.AON_WAKE_TMR_SEC = get s R.AON_WAKE_TMR_SEC ∧ u.tick = Tick.init ∧ u.fs = [] ∧ u.pending = s.pending))

/-- A junction temperature report stores the temperature, and sets THERM_HOT on reaching 100 °C and THERM_CRIT on reaching 112
°C from below; a cooler report stores it without a cause. A rail out of range or a stopped crystal is recorded as a cause once,
with its fatal source while the internal reset is released; no rail is monitored in DORMANT; the return of either clears the
cause alone. A host link that leaves L0 sets its cause and source, and one that comes back clears the cause and lets what waited
for it go on. -/
def Obligations.OutsideCausesAreHeldByTheCollector : Prop :=
  (∀ (s : State) (d : BitVec 11), hotAt ≤ d.toInt → hotAt ≤ getInt s R.CLK_TEMP_DEGC → d.toInt < critAt →
    exec (.thermalHot d) s = .next (put s R.CLK_TEMP_DEGC d.toNat)) ∧
  (∀ (s : State) (d : BitVec 11), hotAt ≤ d.toInt → getInt s R.CLK_TEMP_DEGC < hotAt → d.toInt < critAt →
    exec (.thermalHot d) s = .next (freqHot (fault (put s R.CLK_TEMP_DEGC d.toNat) fltThermHot))) ∧
  (∀ (s : State) (d : BitVec 11), critAt ≤ d.toInt → hotAt ≤ getInt s R.CLK_TEMP_DEGC → getInt s R.CLK_TEMP_DEGC < critAt →
    exec (.thermalCrit d) s = .next (fault (put s R.CLK_TEMP_DEGC d.toNat) fltThermCrit)) ∧
  (∀ (s : State) (d : BitVec 11), d.toInt < hotAt → exec (.junctionBelow100c d) s = .next (put s R.CLK_TEMP_DEGC d.toNat)) ∧
  (∀ s : State, modeOf s = modeDORMANT → exec .supplyOor s = .next s) ∧
  (∀ s : State, s.sup.railBad = false → modeOf s ≠ modeDORMANT → exec .supplyOor s =
    .next (if s.sup.held then { s with sup := { s.sup with railBad := true } }
      else fault { s with sup := { s.sup with railBad := true } } fltSupplyOor)) ∧
  (∀ s : State, exec .railInRange s = .next { s with sup := { s.sup with railBad := false } }) ∧
  (∀ s : State, s.sup.clkBad = false → exec .clkFail s =
    .next (if s.sup.held then { s with sup := { s.sup with clkBad := true } }
      else fault { s with sup := { s.sup with clkBad := true } } fltClkFail)) ∧
  (∀ s : State, exec .clockRestored s = .next { s with sup := { s.sup with clkBad := false } }) ∧
  (∀ s : State, s.host.up = true → exec .hostLinkDown s =
    .next (fault { s with sup := { s.sup with linkBad := true }, host := { s.host with up := false } } fltHostLink)) ∧
  (∀ s : State, modeOf s ≠ modeDORMANT →
    exec .hostLinkUp s = .next (settle { s with sup := { s.sup with linkBad := false }, host := { s.host with up := true } }))

/-! ## The frame tick and the mode request -/

/-- FREE_RUN_TICK: k crystal cycles after the accumulator was last brought up to date, where k is the first at which it reaches
25,000,000 × DEN, that amount is subtracted and a boundary falls; at any other cycle the command does nothing. HOLDOVER_TICK at
125% of the nominal period after the last tick from TICK_IN, and then each nominal period, sets HOLDOVER, counts in
TICK_MISS_CNT and makes a boundary. A TICK_IN edge of the polarity that POL makes active, at or after 95% of the period, makes a
boundary, an earlier one is counted in TICK_EARLY_CNT alone, one of the other polarity does nothing; in holdover two edges from
95% to 125% of a period apart come first. GENLOCK_TICK makes one when it is due, within ±500 ppm of the period to a crystal
cycle. Each boundary leaves the tick number one higher, or 0 for the first after reset, or the preset one. -/
def Obligations.TickEventsFallAsTheirSourceSaysAndCountOn : Prop :=
  (∀ (s : State) (k : Nat), sourceIs s 0 = true → 0 < s.tick.num → 1 ≤ k → 25000000 * s.tick.den ≤ s.tick.acc + k * s.tick.num →
    s.tick.acc + (k - 1) * s.tick.num < 25000000 * s.tick.den →
    let t := s.tick.accAt + 48 * k
    let u := boundary { s with tick := { s.tick with acc := s.tick.acc + k * s.tick.num - 25000000 * s.tick.den, accAt := t } } t
    Completes (.freeRunTick t) s u ∧ (∀ t', t' ≠ t → exec (.freeRunTick t') s = .next s)) ∧
  (∀ (s : State) (rise : Bool) (t : Nat) (d : Fin 49), sourceIs s 1 = true → s.tick.last ≤ t →
    (rise = isSet s R.TICK_CTL_POL → exec (.tickInEdge ⟨rise, t⟩ d) s = .next s) ∧
    (rise ≠ isSet s R.TICK_CTL_POL → isSet s R.TICK_STAT_HOLDOVER = false ∨ s.tick.pairOk = true →
      (atLeast s (t - s.tick.last) 95 = false → Completes (.tickInEdge ⟨rise, t⟩ d) s (bump (stamp s t) R.TICK_EARLY_CNT_COUNT)) ∧
      (atLeast s (t - s.tick.last) 95 = true → Completes (.tickInEdge ⟨rise, t⟩ d) s
        (boundary { clrF s R.TICK_STAT_HOLDOVER with tick := { s.tick with lastEdge := none, pairOk := false } } (t + d)))) ∧
    (rise ≠ isSet s R.TICK_CTL_POL → isSet s R.TICK_STAT_HOLDOVER = true → s.tick.pairOk = false →
      (s.tick.lastEdge = none → Completes (.tickInEdge ⟨rise, t⟩ d) s
        { stamp s t with tick := { s.tick with lastEdge := some t, pairOk := false } }) ∧
      (∀ e, s.tick.lastEdge = some e → Completes (.tickInEdge ⟨rise, t⟩ d) s
        { stamp s t with tick := { s.tick with lastEdge := some t, pairOk := atLeast s (t - e) 95 && atMost s (t - e) 125 } }))) ∧
  (∀ (s : State) (t : Nat), s.tick.last ≤ t → isSet s R.TICK_STAT_HOLDOVER = false → sourceIs s 1 = true → about s (t - s.tick.last) 125 = true →
    let h := { setF s R.TICK_STAT_HOLDOVER with tick := { s.tick with lastEdge := none, pairOk := false } }
    Completes (.holdoverTick t) s (boundary (bump h R.TICK_MISS_CNT_COUNT) t)) ∧
  (∀ (s : State) (t : Nat), s.tick.last ≤ t → isSet s R.TICK_STAT_HOLDOVER = true → (sourceIs s 1 = true ∨ sourceIs s 2 = true) →
    about s (t - s.tick.last) 100 = true → Completes (.holdoverTick t) s (boundary (bump s R.TICK_MISS_CNT_COUNT) t)) ∧
  (∀ (s : State) (t : Nat), s.tick.last ≤ t → genlockDue s t = true →
    Completes (.genlockTick t) s (boundary s t) ∧
    5 * s.tick.num * s.tick.last + 5997000000 * s.tick.den ≤ 5 * s.tick.num * t + 240 * s.tick.num ∧
    5 * s.tick.num * t ≤ 5 * s.tick.num * s.tick.last + 6003000000 * s.tick.den + 240 * s.tick.num) ∧
  (∀ (s : State) (t : Nat), (settle (boundary s t)).tick.no = s.tick.preset.getD (if s.tick.begun then (s.tick.no + 1) % 2 ^ 64 else 0))

/-- With the genlock source in force, each reference edge of the polarity that POL makes active records its phase error. An
error below 1 µs counts towards 16 in a row, at which LOCKED sets and HOLDOVER clears; one from 1 µs to 10 µs starts the count
again; one above 10 µs, or two expected edges missing, clears LOCKED and, where it was set, puts the generator in holdover.
Nothing else changes. -/
def Obligations.ReferenceEdgesLockAndUnlock : Prop :=
  (∀ (s : State) (rise : Bool) (err : Int) (t : Nat), sourceIs s 2 = true → rise ≠ isSet s R.TICK_CTL_POL →
    let r := putInt (stamp s t) R.TICK_PHASE_ERR_ERR err
    (err.natAbs < 1000 → s.tick.goodRefs + 1 < 16 →
      exec (.genlockEdge err ⟨rise, t⟩) s = .next { r with tick := { s.tick with lastRef := some t, goodRefs := s.tick.goodRefs + 1 } }) ∧
    (err.natAbs < 1000 → 15 ≤ s.tick.goodRefs →
      exec (.genlockEdge err ⟨rise, t⟩) s = .next
        (put (put { r with tick := { s.tick with lastRef := some t, goodRefs := 16 } } R.TICK_STAT_LOCKED 1) R.TICK_STAT_HOLDOVER 0)) ∧
    (1000 ≤ err.natAbs → err.natAbs ≤ 10000 →
      exec (.genlockEdge err ⟨rise, t⟩) s = .next { r with tick := { s.tick with lastRef := some t, goodRefs := 0 } }) ∧
    (10000 < err.natAbs → isSet s R.TICK_STAT_LOCKED = true →
      exec (.genlockEdge err ⟨rise, t⟩) s = .next
        (put (put { r with tick := { s.tick with lastRef := some t, goodRefs := 0 } } R.TICK_STAT_LOCKED 0) R.TICK_STAT_HOLDOVER 1))) ∧
  (∀ (s : State) (t r : Nat), sourceIs s 2 = true → s.tick.lastRef = some r → atLeast s (t - r) (200 * get s R.TICK_GL_DIV) = true →
    exec (.genlockEdgeMissing t) s = .next (if isSet s R.TICK_STAT_LOCKED then
      put (put { stamp s t with tick := { s.tick with goodRefs := 0 } } R.TICK_STAT_LOCKED 0) R.TICK_STAT_HOLDOVER 1
      else { stamp s t with tick := { s.tick with goodRefs := 0 } }))

/-- A read of TICK_NO_LO by a present partition returns the low word and puts the current upper word in that partition's latch,
replacing what was there. A read of TICK_NO_HI returns the latched word where the partition holds an unused latch, else the
current upper word, and leaves the latch empty. No other partition's latch and nothing else changes. -/
def Obligations.TickNumberReadsAreConsistentForEachPartition : Prop :=
  (∀ (s : State) (p : Part), unitsRun s = true → present s p = true →
    exec (.tickNoLoRead p) s =
      .next { s with rdata := s.tick.no % 2 ^ 32, tick := { s.tick with latch := setAt s.tick.latch p (some (s.tick.no / 2 ^ 32)) } }) ∧
  (∀ (s : State) (p : Part) (w : Nat), unitsRun s = true → present s p = true → nth s.tick.latch p none = some w →
    exec (.tickNoHiRead p) s = .next { s with rdata := w, tick := { s.tick with latch := setAt s.tick.latch p none } }) ∧
  (∀ (s : State) (p : Part), unitsRun s = true → present s p = true → nth s.tick.latch p none = none →
    exec (.tickNoHiRead p) s = .next { s with rdata := s.tick.no / 2 ^ 32, tick := { s.tick with latch := setAt s.tick.latch p none } }) ∧
  (∀ (l : List (Option Nat)) (p q : Nat) (x : Option Nat), p < l.length → nth (setAt l p x) p none = x ∧ (q ≠ p → nth (setAt l p x) q none = nth l q none))

/-- A write of TICK_ADM_LIMIT whose three values all lie from 50 to 100 (STRAND above 90 too) sets the three fields; any other
write leaves all three unchanged and sets TICK_STAT.BADCFG. Nothing else changes. -/
def Obligations.AdmissionLimitsOutsideTheirRangeAreTurnedAway : Prop :=
  ∀ (s : State) (v : Word32), unitsRun s = true →
    let x := bits v.toNat 0 8
    let y := bits v.toNat 8 8
    let z := bits v.toNat 16 8
    exec (.tickAdmLimitWrite v) s = .next (if 50 ≤ x ∧ x ≤ 100 ∧ 50 ≤ y ∧ y ≤ 100 ∧ 50 ≤ z ∧ z ≤ 100 then
      put (put (put s R.TICK_ADM_LIMIT_STRAND x) R.TICK_ADM_LIMIT_DRAM y) R.TICK_ADM_LIMIT_SEQ z else put s R.TICK_STAT_BADCFG 1)

/-- A write of TICK_CTL with LOAD set, in a mode other than REC-RAW to OFFLOAD, keeps the number of TICK_NO_SET_LO and
TICK_NO_SET_HI for the next tick, and the next boundary carries it; in those modes nothing is kept and TICK_STAT.REFUSED sets.
SRC and POL take their bits in either case; without LOAD nothing else changes. -/
def Obligations.PresetIsCarriedByTheNextTickUnlessRefused : Prop :=
  (∀ (s : State) (v : Word32), unitsRun s = true → bits v.toNat 0 2 ≠ 3 →
    let c := put (put s R.TICK_CTL_SRC (bits v.toNat 0 2)) R.TICK_CTL_POL (bits v.toNat 2 1)
    exec (.tickNoLoad v) s = .next (if bitAt v.toNat 3 then
      (if modeOf s ∈ [modeRECRAW, modeRECBE, modeRECLG, modeRECDUAL, modePLAY, modeOFFLOAD] then put c R.TICK_STAT_REFUSED 1
        else { c with tick := { s.tick with preset := some (get s R.TICK_NO_SET_LO_NO + 2 ^ 32 * get s R.TICK_NO_SET_HI_NO) } })
      else c)) ∧
  (∀ (s : State) (t n : Nat), s.tick.preset = some n → (settle (boundary s t)).tick.no = n)

/-- A request that a cause of R61 refuses completes: GLB_MODE is unchanged, GLB_MODE_REFUSE shows the code and the mode asked
for, GLB_MODE_REFUSE_CNT counts and MODE_REFUSED is raised. One that passes outside a recording mode completes with the
transition pending (STATE 1, TARGET the mode), and for DORMANT every open session starts to close; from a recording mode the
drain begins (STATE 2). A committed rate waits for its boundary. -/
def Obligations.ModeRequestIsRefusedOrBegins : Prop :=
  (∀ (s : State) (v : Word32) (t : Nat), unitsRun s = true → requestCode s (bits v.toNat 0 4) ≠ 0 →
    exec (.modeRequest v t) s = .next (put (bump (put (put s R.GLB_MODE_REFUSE_CODE (requestCode s (bits v.toNat 0 4)))
      R.GLB_MODE_REFUSE_MODE (bits v.toNat 0 4)) R.GLB_MODE_REFUSE_CNT_COUNT) (R.HUB_PEND hubModeRefused) 1)) ∧
  (∀ (s : State) (v : Word32) (t : Nat), unitsRun s = true → requestCode s (bits v.toNat 0 4) = 0 → isRec (modeOf s) = false →
    let u := put (put s R.GLB_MODE_STATE 1) R.GLB_MODE_TARGET (bits v.toNat 0 4)
    (bits v.toNat 0 4 ≠ modeDORMANT → Completes (.modeRequest v t) s u) ∧
    (bits v.toNat 0 4 = modeDORMANT → Completes (.modeRequest v t) s (dormStart u t))) ∧
  (∀ (s : State) (v : Word32) (t : Nat), unitsRun s = true → requestCode s (bits v.toNat 0 4) = 0 → isRec (modeOf s) = true →
    let u := put (put s R.GLB_MODE_STATE 2) R.GLB_MODE_TARGET (bits v.toNat 0 4)
    Completes (.modeRequest v t) s u) ∧
  (∀ (s : State) (v : Word32), unitsRun s = true →
    let d := put s R.TICK_RATE_DEN_DEN v.toNat
    exec (.tickRateDenWrite v) s = .next { d with tick := { s.tick with ratePend := some (get s R.TICK_RATE_NUM_NUM, get d R.TICK_RATE_DEN_DEN) } })

/-! ## Sensor intake, views and monitors -/

/-- On a ganged port of a running intake whose header check passes and that is not discarding a burst, every packet command
completes: a frame start on the port's virtual channel closes the earlier frames that wait there and opens the window of the
frame of the current tick event (the first one of a frame sets its capture start, a later one opens within INT_SKEW and closes
beyond it, a second one closes and counts in INT_EXTRA); a frame end closes the window that is open; a long packet of the format
in force with the length and CRC of the segment gives the row its samples, one with a wrong CRC or length is counted and loses
the row, another data type is counted as discarded. A packet of another channel, a discarded packet and an uncorrectable header
are counted (the last discards the rest of the burst and the row), a corrected header is counted and used; a short packet that
is to be ignored changes nothing. A port that is off, or in the rest of a discarded burst, changes nothing; a new burst ends
that. -/
def Obligations.SensorPacketsOpenFillAndCloseWindows : Prop :=
  (∀ (s : State) (n : SensorPort), s.intake.on = true → ganged s n = true → (sensPort s n).skip = false →
    (∀ (vc : Fin 4) (t : Nat), let u := stamp s t
      (vc.val = get s (R.INT_PORT_CFG_VC n) → exec (.csi2FrameStart n false .ok vc t) s =
        .next (startWin (closeBefore u s.tick.events n) s.tick.events n t)) ∧
      (vc.val ≠ get s (R.INT_PORT_CFG_VC n) → exec (.csi2FrameStart n false .ok vc t) s = .next (bump u (R.INT_PORT_DISC_COUNT n)))) ∧
    (∀ (vc : Fin 4) (e : Nat), vc.val = get s (R.INT_PORT_CFG_VC n) → openEv s n = some e →
      exec (.csi2FrameEnd n false .ok vc) s = .next (closeWin (modWin s e n fun w => { w with ended := true }) e n false)) ∧
    (∀ vc : Fin 4, vc.val = get s (R.INT_PORT_CFG_VC n) → openEv s n = none → exec (.csi2FrameEnd n false .ok vc) s = .next s) ∧
    (∀ (vc : Fin 4) (dt : BitVec 6) (b : List Byte), vc.val = get s (R.INT_PORT_CFG_VC n) → dt.toNat = 0x2B + get s R.INT_CTL_DEPTH →
      (b.length = segLen s n →
        exec (.csi2LongPacket n false .ok vc dt b true) s = .next (takeRow s n (some (unpackRaw (sampBits s) b))) ∧
        exec (.csi2LongPacket n false .ok vc dt b false) s = .next (takeRow (bump s (R.INT_PORT_ERR_CRC n)) n none)) ∧
      (b.length ≠ segLen s n →
        exec (.csi2LongPacket n false .ok vc dt b true) s = .next (takeRow (bump s (R.INT_PORT_ERR_LEN n)) n none))) ∧
    (∀ (vc : Fin 4) (dt : BitVec 6) (b : List Byte) (crc : Bool), vc.val = get s (R.INT_PORT_CFG_VC n) →
      dt.toNat ≠ 0x2B + get s R.INT_CTL_DEPTH → exec (.csi2LongPacket n false .ok vc dt b crc) s = .next (bump s (R.INT_PORT_DISC_COUNT n))) ∧
    (∀ (vc : Fin 4) (dt : BitVec 6) (b : List Byte) (crc : Bool), exec (.csi2LongPacket n false .ue vc dt b crc) s =
      .next (takeRow (modPort (bump s (R.INT_PORT_ERR_HDR_UNC n)) n fun p => { p with skip := true }) n none)) ∧
    (∀ vc : Fin 4, exec (.csi2ShortPacketIgnored n false .ok vc) s =
      .next (if vc.val = get s (R.INT_PORT_CFG_VC n) then s else bump s (R.INT_PORT_DISC_COUNT n))) ∧
    exec (.csi2PacketDiscarded n false .ok) s = .next (bump s (R.INT_PORT_DISC_COUNT n)) ∧
    exec (.csi2PacketDiscarded n false .ce) s = .next (bump (bump s (R.INT_PORT_ERR_HDR_CORR n)) (R.INT_PORT_DISC_COUNT n)) ∧
    exec (.csi2PacketDiscarded n false .ue) s =
      .next (modPort (bump s (R.INT_PORT_ERR_HDR_UNC n)) n fun p => { p with skip := true })) ∧
  (∀ (s : State) (n : SensorPort), s.intake.on = true → ganged s n = true →
    ((sensPort s n).skip = true → ∀ h : Ecc, exec (.csi2PacketDiscarded n false h) s = .next s) ∧
    (let u := modPort s n fun p => { p with skip := false }
     exec (.csi2PacketDiscarded n true .ok) s = .next (bump u (R.INT_PORT_DISC_COUNT n)))) ∧
  (∀ (s : State) (n : SensorPort), (s.intake.on = false ∨ ganged s n = false) → ∀ (b : Bool) (h : Ecc) (vc : Fin 4) (dt : BitVec 6) (x : List Byte) (c : Bool),
    exec (.csi2PacketDiscarded n b h) s = .next s ∧ exec (.csi2ShortPacketIgnored n b h vc) s = .next s ∧
    exec (.csi2FrameEnd n b h vc) s = .next s ∧ exec (.csi2LongPacket n b h vc dt x c) s = .next s) ∧
  (∀ (u : State) (e n t : Nat) (x : Frame) (w : Win), findEv u e = some x → winOf x n = some w → x.kind = 0 →
    let opened (v : State) : State := modWin v e n fun v => { v with st := 1 }
    (w.st = 0 → x.first = none → startWin u e n t = opened (modEv u e fun f => { f with first := some t })) ∧
    (∀ f, w.st = 0 → x.first = some f → t ≤ f + usCycles * getF u R.INT_SKEW_US → startWin u e n t = opened u) ∧
    (∀ f, w.st = 0 → x.first = some f → f + usCycles * getF u R.INT_SKEW_US < t → startWin u e n t = closeWin u e n true) ∧
    (w.st = 1 → startWin u e n t = bump (closeWin u e n true) R.INT_EXTRA_CNT_COUNT))

/-- A data word at the head of a port's FIFO leaves it, FILL shows what remains, and its bytes go to the frame's slot in the
capture ring; a word whose check found an uncorrectable error is counted, raises its fault, marks the frame damaged and is
written as it was read, a corrected one is counted and raises its own. A tail word (tag 0) marks the window drained, and the
frame becomes final once every ganged port has drained. Frames whose tail words the full FIFO had held back then emit them. An
empty FIFO changes nothing. -/
def Obligations.FifoWordsDrainToTheCaptureRing : Prop :=
  ∀ (s : State) (n : SensorPort) (ecc : Ecc) (data : List Byte),
    ((sensPort s n).fifo = [] → exec (.fifoDrain n ecc data) s = .next s) ∧
    (∀ (w : FifoWord) (r : List FifoWord), (sensPort s n).fifo = w :: r →
      let p := put (modPort s n fun p => { p with fifo := r }) (R.INT_PORT_FIFO_STAT_FILL n) r.length
      let q := match ecc with
        | .ok => p
        | .ce => fault (bump p (R.INT_PORT_ECC_CE n)) (0x70 + n)
        | .ue => fault (modEv (bump p (R.INT_PORT_ECC_UE n)) w.ev fun x => { x with damaged := true }) 0x02
      let b := if ecc = .ue then sliceBytes data 0 w.tag else w.data.take w.tag
      (findEv s w.ev = none → exec (.fifoDrain n ecc data) s = .next (emitAll q)) ∧
      (∀ x : Frame, findEv s w.ev = some x →
        (w.tag = 0 → exec (.fifoDrain n ecc data) s = .next (emitAll (checkFinal (modWin q w.ev n fun v => { v with drained := true }) w.ev))) ∧
        (w.tag ≠ 0 → exec (.fifoDrain n ecc data) s = .next (emitAll (fsWrite q (segAddr q x n w.row w.off) b)))))

/-- A running view that completes the frame of a tick number with a source writes its rows to its next buffer, shows that buffer
as its last and counts it; with no source, while it does not run or without a free buffer nothing changes. A monitor port that
is on, without split, with a format that fits and a view that has a last frame, when it is due, starts that frame at this cycle:
the packets of R96 stand ready, and a repeat counts where it has sent that frame before. In split, where all its conditions
hold, one frame starts on both ports, each with its half of every row's columns. One read feeds both ports. A port whose format
does not fit, and both ports where split lacks a condition, send nothing and set BADFMT. -/
def Obligations.ViewsCompleteAndMonitorsStartFrames : Prop :=
  (∀ (s : State) (v : Fin 3) (part : Part) (tick b : Nat) (x : ViewSrc), viewSource s part tick = some x → viewRuns s x.old v = true →
    viewNextBuf s v tick = some b →
    let z := viewPlace s x.old v b
    let k := countSkip (countSkip s v 0) v 1
    let u := fsWrite k z.addr ((viewRows k x.old v x.pic x.cfa z.w z.h).flatMap fun r => (r.flatMap yuvBytes).take (z.w * 5 / 2))
    exec (.viewFrameDone v part tick) s =
      .next { u with intake := { u.intake with view := modAt u.intake.view v fun y => { y with last := some z, seqn := y.seqn + 1 } } }) ∧
  (∀ (s : State) (v : Fin 3) (part : Part) (tick : Nat),
    (viewSource s part tick = none ∨ viewNextBuf s v tick = none ∨ ∃ x, viewSource s part tick = some x ∧ viewRuns s x.old v = false) →
    exec (.viewFrameDone v part tick) s = .next s) ∧
  (∀ (s : State) (m : Fin 2) (t v : Nat) (z : ViewShot), let u := stamp s t
    let y := monSt s m
    monOn u m = true → splitAsked u = false → monFits u m = true → monView u m = some v → (viewSt s v).last = some z → monDue u m t = true →
    let c := if y.sentView = some v ∧ y.sentSeq = (viewSt s v).seqn then bump u (R.INT_MO_CNT_REPEAT m) else u
    let k := if y.number = 65535 then 1 else y.number + 1
    let r := monFetch c m v z
    exec (.moFrameStart m t) s = .next (modMon r.2 m fun _ =>
      { startAt := some t, number := k, acc := monAcc c m, buf := some z.buf, sentView := some v, sentSeq := (viewSt s v).seqn,
        out := [.short 0 0x00 k] ++ r.1.map (fun l => .long 0 0x1F l) ++ [.short 0 0x01 k] })) ∧
  (∀ (s : State) (m v : Nat) (z : ViewShot), let seqn := (viewSt s v).seqn
    let rows := (List.range z.h).map fun r => fsRead s (z.addr + r * (z.w * 5 / 2)) (z.w * 5 / 2)
    let fresh := { s with intake := { s.intake with read := some { view := v, seqn := seqn, rows := rows, fed := [m] }, reads := s.intake.reads + 1 } }
    (s.intake.read = none → monFetch s m v z = (rows, fresh)) ∧
    (∀ r, s.intake.read = some r →
      (r.view = v → r.seqn = seqn → r.fed.contains m = false →
        monFetch s m v z = (r.rows, { s with intake := { s.intake with read := some { r with fed := m :: r.fed } } })) ∧
      (r.view ≠ v ∨ r.seqn ≠ seqn ∨ r.fed.contains m = true → monFetch s m v z = (rows, fresh)))) ∧
  (∀ (s : State) (m : Fin 2) (t : Nat), let u := stamp s t
    let bad (x : State) (k : Nat) : State := put (modMon x k fun y => { y with startAt := none, acc := 0, buf := none, sentView := none, out := [] })
      (R.INT_MO_STAT_BADFMT k) 1
    (monOn u m = false → exec (.moFrameStart m t) s = .next u) ∧
    (monOn u m = true → splitAsked u = true → splitOk u = false → exec (.moFrameStart m t) s = .next (bad (bad u 0) 1)) ∧
    (monOn u m = true → splitAsked u = false → monFits u m = false → exec (.moFrameStart m t) s = .next (bad u m))) ∧
  (∀ (s : State) (m : Fin 2) (t v : Nat) (z : ViewShot), let u := stamp s t
    monOn u 0 = true → monOn u 1 = true → splitOk u = true → monFits u m = true → monView u m = some v → (viewSt s v).last = some z →
    monDue u m t = true → s.intake.mon.length = 2 →
    let f0 := monFetch u 0 v z
    ∃ x : State, exec (.moFrameStart m t) s = .next x ∧ ∀ k : Fin 2,
      let n := if (monSt s k).number = 65535 then 1 else (monSt s k).number + 1
      let rows := if k = 0 then f0.1 else (monFetch f0.2 1 v z).1
      (monSt x k).startAt = some t ∧ (monSt x k).number = n ∧ (monSt x k).out =
        [.short 0 0x00 n] ++ rows.map (fun r => .long 0 0x1F (sliceBytes r (k.val * (z.w / 2 * 5 / 2)) (z.w / 2 * 5 / 2))) ++ [.short 0 0x01 n])

/-! ## Sequencers: the Lysilo instruction set -/

/-- Where a word of code follows, finishing an instruction with register rd written by v at a charge of n cycles changes exactly
this: rd takes v in 64 bits (g0 takes nothing), the PC moves to the next word, and n cycles are charged to the program, to its
partition on that sequencer and to its quantum; a program that goes on with no cycles left in its slot counts one excess, once a
tick. This is the frame of every statement below that ends in seqWrite. Past the last word of code the program faults with cause
1 instead. -/
def Obligations.RegisterWriteMovesOnAndChargesNothingElse : Prop :=
  ∀ (s : State) (q p rd v n : Nat) (i : List Byte), q < s.seqs.seq.length → p < (seqOf s q).pair.length → activeImage s q p = some i →
    let o := ownerOf s q p
    let pc := (pairOf s q p).pc
    let z := if slotLeft s q p = 0 ∧ (pairOf s q p).excess = false then
        bump (modPair s q p fun y => { y with excess := true }) (R.SEQ_PAIR_EXCESS_CNT_COUNT q p)
      else s
    let u := modSeq z q fun x => { x with quantum := x.quantum + n, charged := modAt x.charged o (· + n), pair := modAt x.pair p fun y =>
      { y with gregs := if rd = 0 then y.gregs else setAt y.gregs rd (v % 2 ^ 64), charged := y.charged + n, pc := pc + 4 } }
    (pc + 4 < hdrCode i → seqWrite s q p rd v n = u) ∧
    (hdrCode i ≤ pc + 4 → seqWrite s q p rd v n = progFault u q p 1 (pc + 4) (pc + 4))

/-- When the word at the PC is the instruction's encoding (opcode 0, rd, ra, rb, zero, fn; rb zero for the one-operand forms),
each ALU instruction completes with rd the result of R289 on ra and rb, at the charge of R305: 3 cycles for MUL and MULHU, 1 for
the others. An instruction that comes within 24,000 cycles of the tick event is carried out at their end (R280). For these and
every other instruction of this section and the next that gives a next state of its own: with a corrected memory error the error
is counted and the instruction carried out as without; with an uncorrectable one the program faults with cause 8. -/
def Obligations.RegisterInstructionsComputeTheirResults : Prop :=
  ∀ (s : State) (q : Seq) (p : Nat) (rd ra rb : Fin 32),
    let word (rb fn : Nat) : Nat := 2 ^ 21 * rd.val + 2 ^ 16 * ra.val + 2 ^ 11 * rb + fn
    let a := greg s q p ra
    let b := greg s q p rb
    (Fetches s q p (word rb 0) → exec (.add q .ok rd ra rb) s = .next (seqWrite s q p rd ((a + b) % 2 ^ 64) 1)) ∧
    (Fetches s q p (word rb 1) → exec (.sub q .ok rd ra rb) s = .next (seqWrite s q p rd (wrap 64 ((a : Int) - b)) 1)) ∧
    (Fetches s q p (word rb 2) → exec (.and q .ok rd ra rb) s = .next (seqWrite s q p rd (a &&& b) 1)) ∧
    (Fetches s q p (word rb 3) → exec (.or q .ok rd ra rb) s = .next (seqWrite s q p rd (a ||| b) 1)) ∧
    (Fetches s q p (word rb 4) → exec (.xor q .ok rd ra rb) s = .next (seqWrite s q p rd (a ^^^ b) 1)) ∧
    (Fetches s q p (word rb 5) → exec (.shl q .ok rd ra rb) s = .next (seqWrite s q p rd (a * 2 ^ (b % 64) % 2 ^ 64) 1)) ∧
    (Fetches s q p (word rb 6) → exec (.shr q .ok rd ra rb) s = .next (seqWrite s q p rd (a / 2 ^ (b % 64)) 1)) ∧
    (Fetches s q p (word rb 7) → exec (.sar q .ok rd ra rb) s = .next (seqWrite s q p rd (wrap 64 (sext 64 a / (2 ^ (b % 64) : Nat))) 1)) ∧
    (Fetches s q p (word rb 8) → exec (.slt q .ok rd ra rb) s = .next (seqWrite s q p rd (if sext 64 a < sext 64 b then 1 else 0) 1)) ∧
    (Fetches s q p (word rb 9) → exec (.sltu q .ok rd ra rb) s = .next (seqWrite s q p rd (if a < b then 1 else 0) 1)) ∧
    (Fetches s q p (word rb 10) → exec (.mul q .ok rd ra rb) s = .next (seqWrite s q p rd (a * b % 2 ^ 64) 3)) ∧
    (Fetches s q p (word rb 11) → exec (.mulhu q .ok rd ra rb) s = .next (seqWrite s q p rd (a * b / 2 ^ 64) 3)) ∧
    (Fetches s q p (word rb 12) → exec (.min q .ok rd ra rb) s = .next (seqWrite s q p rd (if sext 64 a ≤ sext 64 b then a else b) 1)) ∧
    (Fetches s q p (word rb 13) → exec (.max q .ok rd ra rb) s = .next (seqWrite s q p rd (if sext 64 a ≤ sext 64 b then b else a) 1)) ∧
    (Fetches s q p (word rb 14) → exec (.minu q .ok rd ra rb) s = .next (seqWrite s q p rd (Nat.min a b) 1)) ∧
    (Fetches s q p (word rb 15) → exec (.maxu q .ok rd ra rb) s = .next (seqWrite s q p rd (Nat.max a b) 1)) ∧
    (Fetches s q p (word 0 16) → exec (.sextb q .ok rd ra) s = .next (seqWrite s q p rd (wrap 64 (sext 8 a)) 1)) ∧
    (Fetches s q p (word 0 17) → exec (.sexth q .ok rd ra) s = .next (seqWrite s q p rd (wrap 64 (sext 16 a)) 1)) ∧
    (Fetches s q p (word 0 18) → exec (.sextw q .ok rd ra) s = .next (seqWrite s q p rd (wrap 64 (sext 32 a)) 1)) ∧
    (Fetches s q p (word 0 19) → exec (.zextw q .ok rd ra) s = .next (seqWrite s q p rd (a % 2 ^ 32) 1)) ∧
    (Fetches s q p (word 0 21) → exec (.clz q .ok rd ra) s = .next (seqWrite s q p rd (if a = 0 then 64 else 63 - Nat.log2 a) 1)) ∧
    (let z := stamp s (s.tick.last + 24000)
     Fetches z q p (word rb 0) → exec (.add q .ok rd ra rb) s = exec (.add q .ok rd ra rb) z) ∧
    (∀ (imm : BitVec 16) (n : Fin 64) (sz : Fin 4) (off : BitVec 14) (br : BitVec 21) (dbl poll once : Bool) (src : BitVec 10) (tm : Fin 32)
      (det : Fin 16),
      let im (op imm : Nat) : Nat := 2 ^ 26 * op + 2 ^ 21 * rd.val + 2 ^ 16 * ra.val + imm
      let i := imm.toNat
      let b (op : Nat) : Nat := 2 ^ 26 * op + 2 ^ 21 * ra.val + br.toNat
      let m (op : Nat) : Nat := im op (2 ^ 14 * sz.val + off.toNat)
      let am (op : Nat) : Nat := im op (2 ^ 11 * rb.val + b2n dbl)
      let w (kind : Nat) : Nat := im 0x24 (kind + 2 ^ 15 * b2n poll)
      let forms : List ((Ecc → Instr) × Nat) :=
        [(fun e => .add q e rd ra rb, word rb 0), (fun e => .sub q e rd ra rb, word rb 1), (fun e => .and q e rd ra rb, word rb 2),
         (fun e => .or q e rd ra rb, word rb 3), (fun e => .xor q e rd ra rb, word rb 4), (fun e => .shl q e rd ra rb, word rb 5),
         (fun e => .shr q e rd ra rb, word rb 6), (fun e => .sar q e rd ra rb, word rb 7), (fun e => .slt q e rd ra rb, word rb 8),
         (fun e => .sltu q e rd ra rb, word rb 9), (fun e => .mul q e rd ra rb, word rb 10), (fun e => .mulhu q e rd ra rb, word rb 11),
         (fun e => .min q e rd ra rb, word rb 12), (fun e => .max q e rd ra rb, word rb 13), (fun e => .minu q e rd ra rb, word rb 14),
         (fun e => .maxu q e rd ra rb, word rb 15), (fun e => .sextb q e rd ra, word 0 16), (fun e => .sexth q e rd ra, word 0 17),
         (fun e => .sextw q e rd ra, word 0 18), (fun e => .zextw q e rd ra, word 0 19), (fun e => .jr q e rd ra, word 0 20),
         (fun e => .clz q e rd ra, word 0 21)] ++
        [(fun e => .addi q e rd ra imm, im 1 i), (fun e => .andi q e rd ra imm, im 2 i), (fun e => .ori q e rd ra imm, im 3 i),
         (fun e => .xori q e rd ra imm, im 4 i), (fun e => .slti q e rd ra imm, im 5 i), (fun e => .sltiu q e rd ra imm, im 6 i),
         (fun e => .lui q e rd imm, 2 ^ 26 * 7 + 2 ^ 21 * rd.val + i), (fun e => .shli q e rd ra n, im 9 n), (fun e => .shri q e rd ra n, im 10 n),
         (fun e => .sari q e rd ra n, im 11 n), (fun e => .beqz q e ra br, b 24), (fun e => .bnez q e ra br, b 25),
         (fun e => .bltz q e ra br, b 26), (fun e => .bgez q e ra br, b 27), (fun e => .bgtz q e ra br, b 28), (fun e => .blez q e ra br, b 29),
         (fun e => .jal q e ra br, b 30), (fun e => .halt q e imm, 2 ^ 26 * 0x3F + i)] ++
        [(fun e => .ld q e rd ra sz off, m 0x10), (fun e => .st q e rd ra sz off, m 0x11), (fun e => .amoadd q e rd ra rb dbl, am 0x14),
         (fun e => .amoswap q e rd ra rb dbl, am 0x15), (fun e => .cas q e rd ra rb dbl, am 0x16), (fun e => .fence q e, 2 ^ 26 * 0x17),
         (fun e => .sig q e rd ra src, im 0x23 src.toNat), (fun e => .waitTick q e rd ra poll, w 0), (fun e => .waitTag q e rd ra poll, w 1),
         (fun e => .waitTimer q e rd ra poll, w 2), (fun e => .waitEdge q e rd ra poll, w 3), (fun e => .waitDoorbell q e rd ra poll, w 4),
         (fun e => .tsetCancel q e rd ra tm, im 0x25 tm), (fun e => .tsetTickOneshot q e rd ra tm, im 0x25 (tm + 96)),
         (fun e => .tsetTickPeriodic q e rd ra tm, im 0x25 (tm + 128)), (fun e => .tgetPending q e rd ra tm, im 0x26 (tm + 32)),
         (fun e => .tgetLost q e rd ra tm, im 0x26 (tm + 64)), (fun e => .earmDisarm q e rd ra det once, im 0x27 (det + 64 * b2n once))]
      let pc := (pairOf s q p).pc
      ∀ x ∈ forms, Fetches s q p x.2 →
        exec (x.1 .ce) s = exec (x.1 .ok) (fault (bump s (R.SEQ_IMEM_ECC_CE q)) (fltSeqCe q)) ∧
        exec (x.1 .ue) s = .next (progFault (fault (bump s (R.SEQ_IMEM_ECC_UE q)) (fltSeqUe q)) q p 8 pc pc))

/-- When the word at the PC is the instruction's encoding (opcode, rd, ra, imm16), each immediate instruction completes with rd
its result on ra and the immediate, sign-extended for ADDI, SLTI, SLTIU and LUI, as it stands for ANDI, ORI and XORI, a shift
amount of 0 to 63 for the shifts. RDS gives the tick number, the partition, CYCLE at its time, or the cycles left in the slot. -/
def Obligations.ImmediateInstructionsComputeTheirResults : Prop :=
  ∀ (s : State) (q : Seq) (p : Nat) (rd ra : Fin 32) (imm : BitVec 16) (n : Fin 64),
    let word (op ra imm : Nat) : Nat := 2 ^ 26 * op + 2 ^ 21 * rd.val + 2 ^ 16 * ra + imm
    let a := greg s q p ra
    let i := imm.toNat
    (Fetches s q p (word 1 ra i) → exec (.addi q .ok rd ra imm) s = .next (seqWrite s q p rd (wrap 64 ((a : Int) + sext 16 i)) 1)) ∧
    (Fetches s q p (word 2 ra i) → exec (.andi q .ok rd ra imm) s = .next (seqWrite s q p rd (a &&& i) 1)) ∧
    (Fetches s q p (word 3 ra i) → exec (.ori q .ok rd ra imm) s = .next (seqWrite s q p rd (a ||| i) 1)) ∧
    (Fetches s q p (word 4 ra i) → exec (.xori q .ok rd ra imm) s = .next (seqWrite s q p rd (a ^^^ i) 1)) ∧
    (Fetches s q p (word 5 ra i) → exec (.slti q .ok rd ra imm) s = .next (seqWrite s q p rd (if sext 64 a < sext 16 i then 1 else 0) 1)) ∧
    (Fetches s q p (word 6 ra i) → exec (.sltiu q .ok rd ra imm) s = .next (seqWrite s q p rd (if a < wrap 64 (sext 16 i) then 1 else 0) 1)) ∧
    (Fetches s q p (word 7 0 i) → exec (.lui q .ok rd imm) s = .next (seqWrite s q p rd (wrap 64 (65536 * sext 16 i)) 1)) ∧
    (Fetches s q p (word 9 ra n) → exec (.shli q .ok rd ra n) s = .next (seqWrite s q p rd (a * 2 ^ n.val % 2 ^ 64) 1)) ∧
    (Fetches s q p (word 10 ra n) → exec (.shri q .ok rd ra n) s = .next (seqWrite s q p rd (a / 2 ^ n.val) 1)) ∧
    (Fetches s q p (word 11 ra n) → exec (.sari q .ok rd ra n) s = .next (seqWrite s q p rd (wrap 64 (sext 64 a / (2 ^ n.val : Nat))) 1)) ∧
    (∀ t : Nat, (Fetches s q p (word 8 0 0) → exec (.rds q .ok rd 0 t) s = .next (seqWrite (stamp s t) q p rd s.tick.no 1)) ∧
      (Fetches s q p (word 8 0 1) → exec (.rds q .ok rd 1 t) s = .next (seqWrite (stamp s t) q p rd (ownerOf s q p) 1)) ∧
      (Fetches s q p (word 8 0 2) → exec (.rds q .ok rd 2 t) s = .next (seqWrite (stamp s t) q p rd (max s.clk t % 2 ^ 64) 1)) ∧
      (Fetches s q p (word 8 0 3) → exec (.rds q .ok rd 3 t) s = .next (seqWrite (stamp s t) q p rd (slotLeft s q p) 1)))

/-- When the word at the PC is the instruction's encoding (opcode, ra, a signed offset of 21 bits counted in words): a
conditional branch whose condition on ra holds goes on at PC + 4 × offset for 3 cycles, else at the next word for 1; JAL writes
PC + 4 to ra and branches; JR writes PC + 4 to rd and goes on at the address in ra, or faults with cause 1 where that lies
outside the code or is no multiple of 4; HALT records its code with CAUSE 0 and its PC, raises PROG_HALT and stops the program. -/
def Obligations.BranchesJumpsAndHaltGoWhereTheySay : Prop :=
  ∀ (s : State) (q : Seq) (p : Nat) (rd ra : Fin 32) (off : BitVec 21) (imm : BitVec 16),
    let word (op : Nat) : Nat := 2 ^ 26 * op + 2 ^ 21 * ra.val + off.toNat
    let a := greg s q p ra
    let pc := (pairOf s q p).pc
    let target := ((pc : Int) + 4 * sext 21 off.toNat).toNat
    let taken := seqGoto (charge s q p 3) q p target
    (Fetches s q p (word 24) → exec (.beqz q .ok ra off) s = .next (if a = 0 then taken else seqNext s q p 1)) ∧
    (Fetches s q p (word 25) → exec (.bnez q .ok ra off) s = .next (if a ≠ 0 then taken else seqNext s q p 1)) ∧
    (Fetches s q p (word 26) → exec (.bltz q .ok ra off) s = .next (if sext 64 a < 0 then taken else seqNext s q p 1)) ∧
    (Fetches s q p (word 27) → exec (.bgez q .ok ra off) s = .next (if 0 ≤ sext 64 a then taken else seqNext s q p 1)) ∧
    (Fetches s q p (word 28) → exec (.bgtz q .ok ra off) s = .next (if 0 < sext 64 a then taken else seqNext s q p 1)) ∧
    (Fetches s q p (word 29) → exec (.blez q .ok ra off) s = .next (if sext 64 a ≤ 0 then taken else seqNext s q p 1)) ∧
    (Fetches s q p (word 0x1E) → exec (.jal q .ok ra off) s = .next (seqGoto (charge (setGreg s q p ra (pc + 4)) q p 3) q p target)) ∧
    (∀ i, Fetches s q p (2 ^ 21 * rd.val + 2 ^ 16 * ra.val + 0x14) → activeImage s q p = some i →
      exec (.jr q .ok rd ra) s = .next (if hdrCode i ≤ a ∨ a % 4 ≠ 0 then progFault s q p 1 pc a
        else seqGoto (charge (setGreg s q p rd (pc + 4)) q p 3) q p a)) ∧
    (Fetches s q p (2 ^ 26 * 0x3F + imm.toNat) →
      let h := put (put (put (charge s q p 1) (R.SEQ_PAIR_FAULT_CAUSE q p) 0) (R.SEQ_PAIR_FAULT_PC q p) pc) (R.SEQ_PAIR_FAULT_CODE q p) imm.toNat
      exec (.halt q .ok imm) s = .next (leave (raiseP h (ownerOf s q p) srcProgHalt) q p stHalted))

/-- When the word at the PC is the instruction's encoding and the address lies aligned inside the partition's part of scratch
memory: LD gives the bytes there, little-endian, where no buffered store meets them (4 cycles), the bytes of the youngest
buffered store that meets them where that holds exactly these, else the bytes there once the buffer has drained through that
store; ST puts its bytes at the end of the store buffer (1 cycle), a full one draining its oldest store first for a stall whose
length is free; STORE_BUFFER_DRAIN makes the oldest store visible; an atomic gives the old cell and writes the sum, the new
value, or the new value only where the old one equals rd (12 cycles); FENCE drains the buffer, with a free stall where it is not
empty. A misaligned address faults with cause 3, one outside with cause 2, and nothing is loaded or stored. An access through a
frame store window reads or writes the bytes at the window's base plus offset, with a stall whose length is free, and a read
that fails faults with cause 6; one through a host window is queued and stalls the program; one that the window does not hold
faults with cause 4. -/
def Obligations.MemoryInstructionsAccessScratchAndWindows : Prop :=
  ∀ (s : State) (q : Seq) (p : Nat) (rd ra rb : Fin 32) (sz : Fin 4) (off : BitVec 14) (dbl : Bool),
    let word (op : Nat) : Nat := 2 ^ 26 * op + 2 ^ 21 * rd.val + 2 ^ 16 * ra.val + 2 ^ 14 * sz.val + off.toNat
    let amo (op : Nat) : Nat := 2 ^ 26 * op + 2 ^ 21 * rd.val + 2 ^ 16 * ra.val + 2 ^ 11 * rb.val + b2n dbl
    let a := wrap 64 ((greg s q p ra : Int) + sext 14 off.toNat)
    let n := 2 ^ sz.val
    let o := ownerOf s q p
    let c := greg s q p ra
    let m := if dbl then 8 else 4
    let d := drainAll s q p
    let x := ssmBase d o + c
    let old := leVal (ssmRead d x m)
    (a % n = 0 → a + n ≤ ssmSize s o → youngestOverlap (pairOf s q p).sbuf (ssmBase s o + a) n = none →
      Fetches s q p (word 0x10) → exec (.ld q .ok rd ra sz off) s = .next (seqWrite s q p rd (leVal (ssmRead s (ssmBase s o + a) n)) 4)) ∧
    (∀ (k : Nat) (b : BufStore), a % n = 0 → a + n ≤ ssmSize s o →
      youngestOverlap (pairOf s q p).sbuf (ssmBase s o + a) n = some (k, b) → Fetches s q p (word 0x10) →
      exec (.ld q .ok rd ra sz off) s =
        .next (if b.addr = ssmBase s o + a ∧ b.bytes.length = n then seqWrite s q p rd (leVal b.bytes) 4
          else let z := forN k (fun _ z => drainOne z q p) s
            seqWrite z q p rd (leVal (ssmRead z (ssmBase s o + a) n)) 4)) ∧
    (a % n = 0 → a + n ≤ ssmSize s o → Fetches s q p (word 0x11) →
      let st (z : State) : State := modPair z q p fun y =>
        { y with sbuf := y.sbuf ++ [{ addr := ssmBase s o + a, bytes := leBytes n (greg s q p rd) }] }
      exec (.st q .ok rd ra sz off) s =
        .next (if (pairOf s q p).sbuf.length < 8 then seqNext (st s) q p 1 else seqNext (st (drainOne (useFree s) q p)) q p (1 + freeVal s))) ∧
    (a % n ≠ 0 → a + n ≤ ssmSize s o → Fetches s q p (word 0x10) →
      exec (.ld q .ok rd ra sz off) s = .next (progFault s q p 3 (pairOf s q p).pc a)) ∧
    (a % n ≠ 0 → a + n ≤ ssmSize s o → Fetches s q p (word 0x11) →
      exec (.st q .ok rd ra sz off) s = .next (progFault s q p 3 (pairOf s q p).pc a)) ∧
    (ssmSize s o < a + n →
      (Fetches s q p (word 0x10) → exec (.ld q .ok rd ra sz off) s = .next (progFault s q p 2 (pairOf s q p).pc a)) ∧
      (Fetches s q p (word 0x11) → exec (.st q .ok rd ra sz off) s = .next (progFault s q p 2 (pairOf s q p).pc a))) ∧
    (∀ (b : BufStore) (r : List BufStore), (seqOf s q).cur = some p → (pairOf s q p).sbuf = b :: r →
      exec (.storeBufferDrain q) s = .next (ssmWrite (modPair s q p fun y => { y with sbuf := r }) b.addr b.bytes)) ∧
    (c % m = 0 → c + m ≤ ssmSize s o →
      (Fetches s q p (amo 0x14) → exec (.amoadd q .ok rd ra rb dbl) s =
        .next (seqWrite (ssmWrite d x (leBytes m (old + greg s q p rb % 2 ^ (8 * m)))) q p rd old 12)) ∧
      (Fetches s q p (amo 0x15) → exec (.amoswap q .ok rd ra rb dbl) s =
        .next (seqWrite (ssmWrite d x (leBytes m (greg s q p rb % 2 ^ (8 * m)))) q p rd old 12)) ∧
      (Fetches s q p (amo 0x16) → exec (.cas q .ok rd ra rb dbl) s =
        .next (seqWrite (if old = greg s q p rd % 2 ^ (8 * m) then ssmWrite d x (leBytes m (greg s q p rb % 2 ^ (8 * m))) else d) q p rd old 12))) ∧
    (∀ i : Nat, i = (if c + m ≤ ssmSize s o then 3 else 2) → (c % m ≠ 0 ∨ ssmSize s o < c + m) →
      let flt := progFault s q p i (pairOf s q p).pc c
      (Fetches s q p (amo 0x14) → exec (.amoadd q .ok rd ra rb dbl) s = .next flt) ∧
      (Fetches s q p (amo 0x15) → exec (.amoswap q .ok rd ra rb dbl) s = .next flt) ∧
      (Fetches s q p (amo 0x16) → exec (.cas q .ok rd ra rb dbl) s = .next flt)) ∧
    (Fetches s q p (2 ^ 26 * 0x17) → exec (.fence q .ok) s =
      .next (if (pairOf s q p).sbuf = [] then seqNext d q p 1 else seqNext (drainAll (useFree s) q p) q p (1 + freeVal s))) ∧
    (∀ (t : Nat) (i : List Byte), activeImage s q p = some i →
      let w := winRef i a
      let v := stamp s t
      let in_ : Prop := a % n = 0 ∧ bits a 51 13 = 0 ∧ w.off + n ≤ w.size ∧ w.size ≠ 0
      (in_ → w.host = false →
        (Fetches s q p (word 0x12) →
          exec (.ldw q .ok rd ra sz off false t) s =
            .next (seqWrite (useFree v) q p rd (leVal (fsRead s (w.base + w.off) n)) (4 + freeVal s)) ∧
          exec (.ldw q .ok rd ra sz off true t) s = .next (progFault v q p 6 (pairOf s q p).pc a)) ∧
        (w.wr = true → Fetches s q p (word 0x13) → exec (.stw q .ok rd ra sz off t) s =
          .next (seqNext (fsWrite (useFree v) (w.base + w.off) (leBytes n (greg s q p rd))) q p (4 + freeVal s)))) ∧
      (in_ → w.host = true → ∀ ue : Bool,
        (Fetches s q p (word 0x12) → exec (.ldw q .ok rd ra sz off ue t) s = .next (hostLoad v q p rd (w.base + w.off) n v.clk)) ∧
        (w.wr = true → Fetches s q p (word 0x13) → exec (.stw q .ok rd ra sz off t) s =
          .next (hostStore v q p (w.base + w.off) v.clk (leBytes n (greg s q p rd))))) ∧
      (∀ ue : Bool, a % n = 0 → (w.size < w.off + n → Fetches s q p (word 0x12) →
          exec (.ldw q .ok rd ra sz off ue t) s = .next (progFault v q p 4 (pairOf s q p).pc a)) ∧
        (w.wr = false → Fetches s q p (word 0x13) → exec (.stw q .ok rd ra sz off t) s = .next (progFault v q p 4 (pairOf s q p).pc a))))

/-! ## Sequencers: device instructions and events -/

/-- When the word at the PC is the encoding and no reset or anchor has ended the partition's device instructions: the store
buffer drains; a pointer in ra that meets a cause of R306 faults with it; else ISSUE and SPOOL read the 128 or 64 bytes of the
descriptor from scratch memory (32 cycles) or through a frame store window (32 cycles and a free stall; a failed read faults
with cause 6), pass them on and write the status to rd, or stall for a descriptor in host memory; MOVE starts the channel where
the owner's channel is idle and the mover not halted, else gives BUSY or PRIV_DENIED (16 cycles); SIG raises source ra + imm
where the partition may, else gives PRIV_DENIED (4 cycles). Afterwards whatever the descriptor set going goes on. In a partition
being reset, and once the anchor has acted, each gives ABORTED and does nothing more. -/
def Obligations.DescriptorInstructionsPassOnWhatTheyName : Prop :=
  ∀ (s : State) (q : Seq) (p : Nat) (rd ra : Fin 32) (sel : Fin 8) (chan : Chan) (src : BitVec 10) (ue : Bool) (t : Nat),
    let word (op imm : Nat) : Nat := 2 ^ 26 * op + 2 ^ 21 * rd.val + 2 ^ 16 * ra.val + imm
    let v := drainAll (stamp s t) q p
    let d := drainAll s q p
    let o := ownerOf s q p
    let pc := (pairOf s q p).pc
    let ptr := greg s q p ra
    let r := descRef v q p ptr
    (devDead s o = false →
      (∀ (k : Option Nat) (n : Nat) (i : Instr), (k = none ∧ n = 128 ∧ i = .issue q .ok rd ra ue t ∧ Fetches s q p (word 0x20 0)) ∨
          (k = some sel.val ∧ n = 64 ∧ i = .spool q .ok rd ra sel ue t ∧ Fetches s q p (word 0x22 sel)) →
        let c := descCause v q p ptr 64 0 n
        (c ≠ 0 → Completes i s (progFault v q p c pc ptr)) ∧
        (c = 0 → r.space = 0 → Completes i s (descPass v q p rd r k (ssmRead v r.addr n) 32)) ∧
        (c = 0 → r.space = 1 → ue = false →
          Completes i s (descPass (useFree v) q p rd r k (fsRead v r.addr n) (32 + freeVal v))) ∧
        (c = 0 → r.space = 1 → ue = true → Completes i s (progFault v q p 6 pc ptr)) ∧
        (c = 0 → r.space = 2 → Completes i s (modPair (startOp v o (.load q rd) r.addr n false []) q p fun y =>
          { y with stall := some { op := v.host.nextOp, since := v.clk, kind := if k.isNone then 1 else 2, rd := rd, sel := k.getD 0, ptr := ptr } }))) ∧
      (Fetches s q p (word 0x21 chan) →
        let c := descCause d q p ptr 8 8 32
        let e := descRef d q p ptr
        (c ≠ 0 → Completes (.move q .ok rd ra chan) s (progFault d q p c pc ptr)) ∧
        (c = 0 → chOwner d chan = some o → chState d chan = chIdle → movHalted d = false →
          Completes (.move q .ok rd ra chan) s (seqWrite (chStart d chan e.space e.addr e.lo e.hi none) q p rd 0 16)) ∧
        (c = 0 → chOwner d chan = some o → (chState d chan ≠ chIdle ∨ movHalted d = true) →
          Completes (.move q .ok rd ra chan) s (seqWrite d q p rd 0x20 16)) ∧
        (c = 0 → chOwner d chan ≠ some o → Completes (.move q .ok rd ra chan) s (seqWrite d q p rd 0x10 16))) ∧
      (let n := (ptr + src.toNat) % 1024
       Fetches s q p (word 0x23 src.toNat) → exec (.sig q .ok rd ra src) s =
        .next (if mayRaise d o n then seqWrite (raise d n) q p rd 0 4 else seqWrite d q p rd 0x10 4))) ∧
    (devDead s o = true →
      (Fetches s q p (word 0x20 0) → Completes (.issue q .ok rd ra ue t) s (seqWrite v q p rd 0x0D 32)) ∧
      (Fetches s q p (word 0x22 sel) → Completes (.spool q .ok rd ra sel ue t) s (seqWrite v q p rd 0x0D 32)) ∧
      (Fetches s q p (word 0x21 chan) → Completes (.move q .ok rd ra chan) s (seqWrite d q p rd 0x0D 16)) ∧
      (Fetches s q p (word 0x23 src.toNat) → exec (.sig q .ok rd ra src) s = .next (seqWrite d q p rd 0x0D 4)))

/-- When the word at the PC is the encoding of WAIT in its kind and the partition is not being reset: where the object has what
is waited for, rd receives it and it is consumed (0 for a done tag, the pending expiries of a timer, the oldest capture of a
detector, the count of a doorbell); where it has not, a polling WAIT gives −1 and any other blocks the program on the object and
lets the sequencer pick another; what is posted for a program that a migration moves is left to it. A tag never issued gives −2,
a number outside the object's range −3. A tick WAIT always waits for the next boundary, or polls −1. In a partition being reset
every WAIT gives −2. Each is charged 4 cycles. -/
def Obligations.WaitTakesPollsOrBlocks : Prop :=
  ∀ (s : State) (q : Seq) (p : Nat) (rd ra : Fin 32) (poll : Bool),
    let word (kind : Nat) : Nat := 2 ^ 26 * 0x24 + 2 ^ 21 * rd.val + 2 ^ 16 * ra.val + (kind + 2 ^ 15 * b2n poll)
    let o := ownerOf s q p
    let x := greg s q p ra
    let give (s : State) (v : Nat) : State := seqWrite s q p rd v 4
    let wait (kind obj : Nat) : State := if poll then give s (2 ^ 64 - 1) else blockOn (charge s q p 4) q p kind obj rd
    (devDead s o = true → let none_ : State := give s (2 ^ 64 - 2)
      (Fetches s q p (word 0) → exec (.waitTick q .ok rd ra poll) s = .next none_) ∧
      (Fetches s q p (word 1) → exec (.waitTag q .ok rd ra poll) s = .next none_) ∧
      (Fetches s q p (word 2) → exec (.waitTimer q .ok rd ra poll) s = .next none_) ∧
      (Fetches s q p (word 3) → exec (.waitEdge q .ok rd ra poll) s = .next none_) ∧
      (Fetches s q p (word 4) → exec (.waitDoorbell q .ok rd ra poll) s = .next none_)) ∧
    (devDead s o = false →
    (Fetches s q p (word 0) → exec (.waitTick q .ok rd ra poll) s = .next (wait 0 0)) ∧
    (Fetches s q p (word 1) →
      (lookupKey (partOf s o).tags (x % 2 ^ 16) = some true →
        exec (.waitTag q .ok rd ra poll) s = .next (if heldFor s o 1 (x % 2 ^ 16) then wait 1 (x % 2 ^ 16) else give (modPart s o fun y => { y with tags := eraseKey y.tags (x % 2 ^ 16) }) 0)) ∧
      (lookupKey (partOf s o).tags (x % 2 ^ 16) = some false → exec (.waitTag q .ok rd ra poll) s = .next (wait 1 (x % 2 ^ 16))) ∧
      (lookupKey (partOf s o).tags (x % 2 ^ 16) = none → exec (.waitTag q .ok rd ra poll) s = .next (give s (2 ^ 64 - 2)))) ∧
    (Fetches s q p (word 2) →
      (x < 32 → get s (R.TICK_TMR_STAT_PEND o x) ≠ 0 → exec (.waitTimer q .ok rd ra poll) s =
        .next (if heldFor s o 2 x then wait 2 x else give (put s (R.TICK_TMR_STAT_PEND o x) 0) (get s (R.TICK_TMR_STAT_PEND o x)))) ∧
      (x < 32 → get s (R.TICK_TMR_STAT_PEND o x) = 0 → exec (.waitTimer q .ok rd ra poll) s = .next (wait 2 x)) ∧
      (32 ≤ x → exec (.waitTimer q .ok rd ra poll) s = .next (give s (2 ^ 64 - 3)))) ∧
    (Fetches s q p (word 3) →
      (∀ (c : Nat) (r : List Nat), x < 16 → capsOf s o x = c :: r → exec (.waitEdge q .ok rd ra poll) s =
        .next (if heldFor s o 3 x then wait 3 x else give (setCaps s o x r) c)) ∧
      (x < 16 → capsOf s o x = [] → exec (.waitEdge q .ok rd ra poll) s = .next (wait 3 x)) ∧
      (16 ≤ x → exec (.waitEdge q .ok rd ra poll) s = .next (give s (2 ^ 64 - 3)))) ∧
    (Fetches s q p (word 4) →
      (x < 16 → nth (partOf s o).bells x 0 ≠ 0 → exec (.waitDoorbell q .ok rd ra poll) s =
        .next (if heldFor s o 4 x then wait 4 x else give (modPart s o fun y => { y with bells := setAt y.bells x 0 }) (nth (partOf s o).bells x 0))) ∧
      (x < 16 → nth (partOf s o).bells x 0 = 0 → exec (.waitDoorbell q .ok rd ra poll) s = .next (wait 4 x)) ∧
      (16 ≤ x → exec (.waitDoorbell q .ok rd ra poll) s = .next (give s (2 ^ 64 - 3)))))

/-- When the word at the PC is the encoding and the partition is not being reset: TSET cancels a timer, or loads it in its mode
where ra is in range, else gives BAD_ARG and leaves it alone; TGET gives the nanoseconds to the next expiry (0 when idle), the
pending expiries, or the lost count, which it clears; EARM arms a detector on a bonded line of the partition's own or on one of
the two inputs beside them, or disarms it, and gives BAD_ARG or PRIV_DENIED otherwise. A partition being reset gets ABORTED,
from TGET 0. Each is charged 4 cycles; TSET and EARM drain the store buffer first. -/
def Obligations.TimersAndDetectorsAreSetReadAndArmed : Prop :=
  ∀ (s : State) (q : Seq) (p : Nat) (rd ra tm : Fin 32) (det : Fin 16) (once : Bool) (t : Nat),
    let word (op imm : Nat) : Nat := 2 ^ 26 * op + 2 ^ 21 * rd.val + 2 ^ 16 * ra.val + imm
    let o := ownerOf s q p
    let x := greg s q p ra
    let d := drainAll s q p
    let v := drainAll (stamp s t) q p
    let give (s : State) (st : Nat) : State := seqWrite s q p rd st 4
    let line (x : Nat) : Nat :=
      if 50 ≤ x then 0x21 else if x < 48 ∧ ¬ (isSet s (R.PIN_GL_OWNER_VALID x) = true ∧ get s (R.PIN_GL_OWNER_PART x) = o) then 0x10 else 0
    (devDead s o = true → ∀ edges : Fin 4, edges.val ≠ 0 →
      (Fetches s q p (word 0x25 tm) → exec (.tsetCancel q .ok rd ra tm) s = .next (give d 0x0D)) ∧
      (Fetches s q p (word 0x25 (tm + 32)) → exec (.tsetOneshot q .ok rd ra tm t) s = .next (give v 0x0D)) ∧
      (Fetches s q p (word 0x25 (tm + 64)) → exec (.tsetPeriodic q .ok rd ra tm t) s = .next (give v 0x0D)) ∧
      (Fetches s q p (word 0x25 (tm + 96)) → exec (.tsetTickOneshot q .ok rd ra tm) s = .next (give d 0x0D)) ∧
      (Fetches s q p (word 0x25 (tm + 128)) → exec (.tsetTickPeriodic q .ok rd ra tm) s = .next (give d 0x0D)) ∧
      (Fetches s q p (word 0x26 tm) → exec (.tgetNs q .ok rd ra tm t) s = .next (give (stamp s t) 0)) ∧
      (Fetches s q p (word 0x26 (tm + 32)) → exec (.tgetPending q .ok rd ra tm) s = .next (give s 0)) ∧
      (Fetches s q p (word 0x26 (tm + 64)) → exec (.tgetLost q .ok rd ra tm) s = .next (give s 0)) ∧
      (Fetches s q p (word 0x27 (det + 16 * edges.val + 64 * b2n once)) → exec (.earmArm q .ok rd ra det edges once) s = .next (give d 0x0D)) ∧
      (Fetches s q p (word 0x27 (det + 64 * b2n once)) → exec (.earmDisarm q .ok rd ra det once) s = .next (give d 0x0D))) ∧
    (devDead s o = false →
    (Fetches s q p (word 0x25 tm) → exec (.tsetCancel q .ok rd ra tm) s = .next (give (tmrCancel d o tm) 0)) ∧
    (Fetches s q p (word 0x25 (tm + 32)) → exec (.tsetOneshot q .ok rd ra tm t) s =
      .next (if 1 ≤ x ∧ x ≤ 2 ^ 40 then give (tmrLoad v o tm 1 x v.clk) 0 else give v 0x21)) ∧
    (Fetches s q p (word 0x25 (tm + 64)) → exec (.tsetPeriodic q .ok rd ra tm t) s =
      .next (if 1 ≤ x ∧ x ≤ 2 ^ 40 then give (tmrLoad v o tm 2 x v.clk) 0 else give v 0x21)) ∧
    (Fetches s q p (word 0x25 (tm + 96)) → exec (.tsetTickOneshot q .ok rd ra tm) s =
      .next (if (x + 1) * s.tick.num ≤ 10 ^ 9 * s.tick.den then give (tmrLoad d o tm 3 x d.clk) 0 else give d 0x21)) ∧
    (Fetches s q p (word 0x25 (tm + 128)) → exec (.tsetTickPeriodic q .ok rd ra tm) s =
      .next (if (x + 1) * s.tick.num ≤ 10 ^ 9 * s.tick.den then give (tmrLoad d o tm 4 x d.clk) 0 else give d 0x21)) ∧
    (Fetches s q p (word 0x26 tm) → tmrMode s o tm = 0 → exec (.tgetNs q .ok rd ra tm t) s = .next (give (stamp s t) 0)) ∧
    (∀ e : Nat, Fetches s q p (word 0x26 tm) → tmrMode s o tm ≠ 0 → (timerOf s o tm).due = some e → (e - max s.clk t) * 5 % 6 = 0 →
      exec (.tgetNs q .ok rd ra tm t) s = .next (give (stamp s t) ((e - max s.clk t) * 5 / 6))) ∧
    (Fetches s q p (word 0x26 (tm + 32)) → exec (.tgetPending q .ok rd ra tm) s = .next (give s (get s (R.TICK_TMR_STAT_PEND o tm)))) ∧
    (Fetches s q p (word 0x26 (tm + 64)) → exec (.tgetLost q .ok rd ra tm) s =
      .next (give (modTimer s o tm fun y => { y with lost := 0 }) (timerOf s o tm).lost)) ∧
    (Fetches s q p (word 0x26 tm) → tmrMode s o tm ≠ 0 → (timerOf s o tm).due = none →
      exec (.tgetNs q .ok rd ra tm t) s = .next (give (useFree (stamp s t)) (freeVal s))) ∧
    (∀ edges : Fin 4, edges.val ≠ 0 → Fetches s q p (word 0x27 (det + 16 * edges.val + 64 * b2n once)) →
      exec (.earmArm q .ok rd ra det edges once) s = .next (give (if line x = 0 then edgeArm d o det x edges once else d) (line x))) ∧
    (Fetches s q p (word 0x27 (det + 64 * b2n once)) → exec (.earmDisarm q .ok rd ra det once) s =
      .next (give (if line x = 0 then put (put (edgeDisarm d o det) (R.TICK_EDGE_CFG_INPUT o det) x) (R.TICK_EDGE_CFG_ONCE o det) (b2n once)
        else d) (line x))))

/-- A program that has run its 512 cycles gives way and stays runnable. A timer that has reached its next expiry moves on to the
next one (R321, R322) and expires to its partition. An armed detector takes a level first sampled 12 cycles before on a line
that is not settling after a switch; one that differs from the level it took before, in a direction it wants, is captured; the
first level it takes counts as a change (log entry 47). A write to a program doorbell through the window of a present partition
that is not being reset rings it; during a reset it is ignored. -/
def Obligations.QuantaTimersEdgesAndDoorbellsTakeEffect : Prop :=
  (∀ (s : State) (q : Seq) (p : Nat), (seqOf s q).cur = some p → 512 ≤ (seqOf s q).quantum →
    exec (.quantumExpiry q) s = .next (leave s q p stRunnable)) ∧
  (∀ (s : State) (p : Part) (tm : Fin 32) (t d : Nat), (timerOf s p tm).due = some d →
    exec (.timerExpiry p tm t) s = .next (if d ≤ t then tmrExpire (tmrNext (stamp s t) p tm) p tm else s)) ∧
  (∀ (s : State) (p : Part) (det : Fin 16) (rise : Bool) (t : Nat),
    let x := get s (R.TICK_EDGE_CFG_INPUT p det)
    let edges := get s (R.TICK_EDGE_CFG_EDGES p det)
    let v := modPart (stamp s t) p fun y => { y with level := setAt y.level det (some rise) }
    (edges ≠ 0 → lineSettling s x (t - 12) = false → levelOf s p det ≠ some rise →
      exec (.edgeCapture p det rise t) s =
        .next (if (if rise then bitAt edges 0 else bitAt edges 1) then edgeTake v p det (t - 12) else v)) ∧
    (levelOf s p det = some rise ∨ edges = 0 ∨ lineSettling s x (t - 12) = true → exec (.edgeCapture p det rise t) s = .next s)) ∧
  (∀ (s : State) (p : Part) (k : Fin 16), unitsRun s = true → present s p = true →
    exec (.programDoorbell p k) s = .next (if (partOf s p).rst = 0 then bellRing s p k else s))

/-! ## The strands: microwords -/

/-- When the strand fetches the word without error, and the word is legal, has no memory, stack or commit part and goes on
sequentially: DST takes the result of the operation of R251 on the 32-bit sources, the immediate and the old DST; ZERO and NEG
follow the result; ADD, SUB, ADDI and CMP set CARRY (of a subtraction, in the convention that the spec leaves open: log entry 40
and Config.carryIsBorrow), the others keep it; CMP writes no register, and u0 is never written. The microPC advances by one. A
code from 0x10 up is illegal: CUSTOM_FAULT in open store code, else fray cause 6. Nothing else changes. -/
def Obligations.AluMicrowordsComputeResultsAndFlags : Prop :=
  ∀ (s : State) (n : Strand) (w : MicroWord) (eng : Bool),
    let x := strandOf s n
    let pc := get s (R.STR_UPC_ADDR n)
    let a := ureg x (uSrcA w)
    let b := ureg x (uSrcB w)
    let d := ureg x (uDst w)
    let sa := sext 32 a
    let sb := sext 32 b
    let si := sext 16 (uImm w)
    let sub := if Config.carryIsBorrow then decide (a < b) else decide (b ≤ a)
    let next (f : StrandSt → StrandSt) : State := put (modStrand s n f) (R.STR_UPC_ADDR n) ((pc + 1) % 8192)
    let flags (z : StrandSt) (r : Nat) (c : Option Bool) : StrandSt := { z with zero := r == 0, neg := bitAt r 31, carry := c.getD z.carry }
    let res (r : Nat) (c : Option Bool) : State := next fun z =>
      if uDst w = 0 then flags z r c else { flags z r c with u := setAt z.u (uDst w) (r % 2 ^ 32) }
    frayed s n = false → strState s n ≠ strQuar → fetchWord s pc = some w → uMem w = 0 → uNx w = 0 → uStk w = 0 → uCommit w = false →
    (uBad s n (inStore pc) w = false →
    (uAlu w = 1 → Completes (.uAdd n .ok w eng) s (res ((a + b) % 2 ^ 32) (some (decide (2 ^ 32 ≤ a + b))))) ∧
    (uAlu w = 2 → Completes (.uSub n .ok w eng) s (res (wrap 32 (sa - sb)) (some sub))) ∧
    (uAlu w = 3 → Completes (.uAnd n .ok w eng) s (res (a &&& b) none)) ∧
    (uAlu w = 4 → Completes (.uOr n .ok w eng) s (res (a ||| b) none)) ∧
    (uAlu w = 5 → Completes (.uXor n .ok w eng) s (res (a ^^^ b) none)) ∧
    (uAlu w = 6 → Completes (.uShl n .ok w eng) s (res (a * 2 ^ (b % 32) % 2 ^ 32) none)) ∧
    (uAlu w = 7 → Completes (.uShr n .ok w eng) s (res (a / 2 ^ (b % 32)) none)) ∧
    (uAlu w = 8 → Completes (.uSar n .ok w eng) s (res (wrap 32 (sar sa (b % 32))) none)) ∧
    (uAlu w = 9 → Completes (.uMul n .ok w eng) s (res (wrap 32 (sa * sb)) none)) ∧
    (uAlu w = 10 → Completes (.uMin n .ok w eng) s (res (wrap 32 (min sa sb)) none)) ∧
    (uAlu w = 11 → Completes (.uMax n .ok w eng) s (res (wrap 32 (max sa sb)) none)) ∧
    (uAlu w = 12 → Completes (.uLi n .ok w eng) s (res (wrap 32 si) none)) ∧
    (uAlu w = 13 → Completes (.uLui n .ok w eng) s (res (2 ^ 16 * uImm w + d % 2 ^ 16) none)) ∧
    (uAlu w = 14 → Completes (.uAddi n .ok w eng) s (res (wrap 32 (sa + si)) (some (decide (2 ^ 32 ≤ a + wrap 32 si))))) ∧
    (uAlu w = 15 → Completes (.uCmp n .ok w eng) s (next fun z => flags z (wrap 32 (sa - sb)) (some sub)))) ∧
    (0x10 ≤ uAlu w → Completes (.uAdd n .ok w eng) s (if inStore pc then customFault s n else fray s n 6))

/-- When the strand fetches the word and it is legal: LD and LDH load a zero-extended word or half-word at u[SRCA] + IMM, ST and
STH store one, in SRAM; a branch goes to TARGET when its condition holds, else on; a wait stays until its condition holds; CALL
pushes the next address and RETURN pops one; COMMIT hands the matched rows to the commit engine; dispatch waits for a job and
takes the entry of its opcode. An access outside its areas by open store code is CUSTOM_FAULT; a word at an unmapped address, or
an illegal one, is CUSTOM_FAULT in open store code and fray cause 6 elsewhere. A return with an empty stack, or a dispatch, ends
an open store routine; COMMIT in a CUSTOM routine copies its area to OUT through the epoch gate. An uncorrectable fetch error,
and any in ROM, is counted and is fray cause 4; a correctable one in RAM is counted, noted and passed over. Nothing else
changes. -/
def Obligations.MemoryControlAndCommitMicrowordsTakeEffect : Prop :=
  ∀ (s : State) (n : Strand) (w : MicroWord) (eng : Bool),
    let x := strandOf s n
    let pc := get s (R.STR_UPC_ADDR n)
    let seq := (pc + 1) % 8192
    let at_ := ureg x (uSrcA w) + uImm w
    let next (f : StrandSt → StrandSt) : State := put (modStrand s n f) (R.STR_UPC_ADDR n) seq
    let load (k : Nat) : State := next fun z =>
      if uDst w = 0 then z else { z with u := setAt z.u (uDst w) (leVal (memRead x.sram at_ k) % 2 ^ 32) }
    let store (k : Nat) : State := next fun z => { z with sram := memWriteAll z.sram at_ (leBytes k (ureg x (uSrcB w))) }
    let holds := condVal s n (uCond w) eng != uCinv w
    let reach (k : Nat) : Prop := inStore pc = true → sramAllowed s n true at_ k = true
    let illegal := if inStore pc then customFault s n else fray s n 6
    let fetched := fetchWord s pc = some w
    let plain := uMem w = 0 ∧ uAlu w = 0 ∧ uCommit w = false
    frayed s n = false → strState s n ≠ strQuar →
    (fetched → uBad s n (inStore pc) w = false →
      (uAlu w = 0 → uNx w = 0 → uStk w = 0 → uCommit w = false →
        (uMem w = 1 → reach 4 → Completes (.uLd n .ok w eng) s (load 4)) ∧
        (uMem w = 3 → reach 2 → Completes (.uLdh n .ok w eng) s (load 2)) ∧
        (uMem w = 2 → reach 4 → Completes (.uSt n .ok w eng) s (store 4)) ∧
        (uMem w = 4 → reach 2 → Completes (.uSth n .ok w eng) s (store 2)) ∧
        (uMem w = 1 → ¬ reach 4 → Completes (.uLd n .ok w eng) s (customFault s n)) ∧
        (uMem w = 3 → ¬ reach 2 → Completes (.uLdh n .ok w eng) s (customFault s n)) ∧
        (uMem w = 2 → ¬ reach 4 → Completes (.uSt n .ok w eng) s (customFault s n)) ∧
        (uMem w = 4 → ¬ reach 2 → Completes (.uSth n .ok w eng) s (customFault s n))) ∧
      (plain → uNx w = 1 → uStk w = 0 → Completes (.uBranch n .ok w eng) s (put s (R.STR_UPC_ADDR n) (if holds then uTarget w else seq))) ∧
      (plain → uNx w = 2 → uStk w = 0 → Completes (.uWaitCond n .ok w eng) s (if holds then put s (R.STR_UPC_ADDR n) seq else s)) ∧
      (plain → uNx w = 1 → uStk w = 1 → Completes (.uCall n .ok w eng) s
        (put (modStrand s n fun z => { z with stack := seq :: z.stack }) (R.STR_UPC_ADDR n) (if holds then uTarget w else seq))) ∧
      (∀ (r : Nat) (rs : List Nat), plain → uNx w = 0 → uStk w = 2 → x.stack = r :: rs → Completes (.uReturn n .ok w eng) s
        (put (modStrand s n fun z => { z with stack := rs }) (R.STR_UPC_ADDR n) r)) ∧
      (plain → uNx w = 0 → uStk w = 2 → x.stack = [] → Completes (.uReturn n .ok w eng) s (routineEnd s n)) ∧
      (uMem w = 0 → uAlu w = 0 → uCommit w = true → uNx w = 0 → uStk w = 0 →
        (x.routine ≠ 3 → Completes (.uCommit n .ok w eng) s
          (next fun z => { z with staged := z.staged.map fun r => if r.matched then { r with handed := true } else r })) ∧
        (∀ l j, x.routine = 3 → jobOf s n = some (l, j) → Completes (.uCommit n .ok w eng) s (put (if gateOpen s n then
            fsWrite s (jOut j.desc) (memRead x.sram Config.customArea (jArg j.desc 0))
          else bump s (R.STR_STALE_CNT_COUNT n)) (R.STR_UPC_ADDR n) seq))) ∧
      (let v := if x.routine = 3 then routineEnd s n else modStrand s n fun z => { z with routine := 0 }
       plain → uNx w = 3 → uStk w = 0 →
        (queueHead v n = none → Completes (.uDispatch n .ok w eng) s v) ∧
        (∀ j, queueHead v n = some j → isCustom (jOpc j.desc) = false →
          Completes (.uDispatch n .ok w eng) s (put v (R.STR_UPC_ADDR n) (Config.romDispatch (jOpc j.desc) % 4096))) ∧
        (∀ j, queueHead v n = some j → isCustom (jOpc j.desc) = true →
          let e := get v (R.STR_DISPATCH_ADDR (jOpc j.desc - 0x10))
          (inStore e = true → Completes (.uDispatch n .ok w eng) s (put v (R.STR_UPC_ADDR n) e)) ∧
          (∀ l k, inStore e = false → jobOf v n = some (l, k) → Completes (.uDispatch n .ok w eng) s (endJob v n l jsBadOpcode 0xFFFF 0 0))))) ∧
    (fetched → uBad s n (inStore pc) w = true → Completes (.uBranch n .ok w eng) s illegal) ∧
    (fetchWord s pc = none → Completes (.uBranch n .ok w eng) s (if x.routine = 0 then fray s n 6 else customFault s n)) ∧
    (let u := fray (bump s (R.STR_CS_ECC_UE n)) n 4
     (fetched → hasAlu 1 w = true → Completes (.uAdd n .ue w eng) s u) ∧ Completes (.controlStoreUe n) s u ∧
     (fetched → hasAlu 1 w = true → inRom pc = true → lookupKey s.strs.patchAt pc = none → Completes (.uAdd n .ce w eng) s u)) ∧
    (fetched → hasAlu 1 w = true → inRom pc = false → Completes (.uAdd n .ce w eng) s
      (uWord (fault (bump s (R.STR_CS_ECC_CE n)) (fltStrCe n)) n pc w eng))

/-- JOB_START on a free ACTIVE strand takes the head of the next lane's queue, shows it in STR_JOB and ends it with the status
of the first failed check (R243), MODE_DENIED first; a CUSTOM, ECHO or LOADCTX job without one runs; an ENC_ROW or DEC_ROW job
fixes its frame, loads its band state and count, and ends at once where it names no row. CUSTOM enters its routine with its
input in its area and the microregisters of R257, or completes with BAD_OPCODE when its entry is no open store address; a
routine that has run 250 µs is CUSTOM_FAULT. LOADCTX restores the band state from a good checkpoint, else BAD_CTX; SAVECTX
writes it, from the strand or from the checkpoint of the last committed row, else BAD_ROW. ECHO_JOB checks the rows of the run
and completes with OK, or with ECHO_FAIL, the first failing row and its outcome. A job that ends leaves its lane, frees the
strand, writes its record and posts its tag. -/
def Obligations.StrandJobsStartAndCompleteAsChecked : Prop :=
  (∀ (s : State) (n : Strand) (t l : Nat) (j : Job), anchored s = false → strState s n = strActive → strandFree s n = true →
    nextLane (stamp s t) n = some l → (laneOf s l).queue.head? = some j →
    let m := modLane (stamp s t) l fun x => { x with running := true, lastAt := (stamp s t).clk }
    let run := modStrand m n fun x =>
      { x with lane := some l, last := l, since := (stamp s t).clk, epoch := get m (R.STR_LANE_MAP_EPOCH l), ues := [], readErr := [], preDone := false }
    let u := put (put (put run (R.STR_JOB_OPC n) (jOpc j.desc)) (R.STR_JOB_PART n) j.part) (R.STR_JOB_TAG n) (jTag j.desc)
    let st := if jobPermitted (modeOf s) (jOpc j.desc) (namedState s j.desc) then headStatus (stamp s t) l j false else jsModeDenied
    (st ≠ jsOK → Completes (.jobStart n t) s (endJob u n l st 0xFFFF 0 0)) ∧
    (st = jsOK → jOpc j.desc ≠ opEncRow → jOpc j.desc ≠ opDecRow → Completes (.jobStart n t) s u) ∧
    (st = jsOK → (jOpc j.desc = opEncRow ∨ jOpc j.desc = opDecRow) →
      let y := fsRead u (jLayout j.desc) 64
      let f := jobFrame u j y
      let a := fixFrame u j
      let a := startCount (loadBand (if jOpc j.desc = opDecRow then fixDecoded a j else a) n l j) l f (jBand j.desc)
      (jOpc j.desc = opEncRow → proxyCut u f = true → Completes (.jobStart n t) s (endJob u n l jsAborted 0xFFFF 0 0)) ∧
      ((jOpc j.desc = opDecRow ∨ proxyCut u f = false) → Completes (.jobStart n t) s
        (if jobEnd j.desc y = jFirst j.desc then endJob a n l jsOK 0xFFFF 0 0 else a)))) ∧
  (∀ (s : State) (n : Strand) (t l : Nat) (j : Job), anchored s = false → jobOf s n = some (l, j) → isCustom (jOpc j.desc) = true →
    (strandOf s n).routine = 0 → frayed s n = false →
    let d := j.desc
    let e := get s (R.STR_DISPATCH_ADDR (jOpc d - 0x10))
    (inStore e = false → Completes (.custom n t) s (endJob (stamp s t) n l jsBadOpcode 0xFFFF 0 0)) ∧
    (inStore e = true → Completes (.custom n t) s
      (startRoutine (modStrand (stamp s t) n fun x => { x with sram := memWriteAll x.sram Config.customArea (fsRead s (jSrc d) (jArg d 0)) })
        n 3 e [(1, Config.customArea), (2, jArg d 1), (3, jArg d 2), (4, jArg d 3), (5, jArg d 4), (6, jArg d 5)]))) ∧
  (∀ (s : State) (n : Strand) (t : Nat), (strandOf s n).routine ≠ 0 → 300000 + (strandOf s n).routAt ≤ t →
    Completes (.customTimeout n t) s (customFault (stamp s t) n)) ∧
  (∀ (s : State) (n : Strand) (l : Nat) (j : Job), jobOf s n = some (l, j) →
    let d := j.desc
    let y := fsRead s (jLayout d) 64
    let f := jobFrame s j y
    let c := countFor s l f (jBand d)
    let ended (v : State) (st : Nat) : State := endJob v n l st 0xFFFF 0 0
    let from_ := ckptRead s y (if jSrc d = 0 then ckptSlot y (jBand d) (jFirst d - 1) else jSrc d) f (jBand d) (jFirst d - 1) none
    (jOpc d = opLoadCtx → (jFirst d = 0 ∨ from_ = none) → Completes (.loadctx n) s (ended s jsBadCtx)) ∧
    (∀ b, jOpc d = opLoadCtx → jFirst d ≠ 0 → from_ = some b →
      let v := put (startCount s l f (jBand d)) (R.STR_LANE_CNT_ROWS l) (jFirst d)
      let v := modLane v l fun x => { x with ckEpoch := get v (R.STR_LANE_MAP_EPOCH l) }
      let got := match findDec s f with | some df => decBand s df df.dst b | none => b
      Completes (.loadctx n) s (ended (modStrand v n fun x => { x with band := some got }) jsOK)) ∧
    (jOpc d = opSaveCtx → c = 0 → Completes (.savectx n) s (ended s jsBadRow)) ∧
    (∀ b, jOpc d = opSaveCtx → c ≠ 0 → (strandOf s n).band = some b → b.frame = f → b.band = jBand d → b.rows = c →
      (findDec s f = none → Completes (.savectx n) s (ended (fsWrite s (jOut d) (ckptImage y b (get s (R.STR_LANE_MAP_EPOCH l)))) jsOK)) ∧
      (∀ df, findDec s f = some df → let x := ckptBottom s df df.dst b
        Completes (.savectx n) s (ended (fsWrite x.2 (jOut d) (ckptImage y { b with bottom := x.1 } (get x.2 (R.STR_LANE_MAP_EPOCH l)))) jsOK))) ∧
    (jOpc d = opSaveCtx → c ≠ 0 → (∀ b, (strandOf s n).band = some b → ¬ (b.frame = f ∧ b.band = jBand d ∧ b.rows = c)) →
      let from_ := ckptRead s y (ckptSlot y (jBand d) (c - 1)) f (jBand d) (c - 1) none
      (from_ = none → Completes (.savectx n) s (ended s jsBadRow)) ∧
      (∀ b, from_ = some b → Completes (.savectx n) s (ended (fsWrite s (jOut d) (ckptImage y b (laneOf s l).ckEpoch)) jsOK))) ∧
    (jOpc d = opEcho →
      let bs := runBytesFrom s (runAll s (jSrc d)) 0
      let rows := min (lyRows y) (jobEnd d y) - jFirst d
      let after (v : State) (c f o : Nat) : State :=
        let m := modJob v l fun q => { q with rows := c }
        endJob (if o = 0 then m else raiseP m j.part srcEchoJobFail) n l (if o = 0 then jsOK else jsEchoFail) f o 0
      (echoInput s j y (jBand d) = none → Completes (.echoJob ⟨n, 0⟩) s (after (useFree s) rows 0xFFFF (freeVal s % 7))) ∧
      (∀ r, echoInput s j y (jBand d) = some r → let x := echoRun r (jFirst d) rows (bs.length + 1) bs
        Completes (.echoJob ⟨n, 0⟩) s (after s x.1 x.2.1 x.2.2)))) ∧
  (∀ (s : State) (n l status failRow outcome detail : Nat) (j : Job), runningJob s l = some j → j.dead = false →
    let f := freeStrand (modLane s l fun x => { x with queue := x.queue.drop 1, running := false }) n
    let w := writeRecord f j.part j.seq j.space (j.addr + 0x70)
      (recordBytes status j.spliced j.ovf j.damaged (jTag j.desc) j.rows failRow outcome n (get f (R.STR_LANE_MAP_EPOCH l)) detail)
    let r := if jNotify j.desc then raiseP (tagPost w j.part (jTag j.desc)) j.part srcJobDone else tagPost w j.part (jTag j.desc)
    (strState r n ≠ strActive ∨ (laneOf r (get r (R.STR_STATE_LANE n))).takeover = false) → endJob s n l status failRow outcome detail = r)

/-- ENC_ROW on a running ENC_ROW job with its references ready stages the next row, coded with the rate state and the bottom row
that the last staged row or the band left, from the samples or from what HOOK_PRE left; HOOK_PRE and HOOK_META start before and
after it; a final sample that lies beyond its bound from its source sample is fray cause 3. ECHO_CHECK_DONE counts the check and
shows its outcome: MATCH hands the row to the commit engine, anything else is fray cause 2 with FAIL and ROW set. ROW_COMMIT
publishes a handed row through the epoch gate, and drops it, counting its writes, when the gate is shut. DEC_ROW stages the row
that it decodes, or, past the end of its band's run, the concealed rest, and counts the errors met. 250 µs without a commit
outside the waits is fray cause 1; a strand SRAM double error is counted, restarts the row, and the third in one row is fray
cause 5. Corrected SRAM errors on the way are counted and noted. -/
def Obligations.RowsAreCodedCheckedAndCommitted : Prop :=
  (∀ (s : State) (n : Strand) (hits : List (Nat × Nat × Nat × Nat)) (upset : List (Nat × Byte)) (l : Nat) (j : Job) (b : BandSt) (f : FrameFix),
    jobOf s n = some (l, j) → (strandOf s n).band = some b → findFrame s b.frame = some f → jOpc j.desc = opEncRow → frayed s n = false →
    (strandOf s n).staged.length < 2 → (strandOf s n).routine = 0 → nextRow (strandOf s n) b < jobEnd j.desc f.layout →
    j.dead = false → refReady s f = true →
    let d := j.desc
    let ends (v : State) : State := endJob v n l jsBadOpcode 0xFFFF 0 b.runBytes
    let row := nextRow (strandOf s n) b
    (jHookPre d = true → (strandOf s n).preDone = false → Completes (.encRow n hits upset 0) s
      (if inStore (get s (R.STR_DISPATCH_ADDR (jPre d))) then startPre s n d f.layout row else ends s)) ∧
    ((jHookPre d = false ∨ (strandOf s n).preDone = true) →
      let before := match (strandOf s n).staged.getLast? with
        | some z => (z.next, bottomOf z.fin)
        | none => (b.rc, b.bottom)
      let ps := if jHookPre d then hookSamples (strandOf s n).sram f.layout (jBand d) else rowSamples s d f.layout row
      let g := frameFor s n f
      let c := codeRow s g d before.1 row before.2 ps
      let z := { c with bytes := upsetBytes c.bytes upset, fin := hitSamples c.fin hits }
      let r := encInput g (jBand d) row before.1.qp before.1.e before.2
      let px (q : List (List (List Nat))) (k y x : Nat) : Nat := nth (nth (nth q k []) y []) x 0
      let beyond : Prop := rtBounded g.rate = true ∧ ∃ k y x, k < nPlanes r.fmt ∧ y < r.rows ∧ x < planeW r.fmt k r.wb ∧
        r.eb (x / bightPW r.fmt k) < (px ps k y x - px z.fin k y x) + (px z.fin k y x - px ps k y x)
      let st := modStrand s n fun q => { q with staged := q.staged ++ [z], preDone := false }
      (beyond → Completes (.encRow n hits upset 0) s (fray s n 3)) ∧
      (¬ beyond → jHookMeta d = false → Completes (.encRow n hits upset 0) s st) ∧
      (¬ beyond → jHookMeta d = true → Completes (.encRow n hits upset 0) s
        (if inStore (get s (R.STR_DISPATCH_ADDR (jMeta d))) then startMeta st n d z else ends st)))) ∧
  (∀ (s : State) (n : Strand) (hits : List (Nat × Nat × Nat × Nat)) (upset : List (Nat × Byte)) (ce : Nat),
    ((jobOf s n).isSome = true → ce ≠ 0 → sramCe s n ce = fault (bumpBy s (R.STR_SRAM_ECC_CE n) ce) (fltStrCe n)) ∧
    exec (.encRow n hits upset ce) s = exec (.encRow n hits upset 0) (sramCe s n ce) ∧
    exec (.decRow ⟨n, ce⟩) s = exec (.decRow ⟨n, 0⟩) (sramCe s n ce) ∧
    exec (.echoJob ⟨n, ce⟩) s = exec (.echoJob ⟨n, 0⟩) (sramCe s n ce) ∧
    exec (.echoCheckDone ⟨n, ce⟩) s = exec (.echoCheckDone ⟨n, 0⟩) (sramCe s n ce)) ∧
  (∀ (s : State) (n : Strand) (b : BandSt) (z : Staged) (f : FrameFix), (strandOf s n).band = some b →
    (strandOf s n).staged.find? (fun z => !z.matched && z.after.isNone) = some z → findFrame s b.frame = some f → frayed s n = false →
    let c := echoOf (frameFor s n f) b.band z
    let u := put (bump s (R.STR_ECHO_CNT_COUNT n)) (R.STR_ECHO_STAT_LAST n) c
    (c = 0 → Completes (.echoCheckDone ⟨n, 0⟩) s (modStrand (noteMatch u b.frame b.band z.row) n fun q =>
      { q with staged := q.staged.map (fun w => if w.row = z.row then { w with matched := true, handed := true } else w),
               ues := q.ues.filter fun x => z.row < x.1, readErr := q.readErr.filter fun x => z.row < x.1 })) ∧
    (c ≠ 0 → Completes (.echoCheckDone ⟨n, 0⟩) s (fray (noteMiss (bump (put (put u (R.STR_ECHO_STAT_FAIL n) 1) (R.STR_ECHO_STAT_ROW n) z.row)
      (R.STR_ECHO_FAIL_CNT_COUNT n)) b.frame b.band z.row n) n 2))) ∧
  (∀ (s : State) (n : Strand) (writes waited t : Nat),
    ((strandOf s n).staged = [] → strState s n = strQuar → Completes (.rowCommit n writes ⟨waited, t⟩) s
      (bumpBy (stamp s t) (R.STR_STALE_CNT_COUNT n) writes)) ∧
    (∀ (z : Staged) (rest : List Staged), (strandOf s n).staged = z :: rest → z.handed = true →
    (gateOpen s n = false → Completes (.rowCommit n writes ⟨waited, t⟩) s
      (bumpBy (modStrand (stamp s t) n fun q => { q with staged := q.staged.drop 1 }) (R.STR_STALE_CNT_COUNT n) writes)) ∧
    (∀ (l : Nat) (j : Job) (b : BandSt) (f : FrameFix), gateOpen s n = true → jobOf s n = some (l, j) → (strandOf s n).band = some b →
      z.after = none → findFrame s b.frame = some f → (jHookMeta j.desc = false ∨ z.metaRow ≠ none) →
      Completes (.rowCommit n writes ⟨waited, t⟩) s (commitEnc (stamp s t) n l j f b z waited t)) ∧
    (∀ (l : Nat) (j : Job) (b b' : BandSt) (df : DecFrame), gateOpen s n = true → jobOf s n = some (l, j) → (strandOf s n).band = some b →
      z.after = some b' → findDec s b.frame = some df →
      Completes (.rowCommit n writes ⟨waited, t⟩) s (commitDec (stamp s t) n l j df b' z waited t)))) ∧
  (∀ (s : State) (n : Strand) (waited t l : Nat) (j : Job), jobOf s n = some (l, j) → isCustom (jOpc j.desc) = false →
    jOpc j.desc ≠ opSelfTest → (strandOf s n).routine = 0 → frayed s n = false → strandWaits s n = false →
    300000 + (strandOf s n).since + waited ≤ t → Completes (.noCommitTimeout n waited t) s
      (fray (putMax (stamp s t) (R.STR_WDOG_MAX_US n) ((t - (strandOf s n).since - waited) / 1200)) n 1)) ∧
  (∀ (s : State) (n : Strand), let u := bump s (R.STR_SRAM_ECC_UE n)
    (jobOf u n = none → Completes (.strandSramUe n) s u) ∧
    (∀ p, jobOf u n = some p → frayed s n = false → strState u n = strActive →
      let r := rowHand (strandOf s n)
      let k := (lookupKey (strandOf s n).ues r).getD 0 + 1
      let v := modStrand u n fun x => { x with ues := insertKey x.ues r k }
      Completes (.strandSramUe n) s (if 3 ≤ k then fray v n 5 else restartRow v n))) ∧
  (∀ (s : State) (n : Strand) (l : Nat) (j : Job) (b : BandSt) (df : DecFrame), jobOf s n = some (l, j) → (strandOf s n).band = some b →
    findDec s b.frame = some df → jOpc j.desc = opDecRow → frayed s n = false → (strandOf s n).staged = [] → j.dead = false →
    b.rows < jobEnd j.desc df.layout →
    let lim := jobEnd j.desc df.layout
    let start := decWork s j df b
    let found := decLoop s lim (start.rest.length + 4) start
    let rest (w : DecWork) : Prop :=
      let b' := decPlace s j b w
      Completes (.decRow ⟨n, 0⟩) s (if decReady s w.df (fillRefs w.df b') then decStage s n b w
        { blankRow b.rc with row := w.b.rows - 1, after := some b', errs := w.errs, hurt := b.rows < w.b.rows } else s)
    (df.hdr = 0 → b.band ≠ 0 → Completes (.decRow ⟨n, 0⟩) s s) ∧
    (df.hdr ≠ 0 ∨ b.band = 0 →
      (∀ w r p fin, found = .row w r p fin → (r.row + 1 < lyRows df.layout ∨ b.band + 1 < lyBands df.layout) →
        Completes (.decRow ⟨n, 0⟩) s (decStage s n b w (decStaged s j b w r p fin))) ∧
      (∀ w r p fin, found = .row w r p fin → r.row + 1 = lyRows df.layout → b.band + 1 = lyBands df.layout →
        let w' := { decTail s (w.rest.length + 4) { w with b := { w.b with rows := r.row + 1, good := some r.row } } with b := w.b }
        Completes (.decRow ⟨n, 0⟩) s (decStage s n b w' (decStaged s j b w' r p fin))) ∧
      (∀ w, found = .past w → rest w) ∧
      (∀ w e, found = .stop w e → rest (w.conceal lim (if w.df.hdr = 2 then 6 else if e then 4 else 5))) ∧
      (∀ w, found = .more w → rest (w.conceal lim 4)) ∧
      (found = .wait → Completes (.decRow ⟨n, 0⟩) s s)))

/-- SPLICE takes the first declared fray, passes every lane of the strand on, ending a self-test job of the strand, and
quarantines the strand. SPARE_RESTORE reads the passed job again, through its window where it lies in host memory, and goes on
with it. A self-test starts on the strand's job or its waiting job; its result, failing part and signature are shown, a pass
makes a TESTING strand SPARE and sets AFTERQ of a QUARANTINED one, a failure is fray cause 7; the timer starts one on each
SPARE. STR_RESET turns an ACTIVE strand away with CFGERR; STR_QUAR_SET takes only a SPARE; STR_READMIT and STR_TEST_REQ answer
with their codes; STR_POOL and open store writes take effect in IDLE, PREVIEW and MAINT, else set CFGERR. -/
def Obligations.SplicesTestsAndPoolRequestsTakeEffect : Prop :=
  (∀ (s : State) (unack : Bool) (n cause : Nat) (rest : List (Nat × Nat)), belayUp s = true → s.strs.frays = (n, cause) :: rest →
    let v := { s with strs := { s.strs with frays := rest } }
    let w := if laneTest v n then (match jobOf v n with | some (l, _) => endJob v n l jsAborted 0xFFFF 0 0 | none => v) else v
    Completes (.splice unack) s (overcommitSet (isolate
      (((List.range 18).filter fun l => laneStrand w l == some n).foldl (fun z l => passLane z n l cause) w) n unack))) ∧
  (∀ (s : State) (unack : Bool), (s.strs.frays = [] ∨ belayUp s = false) → Completes (.splice unack) s s) ∧
  (∀ (s : State) (n : Strand) (t l : Nat) (j : Job), anchored s = false → strState s n = strActive → strandFree s n = true →
    firstIdx (fun l => laneStrand (stamp s t) l == some n.val && (laneOf s l).restore) 0 18 = some l → (laneOf s l).queue.head? = some j →
    (∀ k, rereadJob s l j = some k → Completes (.spareRestore n t) s (resumeJob (stamp s t) n l k)) ∧
    (rereadJob s l j = none → Completes (.spareRestore n t) s (if rereading s l then stamp s t
      else startOp (stamp s t) j.part (.jobDesc j.seq l) j.addr 128 false [])) ∧
    (j.space = 0 → let k := { j with desc := ssmRead s j.addr 128 }
      let m := modLane (stamp s t) l fun x => { x with running := true, restore := false, reread := none, queue := modAt x.queue 0 fun _ => k }
      let v := modStrand m n fun x =>
        { x with lane := some l, last := l, since := (stamp s t).clk, epoch := get m (R.STR_LANE_MAP_EPOCH l), ues := [], readErr := [], preDone := false }
      let u := showJob v n (jOpc k.desc) k.part (jTag k.desc)
      let st := headStatus (stamp s t) l k true
      (st ≠ jsOK → Completes (.spareRestore n t) s (endJob u n l st 0xFFFF 0 0)) ∧
      (st = jsOK → jOpc k.desc ≠ opEncRow → jOpc k.desc ≠ opDecRow → Completes (.spareRestore n t) s u))) ∧
  (∀ (s : State) (n : Strand), anchored s = false → (strandOf s n).test = 0 →
    (laneTest s n = true ∨ (strState s n ≠ strActive ∧ (testJob s n).isSome = true)) →
    Completes (.selftest n) s (put (modStrand s n fun x => { x with test := 1 }) (R.STR_TEST_STAT_RESULT n) 1)) ∧
  (∀ (s : State) (n : Strand) (part : Nat) (sig : Word32), 2 ≤ (strandOf s n).test → part ≤ 4 →
    let v := put (put (put s (R.STR_TEST_STAT_RESULT n) (if part = 0 then 2 else 3)) (R.STR_TEST_STAT_UNIT n) part) (R.STR_TEST_SIG_SIG n) sig.toNat
    let v := modStrand v n fun x => { x with test := 0 }
    Completes (.selftestDone n part sig) s (if part ≠ 0 then fray v n 7 else if strState s n = strQuar then put v (R.STR_TEST_STAT_AFTERQ n) 1
      else if strState s n = strTesting then setStrState v n strSpare else v)) ∧
  (∀ (s : State) (n : Strand) (part l : Nat) (j : Job) (sig : Word32), (strandOf s n).test = 1 → part ≤ 4 → strState s n = strActive →
    jobOf s n = some (l, j) →
    let v := put (put (put s (R.STR_TEST_STAT_RESULT n) (if part = 0 then 2 else 3)) (R.STR_TEST_STAT_UNIT n) part) (R.STR_TEST_SIG_SIG n) sig.toNat
    let v := modStrand v n fun x => { x with test := 0 }
    Completes (.selftestDone n part sig) s (if part = 0 then endJob v n l jsOK 0xFFFF 0 sig.toNat
      else fray (endJob v n l jsSelftestFail 0xFFFF 0 sig.toNat) n 7)) ∧
  (∀ (s : State) (t : Nat), let per := get s R.STR_POOL_TESTPER
    per ≠ 0 → anchored s = false → s.strs.testAt + 1200000000 * per ≤ t →
    Completes (.spareSelftestTimer t) s (forN 18 (fun n z => if strState z n = strSpare ∧ (strandOf z n).test = 0 then
      put (modStrand z n fun x => { x with test := 2 }) (R.STR_TEST_STAT_RESULT n) 1 else z)
      { stamp s t with strs := { s.strs with testAt := t } })) ∧
  (∀ (s : State) (n : Strand) (v : Word32), unitsRun s = true →
    (bitAt v.toNat 0 = false → Completes (.strReset n v) s s) ∧
    (bitAt v.toNat 0 = true → strState s n = strActive → Completes (.strReset n v) s (put s R.STR_POOL_STAT_CFGERR 1)) ∧
    (bitAt v.toNat 0 = true → strState s n ≠ strActive → Completes (.strReset n v) s (resetStrand (abandonTest s n) n))) ∧
  (∀ (s : State) (v : Word32), unitsRun s = true → let n := v.toNat % 32
    Completes (.strQuarSet v) s (if n < 18 ∧ strState s n = strSpare then setStrState (abandonTest s n) n strQuar else put s R.STR_POOL_STAT_CFGERR 1)) ∧
  (∀ (s : State) (v : Word32), unitsRun s = true → let n := v.toNat % 32
    let code (c : Nat) : Prop := Completes (.strReadmit v) s (put s R.STR_REQ_STAT_RCODE c)
    (18 ≤ n → code 4) ∧
    (n < 18 → strState s n ≠ strQuar → code 1) ∧
    (n < 18 → strState s n = strQuar → isSet s (R.STR_TEST_STAT_AFTERQ n) = false → code 2) ∧
    (n < 18 → strState s n = strQuar → isSet s (R.STR_TEST_STAT_AFTERQ n) = true → (strandOf s n).test ≠ 0 → code 3) ∧
    (n < 18 → strState s n = strQuar → isSet s (R.STR_TEST_STAT_AFTERQ n) = true → (strandOf s n).test = 0 →
      let z := resetStrand s n
      Completes (.strReadmit v) s (put (put { z with strs := { z.strs with ready := if s.strs.ready.contains n then s.strs.ready else s.strs.ready ++ [n] } }
        R.STR_QUAR_MASK_MASK (withBit (get s R.STR_QUAR_MASK_MASK) n false)) R.STR_REQ_STAT_RCODE 0))) ∧
  (∀ (s : State) (v : Word32), unitsRun s = true → let n := v.toNat % 32
    let code (u : State) (c : Nat) : Prop := Completes (.strTestReq v) s (put u R.STR_REQ_STAT_TCODE c)
    (18 ≤ n → code s 4) ∧
    (n < 18 → strState s n = strQuar → code s 2) ∧
    (n < 18 → strState s n = strTesting → code s 3) ∧
    (n < 18 → strState s n = strSpare → code (if (strandOf s n).test = 0 then beginTest s n 2 else s) 0) ∧
    (n < 18 → strState s n = strActive → lowestSpare s = none → code s 1) ∧
    (∀ m, n < 18 → strState s n = strActive → lowestSpare s = some m → Completes (.strTestReq v) s
      (takeoverDue (put (modLane s (get s (R.STR_STATE_LANE n)) fun x => { x with takeover := true }) R.STR_REQ_STAT_TCODE 0) n))) ∧
  (∀ (s : State) (v : Word32), unitsRun s = true → let ok := modeOf s ∈ [modeIDLE, modePREVIEW, modeMAINT]
    (ok → v.toNat % 8 ≤ 4 →
      Completes (.strPoolWrite v) s (put (put { s with strs := { s.strs with assign := true } }
        R.STR_POOL_SPARES (v.toNat % 8)) R.STR_POOL_TESTPER (bits v.toNat 8 8))) ∧
    (¬ (ok ∧ v.toNat % 8 ≤ 4) → Completes (.strPoolWrite v) s (put s R.STR_POOL_STAT_CFGERR 1)) ∧
    (ok → let a := get s R.STR_OS_ADDR_ADDR
      let w : MicroWord := BitVec.ofNat 96 (get s R.STR_OS_DATA0_DATA + 2 ^ 32 * get s R.STR_OS_DATA1_DATA + 2 ^ 64 * v.toNat)
      Completes (.osData2Write v) s (put { s with strs := { s.strs with store := insertKey s.strs.store a w } } R.STR_OS_ADDR_ADDR (a + 1))) ∧
    (¬ ok → Completes (.osData2Write v) s (put s R.STR_POOL_STAT_CFGERR 1)))

/-! ## Programs' ring commands, rings, translation and partitions -/

/-- A command taken from a ring leaves the list of commands when it is carried out. INSTALL: BAD_FIELD for a bad form, status 1
where the pair is not the partition's, status 2 where an install of the pair is in progress; else STBY reads 1 and the image is
read. A read image that passes its checks waits for admission, one that fails ends the install with its status. ADMISSION judges
the program at the head of the line: an admitted install becomes the standby program with its reservation, a refused one is
counted and answers status 0x0E. SWAP and RESTART: PRIV_DENIED, unless the pair is being moved away, BAD_FIELD, NOT_READY, or
they wait for the boundary; a RESTART of a program halted by mode has it judged again. NOP completes with OK. -/
def Obligations.ProgramCommandsAnswerWithTheirStatus : Prop :=
  (∀ (s : State) (p : Part) (r : Ring) (id : Nat) (c : RingCmd), findCmd s p r id 1 = some c →
    let d := dropCmd s c
    let q := cmdSeq c
    let k := cmdPair c
    let img := leAt c.entry 8 8
    let form := formOk c.entry [(4, 1), (5, 1), (8, 8)]
    let does (u : State) : Prop := Completes (.install p r id) s u
    (form = false ∨ img % 64 ≠ 0 → does (complete d c stBadField 0)) ∧
    (form = true → img % 64 = 0 → ownsPair d c.part q k = false → does (complete d c stOK 1)) ∧
    (form = true → img % 64 = 0 → ownsPair d c.part q k = true → migrating d q k = true → does (complete d c stOK 1)) ∧
    (form = true → img % 64 = 0 → ownsPair d c.part q k = true → migrating d q k = false → (findInstall d q k).isSome = true →
      does (complete d c stOK 2)) ∧
    (form = true → img % 64 = 0 → ownsPair d c.part q k = true → migrating d q k = false → findInstall d q k = none →
      let b := put (modPair d q k fun x => { x with stbyOld := get d (R.SEQ_PAIR_STAT_STBY q k) }) (R.SEQ_PAIR_STAT_STBY q k) 1
      does (installNext (modSeq b q fun x => { x with installs := x.installs ++ [{ pair := k, cmd := c, addr := img, stage := 0 }] }) q))) ∧
  (∀ (s : State) (q : Seq) (x : Install), curInstall s q = some x → x.stage = 3 →
    (∀ d, imageCheck s (ownerOf s q x.pair) (seqOf s q).buffer = (0, d) →
      let u := modInstall s q x.pair fun y => { y with stage := 4 }
      Completes (.installImageLoaded q) s
        { u with seqs := { u.seqs with adm := u.seqs.adm ++ [{ seq := q, pair := x.pair, install := true, restart := none }] } }) ∧
    (∀ st d, imageCheck s (ownerOf s q x.pair) (seqOf s q).buffer = (st + 1, d) →
      Completes (.installImageLoaded q) s (installEnd s q x.pair (pairOf s q x.pair).stbyOld (st + 1 + 2 ^ 16 * d)))) ∧
  (∀ (s : State) (a : AdmReq) (rest : List AdmReq), s.seqs.adm = a :: rest → belayUp s = true → a.install = true →
    let u := { s with seqs := { s.seqs with adm := rest } }
    let check := admitCheck u a.seq a.pair (ownerOf u a.seq a.pair) (seqOf u a.seq).buffer
    (check = none → Completes .admission s
      (installEnd (modPair (setStandby u a.seq a.pair (some (seqOf u a.seq).buffer)) a.seq a.pair fun x => { x with resvS := true })
        a.seq a.pair 2 0)) ∧
    (∀ w, check = some w → Completes .admission s
      (installRefuse (noteRefusal u (ownerOf u a.seq a.pair) w) a.seq a.pair (instWord 0x0E w 0)))) ∧
  (∀ (s : State) (a : AdmReq) (rest : List AdmReq), s.seqs.adm = a :: rest → belayUp s = true → a.install = false →
    Completes .admission s (admitAgain { s with seqs := { s.seqs with adm := rest } } a.seq a.pair a.restart)) ∧
  (∀ s : State, (s.seqs.adm = [] ∨ belayUp s = false) → Completes .admission s s) ∧
  (∀ (s : State) (p : Part) (r : Ring) (id op : Nat) (c : RingCmd) (i : Instr),
    (op = 2 ∧ i = .swap p r id) ∨ (op = 3 ∧ i = .restart p r id) → findCmd s p r id op = some c →
    let d := dropCmd s c
    let q := cmdSeq c
    let k := cmdPair c
    let form := formOk c.entry [(4, 1), (5, 1)]
    let mine := ownsPair d c.part q k = true ∨ movedFrom d c.part q k = true
    let notReady : Prop := Completes i s (complete d c stNotReady 0)
    (q < 4 → k < 8 → ¬ mine → Completes i s (complete d c stPrivDenied 0)) ∧
    ((4 ≤ q ∨ 8 ≤ k) → Completes i s (complete d c stBadField 0)) ∧
    (mine → form = false → Completes i s (complete d c stBadField 0)) ∧
    (q < 4 → k < 8 → mine → form = true →
      (op = 2 → get d (R.SEQ_PAIR_STAT_STBY q k) = 2 → (pairOf d q k).swap = none → migrating d q k = false →
        Completes i s (modPair d q k fun x => { x with swap := some c })) ∧
      (op = 2 → (get d (R.SEQ_PAIR_STAT_STBY q k) ≠ 2 ∨ (pairOf d q k).swap ≠ none ∨ migrating d q k = true) → notReady) ∧
      (op = 3 → (activeImage d q k = none ∨ migrating d q k = true ∨ (pairOf d q k).swap ≠ none ∨ (pairOf d q k).restart ≠ none) → notReady) ∧
      (∀ img, op = 3 → activeImage d q k = some img → migrating d q k = false → (pairOf d q k).swap = none → (pairOf d q k).restart = none →
        let again := progState d q k = stByMode ∧ runsIn img (modeOf d) = true ∧ (pairOf d q k).readmit = false
        (¬ again → Completes i s (modPair d q k fun x => { x with restart := some c })) ∧
        (again → Completes i s (restartAgain d q k c))))) ∧
  (∀ (s : State) (p : Part) (r : Ring) (id : Nat) (c : RingCmd), findCmd s p r id 0 = some c →
    Completes (.nop p r id) s (complete (dropCmd s c) c (if formOk c.entry [] then stOK else stBadField) 0))

/-- For a present partition: enabling a disabled ring starts its counters again, and during a reset is turned away with ECODE 3;
disabling clears EN, of a completion ring discarding and counting the completions that wait; a doorbell sets RUNG of an enabled
ring. Ring service, when no visit is in progress, visits the ring whose turn it is: of the partition that has the turn while it
has deficit, else the next that may be served, which gains its share; of its rings the next that has credit, all credits being
refilled when none has. A visit reads windows of up to BURST entries while entries may be taken. A head write inside the ring
and within what is used frees those entries, any other sets ECODE 5. A fault is taken off its queue by PW_FQ_POP. A command that
finishes queues its completion entry, whose tail moves when it has been written, or is counted as dropped. A returned read takes
its owned entries, or passes on its data; one that fails stops the ring with ECODE 2; data of a dropped access is discarded. -/
def Obligations.RingsAreEnabledRungServedAndAcknowledged : Prop :=
  (∀ (s : State) (p : Part) (r : Ring), unitsRun s = true → present s p = true →
    let idle := (partOf s p).rst = 0
    (¬ idle → exec (.sqEnable p r) s = .next (put (put s (R.PW_SQ_STAT_ERR p r) 1) (R.PW_SQ_STAT_ECODE p r) 3)) ∧
    (¬ idle → exec (.cqEnable p r) s = .next (put (put s (R.PW_CQ_STAT_ERR p r) 1) (R.PW_CQ_STAT_ECODE p r) 3)) ∧
    (let mine (o : HostOp) : Bool := o.part == p && match o.req with | .ringFetch k _ => k == r | _ => false
     let ops := (s.host.ops.filter fun o => !mine o || o.issued).map fun o => if mine o then { o with dead := true } else o
     idle → isSet s (R.PW_SQ_CTL_EN p r) = false → exec (.sqEnable p r) s = .next
      (modSq (put (put (put { s with host := { s.host with ops := ops } } (R.PW_SQ_CTL_EN p r) 1) (R.PW_SQ_STAT_TAKEN p r) 0)
        (R.PW_SQ_STAT_SENSE p r) 1) p r fun q => { q with visit := none, again := false })) ∧
    (idle → isSet s (R.PW_CQ_CTL_EN p r) = false → exec (.cqEnable p r) s = .next
      (modCq (put (put (put (put s (R.PW_CQ_CTL_EN p r) 1) (R.PW_CQ_STAT_TAIL p r) 0) (R.PW_CQ_STAT_SENSE p r) 1) (R.PW_CQ_HEAD_INDEX p r) 0)
        p r fun q => { gen := q.gen + 1, used := 0, resv := 0 })) ∧
    (idle → isSet s (R.PW_SQ_CTL_EN p r) = true → exec (.sqEnable p r) s = .next s) ∧
    (idle → isSet s (R.PW_CQ_CTL_EN p r) = true → exec (.cqEnable p r) s = .next s) ∧
    exec (.sqDisable p r) s = .next (put s (R.PW_SQ_CTL_EN p r) 0) ∧
    (let waits (o : HostOp) : Bool := o.part == p && o.req == .complete r
     exec (.cqDisable p r) s = .next (bumpBy { put s (R.PW_CQ_CTL_EN p r) 0 with host := { s.host with ops := s.host.ops.filter fun o => !waits o } }
      (R.PW_CQ_DROP_COUNT p r) (s.host.ops.filter waits).length)) ∧
    (idle → isSet s (R.PW_SQ_CTL_EN p r) = true → exec (.sqDoorbell p r) s = .next
      (modSq (put s (R.PW_SQ_STAT_RUNG p r) 1) p r fun q => { q with again := q.visit.isSome })) ∧
    ((¬ idle ∨ isSet s (R.PW_SQ_CTL_EN p r) = false) → exec (.sqDoorbell p r) s = .next s) ∧
    exec (.pwFqPop p) s = .next (modPH s p fun h => { h with faults := h.faults.drop 1 }) ∧
    (∀ v : Word32, let h := bits v.toNat 0 12
      let size := ringSize (get s (R.PW_CQ_CFG_LOG2N p r))
      let n := (h + size - get s (R.PW_CQ_HEAD_INDEX p r)) % size
      (h < size → n ≤ (cqOf s p r).used → exec (.cqHeadWrite p r v) s = .next
        (modCq (put s (R.PW_CQ_HEAD_INDEX p r) h) p r fun q => { q with used := q.used - n })) ∧
      (size ≤ h ∨ (cqOf s p r).used < n → exec (.cqHeadWrite p r v) s = .next
        (put (put s (R.PW_CQ_STAT_ERR p r) 1) (R.PW_CQ_STAT_ECODE p r) 5)))) ∧
  (∀ (s : State) (p : Part) (r : Ring),
    (anchored s = true ∨ s.host.up = false ∨ visiting s = true ∨ ringTurn s = none → Completes (.ringService p r) s s) ∧
    (∀ (x : Nat × Nat) (v : State), anchored s = false → s.host.up = true → visiting s = false → ringTurn s = some (x, v) →
      Completes (.ringService p r) s
        (if x = (p.val, r.val) then readWindow (modSq v p r fun q => { q with again := false, visit := none }) p r 0 else s))) ∧
  (∀ s : State, let z := forN 8 (fun p u => if partRung u p then u else modPH u p fun h => { h with deficit := 0 }) s
    let can (p : Nat) : Bool := (List.range 16).any (ringReady z p)
    (can z.host.turn = true → (phOf z z.host.turn).deficit ≠ 0 → turnPart s = some (z.host.turn, z)) ∧
    (∀ k, (can z.host.turn = false ∨ (phOf z z.host.turn).deficit = 0) → k < 8 → can ((z.host.turn + 1 + k) % 8) = true →
      (∀ i < k, can ((z.host.turn + 1 + i) % 8) = false) →
      let p := (z.host.turn + 1 + k) % 8
      turnPart s = some (p, modPH { z with host := { z.host with turn := p } } p fun h => { h with deficit := h.deficit + get z (R.PRT_SHARE_HOST p) }))) ∧
  (∀ (s : State) (p k : Nat), k < 16 →
    let rich (u : State) (r : Nat) : Bool := ringReady u p r && (sqOf u p r).credit != 0
    let z := if (List.range 16).any (rich s) then s
      else forN 16 (fun r u => modSq u p r fun q => { q with credit := get u (R.PW_SQ_CFG_WEIGHT p r) }) s
    let at_ (i : Nat) : Nat := ((phOf z p).turn + 1 + i) % 16
    rich z (at_ k) = true → (∀ i < k, rich z (at_ i) = false) → turnRing s p = some (at_ k, modPH z p fun h => { h with turn := at_ k })) ∧
  (∀ (s : State) (p r n : Nat),
    let at_ := get s (R.PW_SQ_STAT_TAKEN p r)
    let k := min (get s (R.PW_SQ_CFG_BURST p r)) (ringSize (get s (R.PW_SQ_CFG_LOG2N p r)) - at_)
    let may := visitLeft s p r n ≠ 0 ∧ cqRoom s p (cqFor s p r) = true ∧ isSet s (R.PW_SQ_CTL_EN p r) = true
    (may → readWindow s p r n =
      startOp (modSq s p r fun q => { q with visit := some n }) p (.ringFetch r k) (sqBase s p r + 64 * at_) (64 * k) false []) ∧
    (¬ may → readWindow s p r n = modSq s p r fun q => { q with visit := none })) ∧
  (∀ (s : State) (c : RingCmd) (st res : Nat), c.part < 8 → anchored s = false →
    let u := sqFinish s c.part c.sq
    let live := isSet u (R.PW_CQ_CTL_EN c.part c.cq) = true ∧ c.resv = some (cqOf u c.part c.cq).gen
    (live → complete s c st res =
      startOp u c.part (.complete c.cq) (cqBase u c.part c.cq) 16 true (complBytes u c.part c.sq c.cq c.id st res)) ∧
    (¬ live → complete s c st res = bump u (R.PW_CQ_DROP_COUNT c.part c.cq))) ∧
  (∀ (s : State) (o : HostOp) (data : List Byte) (t : Nat) (ok : Bool),
    s.host.ops.find? (fun x => x.id == o.id && x.issued && !x.write) = some o →
    let u := dropOp (stamp s t) o.id
    let v := if ok then u else aerNote u o.part
    let got := sliceBytes data 0 o.len
    (o.dead = false → Completes (.hostReadCompletion o.id ok data t) s (readReturned v o ok got)) ∧
    (∀ r n, o.dead = false → o.req = .ringFetch r n → Completes (.hostReadCompletion o.id ok data t) s
      (if ok then takeWindow v o.part r (splitEntries got n) else sqFetchFail v o.part r 2)) ∧
    (o.dead = true → (ok = true ∨ ∀ c, o.req ≠ .moverFetch c ∧ o.req ≠ .moverRead c) →
      Completes (.hostReadCompletion o.id ok data t) s v) ∧
    (∀ c, o.dead = true → ok = false → (o.req = .moverFetch c ∨ o.req = .moverRead c) →
      Completes (.hostReadCompletion o.id ok data t) s (movBusError v o.addr)))

/-- A page of an access that hits is sent, one that misses starts a walk, one that a check of R561 stops is recorded and fails;
a walk's read that fails is cause 4, an entry without its valid bit cause 1, one with a reserved bit cause 3, a table in a
device region cause 5; a level 1 entry that is valid enters the cache, and a table entry goes on to the next level. A walk that
an invalidation met begins again, with its first checks. An invalidation drops the range and shows BUSY, then DONE once no read
in progress touches it. Root writes take effect and purge the partition's entries. A PRT_FS_SIZE or PRT_SSM write in range takes
effect, PRT_SHARE unless its HOST share is 0; PRT_PRESET, a function level reset and lost VFs reset their partitions,
VF_ENABLE_SET makes them present. A migration request answers with its code, and begins when that is 0. SEQ_ONLINE and SEQ_TEST
requests act on offline sequencers only. -/
def Obligations.TranslationPartitionsAndMigrationAnswerAsStated : Prop :=
  (∀ (s : State) (o : HostOp), o.dead = false → o.done < o.len → (∀ r, o.req ≠ .complete r) →
    let a := o.addr + o.done
    let z := if cacheHit s o then bump s R.IOM_HIT_CNT_COUNT else s
    (∀ pa, xlate s o.part a o.write = .hit pa →
      let m := pieceMsgs s o pa
      let v := { z with sent := z.sent ++ m }
      let x := { o with done := o.done + pageLen o, missed := false, reqs := if o.write then 0 else m.length }
      opPage s o = if x.len ≤ x.done then opIssued v x else setOp v x) ∧
    (xlate s o.part a o.write = .miss → opPage s o = startWalk (setOp z { o with missed := true }) o.part (a / 4096)) ∧
    (∀ c l r, xlate s o.part a o.write = .flt c l r → opPage s o = opFault (xfault z o.part a o.write o.req c l r) o)) ∧
  (∀ (s : State) (p : Part) (page : Nat) (w : Walk) (e : Word64),
    s.host.walks.find? (fun w => w.part == p.val && w.page == page) = some w →
    let off := { s with host := { s.host with walks := s.host.walks.filter fun x => !(x.part == w.part && x.page == w.page) } }
    let done (u : State) : State := if w.again then (match xlate off w.part (4096 * w.page) false with
      | .flt c l r => walkFault off w.part w.page c l r
      | _ => startWalk off w.part w.page) else u
    let fails (c r : Nat) : State := done (walkFault off w.part w.page c w.level r)
    let v := e.toNat
    Completes (.walkReadDone p page false e) s (fails 4 31) ∧
    (bitAt v 0 = false → Completes (.walkReadDone p page true e) s (fails 1 31)) ∧
    (bitAt v 0 = true → w.level = 1 → bits v 5 3 = 0 → bits v 52 12 = 0 →
      Completes (.walkReadDone p page true e) s (done (cacheAdd off (leafOf w.part w.page v)))) ∧
    (bitAt v 0 = true → w.level = 1 → (bits v 5 3 ≠ 0 ∨ bits v 52 12 ≠ 0) → Completes (.walkReadDone p page true e) s (fails 3 31)) ∧
    (bitAt v 0 = true → w.level ≠ 1 → (bits v 1 7 ≠ 0 ∨ bits v 52 12 ≠ 0) → Completes (.walkReadDone p page true e) s (fails 3 31)) ∧
    (∀ r, bitAt v 0 = true → w.level ≠ 1 → bits v 1 7 = 0 → bits v 52 12 = 0 → regionOf s (4096 * bits v 12 40) = some r →
      Completes (.walkReadDone p page true e) s (fails 5 r)) ∧
    (bitAt v 0 = true → w.level ≠ 1 → bits v 1 7 = 0 → bits v 52 12 = 0 → regionOf s (4096 * bits v 12 40) = none →
      let x := { w with level := w.level - 1, entry := 4096 * bits v 12 40 + 8 * bits (4096 * w.page) (12 + 9 * (w.level - 2)) 9 }
      Completes (.walkReadDone p page true e) s
        { s with host := { s.host with walks := s.host.walks.map fun y => if y.part = w.part ∧ y.page = w.page then x else y } })) ∧
  (∀ (s : State) (v : Word32), unitsRun s = true → isSet s R.IOM_INV_STAT_BUSY = true →
    exec (.iomInvCmd v) s = .next (put s R.IOM_STAT_CFGERR 1)) ∧
  (∀ (s : State) (v : Word32), unitsRun s = true → isSet s R.IOM_INV_STAT_BUSY = false →
    let i : Inval := { part := bits v.toNat 24 3, first := get s R.IOM_INV_ADDR_LO_ADDR + 2 ^ 20 * get s R.IOM_INV_ADDR_HI_ADDR, pages := bits v.toNat 0 20 }
    let u := put (put s R.IOM_INV_STAT_DONE 0) R.IOM_INV_STAT_BUSY 1
    exec (.iomInvCmd v) s = .next (cachePurge { u with host := { s.host with inval := some i } } i.part i.first i.pages)) ∧
  (∀ (s : State) (i : Inval), s.host.inval = some i → invBusy s i = false →
    exec .invalidationDone s = .next (put (put { s with host := { s.host with inval := none } } R.IOM_INV_STAT_BUSY 0) R.IOM_INV_STAT_DONE 1)) ∧
  (∀ s : State, (s.host.inval = none ∨ ∃ i, s.host.inval = some i ∧ invBusy s i = true) → exec .invalidationDone s = .next s) ∧
  (∀ (s : State) (p : Part) (v : Word32), unitsRun s = true → let n := v.toNat
    exec (.iomRootWrite p true v) s = .next (cachePurge (put s (R.IOM_ROOT_HI_ADDR p) (bits n 0 20)) p 0 0) ∧
    exec (.iomRootWrite p false v) s = .next
      (cachePurge (put (put s (R.IOM_ROOT_LO_EN p) (bits n 0 1)) (R.IOM_ROOT_LO_ADDR p) (bits n 12 20)) p 0 0) ∧
    (let base := 4096 * get s (R.PRT_FS_BASE_LO_ADDR p) + 2 ^ 32 * get s (R.PRT_FS_BASE_HI_ADDR p)
     let size := 4096 * bits n 0 24
     let ok := hasProgram s p = false ∧ hasRing s p = false ∧ base + size ≤ fsCapacity s ∧
       ∀ k < 8, k ≠ p.val → areasMeet base size (fsBase s k) (fsSize s k) = false
     (ok → exec (.prtFsSizeWrite p v) s = .next { put s (R.PRT_FS_SIZE_PAGES p) (bits n 0 24) with areas := setAt s.areas p (base, size) }) ∧
     (¬ ok → exec (.prtFsSizeWrite p v) s = .next (put (put (put s R.PRT_CFG_CFGERR 1)
       (R.PRT_FS_BASE_LO_ADDR p) (bits (fsBase s p) 12 20)) (R.PRT_FS_BASE_HI_ADDR p) (bits (fsBase s p) 32 3)))) ∧
    (let base := bits n 0 9
     let size := bits n 16 10
     let ok := hasProgram s p = false ∧ hasRing s p = false ∧ base + size ≤ 512 ∧
       ∀ k < 8, k ≠ p.val → areasMeet base size (get s (R.PRT_SSM_BASE k)) (get s (R.PRT_SSM_SIZE k)) = false
     (ok → exec (.prtSsmWrite p v) s = .next (put (put s (R.PRT_SSM_BASE p) base) (R.PRT_SSM_SIZE p) size)) ∧
     (¬ ok → exec (.prtSsmWrite p v) s = .next (put s R.PRT_CFG_CFGERR 1))) ∧
    exec (.prtShareWrite p v) s = .next (if bits n 16 8 = 0 then put s R.PRT_CFG_CFGERR 1
      else put (put (put s (R.PRT_SHARE_STRAND p) (bits n 0 8)) (R.PRT_SHARE_DRAM p) (bits n 8 8)) (R.PRT_SHARE_HOST p) (bits n 16 8))) ∧
  (∀ (s : State) (v : Word32), unitsRun s = true → let p := bits v.toNat 0 3
    (present s p = true → Completes (.prtPreset v) s (partReset s p)) ∧
    (present s p = false → exec (.prtPreset v) s = .next (put s R.PRT_CFG_CFGERR 1))) ∧
  (∀ (s : State) (p : Part), present s p = true →
    let resets (l : List Nat) : State := l.foldl (fun z k => partReset (msixOff z k) k) s
    (p.val ≠ 0 → Completes (.functionLevelReset p) s (partReset (msixOff s p) p)) ∧
    (p.val = 0 → let u := resets ((List.range 8).filter (present s))
      Completes (.functionLevelReset p) s
        { u with host := { u.host with vfOn := false, numVfs := 0, bar0 := none, bar2 := none, vfBar := none } })) ∧
  (∀ (s : State) (p : Part), present s p = false → exec (.functionLevelReset p) s = .next s) ∧
  (∀ (s : State) (n : Fin 8),
    let u := ((List.range 8).filter fun k => n.val < k && present s k).foldl (fun z k => partReset (msixOff z k) k) s
    Completes (.vfEnableClear n) s { u with host := if n.val = 0 then { u.host with vfOn := false } else { u.host with numVfs := min u.host.numVfs n } } ∧
    exec (.vfEnableSet n) s = .next { s with host := { s.host with vfOn := true, numVfs := if s.host.vfOn then max s.host.numVfs n else n } }) ∧
  (∀ (s : State) (v : Word32), unitsRun s = true →
    let a := bits v.toNat 0 2
    let b := bits v.toNat 2 2
    (migCode s a b ≠ 0 → exec (.seqMigReq v) s = .next (put s R.SEQ_MIG_STAT_CODE (migCode s a b))) ∧
    (migCode s a b = 0 → exec (.seqMigReq v) s = .next
      (put (put (put (put s R.SEQ_MIG_STAT_STATE 1) R.SEQ_MIG_STAT_CODE 0) R.SEQ_MIG_STAT_SRC a) R.SEQ_MIG_STAT_DST b)) ∧
    (let l := (List.range 4).filter fun q => bitAt v.toNat q && offline s q && !s.seqs.online.contains q
     exec (.seqOnlineRequest v) s = .next { s with seqs := { s.seqs with online := s.seqs.online ++ l } }) ∧
    (offline s a = true → get s R.SEQ_TEST_STAT_RESULT ≠ 1 →
      exec (.seqTestReq v) s = .next (put (put s R.SEQ_TEST_STAT_RESULT 1) R.SEQ_TEST_STAT_SEQ a)) ∧
    ((offline s a = false ∨ get s R.SEQ_TEST_STAT_RESULT = 1) → exec (.seqTestReq v) s = .next s)) ∧
  (∀ (s : State) (pass : Bool), get s R.SEQ_TEST_STAT_RESULT = 1 →
    exec (.seqTestDone pass) s = .next (put s R.SEQ_TEST_STAT_RESULT (if pass then 2 else 3))) ∧
  (∀ (s : State) (pass : Bool), get s R.SEQ_TEST_STAT_RESULT ≠ 1 → exec (.seqTestDone pass) s = .next s)

/-! ## The signal hub -/

/-- Raising or PEND_SET sets PEND of sources 1 to 1,023; PEND_CLR and MASK_SET clear PEND or set MASK and withdraw the
assignment; MASK_CLR clears MASK. HUB_ASSIGN gives a deliverable, unassigned source to the next target of its route after the
last one used, and a partition target, one below T8, also sends the source's vector; other sources stay. A claim gives 2^31 +
the highest source assigned to the target, moving it from PEND to INSERV, or 0; an end by the target that holds the source
clears INSERV, any other is counted and raises HUB_ERR. Route and target writes take effect and sources are assigned anew. A
sequencer's target rings its doorbell, and the active belay core's records the source. -/
def Obligations.HubSourcesAreRaisedAssignedClaimedAndEnded : Prop :=
  (∀ (s : State) (src : Source), unitsRun s = true →
    (src.val ≠ 0 → exec (.hubRaise src) s = .next (put s (R.HUB_PEND src) 1)) ∧
    (src.val ≠ 0 → exec (.hubPendSet src) s = .next (put s (R.HUB_PEND src) 1)) ∧
    (let free (u : State) : State := { u with hub := { u.hub with assigned := eraseKey u.hub.assigned src } }
     exec (.hubPendClr src) s = .next (free (put s (R.HUB_PEND src) 0)) ∧
     exec (.hubMaskSet src) s = .next (free (put s (R.HUB_MASK src) 1))) ∧
    exec (.hubMaskClr src) s = .next (put s (R.HUB_MASK src) 0)) ∧
  (∀ (s : State) (src : Source) (t : Nat), isSet s (R.HUB_PEND src) = true → isSet s (R.HUB_MASK src) = false →
    isSet s (R.HUB_INSERV src) = false → assignedTo s src = none → nextTarget s src = some t →
    let h := { s.hub with assigned := insertKey s.hub.assigned src t, lastTgt := insertKey s.hub.lastTgt src t }
    let u := { s with hub := h }
    exec (.hubAssign src) s = .next (if t < 8 then msixSend u t (get s (R.HUB_ROUTE_VEC src)) else u)) ∧
  (∀ (s : State) (src : Source), isSet s (R.HUB_PEND src) = false ∨ isSet s (R.HUB_MASK src) = true ∨ isSet s (R.HUB_INSERV src) = true ∨
    (assignedTo s src).isSome = true ∨ nextTarget s src = none → exec (.hubAssign src) s = .next s) ∧
  (∀ (s : State) (tgt : Target), unitsRun s = true →
    (highestAssigned s tgt = none → exec (.hubClaim tgt) s = .next { s with rdata := 0 }) ∧
    (∀ src, highestAssigned s tgt = some src →
      let u := put (put s (R.HUB_INSERV src) 1) (R.HUB_PEND src) 0
      let h := { s.hub with assigned := eraseKey s.hub.assigned src, held := insertKey s.hub.held src tgt }
      exec (.hubClaim tgt) s = .next { u with hub := h, rdata := 2 ^ 31 + src })) ∧
  (∀ (s : State) (tgt : Target) (src : Source), unitsRun s = true →
    (lookupKey s.hub.held src = some tgt.val →
      exec (.hubEoi tgt src) s = .next { put s (R.HUB_INSERV src) 0 with hub := { s.hub with held := eraseKey s.hub.held src } }) ∧
    (lookupKey s.hub.held src ≠ some tgt.val →
      exec (.hubEoi tgt src) s = .next (put (bump s R.HUB_ERR_CNT_COUNT) (R.HUB_PEND hubErr) 1))) ∧
  (∀ (s : State) (tgt : Target) (src : Source) (v : Word32), unitsRun s = true →
    let n := v.toNat
    let r := put (put s (R.HUB_ROUTE_TGT src) n) (R.HUB_ROUTE_VEC src) (bits n 16 5)
    exec (.hubRouteWrite src v) s = .next (reassign (if src.val < 0x200 then r else
      put (put r (R.HUB_ROUTE_OWNER src) (bits n 24 3)) (R.HUB_ROUTE_RAISE src) (bits n 27 1)) src) ∧
    exec (.hubTgtCtlWrite tgt v) s = .next (reassignAll (put (put (put s (R.HUB_TGT_CTL_PART tgt) (bits n 8 3))
      (R.HUB_TGT_CTL_PDB tgt) (bits n 12 4)) (R.HUB_TGT_CTL_EN tgt) (bits n 0 1)))) ∧
  (∀ (s : State) (q : Seq),
    (highestAssigned s (8 + q.val) = none → exec (.seqTargetClaim q) s = .next s) ∧
    (∀ src, highestAssigned s (8 + q.val) = some src →
      let o := get s (R.HUB_TGT_CTL_PART (8 + q.val))
      let u := claimSrc s (8 + q.val) src
      exec (.seqTargetClaim q) s = .next
        (endSrc (if (partOf s o).rst = 0 then bellRing u o (get u (R.HUB_TGT_CTL_PDB (8 + q.val))) else u) src))) ∧
  (∀ (s : State) (src : Nat), let a := get s R.FLT_BLY_STAT_ACTIVE
    coreSt s a = 0 → highestAssigned s (12 + a) = some src →
    let u := endSrc (claimSrc s (12 + a) src) src
    exec .belayClaim s = .next { u with sup := { s.sup with journal := s.sup.journal ++ [src] } })

/-- In a present partition's window: PEND_CLR, MASK_SET and MASK_CLR act on its own sources, RAISE on software sources it owns
with RAISE, the claim on its own target and EOI on what that target holds; any other access changes nothing but PW_HUB_ERR_CNT.
The emitter of an enabled function sends an unmasked vector's message, with the address and data of the table, and sets the
pending bit of a masked one, and of any while Bus Master Enable is clear or the function is not in D0; a vector that is unmasked
sends its pending message and clears the bit. Nothing else changes. -/
def Obligations.WindowsReachOwnSourcesAndMaskedMessagesWait : Prop :=
  (∀ (s : State) (p : Part) (src : Source), unitsRun s = true → present s p = true →
    let bad := bump s (R.PW_HUB_ERR_CNT_COUNT p)
    let free (u : State) : State := { u with hub := { u.hub with assigned := eraseKey u.hub.assigned src } }
    exec (.pwHubRaise p src) s = .next (if mayRaise s p src then put s (R.HUB_PEND src) 1 else bad) ∧
    exec (.pwHubPendClr p src) s = .next (if ownSource s p src then free (put s (R.HUB_PEND src) 0) else bad) ∧
    exec (.pwHubMaskSet p src) s = .next (if ownSource s p src then free (put s (R.HUB_MASK src) 1) else bad) ∧
    exec (.pwHubMaskClr p src) s = .next (if ownSource s p src then put s (R.HUB_MASK src) 0 else bad) ∧
    exec (.pwHubEoi p src) s = .next (if lookupKey s.hub.held src = some p.val then
      { put s (R.HUB_INSERV src) 0 with hub := { s.hub with held := eraseKey s.hub.held src } } else bad) ∧
    (highestAssigned s p = none → exec (.pwHubClaim p) s = .next { s with rdata := 0 }) ∧
    (∀ k, highestAssigned s p = some k → exec (.pwHubClaim p) s = .next { claimSrc s p k with rdata := 2 ^ 31 + k })) ∧
  (∀ (s : State) (p : Part) (vec : Fin 32), unitsRun s = true → present s p = true → nth s.hub.msixOn p false = true →
    nth s.hub.msixHush p false = false → mayIssue s p = true → p.val < s.hub.vecMask.length → p.val < s.hub.vecPend.length →
    let u := { s with hub := { s.hub with vecMask := modAt s.hub.vecMask p fun m => withBit m vec false } }
    let word (k : Nat) : Nat := (lookupKey s.hub.msixTab (128 * p.val + 4 * vec.val + k)).getD 0
    exec (.msixVectorUnmask p vec) s = .next (if bitAt (nth s.hub.vecPend p 0) vec then
      { u with hub := { u.hub with vecPend := modAt s.hub.vecPend p fun m => withBit m vec false },
               sent := s.sent ++ [.msix p vec (word 0 + 2 ^ 32 * word 1) (word 2)] } else u)) ∧
  (∀ (s : State) (p v : Nat),
    (nth s.hub.msixOn p false = true → (vecMasked s p v = true ∨ mayIssue s p = false) →
      msixSend s p v = { s with hub := { s.hub with vecPend := modAt s.hub.vecPend p fun m => withBit m v true } }) ∧
    (nth s.hub.msixOn p false = true → vecMasked s p v = false → mayIssue s p = true →
      msixSend s p v = { s with sent := s.sent ++ [.msix p v (msixWord s p v 0 + 2 ^ 32 * msixWord s p v 1) (msixWord s p v 2)] }) ∧
    (nth s.hub.msixOn p false = false → msixSend s p v = s))

/-! ## The mover and the pool -/

/-- MV_START and MV_STOP answer BAD_FIELD, PRIV_DENIED, NOT_READY or OK, or start the channel's program, or let the running
instruction finish first. A channel that has fetched an instruction and waits for nothing carries it out: MOVE writes its bytes
within the owner's reach, else RANGE, or BAD_PROG for a bad form; LOOP goes back with both offsets moved until its count is
used; WAIT waits for a tick, or until the masked SSM word matches, and fails at its time limit; SIGNAL writes its word, raises
its source, and with LAST waits for the program's writes. A program that has ended writes its status word once its writes have
completed, then is idle and completes its command. A bus error stops every running channel and halts the mover until MOV_RESTART
with nothing outstanding. -/
def Obligations.MoverCommandsAndInstructionsTakeEffect : Prop :=
  (∀ (s : State) (p : Part) (r : Ring) (id : Nat) (c : RingCmd), findCmd s p r id 0x20 = some c →
    let d := dropCmd s c
    let k := leAt c.entry 4 1
    let prog := leAt c.entry 8 8
    let form := formOk c.entry [(4, 1), (8, 8)] = true ∧ k < 16 ∧ prog % 8 = 0
    let does (u : State) : Prop := Completes (.mvStart p r id) s u
    (¬ form → does (complete d c stBadField 0)) ∧
    (form → chOwner d k ≠ some c.part → does (complete d c stPrivDenied 0)) ∧
    (form → chOwner d k = some c.part → chState d k ≠ chIdle ∨ movHalted d = true → does (complete d c stNotReady 0)) ∧
    (form → chOwner d k = some c.part → chState d k = chIdle → movHalted d = false →
      does (chStart d k 2 prog 0 (2 ^ 64) (some c)))) ∧
  (∀ (s : State) (p : Part) (r : Ring) (id : Nat) (c : RingCmd), findCmd s p r id 0x21 = some c →
    let d := dropCmd s c
    let k := leAt c.entry 4 1
    let form := formOk c.entry [(4, 1)] = true ∧ k < 16
    let does (u : State) : Prop := Completes (.mvStop p r id) s u
    (¬ form → does (complete d c stBadField 0)) ∧
    (form → chOwner d k ≠ some c.part → does (complete d c stPrivDenied 0)) ∧
    (form → chOwner d k = some c.part → chState d k = chIdle → does (complete d c stOK 0)) ∧
    (form → chOwner d k = some c.part → chState d k ≠ chIdle →
      does (modCh (put d (R.MOV_CH_STAT_STATE k) chStop) k fun x => { x with stops := x.stops ++ [c] }))) ∧
  (∀ (s : State) (c : Chan) (i : List Byte), (chOf s c).ibuf = some i → chState s c ≠ chIdle → (chOf s c).hold = 0 →
    (chOf s c).reading = false → movHalted s = false → gated s 22 = false →
    let o := chPart s c
    let m := mvMove (chOf s c) i
    let k := chIndex s c
    let form := m.refop ≠ 3 ∧ (m.refop = 0 ∨ m.ssp = 3) ∧ sideForm m.ssp m.src m.len = true ∧ sideForm m.dsp m.dst m.len = true
    let reach := sideRange s o m.ssp m.src m.len false (m.refop == 1) = true ∧ sideRange s o m.dsp m.dst m.len true false = true
    let added := if m.refop = 1 then poolAdd s (coilBuf m.src) (some o) else (true, s)
    let z := added.2
    let a := leAt i 8 8
    (leAt i 0 1 = 1 →
      (¬ form → Completes (.mvMove c) s (chFail s c mvBadProg)) ∧
      (form → ¬ reach → Completes (.mvMove c) s (chFail s c mvRange)) ∧
      (form → reach → added.1 = false → Completes (.mvMove c) s (chFail z c mvPoolFault)) ∧
      (form → reach → added.1 = true →
        (m.len = 0 → Completes (.mvMove c) s (mvDeliver z c m [])) ∧
        (m.len ≠ 0 → m.ssp = 1 →
          Completes (.mvMove c) s (modCh (startOp z o (.moverRead c) m.src m.len false []) c fun x => { x with reading := true })) ∧
        (m.len ≠ 0 → m.ssp = 0 → Completes (.mvMove c) s (mvDeliver z c m (fsRead z m.src m.len))) ∧
        (m.len ≠ 0 → m.ssp = 2 → Completes (.mvMove c) s (mvDeliver z c m (ssmRead z (ssmBase z o + m.src) m.len))) ∧
        (m.len ≠ 0 → m.ssp = 3 →
          Completes (.mvMove c) s (mvDeliver z c m (fsRead z (bufAddr z (coilBuf m.src) + coilOff m.src) m.len))))) ∧
    (let back := leAt i 2 2
     let bad := back = 0 ∨ k < back ∨ ∃ j n, (chOf s c).loop = some (j, n) ∧ j ≠ k
     let n := match (chOf s c).loop with | some (_, n) => n | none => leAt i 4 4
     leAt i 0 1 = 2 →
      (bad → Completes (.mvLoop c) s (chFail s c mvBadProg)) ∧
      (¬ bad → n = 0 → Completes (.mvLoop c) s (chNext (modCh s c fun x => { x with os := 0, od := 0, loop := none }) c)) ∧
      (¬ bad → n ≠ 0 → Completes (.mvLoop c) s (chGoto (modCh s c fun x =>
        { x with loop := some (k, n - 1), os := x.os + sext 64 (leAt i 8 8), od := x.od + sext 64 (leAt i 0x10 8) }) c (k - back)))) ∧
    (∀ t, let wait := modCh (if chState s c = chRun then put (stamp s t) (R.MOV_CH_STAT_STATE c) chWait else stamp s t) c (fun x =>
        { x with waitAt := some (x.waitAt.getD t) })
      leAt i 0 1 = 3 →
      (leAt i 1 1 = 0 → exec (.mvWaitTick c t) s = .next wait) ∧
      (leAt i 1 1 = 1 →
        (a % 8 ≠ 0 → Completes (.mvWaitSsm c t) s (chFail (stamp s t) c mvBadProg)) ∧
        (a % 8 = 0 → ssmIn s o a 8 = false → Completes (.mvWaitSsm c t) s (chFail (stamp s t) c mvRange)) ∧
        (a % 8 = 0 → ssmIn s o a 8 = true → Completes (.mvWaitSsm c t) s
          (if leVal (ssmRead s (ssmBase s o + a) 8) &&& leAt i 0x10 8 = leAt i 0x18 8 then chNext (stamp s t) c else wait))) ∧
      (∀ w, leAt i 4 4 ≠ 0 → (chOf s c).waitAt = some w → Completes (.mvWaitTimeout c t) s
        (if w + 1200 * leAt i 4 4 ≤ t then chFail (stamp s t) c mvWaitTimeout else s))) ∧
    (let f := leAt i 1 1
     let src := leAt i 2 2
     let v := if bitAt f 2 then ssmWrite s (ssmBase s o + a) (leBytes 8 (leAt i 0x10 8)) else s
     leAt i 0 1 = 4 →
      (bitAt f 0 = true → Completes (.mvSignal c) s (modCh s c fun x => { x with hold := 2 })) ∧
      (bitAt f 0 = false → bitAt f 2 = true → a % 8 ≠ 0 → Completes (.mvSignal c) s (chFail s c mvBadProg)) ∧
      (bitAt f 0 = false → bitAt f 2 = true → a % 8 = 0 → ssmIn s o a 8 = false → Completes (.mvSignal c) s (chFail s c mvRange)) ∧
      (bitAt f 0 = false → (bitAt f 2 = false ∨ (a % 8 = 0 ∧ ssmIn s o a 8 = true)) →
        (bitAt f 1 = true → mayRaise v o src = false → Completes (.mvSignal c) s (chFail v c mvPrivDenied)) ∧
        (bitAt f 1 = false ∨ mayRaise v o src = true → Completes (.mvSignal c) s (chNext (if bitAt f 1 then raise v src else v) c))))) ∧
  (∀ (s : State) (addr : Nat), (∃ c < 16, chState s c ≠ chIdle) →
    let h := put (put (movStopAll s) R.MOV_STAT_HALTED 1) R.MOV_STAT_BUSERR 1
    let n := bump (put2 h R.MOV_BUSERR_ADDR_LO_ADDR R.MOV_BUSERR_ADDR_HI_ADDR addr) R.MOV_BUSERR_CNT_COUNT
    Completes (.moverBusError addr) s (put (fault n fltMovBus) (R.HUB_PEND hubMovBusError) 1)) ∧
  (∀ (s : State) (addr : Nat), (∀ c < 16, chState s c = chIdle) → Completes (.moverBusError addr) s s) ∧
  (∀ (s : State) (c : Nat), (chOf s c).space = 0 → chWriting s c = false →
    let x := chOf s c
    let w := x.endSt + 2 ^ 15 + 2 ^ 16 * x.endIdx + 2 ^ 32 * (x.moved % 2 ^ 32)
    (x.hold = 3 → chProgress s c = modCh (ssmWrite s ((2 ^ 64 + x.base - 8) % 2 ^ 64) (leBytes 8 w)) c fun y => { y with hold := 4 }) ∧
    (x.hold = 4 →
      let u := put (put s (R.MOV_CH_STAT_STATE c) chIdle) (R.MOV_CH_STAT_STATUS c) x.endSt
      let u := modCh (if x.endSt = mvOK then u else raise u (hubMovChFail c)) c fun _ => MovCh.init
      let u := match x.cmd with | none => u | some n => complete u n stOK w
      chProgress s c = x.stops.foldl (fun u n => complete u n stOK 0) u)) ∧
  (∀ (s : State) (v : Word32), unitsRun s = true →
    exec (.movRestart v) s = .next (if bitAt v.toNat 0 = true ∧ movHalted s = true then { s with movRestart := true } else s)) ∧
  (∀ s : State, s.movRestart = true → (∀ o ∈ s.host.ops, ∀ c < 16, opOfCh c o = false) → anchored s = false →
    exec .movRestartDone s = .next { put s R.MOV_STAT_HALTED 0 with movRestart := false }) ∧
  (∀ s : State, (s.movRestart = false ∨ movBusy s = true ∨ anchored s = true) → exec .movRestartDone s = .next s)

/-- A write that starts the pool's initialisation in IDLE or MAINT while it is not busy empties counts and lists and sets BUSY,
else CFGERR; when it is done both lists are threaded in the order of the event (the spec leaves the order open: log entry 12),
the free counts show their lengths and BUSY clears. A free count that falls to its low-water level raises the pool's source, and
POOL_MIN_E follows the lowest essence count. An allocation from a list that is neither broken nor empty takes its head with
count 1 and the holder's bit, or breaks the list when the head's link is not one; from an empty list, or while the pool is busy,
nothing happens. A reference is added below 255 to a buffer in use, and released from a count above 0: the last release frees
the buffer. A refused operation is recorded and counted. The ring commands answer with the buffer, its count, or NOT_READY. -/
def Obligations.PoolInitialisesAllocatesCountsAndFrees : Prop :=
  (∀ s : State, unitsRun s = true → exec .poolInit s = .next (if poolCfgOk s then
    let u := put (put (put s R.POOL_STAT_BROKEN_E 0) R.POOL_STAT_BROKEN_G 0) R.POOL_STAT_BUSY 1
    { u with pool := { s.pool with refs := [], headE := listEnd, headG := listEnd } } else put s R.POOL_STAT_CFGERR 1)) ∧
  (∀ (s : State) (es gs : List Nat), isSet s R.POOL_STAT_BUSY = true →
    let ness := min (get s R.POOL_NESS_N) (get s R.POOL_COUNT_N)
    coversRange es 0 ness = true → coversRange gs ness (get s R.POOL_COUNT_N) = true →
    let t := setFree (setFree (threadList (threadList s es) gs) true es.length) false gs.length
    let v := put t R.POOL_STAT_BUSY 0
    exec (.poolInitDone es gs) s = .next { v with pool := { v.pool with headE := es.headD listEnd, headG := gs.headD listEnd } }) ∧
  (∀ (s : State) (n : Nat),
    let low (u : State) (old lim src : Nat) : State := if lim ≠ 0 ∧ lim < old ∧ n ≤ lim then put u (R.HUB_PEND src) 1 else u
    setFree s true n = low (put (put s R.POOL_FREE_E_COUNT n) R.POOL_MIN_E_COUNT (min (get s R.POOL_MIN_E_COUNT) n))
      (get s R.POOL_FREE_E_COUNT) (get s R.POOL_LOWAT_E_LEVEL) hubPoolLowEss ∧
    setFree s false n = low (put s R.POOL_FREE_G_COUNT n) (get s R.POOL_FREE_G_COUNT) (get s R.POOL_LOWAT_G_LEVEL) hubPoolLowGen) ∧
  (∀ (s : State) (ess : Bool) (h : Option Part),
    let head := if ess then s.pool.headE else s.pool.headG
    let broken := isSet s (if ess then R.POOL_STAT_BROKEN_E else R.POOL_STAT_BROKEN_G)
    let link := fsRead s (bufAddr s head) 8
    let nxt := leAt link 0 4
    let good := leAt link 4 4 = linkTag ∧ (nxt = listEnd ∨ inPool s ess nxt = true)
    (isSet s R.POOL_STAT_BUSY = true ∨ broken = true ∨ head = listEnd → exec (.poolAllocate ess h) s = .next s) ∧
    (isSet s R.POOL_STAT_BUSY = false → broken = false → head ≠ listEnd →
      exec (.poolAllocate ess h) s = .next (if good then takeHead s ess head nxt (h.map (·.val)) else breakList s ess))) ∧
  (∀ (s : State) (b : Nat) (h : Option Part), let r := bufRef s b
    let refused (k : Nat) : State :=
      put (bump (put (put s R.POOL_FAULT_INFO_BUF b) R.POOL_FAULT_INFO_KIND k) R.POOL_FAULT_CNT_COUNT) (R.HUB_PEND hubPoolFault) 1
    (r.count = 255 → exec (.poolIncrement b h) s = .next (refused 2)) ∧
    (r.count = 0 → exec (.poolIncrement b h) s = .next (refused 3)) ∧
    (0 < r.count → r.count < 255 → h = none → exec (.poolIncrement b h) s = .next (setRef s b { r with count := r.count + 1 })) ∧
    (∀ p, 0 < r.count → r.count < 255 → h = some p → exec (.poolIncrement b h) s = .next
      (if bitAt r.mask p then refused 4 else setRef s b { count := r.count + 1, mask := withBit r.mask p true })) ∧
    (r.count = 0 → exec (.poolDecrement b h) s = .next (refused 1)) ∧
    (1 < r.count → h = none → exec (.poolDecrement b h) s = .next (setRef s b { r with count := r.count - 1 })) ∧
    (r.count = 1 → h = none → exec (.poolDecrement b h) s = .next (freeBuf s b)) ∧
    (∀ p, 0 < r.count → h = some p → exec (.poolDecrement b h) s = .next (if bitAt r.mask p = false then refused 5
      else if r.count = 1 then freeBuf s b else setRef s b { count := r.count - 1, mask := withBit r.mask p false }))) ∧
  (∀ (s : State) (p : Part) (r : Ring) (id : Nat) (c : RingCmd), isSet s R.POOL_STAT_BUSY = false → findCmd s p r id 0x22 = some c →
    let a := poolAlloc (dropCmd s c) false (some c.part)
    (formOk c.entry [] = false → Completes (.poolAlloc p r id) s (complete (dropCmd s c) c stBadField 0)) ∧
    (∀ b, formOk c.entry [] = true → a.1 = some b → Completes (.poolAlloc p r id) s (complete a.2 c stOK b)) ∧
    (formOk c.entry [] = true → a.1 = none → Completes (.poolAlloc p r id) s (complete a.2 c stNotReady 0))) ∧
  (∀ (s : State) (p : Part) (r : Ring) (id : Nat), isSet s R.POOL_STAT_BUSY = true → exec (.poolAlloc p r id) s = .next s) ∧
  (∀ (s : State) (p : Part) (r : Ring) (id : Nat) (c : RingCmd), findCmd s p r id 0x23 = some c →
    let d := dropCmd s c
    let b := leAt c.entry 4 4
    let a := poolRelease d b (some c.part)
    (formOk c.entry [(4, 4)] = false ∨ get d R.POOL_COUNT_N ≤ b → Completes (.poolRelease p r id) s (complete d c stBadField 0)) ∧
    (formOk c.entry [(4, 4)] = true → b < get d R.POOL_COUNT_N → Completes (.poolRelease p r id) s
      (if a.1 then complete a.2 c stOK (bufRef a.2 b).count else complete a.2 c stNotReady 0)))

/-! ## The frame store's DRAM controller -/

/-- A finished request leaves the waiting ones, opens its row and enters its port's longest latency and misses; a corrected read
is counted and noted, and an uncorrectable one also leaves its address and raises DRC_UE, restarts the strand's row or halts the
mover that read it; none finishes before an older one of its port to the same 64 bytes. A waiting request has level 0 to 3 from
50, 75 and 90% of the target, and no level falls. An idle refresh interval closes the row and pays one postponed refresh back; a
busy one postpones it, up to POSTMAX, and then forces one. A frequency request waits in STATE 1 and can be cancelled there; a
change that ends shows its set, or FAILED. TRAIN trains the inactive set in IDLE or MAINT, a write of its words makes it
untrained; elsewhere CFGERR. Tracking runs each 100 ms, and MR4 shows the highest rate. -/
def Obligations.DramRequestsRefreshesAndSetsBehaveAsStated : Prop :=
  (∀ (s : State) (port : Fin 24) (unit addr since t : Nat) (write ce ue : Bool),
    let z := stamp s t
    let w := { z with dram := { s.dram with waiting := s.dram.waiting.filter fun r => !sameReq port addr write since r } }
    let p := portStat (openRowOf w addr) port (cyclesNs (t - since))
    let c := if ce then fault (bump p R.DRC_ECC_CE) fltDrcCe else p
    let does (u : State) : Prop := Completes (.dramRequestDone port unit addr write since t ce ue) s u
    (unitBusy s port addr since = true → does s) ∧
    (unitBusy s port addr since = false →
      (write = true → does p) ∧
      (write = false → ue = false → does c) ∧
      (write = false → ue = true →
        let e := put2 (bump c R.DRC_ECC_UE) R.DRC_UE_ADDR_LO_ADDR R.DRC_UE_ADDR_HI_ADDR addr
        let v := put (fault e fltDrcUe) (R.HUB_PEND hubDrcUe) 1
        (port.val < 4 ∨ (9 < port.val ∧ port.val ≠ 16) → does v) ∧
        (4 ≤ port.val → port.val ≤ 9 → does (strandReadError v (3 * (port.val - 4) + unit % 3))) ∧
        (port.val = 16 → (∃ c < 16, chState v c ≠ chIdle) → does (movBusError v addr)) ∧
        (port.val = 16 → (∀ c < 16, chState v c = chIdle) → does v)))) ∧
  (∀ (s : State) (port : Fin 24) (addr since t : Nat) (write : Bool),
    let lim := get s (R.DRC_PORT_TGT_NS port)
    let ns := cyclesNs (t - since)
    let level := if 10 * ns < 5 * lim then 0 else if 4 * ns < 3 * lim then 1 else if 10 * ns < 9 * lim then 2 else 3
    ((∀ r ∈ s.dram.waiting, sameReq port addr write since r = false) →
      let l := s.dram.waiting ++ [{ port := port, addr := addr, write := write, since := since, level := level }]
      exec (.urgencyEscalate port addr write since t) s = .next { stamp s t with dram := { s.dram with waiting := l } }) ∧
    (∀ u, exec (.urgencyEscalate port addr write since t) s = .next u → ∀ r ∈ s.dram.waiting, ∃ r' ∈ u.dram.waiting,
      r'.port = r.port ∧ r'.addr = r.addr ∧ r'.write = r.write ∧ r'.since = r.since ∧ r.level ≤ r'.level)) ∧
  (∀ (s : State) (chan bank : Fin 16),
    let b := 16 * chan.val + bank.val
    let closed := { s with dram := { s.dram with openRow := eraseKey s.dram.openRow b } }
    let idle := ∀ r ∈ s.dram.waiting, bankOf s r.addr ≠ b
    (idle → exec (.refreshDue chan bank false) s = .next (setOwed closed b (owed s b - 1))) ∧
    (¬ idle → exec (.refreshDue chan bank false) s = exec (.refreshDue chan bank true) s) ∧
    (owed s b + 1 < get s R.DRC_REF_POSTMAX → exec (.refreshDue chan bank true) s = .next (setOwed s b (owed s b + 1))) ∧
    (get s R.DRC_REF_POSTMAX ≤ owed s b + 1 →
      exec (.refreshDue chan bank true) s = .next (bump (setOwed closed b (owed s b)) R.DRC_REF_CNT_FORCED))) ∧
  (∀ (s : State) (t : Nat), 120000000 + s.dram.lastDqs ≤ t →
    exec (.dqsTracking t) s = .next { stamp s t with dram := { s.dram with lastDqs := t } }) ∧
  (∀ (s : State) (codes : List (BitVec 3)), codes.length = 16 →
    let l := (codes.map (·.toNat)).zipIdx
    let m := (l.filter fun c => c.1 != 0).map fun c => (c.2, c.1)
    exec (.mr4Read codes) s = .next (put { s with dram := { s.dram with mr4 := m } } R.DRC_MR4_RATE ((l.map (·.1)).foldl max 0))) ∧
  (∀ (s : State) (k : Fin 2), unitsRun s = true → (∀ j f, s.dram.req ≠ some ⟨j, f, true⟩) →
    let ask (f : Bool) : State :=
      let u := { s with dram := { s.dram with req := some { set := k, force := f, hot := false } } }
      if get s R.DRC_FREQ_STAT_STATE = 2 then u else put u R.DRC_FREQ_STAT_STATE 1
    exec (.drcFreqSet k) s = .next (ask false) ∧ exec (.drcFreqForce k) s = .next (ask true)) ∧
  (∀ (s : State) (k j : Fin 2) (f : Bool), unitsRun s = true → s.dram.req = some ⟨j, f, true⟩ →
    exec (.drcFreqSet k) s = .next s ∧ exec (.drcFreqForce k) s = .next s ∧ exec .drcFreqCancel s = .next s) ∧
  (∀ s : State, unitsRun s = true → s.dram.req = none → exec .drcFreqCancel s = .next s) ∧
  (∀ (s : State) (k : Nat) (f : Bool), unitsRun s = true → s.dram.req = some ⟨k, f, false⟩ →
    let u := { s with dram := { s.dram with req := none } }
    exec .drcFreqCancel s = .next (if get s R.DRC_FREQ_STAT_STATE = 1 then put (put u R.DRC_FREQ_STAT_STATE 0) R.DRC_FREQ_STAT_WAIT 0 else u)) ∧
  (∀ (s : State) (relocked : Bool) (t : Nat), get s R.DRC_FREQ_STAT_STATE = 2 →
    let a := if relocked then put (stamp s t) R.DRC_STAT_SET s.dram.rateSet
      else { put (stamp s t) R.DRC_FREQ_STAT_FAILED 1 with dram := { s.dram with rateSet := get s R.DRC_STAT_SET } }
    let b := put { a with dram := { a.dram with postponed := [], openRow := [] } } R.DRC_FREQ_STAT_LAST (min 255 ((t - s.dram.started) / 120))
    let c := put (put b R.DRC_STAT_FCBUSY 0) R.DRC_FREQ_STAT_STATE (if s.dram.req.isSome then 1 else 0)
    exec (.freqChangeDone relocked t) s = .next (overcommitCheck (put (bump c R.DRC_FREQ_CNT_COUNT) (R.HUB_PEND hubDrcFreqDone) 1))) ∧
  (∀ (s : State) (v : Word32), unitsRun s = true → let k := 1 - get s R.DRC_STAT_SET
    (bitAt v.toNat 0 = false → exec (.drcTrain v) s = .next s) ∧
    (bitAt v.toNat 0 = true → tsetOpen s k = true → s.dram.training = none →
      exec (.drcTrain v) s = .next { s with dram := { s.dram with training := some k } }) ∧
    (bitAt v.toNat 0 = true → (tsetOpen s k = false ∨ s.dram.training ≠ none) → exec (.drcTrain v) s = .next (put s R.DRC_STAT_CFGERR 1))) ∧
  (∀ (s : State) (ok : Bool) (k : Nat), s.dram.training = some k →
    exec (.trainingDone ok) s = .next (putTrained { s with dram := { s.dram with training := none } } k ok)) ∧
  (∀ (s : State) (k : Fin 2) (reg : Fin 4) (v : Word32), unitsRun s = true →
    exec (.drcTsetWrite k reg v) s = .next (if tsetOpen s k then putTrained (putTset s k reg v.toNat) k false else put s R.DRC_STAT_CFGERR 1))

/-- A write of DRC_PORT_TGT below 250, or above the target in force and above some requirement that an admitted program, active
or standby, declares for the port, changes nothing but CFGERR. Any other value of the 16-bit field, and every lower one from 250
up, becomes the target. -/
def Obligations.LatencyTargetsStayWithinDeclaredRequirements : Prop :=
  ∀ (s : State) (port : Fin 24) (v : Word32), unitsRun s = true →
    let n := bits v.toNat 0 16
    let declared (ns : Nat) : Prop := ∃ x ∈ reservedImages s, ∃ k < 8,
      hdrLatPort x.2 k = port.val ∧ ¬ (hdrLatPort x.2 k = 0 ∧ hdrLatNs x.2 k = 0) ∧ hdrLatNs x.2 k < ns
    (n < 250 → exec (.drcPortTgtWrite port v) s = .next (put s R.DRC_STAT_CFGERR 1)) ∧
    (get s (R.DRC_PORT_TGT_NS port) < n → declared n → exec (.drcPortTgtWrite port v) s = .next (put s R.DRC_STAT_CFGERR 1)) ∧
    (250 ≤ n → ¬ declared n → exec (.drcPortTgtWrite port v) s = .next (put s (R.DRC_PORT_TGT_NS port) n)) ∧
    (250 ≤ n → n ≤ get s (R.DRC_PORT_TGT_NS port) → exec (.drcPortTgtWrite port v) s = .next (put s (R.DRC_PORT_TGT_NS port) n))

/-! ## The magazine ports and the sideband -/

/-- MAG_OPEN, MAG_CLOSE and MAG_FORMAT wait while another owner of the port is at work, then: PRIV_DENIED but for P0, BAD_FIELD
for a bad form or port, NOT_READY where the port is not in the state for it, else the operation is created on the port. HOSTIO
likewise, its write for P0 in IDLE or MAINT alone, within the magazine; the write asks for the host's data first. A spool
operation reaches its queue: MODE_DENIED where the mode no longer permits the queue, BAD_OPCODE, BAD_DESC, TAG_BUSY, BAD_ADDR,
NO_SESSION, NO_CLIP, NOT_CODED, NOT_FOUND and RANGE in this order, each completing it; else a frame or a gap is placed on its
stripe, or the footer, the blocks or the deallocation are asked for. A row that is not the operation's changes nothing. Whatever
is created goes on as far as it can. -/
def Obligations.MagazineCommandsAndSpoolOperationsBeginOrEnd : Prop :=
  (∀ (s : State) (p : Part) (r : Ring) (id : Nat),
    (mgWaits s p r id 0x10 = true → exec (.magOpen p r id) s = .next s) ∧
    (mgWaits s p r id 0x11 = true → exec (.magClose p r id) s = .next s) ∧
    (mgWaits s p r id 0x12 = true → exec (.magFormat p r id) s = .next s)) ∧
  (∀ (s : State) (p : Part) (r : Ring) (id : Nat) (c : RingCmd), findCmd s p r id 0x10 = some c → mgWaits s p r id 0x10 = false →
    let d := dropCmd s c
    let n := leAt c.entry 4 1
    let does (u : State) : Prop := Completes (.magOpen p r id) s u
    (c.part ≠ 0 → does (complete d c stPrivDenied 0)) ∧
    (c.part = 0 → formOk c.entry [(4, 1)] = false ∨ 4 ≤ n → does (complete d c stBadField 0)) ∧
    (c.part = 0 → formOk c.entry [(4, 1)] = true → n < 4 →
      (hasSession d n = true → does (complete d c stNotReady 6)) ∧
      (hasSession d n = false → mgReachable d n = false → does (complete d c stNotReady 1)) ∧
      (hasSession d n = false → mgReachable d n = true → does (addOp d n (.opening c) (bringUp ++ [.act .openHdrs]) 2)))) ∧
  (∀ (s : State) (p : Part) (r : Ring) (id : Nat) (c : RingCmd), findCmd s p r id 0x11 = some c → mgWaits s p r id 0x11 = false →
    let d := dropCmd s c
    let n := leAt c.entry 4 1
    let does (u : State) : Prop := Completes (.magClose p r id) s u
    (c.part ≠ 0 → does (complete d c stPrivDenied 0)) ∧
    (c.part = 0 → formOk c.entry [(4, 1)] = false ∨ 4 ≤ n → does (complete d c stBadField 0)) ∧
    (c.part = 0 → formOk c.entry [(4, 1)] = true → n < 4 →
      (hasSession d n = true → clipOn d n = false → magState d n = mgSession → does (addOp d n (.closing (some c))
        [.cmds [{ q := 0, kind := .flush, lba := 0, blocks := 0, data := [] }], .act .closeHdr, .act .closeDone] 0)) ∧
      (hasSession d n = false ∨ clipOn d n = true ∨ magState d n ≠ mgSession → does (complete d c stNotReady 0)))) ∧
  (∀ (s : State) (p : Part) (r : Ring) (id : Nat) (c : RingCmd), findCmd s p r id 0x12 = some c → mgWaits s p r id 0x12 = false →
    let d := dropCmd s c
    let n := leAt c.entry 4 1
    let fl := leAt c.entry 5 1
    let does (u : State) : Prop := Completes (.magFormat p r id) s u
    (c.part ≠ 0 → does (complete d c stPrivDenied 0)) ∧
    (c.part = 0 → formOk c.entry [(4, 1), (5, 1)] = false ∨ 4 ≤ n ∨ 2 ≤ fl → does (complete d c stBadField 0)) ∧
    (c.part = 0 → formOk c.entry [(4, 1), (5, 1)] = true → n < 4 → fl < 2 →
      (modeOf d = modeIDLE ∨ modeOf d = modeMAINT → hasSession d n = false → mgReachable d n = true →
        does (addOp d n (.formatting c (bitAt fl 0)) (bringUp ++ [.act .fmtStart]) 0)) ∧
      ((modeOf d ≠ modeIDLE ∧ modeOf d ≠ modeMAINT) ∨ hasSession d n = true ∨ mgReachable d n = false →
        does (complete d c stNotReady 0)))) ∧
  (∀ (s : State) (p : Part) (r : Ring) (id : Nat) (c : RingCmd), findCmd s p r id 0x13 = some c →
    let d := dropCmd s c
    let n := leAt c.entry 4 1
    let w := bitAt (leAt c.entry 5 1) 0
    let lba := leAt c.entry 8 8
    let k := leAt c.entry 0x10 4
    let a := leAt c.entry 0x18 8
    let row : Instr := if w then .hostioWrite p r id else .hostioRead p r id
    let good := formOk c.entry [(4, 1), (5, 1), (8, 8), (0x10, 4), (0x18, 8)] = true ∧ n < 4 ∧ leAt c.entry 5 1 < 2 ∧
      k ≠ 0 ∧ k ≤ 256 ∧ a % 4096 = 0
    let ready := hasSession d n = true ∧ (w = false ∨ modeOf d = modeIDLE ∨ modeOf d = modeMAINT)
    Completes (if w then .hostioRead p r id else .hostioWrite p r id) s s ∧
    (w = true → c.part ≠ 0 → Completes row s (complete d c stPrivDenied 0)) ∧
    ((w = false ∨ c.part = 0) →
      (¬ good → Completes row s (complete d c stBadField 0)) ∧
      (good → ¬ ready → Completes row s (complete d c stNotReady 0)) ∧
      (good → ready → (sessOf d n).nsze < lba + k → Completes row s (complete d c stBadField 0)) ∧
      (good → ready → lba + k ≤ (sessOf d n).nsze →
        (w = false → Completes row s (addOp d n (.hostio c false) [.cmds (readReqs d n 6 lba k), .act .ioDone] 0)) ∧
        (w = true → Completes row s
          (startOp (addOp d n (.hostio c true) [.host, .act .ioWrite] 0) c.part (.magDirect n d.mags.nextOp) a (4096 * k) false []))))) ∧
  (∀ (s : State) (q : Fin 8) (t : Nat) (x : SpoolReq), (s.mags.spool.find? fun x => x.q == q.val) = some x →
    let z := stamp s t
    let e := { z with mags := { s.mags with spool := s.mags.spool.erase x } }
    let op := spOp x.desc
    let row (k : Nat) : Instr := match k with
      | 0 => .writeFrame q t
      | 1 => .discard q t
      | 2 => .readFrame q t
      | 3 => .readBlocks q t
      | _ => .trim q t
    let n := spPort x.desc
    let lba := spLayout x.desc
    let m := spCount x.desc
    let sess := sessOf e n
    (∀ k, k < 5 → k ≠ op → op ≤ 4 → Completes (row k) s z) ∧
    ∀ k, k < 5 → k = op ∨ 4 < op →
    let does (u : State) : Prop := Completes (row k) s u
    let ends (u : State) (mem st : Nat) : Prop := does (spoolDone u x st (spDoneFlags false false false false) mem 0)
    let freed : State := if op ≤ 1 then releaseAll e (spRefs e x.desc) else e
    let left : State := if spAddrs e x then freed else e
    let may := queuePermitted (modeOf e) x.q = true
    let known := op ≤ 4 ∧ spAllowed op x.q = true
    let good := may ∧ known ∧ spForm x.desc = true ∧ x.dup = false ∧ spAddrs e x = true
    (¬ may → ends left 0 jsModeDenied) ∧
    (may → ¬ known → ends e 0 jsBadOpcode) ∧
    (may → known → spForm x.desc = false → ends left 0 jsBadDesc) ∧
    (may → known → spForm x.desc = true → x.dup = true → ends left 0 jsTagBusy) ∧
    (may → known → spForm x.desc = true → x.dup = false → spAddrs e x = false → ends e 0 jsBadAddr) ∧
    (2 ≤ op → good → 4 ≤ n ∨ hasSession e n = false → ends e 0 spNoSession) ∧
    (op ≤ 1 → good → spClip e x = none → ends freed 0 spNoClip) ∧
    (∀ c, op ≤ 1 → good → spClip e x = some c →
      let pipe := findPipe e (spTick x.desc)
      let bufs := spRefs e x.desc
      let missing : Bool := match pipe with | some f => f.kind != 0 | none => !c.alaz
      let about := fsRead e (spMeta x.desc) (spMetaLen x.desc)
      let id : FrameId := { part := x.part, stream := b2n c.proxy, tick := spTick x.desc }
      (missing = true → does (spPlace e c x true (gapFlag pipe) [] [] [] bufs)) ∧
      (missing = false → op = 1 → does (spPlace e c x true flDropped [] [] [] bufs)) ∧
      (missing = false → op = 0 → c.alaz = false →
        does (spPlace e c x false (slotFlags pipe) about (rawEssence e (spTick x.desc)) [] [])) ∧
      (missing = false → op = 0 → c.alaz = true → finalCkpts e id (fsRead e lba 64) = none → ends freed 0 spNotCoded) ∧
      (∀ cs, missing = false → op = 0 → c.alaz = true → finalCkpts e id (fsRead e lba 64) = some cs →
        let (ess, offs, ovf) := alazEssence e x id cs
        does (spPlace e c x false (slotFlags pipe + flOvf * b2n ovf) about ess offs bufs))) ∧
    (op = 2 → good → n < 4 → hasSession e n = true →
      (lookupKey sess.dir m = none → ends e n spNotFound) ∧
      (∀ b, lookupKey sess.dir m = some b → beAt b 0x28 8 = 0 → ends e n spNotFound) ∧
      (∀ b, lookupKey sess.dir m = some b → beAt b 0x28 8 ≠ 0 →
        does (addOp e n (.readFrame x) [.cmds (readReqs e n x.q (beAt b 0x28 8) 1), .act .rfFooter] 0))) ∧
    (op = 3 → good → n < 4 → hasSession e n = true →
      (sess.nsze < lba + m → ends e n spRange) ∧
      (lba + m ≤ sess.nsze → does (addOp e n (.readBlocks x) [.cmds (readReqs e n x.q lba m), .act .rbDone] 0))) ∧
    (op = 4 → good → n < 4 → hasSession e n = true →
      (trimOk sess lba m = false → ends e n spRange) ∧
      (trimOk sess lba m = true → does (addOp e n (.trimOp x)
        [.cmds [{ q := x.q, kind := .dealloc, lba := lba, blocks := m, data := [] }], .act .trimDone] 0))))

/-- A scheduler slot on a port that may issue takes Q0 before Q1 before the weighted queue next in turn. A completion without
error takes the command off its queue and hands its data to its operation; one with an error has the error log read, is retried
up to MAG_CFG.RETRY times and then fails its operation. A command outstanding for CMDTO is aborted; an Abort outstanding 10 ms,
CSTS.CFS or a lost link start port loss. CSTS.RDY lets the waiting operation go on when MQES and MPSMIN allow it, else, or with
a timeout, it fails. SMART is read each second of a session. A shaper write above 14,000 sets CFGERR; another takes effect and
empties the credit, or fills it with bit 31; queues 0 and 1 have none. -/
def Obligations.NvmeCommandsAreScheduledCompletedAndTimedOut : Prop :=
  (∀ (s : State) (n : MagPort) (t : Nat), let v := fuaAll (magAccrue (stamp s t) n) n
    (portIssues v n = false → Completes (.schedulerSlot n t) s v) ∧
    (portIssues v n = true → queueReady v n 0 = true → Completes (.schedulerSlot n t) s (issueFrom v n 0)) ∧
    (portIssues v n = true → queueReady v n 0 = false → queueReady v n 1 = true → Completes (.schedulerSlot n t) s (issueFrom v n 1)) ∧
    (∀ q left, portIssues v n = true → queueReady v n 0 = false → queueReady v n 1 = false → nextWeighted v n = some (q, left) →
      Completes (.schedulerSlot n t) s (cacheFlush (issueFrom (modMag v n fun m => { m with rr := (q, left) }) n q) n)) ∧
    (portIssues v n = true → queueReady v n 0 = false → queueReady v n 1 = false → nextWeighted v n = none →
      Completes (.schedulerSlot n t) s v)) ∧
  (∀ (s : State) (n : MagPort) (cid : Nat) (sc : Fin 256) (sct : Fin 8) (dw0 : Word32) (data : List Byte) (t : Nat),
    let row : Instr := .nvmeCompletion n cid sc sct dw0 data t
    let v := magAccrue (stamp s t) n
    let hit := (magOf s n).cmds.find? fun c => c.cid == cid && (c.st == 1 || c.st == 2)
    (hit = none → Completes row s (stamp s t)) ∧
    (∀ c, hit = some c → c.kind = .abort → Completes row s (dropNv v n cid)) ∧
    (∀ c, hit = some c → c.kind ≠ .abort → sc.val = 0 → sct.val = 0 → Completes row s (nvOk v n c dw0.toNat data)) ∧
    (∀ c, hit = some c → c.kind ≠ .abort → sc.val ≠ 0 ∨ sct.val ≠ 0 →
      let l := if c.kind = .errLog then v else addOp v n .errLog [.cmds [adminReq .errLog 1], .act .errDone] (nvOpcode c.kind)
      let rest := (magOf l n).cached.filter fun e => e.1 != c.cid
      let b := if (magOf l n).cached.any (fun e => e.1 == c.cid) then
        put (modMag l n fun m => { m with cached := rest }) (R.MAG_CACHED_BLOCKS n) (rest.map (·.2.2)).sum else l
      let again (d : NvCmd) : NvCmd := if d.cid = c.cid then
        { d with tries := d.tries + 1, q := d.home, issued := b.clk, st := if d.home = 8 then 1 else 0 } else d
      (c.tries < get b (R.MAG_CFG_RETRY n) → Completes row s (modMag b n fun m => { m with cmds := m.cmds.map again })) ∧
      (get b (R.MAG_CFG_RETRY n) ≤ c.tries →
        let u := dropNv (latNote b n c) n c.cid
        (findMop u n c.op = none → Completes row s u) ∧
        (∀ o, findMop u n c.op = some o → Completes row s (cmdFail u n c o))))) ∧
  (∀ (s : State) (n : MagPort) (cid t : Nat),
    let z := stamp s t
    let late (d : NvCmd) : NvCmd := if d.cid = cid then { d with st := 2, abortAt := z.clk } else d
    let hit := (magOf s n).cmds.find? fun c => c.cid == cid && c.st == 1 && c.kind != .abort
    (hit = none → Completes (.nvmeCommandTimeout n cid t) s z) ∧
    (∀ c, hit = some c → z.clk < c.issued + 1200000 * get s (R.MAG_CFG_CMDTO n) → Completes (.nvmeCommandTimeout n cid t) s z) ∧
    (∀ c, hit = some c → c.issued + 1200000 * get s (R.MAG_CFG_CMDTO n) ≤ z.clk → Completes (.nvmeCommandTimeout n cid t) s
      (addCmd (modMag z n fun m => { m with cmds := m.cmds.map late }) n abortOp (adminReq .abort cid)))) ∧
  (∀ (s : State) (n : MagPort) (cid t : Nat),
    let z := stamp s t
    let lapsed : Prop := ∃ c ∈ (magOf s n).cmds, c.kind = .abort ∧ c.lba = cid ∧ 12000000 + c.issued ≤ z.clk
    (lapsed → Completes (.abortTimeout n cid t) s (portLose z n z.clk)) ∧ (¬ lapsed → Completes (.abortTimeout n cid t) s z)) ∧
  (∀ (s : State) (n : MagPort) (t : Nat), Completes (.cstsCfsSet n t) s (portLose (stamp s t) n t)) ∧
  (∀ (s : State) (n : MagPort) (mqes mpsmin t : Nat),
    let z := stamp s t
    let hit := (magOf s n).ops.find? fun o => match o.steps with | .rdy :: _ => true | _ => false
    (hit = none → Completes (.cstsRdySet n mqes mpsmin t) s z ∧ Completes (.cstsRdyTimeout n t) s z) ∧
    (∀ o, hit = some o →
      (mqes < 31 ∨ mpsmin ≠ 0 → Completes (.cstsRdySet n mqes mpsmin t) s (opFail z n o)) ∧
      (31 ≤ mqes → mpsmin = 0 → Completes (.cstsRdySet n mqes mpsmin t) s
        (modMop (modMag z n fun m => { m with mqes := mqes }) n o.id fun o => { o with steps := o.steps.drop 1 })) ∧
      Completes (.cstsRdyTimeout n t) s (opFail z n o))) ∧
  (∀ (s : State) (n : MagPort) (t : Nat),
    let due := magState s n = mgSession ∧ 1200000000 + (magOf s n).smartAt ≤ t
    (due → Completes (.smartPoll n t) s
      (addOp (modMag (stamp s t) n fun m => { m with smartAt := t }) n .smart [.cmds [adminReq .smart 0], .act .smartDone] 0)) ∧
    (¬ due → Completes (.smartPoll n t) s (stamp s t))) ∧
  (∀ (s : State) (n : MagPort) (q : Fin 8) (v : Word32) (t : Nat), unitsRun s = true →
    let z := magAccrue (stamp s t) n
    let rate := bits v.toNat 0 16
    let credit (u : State) (c : Int) : State := modMag u n fun m => { m with credit := setAt m.credit q c }
    (q.val < 2 → exec (.magQShapeWrite n q v t) s = .next z ∧ exec (.magQBurstWrite n q v t) s = .next z) ∧
    (2 ≤ q.val → 14000 < rate → exec (.magQShapeWrite n q v t) s = .next (put z (R.MAG_STAT_CFGERR n) 1)) ∧
    (2 ≤ q.val → rate ≤ 14000 → bitAt v.toNat 31 = false →
      exec (.magQShapeWrite n q v t) s = .next (credit (put z (R.MAG_Q_SHAPE_RATE n q) rate) 0)) ∧
    (2 ≤ q.val → rate ≤ 14000 → bitAt v.toNat 31 = true →
      let w := put z (R.MAG_Q_SHAPE_RATE n q) rate
      exec (.magQShapeWrite n q v t) s = .next (credit w ((creditUnit * get w (R.MAG_Q_BURST_KIB n q) : Nat) : Int))) ∧
    (2 ≤ q.val → exec (.magQBurstWrite n q v t) s = .next (credit (put z (R.MAG_Q_BURST_KIB n q) (bits v.toNat 0 24)) 0)))

/-- A lost link starts port loss; a link that trains on an enabled port makes a training port READY and brings a lost one with a
session up again, unless the hold window is over, which drops it. MAG_CTL enables, disables and drops a port. Presence clears
what is known of the magazine and asks for its identity and label slots; its removal ends power, transfers and label work and
starts port loss. SBD_CTL may not take power off an open session. A transfer that ends well goes on in its use; a NAK waits 1 ms
and is retried three times at most. The gauge takes samples, starts from voltage after 2 s of rest, and evaluates: in doubt
LIMIT is 0, below the cut-off energy and charge are 0, charge 0 above it is DISAGREE with 3/4 of the voltage estimate, else the
lower estimate counts. A label update begins where it is allowed (LAST 3 where not), waits for a busy panel or an unread
magazine, and its BUSY poll leads to the closing slot, or LAST 1 after 5 s; a recovery's poll leads to a closed slot with
RECOVERED. -/
def Obligations.LinksPresenceTransfersGaugeAndLabelFollow : Prop :=
  (∀ (s : State) (n : MagPort) (t : Nat), let z := stamp s t
    let up (u : State) : Prop := Completes (.linkRetrain n true t) s u ∧ Completes (.magLinkUp n t) s u
    let l := modMag z n fun m => { m with link := true }
    let r := modMag l n fun m => { m with lostAt := none }
    let trains := isSet s (R.MAG_CTL_EN n) = true ∧ (magOf s n).link = false
    let lost := magState s n = mgLost
    Completes (.magLinkDown n t) s (portLose z n t) ∧
    Completes (.linkRetrain n false t) s z ∧
    (¬ trains → up z) ∧
    (trains → magState s n = mgTraining → up (put l (R.MAG_STAT_STATE n) mgReady)) ∧
    (trains → lost → hasSession s n = false → up (put r (R.MAG_STAT_STATE n) mgReady)) ∧
    (trains → lost → hasSession s n = true → (magOf s n).lostAt = none → up l) ∧
    (∀ a, trains → lost → hasSession s n = true → (magOf s n).lostAt = some a →
      (a + 1200000 * get s (R.MAG_CFG_HOLD n) ≤ z.clk → up (dropDue r n 1)) ∧
      (z.clk < a + 1200000 * get s (R.MAG_CFG_HOLD n) → up (addOp r n .comeBack (bringUp ++ [.act .returned]) 0))) ∧
    (trains → magState s n ≠ mgTraining → ¬ lost → up l)) ∧
  (∀ (s : State) (n : MagPort) (t : Nat), let z := stamp s t
    let c := modMag z n fun m => { m with lostAt := none }
    ((magOf s n).lostAt = none → Completes (.holdWindowExpiry n t) s z) ∧
    (∀ a, (magOf s n).lostAt = some a →
      (z.clk < a + 1200000 * get s (R.MAG_CFG_HOLD n) → Completes (.holdWindowExpiry n t) s z) ∧
      (a + 1200000 * get s (R.MAG_CFG_HOLD n) ≤ z.clk → Completes (.holdWindowExpiry n t) s
        (if hasSession c n then dropDue c n 1 else put c (R.MAG_STAT_STATE n) mgTraining)))) ∧
  (∀ (s : State) (n : MagPort) (v : Word32), unitsRun s = true →
    let en := bitAt v.toNat 0
    let e := put s (R.MAG_CTL_EN n) (b2n en)
    let off := put (modMag ((magOf e n).ops.foldl (fun s o => opFail s n o) e) n fun m => { m with link := false, lostAt := none })
      (R.MAG_STAT_STATE n) mgOff
    let u := if en = isSet s (R.MAG_CTL_EN n) then e
      else if en then (if magState e n = mgOff then put e (R.MAG_STAT_STATE n) mgTraining else e)
      else if hasSession e n then portLose e n e.clk else off
    let out := magState u n = mgOff ∨ magState u n = mgDropped ∨ magState u n = mgFailed
    (bitAt v.toNat 1 = false ∨ out → Completes (.magDropRequest n v) s u) ∧
    (bitAt v.toNat 1 = true → ¬ out → Completes (.magDropRequest n v) s
      (dropDue u n (if hasSession u n && magState u n == mgSession then 2 else 1)))) ∧
  (∀ (s : State) (n : MagPort) (t : Nat),
    let p := put (bump (put (stamp s t) (R.SBD_STAT_PRSNT n) 1) (R.SBD_PRSNT_CNT_COUNT n)) (R.SBD_STAT_IDVALID n) 0
    let c := modSbd p n fun x => { x with xfers := [], nakAt := none, slots := [[], []], known := false, cal := false, charge := 0, rest := 0, volts := [] }
    let w := if isSet c (R.SBD_CTL_AUTO n) then c else put c (R.SBD_STAT_PWREN n) (b2n (isSet c (R.SBD_CTL_PWR n) && magPresent c n))
    (magPresent s n = true → Completes (.presenceAssert n t) s (stamp s t)) ∧
    (magPresent s n = false → Completes (.presenceAssert n t) s
      (addXfer (addXfer (addXfer w n .ident 0x50 0 [] 128) n (.slot 0) 0x50 0x80 [] 32) n (.slot 1) 0x50 0xC0 [] 32))) ∧
  (∀ (s : State) (n : MagPort) (t : Nat),
    let p := put (put (put (stamp s t) (R.SBD_STAT_PRSNT n) 0) (R.SBD_STAT_PWREN n) 0) (R.SBD_CTL_LIFEOVR n) 0
    let j := if (sbdOf s n).xfers.any fun q => decide (q.use = .wearWrite) then put p (R.SBD_STAT_JRNERR n) 1 else p
    let c := modSbd j n fun x => { x with xfers := [], nakAt := none, sentAt := none, image := [], known := false, cal := false, jrn := 0 }
    let l := if get c (R.SBD_LBL_STAT_STATE n) = 1 then put c (R.SBD_LBL_STAT_LAST n) 4 else c
    (magPresent s n = false → Completes (.presenceRemove n t) s (stamp s t)) ∧
    (magPresent s n = true →
      Completes (.presenceRemove n t) s (raise (portLose (gaugeDoubtCheck (put l (R.SBD_LBL_STAT_STATE n) 0) n) n t) (sbdSrc n 1)))) ∧
  (∀ (s : State) (n : MagPort) (v : Word32), unitsRun s = true → let w := v.toNat
    let u := put (put (put s (R.SBD_CTL_PWR n) (bits w 0 1)) (R.SBD_CTL_AUTO n) (bits w 1 1)) (R.SBD_CTL_LIFEOVR n) (bits w 2 1)
    let cuts := isSet s (R.SBD_CTL_PWR n) = true ∧ bitAt w 0 = false ∧ hasSession s n = true
    (cuts → exec (.sbdCtlWrite n v) s = .next (put s (R.SBD_STAT_CFGERR n) 1)) ∧
    (¬ cuts → exec (.sbdCtlWrite n v) s = .next (if isSet u (R.SBD_CTL_AUTO n) then u else
      put u (R.SBD_STAT_PWREN n) (b2n (isSet u (R.SBD_CTL_PWR n) && magPresent u n))))) ∧
  (∀ (s : State) (n : MagPort) (nak : Bool) (data : List Byte) (t : Nat),
    ((sbdOf s n).xfers = [] ∨ (sbdOf s n).nakAt ≠ none → Completes (.sbdI2cDone n nak data t) s s) ∧
    ∀ (x : SbdXfer) (xs : List SbdXfer), (sbdOf s n).xfers = x :: xs → (sbdOf s n).nakAt = none → let z := stamp s t
    (nak = true → x.tries < 3 → Completes (.sbdI2cDone n nak data t) s
      (modSbd z n fun y => { y with xfers := { x with tries := x.tries + 1 } :: xs, nakAt := some t })) ∧
    (nak = false ∨ 3 ≤ x.tries → Completes (.sbdI2cDone n nak data t) s
      (xferDone (modSbd z n fun y => { y with xfers := xs }) n x (!nak) (sliceBytes data 0 x.read) t))) ∧
  (∀ (s : State) (n : MagPort) (t : Nat), ((sbdOf s n).nakAt = none → exec (.sbdI2cRetry n t) s = .next s) ∧
    ∀ a, (sbdOf s n).nakAt = some a →
    (1200000 + a ≤ t → exec (.sbdI2cRetry n t) s = .next (modSbd (stamp s t) n fun y => { y with nakAt := none })) ∧
    (t < 1200000 + a → exec (.sbdI2cRetry n t) s = .next s)) ∧
  (∀ (s : State) (n : MagPort) (v i : BitVec 12),
    let uf := idHoldup (idBlock s n)
    let vc := idVcut (idBlock s n)
    let ma : Int := (i.toNat : Int) - 2048
    let stuck (c k : Nat) : Nat := if c = 0 ∨ c = 4095 then min 16 (k + 1) else 0
    let after (x : SbdSt) : SbdSt :=
      { x with volts := (x.volts ++ [v.toNat]).drop (x.volts.length - 9), stuckV := stuck v.toNat x.stuckV, stuckI := stuck i.toNat x.stuckI,
               rest := if -5 < ma ∧ ma < 5 then (if x.rest < 20000 then x.rest + 1 else x.rest) else 0,
               charge := if idValid s n then min ((x.charge : Int) + 16000 * ma).toNat (160 * uf * (19195 - vc)) else x.charge }
    let c := modSbd s n after
    let m := putGauge (putInt c (R.SBD_GAUGE_V_MA n) ma) (R.SBD_GAUGE_V_MV n) (75 * v.toNat) 16
    let u := putGauge (put m (R.SBD_GAUGE_STAT_REST n) (min 2000 ((sbdOf c n).rest / 10))) (R.SBD_GAUGE_Q_UC n) (sbdOf c n).charge 160000
    Completes (.gaugeSample n v i) s (gaugeDoubtCheck u n)) ∧
  (∀ (s : State) (n : MagPort),
    let d := gaugeDoubtCheck s n
    let b := idBlock d n
    let uf := idHoldup b
    let vc := idVcut b
    let q := (sbdOf d n).charge
    let sum := gaugeSum (sbdOf d n)
    let ev := energyV uf vc sum
    let v := if idValid d n then
      putGauge (putGauge d (R.SBD_GAUGE_EQ_UJ n) (energyQ uf vc q) (energyDen uf)) (R.SBD_GAUGE_EV_UJ n) ev (energyDen uf) else d
    let limit (u : State) (st e : Nat) : State := let l := put (put u (R.SBD_GAUGE_STAT_STATE n) st) (R.MAG_HOLDUP_LIMIT n) (min e 0xFFFFFF)
      cacheFlush (fuaAll l n) n
    let energy (u : State) (e : Nat) : State := putGauge u (R.SBD_GAUGE_E_UJ n) e (4 * energyDen uf)
    let level (e : Nat) : Nat := limitOf uf (idFixed b) (idBlk b) e
    let c := modSbd v n fun x => { x with inDoubt := false }
    let low := energy (put (modSbd v n fun x => { x with inDoubt := false, charge := 0 }) (R.SBD_GAUGE_Q_UC n) 0) 0
    let high := energy c (3 * ev)
    let both := 4 * min (energyQ uf vc q) ev
    (gaugeDoubtful v n = true → Completes (.gaugeEvaluate n) s (limit v 0 0)) ∧
    (gaugeDoubtful v n = false → 75 * sum ≤ 160 * vc → Completes (.gaugeEvaluate n) s (limit low 3 (level 0))) ∧
    (gaugeDoubtful v n = false → 160 * vc < 75 * sum → q = 0 → 0 < ev → Completes (.gaugeEvaluate n) s
      (limit (if get high (R.SBD_GAUGE_STAT_STATE n) ≠ 2 then
        fault (raise (put high (R.SBD_GAUGE_STAT_DISAGREE n) 1) (sbdSrc n 2)) (fltGaugeDisagree n) else high) 2 (level (3 * ev)))) ∧
    (gaugeDoubtful v n = false → 160 * vc < 75 * sum → q ≠ 0 ∨ ev = 0 →
      Completes (.gaugeEvaluate n) s (limit (energy c both) 1 (level both)))) ∧
  (∀ (s : State) (n : MagPort),
    let full := (sbdOf s n).rest = 20000 ∧ magPresent s n = true ∧ idValid s n = true
    let q := idHoldup (idBlock s n) * (75 * gaugeSum (sbdOf s n) - 160 * idVcut (idBlock s n))
    (full → exec (.gaugeRestComplete n) s = .next
      (putGauge (modSbd s n fun x => { x with charge := q, cal := true, rest := 20001 }) (R.SBD_GAUGE_Q_UC n) q 160000)) ∧
    (¬ full → exec (.gaugeRestComplete n) s = .next s)) ∧
  (∀ (s : State) (n : MagPort) (v : Word32), unitsRun s = true →
    let a := get s (R.SBD_LBL_SRC_LO_ADDR n) + 2 ^ 32 * get s (R.SBD_LBL_SRC_HI_ADDR n)
    let busy := get s (R.SBD_LBL_STAT_STATE n) ≠ 0 ∨ (magPresent s n = true ∧ (sbdOf s n).known = false)
    let k := (nextSlot (sbdOf s n)).1
    (bitAt v.toNat 0 = false → exec (.labelGo n v) s = .next s) ∧
    (bitAt v.toNat 0 = true → busy →
      exec (.labelGo n v) s = .next (put (modSbd s n fun x => { x with pend := a }) (R.SBD_LBL_STAT_PEND n) 1)) ∧
    (bitAt v.toNat 0 = true → ¬ busy → labelAllowed s n = false → exec (.labelGo n v) s = .next (put s (R.SBD_LBL_STAT_LAST n) 3)) ∧
    (bitAt v.toNat 0 = true → ¬ busy → labelAllowed s n = true → exec (.labelGo n v) s = .next
      (addXfer (put (modSbd s n fun x => { x with image := fsRead s a 4736, slot := k }) (R.SBD_LBL_STAT_STATE n) 1) n .updOpen 0x50
        (0x80 + 0x40 * k) (slotBytes (nextSlot (sbdOf s n)).2 1 0 (crc32c (fsRead s a 4736)) s.tick.no) 0))) ∧
  (∀ (s : State) (n : MagPort) (busy : Bool) (t : Nat), ((sbdOf s n).sentAt = none → exec (.labelBusyPoll n busy t) s = .next s) ∧
    ∀ a, (sbdOf s n).sentAt = some a → let z := stamp s t
    let x := sbdOf s n
    let c := modSbd z n fun x => { x with sentAt := none }
    let b := nth x.slots x.slot []
    let k := (nextSlot x).1
    (busy = true → t < 6000000000 + a → exec (.labelBusyPoll n busy t) s = .next z) ∧
    (busy = true → 6000000000 + a ≤ t → exec (.labelBusyPoll n busy t) s = .next (labelEnd z n (some 1))) ∧
    (busy = false → get s (R.SBD_LBL_STAT_STATE n) = 2 → exec (.labelBusyPoll n busy t) s = .next (addXfer c n .recSlot 0x50
      (0x80 + 0x40 * k) (slotBytes (nextSlot x).2 2 1 0 s.tick.no) 0)) ∧
    (busy = false → get s (R.SBD_LBL_STAT_STATE n) ≠ 2 → exec (.labelBusyPoll n busy t) s = .next (addXfer c n .updClose 0x50
      (0x80 + 0x40 * x.slot) (slotBytes (beAt b 0 4) 2 (beAt b 5 1) (beAt b 8 4) (beAt b 12 8)) 0)))

/-! ## Faults, injection, the belay pair and the anchor (R487 to R503) -/

/-- A cause sets its source's status bit whatever the mask; with the mask clear the class's counter advances, its hub source is
raised, and a device or fatal source is recorded first. A write of 1 clears the force bit, then the status bit only where the
cause is absent. Forcing needs arming, else INJ_STAT.CFGERR sets; a forced event has its class's response. Two keys within 1 ms
arm (1,200,000 cycles); a later second key, a write of 0 and the time-out cancel; disarming outside MAINT stops every injector. -/
def Obligations.FaultsRespondClearForceAndArm : Prop :=
  (∀ (s : State) (f : Nat), R.fltAssigned f = true → let z := put s (R.FLT_STAT f) 1
    let first (x : State) : State := if isSet x R.FLT_FIRST_VALID then x else
      put2 (put (put (put x R.FLT_FIRST_SRC f) R.FLT_FIRST_CLASS (R.fltClassCode f)) R.FLT_FIRST_VALID 1)
        R.FLT_FIRST_TICK_LO_NO R.FLT_FIRST_TICK_HI_NO x.tick.no
    (isSet z (R.FLT_MASK f) = true → fault s f = z) ∧
    (isSet z (R.FLT_MASK f) = false →
      (R.fltClassCode f = 0 → fault s f = raise (bump z R.FLT_CNT_CORR) 0xA0) ∧
      (R.fltClassCode f = 1 → fault s f = raise (bump z R.FLT_CNT_PART) 0xA1) ∧
      (R.fltClassCode f = 2 → fault s f = first (raise (bump z R.FLT_CNT_DEV) 0xA2)) ∧
      (R.fltClassCode f = 3 → fault s f = first (bump z R.FLT_CNT_FATAL)))) ∧
  (∀ (s : State) (w : Fin 8) (v : Word32), unitsRun s = true →
    exec (.fltStatClear w v) s = .next (forN 32 (fun i x => if bitAt v.toNat i then statClear x (32 * w + i) else x) s)) ∧
  (∀ (s : State) (f : Nat), let z0 := put s (R.FLT_FORCE f) 0
    let z := if (f = 0x48 ∨ f = 0x49) ∧ get s (R.FLT_FORCE f) ≠ 0 ∧ coreSt s (f - 0x48) = 2 then
      { z0 with sup := { z0.sup with since := setAt z0.sup.since (f - 0x48) z0.clk } } else z0
    (R.fltAssigned f = false → statClear s f = s) ∧
    (R.fltAssigned f = true → causePresent z f = true → statClear s f = z) ∧
    (R.fltAssigned f = true → causePresent z f = false → statClear s f = put z (R.FLT_STAT f) 0)) ∧
  (∀ s : State,
    (causePresent s 0x05 = true ↔ 400 ≤ getInt s R.CLK_TEMP_DEGC) ∧ (causePresent s 0x06 = true ↔ 448 ≤ getInt s R.CLK_TEMP_DEGC) ∧
    (causePresent s 0x07 = s.sup.clkBad) ∧ (causePresent s 0x08 = s.sup.railBad) ∧ (causePresent s 0x0B = movHalted s) ∧
    (causePresent s 0x0C = true ↔ get s R.POOL_STAT_BROKEN_E ≠ 0 ∨ get s R.POOL_STAT_BROKEN_G ≠ 0) ∧ (causePresent s 0x0F = s.sup.linkBad) ∧
    (∀ n : Nat, n < 18 → causePresent s (0x10 + n) = (strandOf s n).bad) ∧
    (∀ c : Nat, c < 2 → (causePresent s (0x48 + c) = true ↔ nth s.sup.mute c false = true ∨ coreSilent s c s.clk = true)) ∧
    (∀ n : Nat, n < 4 → (causePresent s (0x62 + 4 * n) = true ↔ get s (R.SBD_GAUGE_STAT_STATE n) = 2) ∧
      (causePresent s (0x63 + 4 * n) = true ↔ get s (R.SBD_STAT_LIFELOW n) ≠ 0)) ∧
    (causePresent s 0x80 = anchored s) ∧
    (∀ f : Nat, f ≤ 0x04 ∨ f ∈ [0x09, 0x0A, 0x0D, 0x0E, 0x4A] ∨ (0x28 ≤ f ∧ f < 0x48) ∨ (0x50 ≤ f ∧ f < 0x60) ∨
      (0x60 ≤ f ∧ f < 0x70 ∧ f % 4 < 2) ∨ (0x70 ≤ f ∧ f < 0x7C) → causePresent s f = false)) ∧
  (∀ (s : State) (w : Fin 8) (v : Word32), unitsRun s = true →
    (injArmed s = false → Completes (.fltForce w v) s (put s R.INJ_STAT_CFGERR 1)) ∧
    (injArmed s = true → Completes (.fltForce w v) s
      (forN 32 (fun i x => if bitAt v.toNat i && R.fltAssigned (32 * w + i) then forceOne x (32 * w + i) else x) s))) ∧
  (∀ (s : State) (f : Nat), let z := put s (R.FLT_FORCE f) 1
    let any := { z with free := z.free + 1 }
    (f ∈ [0x00, 0x02, 0x03, 0x04, 0x06, 0x07, 0x08, 0x0A, 0x0D, 0x0E, 0x0F, 0x4A, 0x80] ∨ (0x28 ≤ f ∧ f < 0x3A) ∨ (0x44 ≤ f ∧ f < 0x48) ∨
      (0x70 ≤ f ∧ f < 0x7C) → forceOne s f = fault z f) ∧
    (f = 0x01 → isRec (modeOf z) = false → forceOne s f = fault z f) ∧
    (isRec (modeOf (put s (R.FLT_FORCE 0x01) 1)) = true → forceOne s 0x01 = fault { put s (R.FLT_FORCE 0x01) 1 with sup := { s.sup with lost := true } } 0x01) ∧
    (f = 0x05 → forceOne s f = freqHot (fault z f)) ∧
    (f = 0x09 → forceOne s f = raise (fault z f) hubDrcUe) ∧
    (f = 0x0B → forceOne s f = movBusError any (freeVal z)) ∧
    (f = 0x0C → forceOne s f = breakList any (freeVal z % 2 == 0)) ∧
    (0x10 ≤ f → f < 0x22 → forceOne s f = fray z (f - 0x10) 0) ∧
    (∀ q : Nat, q < 4 → f = 0x40 + q →
      ((seqOf z q).cur = none → forceOne s f = fault z f) ∧
      (∀ p, (seqOf z q).cur = some p → forceOne s f = progFault (fault z f) q p 8 (pairOf z q p).pc (pairOf z q p).pc)) ∧
    (∀ c : Nat, c < 2 → f = 0x48 + c →
      (coreRuns z c = true ∨ coreSt z c = 4 → forceOne s f = showHealth (coreLost z c z.clk z.clk true) z.clk) ∧
      (coreSt z c = 2 → forceOne s f = fault (setMute z c true) f)) ∧
    (∀ p : Nat, p < 8 → (f = 0x50 + p → forceOne s f = fault (raiseP z p srcProgFault) f) ∧
      (f = 0x58 + p → forceOne s f = fault (raiseP z p srcXlateFault) f)) ∧
    (∀ n : Nat, n < 4 →
      (f = 0x60 + 4 * n → forceOne s f = if hasSession z n then portFail z n else fault (put z (R.MAG_STAT_STATE n) mgFailed) f) ∧
      (f = 0x61 + 4 * n → forceOne s f = if hasSession z n then fault (dropDue z n 5) f else fault (put z (R.MAG_STAT_STATE n) mgDropped) f) ∧
      (f = 0x62 + 4 * n → forceOne s f = fault (raise (put z (R.SBD_GAUGE_STAT_DISAGREE n) 1) (sbdSrc n 2)) f) ∧
      (f = 0x63 + 4 * n → forceOne s f = fault (raise (put z (R.SBD_STAT_LIFELOW n) 1) (sbdSrc n 4)) f))) ∧
  (∀ (s : State) (t : Nat), unitsRun s = true → let u := { stamp s t with sup := { s.sup with armAt := none } }
    exec (.injArmFirst t) s = .next { stamp s t with sup := { s.sup with armAt := some t } } ∧
    (s.sup.armAt = none → exec (.injArmSecond t) s = .next u) ∧
    (∀ a : Nat, s.sup.armAt = some a →
      (t ≤ a + 1200000 → exec (.injArmSecond t) s = .next (put u R.INJ_STAT_ARMED 1)) ∧
      (a + 1200000 < t → exec (.injArmSecond t) s = .next u))) ∧
  (∀ (s : State) (t : Nat), (s.sup.armAt = none → exec (.injArmTimeout t) s = .next s) ∧
    (∀ a : Nat, s.sup.armAt = some a →
      (a + 1200000 < t → exec (.injArmTimeout t) s = .next { stamp s t with sup := { s.sup with armAt := none } }) ∧
      (t ≤ a + 1200000 → exec (.injArmTimeout t) s = .next s))) ∧
  (∀ s : State, unitsRun s = true → let u := { s with sup := { s.sup with armAt := none } }
    (modeOf s = modeMAINT → exec (.injDisarm 0) s = .next u) ∧
    (modeOf s ≠ modeMAINT → exec (.injDisarm 0) s = .next
      (let z := forN 17 (fun i x => put x (R.INJ_CTL_EN i) 0) (put s R.INJ_STAT_ARMED 0)
      { z with sup := { z.sup with armAt := none, inj := z.sup.inj.map fun x => { x with held := none } } })) ∧
    (∀ v : Word32, v ≠ 0 → v ≠ 0xA5 → v ≠ 0x5A → exec (.injDisarm v) s = .next u))

/-- With EN clear a unit only releases what was held. With EN set it is counted; at any count but T nothing else happens. At
count T the action is taken: DONE counts it, T grows by INTERVAL with SEED 0 and otherwise by 1 + (x mod 2 INTERVAL) with x the
next state of the Galois LFSR, a reorder holds the unit, a corrupt flips bit BIT modulo the unit's bits, and the action that
reaches COUNT clears EN and raises INJ_DONE. A held unit goes on after 1 ms. -/
def Obligations.InjectorsCountAndAct : Prop :=
  (∀ (s : State) (i : Fin 17) (bytes t : Nat), s.sup.inj.length = 17 →
    let x := { injOf s i with held := none, did := none }
    let c (y : InjSt) : State := { stamp s t with sup := { s.sup with inj := setAt s.sup.inj i y } }
    let y := { x with seen := x.seen + 1 }
    (isSet s (R.INJ_CTL_EN i) = false → exec (.injUnit i bytes t) s = .next (c x)) ∧
    (isSet s (R.INJ_CTL_EN i) = true → x.seen + 1 ≠ x.next → exec (.injUnit i bytes t) s = .next (c y)) ∧
    (isSet s (R.INJ_CTL_EN i) = true → x.seen + 1 = x.next →
      let act := get s (R.INJ_CTL_ACT i)
      let iv := get s (R.INJ_INTERVAL_UNITS i)
      let l := if x.lfsr % 2 = 1 then (x.lfsr / 2) ^^^ 0x80200003 else x.lfsr / 2
      let fixed := get s (R.INJ_SEED_SEED i) == 0
      let z := { y with
        lfsr := if fixed then x.lfsr else l
        next := x.next + (if fixed then iv else 1 + l % (2 * iv))
        acts := x.acts + 1
        held := if act = 2 then some t else none
        did := some (act, if act = 1 then get s (R.INJ_BIT_BIT i) % (8 * bytes) else 0) }
      let d := bump (c z) (R.INJ_DONE_COUNT i)
      let n := get d (R.INJ_COUNT_N i)
      (n = 0 ∨ x.acts + 1 < n → exec (.injUnit i bytes t) s = .next d) ∧
      (n ≠ 0 → n ≤ x.acts + 1 → exec (.injUnit i bytes t) s = .next (raise (put d (R.INJ_CTL_EN i) 0) hubInjDone)))) ∧
  (∀ (s : State) (i : Fin 17) (t : Nat), ((injOf s i).held = none → exec (.injReorderTimeout i t) s = .next s) ∧
    (∀ a : Nat, (injOf s i).held = some a →
      (t < a + 1200000 → exec (.injReorderTimeout i t) s = .next s) ∧
      (a + 1200000 ≤ t → exec (.injReorderTimeout i t) s = .next (modInj (stamp s t) i fun x => { x with held := none, did := none }))))

/-- A heartbeat of a running core is recorded and the pair is healthy. A silent active core with a running standby is taken
over: its source sets, the standby becomes active with its hub target enabled, the interval is recorded and BELAY_TAKEOVER
raised, and the silent core enters belay reset; a silent standby is reset and BELAY_STANDBY_LOST raised. A core that passes
becomes standby, one that fails, or has not passed within 1 ms, becomes FAILED. SWITCH, TEST and RESET act only from the states
they need and else set CFGERR. -/
def Obligations.BelayPairChangesRoles : Prop :=
  let st (c : Nat) : Fld := if c = 0 then R.FLT_BLY_STAT_B0 else R.FLT_BLY_STAT_B1
  let reset (s : State) (c t : Nat) : State :=
    let z := put s (st c) 2
    { z with sup := { z.sup with beat := setAt z.sup.beat c none, since := setAt z.sup.since c t } }
  (∀ (s : State) (c : Fin 2) (t : Nat), s.sup.beat.length = 2 →
    (get s (st c) = 0 ∨ get s (st c) = 1 → exec (.belayHeartbeat c t) s = .next
      (put { stamp s t with sup := { s.sup with beat := setAt s.sup.beat c (some t) } } R.FLT_BLY_STAT_HEALTHY 1)) ∧
    (get s (st c) ≠ 0 → get s (st c) ≠ 1 → exec (.belayHeartbeat c t) s = .next s)) ∧
  (∀ (s : State) (c : Fin 2) (t e : Nat), s.sup.ready = true → lastBeat s c + 240000 ≤ t → let o := 1 - c.val
    let z := fault (setMute (stamp s t) c true) (0x48 + c.val)
    let at' := max t (min e (lastBeat s c + 360000))
    (get s (st c) = 0 → get z (st c) = 0 → get z (st o) = 1 →
      let a := setTarget (setTarget (put (put z (st o) 0) R.FLT_BLY_STAT_ACTIVE o) (12 + o) true) (12 + c.val) false
      let b := raise (put (bump a R.FLT_BLY_CNT_TAKEOVER) R.FLT_BLY_LAST_US (min ((at' - lastBeat z c) / 1200) 65535)) hubBelayTakeover
      Completes (.belaySilent c t e) s (showHealth (reset b c t) t)) ∧
    (get s (st c) = 0 → get z (st c) = 0 → get z (st o) ≠ 1 → Completes (.belaySilent c t e) s (showHealth z t)) ∧
    (get s (st c) = 1 → get z (st c) ≠ 0 → Completes (.belaySilent c t e) s (showHealth (raise (reset z c t) hubBelayStandbyLost) t))) ∧
  (∀ (s : State) (c : Fin 2) (t e : Nat), s.sup.ready = false ∨ coreRuns s c = false ∨ t < lastBeat s c + 240000 →
    Completes (.belaySilent c t e) s s) ∧
  (∀ (s : State) (c : Fin 2) (t : Nat), get s (st c) ≠ 2 ∨ isSet s (R.FLT_FORCE (0x48 + c)) = true →
    exec (.belayResetTimeout c t) s = .next s ∧ ∀ pass : Bool, Completes (.belayResetDone c pass t) s s) ∧
  (∀ (s : State) (c : Fin 2) (t : Nat), get s (st c) = 2 → isSet s (R.FLT_FORCE (0x48 + c)) = false →
    let m := stamp (setMute s c false) t
    let p := put m (st c) 1
    let z := { p with sup := { p.sup with beat := setAt p.sup.beat c (some t) } }
    let o := 1 - c.val
    let passed (u : State) : Prop := Completes (.belayResetDone c true t) s (showHealth u t)
    Completes (.belayResetDone c false t) s (put m (st c) 3) ∧
    (get z (st c) = 1 → get z (st o) = 0 → coreSilent z o t = false → passed z) ∧
    (get z (st c) = 1 → get z (st o) = 0 → coreSilent z o t = true → passed (reset (belayTakeover z c t) o t)) ∧
    (get z (st c) = 1 → get z (st o) ≠ 0 → passed (belayTakeover z c t)) ∧
    (nth s.sup.since c 0 + 1200000 ≤ t → exec (.belayResetTimeout c t) s = .next (put (stamp s t) (st c) 3)) ∧
    (t < nth s.sup.since c 0 + 1200000 → exec (.belayResetTimeout c t) s = .next s)) ∧
  (∀ s : State, unitsRun s = true → let a := get s R.FLT_BLY_STAT_ACTIVE
    (get s (st a) = 0 → get s (st (1 - a)) = 1 → exec .belaySwitch s = .next { s with sup := { s.sup with switch := true } }) ∧
    (get s (st a) ≠ 0 ∨ get s (st (1 - a)) ≠ 1 → exec .belaySwitch s = .next (put s R.FLT_CTL_STAT_CFGERR 1))) ∧
  (∀ (s : State) (t : Nat), unitsRun s = true → let o := 1 - get s R.FLT_BLY_STAT_ACTIVE
    let z := put (stamp s t) (st o) 4
    (get s (st o) = 1 → exec (.belayTest t) s = .next
      (put { z with sup := { z.sup with beat := setAt z.sup.beat o none, since := setAt z.sup.since o t } } R.FLT_BLY_TEST_RESULT 1)) ∧
    (get s (st o) ≠ 1 → exec (.belayTest t) s = .next (put s R.FLT_CTL_STAT_CFGERR 1))) ∧
  (∀ (s : State) (t : Nat) (c : Fin 2), get s (st c) = 4 → (c.val = 1 → get s (st 0) ≠ 4) →
    let p := put (put (stamp s t) R.FLT_BLY_TEST_RESULT 2) (st c) 1
    let z := { p with sup := { p.sup with beat := setAt p.sup.beat c (some t) } }
    Completes (.belayTestDone false t) s (put (put (stamp s t) R.FLT_BLY_TEST_RESULT 3) (st c) 3) ∧
    let o := 1 - c.val
    let passed (u : State) : Prop := Completes (.belayTestDone true t) s (showHealth u t)
    (get z (st c) = 1 → get z (st o) = 0 → coreSilent z o t = false → passed z) ∧
    (get z (st c) = 1 → get z (st o) = 0 → coreSilent z o t = true → passed (reset (belayTakeover z c t) o t)) ∧
    (get z (st c) = 1 → get z (st o) ≠ 0 → passed (belayTakeover z c t))) ∧
  (∀ (s : State) (t : Nat), get s (st 0) ≠ 4 → get s (st 1) ≠ 4 → ∀ pass : Bool, Completes (.belayTestDone pass t) s s) ∧
  (∀ (s : State) (t : Nat), unitsRun s = true → let y := reset (stamp s t) 0 t
    (get s (st 0) = 3 → exec (.belayResetRequest t) s = .next (if get y (st 1) = 3 then reset y 1 t else y)) ∧
    (get s (st 0) ≠ 3 → get s (st 1) = 3 → exec (.belayResetRequest t) s = .next (reset (stamp s t) 1 t)) ∧
    (get s (st 0) ≠ 3 → get s (st 1) ≠ 3 → exec (.belayResetRequest t) s = .next (put s R.FLT_CTL_STAT_CFGERR 1)))

/-- The anchor acts once, when the pair has not been healthy for 1 ms (cause 1) or a fatal status bit is set (cause 2), and
otherwise nothing happens. Its first step holds both belay cores, sets ANCHORED and ANCHOR_ACTED, records cause and tick, stops
the mover and every strand job after its row, drops what the spool had not issued and starts the work on each port with a
session. A port's outstanding commands are aborted after 20 ms and the port is skipped 10 ms later. LANYARD changes level while
the pair is healthy and no fatal source is set, at least 495 us after the last change, and else holds. -/
def Obligations.AnchorActsAndLanyardStops : Prop :=
  (∀ (s : State) (t : Nat), anchored s = true → Completes (.anchorAct t) s s) ∧
  (∀ (s : State) (t : Nat), anchored s = false → fatalSet s = false →
    s.sup.ready = false ∨ t < max (lastBeat s 0) (lastBeat s 1) + 1440000 → Completes (.anchorAct t) s s) ∧
  (∀ (s : State) (t cause : Nat), anchored s = false →
    (cause = 1 ∧ s.sup.ready = true ∧ max (lastBeat s 0) (lastBeat s 1) + 1440000 ≤ t) ∨
      (cause = 2 ∧ fatalSet s = true ∧ (s.sup.ready = false ∨ t < max (lastBeat s 0) (lastBeat s 1) + 1440000)) →
    let a := noTransition (put (stamp s t) R.GLB_MODE_ANCHORED 1)
    let b := put (put (put a R.FLT_BLY_STAT_B0 5) R.FLT_BLY_STAT_B1 5) R.FLT_BLY_STAT_HEALTHY 0
    let c := put (put (fault b 0x80) R.FLT_ANC_STAT_STATE 1) R.FLT_ANC_STAT_CAUSE cause
    let d := put2 c R.FLT_ANC_TICK_LO_NO R.FLT_ANC_TICK_HI_NO c.tick.no
    let e := { d with sup := { d.sup with ancAt := t, lost := false, switch := false, dormAt := none }, mags := { d.mags with spool := [] } }
    let f := put (movStopAll e) R.MOV_STAT_HALTED 1
    let stop (l : Lane) : Lane := if l.running then { l with queue := modAt l.queue 0 fun j => { j with dead := true } } else l
    let g := stopDeadJobs { f with strs := { f.strs with lane := f.strs.lane.map stop } }
    Completes (.anchorAct t) s (forN 4 (fun n x => let h := ancHalt x n
      if hasSession h n then setAnc h n 1 else h) g)) ∧
  (∀ s : State, fatalSet s = true ↔ ∃ f ∈ [0x06, 0x07, 0x08, 0x80], get s (R.FLT_STAT f) ≠ 0) ∧
  (∀ (s : State) (n : MagPort) (t : Nat),
    (ancOf s n = 1 → s.sup.ancAt + 24000000 ≤ t →
      let out := (magOf s n).cmds.filter fun c => c.st == 1 && c.kind != .abort
      let late (x : State) (c : NvCmd) : State :=
        modMag x n fun m => { m with cmds := m.cmds.map fun d => if d.cid = c.cid then { d with st := 2, abortAt := t } else d }
      Completes (.anchorAbortTimeout n t) s
        (setAnc (out.foldl (fun x c => addCmd (late x c) n abortOp (adminReq .abort c.cid)) (stamp s t)) n 2)) ∧
    (ancOf s n = 2 → s.sup.ancAt + 36000000 ≤ t → Completes (.anchorAbortTimeout n t) s (setAnc (stamp s t) n 7)) ∧
    ((ancOf s n ≠ 1 ∧ ancOf s n ≠ 2) ∨ t < s.sup.ancAt + 24000000 ∨ (ancOf s n = 2 ∧ t < s.sup.ancAt + 36000000) →
      Completes (.anchorAbortTimeout n t) s s)) ∧
  (∀ (s : State) (t : Nat), let z := showHealth (stamp s t) t
    let go := s.sup.ready && !anchored s && !fatalSet s && isSet z R.FLT_BLY_STAT_HEALTHY
    (go = true → s.sup.lanyAt + 594000 ≤ t → exec (.lanyardToggle t) s = .next
      (let u := put z R.FLT_PIN_LANYARD (1 - get s R.FLT_PIN_LANYARD)
      { u with sup := { u.sup with lanyAt := t } })) ∧
    (go = false ∨ t < s.sup.lanyAt + 594000 → exec (.lanyardToggle t) s = .next s))

/-! ## Pins (R549 to R556) -/

/-- A configuration word for a function the line offers, with no reserved code, switches the line at once (fields written,
pending switch gone, SWITCH_CNT up, a settle window of 256 ns) or is staged with PEND; any other sets CFGERR. A settle window
ends at its time, and the line's detectors take the pad level afresh. A change of owner disarms the former owner's detectors.
AUTO needs a rate with a timecode base. Pulses and high halves end at their widths. A received timecode frame is taken with its
lock count. -/
def Obligations.LinesSwitchSettleAndDrive : Prop :=
  (∀ (s : State) (n : Line) (v : Word32) (t : Nat), unitsRun s = true → let w := v.toNat
    let f := bits w 0 3
    let ok : Prop := (f = 1 → n.val ≤ 1) ∧ (f = 3 → 8 ≤ n.val ∧ n.val ≤ 15) ∧ (f = 6 → 40 ≤ n.val ∧ n.val ≤ 47) ∧
      (f = 7 → 16 ≤ n.val ∧ n.val ≤ 23) ∧ bits w 4 2 ≠ 3 ∧ bits w 6 2 ≠ 3
    let c := put (put (put (put (stamp s t) (R.PIN_GL_CFG_FUNC n) f) (R.PIN_GL_CFG_PULL n) (bits w 4 2))
      (R.PIN_GL_CFG_DRIVE n) (bits w 6 2)) (R.PIN_GL_CFG_SLEW n) (bits w 8 1)
    let g := put (put (put (put s (R.PIN_GL_STAGE_FUNC n) f) (R.PIN_GL_STAGE_PULL n) (bits w 4 2))
      (R.PIN_GL_STAGE_DRIVE n) (bits w 6 2)) (R.PIN_GL_STAGE_SLEW n) (bits w 8 1)
    let d := bump (put c (R.PIN_GL_STAGE_PEND n) 0) R.PIN_SWITCH_CNT_COUNT
    (ok → exec (.pinGlCfgWrite n v t) s = .next
      (modLine d n fun l => { l with settle := some (t + nsCycles 256), pulse := false, high := false })) ∧
    (ok → exec (.pinGlStageWrite n v) s = .next (put g (R.PIN_GL_STAGE_PEND n) 1)) ∧
    (¬ ok → exec (.pinGlCfgWrite n v t) s = .next (put (stamp s t) R.PIN_STAT_CFGERR 1)) ∧
    (¬ ok → exec (.pinGlStageWrite n v) s = .next (put s R.PIN_STAT_CFGERR 1))) ∧
  (∀ (s : State) (n : Line) (t : Nat), ((lineOf s n).settle = none → exec (.switchSettleEnd n t) s = .next s) ∧
    (∀ e : Nat, (lineOf s n).settle = some e →
      (t < e → exec (.switchSettleEnd n t) s = .next s) ∧
      (e ≤ t → exec (.switchSettleEnd n t) s = .next
        (forN 128 (fun i x => if get x (R.TICK_EDGE_CFG_INPUT (i / 16) (i % 16)) = n then setLevel x (i / 16) (i % 16) none else x)
          (modLine (stamp s t) n fun l => { l with settle := none }))))) ∧
  (∀ (s : State) (n : Line) (v : Word32), unitsRun s = true →
    let u := put (put s (R.PIN_GL_OWNER_PART n) (bits v.toNat 0 3)) (R.PIN_GL_OWNER_VALID n) (bits v.toNat 7 1)
    let owner (x : State) : Option Nat := if get x (R.PIN_GL_OWNER_VALID n) = 0 then none else some (get x (R.PIN_GL_OWNER_PART n))
    (owner s = none ∨ owner u = owner s → exec (.pinGlOwnerWrite n v) s = .next u) ∧
    (∀ o : Nat, owner s = some o → owner u ≠ some o → exec (.pinGlOwnerWrite n v) s = .next
      (forN 16 (fun e x => if get x (R.TICK_EDGE_CFG_INPUT o e) = n.val ∧ get x (R.TICK_EDGE_CFG_EDGES o e) ≠ 0 then edgeDisarm x o e else x) u))) ∧
  (∀ (s : State) (v : Word32), unitsRun s = true →
    (bitAt v.toNat 0 = true → ltcBase s = none → exec (.pinLtcCtlWrite v) s = .next (put s R.PIN_STAT_CFGERR 1)) ∧
    (bitAt v.toNat 0 = false ∨ ltcBase s ≠ none → exec (.pinLtcCtlWrite v) s = .next (put s R.PIN_LTC_CTL_AUTO (bits v.toNat 0 1)))) ∧
  (∀ (s : State) (n : Line) (t : Nat), let wide := 12 * bits (get s (R.PIN_GL_FARG_ARG n)) 0 16
    ((lineOf s n).pulse = true → s.tick.last + wide ≤ t →
      exec (.syncOutPulseEnd n t) s = .next (modLine (stamp s t) n fun l => { l with pulse := false })) ∧
    ((lineOf s n).pulse = false ∨ t < s.tick.last + wide → exec (.syncOutPulseEnd n t) s = .next s) ∧
    ((lineOf s n).high = true → 600000000 * s.tick.den ≤ (t - s.tick.last) * s.tick.num →
      exec (.tickOutFall n t) s = .next (modLine (stamp s t) n fun l => { l with high := false })) ∧
    ((lineOf s n).high = false ∨ (t - s.tick.last) * s.tick.num < 600000000 * s.tick.den → exec (.tickOutFall n t) s = .next s)) ∧
  (∀ (s : State) (data : Word64), let l := s.pins.ltc
    let good (k : Nat) : State := { s with pins := { s.pins with ltc := { l with last := data.toNat, good := k } } }
    (get s (R.PIN_GL_CFG_FUNC 0) = 1 → (lineOf s 0).settle = none →
      (l.good < 3 → exec (.ltcRxFrame data true) s = .next (good (l.good + 1))) ∧
      (3 ≤ l.good → exec (.ltcRxFrame data true) s = .next (put (good 4) R.PIN_LTC_STAT_LOCK 1)) ∧
      exec (.ltcRxFrame data false) s = .next
        (put (bump { s with pins := { s.pins with ltc := { l with good := 0 } } } R.PIN_LTC_STAT_ERR) R.PIN_LTC_STAT_LOCK 0)) ∧
    (get s (R.PIN_GL_CFG_FUNC 0) ≠ 1 ∨ (lineOf s 0).settle ≠ none → ∀ y : Bool, exec (.ltcRxFrame data y) s = .next s)) ∧
  (∀ (s : State) (t : Nat), let l := s.pins.ltc
    (ltcBase s = none → l.tx = none ∨ l.txAt + 40000000 ≤ t → get s (R.PIN_GL_CFG_FUNC 1) = 1 → (lineOf s 1).settle = none →
      exec (.ltcTxFrameTimer t) s = .next
        { stamp s t with pins := { s.pins with ltc := { l with txAt := t, tx := some (get s R.PIN_LTC_TX_LO_DATA + 2 ^ 32 * get s R.PIN_LTC_TX_HI_DATA) } } }) ∧
    (ltcBase s = none → l.tx = none ∨ l.txAt + 40000000 ≤ t → get s (R.PIN_GL_CFG_FUNC 1) ≠ 1 ∨ (lineOf s 1).settle ≠ none →
      exec (.ltcTxFrameTimer t) s = .next { stamp s t with pins := { s.pins with ltc := { l with txAt := t } } }) ∧
    (ltcBase s ≠ none ∨ (l.tx ≠ none ∧ t < l.txAt + 40000000) → exec (.ltcTxFrameTimer t) s = .next s))

/-- A byte received on an enabled UART whose odd line carries it joins the receive FIFO, or is lost and counted when 64 wait; a
byte sent leaves the transmit FIFO; a write queues a byte and a read returns the oldest with VALID, both with the levels shown.
What an empty FIFO's byte reads as is open, and an overflowing write is lost (the model's log entry 61). An I2C command needs an
idle bus, a length of 1 to 16 and a speed code below 3, else CFGERR; a transfer's end shows NAK or DONE, a read's bytes join the
FIFO of 16, a write's leave it (log entry 62). -/
def Obligations.SerialPortsMoveBytes : Prop :=
  let take (s : State) (u : Nat) (x : Uart) : State :=
    put (put { s with pins := { s.pins with uart := setAt s.pins.uart u x } } (R.PIN_UART_STAT_TXLVL u) x.tx.length) (R.PIN_UART_STAT_RXLVL u) x.rx.length
  (∀ (s : State) (u : Fin 4) (b : Byte), let x := uartOf s u
    let n := 8 + 2 * u.val + 1
    let on := get s (R.PIN_UART_CTL_EN u) ≠ 0 ∧ get s (R.PIN_GL_CFG_FUNC n) = 3 ∧ (lineOf s n).settle = none
    (on → x.rx.length < 64 → exec (.uartRxByte u b) s = .next (take s u { x with rx := x.rx ++ [b] })) ∧
    (on → 64 ≤ x.rx.length → exec (.uartRxByte u b) s = .next (bump s (R.PIN_UART_STAT_OVF u))) ∧
    (¬ on → exec (.uartRxByte u b) s = .next s)) ∧
  (∀ (s : State) (u : Fin 4), let x := uartOf s u
    (get s (R.PIN_UART_CTL_EN u) ≠ 0 → exec (.uartTxByte u) s = .next (take s u { x with tx := x.tx.tail })) ∧
    (get s (R.PIN_UART_CTL_EN u) = 0 → exec (.uartTxByte u) s = .next s)) ∧
  (∀ (s : State) (u : Fin 4) (v : Word32), unitsRun s = true → let x := uartOf s u
    (x.tx.length < 64 → exec (.pinUartDataWrite u v) s = .next (take s u { x with tx := x.tx ++ [v.truncate 8] })) ∧
    (64 ≤ x.tx.length → exec (.pinUartDataWrite u v) s = .next s)) ∧
  (∀ (s : State) (u : Fin 4), unitsRun s = true → let x := uartOf s u
    (x.rx = [] → exec (.pinUartDataRead u) s = .next { s with free := s.free + 1, rdata := freeVal s % 256 }) ∧
    (∀ (b : Byte) (r : List Byte), x.rx = b :: r →
      exec (.pinUartDataRead u) s = .next { take s u { x with rx := r } with rdata := b.toNat + 256 })) ∧
  (∀ (s : State) (b : Fin 4) (v : Word32), unitsRun s = true → let w := v.toNat
    let ok : Prop := (auxOf s b).xfer = none ∧ 1 ≤ bits w 8 5 ∧ bits w 8 5 ≤ 16 ∧ bits w 16 2 ≠ 3
    (ok → exec (.pinI2cCmd b v) s = .next
      (put (setAux s b { auxOf s b with xfer := some (bits w 0 7, bitAt w 7, bits w 8 5, bits w 16 2) }) (R.PIN_I2C_STAT_BUSY b) 1)) ∧
    (¬ ok → exec (.pinI2cCmd b v) s = .next (put s R.PIN_STAT_CFGERR 1))) ∧
  (∀ (s : State) (b : Fin 4) (data : List Byte), ((auxOf s b).xfer = none → ∀ nak : Bool, exec (.auxI2cDone b nak data) s = .next s) ∧
    (∀ (a len sp : Nat) (rd : Bool), (auxOf s b).xfer = some (a, rd, len, sp) →
      let z := put s (R.PIN_I2C_STAT_BUSY b) 0
      let f := (auxOf s b).fifo
      exec (.auxI2cDone b true data) s = .next (put (setAux z b { fifo := f, xfer := none }) (R.PIN_I2C_STAT_NAK b) 1) ∧
      exec (.auxI2cDone b false data) s = .next
        (put (setAux z b { fifo := if rd then (f ++ sliceBytes data 0 len).take 16 else f.drop len, xfer := none }) (R.PIN_I2C_STAT_DONE b) 1)))
end

