-- ==== Sys2Proof/Laws/Store.lean ====
section
/-! SUPPORT. Laws of the register store and of the byte memories: what a read gives after a write, that a write leaves everything
else alone, and that every operation keeps the canonical form. -/

namespace Sys2Proof.Machine

/-! ## Cells -/

theorem cellVal_erase_other (r : List RegCell) {j k : Nat} (h : j ≠ k) : cellVal (cellErase r k) j = cellVal r j := by
  induction r with
  | nil => rfl
  | cons c cs ih =>
    simp only [cellErase]
    split
    · simp [cellVal, show c.key ≠ j by omega]
    · simp [cellVal, ih]

theorem cellVal_put_self (r : List RegCell) (d : RegCell) : cellVal (cellPut r d) d.key = some d.val := by
  induction r with
  | nil => simp [cellPut, cellVal]
  | cons c cs ih =>
    simp only [cellPut]
    split
    · simp [cellVal]
    · split
      · simp [cellVal]
      · simp [cellVal, ih, show c.key ≠ d.key by omega]

theorem cellVal_put_other (r : List RegCell) (d : RegCell) {j : Nat} (h : j ≠ d.key) :
    cellVal (cellPut r d) j = cellVal r j := by
  induction r with
  | nil => simp [cellPut, cellVal, Ne.symm h]
  | cons c cs ih =>
    simp only [cellPut]
    split
    · simp [cellVal, Ne.symm h]
    · split
      · simp [cellVal, Ne.symm h, show c.key ≠ j by omega]
      · simp [cellVal, ih]

theorem cellErase_mem {r : List RegCell} {k : Nat} {c : RegCell} (h : c ∈ cellErase r k) : c ∈ r := by
  induction r with
  | nil => simp [cellErase] at h
  | cons d cs ih =>
    simp only [cellErase] at h
    split at h
    · exact List.mem_cons_of_mem _ h
    · rcases List.mem_cons.1 h with rfl | h
      · exact List.mem_cons_self
      · exact List.mem_cons_of_mem _ (ih h)

theorem cellPut_mem {r : List RegCell} {c d : RegCell} (h : c ∈ cellPut r d) : c = d ∨ c ∈ r := by
  induction r with
  | nil => simpa [cellPut] using h
  | cons e cs ih =>
    simp only [cellPut] at h
    split at h
    · simpa using h
    · split at h
      · rcases List.mem_cons.1 h with h | h <;> simp [h]
      · rcases List.mem_cons.1 h with h | h
        · simp [h]
        · rcases ih h with h | h <;> simp [h]

theorem cellErase_rise {r : List RegCell} (k : Nat) (h : regsRise r) : regsRise (cellErase r k) := by
  induction r with
  | nil => exact h
  | cons c cs ih =>
    simp only [regsRise, cellErase, List.pairwise_cons] at *
    split
    · exact h.2
    · exact List.pairwise_cons.2 ⟨fun a ha => h.1 a (cellErase_mem ha), ih h.2⟩

theorem cellPut_rise {r : List RegCell} (d : RegCell) (h : regsRise r) : regsRise (cellPut r d) := by
  induction r with
  | nil => simp [regsRise, cellPut]
  | cons c cs ih =>
    simp only [regsRise, cellPut, List.pairwise_cons] at *
    split
    · rename_i hd
      refine List.pairwise_cons.2 ⟨?_, List.pairwise_cons.2 h⟩
      intro a ha
      rcases List.mem_cons.1 ha with rfl | ha
      · exact hd
      · exact Nat.lt_trans hd (h.1 a ha)
    · split
      · rename_i hd
        exact List.pairwise_cons.2 ⟨fun a ha => hd ▸ h.1 a ha, h.2⟩
      · refine List.pairwise_cons.2 ⟨?_, ih h.2⟩
        intro a ha
        rcases cellPut_mem ha with rfl | ha
        · omega
        · exact h.1 a ha

theorem regsPut_rise {r : List RegCell} (f : Fld) (v : Nat) (h : regsRise r) : regsRise (regsPut r f v) := by
  unfold regsPut
  split
  · exact cellErase_rise _ h
  · exact cellPut_rise _ h

/-- In a store whose keys rise, an erased key has no value. -/
theorem cellVal_erase_self {r : List RegCell} (k : Nat) (h : regsRise r) : cellVal (cellErase r k) k = none := by
  induction r with
  | nil => rfl
  | cons c cs ih =>
    simp only [regsRise, List.pairwise_cons] at h
    simp only [cellErase]
    split
    · rename_i hk
      have none_of : ∀ l : List RegCell, (∀ a ∈ l, c.key < a.key) → cellVal l k = none := by
        intro l
        induction l with
        | nil => intro _; rfl
        | cons d ds ihd =>
          intro hl
          have := hl d List.mem_cons_self
          simp only [cellVal, show d.key ≠ k by omega, if_false]
          exact ihd fun a ha => hl a (List.mem_cons_of_mem _ ha)
      exact none_of cs h.1
    · rename_i hk
      simp [cellVal, hk, ih h.2]

/-! ## Fields -/

/-- A field that is written reads as what was written, cut to its width. -/
theorem get_put_self {s : State} (f : Fld) (v : Nat) (h : regsRise s.regs) : get (put s f v) f = v % 2 ^ f.width := by
  simp only [get, put, regsPut]
  split
  · rename_i e
    rw [cellVal_erase_self _ h, e]; rfl
  · have := cellVal_put_self s.regs { key := fldKey f, scope := f.scope, val := v % 2 ^ f.width }
    simp only at this
    rw [this]; rfl

/-- A write of one field leaves every field at another place as it was. -/
theorem get_put_other (s : State) {f g : Fld} (v : Nat) (h : fldKey g ≠ fldKey f) : get (put s f v) g = get s g := by
  simp only [get, put, regsPut]
  split
  · rw [cellVal_erase_other _ h]
  · rw [cellVal_put_other _ _ h]

/-! ## Byte memories -/

theorem memByte_erase_other (m : Memory) {a q : Nat} (h : q ≠ a) : memByte (memErase m a) q = memByte m q := by
  induction m with
  | nil => rfl
  | cons c m ih =>
    obtain ⟨b, x⟩ := c
    simp only [memErase]
    split
    · simp [memByte, show b ≠ q by omega]
    · simp [memByte, ih]

theorem memByte_put_self (m : Memory) (a : Nat) (v : Byte) : memByte (memPut m a v) a = v := by
  induction m with
  | nil => simp [memPut, memByte]
  | cons c m ih =>
    obtain ⟨b, x⟩ := c
    simp only [memPut]
    split
    · simp [memByte]
    · split
      · simp [memByte]
      · simp [memByte, ih, show b ≠ a by omega]

theorem memByte_put_other (m : Memory) {a q : Nat} (v : Byte) (h : q ≠ a) : memByte (memPut m a v) q = memByte m q := by
  induction m with
  | nil => simp [memPut, memByte, Ne.symm h]
  | cons c m ih =>
    obtain ⟨b, x⟩ := c
    simp only [memPut]
    split
    · simp [memByte, Ne.symm h]
    · split
      · simp [memByte, Ne.symm h, show b ≠ q by omega]
      · simp [memByte, ih]

/-- Addresses strictly rising, as a relation on every two entries. -/
theorem rising_iff (m : Memory) : rising m = true ↔ m.Pairwise fun a b => a.1 < b.1 := by
  induction m with
  | nil => simp [rising]
  | cons x m ih =>
    cases m with
    | nil => simp [rising]
    | cons y m =>
      simp only [rising, Bool.and_eq_true, decide_eq_true_eq, ih, List.pairwise_cons]
      constructor
      · rintro ⟨hxy, hy, hm⟩
        refine ⟨?_, hy, hm⟩
        intro a ha
        rcases List.mem_cons.1 ha with rfl | ha
        · exact hxy
        · exact Nat.lt_trans hxy (hy a ha)
      · rintro ⟨hx, hy, hm⟩
        exact ⟨hx y List.mem_cons_self, hy, hm⟩

theorem wf_iff (m : Memory) : Memory.wf m = true ↔ (m.Pairwise fun a b => a.1 < b.1) ∧ ∀ c ∈ m, c.2 ≠ 0 := by
  simp [Memory.wf, rising_iff]

theorem memErase_mem {m : Memory} {a : Nat} {c : Nat × Byte} (h : c ∈ memErase m a) : c ∈ m := by
  induction m with
  | nil => simp [memErase] at h
  | cons d m ih =>
    obtain ⟨b, x⟩ := d
    simp only [memErase] at h
    split at h
    · exact List.mem_cons_of_mem _ h
    · rcases List.mem_cons.1 h with rfl | h
      · exact List.mem_cons_self
      · exact List.mem_cons_of_mem _ (ih h)

theorem memPut_mem {m : Memory} {a : Nat} {v : Byte} {c : Nat × Byte} (h : c ∈ memPut m a v) : c = (a, v) ∨ c ∈ m := by
  induction m with
  | nil => simpa [memPut] using h
  | cons d m ih =>
    obtain ⟨b, x⟩ := d
    simp only [memPut] at h
    split at h
    · simpa using h
    · split at h
      · rcases List.mem_cons.1 h with h | h <;> simp [h]
      · rcases List.mem_cons.1 h with h | h
        · simp [h]
        · rcases ih h with h | h <;> simp [h]

theorem memErase_wf {m : Memory} (a : Nat) (h : Memory.wf m = true) : Memory.wf (memErase m a) = true := by
  rw [wf_iff] at *
  refine ⟨?_, fun c hc => h.2 c (memErase_mem hc)⟩
  replace h := h.1
  induction m with
  | nil => exact h
  | cons d m ih =>
    obtain ⟨b, x⟩ := d
    simp only [memErase, List.pairwise_cons] at *
    split
    · exact h.2
    · exact List.pairwise_cons.2 ⟨fun c hc => h.1 c (memErase_mem hc), ih h.2⟩

theorem memPut_wf {m : Memory} (a : Nat) {v : Byte} (hv : v ≠ 0) (h : Memory.wf m = true) :
    Memory.wf (memPut m a v) = true := by
  rw [wf_iff] at *
  refine ⟨?_, ?_⟩
  · replace h := h.1
    induction m with
    | nil => simp [memPut]
    | cons d m ih =>
      obtain ⟨b, x⟩ := d
      simp only [memPut, List.pairwise_cons] at *
      split
      · rename_i hd
        refine List.pairwise_cons.2 ⟨?_, List.pairwise_cons.2 h⟩
        intro c hc
        rcases List.mem_cons.1 hc with rfl | hc
        · exact hd
        · exact Nat.lt_trans hd (h.1 c hc)
      · split
        · rename_i hd
          subst hd
          exact List.pairwise_cons.2 ⟨h.1, h.2⟩
        · refine List.pairwise_cons.2 ⟨?_, ih h.2⟩
          intro c hc
          rcases memPut_mem hc with rfl | hc
          · simp only; omega
          · exact h.1 c hc
  · intro c hc
    rcases memPut_mem hc with rfl | hc
    · exact hv
    · exact h.2 c hc

/-- A byte write keeps the canonical form. -/
theorem memWrite_wf {m : Memory} (a : Nat) (v : Byte) (h : Memory.wf m = true) : Memory.wf (memWrite m a v) = true := by
  unfold memWrite
  split
  · exact memErase_wf a h
  · rename_i hv
    exact memPut_wf a hv h

/-- A write of bytes keeps the canonical form. -/
theorem memWriteAll_wf {m : Memory} (a : Nat) (bs : List Byte) (h : Memory.wf m = true) :
    Memory.wf (memWriteAll m a bs) = true := by
  induction bs generalizing m a with
  | nil => exact h
  | cons b bs ih => exact ih (a + 1) (memWrite_wf a b h)

/-- A write whose addresses the capacity limits keeps the canonical form. -/
theorem memWriteWrap_wf {m : Memory} (cap a : Nat) (bs : List Byte) (h : Memory.wf m = true) :
    Memory.wf (memWriteWrap m cap a bs) = true := by
  induction bs generalizing m a with
  | nil => exact h
  | cons b bs ih => exact ih (a + 1) (memWrite_wf (a % cap) b h)

/-- Removing entries keeps the canonical form. -/
theorem filter_wf {m : Memory} (p : Nat × Byte → Bool) (h : Memory.wf m = true) : Memory.wf (m.filter p) = true := by
  rw [wf_iff] at *
  exact ⟨h.1.filter p, fun c hc => h.2 c (List.mem_filter.1 hc).1⟩

/-- Clearing a range keeps the canonical form. -/
theorem memClear_wf {m : Memory} (a n : Nat) (h : Memory.wf m = true) : Memory.wf (memClear m a n) = true := filter_wf _ h

/-- In a canonical memory an erased address reads as zero. -/
theorem memByte_erase_self {m : Memory} (a : Nat) (h : Memory.wf m = true) : memByte (memErase m a) a = 0 := by
  rw [wf_iff] at h
  replace h := h.1
  induction m with
  | nil => rfl
  | cons d m ih =>
    obtain ⟨b, x⟩ := d
    simp only [List.pairwise_cons] at h
    simp only [memErase]
    split
    · rename_i hb
      subst hb
      have none_of : ∀ l : Memory, (∀ c ∈ l, b < c.1) → memByte l b = 0 := by
        intro l
        induction l with
        | nil => intro _; rfl
        | cons e l ihl =>
          intro hl
          obtain ⟨p, y⟩ := e
          have := hl (p, y) List.mem_cons_self
          simp only at this
          simp only [memByte, show p ≠ b by omega, if_false]
          exact ihl fun c hc => hl c (List.mem_cons_of_mem _ hc)
      exact none_of m h.1
    · rename_i hb
      simp [memByte, hb, ih h.2]

/-- A byte that is written reads as written. -/
theorem memByte_write_self {m : Memory} (a : Nat) (v : Byte) (h : Memory.wf m = true) : memByte (memWrite m a v) a = v := by
  unfold memWrite
  split
  · rename_i hv
    rw [memByte_erase_self a h, hv]
  · exact memByte_put_self m a v

/-- A byte write leaves every other byte as it was. -/
theorem memByte_write_other (m : Memory) {a q : Nat} (v : Byte) (h : q ≠ a) : memByte (memWrite m a v) q = memByte m q := by
  unfold memWrite
  split
  · exact memByte_erase_other m h
  · exact memByte_put_other m v h

/-- A write of bytes leaves every byte outside its range as it was. -/
theorem memByte_writeAll_outside (m : Memory) (a : Nat) (bs : List Byte) {q : Nat} (h : q < a ∨ a + bs.length ≤ q) :
    memByte (memWriteAll m a bs) q = memByte m q := by
  induction bs generalizing m a with
  | nil => rfl
  | cons b bs ih =>
    simp only [memWriteAll, List.length_cons] at *
    rw [ih _ _ (by omega), memByte_write_other _ _ (by omega)]

/-- Such a write leaves every byte that none of its limited addresses names as it was. -/
theorem memByte_writeWrap_outside (m : Memory) (cap a : Nat) (bs : List Byte) {q : Nat} (h : ∀ i < bs.length, q ≠ (a + i) % cap) :
    memByte (memWriteWrap m cap a bs) q = memByte m q := by
  induction bs generalizing m a with
  | nil => rfl
  | cons b bs ih =>
    rw [memWriteWrap, ih _ _ fun i hi => ?_, memByte_write_other _ _ (by simpa using h 0 (by simp))]
    have := h (i + 1) (by simp; omega)
    rwa [show a + (i + 1) = a + 1 + i by omega] at this

/-- A write of bytes then reads back. -/
theorem memRead_writeAll {m : Memory} (a : Nat) (bs : List Byte) (h : Memory.wf m = true) :
    memRead (memWriteAll m a bs) a bs.length = bs := by
  induction bs generalizing m a with
  | nil => rfl
  | cons b bs ih =>
    simp only [memWriteAll, List.length_cons, memRead]
    rw [ih _ (memWrite_wf a b h), memByte_writeAll_outside _ _ _ (by omega), memByte_write_self _ _ h]

/-- Two addresses less than the capacity apart name different bytes. -/
theorem mod_add_ne {cap a i : Nat} (h1 : 0 < i) (h2 : i < cap) : a % cap ≠ (a + i) % cap := by
  intro h
  have e := Nat.div_add_mod a cap
  have f := Nat.div_add_mod (a + i) cap
  rw [← h] at f
  have g : cap * ((a + i) / cap) = cap * (a / cap) + i := by omega
  have : cap ∣ i := (Nat.dvd_add_right (Nat.dvd_mul_right cap (a / cap))).1 (g ▸ Nat.dvd_mul_right ..)
  exact absurd (Nat.le_of_dvd h1 this) (by omega)

/-- A write of no more bytes than the capacity then reads back. -/
theorem memReadWrap_writeWrap {m : Memory} (cap a : Nat) (bs : List Byte) (h : Memory.wf m = true) (hl : bs.length ≤ cap) :
    memReadWrap (memWriteWrap m cap a bs) cap a bs.length = bs := by
  induction bs generalizing m a with
  | nil => rfl
  | cons b bs ih =>
    simp only [List.length_cons] at hl
    simp only [memWriteWrap, List.length_cons, memReadWrap]
    rw [ih _ (memWrite_wf _ b h) (by omega), memByte_writeWrap_outside, memByte_write_self _ _ h]
    intro i hi
    rw [show a + 1 + i = a + (i + 1) by omega]
    exact mod_add_ne (by omega) (by omega)

end Sys2Proof.Machine
end

