-- ==== Sys2Proof/Laws/CanonBase.lean ====
section
/-! SUPPORT. That the shared operations keep the canonical form of a state (Safety.lean): a change of any other part of the state, a
write of a register field, of frame store and of scratch memory, and a loop of steps that each keep it. -/

namespace Sys2Proof.Machine

theorem mk_canon (s : State) (h : s.Canonical) (clk free rdata : Nat) (sent : List HostMsg) (tick : Tick) (hub : Hub)
    (host : HostSt) (pool : Pool) (mov : List MovCh) (mr : Bool) (dram : Dram) (pins : Pins) (strs : Strands) (seqs : Seqs)
    (mags : Mags) (sbd : List SbdSt) (intake : Intake) (sup : Sup) (areas : List (Nat × Nat))
    (pending : List Instr) :
    (State.mk s.regs clk free rdata sent s.fs s.ssm tick hub host pool mov mr dram pins strs seqs mags sbd intake sup areas
      pending).Canonical := h

theorem put_canon (s : State) (f : Fld) (v : Nat) (h : s.Canonical) : (put s f v).Canonical := ⟨regsPut_rise f v h.1, h.2⟩

/-- Either branch of a choice. -/
theorem ite_canon {c : Prop} [Decidable c] {a b : State} (ha : a.Canonical) (hb : b.Canonical) :
    (if c then a else b).Canonical := by split <;> assumption

/-- Either branch of a choice that answers a value and a state. -/
theorem ite2_canon {α : Type} {c : Prop} [Decidable c] {a b : α × State} (ha : a.2.Canonical) (hb : b.2.Canonical) :
    (if c then a else b).2.Canonical := by split <;> assumption

theorem foldl_canon {α : Type} (l : List α) (f : State → α → State) (s : State) (h : s.Canonical)
    (hf : ∀ (s : State) (a : α), s.Canonical → (f s a).Canonical) : (l.foldl f s).Canonical := by
  induction l generalizing s with
  | nil => exact h
  | cons a l ih => exact ih _ (hf s a h)

theorem forN_canon (n : Nat) (f : Nat → State → State) (s : State) (h : s.Canonical)
    (hf : ∀ (i : Nat) (s : State), s.Canonical → (f i s).Canonical) : (forN n f s).Canonical :=
  foldl_canon _ _ s h fun s i hs => hf i s hs

theorem fsWrite_canon (s : State) (a : Nat) (bs : List Byte) (h : s.Canonical) : (fsWrite s a bs).Canonical :=
  ⟨h.1, memWriteWrap_wf (fsCapacity s) a bs h.2.1, h.2.2⟩

theorem ssmWrite_canon (s : State) (a : Nat) (bs : List Byte) (h : s.Canonical) : (ssmWrite s a bs).Canonical :=
  ⟨h.1, h.2.1, memWriteAll_wf a bs h.2.2⟩

theorem ssmClear_canon (s : State) (a n : Nat) (h : s.Canonical) : ({ s with ssm := memClear s.ssm a n } : State).Canonical :=
  ⟨h.1, h.2.1, memClear_wf a n h.2.2⟩

theorem fsLost_canon (s : State) (h : s.Canonical) : ({ s with fs := [] } : State).Canonical := ⟨h.1, rfl, h.2.2⟩

theorem regsFilter_canon (s : State) (p : RegCell → Bool) (h : s.Canonical) :
    ({ s with regs := s.regs.filter p } : State).Canonical := ⟨h.1.filter p, h.2⟩

theorem next_canon (s t : State) (h : s.Canonical) (ht : (Host.Outcome.next s : Host.Outcome State Fault Refusal) = .next t) :
    t.Canonical := by cases ht; exact h

end Sys2Proof.Machine
end

