-- ==== Sys2Proof/Laws/CanonOps.lean ====
section
/-! SUPPORT. That the operations of Machine/Ops.lean keep the canonical form of a state (Safety.lean). -/

namespace Sys2Proof.Machine

theorem setF_canon (s : State) (f : Fld) (h1 : s.Canonical) : (setF s f).Canonical := by
  unfold setF
  grind [mk_canon, put_canon]

theorem clrF_canon (s : State) (f : Fld) (h1 : s.Canonical) : (clrF s f).Canonical := by
  unfold clrF
  grind [mk_canon, put_canon]

theorem bumpBy_canon (s : State) (f : Fld) (n : Nat) (h1 : s.Canonical) : (bumpBy s f n).Canonical := by
  unfold bumpBy
  grind [mk_canon, put_canon]

theorem bump_canon (s : State) (f : Fld) (h1 : s.Canonical) : (bump s f).Canonical := by
  unfold bump
  grind [mk_canon, bumpBy_canon]

theorem putMax_canon (s : State) (f : Fld) (v : Nat) (h1 : s.Canonical) : (putMax s f v).Canonical := by
  unfold putMax
  grind [mk_canon, put_canon]

theorem put2_canon (s : State) (lo hi : Fld) (v : Nat) (h1 : s.Canonical) : (put2 s lo hi v).Canonical := by
  unfold put2
  grind [mk_canon, put_canon]

theorem putInt_canon (s : State) (f : Fld) (i : Int) (h1 : s.Canonical) : (putInt s f i).Canonical := by
  unfold putInt
  grind [mk_canon, put_canon]

theorem useFree_canon (s : State) (h1 : s.Canonical) : (useFree s).Canonical := by
  unfold useFree
  grind [mk_canon]

theorem stamp_canon (s : State) (t : Nat) (h1 : s.Canonical) : (stamp s t).Canonical := by
  unfold stamp
  grind [mk_canon]

theorem answered_canon (s : State) (o : Host.Outcome State Fault Refusal) (h1 : s.Canonical) (h2 : ∀ t, o = .next t → t.Canonical) (t' : State) (ht' : answered s o = .next t') : t'.Canonical := by
  unfold answered at *
  grind [mk_canon]

theorem raise_canon (s : State) (src : Nat) (h1 : s.Canonical) : (raise s src).Canonical := by
  unfold raise
  grind [mk_canon, put_canon]

theorem raiseP_canon (s : State) (p k : Nat) (h1 : s.Canonical) : (raiseP s p k).Canonical := by
  unfold raiseP
  grind [mk_canon, raise_canon]

theorem modCfg_canon (s : State) (p : Nat) (f : CfgSt → CfgSt) (h1 : s.Canonical) : (modCfg s p f).Canonical := by
  unfold modCfg
  grind [mk_canon]

theorem raiseAll_canon (s : State) (k : Nat) (h1 : s.Canonical) : (raiseAll s k).Canonical := by
  unfold raiseAll
  grind [mk_canon, forN_canon, raiseP_canon]

theorem fltFirst_canon (s : State) (f : Nat) (h1 : s.Canonical) : (fltFirst s f).Canonical := by
  unfold fltFirst
  grind [mk_canon, put_canon, put2_canon]

theorem fltNotify_canon (s : State) (f : Nat) (h1 : s.Canonical) : (fltNotify s f).Canonical := by
  unfold fltNotify
  grind [mk_canon, bump_canon, fltFirst_canon, raise_canon]

theorem fault_canon (s : State) (f : Nat) (h1 : s.Canonical) : (fault s f).Canonical := by
  unfold fault
  grind [mk_canon, fltNotify_canon, put_canon]

end Sys2Proof.Machine
end

