-- ==== Sys2Proof/Laws/CanonXlate.lean ====
section
/-! SUPPORT. That the operations of Machine/Xlate.lean keep the canonical form of a state (Safety.lean). -/

namespace Sys2Proof.Machine

theorem modPH_canon (s : State) (p : Nat) (f : PartHost → PartHost) (h1 : s.Canonical) : (modPH s p f).Canonical := by
  unfold modPH
  grind [mk_canon]

theorem xfault_canon (s : State) (p addr : Nat) (write : Bool) (req : HostReq) (cause level region : Nat) (h1 : s.Canonical) : (xfault s p addr write req cause level region).Canonical := by
  unfold xfault
  grind [mk_canon, bump_canon, fault_canon, modPH_canon, raiseP_canon]

theorem startWalk_canon (s : State) (p page : Nat) (h1 : s.Canonical) : (startWalk s p page).Canonical := by
  unfold startWalk
  grind [mk_canon, bump_canon]

theorem startOp_canon (s : State) (p : Nat) (req : HostReq) (addr len : Nat) (write : Bool) (bytes : List Byte) (h1 : s.Canonical) : (startOp s p req addr len write bytes).Canonical := by
  unfold startOp
  grind [mk_canon]

theorem dropOp_canon (s : State) (id : Nat) (h1 : s.Canonical) : (dropOp s id).Canonical := by
  unfold dropOp
  grind [mk_canon]

theorem setOp_canon (s : State) (o : HostOp) (h1 : s.Canonical) : (setOp s o).Canonical := by
  unfold setOp
  grind [mk_canon]

theorem modSq_canon (s : State) (p r : Nat) (f : SqSt → SqSt) (h1 : s.Canonical) : (modSq s p r f).Canonical := by
  unfold modSq
  grind [mk_canon, modPH_canon]

theorem modCq_canon (s : State) (p r : Nat) (f : CqSt → CqSt) (h1 : s.Canonical) : (modCq s p r f).Canonical := by
  unfold modCq
  grind [mk_canon, modPH_canon]

theorem sqFinish_canon (s : State) (p r : Nat) (h1 : s.Canonical) : (sqFinish s p r).Canonical := by
  unfold sqFinish
  grind [mk_canon, modSq_canon, setF_canon]

theorem complWritten_canon (s : State) (p cq : Nat) (h1 : s.Canonical) : (complWritten s p cq).Canonical := by
  unfold complWritten
  grind [mk_canon, modCq_canon, put_canon]

theorem cqStop_canon (s : State) (p r : Nat) (h1 : s.Canonical) : (cqStop s p r).Canonical := by
  unfold cqStop
  grind [mk_canon, bumpBy_canon, clrF_canon]

theorem complete_canon (s : State) (c : RingCmd) (status result : Nat) (h1 : s.Canonical) : (complete s c status result).Canonical := by
  unfold complete
  grind [mk_canon, bump_canon, sqFinish_canon, startOp_canon]

theorem dropCmd_canon (s : State) (c : RingCmd) (h1 : s.Canonical) : (dropCmd s c).Canonical := by
  unfold dropCmd
  grind [mk_canon]

theorem withCmd_canon (s : State) (p r id opc : Nat) (f : RingCmd → State → State) (h1 : s.Canonical) (h6 : ∀ (x0 : RingCmd) (s : State), s.Canonical → (f x0 s).Canonical) : (withCmd s p r id opc f).Canonical := by
  unfold withCmd
  grind [mk_canon, dropCmd_canon]

end Sys2Proof.Machine
end

