-- ==== Sys2Proof/Laws/CanonSeqCore.lean ====
section
/-! SUPPORT. That the operations of Machine/SeqCore.lean keep the canonical form of a state (Safety.lean). -/

namespace Sys2Proof.Machine

theorem modSeq_canon (s : State) (q : Nat) (f : SeqSt → SeqSt) (h1 : s.Canonical) : (modSeq s q f).Canonical := by
  unfold modSeq
  grind [mk_canon]

theorem modPair_canon (s : State) (q p : Nat) (f : PairSt → PairSt) (h1 : s.Canonical) : (modPair s q p f).Canonical := by
  unfold modPair
  grind [mk_canon, modSeq_canon]

theorem modPart_canon (s : State) (p : Nat) (f : PartSt → PartSt) (h1 : s.Canonical) : (modPart s p f).Canonical := by
  unfold modPart
  grind [mk_canon]

theorem setStandby_canon (s : State) (q p : Nat) (i : Option (List Byte)) (h1 : s.Canonical) : (setStandby s q p i).Canonical := by
  unfold setStandby
  grind [mk_canon, modPair_canon]

theorem setActive_canon (s : State) (q p : Nat) (i : Option (List Byte)) (h1 : s.Canonical) : (setActive s q p i).Canonical := by
  unfold setActive
  grind [mk_canon, modPair_canon]

theorem noteExcess_canon (s : State) (q p : Nat) (h1 : s.Canonical) : (noteExcess s q p).Canonical := by
  unfold noteExcess
  grind [mk_canon, bump_canon, modPair_canon]

theorem charge_canon (s : State) (q p n : Nat) (h1 : s.Canonical) : (charge s q p n).Canonical := by
  unfold charge
  grind [mk_canon, modSeq_canon, noteExcess_canon]

theorem pick_canon (s : State) (q : Nat) (h1 : s.Canonical) : (pick s q).Canonical := by
  unfold pick
  grind [mk_canon, modSeq_canon, noteExcess_canon, put_canon]

theorem drainOne_canon (s : State) (q p : Nat) (h1 : s.Canonical) : (drainOne s q p).Canonical := by
  unfold drainOne
  grind [mk_canon, modPair_canon, ssmWrite_canon]

theorem drainAll_canon (s : State) (q p : Nat) (h1 : s.Canonical) : (drainAll s q p).Canonical := by
  unfold drainAll
  grind [mk_canon, foldl_canon, modPair_canon, ssmWrite_canon]

theorem leave_canon (s : State) (q p st : Nat) (h1 : s.Canonical) : (leave s q p st).Canonical := by
  unfold leave
  grind [mk_canon, drainAll_canon, modSeq_canon, pick_canon, put_canon]

theorem progFault_canon (s : State) (q p cause pc addr : Nat) (h1 : s.Canonical) : (progFault s q p cause pc addr).Canonical := by
  unfold progFault
  grind [mk_canon, fault_canon, leave_canon, modPair_canon, put_canon, put2_canon, raiseP_canon]

theorem setGreg_canon (s : State) (q p r v : Nat) (h1 : s.Canonical) : (setGreg s q p r v).Canonical := by
  unfold setGreg
  grind [mk_canon, modPair_canon]

theorem wake_canon (s : State) (q p v : Nat) (h1 : s.Canonical) : (wake s q p v).Canonical := by
  unfold wake
  grind [mk_canon, modPair_canon, pick_canon, progFault_canon, put_canon, setGreg_canon]

theorem tagIssue_canon (s : State) (o tag : Nat) (h1 : s.Canonical) : (tagIssue s o tag).Canonical := by
  unfold tagIssue
  grind [mk_canon, modPart_canon]

theorem tagPost_canon (s : State) (o tag : Nat) (h1 : s.Canonical) : (tagPost s o tag).Canonical := by
  unfold tagPost
  grind [mk_canon, modPart_canon, wake_canon]

theorem bellRing_canon (s : State) (o k : Nat) (h1 : s.Canonical) : (bellRing s o k).Canonical := by
  unfold bellRing
  grind [mk_canon, modPart_canon, wake_canon]

theorem modTimer_canon (s : State) (o t : Nat) (f : Timer → Timer) (h1 : s.Canonical) : (modTimer s o t f).Canonical := by
  unfold modTimer
  grind [mk_canon, modPart_canon]

theorem tmrLose_canon (s : State) (o t n : Nat) (h1 : s.Canonical) : (tmrLose s o t n).Canonical := by
  unfold tmrLose
  grind [mk_canon, bumpBy_canon, modTimer_canon]

theorem tmrExpire_canon (s : State) (o t : Nat) (h1 : s.Canonical) : (tmrExpire s o t).Canonical := by
  unfold tmrExpire
  grind [mk_canon, put_canon, tmrLose_canon, wake_canon]

theorem tmrCancel_canon (s : State) (o t : Nat) (h1 : s.Canonical) : (tmrCancel s o t).Canonical := by
  unfold tmrCancel
  grind [mk_canon, modTimer_canon, put_canon, tmrLose_canon]

theorem tmrLoad_canon (s : State) (o t mode ns c : Nat) (h1 : s.Canonical) : (tmrLoad s o t mode ns c).Canonical := by
  unfold tmrLoad
  grind [mk_canon, modTimer_canon, put_canon, put2_canon, tmrCancel_canon]

theorem tmrNext_canon (s : State) (o t : Nat) (h1 : s.Canonical) : (tmrNext s o t).Canonical := by
  unfold tmrNext
  grind [mk_canon, modTimer_canon, put_canon]

theorem setCaps_canon (s : State) (o e : Nat) (l : List Nat) (h1 : s.Canonical) : (setCaps s o e l).Canonical := by
  unfold setCaps
  grind [mk_canon, modPart_canon, put_canon]

theorem edgeTake_canon (s : State) (o e stamp : Nat) (h1 : s.Canonical) : (edgeTake s o e stamp).Canonical := by
  unfold edgeTake
  grind [mk_canon, bump_canon, put_canon, put2_canon, setCaps_canon, stamp_canon, wake_canon]

theorem setLevel_canon (s : State) (o e : Nat) (l : Option Bool) (h1 : s.Canonical) : (setLevel s o e l).Canonical := by
  unfold setLevel
  grind [mk_canon, modPart_canon]

theorem edgeFlush_canon (s : State) (o e : Nat) (h1 : s.Canonical) : (edgeFlush s o e).Canonical := by
  unfold edgeFlush
  grind [mk_canon, bumpBy_canon, setCaps_canon]

theorem edgeDisarm_canon (s : State) (o e : Nat) (h1 : s.Canonical) : (edgeDisarm s o e).Canonical := by
  unfold edgeDisarm
  grind [mk_canon, edgeFlush_canon, put_canon]

end Sys2Proof.Machine
end

