-- ==== Sys2Proof/Laws/CanonLysilo.lean ====
section
/-! SUPPORT. That the operations of Machine/Lysilo.lean keep the canonical form of a state (Safety.lean). -/

namespace Sys2Proof.Machine

theorem seqRun_canon (s : State) (q : Nat) (ecc : Ecc) (w : Nat) (k : Nat → State → State) (h1 : s.Canonical) (h5 : ∀ (x0 : Nat) (s : State), s.Canonical → (k x0 s).Canonical) : (seqRun s q ecc w k).Canonical := by
  unfold seqRun
  grind [mk_canon, bump_canon, fault_canon, progFault_canon, stamp_canon]

theorem seqGoto_canon (s : State) (q p pc : Nat) (h1 : s.Canonical) : (seqGoto s q p pc).Canonical := by
  unfold seqGoto
  grind [mk_canon, modPair_canon, progFault_canon]

theorem seqNext_canon (s : State) (q p n : Nat) (h1 : s.Canonical) : (seqNext s q p n).Canonical := by
  unfold seqNext
  grind [mk_canon, charge_canon, seqGoto_canon]

theorem seqWrite_canon (s : State) (q p rd v n : Nat) (h1 : s.Canonical) : (seqWrite s q p rd v n).Canonical := by
  unfold seqWrite
  grind [mk_canon, seqNext_canon, setGreg_canon]

theorem stallCycles_canon (s : State) (h1 : s.Canonical) : (stallCycles s).2.Canonical := by
  unfold stallCycles
  grind [mk_canon, useFree_canon]

theorem ssmLoad_canon (s : State) (q p a n : Nat) (h1 : s.Canonical) : (ssmLoad s q p a n).2.Canonical := by
  unfold ssmLoad
  grind [mk_canon, drainOne_canon, forN_canon]

theorem ssmStore_canon (s : State) (q p a : Nat) (bs : List Byte) (h1 : s.Canonical) : (ssmStore s q p a bs).2.Canonical := by
  unfold ssmStore
  grind [mk_canon, drainOne_canon, modPair_canon, stallCycles_canon]

theorem devRun_canon (s : State) (q p rd cost : Nat) (f : State → Nat × State) (h1 : s.Canonical)
    (hf : ∀ s : State, s.Canonical → (f s).2.Canonical) : (devRun s q p rd cost f).Canonical := by
  simp only [devRun]
  exact ite_canon (seqWrite_canon _ _ _ _ _ _ (drainAll_canon _ _ _ h1))
    (seqWrite_canon _ _ _ _ _ _ (hf _ (drainAll_canon _ _ _ h1)))

end Sys2Proof.Machine
end

