-- ==== Sys2Proof/Laws/CanonPool.lean ====
section
/-! SUPPORT. That the operations of Machine/Pool.lean keep the canonical form of a state (Safety.lean). -/

namespace Sys2Proof.Machine

theorem setRef_canon (s : State) (b : Nat) (r : BufRef) (h1 : s.Canonical) : (setRef s b r).Canonical := by
  unfold setRef
  grind [mk_canon]

theorem lowWater_canon (s : State) (old new level src : Nat) (h1 : s.Canonical) : (lowWater s old new level src).Canonical := by
  unfold lowWater
  grind [mk_canon, raise_canon]

theorem setFree_canon (s : State) (ess : Bool) (n : Nat) (h1 : s.Canonical) : (setFree s ess n).Canonical := by
  unfold setFree
  grind [mk_canon, lowWater_canon, put_canon]

theorem freeBuf_canon (s : State) (b : Nat) (h1 : s.Canonical) : (freeBuf s b).Canonical := by
  unfold freeBuf
  grind [mk_canon, fsWrite_canon, setFree_canon, setRef_canon]

theorem breakList_canon (s : State) (ess : Bool) (h1 : s.Canonical) : (breakList s ess).Canonical := by
  unfold breakList
  grind [mk_canon, fault_canon, put_canon, raise_canon]

theorem takeHead_canon (s : State) (ess : Bool) (b nxt : Nat) (holder : Option Nat) (h1 : s.Canonical) : (takeHead s ess b nxt holder).Canonical := by
  unfold takeHead
  grind [mk_canon, setFree_canon, setRef_canon]

theorem poolAlloc_canon (s : State) (ess : Bool) (holder : Option Nat) (h1 : s.Canonical) : (poolAlloc s ess holder).2.Canonical := by
  unfold poolAlloc
  grind [mk_canon, breakList_canon, takeHead_canon]

theorem poolRefuse_canon (s : State) (b kind : Nat) (h1 : s.Canonical) : (poolRefuse s b kind).Canonical := by
  unfold poolRefuse
  grind [mk_canon, bump_canon, put_canon, raise_canon]

theorem poolAdd_canon (s : State) (b : Nat) (holder : Option Nat) (h1 : s.Canonical) : (poolAdd s b holder).2.Canonical := by
  unfold poolAdd
  grind [mk_canon, poolRefuse_canon, setRef_canon]

theorem dropRef_canon (s : State) (b : Nat) (r : BufRef) (h1 : s.Canonical) : (dropRef s b r).Canonical := by
  unfold dropRef
  grind [mk_canon, freeBuf_canon, setRef_canon]

theorem poolRelease_canon (s : State) (b : Nat) (holder : Option Nat) (h1 : s.Canonical) : (poolRelease s b holder).2.Canonical := by
  unfold poolRelease
  grind [mk_canon, dropRef_canon, poolRefuse_canon]

theorem releaseAll_canon (s : State) (bs : List Nat) (h1 : s.Canonical) : (releaseAll s bs).Canonical := by
  unfold releaseAll
  grind [mk_canon, foldl_canon, poolRelease_canon]

theorem poolSweep_canon (s : State) (p : Nat) (h1 : s.Canonical) : (poolSweep s p).Canonical := by
  unfold poolSweep
  grind [mk_canon, dropRef_canon, foldl_canon]

theorem threadList_canon (s : State) (l : List Nat) (h1 : s.Canonical) : (threadList s l).Canonical := by
  induction l with
  | nil => exact h1
  | cons b bs ih => exact fsWrite_canon _ _ _ ih


theorem execPoolInit_canon (s : State) (h1 : s.Canonical) (t' : State) (ht' : execPoolInit s = .next t') : t'.Canonical := by
  unfold execPoolInit at *
  grind [mk_canon, answered_canon, clrF_canon, put_canon, setF_canon]

theorem execPoolInitDone_canon (essOrder genOrder : List Nat) (s : State) (h3 : s.Canonical) (t' : State) (ht' : execPoolInitDone essOrder genOrder s = .next t') : t'.Canonical := by
  unfold execPoolInitDone at *
  grind [mk_canon, clrF_canon, setFree_canon, threadList_canon]

theorem execPoolIncrement_canon (buf : Nat) (holder : Option Part) (s : State) (h3 : s.Canonical) (t' : State) (ht' : execPoolIncrement buf holder s = .next t') : t'.Canonical := by
  unfold execPoolIncrement at *
  grind [mk_canon, poolAdd_canon]

theorem execPoolDecrement_canon (buf : Nat) (holder : Option Part) (s : State) (h3 : s.Canonical) (t' : State) (ht' : execPoolDecrement buf holder s = .next t') : t'.Canonical := by
  unfold execPoolDecrement at *
  grind [mk_canon, poolRelease_canon]

end Sys2Proof.Machine
end

