-- ==== Sys2Proof/Laws/CanonStrandCore.lean ====
section
/-! SUPPORT. That the operations of Machine/StrandCore.lean keep the canonical form of a state (Safety.lean). -/

namespace Sys2Proof.Machine

theorem modStrand_canon (s : State) (n : Nat) (f : StrandSt → StrandSt) (h1 : s.Canonical) : (modStrand s n f).Canonical := by
  unfold modStrand
  grind [mk_canon]

theorem modLane_canon (s : State) (l : Nat) (f : Lane → Lane) (h1 : s.Canonical) : (modLane s l f).Canonical := by
  unfold modLane
  grind [mk_canon, put_canon]

theorem poolStat_canon (s : State) (h1 : s.Canonical) : (poolStat s).Canonical := by
  unfold poolStat
  grind [mk_canon, put_canon]

theorem setStrState_canon (s : State) (n st : Nat) (h1 : s.Canonical) : (setStrState s n st).Canonical := by
  unfold setStrState
  grind [mk_canon, poolStat_canon, put_canon]

theorem writeRecord_canon (s : State) (part q space a : Nat) (bs : List Byte) (h1 : s.Canonical) : (writeRecord s part q space a bs).Canonical := by
  unfold writeRecord
  grind [mk_canon, fsWrite_canon, ssmWrite_canon, startOp_canon]

theorem jobRecord_canon (s : State) (j : Job) (status failRow outcome strand epoch detail : Nat) (h1 : s.Canonical) : (jobRecord s j status failRow outcome strand epoch detail).Canonical := by
  unfold jobRecord
  grind [mk_canon, raiseP_canon, tagPost_canon, writeRecord_canon]

theorem showJob_canon (s : State) (n : Nat) (opc part tag : Nat) (h1 : s.Canonical) : (showJob s n opc part tag).Canonical := by
  unfold showJob
  grind [mk_canon, put_canon]

theorem freeStrand_canon (s : State) (n : Nat) (h1 : s.Canonical) : (freeStrand s n).Canonical := by
  unfold freeStrand
  grind [mk_canon, modStrand_canon, showJob_canon]

theorem endTestJob_canon (s : State) (n status detail : Nat) (h1 : s.Canonical) : (endTestJob s n status detail).Canonical := by
  unfold endTestJob
  grind [mk_canon, jobRecord_canon]

theorem abandonTest_canon (s : State) (n : Nat) (h1 : s.Canonical) : (abandonTest s n).Canonical := by
  unfold abandonTest
  grind [mk_canon, endTestJob_canon, modStrand_canon, put_canon]

theorem giveLane_canon (s : State) (l n : Nat) (h1 : s.Canonical) : (giveLane s l n).Canonical := by
  unfold giveLane
  grind [mk_canon, abandonTest_canon, modStrand_canon, put_canon, setStrState_canon]

theorem bumpEpoch_canon (s : State) (l : Nat) (h1 : s.Canonical) : (bumpEpoch s l).Canonical := by
  unfold bumpEpoch
  grind [mk_canon, put_canon]

theorem takeover_canon (s : State) (l n : Nat) (h1 : s.Canonical) : (takeover s l n).Canonical := by
  unfold takeover
  grind [mk_canon, bumpEpoch_canon, forN_canon, giveLane_canon, modLane_canon, modStrand_canon, put_canon, setStrState_canon]

theorem takeoverDue_canon (s : State) (n : Nat) (h1 : s.Canonical) : (takeoverDue s n).Canonical := by
  unfold takeoverDue
  grind [mk_canon, takeover_canon]

theorem endJob_canon (s : State) (n l : Nat) (status failRow outcome detail : Nat) (h1 : s.Canonical) : (endJob s n l status failRow outcome detail).Canonical := by
  unfold endJob
  grind [mk_canon, freeStrand_canon, jobRecord_canon, modLane_canon, takeoverDue_canon]

theorem stopDeadJobs_canon (s : State) (h1 : s.Canonical) : (stopDeadJobs s).Canonical := by
  unfold stopDeadJobs
  grind [mk_canon, endJob_canon, forN_canon]

theorem modJob_canon (s : State) (l : Nat) (f : Job → Job) (h1 : s.Canonical) : (modJob s l f).Canonical := by
  unfold modJob
  grind [mk_canon, modLane_canon]

theorem fsWrites_canon (s : State) (ws : List (Nat × List Byte)) (h1 : s.Canonical) : (fsWrites s ws).Canonical := by
  unfold fsWrites
  grind [mk_canon, foldl_canon, fsWrite_canon]

theorem setFrame_canon (s : State) (x : FrameFix) (h1 : s.Canonical) : (setFrame s x).Canonical := by
  unfold setFrame
  grind [mk_canon]

theorem setClip_canon (s : State) (x : ClipFix) (h1 : s.Canonical) : (setClip s x).Canonical := by
  unfold setClip
  grind [mk_canon]

theorem declareFray_canon (s : State) (n cause : Nat) (h1 : s.Canonical) : (declareFray s n cause).Canonical := by
  unfold declareFray
  grind [mk_canon, bump_canon, fault_canon, modStrand_canon, put_canon]

theorem fray_canon (s : State) (n cause : Nat) (h1 : s.Canonical) : (fray s n cause).Canonical := by
  unfold fray
  grind [mk_canon, declareFray_canon, modStrand_canon, setStrState_canon]

end Sys2Proof.Machine
end

