-- ==== Sys2Proof/Laws/CanonAdmission.lean ====
section
/-! SUPPORT. That the operations of Machine/Admission.lean keep the canonical form of a state (Safety.lean). -/

namespace Sys2Proof.Machine

theorem noteRefusal_canon (s : State) (part : Nat) (r : Refused) (h1 : s.Canonical) : (noteRefusal s part r).Canonical := by
  unfold noteRefusal
  grind [mk_canon, bump_canon, put_canon]

theorem overcommitSet_canon (s : State) (h1 : s.Canonical) : (overcommitSet s).Canonical := by
  unfold overcommitSet
  grind [mk_canon, raise_canon, setF_canon]

theorem overcommitCheck_canon (s : State) (h1 : s.Canonical) : (overcommitCheck s).Canonical := by
  unfold overcommitCheck
  grind [mk_canon, overcommitSet_canon]

theorem overcommitTest_canon (s : State) (h1 : s.Canonical) : (overcommitTest s).Canonical := by
  unfold overcommitTest
  grind [mk_canon, clrF_canon, overcommitSet_canon]

end Sys2Proof.Machine
end

