-- ==== Sys2Proof/Laws/CanonStrandEnc.lean ====
section
/-! SUPPORT. That the operations of Machine/StrandEnc.lean keep the canonical form of a state (Safety.lean). -/

namespace Sys2Proof.Machine

theorem issueJob_canon (s : State) (q part space a : Nat) (d : List Byte) (h1 : s.Canonical) : (issueJob s q part space a d).2.Canonical := by
  unfold issueJob
  grind [mk_canon, modLane_canon, tagIssue_canon, writeRecord_canon]

theorem fixFrame_canon (s : State) (j : Job) (h1 : s.Canonical) : (fixFrame s j).Canonical := by
  unfold fixFrame
  grind [mk_canon, setClip_canon, setFrame_canon]

theorem fixDecoded_canon (s : State) (j : Job) (h1 : s.Canonical) : (fixDecoded s j).Canonical := by
  unfold fixDecoded
  grind [mk_canon]

theorem startCount_canon (s : State) (l : Nat) (f : FrameId) (b : Nat) (h1 : s.Canonical) : (startCount s l f b).Canonical := by
  unfold startCount
  grind [mk_canon, modLane_canon, put_canon]

theorem loadBand_canon (s : State) (n l : Nat) (j : Job) (h1 : s.Canonical) : (loadBand s n l j).Canonical := by
  unfold loadBand
  grind [mk_canon, fault_canon, modStrand_canon]

theorem startJob_canon (s : State) (n : Nat) (h1 : s.Canonical) : (startJob s n).Canonical := by
  unfold startJob
  grind [mk_canon, endJob_canon, fixDecoded_canon, fixFrame_canon, loadBand_canon, modLane_canon, modStrand_canon, showJob_canon, startCount_canon]

theorem startRoutine_canon (s : State) (n kind entry : Nat) (regs : List (Nat × Nat)) (h1 : s.Canonical) : (startRoutine s n kind entry regs).Canonical := by
  unfold startRoutine
  grind [mk_canon, foldl_canon, modStrand_canon, put_canon]

theorem startPre_canon (s : State) (n : Nat) (d y : List Byte) (row : Nat) (h1 : s.Canonical) : (startPre s n d y row).Canonical := by
  unfold startPre
  grind [mk_canon, modStrand_canon, startRoutine_canon]

theorem startMeta_canon (s : State) (n : Nat) (d : List Byte) (x : Staged) (h1 : s.Canonical) : (startMeta s n d x).Canonical := by
  unfold startMeta
  grind [mk_canon, modStrand_canon, startRoutine_canon]

theorem encRow_canon (s : State) (n : Nat) (hits : List (Nat × Nat × Nat × Nat)) (upset : List (Nat × Byte)) (h1 : s.Canonical) :
    (encRow s n hits upset).Canonical := by
  have hl : ∀ (s : State) (o : Option Nat) (b : BandSt), s.Canonical → (match o with
      | some l => endJob s n l jsBadOpcode 0xFFFF 0 b.runBytes
      | none => s).Canonical := by
    intro s o b h
    cases o
    · exact h
    · exact endJob_canon _ _ _ _ _ _ _ h
  unfold encRow
  cases jobOf s n with
  | none => exact h1
  | some a =>
    simp only
    cases (strandOf s n).band with
    | none => exact h1
    | some b =>
      simp only
      cases findFrame s b.frame with
      | none => exact h1
      | some f =>
        simp only
        refine ite_canon h1 (ite_canon (ite_canon (startPre_canon _ _ _ _ _ h1) (hl _ _ _ h1)) (ite_canon (fray_canon _ _ _ h1) ?_))
        refine ite_canon (ite_canon (startMeta_canon _ _ _ _ ?_) (hl _ _ _ ?_)) ?_ <;> exact modStrand_canon _ _ _ h1

theorem noteMiss_canon (s : State) (f : FrameId) (b row n : Nat) (h1 : s.Canonical) : (noteMiss s f b row n).Canonical := by
  unfold noteMiss
  grind [mk_canon, fault_canon]

theorem noteMatch_canon (s : State) (f : FrameId) (b row : Nat) (h1 : s.Canonical) : (noteMatch s f b row).Canonical := by
  unfold noteMatch
  grind [mk_canon]

theorem echoDone_canon (s : State) (n : Nat) (h1 : s.Canonical) : (echoDone s n).Canonical := by
  unfold echoDone
  grind [mk_canon, bump_canon, fray_canon, modStrand_canon, noteMatch_canon, noteMiss_canon, put_canon, setF_canon]

/-- What a run of writes leaves is canonical. -/
theorem writeRun_canon (list fuel : Nat) (s : State) (buf off total : Nat) (bs : List Byte) (h1 : s.Canonical) (s' : State)
    (b' o' t' : Nat) (h : writeRun list fuel s buf off total bs = .done s' b' o' t') : s'.Canonical := by
  induction fuel generalizing s buf off total bs with
  | zero =>
    unfold writeRun at h
    split at h
    · cases h; exact h1
    · cases h
  | succ fuel ih =>
    unfold writeRun at h
    split at h
    · cases h; exact h1
    · split at h
      · exact ih _ _ _ _ _ (fsWrite_canon _ _ _ h1) h
      · simp only at h
        split at h
        · cases h
        · split at h
          · cases h
          · rename_i b s2 hp
            have := poolAlloc_canon s true none h1
            rw [hp] at this
            exact ih _ _ _ _ _ (fsWrite_canon _ _ _ this) h

theorem noteGap_canon (s : State) (l t : Nat) (h1 : s.Canonical) : (noteGap s l t).Canonical := by
  unfold noteGap
  grind [mk_canon, modLane_canon, put_canon, putMax_canon]

theorem countRow_canon (s : State) (n l : Nat) (b : BandSt) (waited t : Nat) (ovf damaged : Bool) (h1 : s.Canonical) : (countRow s n l b waited t ovf damaged).Canonical := by
  unfold countRow
  grind [mk_canon, modJob_canon, modLane_canon, modStrand_canon, noteGap_canon, put_canon, putMax_canon, setFrame_canon]

theorem endIfLast_canon (s : State) (n l : Nat) (y : List Byte) (rows detail : Nat) (h1 : s.Canonical) : (endIfLast s n l y rows detail).Canonical := by
  unfold endIfLast
  grind [mk_canon, endJob_canon]

theorem commitEnc_canon (s : State) (n l : Nat) (j : Job) (f : FrameFix) (b : BandSt) (z : Staged) (waited t : Nat) (h1 : s.Canonical) :
    (commitEnc s n l j f b z waited t).Canonical := by
  unfold commitEnc
  split
  · split
    · exact breakList_canon _ _ h1
    · exact h1
  · exact endJob_canon _ _ _ _ _ _ _ h1
  · rename_i s' b' o' t' hw
    have hs := writeRun_canon _ _ _ _ _ _ _ h1 _ _ _ _ hw
    refine endIfLast_canon _ _ _ _ _ _ (countRow_canon _ _ _ _ _ _ _ _ (fsWrite_canon _ _ _ ?_))
    have hm : (match z.metaRow with
      | some m => if jHookMeta j.desc then fsWrite s' (jMetaBuf j.desc + 64 * z.row) m else s'
      | none => s').Canonical := by
      split
      · split
        · exact fsWrite_canon _ _ _ hs
        · exact hs
      · exact hs
    split
    · exact hm
    · exact fsWrites_canon _ _ hm

end Sys2Proof.Machine
end

