-- ==== Sys2Proof/Laws/CanonStrandDec.lean ====
section
/-! SUPPORT. That the operations of Machine/StrandDec.lean keep the canonical form of a state (Safety.lean). -/

namespace Sys2Proof.Machine

/-- Marks and writes row by row keep the canonical form. -/
theorem foldl_snd_canon {α β : Type} (l : List α) (f : β × State → α → β × State) (a : β × State) (h : a.2.Canonical)
    (hf : ∀ (a : β × State) (x : α), a.2.Canonical → (f a x).2.Canonical) : (l.foldl f a).2.Canonical := by
  induction l generalizing a with
  | nil => exact h
  | cons x l ih => exact ih _ (hf a x h)

theorem decLearn_canon (s : State) (w : DecWork) (h1 : s.Canonical) : (decLearn s w).Canonical := by
  unfold decLearn
  grind [mk_canon]

theorem decStage_canon (s : State) (n : Nat) (b : BandSt) (w : DecWork) (z : Staged) (h1 : s.Canonical) : (decStage s n b w z).Canonical := by
  unfold decStage
  grind [mk_canon, bumpBy_canon, decLearn_canon, modStrand_canon]

theorem decRow_canon (s : State) (n : Nat) (h1 : s.Canonical) : (decRow s n).Canonical := by
  unfold decRow
  grind [mk_canon, decStage_canon]

theorem putMarks_canon (s : State) (df : DecFrame) (map : Nat) (b : BandSt) (row : Nat) (codes : List Nat) (h1 : s.Canonical) : (putMarks s df map b row codes).2.Canonical := by
  unfold putMarks
  grind [mk_canon, fsWrite_canon]

theorem fillRows_canon (s : State) (d : List Byte) (df : DecFrame) (b : BandSt) (h1 : s.Canonical) : (fillRows s d df b).2.2.Canonical := by
  unfold fillRows
  simp only
  split
  · exact h1
  · refine foldl_snd_canon _ _ _ h1 ?_
    rintro ⟨df, s⟩ ⟨q, sm⟩ h
    simp only
    exact putMarks_canon _ _ _ _ _ _ (fsWrites_canon _ _ h)

theorem closeDecoded_canon (s : State) (df : DecFrame) (map : Nat) (h1 : s.Canonical) : (closeDecoded s df map).Canonical := by
  unfold closeDecoded
  grind [mk_canon, fsWrite_canon, raiseP_canon]

theorem ckptBottom_canon (s : State) (df : DecFrame) (dst : Nat) (b : BandSt) (h1 : s.Canonical) : (ckptBottom s df dst b).2.Canonical := by
  unfold ckptBottom
  grind [mk_canon, useFree_canon]

theorem commitDec_canon (s : State) (n l : Nat) (j : Job) (df : DecFrame) (b : BandSt) (z : Staged) (waited t : Nat) (h1 : s.Canonical) :
    (commitDec s n l j df b z waited t).Canonical := by
  have hm : (z.marks.foldl (fun (x : DecFrame × State) m => putMarks x.2 x.1 (jRate j.desc) b m.1 m.2) (df, fsWrites s z.writes)).2.Canonical :=
    foldl_snd_canon _ _ _ (fsWrites_canon _ _ h1) fun a x h => putMarks_canon _ _ _ _ _ _ h
  simp only [commitDec]
  generalize z.marks.foldl (fun (x : DecFrame × State) m => putMarks x.2 x.1 (jRate j.desc) b m.1 m.2) (df, fsWrites s z.writes) = a at hm
  have hc := fillRows_canon a.2 j.desc a.1 b hm
  generalize fillRows a.2 j.desc a.1 b = c at hc
  have hb := fun df dst b => ckptBottom_canon c.2.2 df dst b hc
  refine endIfLast_canon _ _ _ _ _ _ (countRow_canon _ _ _ _ _ _ _ _ (ite_canon (closeDecoded_canon _ _ _ ?_) ?_))
  · exact mk_canon _ (fsWrite_canon _ _ _ (hb ..)) ..
  · exact mk_canon _ (fsWrite_canon _ _ _ (hb ..)) ..

theorem rowCommit_canon (s : State) (n : Nat) (writes waited t : Nat) (h1 : s.Canonical) : (rowCommit s n writes waited t).Canonical := by
  unfold rowCommit
  dsimp only
  cases (strandOf s n).staged.head? with
  | none => exact ite_canon (bumpBy_canon _ _ _ h1) h1
  | some z =>
    refine ite_canon (c := ¬ z.handed) h1 (ite_canon (bumpBy_canon _ _ _ (modStrand_canon _ _ _ h1)) ?_)
    have key : ∀ (o : Option (Nat × Job)) (b : Option BandSt) (k : Nat → Job → BandSt → State), (∀ l j b, (k l j b).Canonical) →
      (match o, b with
      | some (l, j), some b => k l j b
      | _, _ => s).Canonical := by
      intro o b k hk
      cases o with
      | none => exact h1
      | some o => cases b with
        | none => exact h1
        | some b => exact hk _ _ _
    refine key _ _ _ ?_
    intro l j b
    cases z.after with
    | some b' =>
      simp only
      cases findDec s b.frame with
      | none => exact h1
      | some df => exact commitDec_canon _ _ _ _ _ _ _ _ _ h1
    | none =>
      simp only
      cases findFrame s b.frame with
      | none => exact h1
      | some f => exact ite_canon h1 (commitEnc_canon _ _ _ _ _ _ _ _ _ h1)

theorem echoJob_canon (s : State) (n : Nat) (h1 : s.Canonical) : (echoJob s n).Canonical := by
  unfold echoJob
  grind [mk_canon, endJob_canon, modJob_canon, raiseP_canon, useFree_canon]

theorem loadCtx_canon (s : State) (n : Nat) (h1 : s.Canonical) : (loadCtx s n).Canonical := by
  unfold loadCtx
  grind [mk_canon, endJob_canon, modLane_canon, modStrand_canon, put_canon, startCount_canon]

theorem saveCtx_canon (s : State) (n : Nat) (h1 : s.Canonical) : (saveCtx s n).Canonical := by
  unfold saveCtx
  grind [mk_canon, ckptBottom_canon, endJob_canon, fsWrite_canon]

end Sys2Proof.Machine
end

