-- ==== Sys2Proof/Laws/CanonMicro.lean ====
section
/-! SUPPORT. That the operations of Machine/Micro.lean keep the canonical form of a state (Safety.lean). -/

namespace Sys2Proof.Machine

theorem customFault_canon (s : State) (n : Nat) (h1 : s.Canonical) : (customFault s n).Canonical := by
  unfold customFault
  dsimp only
  have h := rowCommit_canon s n 0 0 s.clk h1
  cases jobOf (rowCommit s n 0 0 s.clk) n with
  | none => exact h
  | some x => exact endJob_canon _ _ _ _ _ _ _ h


theorem uIllegal_canon (s : State) (n : Nat) (store : Bool) (h1 : s.Canonical) : (uIllegal s n store).Canonical := by
  unfold uIllegal
  grind [mk_canon, customFault_canon, fray_canon]

theorem romReturn_canon (s : State) (n : Nat) (h1 : s.Canonical) : (romReturn s n).Canonical := by
  unfold romReturn
  grind [mk_canon, put_canon, useFree_canon]

theorem routineEnd_canon (s : State) (n : Nat) (h1 : s.Canonical) : (routineEnd s n).Canonical := by
  unfold routineEnd
  grind [mk_canon, endJob_canon, modStrand_canon, romReturn_canon]

theorem uHand_canon (s : State) (n : Nat) (h1 : s.Canonical) : (uHand s n).Canonical := by
  unfold uHand
  grind [mk_canon, bump_canon, fsWrite_canon, modStrand_canon]

theorem uData_canon (s : State) (n : Nat) (w : MicroWord) (h1 : s.Canonical) : (uData s n w).Canonical := by
  unfold uData
  grind [mk_canon, modStrand_canon, useFree_canon]

theorem uDispatchTo_canon (s : State) (n : Nat) (h1 : s.Canonical) : (uDispatchTo s n).Canonical := by
  unfold uDispatchTo
  grind [mk_canon, endJob_canon, modStrand_canon, put_canon, routineEnd_canon]

theorem uNext_canon (s : State) (n pc : Nat) (w : MicroWord) (taken : Bool) (h1 : s.Canonical) : (uNext s n pc w taken).Canonical := by
  unfold uNext
  grind [mk_canon, modStrand_canon, put_canon, routineEnd_canon, uDispatchTo_canon]

theorem uWord_canon (s : State) (n pc : Nat) (w : MicroWord) (eng : Bool) (h1 : s.Canonical) : (uWord s n pc w eng).Canonical := by
  unfold uWord
  grind [mk_canon, customFault_canon, uData_canon, uHand_canon, uIllegal_canon, uNext_canon]

theorem storeUe_canon (s : State) (n : Nat) (h1 : s.Canonical) : (storeUe s n).Canonical := by
  unfold storeUe
  grind [mk_canon, bump_canon, fray_canon]

theorem startCustom_canon (s : State) (n : Nat) (h1 : s.Canonical) : (startCustom s n).Canonical := by
  unfold startCustom
  grind [mk_canon, endJob_canon, modStrand_canon, startRoutine_canon]

end Sys2Proof.Machine
end

