-- ==== Sys2Proof/Laws/CanonSplice.lean ====
section
/-! SUPPORT. That the operations of Machine/Splice.lean keep the canonical form of a state (Safety.lean). -/

namespace Sys2Proof.Machine

theorem resetStrand_canon (s : State) (n : Nat) (h1 : s.Canonical) : (resetStrand s n).Canonical :=
  modStrand_canon _ _ _ (regsFilter_canon s _ h1)

theorem beginTest_canon (s : State) (n kind : Nat) (h1 : s.Canonical) : (beginTest s n kind).Canonical := by
  unfold beginTest
  grind [mk_canon, modStrand_canon, put_canon]

theorem startTest_canon (s : State) (n : Nat) (h1 : s.Canonical) : (startTest s n).Canonical := by
  unfold startTest
  grind [mk_canon, beginTest_canon]

theorem testDone_canon (s : State) (n part sig : Nat) (h1 : s.Canonical) : (testDone s n part sig).Canonical := by
  unfold testDone
  grind [mk_canon, endJob_canon, endTestJob_canon, fray_canon, modStrand_canon, put_canon, setF_canon, setStrState_canon]

theorem spareTests_canon (s : State) (t : Nat) (h1 : s.Canonical) : (spareTests s t).Canonical := by
  unfold spareTests
  grind [mk_canon, beginTest_canon, forN_canon, stamp_canon]

theorem restartRow_canon (s : State) (n : Nat) (h1 : s.Canonical) : (restartRow s n).Canonical := by
  unfold restartRow
  grind [mk_canon, bump_canon, modStrand_canon]

theorem sramUe_canon (s : State) (n : Nat) (h1 : s.Canonical) : (sramUe s n).Canonical := by
  unfold sramUe
  grind [mk_canon, bump_canon, fray_canon, modStrand_canon, restartRow_canon]

theorem strandReadError_canon (s : State) (n : Nat) (h1 : s.Canonical) : (strandReadError s n).Canonical := by
  unfold strandReadError
  dsimp only
  cases jobOf s n with
  | none => exact h1
  | some x =>
    exact ite_canon h1 (ite_canon (restartRow_canon _ _ (modStrand_canon _ _ _ h1)) (endJob_canon _ _ _ _ _ _ _ (rowCommit_canon _ _ _ _ _ h1)))


theorem noCommit_canon (s : State) (n waited t : Nat) (h1 : s.Canonical) : (noCommit s n waited t).Canonical := by
  unfold noCommit
  grind [mk_canon, fray_canon, putMax_canon, stamp_canon]

theorem shareLane_canon (s : State) (n l : Nat) (h1 : s.Canonical) : (shareLane s n l).Canonical := by
  unfold shareLane
  grind [mk_canon, put_canon, setF_canon]

theorem passLane_canon (s : State) (n l cause : Nat) (h1 : s.Canonical) : (passLane s n l cause).Canonical := by
  unfold passLane
  grind [mk_canon, bump_canon, bumpEpoch_canon, giveLane_canon, modLane_canon, put_canon, shareLane_canon, takeover_canon]

theorem isolate_canon (s : State) (n : Nat) (unack : Bool) (h1 : s.Canonical) : (isolate s n unack).Canonical := by
  unfold isolate
  grind [mk_canon, modStrand_canon, put_canon, resetStrand_canon, setStrState_canon]

theorem splice_canon (s : State) (unack : Bool) (h1 : s.Canonical) : (splice s unack).Canonical := by
  unfold splice
  grind [mk_canon, endJob_canon, foldl_canon, isolate_canon, overcommitSet_canon, passLane_canon]

theorem trimRun_canon (s : State) (list outBuf : Nat) (h1 : s.Canonical) : (trimRun s list outBuf).Canonical := by
  unfold trimRun
  grind [mk_canon, foldl_canon, fsWrite_canon, poolRelease_canon]

theorem resumeJob_canon (s : State) (n l : Nat) (j : Job) (h1 : s.Canonical) : (resumeJob s n l j).Canonical := by
  unfold resumeJob
  grind [mk_canon, endJob_canon, fault_canon, modLane_canon, modStrand_canon, showJob_canon, trimRun_canon]

theorem restoreLane_canon (s : State) (n : Nat) (h1 : s.Canonical) : (restoreLane s n).Canonical := by
  unfold restoreLane
  grind [mk_canon, modLane_canon, resumeJob_canon, startOp_canon]

theorem descReread_canon (s : State) (l : Nat) (data : Option (List Byte)) (h1 : s.Canonical) : (descReread s l data).Canonical := by
  unfold descReread
  grind [mk_canon, modLane_canon, restoreLane_canon]

theorem readyStrands_canon (s : State) (h1 : s.Canonical) : (readyStrands s).Canonical := by
  unfold readyStrands
  grind [mk_canon, foldl_canon, setStrState_canon]

theorem moveLane_canon (s : State) (l m : Nat) (h1 : s.Canonical) : (moveLane s l m).Canonical := by
  unfold moveLane
  grind [mk_canon, freeStrand_canon, giveLane_canon, modLane_canon]

theorem assignLanes_canon (s : State) (h1 : s.Canonical) : (assignLanes s).Canonical := by
  unfold assignLanes
  grind [mk_canon, clrF_canon, foldl_canon, forN_canon, freeStrand_canon, modStrand_canon, moveLane_canon, put_canon, setF_canon, setStrState_canon, shareLane_canon]

theorem boundaryLanes_canon (s : State) (h1 : s.Canonical) : (boundaryLanes s).Canonical := by
  unfold boundaryLanes
  grind [mk_canon, assignLanes_canon, forN_canon, moveLane_canon, put_canon, readyStrands_canon]

theorem strReset_canon (s : State) (n : Nat) (v : Nat) (h1 : s.Canonical) : (strReset s n v).Canonical := by
  unfold strReset
  grind [mk_canon, abandonTest_canon, resetStrand_canon, setF_canon]

theorem strQuarSet_canon (s : State) (v : Nat) (h1 : s.Canonical) : (strQuarSet s v).Canonical := by
  unfold strQuarSet
  grind [mk_canon, abandonTest_canon, setF_canon, setStrState_canon]

theorem strReadmit_canon (s : State) (v : Nat) (h1 : s.Canonical) : (strReadmit s v).Canonical := by
  unfold strReadmit
  grind [mk_canon, put_canon, resetStrand_canon]

theorem strTestReq_canon (s : State) (v : Nat) (h1 : s.Canonical) : (strTestReq s v).Canonical := by
  unfold strTestReq
  grind [mk_canon, beginTest_canon, modLane_canon, put_canon, takeover_canon, takeoverDue_canon]

theorem strPoolWrite_canon (s : State) (v : Nat) (h1 : s.Canonical) : (strPoolWrite s v).Canonical := by
  unfold strPoolWrite
  grind [mk_canon, put_canon, setF_canon]

theorem osData2_canon (s : State) (v : Nat) (h1 : s.Canonical) : (osData2 s v).Canonical := by
  unfold osData2
  grind [mk_canon, put_canon, setF_canon]

end Sys2Proof.Machine
end

