-- ==== Sys2Proof/Laws/CanonMagCore.lean ====
section
/-! SUPPORT. That the operations of Machine/MagCore.lean keep the canonical form of a state (Safety.lean). -/

namespace Sys2Proof.Machine

theorem modMag_canon (s : State) (n : Nat) (f : MagSt → MagSt) (h1 : s.Canonical) : (modMag s n f).Canonical := by
  unfold modMag
  grind [mk_canon]

theorem modSess_canon (s : State) (n : Nat) (f : Session → Session) (h1 : s.Canonical) : (modSess s n f).Canonical := by
  unfold modSess
  grind [mk_canon, modMag_canon]

theorem magAccrue_canon (s : State) (n : Nat) (h1 : s.Canonical) : (magAccrue s n).Canonical := by
  unfold magAccrue
  grind [mk_canon, modMag_canon]

theorem addCmd_canon (s : State) (n op : Nat) (r : NvReq) (h1 : s.Canonical) : (addCmd s n op r).Canonical := by
  unfold addCmd
  grind [mk_canon, magAccrue_canon, modMag_canon, putMax_canon]

theorem addOp_canon (s : State) (n : Nat) (kind : MagKind) (steps : List MagStep) (code : Nat) (h1 : s.Canonical) : (addOp s n kind steps code).Canonical := by
  unfold addOp
  grind [mk_canon, modMag_canon]

theorem modMop_canon (s : State) (n id : Nat) (f : MagOp → MagOp) (h1 : s.Canonical) : (modMop s n id f).Canonical := by
  unfold modMop
  grind [mk_canon, modMag_canon]

theorem dropMop_canon (s : State) (n id : Nat) (h1 : s.Canonical) : (dropMop s n id).Canonical := by
  unfold dropMop
  grind [mk_canon, modMag_canon]

theorem prepend_canon (s : State) (n id : Nat) (l : List MagStep) (h1 : s.Canonical) : (prepend s n id l).Canonical := by
  unfold prepend
  grind [mk_canon, modMop_canon]

theorem headerSteps_canon (s : State) (n : Nat) (dirty : Bool) (h1 : s.Canonical) : (headerSteps s n dirty).1.Canonical := by
  unfold headerSteps
  grind [mk_canon, modSess_canon]

theorem spoolRecord_canon (s : State) (sp : SpoolReq) (status flags member bytes : Nat) (h1 : s.Canonical) : (spoolRecord s sp status flags member bytes).Canonical := by
  unfold spoolRecord
  grind [mk_canon, writeRecord_canon]

theorem spoolDone_canon (s : State) (sp : SpoolReq) (status flags member bytes : Nat) (h1 : s.Canonical) : (spoolDone s sp status flags member bytes).Canonical := by
  unfold spoolDone
  grind [mk_canon, raiseP_canon, spoolRecord_canon, tagPost_canon]

theorem modClip_canon (s : State) (id : Nat) (f : Clip → Clip) (h1 : s.Canonical) : (modClip s id f).Canonical := by
  unfold modClip
  grind [mk_canon]

theorem modMem_canon (s : State) (id n : Nat) (f : ClipMem → ClipMem) (h1 : s.Canonical) : (modMem s id n f).Canonical := by
  unfold modMem
  grind [mk_canon, modClip_canon]

theorem showSpace_canon (s : State) (n : Nat) (h1 : s.Canonical) : (showSpace s n).Canonical := by
  unfold showSpace
  grind [mk_canon, put_canon, raise_canon, setF_canon]

theorem takeAu_canon (s : State) (n num : Nat) (chain : List Nat) (h1 : s.Canonical) (r' : Nat × State)
    (hr' : takeAu s n num chain = some r') : r'.2.Canonical := by
  simp only [takeAu, Option.map_eq_some_iff] at hr'
  obtain ⟨u, _, rfl⟩ := hr'
  exact modSess_canon _ _ _ h1

theorem extendChain_canon (n num need fuel : Nat) (s : State) (chain new : List Nat) (h1 : s.Canonical) :
    (extendChain n num need fuel s chain new).1.Canonical := by
  induction fuel generalizing s chain new with
  | zero => exact h1
  | succ fuel ih =>
    unfold extendChain
    split
    · exact h1
    · cases ht : takeAu s n num chain with
      | none => exact h1
      | some r => exact ih r.2 _ _ (takeAu_canon _ _ _ _ h1 _ ht)

theorem dropDue_canon (s : State) (n why : Nat) (h1 : s.Canonical) : (dropDue s n why).Canonical := by
  unfold dropDue
  grind [mk_canon, modMag_canon]

theorem writeMap_canon (s : State) (n : Nat) (chain new : List Nat) (h1 : s.Canonical) : (writeMap s n chain new).Canonical := by
  unfold writeMap
  grind [mk_canon, addOp_canon, modMag_canon, showSpace_canon]

theorem placeRecord_canon (s : State) (c : Clip) (n : Nat) (r : RecReq) (h1 : s.Canonical) :
    (placeRecord s c n r).Canonical := by
  unfold placeRecord
  cases memOf c n with
  | none => exact h1
  | some m =>
    simp only
    have he := extendChain_canon n c.num (m.next + (1 + ceilDiv r.metaB.length 4096 + ceilDiv r.ess.length 4096) +
      b2n ((m.ents.length + 1) % 96 == 0) + 2) ((1 + ceilDiv r.metaB.length 4096 + ceilDiv r.ess.length 4096) / auBlocks + 2) s
      m.chain [] h1
    generalize extendChain n c.num (m.next + (1 + ceilDiv r.metaB.length 4096 + ceilDiv r.ess.length 4096) +
      b2n ((m.ents.length + 1) % 96 == 0) + 2) ((1 + ceilDiv r.metaB.length 4096 + ceilDiv r.ess.length 4096) / auBlocks + 2) s
      m.chain [] = e at he
    have hw := writeMap_canon _ n e.2.1 e.2.2.1 he
    have hd : (if e.2.2.2 then writeMap e.1 n e.2.1 e.2.2.1 else
        dropDue (setF (writeMap e.1 n e.2.1 e.2.2.1) (R.MAG_STAT_LOWSPACE n)) n 4).Canonical :=
      ite_canon hw (dropDue_canon _ _ _ (setF_canon _ _ hw))
    exact ite_canon (addOp_canon _ _ _ _ _ (modMem_canon _ _ _ _ hd)) (addOp_canon _ _ _ _ _ (modMem_canon _ _ _ _ hd))

theorem modFrame_canon (s : State) (t : Nat) (f : Frame → Frame) (h1 : s.Canonical) : (modFrame s t f).Canonical := by
  unfold modFrame
  grind [mk_canon]

theorem modClipFrame_canon (s : State) (t clip : Nat) (f : ClipFrame → ClipFrame) (h1 : s.Canonical) : (modClipFrame s t clip f).Canonical := by
  unfold modClipFrame
  grind [mk_canon, modFrame_canon]

theorem clipIndex_canon (s : State) (id n : Nat) (h1 : s.Canonical) : (clipIndex s id n).Canonical := by
  unfold clipIndex
  grind [mk_canon, addOp_canon]

theorem issueReady_canon (s : State) (n : Nat) (r : Ready) (h1 : s.Canonical) : (issueReady s n r).Canonical := by
  unfold issueReady
  grind [mk_canon, modMag_canon]

theorem startWhip1_canon (s : State) (c : Clip) (n : Nat) (m : ClipMem) (h1 : s.Canonical) : (startWhip1 s c n m).Canonical := by
  unfold startWhip1
  grind [mk_canon, addOp_canon, issueReady_canon, modMem_canon]

theorem startWhip2_canon (s : State) (c : Clip) (n : Nat) (m : ClipMem) (h1 : s.Canonical) : (startWhip2 s c n m).Canonical := by
  unfold startWhip2
  grind [mk_canon, addOp_canon, headerSteps_canon, modMem_canon, modSess_canon]

theorem clipProgress_canon (s : State) (id : Nat) (h1 : s.Canonical) : (clipProgress s id).Canonical := by
  unfold clipProgress
  grind [mk_canon, foldl_canon, modClip_canon, startWhip1_canon, startWhip2_canon]

theorem clipsProgress_canon (s : State) (h1 : s.Canonical) : (clipsProgress s).Canonical := by
  unfold clipsProgress
  grind [mk_canon, clipProgress_canon, foldl_canon]

theorem whipClip_canon (s : State) (id : Nat) (h1 : s.Canonical) : (whipClip s id).Canonical := by
  unfold whipClip
  grind [mk_canon, clipProgress_canon, modClip_canon]

theorem renewReady_canon (s : State) (n : Nat) (h1 : s.Canonical) : (renewReady s n).Canonical := by
  unfold renewReady
  grind [mk_canon, modMag_canon]

theorem dropReady_canon (s : State) (id n : Nat) (h1 : s.Canonical) : (dropReady s id n).Canonical := by
  unfold dropReady
  grind [mk_canon, modMag_canon]

end Sys2Proof.Machine
end

