-- ==== Sys2Proof/Laws/CanonSbdCore.lean ====
section
/-! SUPPORT. That the operations of Machine/SbdCore.lean keep the canonical form of a state (Safety.lean). -/

namespace Sys2Proof.Machine

theorem modSbd_canon (s : State) (n : Nat) (f : SbdSt → SbdSt) (h1 : s.Canonical) : (modSbd s n f).Canonical := by
  unfold modSbd
  grind [mk_canon]

theorem addXfer_canon (s : State) (n : Nat) (use : SbdUse) (dev addr : Nat) (write : List Byte) (read : Nat) (h1 : s.Canonical) : (addXfer s n use dev addr write read).Canonical := by
  unfold addXfer
  grind [mk_canon, modSbd_canon]

theorem idCompare_canon (s : State) (n : Nat) (sn : List Byte) (nsze : Nat) (h1 : s.Canonical) : (idCompare s n sn nsze).Canonical := by
  unfold idCompare
  grind [mk_canon, raise_canon, setF_canon]

theorem lifeEu_canon (s : State) (n duw : Nat) (h1 : s.Canonical) : (lifeEu s n duw).2.Canonical := by
  unfold lifeEu
  grind [mk_canon, useFree_canon]

theorem lifeUpdate_canon (s : State) (n pct duw : Nat) (h1 : s.Canonical) : (lifeUpdate s n pct duw).Canonical := by
  unfold lifeUpdate
  grind [mk_canon, clrF_canon, fault_canon, lifeEu_canon, modSbd_canon, put_canon, raise_canon, setF_canon]

theorem wearPut_canon (s : State) (n i : Nat) (e : List Byte) (h1 : s.Canonical) : (wearPut s n i e).Canonical := by
  unfold wearPut
  grind [mk_canon, addXfer_canon, modSbd_canon]

theorem wearOpened_canon (s : State) (n : Nat) (es : List (List Byte)) (h1 : s.Canonical) : (wearOpened s n es).Canonical := by
  unfold wearOpened
  grind [mk_canon, modSbd_canon, wearPut_canon]

theorem wearClosed_canon (s : State) (n : Nat) (h1 : s.Canonical) : (wearClosed s n).Canonical := by
  unfold wearClosed
  grind [mk_canon, modSbd_canon, wearPut_canon]

end Sys2Proof.Machine
end

