-- ==== Sys2Proof/Laws/CanonMagRun.lean ====
section
/-! SUPPORT. That the operations of Machine/MagRun.lean keep the canonical form of a state (Safety.lean). -/

namespace Sys2Proof.Machine

theorem portIdle_canon (s : State) (n : Nat) (h1 : s.Canonical) : (portIdle s n).Canonical := by
  unfold portIdle
  grind [mk_canon, clrF_canon, modMag_canon, put_canon]

theorem openEnd_canon (s : State) (n : Nat) (c : RingCmd) (code count : Nat) (h1 : s.Canonical) : (openEnd s n c code count).Canonical := by
  unfold openEnd
  grind [mk_canon, complete_canon, portIdle_canon]

theorem portFail_canon (s : State) (n : Nat) (h1 : s.Canonical) : (portFail s n).Canonical := by
  unfold portFail
  grind [mk_canon, fault_canon, modMag_canon, put_canon, raise_canon]

theorem freeRec_canon (s : State) (r : RecReq) (h1 : s.Canonical) : (freeRec s r).Canonical := by
  unfold freeRec
  grind [mk_canon, releaseAll_canon]

theorem setAnc_canon (s : State) (n v : Nat) (h1 : s.Canonical) : (setAnc s n v).Canonical := by
  unfold setAnc
  grind [mk_canon]

theorem dormAbort_canon (s : State) (block kind : Nat) (h1 : s.Canonical) : (dormAbort s block kind).Canonical := by
  unfold dormAbort
  grind [mk_canon, bump_canon, put_canon, setF_canon]

theorem opFail_canon (s : State) (n : Nat) (o : MagOp) (h1 : s.Canonical) : (opFail s n o).Canonical := by
  unfold opFail
  grind [mk_canon, complete_canon, dormAbort_canon, dropMop_canon, modMag_canon, openEnd_canon, portIdle_canon, setAnc_canon, spoolDone_canon]

theorem cmdFail_canon (s : State) (n : Nat) (c : NvCmd) (o : MagOp) (h1 : s.Canonical) : (cmdFail s n c o).Canonical := by
  unfold cmdFail
  grind [mk_canon, opFail_canon, portFail_canon]

theorem openHdrs_canon (s : State) (n : Nat) (o : MagOp) (c : RingCmd) (h1 : s.Canonical) : (openHdrs s n o c).Canonical := by
  unfold openHdrs
  grind [mk_canon, dropMop_canon, modMag_canon, modMop_canon, openEnd_canon, prepend_canon]

theorem openTabs_canon (s : State) (n : Nat) (o : MagOp) (h1 : s.Canonical) : (openTabs s n o).Canonical := by
  unfold openTabs
  grind [mk_canon, modSess_canon]

theorem walkNext_canon (s : State) (n id : Nat) (todo : List Nat) (count : Nat) (h1 : s.Canonical) : (walkNext s n id todo count).Canonical := by
  unfold walkNext
  grind [mk_canon, modMop_canon, prepend_canon]

theorem walkRead_canon (s : State) (n id : Nat) (w : RecWalk) (h1 : s.Canonical) : (walkRead s n id w).Canonical := by
  unfold walkRead
  grind [mk_canon, prepend_canon]

theorem walkClose_canon (s : State) (n id : Nat) (w : RecWalk) (pre : List MagStep) (last frames footer : Nat) (h1 : s.Canonical) : (walkClose s n id w pre last frames footer).Canonical := by
  unfold walkClose
  grind [mk_canon, headerSteps_canon, modSess_canon, prepend_canon]

theorem walkFoot_canon (s : State) (n id : Nat) (w : RecWalk) (pre : List MagStep) (h1 : s.Canonical) : (walkFoot s n id w pre).Canonical := by
  unfold walkFoot
  grind [mk_canon, walkClose_canon]

theorem walkEnd_canon (s : State) (n id : Nat) (w : RecWalk) (h1 : s.Canonical) : (walkEnd s n id w).Canonical := by
  unfold walkEnd
  grind [mk_canon, extendChain_canon, opFail_canon, walkFoot_canon]

theorem walkStep_canon (s : State) (n : Nat) (o : MagOp) (w : RecWalk) (h1 : s.Canonical) : (walkStep s n o w).Canonical := by
  unfold walkStep
  grind [mk_canon, prepend_canon, walkClose_canon, walkEnd_canon, walkNext_canon, walkRead_canon]

theorem openDone_canon (s : State) (n : Nat) (o : MagOp) (c : RingCmd) (h1 : s.Canonical) : (openDone s n o c).Canonical := by
  unfold openDone
  grind [mk_canon, addOp_canon, clrF_canon, dropMop_canon, idCompare_canon, modMag_canon, modSbd_canon, openEnd_canon, put_canon, showSpace_canon]

theorem recHeader_canon (s : State) (n : Nat) (o : MagOp) (r : RecReq) (h1 : s.Canonical) : (recHeader s n o r).Canonical := by
  unfold recHeader
  grind [mk_canon, prepend_canon]

theorem recDone_canon (s : State) (n : Nat) (o : MagOp) (r : RecReq) (h1 : s.Canonical) : (recDone s n o r).Canonical := by
  unfold recDone
  grind [mk_canon, clipIndex_canon, clipProgress_canon, dropMop_canon, freeRec_canon, modClip_canon, modClipFrame_canon, modMem_canon, spoolDone_canon]

theorem indexDone_canon (s : State) (n id : Nat) (h1 : s.Canonical) : (indexDone s n id).Canonical := by
  unfold indexDone
  grind [mk_canon, clipIndex_canon, clipProgress_canon, modMem_canon]

theorem rfEnd_canon (s : State) (n : Nat) (o : MagOp) (sp : SpoolReq) (status : Nat) (gap : Bool) (bytes : Nat) (h1 : s.Canonical) : (rfEnd s n o sp status gap bytes).Canonical := by
  unfold rfEnd
  grind [mk_canon, dropMop_canon, spoolDone_canon]

theorem noteRead_canon (s : State) (p : Nat) (h : List Byte) (h1 : s.Canonical) : (noteRead s p h).Canonical := by
  unfold noteRead
  grind [mk_canon]

theorem rfStep_canon (s : State) (n : Nat) (o : MagOp) (sp : SpoolReq) (a : MagAct) (h1 : s.Canonical) :
    (rfStep s n o sp a).Canonical := by
  unfold rfStep
  cases a <;> grind (splits := 30) [rfEnd_canon, prepend_canon, noteRead_canon, poolAlloc_canon, fsWrite_canon]

theorem portReturn_canon (s : State) (n : Nat) (h1 : s.Canonical) : (portReturn s n).Canonical := by
  unfold portReturn
  grind [mk_canon, bumpBy_canon, modMag_canon, put_canon, raise_canon]

theorem comeBackDone_canon (s : State) (n : Nat) (h1 : s.Canonical) : (comeBackDone s n).Canonical := by
  unfold comeBackDone
  grind [mk_canon, modMag_canon, portReturn_canon]

theorem gotQueues_canon (s : State) (n : Nat) (o : MagOp) (h1 : s.Canonical) : (gotQueues s n o).Canonical := by
  unfold gotQueues
  grind [mk_canon, prepend_canon, put_canon]

theorem magAct_canon (s : State) (n : Nat) (o : MagOp) (a : MagAct) (h1 : s.Canonical) : (magAct s n o a).Canonical := by
  unfold magAct
  grind [mk_canon, addXfer_canon, bumpBy_canon, clipProgress_canon, comeBackDone_canon, complete_canon, dropMop_canon, dropReady_canon, fsWrite_canon, gotQueues_canon, headerSteps_canon, indexDone_canon, lifeUpdate_canon, modMag_canon, modMem_canon, opFail_canon, openDone_canon, openHdrs_canon, openTabs_canon, portIdle_canon, prepend_canon, put_canon, raise_canon, recDone_canon, recHeader_canon, rfStep_canon, setAnc_canon, spoolDone_canon, startOp_canon, walkNext_canon, walkStep_canon, wearClosed_canon]

theorem fuaAll_canon (s : State) (n : Nat) (h1 : s.Canonical) : (fuaAll s n).Canonical := by
  unfold fuaAll
  grind [mk_canon, clrF_canon, raise_canon, setF_canon]

theorem cacheFlush_canon (s : State) (n : Nat) (h1 : s.Canonical) : (cacheFlush s n).Canonical := by
  unfold cacheFlush
  grind [mk_canon, addOp_canon]

theorem magStep_canon (s : State) (n : Nat) (o : MagOp) (h1 : s.Canonical) : (magStep s n o).Canonical := by
  unfold magStep
  grind [mk_canon, addCmd_canon, cacheFlush_canon, dropMop_canon, foldl_canon, magAct_canon, modMop_canon]

theorem magRun_canon (fuel : Nat) (s : State) (h1 : s.Canonical) : (magRun fuel s).Canonical := by
  induction fuel generalizing s with
  | zero => exact h1
  | succ fuel ih =>
    unfold magRun
    split
    · exact h1
    · exact ih _ (magStep_canon _ _ _ h1)


theorem portLose_canon (s : State) (n t : Nat) (h1 : s.Canonical) : (portLose s n t).Canonical := by
  unfold portLose
  grind [mk_canon, bump_canon, foldl_canon, modMag_canon, opFail_canon, put_canon, raise_canon]

theorem rehome_canon (s : State) (held : Bool) (r : RecReq) (h1 : s.Canonical) : (rehome s held r).Canonical := by
  unfold rehome
  grind [mk_canon, bump_canon, freeRec_canon, modClipFrame_canon, placeRecord_canon, spoolDone_canon]

theorem dropPort_canon (s : State) (n t : Nat) (h1 : s.Canonical) : (dropPort s n t).Canonical := by
  unfold dropPort
  grind [mk_canon, addOp_canon, fault_canon, foldl_canon, modMag_canon, opFail_canon, portIdle_canon, put_canon, raise_canon, rehome_canon]

theorem magDrops_canon (s : State) (h1 : s.Canonical) : (magDrops s).Canonical := by
  unfold magDrops
  grind [mk_canon, clipsProgress_canon, dropPort_canon, fault_canon, foldl_canon]

end Sys2Proof.Machine
end

