-- ==== Sys2Proof/Laws/CanonHub.lean ====
section
/-! SUPPORT. That the operations of Machine/Hub.lean keep the canonical form of a state (Safety.lean). -/

namespace Sys2Proof.Machine

theorem msixSet_canon (s : State) (p v w x : Nat) (h1 : s.Canonical) : (msixSet s p v w x).Canonical := by
  unfold msixSet
  grind [mk_canon]

theorem msixMsg_canon (s : State) (p v : Nat) (h1 : s.Canonical) : (msixMsg s p v).Canonical := by
  unfold msixMsg
  grind [mk_canon]

theorem msixSend_canon (s : State) (p v : Nat) (h1 : s.Canonical) : (msixSend s p v).Canonical := by
  unfold msixSend
  grind [mk_canon, msixMsg_canon]

theorem msixFlush_canon (s : State) (p v : Nat) (h1 : s.Canonical) : (msixFlush s p v).Canonical := by
  unfold msixFlush
  grind [mk_canon, msixMsg_canon]

theorem msixMask_canon (s : State) (p v : Nat) (m : Bool) (h1 : s.Canonical) : (msixMask s p v m).Canonical := by
  unfold msixMask
  grind [mk_canon, msixFlush_canon]

theorem msixFlushAll_canon (s : State) (p : Nat) (h1 : s.Canonical) : (msixFlushAll s p).Canonical := by
  unfold msixFlushAll
  grind [mk_canon, forN_canon, msixFlush_canon]

theorem msixControl_canon (s : State) (p : Nat) (en hush : Bool) (h1 : s.Canonical) : (msixControl s p en hush).Canonical := by
  unfold msixControl
  grind [mk_canon, msixFlushAll_canon]

theorem assignSrc_canon (s : State) (src : Nat) (h1 : s.Canonical) : (assignSrc s src).Canonical := by
  unfold assignSrc
  grind [mk_canon, msixSend_canon]

theorem withdraw_canon (s : State) (src : Nat) (h1 : s.Canonical) : (withdraw s src).Canonical := by
  unfold withdraw
  grind [mk_canon]

theorem pendClr_canon (s : State) (src : Nat) (h1 : s.Canonical) : (pendClr s src).Canonical := by
  unfold pendClr
  grind [mk_canon, put_canon, withdraw_canon]

theorem maskSet_canon (s : State) (src : Nat) (h1 : s.Canonical) : (maskSet s src).Canonical := by
  unfold maskSet
  grind [mk_canon, put_canon, withdraw_canon]

theorem maskClr_canon (s : State) (src : Nat) (h1 : s.Canonical) : (maskClr s src).Canonical := by
  unfold maskClr
  grind [mk_canon, put_canon]

theorem claimSrc_canon (s : State) (t src : Nat) (h1 : s.Canonical) : (claimSrc s t src).Canonical := by
  unfold claimSrc
  grind [mk_canon, put_canon]

theorem claimRead_canon (s : State) (t : Nat) (h1 : s.Canonical) : (claimRead s t).Canonical := by
  unfold claimRead
  grind [mk_canon, claimSrc_canon]

theorem endSrc_canon (s : State) (src : Nat) (h1 : s.Canonical) : (endSrc s src).Canonical := by
  unfold endSrc
  grind [mk_canon, put_canon]

theorem reassign_canon (s : State) (src : Nat) (h1 : s.Canonical) : (reassign s src).Canonical := by
  unfold reassign
  grind [mk_canon, assignSrc_canon, withdraw_canon]

theorem reassignAll_canon (s : State) (h1 : s.Canonical) : (reassignAll s).Canonical := by
  unfold reassignAll
  grind [mk_canon, forN_canon, reassign_canon]

theorem setTarget_canon (s : State) (t : Nat) (en : Bool) (h1 : s.Canonical) : (setTarget s t en).Canonical := by
  unfold setTarget
  grind [mk_canon, put_canon, reassignAll_canon]

theorem pwHubErr_canon (s : State) (p : Nat) (h1 : s.Canonical) : (pwHubErr s p).Canonical := by
  unfold pwHubErr
  grind [mk_canon, bump_canon]

theorem inWindow_canon (s : State) (p : Nat) (s' : State) (h1 : s.Canonical) (h3 : s'.Canonical) : (inWindow s p s').Canonical := by
  unfold inWindow
  grind [mk_canon]

theorem execHubRaise_canon (src : Source) (s : State) (h2 : s.Canonical) (t' : State) (ht' : execHubRaise src s = .next t') : t'.Canonical := by
  unfold execHubRaise at *
  grind [mk_canon, answered_canon, raise_canon]

theorem execHubPendSet_canon (src : Source) (s : State) (h2 : s.Canonical) (t' : State) (ht' : execHubPendSet src s = .next t') : t'.Canonical := by
  unfold execHubPendSet at *
  grind [mk_canon, answered_canon, raise_canon]

theorem execHubPendClr_canon (src : Source) (s : State) (h2 : s.Canonical) (t' : State) (ht' : execHubPendClr src s = .next t') : t'.Canonical := by
  unfold execHubPendClr at *
  grind [mk_canon, answered_canon, pendClr_canon]

theorem execHubMaskSet_canon (src : Source) (s : State) (h2 : s.Canonical) (t' : State) (ht' : execHubMaskSet src s = .next t') : t'.Canonical := by
  unfold execHubMaskSet at *
  grind [mk_canon, answered_canon, maskSet_canon]

theorem execHubMaskClr_canon (src : Source) (s : State) (h2 : s.Canonical) (t' : State) (ht' : execHubMaskClr src s = .next t') : t'.Canonical := by
  unfold execHubMaskClr at *
  grind [mk_canon, answered_canon, maskClr_canon]

theorem execHubAssign_canon (src : Source) (s : State) (h2 : s.Canonical) (t' : State) (ht' : execHubAssign src s = .next t') : t'.Canonical := by
  unfold execHubAssign at *
  grind [mk_canon, assignSrc_canon]

theorem execHubClaim_canon (tgt : Target) (s : State) (h2 : s.Canonical) (t' : State) (ht' : execHubClaim tgt s = .next t') : t'.Canonical := by
  unfold execHubClaim at *
  grind [mk_canon, answered_canon, claimRead_canon]

theorem execHubEoi_canon (tgt : Target) (src : Source) (s : State) (h3 : s.Canonical) (t' : State) (ht' : execHubEoi tgt src s = .next t') : t'.Canonical := by
  unfold execHubEoi at *
  grind [mk_canon, answered_canon, bump_canon, endSrc_canon, raise_canon]

theorem execHubRouteWrite_canon (src : Source) (v : Word32) (s : State) (h3 : s.Canonical) (t' : State) (ht' : execHubRouteWrite src v s = .next t') : t'.Canonical := by
  unfold execHubRouteWrite at *
  grind [mk_canon, answered_canon, put_canon, reassign_canon]

theorem execHubTgtCtlWrite_canon (tgt : Target) (v : Word32) (s : State) (h3 : s.Canonical) (t' : State) (ht' : execHubTgtCtlWrite tgt v s = .next t') : t'.Canonical := by
  unfold execHubTgtCtlWrite at *
  grind [mk_canon, answered_canon, put_canon, setTarget_canon]

theorem execMsixVectorUnmask_canon (p : Part) (vec : Fin 32) (s : State) (h3 : s.Canonical) (t' : State) (ht' : execMsixVectorUnmask p vec s = .next t') : t'.Canonical := by
  unfold execMsixVectorUnmask at *
  grind [mk_canon, answered_canon, inWindow_canon, msixMask_canon]

theorem execPwHubRaise_canon (p : Part) (src : Source) (s : State) (h3 : s.Canonical) (t' : State) (ht' : execPwHubRaise p src s = .next t') : t'.Canonical := by
  unfold execPwHubRaise at *
  grind [mk_canon, answered_canon, inWindow_canon, pwHubErr_canon, raise_canon]

theorem execPwHubPendClr_canon (p : Part) (src : Source) (s : State) (h3 : s.Canonical) (t' : State) (ht' : execPwHubPendClr p src s = .next t') : t'.Canonical := by
  unfold execPwHubPendClr at *
  grind [mk_canon, answered_canon, inWindow_canon, pendClr_canon, pwHubErr_canon]

theorem execPwHubMaskSet_canon (p : Part) (src : Source) (s : State) (h3 : s.Canonical) (t' : State) (ht' : execPwHubMaskSet p src s = .next t') : t'.Canonical := by
  unfold execPwHubMaskSet at *
  grind [mk_canon, answered_canon, inWindow_canon, maskSet_canon, pwHubErr_canon]

theorem execPwHubMaskClr_canon (p : Part) (src : Source) (s : State) (h3 : s.Canonical) (t' : State) (ht' : execPwHubMaskClr p src s = .next t') : t'.Canonical := by
  unfold execPwHubMaskClr at *
  grind [mk_canon, answered_canon, inWindow_canon, maskClr_canon, pwHubErr_canon]

theorem execPwHubClaim_canon (p : Part) (s : State) (h2 : s.Canonical) (t' : State) (ht' : execPwHubClaim p s = .next t') : t'.Canonical := by
  unfold execPwHubClaim at *
  grind [mk_canon, answered_canon, claimRead_canon, inWindow_canon]

theorem execPwHubEoi_canon (p : Part) (src : Source) (s : State) (h3 : s.Canonical) (t' : State) (ht' : execPwHubEoi p src s = .next t') : t'.Canonical := by
  unfold execPwHubEoi at *
  grind [mk_canon, answered_canon, endSrc_canon, inWindow_canon, pwHubErr_canon]

end Sys2Proof.Machine
end

