-- ==== Sys2Proof/Laws/CanonMoverCore.lean ====
section
/-! SUPPORT. That the operations of Machine/MoverCore.lean keep the canonical form of a state (Safety.lean). -/

namespace Sys2Proof.Machine

theorem modCh_canon (s : State) (c : Nat) (f : MovCh → MovCh) (h1 : s.Canonical) : (modCh s c f).Canonical := by
  unfold modCh
  grind [mk_canon]

theorem chWriteProg_canon (s : State) (c a : Nat) (bs : List Byte) (h1 : s.Canonical) : (chWriteProg s c a bs).Canonical := by
  unfold chWriteProg
  grind [mk_canon, fsWrite_canon, ssmWrite_canon, startOp_canon]

theorem chReport_canon (s : State) (c : Nat) (h1 : s.Canonical) : (chReport s c).Canonical := by
  unfold chReport
  grind [mk_canon, chWriteProg_canon, modCh_canon]

theorem chEnd_canon (s : State) (c status idx : Nat) (h1 : s.Canonical) : (chEnd s c status idx).Canonical := by
  unfold chEnd
  grind [mk_canon, modCh_canon]

theorem chFail_canon (s : State) (c status : Nat) (h1 : s.Canonical) : (chFail s c status).Canonical := by
  unfold chFail
  grind [mk_canon, chEnd_canon]

theorem chFinish_canon (s : State) (c : Nat) (h1 : s.Canonical) : (chFinish s c).Canonical := by
  unfold chFinish
  grind [mk_canon, complete_canon, foldl_canon, modCh_canon, put_canon, raise_canon]

theorem chReceive_canon (s : State) (c : Nat) (i : List Byte) (h1 : s.Canonical) : (chReceive s c i).Canonical := by
  unfold chReceive
  grind [mk_canon, chFail_canon, modCh_canon]

theorem chFetch_canon (s : State) (c : Nat) (h1 : s.Canonical) : (chFetch s c).Canonical := by
  unfold chFetch
  grind [mk_canon, chFail_canon, chReceive_canon, modCh_canon, startOp_canon]

theorem chGoto_canon (s : State) (c idx : Nat) (h1 : s.Canonical) : (chGoto s c idx).Canonical := by
  unfold chGoto
  grind [mk_canon, chEnd_canon, chFetch_canon, modCh_canon, put_canon]

theorem chNext_canon (s : State) (c : Nat) (h1 : s.Canonical) : (chNext s c).Canonical := by
  unfold chNext
  grind [mk_canon, chFail_canon, chGoto_canon]

theorem chStart_canon (s : State) (c space base lo hi : Nat) (cmd : Option RingCmd) (h1 : s.Canonical) : (chStart s c space base lo hi cmd).Canonical := by
  unfold chStart
  grind [mk_canon, chFetch_canon, modCh_canon, put_canon]

theorem sideWrite_canon (s : State) (o c sp a : Nat) (bs : List Byte) (h1 : s.Canonical) : (sideWrite s o c sp a bs).Canonical := by
  unfold sideWrite
  grind [mk_canon, fsWrite_canon, ssmWrite_canon, startOp_canon]

theorem mvDeliver_canon (s : State) (c : Nat) (m : MvMove) (bs : List Byte) (h1 : s.Canonical) : (mvDeliver s c m bs).Canonical := by
  unfold mvDeliver
  grind [mk_canon, bumpBy_canon, chFail_canon, chNext_canon, modCh_canon, poolRelease_canon, sideWrite_canon]

theorem mvDoMove_canon (s : State) (c : Nat) (i : List Byte) (h1 : s.Canonical) : (mvDoMove s c i).Canonical := by
  unfold mvDoMove
  grind [mk_canon, chFail_canon, modCh_canon, mvDeliver_canon, poolAdd_canon, startOp_canon]

theorem mvDoLoop_canon (s : State) (c : Nat) (i : List Byte) (h1 : s.Canonical) : (mvDoLoop s c i).Canonical := by
  unfold mvDoLoop
  grind [mk_canon, chFail_canon, chGoto_canon, chNext_canon, modCh_canon]

theorem chWaiting_canon (s : State) (c t : Nat) (h1 : s.Canonical) : (chWaiting s c t).Canonical := by
  unfold chWaiting
  grind [mk_canon, modCh_canon, put_canon]

theorem mvDoWaitSsm_canon (s : State) (c t : Nat) (i : List Byte) (h1 : s.Canonical) : (mvDoWaitSsm s c t i).Canonical := by
  unfold mvDoWaitSsm
  grind [mk_canon, chFail_canon, chNext_canon, chWaiting_canon]

theorem mvSignalAct_canon (s : State) (c : Nat) (i : List Byte) (h1 : s.Canonical) : (mvSignalAct s c i).Canonical := by
  unfold mvSignalAct
  grind [mk_canon, chEnd_canon, chFail_canon, chNext_canon, raise_canon, ssmWrite_canon]

theorem mvDoSignal_canon (s : State) (c : Nat) (i : List Byte) (h1 : s.Canonical) : (mvDoSignal s c i).Canonical := by
  unfold mvDoSignal
  grind [mk_canon, modCh_canon, mvSignalAct_canon]

theorem chProgress_canon (s : State) (c : Nat) (h1 : s.Canonical) : (chProgress s c).Canonical := by
  unfold chProgress
  grind [mk_canon, chFinish_canon, chNext_canon, chReport_canon, modCh_canon, mvSignalAct_canon]

theorem chAllProgress_canon (s : State) (h1 : s.Canonical) : (chAllProgress s).Canonical := by
  unfold chAllProgress
  grind [mk_canon, chProgress_canon, forN_canon]

theorem chKillOps_canon (s : State) (c : Nat) (h1 : s.Canonical) : (chKillOps s c).Canonical := by
  unfold chKillOps
  grind [mk_canon]

theorem movStopAll_canon (s : State) (h1 : s.Canonical) : (movStopAll s).Canonical := by
  unfold movStopAll
  grind [mk_canon, chFail_canon, chKillOps_canon, forN_canon]

theorem movBusError_canon (s : State) (addr : Nat) (h1 : s.Canonical) : (movBusError s addr).Canonical := by
  unfold movBusError
  grind [mk_canon, bump_canon, fault_canon, movStopAll_canon, put_canon, put2_canon, raise_canon]

theorem chReset_canon (s : State) (c : Nat) (h1 : s.Canonical) : (chReset s c).Canonical := by
  unfold chReset
  grind [mk_canon, chKillOps_canon, modCh_canon, put_canon, withdraw_canon]

end Sys2Proof.Machine
end

