-- ==== Sys2Proof/Laws/CanonModeCore.lean ====
section
/-! SUPPORT. That the operations of Machine/ModeCore.lean keep the canonical form of a state (Safety.lean). -/

namespace Sys2Proof.Machine

theorem modeRefuse_canon (s : State) (m code : Nat) (h1 : s.Canonical) : (modeRefuse s m code).Canonical := by
  unfold modeRefuse
  grind [mk_canon, bump_canon, put_canon, raise_canon]

theorem setTransition_canon (s : State) (st target : Nat) (h1 : s.Canonical) : (setTransition s st target).Canonical := by
  unfold setTransition
  grind [mk_canon, put_canon]

theorem noTransition_canon (s : State) (h1 : s.Canonical) : (noTransition s).Canonical := by
  unfold noTransition
  grind [mk_canon, leave_canon, setTransition_canon]

theorem openMember_canon (c : Clip) (s : State) (n : Nat) (h2 : s.Canonical) : (openMember c s n).Canonical := by
  unfold openMember
  cases h : takeAu s n c.num [] with
  | none => exact h2
  | some r =>
    have h3 := takeAu_canon _ _ _ _ h2 _ h
    obtain ⟨u, s⟩ := r
    simp only at h3
    exact modMem_canon _ _ _ _ (addOp_canon _ _ _ _ _ (modMag_canon _ _ _ (headerSteps_canon _ _ true
      (showSpace_canon _ _ (modSess_canon _ _ _ h3)))))

theorem openClip_canon (s : State) (q p : Nat) (proxy alaz : Bool) (ports : List Nat) (h1 : s.Canonical) : (openClip s q p proxy alaz ports).Canonical := by
  unfold openClip
  grind [mk_canon, foldl_canon, openMember_canon]

theorem openClips_canon (s : State) (m : Nat) (h1 : s.Canonical) : (openClips s m).Canonical := by
  unfold openClips
  grind [mk_canon, foldl_canon, openClip_canon]

theorem modeProgress_canon (s : State) (h1 : s.Canonical) : (modeProgress s).Canonical := by
  unfold modeProgress
  grind [mk_canon, foldl_canon, put_canon, whipClip_canon]

theorem modeLast_canon (s : State) (reason a b : Nat) (h1 : s.Canonical) : (modeLast s reason a b).Canonical := by
  unfold modeLast
  grind [mk_canon, put_canon]

theorem injStop_canon (s : State) (h1 : s.Canonical) : (injStop s).Canonical := by
  unfold injStop
  grind [mk_canon, clrF_canon, forN_canon]

theorem injDisarm_canon (s : State) (h1 : s.Canonical) : (injDisarm s).Canonical := by
  unfold injDisarm
  grind [mk_canon, injStop_canon]

theorem injMode_canon (s : State) (h1 : s.Canonical) : (injMode s).Canonical := by
  unfold injMode
  grind [mk_canon, injStop_canon, setF_canon]

theorem setMode_canon (s : State) (m reason : Nat) (h1 : s.Canonical) : (setMode s m reason).Canonical := by
  unfold setMode
  grind [mk_canon, injMode_canon, modeLast_canon, noTransition_canon, put_canon, put2_canon]

theorem haltByMode_canon (s : State) (q p : Nat) (h1 : s.Canonical) : (haltByMode s q p).Canonical := by
  unfold haltByMode
  grind [mk_canon, drainAll_canon, modPair_canon, modSeq_canon, put_canon, raiseP_canon]

theorem haltExcluded_canon (s : State) (h1 : s.Canonical) : (haltExcluded s).Canonical := by
  unfold haltExcluded
  grind [mk_canon, forN_canon, haltByMode_canon]

theorem queueReadmit_canon (s : State) (h1 : s.Canonical) : (queueReadmit s).Canonical := by
  unfold queueReadmit
  grind [mk_canon, forN_canon]

end Sys2Proof.Machine
end

