-- ==== Sys2Proof/Laws/CanonSeqDevCore.lean ====
section
/-! SUPPORT. That the operations of Machine/SeqDevCore.lean keep the canonical form of a state (Safety.lean). -/

namespace Sys2Proof.Machine

theorem orFault_canon (s : State) (q p cause a : Nat) (k : State → State) (h1 : s.Canonical) (h6 : ∀  (s : State), s.Canonical → (k  s).Canonical) : (orFault s q p cause a k).Canonical := by
  unfold orFault
  grind [mk_canon, progFault_canon]

theorem spoolPass_canon (s : State) (sq p : Nat) (r : DescRef) (q : Nat) (d : List Byte) (h1 : s.Canonical) : (spoolPass s sq p r q d).2.Canonical := by
  unfold spoolPass
  grind [mk_canon, releaseAll_canon, spoolRecord_canon, tagIssue_canon]

theorem descPass_canon (s : State) (q p rd : Nat) (r : DescRef) (sel : Option Nat) (d : List Byte) (cost : Nat) (h1 : s.Canonical) : (descPass s q p rd r sel d cost).Canonical := by
  unfold descPass
  grind [mk_canon, issueJob_canon, seqWrite_canon, spoolPass_canon]

theorem stallDone_canon (s : State) (op : Nat) (data : List Byte) (h1 : s.Canonical) : (stallDone s op data).Canonical := by
  unfold stallDone
  grind [mk_canon, descPass_canon, modPair_canon, pick_canon, seqNext_canon, seqWrite_canon]

theorem stallFail_canon (s : State) (op cause : Nat) (h1 : s.Canonical) : (stallFail s op cause).Canonical := by
  unfold stallFail
  grind [mk_canon, charge_canon, progFault_canon]

theorem stallTick_canon (s : State) (q p : Nat) (h1 : s.Canonical) : (stallTick s q p).Canonical := by
  unfold stallTick
  grind [mk_canon, charge_canon, modPair_canon]

theorem stallAbort_canon (s : State) (q p : Nat) (h1 : s.Canonical) : (stallAbort s q p).Canonical := by
  unfold stallAbort
  grind [mk_canon, modPair_canon, pick_canon, seqWrite_canon]

end Sys2Proof.Machine
end

