-- ==== Sys2Proof/Laws/CanonAnchorCore.lean ====
section
/-! SUPPORT. That the operations of Machine/AnchorCore.lean keep the canonical form of a state (Safety.lean). -/

namespace Sys2Proof.Machine

theorem ancSkip_canon (s : State) (n : Nat) (h1 : s.Canonical) : (ancSkip s n).Canonical := by
  unfold ancSkip
  grind [mk_canon, modMag_canon, put_canon, setAnc_canon]

theorem ancPort_canon (s : State) (n : Nat) (h1 : s.Canonical) : (ancPort s n).Canonical := by
  unfold ancPort
  grind [mk_canon, addOp_canon, ancSkip_canon, modMag_canon, setAnc_canon]

theorem ancPort2_canon (s : State) (n : Nat) (h1 : s.Canonical) : (ancPort2 s n).Canonical := by
  unfold ancPort2
  grind [mk_canon, addOp_canon, setAnc_canon]

theorem ancEnd_canon (s : State) (h1 : s.Canonical) : (ancEnd s).Canonical := by
  unfold ancEnd
  grind [mk_canon, put_canon, raise_canon, setF_canon]

theorem anchorRun_canon (s : State) (h1 : s.Canonical) : (anchorRun s).Canonical := by
  unfold anchorRun
  grind [mk_canon, ancEnd_canon, ancPort_canon, ancPort2_canon, forN_canon]

end Sys2Proof.Machine
end

