-- ==== Sys2Proof/Laws/CanonInstallCore.lean ====
section
/-! SUPPORT. That the operations of Machine/InstallCore.lean keep the canonical form of a state (Safety.lean). -/

namespace Sys2Proof.Machine

theorem modInstall_canon (s : State) (q p : Nat) (f : Install → Install) (h1 : s.Canonical) : (modInstall s q p f).Canonical := by
  unfold modInstall
  grind [mk_canon, modSeq_canon]

theorem installNext_canon (s : State) (q : Nat) (h1 : s.Canonical) : (installNext s q).Canonical := by
  unfold installNext
  grind [mk_canon, modInstall_canon, modSeq_canon, startOp_canon]

theorem installRead_canon (s : State) (q p : Nat) (data : List Byte) (h1 : s.Canonical) : (installRead s q p data).Canonical := by
  unfold installRead
  grind [mk_canon, modInstall_canon, modSeq_canon, startOp_canon]

theorem installEnd_canon (s : State) (q p stby word : Nat) (h1 : s.Canonical) : (installEnd s q p stby word).Canonical := by
  unfold installEnd
  grind [mk_canon, complete_canon, installNext_canon, modSeq_canon, put_canon]

theorem installRefuse_canon (s : State) (q p word : Nat) (h1 : s.Canonical) : (installRefuse s q p word).Canonical := by
  unfold installRefuse
  grind [mk_canon, installEnd_canon]

theorem installCheck_canon (s : State) (q : Nat) (h1 : s.Canonical) : (installCheck s q).Canonical := by
  unfold installCheck
  grind [mk_canon, installRefuse_canon, modInstall_canon]

end Sys2Proof.Machine
end

