-- ==== Sys2Proof/Laws/CanonPump.lean ====
section
/-! SUPPORT. That the operations of Machine/Pump.lean keep the canonical form of a state (Safety.lean). -/

namespace Sys2Proof.Machine

theorem sqFetchFail_canon (s : State) (p r code : Nat) (h1 : s.Canonical) : (sqFetchFail s p r code).Canonical := by
  unfold sqFetchFail
  grind [mk_canon, clrF_canon, modSq_canon, put_canon, raiseP_canon, setF_canon]

theorem cqWriteFail_canon (s : State) (p r : Nat) (h1 : s.Canonical) : (cqWriteFail s p r).Canonical := by
  unfold cqWriteFail
  grind [mk_canon, cqStop_canon, put_canon, raiseP_canon, setF_canon]

theorem chXlate_canon (s : State) (c : Nat) (stat : Bool) (h1 : s.Canonical) : (chXlate s c stat).Canonical := by
  unfold chXlate
  grind [mk_canon, chFail_canon, chKillOps_canon, modCh_canon]

theorem magDirectEnd_canon (s : State) (n k st : Nat) (h1 : s.Canonical) : (magDirectEnd s n k st).Canonical := by
  unfold magDirectEnd
  grind [mk_canon, complete_canon, dropMop_canon]

theorem opFault_canon (s : State) (o : HostOp) (h1 : s.Canonical) : (opFault s o).Canonical := by
  unfold opFault
  grind [mk_canon, chXlate_canon, cqWriteFail_canon, descReread_canon, dropOp_canon, installRefuse_canon, magDirectEnd_canon, sqFetchFail_canon, stallFail_canon]

theorem writeIssued_canon (s : State) (o : HostOp) (h1 : s.Canonical) : (writeIssued s o).Canonical := by
  unfold writeIssued
  grind [mk_canon, complWritten_canon, dropOp_canon, magDirectEnd_canon, raiseP_canon, stallDone_canon]

theorem opIssued_canon (s : State) (o : HostOp) (h1 : s.Canonical) : (opIssued s o).Canonical := by
  unfold opIssued
  grind [mk_canon, setOp_canon, writeIssued_canon]

theorem accessPage_canon (s : State) (o : HostOp) (h1 : s.Canonical) : (accessPage s o).Canonical := by
  unfold accessPage
  grind [mk_canon, bump_canon, opFault_canon, opIssued_canon, setOp_canon, startWalk_canon, xfault_canon]

theorem opPage_canon (s : State) (o : HostOp) (h1 : s.Canonical) : (opPage s o).Canonical := by
  unfold opPage
  grind [mk_canon, accessPage_canon, dropOp_canon, opIssued_canon]

theorem opRun_canon (fuel : Nat) (s : State) (h1 : s.Canonical) : (opRun fuel s).Canonical := by
  induction fuel generalizing s with
  | zero => exact h1
  | succ fuel ih =>
    unfold opRun
    split
    · exact h1
    · exact ih _ (opPage_canon _ _ h1)

theorem resetEnd_canon (s : State) (p : Nat) (h1 : s.Canonical) : (resetEnd s p).Canonical :=
  bump_canon _ _ (raise_canon _ _ (clrF_canon _ _ (modPart_canon _ _ _ (poolSweep_canon _ _ (ssmClear_canon _ _ _ h1)))))

theorem resetsProgress_canon (s : State) (h1 : s.Canonical) : (resetsProgress s).Canonical := by
  unfold resetsProgress
  grind [mk_canon, forN_canon, resetEnd_canon]

theorem dormProgress_canon (s : State) (h1 : s.Canonical) : (dormProgress s).Canonical := by
  have h2 := setF_canon _ R.AON_REG_STAT_LP (setMode_canon _ modeDORMANT 3
    (forN_canon 4 (fun n s => clrF s (R.SBD_STAT_PWREN n)) s h1 fun i s h => clrF_canon _ _ h))
  unfold dormProgress
  exact ite_canon h1 (ite_canon (dormAbort_canon _ _ _ h1) (ite_canon h1 ⟨h2.1, rfl, h2.2.2⟩))

theorem hostRun_canon (s : State) (h1 : s.Canonical) : (hostRun s).Canonical := by
  unfold hostRun
  grind [mk_canon, opRun_canon]

theorem settleOnce_canon (s : State) (h1 : s.Canonical) : (settleOnce s).Canonical := by
  unfold settleOnce
  grind [mk_canon, anchorRun_canon, chAllProgress_canon, clipsProgress_canon, dormProgress_canon, hostRun_canon, magRun_canon, modeProgress_canon, resetsProgress_canon]

theorem settle_canon (s : State) (h1 : s.Canonical) : (settle s).Canonical := by
  unfold settle
  grind [mk_canon, settleOnce_canon]

theorem finSettle_canon (s : State) (h1 : s.Canonical) (t' : State) (ht' : finSettle s = .next t') : t'.Canonical := by
  unfold finSettle at *
  grind [mk_canon, settle_canon]

end Sys2Proof.Machine
end

