-- ==== Sys2Proof/Laws/CanonDram.lean ====
section
/-! SUPPORT. That the operations of Machine/Dram.lean keep the canonical form of a state (Safety.lean). -/

namespace Sys2Proof.Machine

theorem openRowOf_canon (s : State) (a : Nat) (h1 : s.Canonical) : (openRowOf s a).Canonical := by
  unfold openRowOf
  grind [mk_canon]

theorem waitAtPort_canon (s : State) (port addr : Nat) (write : Bool) (since level : Nat) (h1 : s.Canonical) : (waitAtPort s port addr write since level).Canonical := by
  unfold waitAtPort
  grind [mk_canon]

theorem portStat_canon (s : State) (port ns : Nat) (h1 : s.Canonical) : (portStat s port ns).Canonical := by
  unfold portStat
  grind [mk_canon, bump_canon, putMax_canon]

theorem drcUe_canon (s : State) (addr : Nat) (h1 : s.Canonical) : (drcUe s addr).Canonical := by
  unfold drcUe
  grind [mk_canon, bump_canon, fault_canon, put2_canon, raise_canon]

theorem readErrorAt_canon (s : State) (port unit addr : Nat) (h1 : s.Canonical) : (readErrorAt s port unit addr).Canonical := by
  unfold readErrorAt
  grind [mk_canon, movBusError_canon, strandReadError_canon]

theorem requestDone_canon (s : State) (port unit addr : Nat) (write : Bool) (since t : Nat) (ce ue : Bool) (h1 : s.Canonical) : (requestDone s port unit addr write since t ce ue).Canonical := by
  unfold requestDone
  grind [mk_canon, bump_canon, drcUe_canon, fault_canon, openRowOf_canon, portStat_canon, readErrorAt_canon, stamp_canon]

theorem setOwed_canon (s : State) (b n : Nat) (h1 : s.Canonical) : (setOwed s b n).Canonical := by
  unfold setOwed
  grind [mk_canon]

theorem closeRow_canon (s : State) (b : Nat) (h1 : s.Canonical) : (closeRow s b).Canonical := by
  unfold closeRow
  grind [mk_canon]

theorem refreshDue_canon (s : State) (b : Nat) (waiting : Bool) (h1 : s.Canonical) : (refreshDue s b waiting).Canonical := by
  unfold refreshDue
  grind [mk_canon, bump_canon, closeRow_canon, setOwed_canon]

theorem freqRequest_canon (s : State) (r : FreqReq) (h1 : s.Canonical) : (freqRequest s r).Canonical := by
  unfold freqRequest
  grind [mk_canon, put_canon]

theorem freqHot_canon (s : State) (h1 : s.Canonical) : (freqHot s).Canonical := by
  unfold freqHot
  grind [mk_canon, put_canon]

theorem freqBoundary_canon (s : State) (h1 : s.Canonical) : (freqBoundary s).Canonical := by
  unfold freqBoundary
  grind [mk_canon, overcommitSet_canon, put_canon, raise_canon, setF_canon]

theorem freqDone_canon (s : State) (relocked : Bool) (t : Nat) (h1 : s.Canonical) : (freqDone s relocked t).Canonical := by
  unfold freqDone
  grind [mk_canon, bump_canon, clrF_canon, overcommitCheck_canon, put_canon, raise_canon, setF_canon, stamp_canon]

theorem putTrained_canon (s : State) (k : Nat) (b : Bool) (h1 : s.Canonical) : (putTrained s k b).Canonical := by
  unfold putTrained
  grind [mk_canon, put_canon]

theorem putTset_canon (s : State) (k reg v : Nat) (h1 : s.Canonical) : (putTset s k reg v).Canonical := by
  unfold putTset
  grind [mk_canon, put_canon]

theorem execDramRequestDone_canon (port : Fin 24) (unit addr : Nat) (write : Bool) (since t : Nat) (ce ue : Bool) (s : State) (h9 : s.Canonical) (t' : State) (ht' : execDramRequestDone port unit addr write since t ce ue s = .next t') : t'.Canonical := by
  unfold execDramRequestDone at *
  grind [mk_canon, finSettle_canon, requestDone_canon]

theorem execUrgencyEscalate_canon (port : Fin 24) (addr : Nat) (write : Bool) (since t : Nat) (s : State) (h6 : s.Canonical) (t' : State) (ht' : execUrgencyEscalate port addr write since t s = .next t') : t'.Canonical := by
  unfold execUrgencyEscalate at *
  grind [mk_canon, stamp_canon, waitAtPort_canon]

theorem execRefreshDue_canon (chan bank : Fin 16) (waiting : Bool) (s : State) (h4 : s.Canonical) (t' : State) (ht' : execRefreshDue chan bank waiting s = .next t') : t'.Canonical := by
  unfold execRefreshDue at *
  grind [mk_canon, refreshDue_canon]

theorem execDqsTracking_canon (t : Nat) (s : State) (h2 : s.Canonical) (t' : State) (ht' : execDqsTracking t s = .next t') : t'.Canonical := by
  unfold execDqsTracking at *
  grind [mk_canon, stamp_canon]

theorem execMr4Read_canon (codes : List (BitVec 3)) (s : State) (h2 : s.Canonical) (t' : State) (ht' : execMr4Read codes s = .next t') : t'.Canonical := by
  unfold execMr4Read at *
  grind [mk_canon, foldl_canon, put_canon]

theorem execDrcFreqSet_canon (set : Fin 2) (s : State) (h2 : s.Canonical) (t' : State) (ht' : execDrcFreqSet set s = .next t') : t'.Canonical := by
  unfold execDrcFreqSet at *
  grind [mk_canon, answered_canon, freqRequest_canon]

theorem execDrcFreqForce_canon (set : Fin 2) (s : State) (h2 : s.Canonical) (t' : State) (ht' : execDrcFreqForce set s = .next t') : t'.Canonical := by
  unfold execDrcFreqForce at *
  grind [mk_canon, answered_canon, freqRequest_canon]

theorem execDrcFreqCancel_canon (s : State) (h1 : s.Canonical) (t' : State) (ht' : execDrcFreqCancel s = .next t') : t'.Canonical := by
  unfold execDrcFreqCancel at *
  grind [mk_canon, answered_canon, put_canon]

theorem execFreqChangeDone_canon (relocked : Bool) (t : Nat) (s : State) (h3 : s.Canonical) (t' : State) (ht' : execFreqChangeDone relocked t s = .next t') : t'.Canonical := by
  unfold execFreqChangeDone at *
  grind [mk_canon, freqDone_canon]

theorem execDrcTrain_canon (v : Word32) (s : State) (h2 : s.Canonical) (t' : State) (ht' : execDrcTrain v s = .next t') : t'.Canonical := by
  unfold execDrcTrain at *
  grind [mk_canon, answered_canon, setF_canon]

theorem execTrainingDone_canon (ok : Bool) (s : State) (h2 : s.Canonical) (t' : State) (ht' : execTrainingDone ok s = .next t') : t'.Canonical := by
  unfold execTrainingDone at *
  grind [mk_canon, putTrained_canon]

theorem execDrcPortTgtWrite_canon (port : Fin 24) (v : Word32) (s : State) (h3 : s.Canonical) (t' : State) (ht' : execDrcPortTgtWrite port v s = .next t') : t'.Canonical := by
  unfold execDrcPortTgtWrite at *
  grind [mk_canon, answered_canon, put_canon, setF_canon]

theorem execDrcTsetWrite_canon (set : Fin 2) (reg : Fin 4) (v : Word32) (s : State) (h4 : s.Canonical) (t' : State) (ht' : execDrcTsetWrite set reg v s = .next t') : t'.Canonical := by
  unfold execDrcTsetWrite at *
  grind [mk_canon, answered_canon, putTrained_canon, putTset_canon, setF_canon]

end Sys2Proof.Machine
end

