-- ==== Sys2Proof/Laws/CanonPartReset.lean ====
section
/-! SUPPORT. That the operations of Machine/PartReset.lean keep the canonical form of a state (Safety.lean). -/

namespace Sys2Proof.Machine

theorem restoreRange_canon (s : State) (sc : Scope) (lo hi : Nat) (h1 : s.Canonical) : (restoreRange s sc lo hi).Canonical :=
  regsFilter_canon _ _ h1

theorem removeOp_canon (s : State) (n : Nat) (o : MagOp) (h1 : s.Canonical) : (removeOp s n o).Canonical := by
  unfold removeOp
  grind [mk_canon, dropMop_canon, freeRec_canon, modMag_canon, modMem_canon]

theorem spoolReset_canon (s : State) (p : Nat) (h1 : s.Canonical) : (spoolReset s p).Canonical := by
  unfold spoolReset
  grind [mk_canon, foldl_canon, forN_canon, modMag_canon, releaseAll_canon, removeOp_canon]

theorem jobsReset_canon (s : State) (p : Nat) (h1 : s.Canonical) : (jobsReset s p).Canonical := by
  unfold jobsReset
  grind [mk_canon, forN_canon, modLane_canon, stopDeadJobs_canon]

theorem hubReset_canon (s : State) (p : Nat) (h1 : s.Canonical) : (hubReset s p).Canonical := by
  unfold hubReset
  grind [mk_canon, forN_canon, put_canon]

theorem cachePurge_canon (s : State) (p first pages : Nat) (h1 : s.Canonical) : (cachePurge s p first pages).Canonical := by
  unfold cachePurge
  grind [mk_canon]

theorem accessReset_canon (s : State) (p : Nat) (h1 : s.Canonical) : (accessReset s p).Canonical := by
  unfold accessReset
  grind [mk_canon]

theorem ringsReset_canon (s : State) (p : Nat) (h1 : s.Canonical) : (ringsReset s p).Canonical := by
  unfold ringsReset
  grind [mk_canon, modPH_canon]

theorem installsReset_canon (s : State) (p : Nat) (h1 : s.Canonical) : (installsReset s p).Canonical := by
  unfold installsReset
  grind [mk_canon, forN_canon, installNext_canon, modSeq_canon]

theorem partReset_canon (s : State) (p : Nat) (h1 : s.Canonical) : (partReset s p).Canonical := by
  unfold partReset
  grind [mk_canon, accessReset_canon, chReset_canon, forN_canon, hubReset_canon, injDisarm_canon, installsReset_canon, jobsReset_canon, modPart_canon, restoreRange_canon, ringsReset_canon, setF_canon, spoolReset_canon, stallAbort_canon]

end Sys2Proof.Machine
end

