-- ==== Sys2Proof/Laws/CanonHost.lean ====
section
/-! SUPPORT. That the operations of Machine/Host.lean keep the canonical form of a state (Safety.lean). -/

namespace Sys2Proof.Machine

theorem readWindow_canon (s : State) (p r n : Nat) (h1 : s.Canonical) : (readWindow s p r n).Canonical := by
  unfold readWindow
  grind [mk_canon, modSq_canon, startOp_canon]

theorem takeEntry_canon (s : State) (p r : Nat) (e : List Byte) (h1 : s.Canonical) : (takeEntry s p r e).Canonical := by
  unfold takeEntry
  grind [mk_canon, clrF_canon, complete_canon, modCq_canon, modPH_canon, modSq_canon, put_canon]

theorem takeWindow_canon (s : State) (p r : Nat) (l : List (List Byte)) (h1 : s.Canonical) : (takeWindow s p r l).Canonical := by
  induction l generalizing s with
  | nil => exact readWindow_canon _ _ _ _ h1
  | cons e l ih =>
    unfold takeWindow
    split
    · exact modSq_canon _ _ _ _ (put_canon _ _ _ h1)
    · split
      · exact modSq_canon _ _ _ _ h1
      · exact ih _ (takeEntry_canon _ _ _ _ h1)

theorem turnPart_canon (s : State) (h1 : s.Canonical) (r' : Nat × State) (hr' : turnPart s = some r') : r'.2.Canonical := by
  unfold turnPart at hr'
  dsimp only at hr'
  have ha := forN_canon 8 (fun p s => if partRung s p then s else modPH s p fun h => { h with deficit := 0 }) s h1
    fun i s h => ite_canon h (modPH_canon _ _ _ h)
  generalize forN 8 (fun p s => if partRung s p then s else modPH s p fun h => { h with deficit := 0 }) s = a at ha hr'
  split at hr'
  · cases hr'; exact ha
  · obtain ⟨p, -, rfl⟩ := Option.map_eq_some_iff.1 hr'
    exact modPH_canon _ _ _ (mk_canon _ ha ..)

theorem turnRing_canon (s : State) (p : Nat) (h1 : s.Canonical) (r' : Nat × State) (hr' : turnRing s p = some r') : r'.2.Canonical := by
  unfold turnRing at hr'
  dsimp only at hr'
  obtain ⟨r, -, rfl⟩ := Option.map_eq_some_iff.1 hr'
  exact modPH_canon _ _ _ (ite_canon h1 (forN_canon _ _ _ h1 fun i s h => modSq_canon _ _ _ _ h))

theorem ringTurn_canon (s : State) (h1 : s.Canonical) (r' : (Nat × Nat) × State) (hr' : ringTurn s = some r') : r'.2.Canonical := by
  unfold ringTurn at hr'
  cases hp : turnPart s with
  | none => rw [hp] at hr'; cases hr'
  | some x =>
    rw [hp] at hr'
    obtain ⟨y, hy, rfl⟩ := Option.map_eq_some_iff.1 hr'
    exact turnRing_canon _ _ (turnPart_canon _ h1 _ hp) _ hy

theorem serveRing_canon (s : State) (p r : Nat) (h1 : s.Canonical) : (serveRing s p r).Canonical := by
  unfold serveRing
  refine ite_canon h1 ?_
  cases hp : ringTurn s with
  | none => exact h1
  | some x => exact ite_canon (readWindow_canon _ _ _ _ (modSq_canon _ _ _ _ (ringTurn_canon _ h1 _ hp))) h1


theorem sqEnable_canon (s : State) (p r : Nat) (h1 : s.Canonical) : (sqEnable s p r).Canonical := by
  unfold sqEnable
  grind [mk_canon, modSq_canon, put_canon, setF_canon]

theorem cqEnable_canon (s : State) (p r : Nat) (h1 : s.Canonical) : (cqEnable s p r).Canonical := by
  unfold cqEnable
  grind [mk_canon, modCq_canon, put_canon, setF_canon]

theorem cqHead_canon (s : State) (p r v : Nat) (h1 : s.Canonical) : (cqHead s p r v).Canonical := by
  unfold cqHead
  grind [mk_canon, modCq_canon, put_canon, setF_canon]

theorem walkFault_canon (s : State) (p page cause level region : Nat) (h1 : s.Canonical) : (walkFault s p page cause level region).Canonical := by
  unfold walkFault
  grind [mk_canon, foldl_canon, opFault_canon, xfault_canon]

theorem cacheAdd_canon (s : State) (e : CacheEnt) (h1 : s.Canonical) : (cacheAdd s e).Canonical := by
  unfold cacheAdd
  grind [mk_canon, useFree_canon]

theorem walkEnds_canon (s : State) (w : Walk) (k : State → State) (h1 : s.Canonical) (h3 : ∀  (s : State), s.Canonical → (k  s).Canonical) : (walkEnds s w k).Canonical := by
  unfold walkEnds
  grind [mk_canon, startWalk_canon, walkFault_canon]

theorem tableRead_canon (s : State) (w : Walk) (ok : Bool) (v : Nat) (h1 : s.Canonical) : (tableRead s w ok v).Canonical := by
  unfold tableRead
  grind [mk_canon, cacheAdd_canon, walkEnds_canon, walkFault_canon]

theorem fsCommit_canon (s : State) (p pages : Nat) (h1 : s.Canonical) : (fsCommit s p pages).Canonical := by
  unfold fsCommit
  grind [mk_canon, put_canon, setF_canon]

theorem ssmCommit_canon (s : State) (p base size : Nat) (h1 : s.Canonical) : (ssmCommit s p base size).Canonical := by
  unfold ssmCommit
  grind [mk_canon, put_canon, setF_canon]

theorem readReturned_canon (s : State) (o : HostOp) (ok : Bool) (data : List Byte) (h1 : s.Canonical) : (readReturned s o ok data).Canonical := by
  unfold readReturned
  grind [mk_canon, chReceive_canon, descReread_canon, installRead_canon, installRefuse_canon, magDirectEnd_canon, modMop_canon, movBusError_canon, mvDeliver_canon, sqFetchFail_canon, stallDone_canon, stallFail_canon, takeWindow_canon]

theorem execSqDoorbell_canon (p : Part) (r : Ring) (s : State) (h3 : s.Canonical) (t' : State) (ht' : execSqDoorbell p r s = .next t') : t'.Canonical := by
  unfold execSqDoorbell at *
  grind [mk_canon, answered_canon, inWindow_canon, modSq_canon, setF_canon]

theorem execRingService_canon (p : Part) (r : Ring) (s : State) (h3 : s.Canonical) (t' : State) (ht' : execRingService p r s = .next t') : t'.Canonical := by
  unfold execRingService at *
  grind [mk_canon, finSettle_canon, serveRing_canon]

theorem execSqEnable_canon (p : Part) (r : Ring) (s : State) (h3 : s.Canonical) (t' : State) (ht' : execSqEnable p r s = .next t') : t'.Canonical := by
  unfold execSqEnable at *
  grind [mk_canon, answered_canon, inWindow_canon, sqEnable_canon]

theorem execSqDisable_canon (p : Part) (r : Ring) (s : State) (h3 : s.Canonical) (t' : State) (ht' : execSqDisable p r s = .next t') : t'.Canonical := by
  unfold execSqDisable at *
  grind [mk_canon, answered_canon, clrF_canon, inWindow_canon]

theorem execCqEnable_canon (p : Part) (r : Ring) (s : State) (h3 : s.Canonical) (t' : State) (ht' : execCqEnable p r s = .next t') : t'.Canonical := by
  unfold execCqEnable at *
  grind [mk_canon, answered_canon, cqEnable_canon, inWindow_canon]

theorem execCqDisable_canon (p : Part) (r : Ring) (s : State) (h3 : s.Canonical) (t' : State) (ht' : execCqDisable p r s = .next t') : t'.Canonical := by
  unfold execCqDisable at *
  grind [mk_canon, answered_canon, cqStop_canon, inWindow_canon]

theorem execCqHeadWrite_canon (p : Part) (r : Ring) (v : Word32) (s : State) (h4 : s.Canonical) (t' : State) (ht' : execCqHeadWrite p r v s = .next t') : t'.Canonical := by
  unfold execCqHeadWrite at *
  grind [mk_canon, answered_canon, cqHead_canon, inWindow_canon]

theorem execSeqTargetClaim_canon (q : Seq) (s : State) (h2 : s.Canonical) (t' : State) (ht' : execSeqTargetClaim q s = .next t') : t'.Canonical := by
  unfold execSeqTargetClaim at *
  grind [mk_canon, bellRing_canon, claimSrc_canon, endSrc_canon]

theorem execWalkReadDone_canon (p : Part) (page : Nat) (ok : Bool) (entry : Word64) (s : State) (h5 : s.Canonical) (t' : State) (ht' : execWalkReadDone p page ok entry s = .next t') : t'.Canonical := by
  unfold execWalkReadDone at *
  grind [mk_canon, finSettle_canon, tableRead_canon]

theorem execIomInvCmd_canon (v : Word32) (s : State) (h2 : s.Canonical) (t' : State) (ht' : execIomInvCmd v s = .next t') : t'.Canonical := by
  unfold execIomInvCmd at *
  grind [mk_canon, answered_canon, cachePurge_canon, clrF_canon, setF_canon]

theorem execInvalidationDone_canon (s : State) (h1 : s.Canonical) (t' : State) (ht' : execInvalidationDone s = .next t') : t'.Canonical := by
  unfold execInvalidationDone at *
  grind [mk_canon, clrF_canon, setF_canon]

theorem execIomRootWrite_canon (p : Part) (hi : Bool) (v : Word32) (s : State) (h4 : s.Canonical) (t' : State) (ht' : execIomRootWrite p hi v s = .next t') : t'.Canonical := by
  unfold execIomRootWrite at *
  grind [mk_canon, answered_canon, cachePurge_canon, put_canon]

theorem execPwFqPop_canon (p : Part) (s : State) (h2 : s.Canonical) (t' : State) (ht' : execPwFqPop p s = .next t') : t'.Canonical := by
  unfold execPwFqPop at *
  grind [mk_canon, answered_canon, inWindow_canon, modPH_canon]

theorem execPrtFsSizeWrite_canon (p : Part) (v : Word32) (s : State) (h3 : s.Canonical) (t' : State) (ht' : execPrtFsSizeWrite p v s = .next t') : t'.Canonical := by
  unfold execPrtFsSizeWrite at *
  grind [mk_canon, answered_canon, fsCommit_canon]

theorem execPrtSsmWrite_canon (p : Part) (v : Word32) (s : State) (h3 : s.Canonical) (t' : State) (ht' : execPrtSsmWrite p v s = .next t') : t'.Canonical := by
  unfold execPrtSsmWrite at *
  grind [mk_canon, answered_canon, ssmCommit_canon]

theorem execPrtShareWrite_canon (p : Part) (v : Word32) (s : State) (h3 : s.Canonical) (t' : State) (ht' : execPrtShareWrite p v s = .next t') : t'.Canonical := by
  unfold execPrtShareWrite at *
  grind [mk_canon, answered_canon, put_canon, setF_canon]

theorem execPrtPreset_canon (v : Word32) (s : State) (h2 : s.Canonical) (t' : State) (ht' : execPrtPreset v s = .next t') : t'.Canonical := by
  unfold execPrtPreset at *
  grind [mk_canon, answered_canon, finSettle_canon, partReset_canon, setF_canon]

theorem msixOff_canon (s : State) (p : Nat) (h1 : s.Canonical) : (msixOff s p).Canonical := by
  unfold msixOff
  grind [mk_canon, modCfg_canon]

theorem execFunctionLevelReset_canon (p : Part) (s : State) (h2 : s.Canonical) (t' : State) (ht' : execFunctionLevelReset p s = .next t') : t'.Canonical := by
  unfold execFunctionLevelReset at *
  grind [mk_canon, finSettle_canon, foldl_canon, msixOff_canon, partReset_canon]

theorem execVfEnableClear_canon (n : Fin 8) (s : State) (h2 : s.Canonical) (t' : State) (ht' : execVfEnableClear n s = .next t') : t'.Canonical := by
  unfold execVfEnableClear at *
  grind [mk_canon, finSettle_canon, foldl_canon, msixOff_canon, partReset_canon]

theorem execVfEnableSet_canon (n : Fin 8) (s : State) (h2 : s.Canonical) (t' : State) (ht' : execVfEnableSet n s = .next t') : t'.Canonical := by
  unfold execVfEnableSet at *
  grind [mk_canon]

theorem execNop_canon (p : Part) (r : Ring) (id : Nat) (s : State) (h4 : s.Canonical) (t' : State) (ht' : execNop p r id s = .next t') : t'.Canonical := by
  unfold execNop at *
  grind [mk_canon, complete_canon, finSettle_canon, withCmd_canon]

theorem aerNote_canon (s : State) (p : Nat) (h1 : s.Canonical) : (aerNote s p).Canonical := by
  unfold aerNote
  grind [mk_canon, modCfg_canon, useFree_canon]

theorem readArrived_canon (s : State) (o : HostOp) (ok : Bool) (data : List Byte) (h1 : s.Canonical) : (readArrived s o ok data).Canonical := by
  unfold readArrived
  grind [mk_canon, movBusError_canon, readReturned_canon]

theorem execHostReadCompletion_canon (op : Nat) (ok : Bool) (data : List Byte) (t : Nat) (s : State) (h5 : s.Canonical) (t' : State) (ht' : execHostReadCompletion op ok data t s = .next t') : t'.Canonical := by
  unfold execHostReadCompletion at *
  grind [mk_canon, aerNote_canon, dropOp_canon, finSettle_canon, readArrived_canon, stamp_canon]

end Sys2Proof.Machine
end

