-- ==== Sys2Proof/Laws/CanonIntakeCore.lean ====
section
/-! SUPPORT. That the operations of Machine/IntakeCore.lean keep the canonical form of a state (Safety.lean). -/

namespace Sys2Proof.Machine

theorem showStride_canon (s : State) (h1 : s.Canonical) : (showStride s).Canonical := by
  unfold showStride
  grind [mk_canon, put_canon]

theorem modEv_canon (s : State) (e : Nat) (f : Frame → Frame) (h1 : s.Canonical) : (modEv s e f).Canonical := by
  unfold modEv
  grind [mk_canon]

theorem modWin_canon (s : State) (e n : Nat) (f : Win → Win) (h1 : s.Canonical) : (modWin s e n f).Canonical := by
  unfold modWin
  grind [mk_canon, modEv_canon]

theorem modPort_canon (s : State) (n : Nat) (f : SensPort → SensPort) (h1 : s.Canonical) : (modPort s n f).Canonical := by
  unfold modPort
  grind [mk_canon]

theorem fifoPush_canon (s : State) (n : Nat) (ws : List FifoWord) (h1 : s.Canonical) : (fifoPush s n ws).Canonical := by
  unfold fifoPush
  grind [mk_canon, modPort_canon, put_canon, putMax_canon, raise_canon]

theorem addPacked_canon (s : State) (e n : Nat) (b : List Byte) (h1 : s.Canonical) : (addPacked s e n b).Canonical := by
  unfold addPacked
  grind [mk_canon, modWin_canon]

theorem replaceFrom_canon (s : State) (x : Frame) (w : Win) (r off : Nat) (h1 : s.Canonical) : (replaceFrom s x w r off).Canonical := by
  unfold replaceFrom
  grind [mk_canon, fsWrite_canon, modEv_canon]

theorem packRow_canon (s : State) (x : Frame) (w : Win) (h1 : s.Canonical) : (packRow s x w).Canonical := by
  unfold packRow
  grind [mk_canon, addPacked_canon, bumpBy_canon, fifoPush_canon, raise_canon, replaceFrom_canon, setF_canon, useFree_canon]

theorem packLoop_canon (e n : Nat) (s : State) (h1 : s.Canonical) : (packLoop e n s).Canonical := by
  induction n generalizing s with
  | zero => exact h1
  | succ n ih =>
    unfold packLoop
    split
    · exact h1
    · split
      · exact h1
      · exact ih _ (packRow_canon _ _ _ h1)

theorem emitTails_canon (s : State) (e : Nat) (h1 : s.Canonical) : (emitTails s e).Canonical := by
  unfold emitTails
  grind [mk_canon, fifoPush_canon, foldl_canon, modWin_canon]

theorem emitAll_canon (s : State) (h1 : s.Canonical) : (emitAll s).Canonical := by
  unfold emitAll
  grind [mk_canon, emitTails_canon, foldl_canon]

theorem intakeRun_canon (s : State) (e : Nat) (h1 : s.Canonical) : (intakeRun s e).Canonical :=
  emitTails_canon _ _ (packLoop_canon _ _ _ h1)

theorem closeWin_canon (s : State) (e n : Nat) (trunc : Bool) (h1 : s.Canonical) : (closeWin s e n trunc).Canonical := by
  unfold closeWin
  grind [mk_canon, intakeRun_canon, modEv_canon, modWin_canon]

theorem finalize_canon (s : State) (x : Frame) (h1 : s.Canonical) : (finalize s x).Canonical := by
  unfold finalize
  grind [mk_canon, bump_canon, clrF_canon, modEv_canon, put_canon, raise_canon]

theorem checkFinal_canon (s : State) (e : Nat) (h1 : s.Canonical) : (checkFinal s e).Canonical := by
  unfold checkFinal
  grind [mk_canon, finalize_canon]

theorem endWin_canon (s : State) (e n : Nat) (h1 : s.Canonical) : (endWin s e n).Canonical := by
  unfold endWin
  grind [mk_canon, closeWin_canon, modWin_canon]

theorem startWin_canon (s : State) (e n t : Nat) (h1 : s.Canonical) : (startWin s e n t).Canonical := by
  unfold startWin
  grind [mk_canon, bump_canon, closeWin_canon, modEv_canon, modWin_canon]

theorem closeBefore_canon (s : State) (e n : Nat) (h1 : s.Canonical) : (closeBefore s e n).Canonical := by
  unfold closeBefore
  grind [mk_canon, closeWin_canon, foldl_canon]

theorem frameStart_canon (s : State) (n t : Nat) (h1 : s.Canonical) : (frameStart s n t).Canonical := by
  unfold frameStart
  grind [mk_canon, closeBefore_canon, startWin_canon]

theorem takeRow_canon (s : State) (n : Nat) (l : Option (List Nat)) (h1 : s.Canonical) : (takeRow s n l).Canonical := by
  unfold takeRow
  grind [mk_canon, bump_canon, intakeRun_canon, modWin_canon]

theorem csiHeader_canon (s : State) (n : Nat) (burst : Bool) (hdr : Ecc) (lost use : State → State) (h1 : s.Canonical)
    (hl : ∀ s : State, s.Canonical → (lost s).Canonical) (hu : ∀ s : State, s.Canonical → (use s).Canonical) :
    (csiHeader s n burst hdr lost use).Canonical := by
  have hb := ite_canon (c := burst = true) (modPort_canon s n (fun p => { p with skip := false }) h1) h1
  have key : ∀ s : State, s.Canonical → (if (sensPort s n).skip then s
    else match hdr with
      | .ue => lost (modPort (bump s (R.INT_PORT_ERR_HDR_UNC n)) n fun p => { p with skip := true })
      | .ce => use (bump s (R.INT_PORT_ERR_HDR_CORR n))
      | .ok => use s).Canonical := by
    intro s h
    refine ite_canon h ?_
    cases hdr
    · exact hu _ h
    · exact hu _ (bump_canon _ _ h)
    · exact hl _ (modPort_canon _ _ _ (bump_canon _ _ h))
  unfold csiHeader
  exact ite_canon (key _ hb) h1

theorem csiChannel_canon (s : State) (n vc : Nat) (use : State → State) (h1 : s.Canonical) (h4 : ∀  (s : State), s.Canonical → (use  s).Canonical) : (csiChannel s n vc use).Canonical := by
  unfold csiChannel
  grind [mk_canon, bump_canon]

theorem fifoDrain_canon (s : State) (n : Nat) (ecc : Ecc) (data : List Byte) (h1 : s.Canonical) : (fifoDrain s n ecc data).Canonical := by
  unfold fifoDrain
  grind [mk_canon, bump_canon, checkFinal_canon, emitAll_canon, fault_canon, fsWrite_canon, modEv_canon, modPort_canon, modWin_canon, put_canon]

theorem releaseSlots_canon (s : State) (h1 : s.Canonical) : (releaseSlots s).Canonical := by
  unfold releaseSlots
  grind [mk_canon]

theorem captureClose_canon (s : State) (h1 : s.Canonical) : (captureClose s).Canonical := by
  unfold captureClose
  dsimp only
  have ha := forN_canon 12 (fun n s' => closeBefore s' (s.tick.events - 1) n) s h1 fun i s' h => closeBefore_canon _ _ _ h
  generalize forN 12 (fun n s' => closeBefore s' (s.tick.events - 1) n) s = a at ha
  cases a.intake.frames.find? fun x => x.ev + 1 == s.tick.events && x.kind == 0 with
  | none => exact ha
  | some x =>
    refine ite_canon ?_ (ite_canon (setF_canon _ _ (modEv_canon _ _ _ ha)) (modEv_canon _ _ _ ha))
    cases findEv (modEv a x.ev fun f => { f with kind := 1, capLate := true, held := false }) x.ev with
    | none => exact modEv_canon _ _ _ ha
    | some y => exact finalize_canon _ _ (modEv_canon _ _ _ ha)


theorem openFrame_canon (s : State) (noProxy : Bool) (h1 : s.Canonical) : (openFrame s noProxy).Canonical := by
  unfold openFrame
  grind [mk_canon, bump_canon, fault_canon, put_canon, setF_canon]

theorem pruneFrames_canon (s : State) (h1 : s.Canonical) : (pruneFrames s).Canonical := by
  unfold pruneFrames
  grind [mk_canon]

theorem intakeMode_canon (s : State) (h1 : s.Canonical) : (intakeMode s).Canonical := by
  unfold intakeMode
  grind [mk_canon, clrF_canon, forN_canon, raise_canon, setF_canon]

end Sys2Proof.Machine
end

