-- ==== Sys2Proof/Laws/CanonMag.lean ====
section
/-! SUPPORT. That the operations of Machine/Mag.lean keep the canonical form of a state (Safety.lean). -/

namespace Sys2Proof.Machine

theorem mgChecked_canon (c : RingCmd) (priv : Bool) (fields : List (Nat × Nat)) (s : State) (k : State → State) (h4 : s.Canonical) (h5 : ∀  (s : State), s.Canonical → (k  s).Canonical) : (mgChecked c priv fields s k).Canonical := by
  unfold mgChecked
  grind [mk_canon, complete_canon]

theorem magOpen_canon (c : RingCmd) (s : State) (h2 : s.Canonical) : (magOpen c s).Canonical := by
  unfold magOpen
  grind [mk_canon, addOp_canon, complete_canon, mgChecked_canon, openEnd_canon]

theorem magClose_canon (c : RingCmd) (s : State) (h2 : s.Canonical) : (magClose c s).Canonical := by
  unfold magClose
  grind [mk_canon, addOp_canon, complete_canon, mgChecked_canon]

theorem magFormat_canon (c : RingCmd) (s : State) (h2 : s.Canonical) : (magFormat c s).Canonical := by
  unfold magFormat
  grind [mk_canon, addOp_canon, complete_canon, mgChecked_canon]

theorem hostio_canon (c : RingCmd) (s : State) (h2 : s.Canonical) : (hostio c s).Canonical := by
  unfold hostio
  grind [mk_canon, addOp_canon, complete_canon, mgChecked_canon, startOp_canon]

theorem hostioRow_canon (s : State) (p r id : Nat) (w : Bool) (h1 : s.Canonical) : (hostioRow s p r id w).Canonical := by
  unfold hostioRow
  grind [mk_canon, dropCmd_canon, hostio_canon]

theorem spPlace_canon (s : State) (c : Clip) (x : SpoolReq) (gap : Bool) (flags : Nat) (metaB ess : List Byte) (bands bufs : List Nat) (h1 : s.Canonical) : (spPlace s c x gap flags metaB ess bands bufs).Canonical := by
  unfold spPlace
  grind [mk_canon, modClipFrame_canon, placeRecord_canon, releaseAll_canon, spoolDone_canon]

theorem spWrite_canon (s : State) (x : SpoolReq) (c : Clip) (h1 : s.Canonical) : (spWrite s x c).Canonical := by
  unfold spWrite
  grind [mk_canon, releaseAll_canon, spPlace_canon, spoolDone_canon]

theorem spReadFrame_canon (s : State) (x : SpoolReq) (h1 : s.Canonical) : (spReadFrame s x).Canonical := by
  unfold spReadFrame
  grind [mk_canon, addOp_canon, spoolDone_canon]

theorem spBlocks_canon (s : State) (x : SpoolReq) (h1 : s.Canonical) : (spBlocks s x).Canonical := by
  unfold spBlocks
  grind [mk_canon, addOp_canon, spoolDone_canon]

theorem spTake_canon (s : State) (x : SpoolReq) (h1 : s.Canonical) : (spTake s x).Canonical := by
  unfold spTake
  grind [mk_canon, releaseAll_canon, spBlocks_canon, spReadFrame_canon, spWrite_canon, spoolDone_canon]

theorem spoolRow_canon (s : State) (q op : Nat) (h1 : s.Canonical) : (spoolRow s q op).Canonical := by
  unfold spoolRow
  grind [mk_canon, spTake_canon]

theorem setCached_canon (s : State) (n : Nat) (l : List (Nat × Nat × Nat)) (h1 : s.Canonical) : (setCached s n l).Canonical := by
  unfold setCached
  grind [mk_canon, modMag_canon, put_canon]

theorem issueFrom_canon (s : State) (n q : Nat) (h1 : s.Canonical) : (issueFrom s n q).Canonical := by
  unfold issueFrom
  grind [mk_canon, bump_canon, modMag_canon, modMop_canon, setCached_canon]

theorem schedulerSlot_canon (s : State) (n : Nat) (h1 : s.Canonical) : (schedulerSlot s n).Canonical := by
  unfold schedulerSlot
  grind [mk_canon, cacheFlush_canon, fuaAll_canon, issueFrom_canon, magAccrue_canon, modMag_canon]

theorem dropNv_canon (s : State) (n cid : Nat) (h1 : s.Canonical) : (dropNv s n cid).Canonical := by
  unfold dropNv
  grind [mk_canon, modMag_canon]

theorem latNote_canon (s : State) (n : Nat) (c : NvCmd) (h1 : s.Canonical) : (latNote s n c).Canonical := by
  unfold latNote
  grind [mk_canon, putMax_canon]

theorem nvOk_canon (s : State) (n : Nat) (c : NvCmd) (dw0 : Nat) (data : List Byte) (h1 : s.Canonical) : (nvOk s n c dw0 data).Canonical := by
  unfold nvOk
  grind [mk_canon, dropNv_canon, latNote_canon, modMop_canon, setCached_canon]

theorem nvError_canon (s : State) (n : Nat) (c : NvCmd) (h1 : s.Canonical) : (nvError s n c).Canonical := by
  unfold nvError
  grind [mk_canon, addOp_canon, cmdFail_canon, dropNv_canon, latNote_canon, modMag_canon, setCached_canon]

theorem nvComplete_canon (s : State) (n cid sc sct dw0 : Nat) (data : List Byte) (h1 : s.Canonical) : (nvComplete s n cid sc sct dw0 data).Canonical := by
  unfold nvComplete
  grind [mk_canon, dropNv_canon, magAccrue_canon, nvError_canon, nvOk_canon]

theorem cmdTimeout_canon (s : State) (n cid : Nat) (h1 : s.Canonical) : (cmdTimeout s n cid).Canonical := by
  unfold cmdTimeout
  grind [mk_canon, addCmd_canon, modMag_canon]

theorem abortTimeout_canon (s : State) (n cid : Nat) (h1 : s.Canonical) : (abortTimeout s n cid).Canonical := by
  unfold abortTimeout
  grind [mk_canon, portLose_canon]

theorem linkTrained_canon (s : State) (n : Nat) (h1 : s.Canonical) : (linkTrained s n).Canonical := by
  unfold linkTrained
  grind [mk_canon, addOp_canon, dropDue_canon, modMag_canon, put_canon]

theorem holdExpire_canon (s : State) (n : Nat) (h1 : s.Canonical) : (holdExpire s n).Canonical := by
  unfold holdExpire
  grind [mk_canon, dropDue_canon, modMag_canon, put_canon]

theorem dropRequest_canon (s : State) (n : Nat) (h1 : s.Canonical) : (dropRequest s n).Canonical := by
  unfold dropRequest
  grind [mk_canon, dropDue_canon]

theorem readySet_canon (s : State) (n mqes mpsmin : Nat) (h1 : s.Canonical) : (readySet s n mqes mpsmin).Canonical := by
  unfold readySet
  grind [mk_canon, modMag_canon, modMop_canon, opFail_canon]

theorem readyTimeout_canon (s : State) (n : Nat) (h1 : s.Canonical) : (readyTimeout s n).Canonical := by
  unfold readyTimeout
  grind [mk_canon, opFail_canon]

theorem magEnable_canon (s : State) (n : Nat) (en : Bool) (h1 : s.Canonical) : (magEnable s n en).Canonical := by
  unfold magEnable
  grind [mk_canon, foldl_canon, modMag_canon, opFail_canon, portLose_canon, put_canon]

theorem execMagOpen_canon (p : Part) (r : Ring) (id : Nat) (s : State) (h4 : s.Canonical) (t' : State) (ht' : execMagOpen p r id s = .next t') : t'.Canonical := by
  unfold execMagOpen at *
  grind [mk_canon, finSettle_canon, magOpen_canon, withCmd_canon]

theorem execMagClose_canon (p : Part) (r : Ring) (id : Nat) (s : State) (h4 : s.Canonical) (t' : State) (ht' : execMagClose p r id s = .next t') : t'.Canonical := by
  unfold execMagClose at *
  grind [mk_canon, finSettle_canon, magClose_canon, withCmd_canon]

theorem execMagFormat_canon (p : Part) (r : Ring) (id : Nat) (s : State) (h4 : s.Canonical) (t' : State) (ht' : execMagFormat p r id s = .next t') : t'.Canonical := by
  unfold execMagFormat at *
  grind [mk_canon, finSettle_canon, magFormat_canon, withCmd_canon]

theorem execHostioRead_canon (p : Part) (r : Ring) (id : Nat) (s : State) (h4 : s.Canonical) (t' : State) (ht' : execHostioRead p r id s = .next t') : t'.Canonical := by
  unfold execHostioRead at *
  grind [mk_canon, finSettle_canon, hostioRow_canon]

theorem execHostioWrite_canon (p : Part) (r : Ring) (id : Nat) (s : State) (h4 : s.Canonical) (t' : State) (ht' : execHostioWrite p r id s = .next t') : t'.Canonical := by
  unfold execHostioWrite at *
  grind [mk_canon, finSettle_canon, hostioRow_canon]

theorem execWriteFrame_canon (q : Fin 8) (t : Nat) (s : State) (h3 : s.Canonical) (t' : State) (ht' : execWriteFrame q t s = .next t') : t'.Canonical := by
  unfold execWriteFrame at *
  grind [mk_canon, finSettle_canon, spoolRow_canon, stamp_canon]

theorem execDiscard_canon (q : Fin 8) (t : Nat) (s : State) (h3 : s.Canonical) (t' : State) (ht' : execDiscard q t s = .next t') : t'.Canonical := by
  unfold execDiscard at *
  grind [mk_canon, finSettle_canon, spoolRow_canon, stamp_canon]

theorem execReadFrame_canon (q : Fin 8) (t : Nat) (s : State) (h3 : s.Canonical) (t' : State) (ht' : execReadFrame q t s = .next t') : t'.Canonical := by
  unfold execReadFrame at *
  grind [mk_canon, finSettle_canon, spoolRow_canon, stamp_canon]

theorem execReadBlocks_canon (q : Fin 8) (t : Nat) (s : State) (h3 : s.Canonical) (t' : State) (ht' : execReadBlocks q t s = .next t') : t'.Canonical := by
  unfold execReadBlocks at *
  grind [mk_canon, finSettle_canon, spoolRow_canon, stamp_canon]

theorem execTrim_canon (q : Fin 8) (t : Nat) (s : State) (h3 : s.Canonical) (t' : State) (ht' : execTrim q t s = .next t') : t'.Canonical := by
  unfold execTrim at *
  grind [mk_canon, finSettle_canon, spoolRow_canon, stamp_canon]

theorem execSchedulerSlot_canon (n : MagPort) (t : Nat) (s : State) (h3 : s.Canonical) (t' : State) (ht' : execSchedulerSlot n t s = .next t') : t'.Canonical := by
  unfold execSchedulerSlot at *
  grind [mk_canon, finSettle_canon, schedulerSlot_canon, stamp_canon]

theorem execNvmeCompletion_canon (n : MagPort) (cid : Nat) (sc : Fin 256) (sct : Fin 8) (dw0 : Word32) (data : List Byte) (t : Nat) (s : State) (h8 : s.Canonical) (t' : State) (ht' : execNvmeCompletion n cid sc sct dw0 data t s = .next t') : t'.Canonical := by
  unfold execNvmeCompletion at *
  grind [mk_canon, finSettle_canon, nvComplete_canon, stamp_canon]

theorem execNvmeCommandTimeout_canon (n : MagPort) (cid t : Nat) (s : State) (h4 : s.Canonical) (t' : State) (ht' : execNvmeCommandTimeout n cid t s = .next t') : t'.Canonical := by
  unfold execNvmeCommandTimeout at *
  grind [mk_canon, cmdTimeout_canon, finSettle_canon, stamp_canon]

theorem execAbortTimeout_canon (n : MagPort) (cid t : Nat) (s : State) (h4 : s.Canonical) (t' : State) (ht' : execAbortTimeout n cid t s = .next t') : t'.Canonical := by
  unfold execAbortTimeout at *
  grind [mk_canon, abortTimeout_canon, finSettle_canon, stamp_canon]

theorem execCstsCfsSet_canon (n : MagPort) (t : Nat) (s : State) (h3 : s.Canonical) (t' : State) (ht' : execCstsCfsSet n t s = .next t') : t'.Canonical := by
  unfold execCstsCfsSet at *
  grind [mk_canon, finSettle_canon, portLose_canon, stamp_canon]

theorem execCstsRdySet_canon (n : MagPort) (mqes mpsmin t : Nat) (s : State) (h5 : s.Canonical) (t' : State) (ht' : execCstsRdySet n mqes mpsmin t s = .next t') : t'.Canonical := by
  unfold execCstsRdySet at *
  grind [mk_canon, finSettle_canon, readySet_canon, stamp_canon]

theorem execCstsRdyTimeout_canon (n : MagPort) (t : Nat) (s : State) (h3 : s.Canonical) (t' : State) (ht' : execCstsRdyTimeout n t s = .next t') : t'.Canonical := by
  unfold execCstsRdyTimeout at *
  grind [mk_canon, finSettle_canon, readyTimeout_canon, stamp_canon]

theorem execSmartPoll_canon (n : MagPort) (t : Nat) (s : State) (h3 : s.Canonical) (t' : State) (ht' : execSmartPoll n t s = .next t') : t'.Canonical := by
  unfold execSmartPoll at *
  grind [mk_canon, addOp_canon, finSettle_canon, modMag_canon, stamp_canon]

theorem execMagLinkDown_canon (n : MagPort) (t : Nat) (s : State) (h3 : s.Canonical) (t' : State) (ht' : execMagLinkDown n t s = .next t') : t'.Canonical := by
  unfold execMagLinkDown at *
  grind [mk_canon, finSettle_canon, portLose_canon, stamp_canon]

theorem execLinkRetrain_canon (n : MagPort) (up : Bool) (t : Nat) (s : State) (h4 : s.Canonical) (t' : State) (ht' : execLinkRetrain n up t s = .next t') : t'.Canonical := by
  unfold execLinkRetrain at *
  grind [mk_canon, finSettle_canon, linkTrained_canon, stamp_canon]

theorem execMagLinkUp_canon (n : MagPort) (t : Nat) (s : State) (h3 : s.Canonical) (t' : State) (ht' : execMagLinkUp n t s = .next t') : t'.Canonical := by
  unfold execMagLinkUp at *
  grind [mk_canon, finSettle_canon, linkTrained_canon, stamp_canon]

theorem execHoldWindowExpiry_canon (n : MagPort) (t : Nat) (s : State) (h3 : s.Canonical) (t' : State) (ht' : execHoldWindowExpiry n t s = .next t') : t'.Canonical := by
  unfold execHoldWindowExpiry at *
  grind [mk_canon, finSettle_canon, holdExpire_canon, stamp_canon]

theorem magCtlWrite_canon (s : State) (n v : Nat) (h1 : s.Canonical) : (magCtlWrite s n v).Canonical := by
  unfold magCtlWrite
  grind [mk_canon, dropRequest_canon, magEnable_canon]

theorem execMagDropRequest_canon (n : MagPort) (v : Word32) (s : State) (h3 : s.Canonical) (t' : State) (ht' : execMagDropRequest n v s = .next t') : t'.Canonical := by
  unfold execMagDropRequest at *
  grind [mk_canon, answered_canon, finSettle_canon, magCtlWrite_canon]

theorem execMagQShapeWrite_canon (n : MagPort) (q : Fin 8) (v : Word32) (t : Nat) (s : State) (h5 : s.Canonical) (t' : State) (ht' : execMagQShapeWrite n q v t s = .next t') : t'.Canonical := by
  unfold execMagQShapeWrite at *
  grind [mk_canon, answered_canon, magAccrue_canon, modMag_canon, put_canon, setF_canon, stamp_canon]

theorem execMagQBurstWrite_canon (n : MagPort) (q : Fin 8) (v : Word32) (t : Nat) (s : State) (h5 : s.Canonical) (t' : State) (ht' : execMagQBurstWrite n q v t s = .next t') : t'.Canonical := by
  unfold execMagQBurstWrite at *
  grind [mk_canon, answered_canon, magAccrue_canon, modMag_canon, put_canon, stamp_canon]

end Sys2Proof.Machine
end

