-- ==== Sys2Proof/Laws/CanonSbd.lean ====
section
/-! SUPPORT. That the operations of Machine/Sbd.lean keep the canonical form of a state (Safety.lean). -/

namespace Sys2Proof.Machine

theorem gaugeLimit_canon (s : State) (n v : Nat) (h1 : s.Canonical) : (gaugeLimit s n v).Canonical := by
  unfold gaugeLimit
  grind [mk_canon, cacheFlush_canon, fuaAll_canon, put_canon]

theorem gaugeDoubtCheck_canon (s : State) (n : Nat) (h1 : s.Canonical) : (gaugeDoubtCheck s n).Canonical := by
  unfold gaugeDoubtCheck
  grind [mk_canon, gaugeLimit_canon, modSbd_canon, put_canon, raise_canon]

theorem putGauge_canon (s : State) (f : Fld) (a b : Nat) (h1 : s.Canonical) : (putGauge s f a b).Canonical := by
  unfold putGauge
  grind [mk_canon, put_canon, useFree_canon]

theorem gaugeEvaluate_canon (s : State) (n : Nat) (h1 : s.Canonical) : (gaugeEvaluate s n).Canonical := by
  unfold gaugeEvaluate
  grind [mk_canon, charge_canon, fault_canon, gaugeDoubtCheck_canon, gaugeLimit_canon, modSbd_canon, put_canon, putGauge_canon, raise_canon, setF_canon]

theorem gaugeSample_canon (s : State) (n v i : Nat) (h1 : s.Canonical) : (gaugeSample s n v i).Canonical := by
  unfold gaugeSample
  grind [mk_canon, charge_canon, gaugeDoubtCheck_canon, modSbd_canon, put_canon, putGauge_canon, putInt_canon]

theorem restComplete_canon (s : State) (n : Nat) (h1 : s.Canonical) : (restComplete s n).Canonical := by
  unfold restComplete
  grind [mk_canon, charge_canon, modSbd_canon, putGauge_canon]

theorem slotNow_canon (s : State) (n k : Nat) (b : List Byte) (h1 : s.Canonical) : (slotNow s n k b).Canonical := by
  unfold slotNow
  grind [mk_canon, modSbd_canon, put_canon]

theorem labelStart_canon (s : State) (n a : Nat) (h1 : s.Canonical) : (labelStart s n a).Canonical := by
  unfold labelStart
  grind [mk_canon, addXfer_canon, modSbd_canon, put_canon]

theorem labelNext_canon (s : State) (n : Nat) (h1 : s.Canonical) : (labelNext s n).Canonical := by
  unfold labelNext
  grind [mk_canon, clrF_canon, labelStart_canon]

theorem labelEnd_canon (s : State) (n : Nat) (last : Option Nat) (h1 : s.Canonical) : (labelEnd s n last).Canonical := by
  unfold labelEnd
  grind [mk_canon, labelNext_canon, modSbd_canon, put_canon]

theorem labelBroken_canon (s : State) (n : Nat) (h1 : s.Canonical) : (labelBroken s n).Canonical := by
  unfold labelBroken
  grind [mk_canon, labelEnd_canon, useFree_canon]

theorem recover_canon (s : State) (n : Nat) (h1 : s.Canonical) : (recover s n).Canonical := by
  unfold recover
  grind [mk_canon, addXfer_canon, put_canon]

theorem labelGo_canon (s : State) (n : Nat) (h1 : s.Canonical) : (labelGo s n).Canonical := by
  unfold labelGo
  grind [mk_canon, labelStart_canon, modSbd_canon, setF_canon]

theorem labelPoll_canon (s : State) (n : Nat) (busy : Bool) (t : Nat) (h1 : s.Canonical) : (labelPoll s n busy t).Canonical := by
  unfold labelPoll
  split
  · exact h1
  · simp only
    split
    · split
      · exact labelEnd_canon _ _ _ (stamp_canon _ _ h1)
      · exact stamp_canon _ _ h1
    · split
      · exact addXfer_canon _ _ _ _ _ _ _ (modSbd_canon _ _ _ (stamp_canon _ _ h1))
      · exact addXfer_canon _ _ _ _ _ _ _ (modSbd_canon _ _ _ (stamp_canon _ _ h1))

theorem powerFollow_canon (s : State) (n : Nat) (h1 : s.Canonical) : (powerFollow s n).Canonical := by
  unfold powerFollow
  grind [mk_canon, put_canon]

theorem magKnown_canon (s : State) (n : Nat) (h1 : s.Canonical) : (magKnown s n).Canonical := by
  unfold magKnown
  grind [mk_canon, labelNext_canon, modSbd_canon, powerFollow_canon, put_canon, raise_canon, recover_canon, setF_canon]

theorem presenceAssert_canon (s : State) (n : Nat) (h1 : s.Canonical) : (presenceAssert s n).Canonical := by
  unfold presenceAssert
  grind [mk_canon, addXfer_canon, bump_canon, charge_canon, clrF_canon, modSbd_canon, powerFollow_canon, setF_canon]

theorem presenceRemove_canon (s : State) (n t : Nat) (h1 : s.Canonical) : (presenceRemove s n t).Canonical := by
  unfold presenceRemove
  grind [mk_canon, clrF_canon, gaugeDoubtCheck_canon, modSbd_canon, portLose_canon, put_canon, raise_canon, setF_canon]

theorem identDone_canon (s : State) (n : Nat) (b : Option (List Byte)) (h1 : s.Canonical) : (identDone s n b).Canonical := by
  unfold identDone
  grind [mk_canon, forN_canon, put_canon, setF_canon]

theorem xferDone_canon (s : State) (n : Nat) (x : SbdXfer) (ok : Bool) (data : List Byte) (t : Nat) (h1 : s.Canonical) : (xferDone s n x ok data t).Canonical := by
  unfold xferDone
  grind [mk_canon, addXfer_canon, identDone_canon, labelBroken_canon, labelEnd_canon, magKnown_canon, modSbd_canon, raise_canon, setF_canon, slotNow_canon, wearOpened_canon]

theorem i2cDone_canon (s : State) (n : Nat) (nak : Bool) (data : List Byte) (t : Nat) (h1 : s.Canonical) : (i2cDone s n nak data t).Canonical := by
  unfold i2cDone
  grind [mk_canon, modSbd_canon, stamp_canon, xferDone_canon]

theorem i2cRetry_canon (s : State) (n t : Nat) (h1 : s.Canonical) : (i2cRetry s n t).Canonical := by
  unfold i2cRetry
  split
  · exact h1
  · split
    · exact modSbd_canon _ _ _ (stamp_canon _ _ h1)
    · exact h1

theorem execPresenceAssert_canon (n : MagPort) (t : Nat) (s : State) (h3 : s.Canonical) (t' : State) (ht' : execPresenceAssert n t s = .next t') : t'.Canonical := by
  unfold execPresenceAssert at *
  grind [mk_canon, finSettle_canon, presenceAssert_canon, stamp_canon]

theorem execPresenceRemove_canon (n : MagPort) (t : Nat) (s : State) (h3 : s.Canonical) (t' : State) (ht' : execPresenceRemove n t s = .next t') : t'.Canonical := by
  unfold execPresenceRemove at *
  grind [mk_canon, finSettle_canon, presenceRemove_canon, stamp_canon]

theorem execSbdCtlWrite_canon (n : MagPort) (v : Word32) (s : State) (h3 : s.Canonical) (t' : State) (ht' : execSbdCtlWrite n v s = .next t') : t'.Canonical := by
  unfold execSbdCtlWrite at *
  grind [mk_canon, answered_canon, powerFollow_canon, put_canon, setF_canon]

theorem execSbdI2cDone_canon (n : MagPort) (nak : Bool) (data : List Byte) (t : Nat) (s : State) (h5 : s.Canonical) (t' : State) (ht' : execSbdI2cDone n nak data t s = .next t') : t'.Canonical := by
  unfold execSbdI2cDone at *
  grind [mk_canon, finSettle_canon, i2cDone_canon]

theorem execSbdI2cRetry_canon (n : MagPort) (t : Nat) (s : State) (h3 : s.Canonical) (t' : State) (ht' : execSbdI2cRetry n t s = .next t') : t'.Canonical := by
  unfold execSbdI2cRetry at *
  grind [mk_canon, i2cRetry_canon]

theorem execGaugeSample_canon (n : MagPort) (v i : BitVec 12) (s : State) (h4 : s.Canonical) (t' : State) (ht' : execGaugeSample n v i s = .next t') : t'.Canonical := by
  unfold execGaugeSample at *
  grind [mk_canon, finSettle_canon, gaugeSample_canon]

theorem execGaugeEvaluate_canon (n : MagPort) (s : State) (h2 : s.Canonical) (t' : State) (ht' : execGaugeEvaluate n s = .next t') : t'.Canonical := by
  unfold execGaugeEvaluate at *
  grind [mk_canon, finSettle_canon, gaugeEvaluate_canon]

theorem execGaugeRestComplete_canon (n : MagPort) (s : State) (h2 : s.Canonical) (t' : State) (ht' : execGaugeRestComplete n s = .next t') : t'.Canonical := by
  unfold execGaugeRestComplete at *
  grind [mk_canon, restComplete_canon]

theorem execLabelGo_canon (n : MagPort) (v : Word32) (s : State) (h3 : s.Canonical) (t' : State) (ht' : execLabelGo n v s = .next t') : t'.Canonical := by
  unfold execLabelGo at *
  grind [mk_canon, answered_canon, labelGo_canon]

theorem execLabelBusyPoll_canon (n : MagPort) (busy : Bool) (t : Nat) (s : State) (h4 : s.Canonical) (t' : State) (ht' : execLabelBusyPoll n busy t s = .next t') : t'.Canonical := by
  unfold execLabelBusyPoll at *
  grind [mk_canon, labelPoll_canon]

end Sys2Proof.Machine
end

