-- ==== Sys2Proof/Laws/CanonFaults.lean ====
section
/-! SUPPORT. That the operations of Machine/Faults.lean keep the canonical form of a state (Safety.lean). -/

namespace Sys2Proof.Machine

theorem setCore_canon (s : State) (c v : Nat) (h1 : s.Canonical) : (setCore s c v).Canonical := by
  unfold setCore
  grind [mk_canon, put_canon]

theorem setSince_canon (s : State) (c t : Nat) (h1 : s.Canonical) : (setSince s c t).Canonical := by
  unfold setSince
  grind [mk_canon]

theorem unforce_canon (s : State) (f : Nat) (h1 : s.Canonical) : (unforce s f).Canonical := by
  unfold unforce
  grind [mk_canon, clrF_canon, setSince_canon]

theorem statClear_canon (s : State) (f : Nat) (h1 : s.Canonical) : (statClear s f).Canonical := by
  unfold statClear
  grind [mk_canon, clrF_canon, unforce_canon]

theorem showHealth_canon (s : State) (t : Nat) (h1 : s.Canonical) : (showHealth s t).Canonical := by
  unfold showHealth
  grind [mk_canon, put_canon]

theorem setBeat_canon (s : State) (c : Nat) (b : Option Nat) (h1 : s.Canonical) : (setBeat s c b).Canonical := by
  unfold setBeat
  grind [mk_canon]

theorem setMute_canon (s : State) (c : Nat) (b : Bool) (h1 : s.Canonical) : (setMute s c b).Canonical := by
  unfold setMute
  grind [mk_canon]

theorem belayReset_canon (s : State) (c t : Nat) (h1 : s.Canonical) : (belayReset s c t).Canonical := by
  unfold belayReset
  grind [mk_canon, setBeat_canon, setCore_canon, setSince_canon]

theorem activate_canon (s : State) (o : Nat) (h1 : s.Canonical) : (activate s o).Canonical := by
  unfold activate
  grind [mk_canon, put_canon, setCore_canon, setTarget_canon]

theorem belayTakeover_canon (s : State) (o e : Nat) (h1 : s.Canonical) : (belayTakeover s o e).Canonical := by
  unfold belayTakeover
  grind [mk_canon, activate_canon, bump_canon, put_canon, raise_canon]

theorem coreLost_canon (s : State) (c t e : Nat) (always : Bool) (h1 : s.Canonical) : (coreLost s c t e always).Canonical := by
  unfold coreLost
  grind [mk_canon, belayReset_canon, belayTakeover_canon, fault_canon, raise_canon, setMute_canon]

theorem takeoverCheck_canon (s : State) (o t : Nat) (h1 : s.Canonical) : (takeoverCheck s o t).Canonical := by
  unfold takeoverCheck
  grind [mk_canon, belayReset_canon, belayTakeover_canon]

theorem belaySwitch_canon (s : State) (h1 : s.Canonical) : (belaySwitch s).Canonical := by
  unfold belaySwitch
  grind [mk_canon, activate_canon, bump_canon, setCore_canon]

theorem blyErr_canon (s : State) (h1 : s.Canonical) : (blyErr s).Canonical := by
  unfold blyErr
  grind [mk_canon, setF_canon]

theorem forceOne_canon (s : State) (f : Nat) (h1 : s.Canonical) : (forceOne s f).Canonical := by
  unfold forceOne
  grind (splits := 40) [mk_canon, breakList_canon, coreLost_canon, dropDue_canon, fault_canon, fray_canon, freqHot_canon,
    movBusError_canon, portFail_canon, progFault_canon, put_canon, raise_canon, raiseP_canon, setF_canon, setMute_canon, showHealth_canon,
    useFree_canon]

theorem modInj_canon (s : State) (i : Nat) (f : InjSt → InjSt) (h1 : s.Canonical) : (modInj s i f).Canonical := by
  unfold modInj
  grind [mk_canon]

theorem injStart_canon (s : State) (i : Nat) (h1 : s.Canonical) : (injStart s i).Canonical := by
  unfold injStart
  grind [mk_canon, modInj_canon]

theorem injAct_canon (s : State) (i len t : Nat) (h1 : s.Canonical) : (injAct s i len t).Canonical := by
  unfold injAct
  grind [mk_canon, bump_canon, clrF_canon, modInj_canon, raise_canon]

theorem injUnit_canon (s : State) (i len t : Nat) (h1 : s.Canonical) : (injUnit s i len t).Canonical := by
  unfold injUnit
  grind [mk_canon, injAct_canon, modInj_canon, stamp_canon]

theorem ancHalt_canon (s : State) (n : Nat) (h1 : s.Canonical) : (ancHalt s n).Canonical := by
  unfold ancHalt
  grind [mk_canon, modMag_canon]

theorem ancStart_canon (s : State) (n : Nat) (h1 : s.Canonical) : (ancStart s n).Canonical := by
  unfold ancStart
  grind [mk_canon, setAnc_canon]

theorem anchorAct_canon (s : State) (cause t : Nat) (h1 : s.Canonical) : (anchorAct s cause t).Canonical := by
  unfold anchorAct
  grind [mk_canon, ancHalt_canon, ancStart_canon, clrF_canon, fault_canon, forN_canon, movStopAll_canon, noTransition_canon, put_canon, put2_canon, setCore_canon, setF_canon, stamp_canon, stopDeadJobs_canon]

theorem anchorTimeout_canon (s : State) (n t : Nat) (h1 : s.Canonical) : (anchorTimeout s n t).Canonical := by
  unfold anchorTimeout
  grind [mk_canon, addCmd_canon, foldl_canon, modMag_canon, setAnc_canon, stamp_canon]

theorem execFltStatClear_canon (w : Fin 8) (v : Word32) (s : State) (h3 : s.Canonical) (t' : State) (ht' : execFltStatClear w v s = .next t') : t'.Canonical := by
  unfold execFltStatClear at *
  grind [mk_canon, answered_canon, forN_canon, statClear_canon]

theorem execFltForce_canon (w : Fin 8) (v : Word32) (s : State) (h3 : s.Canonical) (t' : State) (ht' : execFltForce w v s = .next t') : t'.Canonical := by
  unfold execFltForce at *
  grind [mk_canon, answered_canon, finSettle_canon, forN_canon, forceOne_canon, setF_canon]

theorem execInjArmFirst_canon (t : Nat) (s : State) (h2 : s.Canonical) (t' : State) (ht' : execInjArmFirst t s = .next t') : t'.Canonical := by
  unfold execInjArmFirst at *
  grind [mk_canon, answered_canon, stamp_canon]

theorem execInjArmSecond_canon (t : Nat) (s : State) (h2 : s.Canonical) (t' : State) (ht' : execInjArmSecond t s = .next t') : t'.Canonical := by
  unfold execInjArmSecond at *
  grind [mk_canon, answered_canon, setF_canon, stamp_canon]

theorem execInjDisarm_canon (v : Word32) (s : State) (h2 : s.Canonical) (t' : State) (ht' : execInjDisarm v s = .next t') : t'.Canonical := by
  unfold execInjDisarm at *
  grind [mk_canon, answered_canon, injDisarm_canon]

theorem execInjArmTimeout_canon (t : Nat) (s : State) (h2 : s.Canonical) (t' : State) (ht' : execInjArmTimeout t s = .next t') :
    t'.Canonical := by
  unfold execInjArmTimeout at ht'
  cases ht'
  split
  · split
    · exact mk_canon _ (stamp_canon _ _ h2) ..
    · exact h2
  · exact h2

theorem execInjUnit_canon (i : Fin 17) (bytes t : Nat) (s : State) (h4 : s.Canonical) (t' : State) (ht' : execInjUnit i bytes t s = .next t') : t'.Canonical := by
  unfold execInjUnit at *
  grind [mk_canon, injUnit_canon]

theorem execInjReorderTimeout_canon (i : Fin 17) (t : Nat) (s : State) (h3 : s.Canonical) (t' : State)
    (ht' : execInjReorderTimeout i t s = .next t') : t'.Canonical := by
  unfold execInjReorderTimeout at ht'
  cases ht'
  split
  · split
    · exact modInj_canon _ _ _ (stamp_canon _ _ h3)
    · exact h3
  · exact h3

theorem execBelayHeartbeat_canon (c : Fin 2) (t : Nat) (s : State) (h3 : s.Canonical) (t' : State) (ht' : execBelayHeartbeat c t s = .next t') : t'.Canonical := by
  unfold execBelayHeartbeat at *
  grind [mk_canon, setBeat_canon, showHealth_canon, stamp_canon]

theorem execBelaySilent_canon (c : Fin 2) (t e : Nat) (s : State) (h4 : s.Canonical) (t' : State) (ht' : execBelaySilent c t e s = .next t') : t'.Canonical := by
  unfold execBelaySilent at *
  grind [mk_canon, coreLost_canon, finSettle_canon, showHealth_canon, stamp_canon]

theorem execBelayResetDone_canon (c : Fin 2) (pass : Bool) (t : Nat) (s : State) (h4 : s.Canonical) (t' : State) (ht' : execBelayResetDone c pass t s = .next t') : t'.Canonical := by
  unfold execBelayResetDone at *
  grind [mk_canon, finSettle_canon, setBeat_canon, setCore_canon, setMute_canon, showHealth_canon, stamp_canon, takeoverCheck_canon]

theorem execBelayResetTimeout_canon (c : Fin 2) (t : Nat) (s : State) (h3 : s.Canonical) (t' : State) (ht' : execBelayResetTimeout c t s = .next t') : t'.Canonical := by
  unfold execBelayResetTimeout at *
  grind [mk_canon, setCore_canon, stamp_canon]

theorem execBelaySwitch_canon (s : State) (h1 : s.Canonical) (t' : State) (ht' : execBelaySwitch s = .next t') : t'.Canonical := by
  unfold execBelaySwitch at *
  grind [mk_canon, answered_canon, blyErr_canon]

theorem execBelayTest_canon (t : Nat) (s : State) (h2 : s.Canonical) (t' : State) (ht' : execBelayTest t s = .next t') : t'.Canonical := by
  unfold execBelayTest at *
  grind [mk_canon, answered_canon, blyErr_canon, put_canon, setBeat_canon, setCore_canon, setSince_canon, stamp_canon]

theorem execBelayTestDone_canon (pass : Bool) (t : Nat) (s : State) (h3 : s.Canonical) (t' : State) (ht' : execBelayTestDone pass t s = .next t') : t'.Canonical := by
  unfold execBelayTestDone at *
  grind [mk_canon, finSettle_canon, put_canon, setBeat_canon, setCore_canon, showHealth_canon, stamp_canon, takeoverCheck_canon]

theorem execBelayResetRequest_canon (t : Nat) (s : State) (h2 : s.Canonical) (t' : State) (ht' : execBelayResetRequest t s = .next t') : t'.Canonical := by
  unfold execBelayResetRequest at *
  grind [mk_canon, answered_canon, belayReset_canon, blyErr_canon, stamp_canon]

theorem execBelayClaim_canon (s : State) (h1 : s.Canonical) (t' : State) (ht' : execBelayClaim s = .next t') : t'.Canonical := by
  unfold execBelayClaim at *
  grind [mk_canon, claimSrc_canon, endSrc_canon]

theorem execAnchorAct_canon (t : Nat) (s : State) (h2 : s.Canonical) (t' : State) (ht' : execAnchorAct t s = .next t') : t'.Canonical := by
  unfold execAnchorAct at *
  grind [mk_canon, anchorAct_canon, finSettle_canon]

theorem execAnchorAbortTimeout_canon (n : MagPort) (t : Nat) (s : State) (h3 : s.Canonical) (t' : State) (ht' : execAnchorAbortTimeout n t s = .next t') : t'.Canonical := by
  unfold execAnchorAbortTimeout at *
  grind [mk_canon, anchorTimeout_canon, finSettle_canon]

theorem execLanyardToggle_canon (t : Nat) (s : State) (h2 : s.Canonical) (t' : State) (ht' : execLanyardToggle t s = .next t') : t'.Canonical := by
  unfold execLanyardToggle at *
  grind [mk_canon, put_canon, showHealth_canon, stamp_canon]

end Sys2Proof.Machine
end

