-- ==== Sys2Proof/Laws/CanonBoot.lean ====
section
/-! SUPPORT. That the operations of Machine/Boot.lean keep the canonical form of a state (Safety.lean). -/

namespace Sys2Proof.Machine

theorem freshState_canon (s : State) (h1 : s.Canonical) : (freshState s).Canonical := ⟨List.Pairwise.nil, rfl, rfl⟩

theorem coldReset_canon (s : State) (cause : Nat) (h1 : s.Canonical) : (coldReset s cause).Canonical := by
  unfold coldReset
  grind [mk_canon, freshState_canon, put_canon]

theorem tapReset_canon (s : State) (h1 : s.Canonical) : (tapReset s).Canonical := by
  unfold tapReset
  grind [mk_canon]

theorem testEnable_canon (s : State) (high : Bool) (h1 : s.Canonical) : (testEnable s high).Canonical := by
  unfold testEnable
  grind [mk_canon, coldReset_canon, useFree_canon]

theorem testWrite_canon (s : State) (x : TestPad) (v : Nat) (h1 : s.Canonical) : (testWrite s x v).Canonical := by
  unfold testWrite
  grind [mk_canon, tapReset_canon, testEnable_canon]

theorem testRead_canon (s : State) (x : TestPad) (h1 : s.Canonical) : (testRead s x).Canonical := by
  unfold testRead
  grind [mk_canon, useFree_canon]

theorem maskStates_canon (s : State) (h1 : s.Canonical) : (maskStates s).Canonical := by
  unfold maskStates
  grind [mk_canon, forN_canon, setStrState_canon]

theorem warmReset_canon (s : State) (cause : Nat) (h1 : s.Canonical) : (warmReset s cause).Canonical := by
  unfold warmReset
  exact modeLast_canon _ _ _ _ (put_canon _ _ _ (maskStates_canon _ ⟨h1.1.filter _, h1.2.1, rfl⟩))

theorem wakeUp_canon (s : State) (src : Nat) (h1 : s.Canonical) : (wakeUp s src).Canonical := by
  unfold wakeUp
  exact modeLast_canon _ _ _ _ (clrF_canon _ _ (put_canon _ _ _ (put_canon _ _ _ (maskStates_canon _ ⟨h1.1.filter _, rfl, rfl⟩))))

theorem wakeEvent_canon (s : State) (src : Nat) (en : Bool) (h1 : s.Canonical) : (wakeEvent s src en).Canonical := by
  unfold wakeEvent
  grind [mk_canon, dormAbort_canon, wakeUp_canon]

theorem loadConfig_canon (s : State) (i : List Byte) (h1 : s.Canonical) : (loadConfig s i).Canonical := by
  unfold loadConfig
  grind [mk_canon, forN_canon, put_canon, putTrained_canon, putTset_canon]

theorem loadPatch_canon (s : State) (i : List Byte) (h1 : s.Canonical) : (loadPatch s i).Canonical := by
  unfold loadPatch
  grind [mk_canon, forN_canon, put_canon]

theorem bootTest_canon (s : State) (n part sig : Nat) (h1 : s.Canonical) : (bootTest s n part sig).Canonical := by
  unfold bootTest
  grind [mk_canon, declareFray_canon, put_canon, setStrState_canon]

theorem bootTests_canon (s : State) (tests : List (Nat × Word32)) (h1 : s.Canonical) : (bootTests s tests).Canonical := by
  unfold bootTests
  grind [mk_canon, bootTest_canon, forN_canon]

theorem startCores_canon (s : State) (b0 b1 : Bool) (h1 : s.Canonical) : (startCores s b0 b1).Canonical := by
  unfold startCores
  grind [mk_canon, activate_canon, setCore_canon]

theorem bootFail_canon (s : State) (code : Nat) (h1 : s.Canonical) : (bootFail s code).Canonical := by
  unfold bootFail
  grind [mk_canon, put_canon, setF_canon, setMode_canon, warmReset_canon]

theorem bootCtlStore_canon (s : State) (v : Nat) (h1 : s.Canonical) : (bootCtlStore s v).Canonical := by
  unfold bootCtlStore
  grind [mk_canon, put_canon]

theorem bootAttempt_canon (s : State) (flash : Option (List Byte)) (c : BootCrypto) (trained b0 b1 : Bool) (tests : List (Nat × Word32)) (h1 : s.Canonical) : (bootAttempt s flash c trained b0 b1 tests).Canonical := by
  unfold bootAttempt
  grind [mk_canon, bootFail_canon, bootTests_canon, loadConfig_canon, loadPatch_canon, put_canon, startCores_canon]

theorem bootReady_canon (s : State) (t : Nat) (h1 : s.Canonical) : (bootReady s t).Canonical := by
  unfold bootReady
  grind [mk_canon, clrF_canon, raiseAll_canon, setF_canon, setMode_canon, stamp_canon]

theorem gateRefused_canon (s : State) (b kind : Nat) (h1 : s.Canonical) : (gateRefused s b kind).Canonical := by
  unfold gateRefused
  grind [mk_canon, bump_canon, clrF_canon, put_canon]

theorem clockGate_canon (s : State) (b : Nat) (refused : Bool) (t : Nat) (h1 : s.Canonical) : (clockGate s b refused t).Canonical := by
  unfold clockGate
  grind [mk_canon, dormAbort_canon, gateRefused_canon, put_canon, stamp_canon]

theorem blockWake_canon (s : State) (b t : Nat) (h1 : s.Canonical) : (blockWake s b t).Canonical := by
  unfold blockWake
  grind [mk_canon, gateRefused_canon, put_canon, stamp_canon]

theorem setTemp_canon (s : State) (d : BitVec 11) (h1 : s.Canonical) : (setTemp s d).Canonical := by
  unfold setTemp
  grind [mk_canon, fault_canon, freqHot_canon, put_canon]

theorem setCause_canon (s : State) (f : Sup → Sup) (h1 : s.Canonical) : (setCause s f).Canonical := by
  unfold setCause
  grind [mk_canon]

theorem execPowerOn_canon (s : State) (h1 : s.Canonical) (t' : State) (ht' : execPowerOn s = .next t') : t'.Canonical := by
  unfold execPowerOn at *
  grind [mk_canon, coldReset_canon, tapReset_canon]

theorem pinReset_canon (s : State) (h1 : s.Canonical) : (pinReset s).Canonical := by
  unfold pinReset
  grind [mk_canon, coldReset_canon, put_canon]

theorem execResetNAssert_canon (ns : Nat) (takes : Bool) (s : State) (h3 : s.Canonical) (t' : State) (ht' : execResetNAssert ns takes s = .next t') : t'.Canonical := by
  unfold execResetNAssert at *
  grind [mk_canon, pinReset_canon]

theorem execInternalResetRelease_canon (sel : Fin 4) (s : State) (h2 : s.Canonical) (t' : State) (ht' : execInternalResetRelease sel s = .next t') : t'.Canonical := by
  unfold execInternalResetRelease at *
  grind [mk_canon]

theorem execAonBrownOut_canon (s : State) (h1 : s.Canonical) (t' : State) (ht' : execAonBrownOut s = .next t') : t'.Canonical := by
  unfold execAonBrownOut at *
  grind [mk_canon, coldReset_canon]

theorem execAonRstCtl_canon (v : Word32) (s : State) (h2 : s.Canonical) (t' : State) (ht' : execAonRstCtl v s = .next t') : t'.Canonical := by
  unfold execAonRstCtl at *
  grind [mk_canon, warmReset_canon]

theorem execBootAttempt_canon (flash : Option (List Byte)) (key : Option (Fin 4)) (sig gcm trained b0 b1 : Bool) (tests : List (Nat × Word32)) (s : State) (h9 : s.Canonical) (t' : State) (ht' : execBootAttempt flash key sig gcm trained b0 b1 tests s = .next t') : t'.Canonical := by
  unfold execBootAttempt at *
  grind [mk_canon, bootAttempt_canon]

theorem execBootTimeout_canon (t : Nat) (s : State) (h2 : s.Canonical) (t' : State) (ht' : execBootTimeout t s = .next t') : t'.Canonical := by
  unfold execBootTimeout at *
  grind [mk_canon, bootFail_canon, put_canon]

theorem execAonBootData_canon (v : Word32) (s : State) (h2 : s.Canonical) (t' : State) (ht' : execAonBootData v s = .next t') : t'.Canonical := by
  unfold execAonBootData at *
  grind [mk_canon]

theorem bootRetry_canon (s : State) (h1 : s.Canonical) : (bootRetry s).Canonical := by
  unfold bootRetry
  grind [mk_canon, clrF_canon, setF_canon, warmReset_canon]

theorem bootGo_canon (s : State) (t : Nat) (h1 : s.Canonical) : (bootGo s t).Canonical := by
  unfold bootGo
  grind [mk_canon, stamp_canon]

theorem bootCtl_canon (s : State) (v t : Nat) (h1 : s.Canonical) : (bootCtl s v t).Canonical := by
  unfold bootCtl
  grind [mk_canon, bootCtlStore_canon, bootGo_canon, bootRetry_canon]

theorem execAonBootGo_canon (x : Timed Word32) (s : State) (h2 : s.Canonical) (t' : State) (ht' : execAonBootGo x s = .next t') : t'.Canonical := by
  unfold execAonBootGo at *
  grind [mk_canon, bootCtl_canon]

theorem execAonBootRetry_canon (v : Word32) (s : State) (h2 : s.Canonical) (t' : State) (ht' : execAonBootRetry v s = .next t') : t'.Canonical := by
  unfold execAonBootRetry at *
  grind [mk_canon, bootCtl_canon]

theorem execB0Ready_canon (t : Nat) (s : State) (h2 : s.Canonical) (t' : State) (ht' : execB0Ready t s = .next t') : t'.Canonical := by
  unfold execB0Ready at *
  grind [mk_canon, bootReady_canon]

theorem execClockGate_canon (b : Fin 32) (refused : Bool) (t : Nat) (s : State) (h4 : s.Canonical) (t' : State) (ht' : execClockGate b refused t s = .next t') : t'.Canonical := by
  unfold execClockGate at *
  grind [mk_canon, clockGate_canon]

theorem execBlockWake_canon (b : Fin 32) (t : Nat) (s : State) (h3 : s.Canonical) (t' : State) (ht' : execBlockWake b t s = .next t') : t'.Canonical := by
  unfold execBlockWake at *
  grind [mk_canon, blockWake_canon, finSettle_canon]

theorem execWakeNFall_canon (s : State) (h1 : s.Canonical) (t' : State) (ht' : execWakeNFall s = .next t') : t'.Canonical := by
  unfold execWakeNFall at *
  grind [mk_canon, wakeEvent_canon]

theorem execPerstNRise_canon (s : State) (h1 : s.Canonical) (t' : State) (ht' : execPerstNRise s = .next t') : t'.Canonical := by
  unfold execPerstNRise at *
  grind [mk_canon, wakeEvent_canon]

theorem execWakeTimerExpiry_canon (t : Nat) (s : State) (h2 : s.Canonical) (t' : State) (ht' : execWakeTimerExpiry t s = .next t') : t'.Canonical := by
  unfold execWakeTimerExpiry at *
  grind [mk_canon, wakeUp_canon]

theorem execThermalHot_canon (d : BitVec 11) (s : State) (h2 : s.Canonical) (t' : State) (ht' : execThermalHot d s = .next t') : t'.Canonical := by
  unfold execThermalHot at *
  grind [mk_canon, setTemp_canon]

theorem execThermalCrit_canon (d : BitVec 11) (s : State) (h2 : s.Canonical) (t' : State) (ht' : execThermalCrit d s = .next t') : t'.Canonical := by
  unfold execThermalCrit at *
  grind [mk_canon, setTemp_canon]

theorem execJunctionBelow100c_canon (d : BitVec 11) (s : State) (h2 : s.Canonical) (t' : State) (ht' : execJunctionBelow100c d s = .next t') : t'.Canonical := by
  unfold execJunctionBelow100c at *
  grind [mk_canon, setTemp_canon]

theorem execSupplyOor_canon (s : State) (h1 : s.Canonical) (t' : State) (ht' : execSupplyOor s = .next t') : t'.Canonical := by
  unfold execSupplyOor at *
  grind [mk_canon, fault_canon, setCause_canon]

theorem execRailInRange_canon (s : State) (h1 : s.Canonical) (t' : State) (ht' : execRailInRange s = .next t') : t'.Canonical := by
  unfold execRailInRange at *
  grind [mk_canon, setCause_canon]

theorem execClkFail_canon (s : State) (h1 : s.Canonical) (t' : State) (ht' : execClkFail s = .next t') : t'.Canonical := by
  unfold execClkFail at *
  grind [mk_canon, fault_canon, setCause_canon]

theorem execClockRestored_canon (s : State) (h1 : s.Canonical) (t' : State) (ht' : execClockRestored s = .next t') : t'.Canonical := by
  unfold execClockRestored at *
  grind [mk_canon, setCause_canon]

theorem execHostLinkDown_canon (s : State) (h1 : s.Canonical) (t' : State) (ht' : execHostLinkDown s = .next t') : t'.Canonical := by
  unfold execHostLinkDown at *
  grind [mk_canon, fault_canon, setCause_canon]

theorem execHostLinkUp_canon (s : State) (h1 : s.Canonical) (t' : State) (ht' : execHostLinkUp s = .next t') : t'.Canonical := by
  unfold execHostLinkUp at *
  grind [mk_canon, finSettle_canon, setCause_canon]

end Sys2Proof.Machine
end

