-- ==== Sys2Proof/Laws/CanonExchange.lean ====
section
/-! SUPPORT. That the operations of Machine/Exchange.lean keep the canonical form of a state (Safety.lean). -/

namespace Sys2Proof.Machine

theorem installCmd_canon (c : RingCmd) (s : State) (h2 : s.Canonical) : (installCmd c s).Canonical := by
  unfold installCmd
  grind [mk_canon, complete_canon, installNext_canon, modPair_canon, modSeq_canon, put_canon]

theorem admitInstall_canon (s : State) (q p : Nat) (h1 : s.Canonical) : (admitInstall s q p).Canonical := by
  unfold admitInstall
  grind [mk_canon, installEnd_canon, installRefuse_canon, modPair_canon, noteRefusal_canon, setStandby_canon]

theorem admitAgain_canon (s : State) (q p : Nat) (cmd : Option RingCmd) (h1 : s.Canonical) : (admitAgain s q p cmd).Canonical := by
  unfold admitAgain
  grind [mk_canon, complete_canon, modPair_canon, noteRefusal_canon, put_canon, raiseP_canon]

theorem admitNext_canon (s : State) (h1 : s.Canonical) : (admitNext s).Canonical := by
  unfold admitNext
  grind [mk_canon, admitAgain_canon, admitInstall_canon]

theorem exchangeCmd_canon (c : RingCmd) (s : State) (k : Nat → Nat → State) (h1 : s.Canonical)
    (hk : ∀ q p : Nat, (k q p).Canonical) : (exchangeCmd c s k).Canonical := by
  unfold exchangeCmd
  simp only
  split
  · exact complete_canon _ _ _ _ h1
  · split
    · exact complete_canon _ _ _ _ h1
    · exact hk _ _

theorem swapCmd_canon (c : RingCmd) (s : State) (h2 : s.Canonical) : (swapCmd c s).Canonical := by
  unfold swapCmd
  grind [mk_canon, complete_canon, exchangeCmd_canon, modPair_canon]

theorem restartAgain_canon (s : State) (q p : Nat) (c : RingCmd) (h1 : s.Canonical) : (restartAgain s q p c).Canonical := by
  unfold restartAgain
  grind [mk_canon, complete_canon]

theorem restartCmd_canon (c : RingCmd) (s : State) (h2 : s.Canonical) : (restartCmd c s).Canonical := by
  unfold restartCmd
  grind [mk_canon, complete_canon, exchangeCmd_canon, modPair_canon, restartAgain_canon]

theorem execInstall_canon (p : Part) (r : Ring) (id : Nat) (s : State) (h4 : s.Canonical) (t' : State) (ht' : execInstall p r id s = .next t') : t'.Canonical := by
  unfold execInstall at *
  grind [mk_canon, finSettle_canon, installCmd_canon, withCmd_canon]

theorem execInstallImageLoaded_canon (q : Seq) (s : State) (h2 : s.Canonical) (t' : State) (ht' : execInstallImageLoaded q s = .next t') : t'.Canonical := by
  unfold execInstallImageLoaded at *
  grind [mk_canon, finSettle_canon, installCheck_canon]

theorem execAdmission_canon (s : State) (h1 : s.Canonical) (t' : State) (ht' : execAdmission s = .next t') : t'.Canonical := by
  unfold execAdmission at *
  grind [mk_canon, admitNext_canon, finSettle_canon]

theorem execSwap_canon (p : Part) (r : Ring) (id : Nat) (s : State) (h4 : s.Canonical) (t' : State) (ht' : execSwap p r id s = .next t') : t'.Canonical := by
  unfold execSwap at *
  grind [mk_canon, finSettle_canon, swapCmd_canon, withCmd_canon]

theorem execRestart_canon (p : Part) (r : Ring) (id : Nat) (s : State) (h4 : s.Canonical) (t' : State) (ht' : execRestart p r id s = .next t') : t'.Canonical := by
  unfold execRestart at *
  grind [mk_canon, finSettle_canon, restartCmd_canon, withCmd_canon]

theorem execSeqMigReq_canon (v : Word32) (s : State) (h2 : s.Canonical) (t' : State) (ht' : execSeqMigReq v s = .next t') : t'.Canonical := by
  unfold execSeqMigReq at *
  grind [mk_canon, answered_canon, put_canon]

theorem execSeqOnlineRequest_canon (v : Word32) (s : State) (h2 : s.Canonical) (t' : State) (ht' : execSeqOnlineRequest v s = .next t') : t'.Canonical := by
  unfold execSeqOnlineRequest at *
  grind [mk_canon, answered_canon]

theorem execSeqTestReq_canon (v : Word32) (s : State) (h2 : s.Canonical) (t' : State) (ht' : execSeqTestReq v s = .next t') : t'.Canonical := by
  unfold execSeqTestReq at *
  grind [mk_canon, answered_canon, put_canon]

theorem execSeqTestDone_canon (pass : Bool) (s : State) (h2 : s.Canonical) (t' : State) (ht' : execSeqTestDone pass s = .next t') : t'.Canonical := by
  unfold execSeqTestDone at *
  grind [mk_canon, put_canon]

end Sys2Proof.Machine
end

