-- ==== Sys2Proof/Laws/CanonPins.lean ====
section
/-! SUPPORT. That the operations of Machine/Pins.lean keep the canonical form of a state (Safety.lean). -/

namespace Sys2Proof.Machine

theorem pinErr_canon (s : State) (h1 : s.Canonical) : (pinErr s).Canonical := by
  unfold pinErr
  grind [mk_canon, setF_canon]

theorem modLine_canon (s : State) (n : Nat) (f : LineSt → LineSt) (h1 : s.Canonical) : (modLine s n f).Canonical := by
  unfold modLine
  grind [mk_canon]

theorem modLtc_canon (s : State) (f : Ltc → Ltc) (h1 : s.Canonical) : (modLtc s f).Canonical := by
  unfold modLtc
  grind [mk_canon]

theorem switchLine_canon (s : State) (n v t : Nat) (h1 : s.Canonical) : (switchLine s n v t).Canonical := by
  unfold switchLine
  grind [mk_canon, bump_canon, clrF_canon, modLine_canon, put_canon, settle_canon]

theorem stagedSwitches_canon (s : State) (h1 : s.Canonical) : (stagedSwitches s).Canonical := by
  unfold stagedSwitches
  grind [mk_canon, forN_canon, switchLine_canon]

theorem pulseLines_canon (s : State) (h1 : s.Canonical) : (pulseLines s).Canonical := by
  unfold pulseLines
  grind [mk_canon, forN_canon, modLine_canon]

theorem ltcSend_canon (s : State) (h1 : s.Canonical) : (ltcSend s).Canonical := by
  unfold ltcSend
  grind [mk_canon, modLtc_canon]

theorem ltcTick_canon (s : State) (h1 : s.Canonical) : (ltcTick s).Canonical := by
  unfold ltcTick
  grind [mk_canon, ltcSend_canon, put2_canon]

theorem ltcRateCheck_canon (s : State) (h1 : s.Canonical) : (ltcRateCheck s).Canonical := by
  unfold ltcRateCheck
  grind [mk_canon, clrF_canon, pinErr_canon]

theorem pinTick_canon (s : State) (h1 : s.Canonical) : (pinTick s).Canonical := by
  unfold pinTick
  grind [mk_canon, ltcTick_canon, pulseLines_canon, stagedSwitches_canon]

theorem setUart_canon (s : State) (u : Nat) (x : Uart) (h1 : s.Canonical) : (setUart s u x).Canonical := by
  unfold setUart
  grind [mk_canon, put_canon]

theorem setAux_canon (s : State) (b : Nat) (x : Aux) (h1 : s.Canonical) : (setAux s b x).Canonical := by
  unfold setAux
  grind [mk_canon]

theorem auxPush_canon (s : State) (b : Nat) (v : Byte) (h1 : s.Canonical) : (auxPush s b v).Canonical := by
  unfold auxPush
  grind [mk_canon, setAux_canon]

theorem auxPop_canon (s : State) (b : Nat) (h1 : s.Canonical) : (auxPop s b).Canonical := by
  unfold auxPop
  grind [mk_canon, setAux_canon, useFree_canon]

theorem uartCtl_canon (s : State) (u v : Nat) (h1 : s.Canonical) : (uartCtl s u v).Canonical := by
  unfold uartCtl
  grind [mk_canon, pinErr_canon, put_canon]

theorem execPinGlCfgWrite_canon (n : Line) (v : Word32) (t : Nat) (s : State) (h4 : s.Canonical) (t' : State) (ht' : execPinGlCfgWrite n v t s = .next t') : t'.Canonical := by
  unfold execPinGlCfgWrite at *
  grind [mk_canon, answered_canon, pinErr_canon, stamp_canon, switchLine_canon]

theorem execPinGlStageWrite_canon (n : Line) (v : Word32) (s : State) (h3 : s.Canonical) (t' : State) (ht' : execPinGlStageWrite n v s = .next t') : t'.Canonical := by
  unfold execPinGlStageWrite at *
  grind [mk_canon, answered_canon, pinErr_canon, put_canon, setF_canon]

theorem relevel_canon (s : State) (n : Nat) (h1 : s.Canonical) : (relevel s n).Canonical := by
  unfold relevel
  grind [mk_canon, forN_canon, setLevel_canon]

theorem execSwitchSettleEnd_canon (n : Line) (t : Nat) (s : State) (h3 : s.Canonical) (t' : State) (ht' : execSwitchSettleEnd n t s = .next t') : t'.Canonical := by
  unfold execSwitchSettleEnd at *
  grind [mk_canon, modLine_canon, relevel_canon, settle_canon, stamp_canon]

theorem disarmLine_canon (s : State) (o n : Nat) (h1 : s.Canonical) : (disarmLine s o n).Canonical := by
  unfold disarmLine
  grind [mk_canon, edgeDisarm_canon, forN_canon]

theorem execPinGlOwnerWrite_canon (n : Line) (v : Word32) (s : State) (h3 : s.Canonical) (t' : State) (ht' : execPinGlOwnerWrite n v s = .next t') : t'.Canonical := by
  unfold execPinGlOwnerWrite at *
  grind [mk_canon, answered_canon, disarmLine_canon, put_canon]

theorem execPinLtcCtlWrite_canon (v : Word32) (s : State) (h2 : s.Canonical) (t' : State) (ht' : execPinLtcCtlWrite v s = .next t') : t'.Canonical := by
  unfold execPinLtcCtlWrite at *
  grind [mk_canon, answered_canon, pinErr_canon, put_canon]

theorem execSyncOutPulseEnd_canon (n : Line) (t : Nat) (s : State) (h3 : s.Canonical) (t' : State) (ht' : execSyncOutPulseEnd n t s = .next t') : t'.Canonical := by
  unfold execSyncOutPulseEnd at *
  grind [mk_canon, modLine_canon, stamp_canon]

theorem execTickOutFall_canon (n : Line) (t : Nat) (s : State) (h3 : s.Canonical) (t' : State) (ht' : execTickOutFall n t s = .next t') : t'.Canonical := by
  unfold execTickOutFall at *
  grind [mk_canon, modLine_canon, stamp_canon]

theorem execLtcRxFrame_canon (data : Word64) (sync : Bool) (s : State) (h3 : s.Canonical) (t' : State) (ht' : execLtcRxFrame data sync s = .next t') : t'.Canonical := by
  unfold execLtcRxFrame at *
  grind [mk_canon, bump_canon, clrF_canon, modLtc_canon, setF_canon]

theorem execLtcTxFrameTimer_canon (t : Nat) (s : State) (h2 : s.Canonical) (t' : State) (ht' : execLtcTxFrameTimer t s = .next t') : t'.Canonical := by
  unfold execLtcTxFrameTimer at *
  grind [mk_canon, ltcSend_canon, modLtc_canon, stamp_canon]

theorem execUartRxByte_canon (u : Fin 4) (b : Byte) (s : State) (h3 : s.Canonical) (t' : State) (ht' : execUartRxByte u b s = .next t') : t'.Canonical := by
  unfold execUartRxByte at *
  grind [mk_canon, bump_canon, setUart_canon]

theorem execUartTxByte_canon (u : Fin 4) (s : State) (h2 : s.Canonical) (t' : State) (ht' : execUartTxByte u s = .next t') : t'.Canonical := by
  unfold execUartTxByte at *
  grind [mk_canon, setUart_canon]

theorem execPinUartDataWrite_canon (u : Fin 4) (v : Word32) (s : State) (h3 : s.Canonical) (t' : State) (ht' : execPinUartDataWrite u v s = .next t') : t'.Canonical := by
  unfold execPinUartDataWrite at *
  grind [mk_canon, answered_canon, setUart_canon]

theorem execPinUartDataRead_canon (u : Fin 4) (s : State) (h2 : s.Canonical) (t' : State) (ht' : execPinUartDataRead u s = .next t') : t'.Canonical := by
  unfold execPinUartDataRead at *
  grind [mk_canon, answered_canon, setUart_canon, useFree_canon]

theorem execPinI2cCmd_canon (b : Fin 4) (v : Word32) (s : State) (h3 : s.Canonical) (t' : State) (ht' : execPinI2cCmd b v s = .next t') : t'.Canonical := by
  unfold execPinI2cCmd at *
  grind [mk_canon, answered_canon, pinErr_canon, setAux_canon, setF_canon]

theorem execAuxI2cDone_canon (b : Fin 4) (nak : Bool) (data : List Byte) (s : State) (h4 : s.Canonical) (t' : State) (ht' : execAuxI2cDone b nak data s = .next t') : t'.Canonical := by
  unfold execAuxI2cDone at *
  grind [mk_canon, clrF_canon, setAux_canon, setF_canon]

end Sys2Proof.Machine
end

