-- ==== Sys2Proof/Laws/CanonSeqDev.lean ====
section
/-! SUPPORT. That the operations of Machine/SeqDev.lean keep the canonical form of a state (Safety.lean). -/

namespace Sys2Proof.Machine

theorem descRow_canon (s : State) (q p rd ra n : Nat) (sel : Option Nat) (ue : Bool) (h1 : s.Canonical) : (descRow s q p rd ra n sel ue).Canonical := by
  unfold descRow
  grind [mk_canon, descPass_canon, drainAll_canon, modPair_canon, orFault_canon, seqWrite_canon, stallCycles_canon, startOp_canon]

theorem moveStart_canon (s : State) (q p c : Nat) (r : DescRef) (h1 : s.Canonical) : (moveStart s q p c r).2.Canonical := by
  unfold moveStart
  grind [mk_canon, chStart_canon]

theorem blockOn_canon (s : State) (q p kind obj rd : Nat) (h1 : s.Canonical) : (blockOn s q p kind obj rd).Canonical := by
  unfold blockOn
  grind [mk_canon, leave_canon, modPair_canon]

theorem waitRow_canon (s : State) (q : Nat) (ecc : Ecc) (kind rd ra lim : Nat) (poll : Bool)
    (f : Nat → Nat → State → Option (Nat × State)) (h1 : s.Canonical)
    (hf : ∀ (o x : Nat) (s : State), s.Canonical → ∀ r, f o x s = some r → r.2.Canonical) :
    (waitRow s q ecc kind rd ra lim poll f).Canonical := by
  unfold waitRow
  refine seqRun_canon _ _ _ _ _ h1 ?_
  intro p s h
  simp only
  split
  · exact seqWrite_canon _ _ _ _ _ _ h
  · split
    · exact seqWrite_canon _ _ _ _ _ _ h
    · split
      · rename_i v s2 he
        exact seqWrite_canon _ _ _ _ _ _ (hf _ _ _ h _ he)
      · split
        · exact seqWrite_canon _ _ _ _ _ _ h
        · exact blockOn_canon _ _ _ _ _ _ (charge_canon _ _ _ _ h)

theorem waitTag_canon (o x : Nat) (s : State) (h3 : s.Canonical) (r' : Nat × State) (hr' : waitTag o x s = some r') : r'.2.Canonical := by
  unfold waitTag at *
  grind [mk_canon, modPart_canon]

theorem waitTimer_canon (o t : Nat) (s : State) (h3 : s.Canonical) (r' : Nat × State) (hr' : waitTimer o t s = some r') : r'.2.Canonical := by
  unfold waitTimer at *
  grind [mk_canon, put_canon]

theorem waitEdge_canon (o e : Nat) (s : State) (h3 : s.Canonical) (r' : Nat × State) (hr' : waitEdge o e s = some r') : r'.2.Canonical := by
  unfold waitEdge at *
  grind [mk_canon, setCaps_canon]

theorem waitBell_canon (o k : Nat) (s : State) (h3 : s.Canonical) (r' : Nat × State) (hr' : waitBell o k s = some r') : r'.2.Canonical := by
  unfold waitBell at *
  grind [mk_canon, modPart_canon]

theorem tsetRow_canon (s : State) (q : Nat) (ecc : Ecc) (mode rd ra tm : Nat) (h1 : s.Canonical) : (tsetRow s q ecc mode rd ra tm).Canonical := by
  unfold tsetRow
  grind [mk_canon, devRun_canon, seqRun_canon, tmrCancel_canon, tmrLoad_canon]

theorem tgetRow_canon (s : State) (q : Nat) (ecc : Ecc) (sel rd ra tm : Nat) (f : Nat → State → Nat × State) (h1 : s.Canonical)
    (hf : ∀ (o : Nat) (s : State), s.Canonical → (f o s).2.Canonical) : (tgetRow s q ecc sel rd ra tm f).Canonical := by
  unfold tgetRow
  refine seqRun_canon _ _ _ _ _ h1 ?_
  intro p s h
  simp only
  split
  · exact seqWrite_canon _ _ _ _ _ _ h
  · exact seqWrite_canon _ _ _ _ _ _ (hf _ _ h)

theorem tmrLeft_canon (s : State) (o t : Nat) (h1 : s.Canonical) : (tmrLeft s o t).2.Canonical := by
  unfold tmrLeft
  grind [mk_canon, useFree_canon]

theorem edgeArm_canon (s : State) (o e input edges : Nat) (once : Bool) (h1 : s.Canonical) : (edgeArm s o e input edges once).Canonical := by
  unfold edgeArm
  grind [mk_canon, edgeFlush_canon, put_canon, setLevel_canon]

theorem execIssue_canon (q : Seq) (ecc : Ecc) (rd ra : Fin 32) (ue : Bool) (t : Nat) (s : State) (h7 : s.Canonical) (t' : State) (ht' : execIssue q ecc rd ra ue t s = .next t') : t'.Canonical := by
  unfold execIssue at *
  grind [mk_canon, descRow_canon, finSettle_canon, seqRun_canon, stamp_canon]

theorem execSpool_canon (q : Seq) (ecc : Ecc) (rd ra : Fin 32) (sel : Fin 8) (ue : Bool) (t : Nat) (s : State) (h8 : s.Canonical) (t' : State) (ht' : execSpool q ecc rd ra sel ue t s = .next t') : t'.Canonical := by
  unfold execSpool at *
  grind [mk_canon, descRow_canon, finSettle_canon, seqRun_canon, stamp_canon]

theorem execMove_canon (q : Seq) (ecc : Ecc) (rd ra : Fin 32) (chan : Chan) (s : State) (h6 : s.Canonical) (t' : State) (ht' : execMove q ecc rd ra chan s = .next t') : t'.Canonical := by
  unfold execMove at *
  grind [mk_canon, drainAll_canon, finSettle_canon, moveStart_canon, orFault_canon, seqRun_canon, seqWrite_canon]

theorem execSig_canon (q : Seq) (ecc : Ecc) (rd ra : Fin 32) (src : BitVec 10) (s : State) (h6 : s.Canonical) (t' : State) (ht' : execSig q ecc rd ra src s = .next t') : t'.Canonical := by
  unfold execSig at *
  grind [mk_canon, devRun_canon, raise_canon, seqRun_canon]

theorem execWaitTick_canon (q : Seq) (ecc : Ecc) (rd ra : Fin 32) (poll : Bool) (s : State) (h6 : s.Canonical) (t' : State) (ht' : execWaitTick q ecc rd ra poll s = .next t') : t'.Canonical := by
  unfold execWaitTick at *
  grind [mk_canon, blockOn_canon, charge_canon, seqRun_canon, seqWrite_canon]

theorem execWaitTag_canon (q : Seq) (ecc : Ecc) (rd ra : Fin 32) (poll : Bool) (s : State) (h5 : s.Canonical) (t' : State)
    (ht' : execWaitTag q ecc rd ra poll s = .next t') : t'.Canonical := by
  unfold execWaitTag at ht'
  cases ht'
  refine seqRun_canon _ _ _ _ _ h5 ?_
  intro p s h
  simp only
  split
  · exact seqWrite_canon _ _ _ _ _ _ h
  · split
    · rename_i v s2 he
      exact seqWrite_canon _ _ _ _ _ _ (waitTag_canon _ _ _ h _ he)
    · split
      · exact seqWrite_canon _ _ _ _ _ _ h
      · exact blockOn_canon _ _ _ _ _ _ (charge_canon _ _ _ _ h)

theorem execWaitTimer_canon (q : Seq) (ecc : Ecc) (rd ra : Fin 32) (poll : Bool) (s : State) (h5 : s.Canonical) (t' : State)
    (ht' : execWaitTimer q ecc rd ra poll s = .next t') : t'.Canonical := by
  unfold execWaitTimer at ht'
  cases ht'
  exact waitRow_canon _ _ _ _ _ _ _ _ _ h5 fun _ _ _ h _ hr => waitTimer_canon _ _ _ h _ hr

theorem execWaitEdge_canon (q : Seq) (ecc : Ecc) (rd ra : Fin 32) (poll : Bool) (s : State) (h5 : s.Canonical) (t' : State)
    (ht' : execWaitEdge q ecc rd ra poll s = .next t') : t'.Canonical := by
  unfold execWaitEdge at ht'
  cases ht'
  exact waitRow_canon _ _ _ _ _ _ _ _ _ h5 fun _ _ _ h _ hr => waitEdge_canon _ _ _ h _ hr

theorem execWaitDoorbell_canon (q : Seq) (ecc : Ecc) (rd ra : Fin 32) (poll : Bool) (s : State) (h5 : s.Canonical) (t' : State)
    (ht' : execWaitDoorbell q ecc rd ra poll s = .next t') : t'.Canonical := by
  unfold execWaitDoorbell at ht'
  cases ht'
  exact waitRow_canon _ _ _ _ _ _ _ _ _ h5 fun _ _ _ h _ hr => waitBell_canon _ _ _ h _ hr

theorem execTsetCancel_canon (q : Seq) (ecc : Ecc) (rd ra tm : Fin 32) (s : State) (h6 : s.Canonical) (t' : State) (ht' : execTsetCancel q ecc rd ra tm s = .next t') : t'.Canonical := by
  unfold execTsetCancel at *
  grind [mk_canon, tsetRow_canon]

theorem execTsetOneshot_canon (q : Seq) (ecc : Ecc) (rd ra tm : Fin 32) (t : Nat) (s : State) (h7 : s.Canonical) (t' : State) (ht' : execTsetOneshot q ecc rd ra tm t s = .next t') : t'.Canonical := by
  unfold execTsetOneshot at *
  grind [mk_canon, stamp_canon, tsetRow_canon]

theorem execTsetPeriodic_canon (q : Seq) (ecc : Ecc) (rd ra tm : Fin 32) (t : Nat) (s : State) (h7 : s.Canonical) (t' : State) (ht' : execTsetPeriodic q ecc rd ra tm t s = .next t') : t'.Canonical := by
  unfold execTsetPeriodic at *
  grind [mk_canon, stamp_canon, tsetRow_canon]

theorem execTsetTickOneshot_canon (q : Seq) (ecc : Ecc) (rd ra tm : Fin 32) (s : State) (h6 : s.Canonical) (t' : State) (ht' : execTsetTickOneshot q ecc rd ra tm s = .next t') : t'.Canonical := by
  unfold execTsetTickOneshot at *
  grind [mk_canon, tsetRow_canon]

theorem execTsetTickPeriodic_canon (q : Seq) (ecc : Ecc) (rd ra tm : Fin 32) (s : State) (h6 : s.Canonical) (t' : State) (ht' : execTsetTickPeriodic q ecc rd ra tm s = .next t') : t'.Canonical := by
  unfold execTsetTickPeriodic at *
  grind [mk_canon, tsetRow_canon]

theorem execTgetNs_canon (q : Seq) (ecc : Ecc) (rd ra tm : Fin 32) (t : Nat) (s : State) (h7 : s.Canonical) (t' : State) (ht' : execTgetNs q ecc rd ra tm t s = .next t') : t'.Canonical := by
  unfold execTgetNs at *
  grind [mk_canon, stamp_canon, tgetRow_canon, tmrLeft_canon]

theorem execTgetPending_canon (q : Seq) (ecc : Ecc) (rd ra tm : Fin 32) (s : State) (h6 : s.Canonical) (t' : State) (ht' : execTgetPending q ecc rd ra tm s = .next t') : t'.Canonical := by
  unfold execTgetPending at *
  grind [mk_canon, tgetRow_canon]

theorem execTgetLost_canon (q : Seq) (ecc : Ecc) (rd ra tm : Fin 32) (s : State) (h6 : s.Canonical) (t' : State) (ht' : execTgetLost q ecc rd ra tm s = .next t') : t'.Canonical := by
  unfold execTgetLost at *
  grind [mk_canon, modTimer_canon, tgetRow_canon]

theorem execEarmArm_canon (q : Seq) (ecc : Ecc) (rd ra : Fin 32) (det : Fin 16) (edges : Fin 4) (once : Bool) (s : State) (h8 : s.Canonical) (t' : State) (ht' : execEarmArm q ecc rd ra det edges once s = .next t') : t'.Canonical := by
  unfold execEarmArm at *
  grind [mk_canon, devRun_canon, edgeArm_canon, seqRun_canon]

theorem execEarmDisarm_canon (q : Seq) (ecc : Ecc) (rd ra : Fin 32) (det : Fin 16) (once : Bool) (s : State) (h7 : s.Canonical) (t' : State) (ht' : execEarmDisarm q ecc rd ra det once s = .next t') : t'.Canonical := by
  unfold execEarmDisarm at *
  grind [mk_canon, devRun_canon, edgeDisarm_canon, put_canon, seqRun_canon]

theorem execQuantumExpiry_canon (q : Seq) (s : State) (h2 : s.Canonical) (t' : State) (ht' : execQuantumExpiry q s = .next t') : t'.Canonical := by
  unfold execQuantumExpiry at *
  grind [mk_canon, leave_canon]

theorem execTimerExpiry_canon (p : Part) (tm : Fin 32) (t : Nat) (s : State) (h4 : s.Canonical) (t' : State) (ht' : execTimerExpiry p tm t s = .next t') : t'.Canonical := by
  unfold execTimerExpiry at *
  grind [mk_canon, stamp_canon, tmrExpire_canon, tmrNext_canon]

theorem edgeSample_canon (s : State) (o e : Nat) (rise : Bool) (t : Nat) (h1 : s.Canonical) : (edgeSample s o e rise t).Canonical := by
  unfold edgeSample
  grind [mk_canon, edgeTake_canon, setLevel_canon, stamp_canon]

theorem execEdgeCapture_canon (p : Part) (det : Fin 16) (rise : Bool) (t : Nat) (s : State) (h5 : s.Canonical) (t' : State) (ht' : execEdgeCapture p det rise t s = .next t') : t'.Canonical := by
  unfold execEdgeCapture at *
  grind [mk_canon, edgeSample_canon]

theorem execProgramDoorbell_canon (p : Part) (k : Fin 16) (s : State) (h3 : s.Canonical) (t' : State) (ht' : execProgramDoorbell p k s = .next t') : t'.Canonical := by
  unfold execProgramDoorbell at *
  grind [mk_canon, answered_canon, bellRing_canon, inWindow_canon]

end Sys2Proof.Machine
end

