-- ==== Sys2Proof/Laws/CanonViews.lean ====
section
/-! SUPPORT. That the operations of Machine/Views.lean keep the canonical form of a state (Safety.lean). -/

namespace Sys2Proof.Machine

theorem countSkip_canon (s : State) (v m : Nat) (h1 : s.Canonical) : (countSkip s v m).Canonical := by
  unfold countSkip
  grind [mk_canon, bump_canon]

theorem viewDone_canon (s : State) (v part n : Nat) (h1 : s.Canonical) : (viewDone s v part n).Canonical := by
  unfold viewDone
  grind [mk_canon, countSkip_canon, fsWrite_canon]

theorem modMon_canon (s : State) (m : Nat) (f : MonSt → MonSt) (h1 : s.Canonical) : (modMon s m f).Canonical := by
  unfold modMon
  grind [mk_canon]

theorem monFetch_canon (s : State) (m v : Nat) (z : ViewShot) (h1 : s.Canonical) : (monFetch s m v z).2.Canonical := by
  unfold monFetch
  grind [mk_canon]

theorem monSend_canon (s : State) (m v t : Nat) (z : ViewShot) (h1 : s.Canonical) : (monSend s m v t z).Canonical := by
  unfold monSend
  grind [mk_canon, bump_canon, modMon_canon, monFetch_canon]

theorem monBad_canon (s : State) (m : Nat) (h1 : s.Canonical) : (monBad s m).Canonical := by
  unfold monBad
  grind [mk_canon, modMon_canon, setF_canon]

theorem monStart_canon (s : State) (m t : Nat) (h1 : s.Canonical) : (monStart s m t).Canonical := by
  unfold monStart
  grind [mk_canon, foldl_canon, monBad_canon, monSend_canon]

theorem viewMode_canon (s : State) (h1 : s.Canonical) : (viewMode s).Canonical := by
  unfold viewMode
  grind [mk_canon, forN_canon, modMon_canon]

theorem execViewFrameDone_canon (v : Fin 3) (part : Part) (tick : Nat) (s : State) (h4 : s.Canonical) (t' : State) (ht' : execViewFrameDone v part tick s = .next t') : t'.Canonical := by
  unfold execViewFrameDone at *
  grind [mk_canon, viewDone_canon]

theorem execMoFrameStart_canon (m : Fin 2) (t : Nat) (s : State) (h3 : s.Canonical) (t' : State) (ht' : execMoFrameStart m t s = .next t') : t'.Canonical := by
  unfold execMoFrameStart at *
  grind [mk_canon, monStart_canon, stamp_canon]

end Sys2Proof.Machine
end

