-- ==== Sys2Proof/Laws/CanonBoundary.lean ====
section
/-! SUPPORT. That the operations of Machine/Boundary.lean keep the canonical form of a state (Safety.lean). -/

namespace Sys2Proof.Machine

/-- A loop over a state and a flag keeps the canonical form. -/
theorem foldl_fst_canon {α : Type} (l : List α) (f : State × Bool → α → State × Bool) (a : State × Bool) (h : a.1.Canonical)
    (hf : ∀ (a : State × Bool) (x : α), a.1.Canonical → (f a x).1.Canonical) : (l.foldl f a).1.Canonical := by
  induction l generalizing a with
  | nil => exact h
  | cons x l ih => exact ih _ (hf a x h)

theorem tickNumber_canon (s : State) (t : Nat) (h1 : s.Canonical) : (tickNumber s t).Canonical := by
  unfold tickNumber
  grind [mk_canon, stamp_canon]

theorem rateCommit_canon (s : State) (h1 : s.Canonical) : (rateCommit s).Canonical := by
  unfold rateCommit
  grind [mk_canon, ltcRateCheck_canon, put_canon, setF_canon]

theorem sourceCommit_canon (s : State) (h1 : s.Canonical) : (sourceCommit s).Canonical := by
  unfold sourceCommit
  grind [mk_canon, clrF_canon, put_canon]

theorem cyclesStep_canon (s : State) (h1 : s.Canonical) : (cyclesStep s).Canonical := by
  unfold cyclesStep
  grind [mk_canon, foldl_canon, forN_canon, modPair_canon, modSeq_canon, put_canon, putMax_canon, stallTick_canon]

theorem timerTick_canon (s : State) (p k t : Nat) (h1 : s.Canonical) : (timerTick s p k t).Canonical := by
  unfold timerTick
  grind [mk_canon, bump_canon, modTimer_canon, tmrExpire_canon, tmrNext_canon]

theorem timersStep_canon (s : State) (t : Nat) (h1 : s.Canonical) : (timersStep s t).Canonical := by
  unfold timersStep
  grind [mk_canon, forN_canon, timerTick_canon]

theorem noteLate_canon (s : State) (stage part n : Nat) (h1 : s.Canonical) : (noteLate s stage part n).Canonical := by
  unfold noteLate
  grind [mk_canon, bump_canon, put_canon, put2_canon, raiseAll_canon]

theorem markLate_canon (s : State) (clip n : Nat) (h1 : s.Canonical) : (markLate s clip n).Canonical := by
  unfold markLate
  grind [mk_canon, modClip_canon]

theorem judgeCapture_canon (e : Nat) (x : Frame) (a : State × Bool) (h3 : a.1.Canonical) : (judgeCapture e x a).1.Canonical := by
  unfold judgeCapture
  grind [mk_canon, noteLate_canon]

theorem judgeCode_canon (e : Nat) (x : Frame) (a : State × Bool) (c : ClipFrame) (h3 : a.1.Canonical) : (judgeCode e x a c).1.Canonical := by
  unfold judgeCode
  grind [mk_canon, modClipFrame_canon, noteLate_canon]

theorem judgeCommit_canon (e : Nat) (x : Frame) (a : State × Bool) (c : ClipFrame) (h3 : a.1.Canonical) : (judgeCommit e x a c).1.Canonical := by
  unfold judgeCommit
  grind [mk_canon, markLate_canon, modClipFrame_canon, noteLate_canon]

theorem judgeLoose_canon (e : Nat) (x : Frame) (a : State × Bool) (h3 : a.1.Canonical) : (judgeLoose e x a).1.Canonical := by
  unfold judgeLoose
  grind [mk_canon, noteLate_canon]

theorem judgeFrame_canon (e : Nat) (a : State × Bool) (x : Frame) (h2 : a.1.Canonical) : (judgeFrame e a x).1.Canonical := by
  unfold judgeFrame
  refine foldl_fst_canon _ _ _ (foldl_fst_canon _ _ _ (judgeLoose_canon _ _ _ (judgeCapture_canon _ _ _ h2)) ?_) ?_
  · exact fun a c h => judgeCode_canon _ _ _ _ h
  · exact fun a c h => judgeCommit_canon _ _ _ _ h

theorem moveLevel_canon (s : State) (late : Bool) (h1 : s.Canonical) : (moveLevel s late).Canonical := by
  unfold moveLevel
  grind [mk_canon, put_canon]

theorem judgeStep_canon (s : State) (h1 : s.Canonical) : (judgeStep s).Canonical := by
  unfold judgeStep
  exact releaseSlots_canon _ (moveLevel_canon _ _ (foldl_fst_canon _ _ _ h1 fun a x h => judgeFrame_canon _ _ _ h))

theorem emptyPair_canon (s : State) (q p : Nat) (h1 : s.Canonical) : (emptyPair s q p).Canonical := by
  unfold emptyPair
  grind [mk_canon, drainAll_canon, modPair_canon, modSeq_canon, restoreRange_canon]

theorem resetStep_canon (s : State) (p : Nat) (h1 : s.Canonical) : (resetStep s p).Canonical := by
  unfold resetStep
  grind [mk_canon, emptyPair_canon, foldl_canon, forN_canon, modPart_canon, whipClip_canon]

theorem resetsStep_canon (s : State) (h1 : s.Canonical) : (resetsStep s).Canonical := by
  unfold resetsStep
  grind [mk_canon, forN_canon, resetStep_canon]

theorem sharesStep_canon (s : State) (h1 : s.Canonical) : (sharesStep s).Canonical := by
  unfold sharesStep
  grind [mk_canon]

theorem modeEffect_canon (s : State) (m reason : Nat) (h1 : s.Canonical) : (modeEffect s m reason).Canonical := by
  unfold modeEffect
  grind [mk_canon, intakeMode_canon, modeRefuse_canon, queueReadmit_canon, raiseAll_canon, setMode_canon, viewMode_canon]

theorem leaveNow_canon (s : State) (h1 : s.Canonical) : (leaveNow s).Canonical := by
  unfold leaveNow
  grind [mk_canon, leave_canon]

theorem forcePreview_canon (s : State) (h1 : s.Canonical) : (forcePreview s).Canonical := by
  unfold forcePreview
  grind [mk_canon, foldl_canon, leaveNow_canon, setTransition_canon, whipClip_canon]

theorem modeStep_canon (s : State) (h1 : s.Canonical) : (modeStep s).Canonical := by
  unfold modeStep
  grind [mk_canon, forcePreview_canon, leaveNow_canon, modeEffect_canon, modeRefuse_canon, noTransition_canon, openClips_canon]

theorem startProg_canon (s : State) (q p : Nat) (h1 : s.Canonical) : (startProg s q p).Canonical := by
  unfold startProg
  grind [mk_canon, drainAll_canon, modPair_canon, modSeq_canon, put_canon]

theorem timersHandover_canon (s : State) (o policy : Nat) (h1 : s.Canonical) : (timersHandover s o policy).Canonical := by
  unfold timersHandover
  grind [mk_canon, forN_canon, tmrCancel_canon]

theorem swapPair_canon (s : State) (q p : Nat) (h1 : s.Canonical) : (swapPair s q p).Canonical := by
  unfold swapPair
  grind [mk_canon, drainAll_canon, modPair_canon, put_canon, setActive_canon, timersHandover_canon]

theorem pairStep_canon (s : State) (q p : Nat) (h1 : s.Canonical) : (pairStep s q p).Canonical := by
  unfold pairStep
  grind [mk_canon, complete_canon, modPair_canon, restartAgain_canon, startProg_canon, swapPair_canon]

theorem pairsStep_canon (s : State) (h1 : s.Canonical) : (pairsStep s).Canonical := by
  unfold pairsStep
  grind [mk_canon, forN_canon, pairStep_canon]

theorem policyStep_canon (s : State) (h1 : s.Canonical) : (policyStep s).Canonical := by
  unfold policyStep
  grind [mk_canon, put_canon]

theorem movePair_canon (a b : Nat) (s : State) (m : Nat × Nat) (h3 : s.Canonical) : (movePair a b s m).Canonical := by
  unfold movePair
  grind [mk_canon, drainAll_canon, foldl_canon, installRefuse_canon, modPair_canon, put_canon, setF_canon]

theorem migStart_canon (s : State) (h1 : s.Canonical) : (migStart s).Canonical := by
  unfold migStart
  grind [mk_canon, foldl_canon, modSeq_canon, movePair_canon, put_canon]

theorem postOf_canon (o : Nat) (w : WaitSt) (s : State) (h3 : s.Canonical) (r' : Nat × State) (hr' : postOf o w s = some r') : r'.2.Canonical := by
  unfold postOf at *
  grind [mk_canon, waitBell_canon, waitEdge_canon, waitTag_canon, waitTimer_canon]

theorem postHeld_canon (s : State) (i : Nat) (h1 : s.Canonical) : (postHeld s i).Canonical := by
  unfold postHeld
  dsimp only
  cases (pairOf s (i / 8) (i % 8)).wait with
  | none => exact h1
  | some w =>
    refine ite_canon h1 ?_
    cases hp : postOf (ownerOf s (i / 8) (i % 8)) w s with
    | none => exact h1
    | some r => exact wake_canon _ _ _ _ (postOf_canon _ _ _ h1 _ hp)


theorem migResume_canon (s : State) (h1 : s.Canonical) : (migResume s).Canonical := by
  unfold migResume
  grind [mk_canon, bump_canon, foldl_canon, forN_canon, modPair_canon, postHeld_canon, put_canon, raiseP_canon]

theorem onlineStep_canon (s : State) (h1 : s.Canonical) : (onlineStep s).Canonical := by
  unfold onlineStep
  grind [mk_canon, foldl_canon, put_canon]

theorem wakeTick_canon (s : State) (q p : Nat) (h1 : s.Canonical) : (wakeTick s q p).Canonical := by
  unfold wakeTick
  cases (pairOf s q p).wait with
  | none => exact h1
  | some w =>
    refine ite_canon h1 ?_
    have h2 := put_canon _ (R.SEQ_PAIR_STAT_STATE q p) stRunnable (modPair_canon _ q p (fun y => { y with
      wait := none, pc := y.pc + 4, tickRef := (setGreg s q p w.rd ((2 ^ 64 + s.tick.no - (pairOf s q p).tickRef) % 2 ^ 64)).tick.no })
      (setGreg_canon s q p w.rd ((2 ^ 64 + s.tick.no - (pairOf s q p).tickRef) % 2 ^ 64) h1))
    have h3 := ite_canon (c := 1 < (2 ^ 64 + s.tick.no - (pairOf s q p).tickRef) % 2 ^ 64) (bump_canon _ (R.SEQ_PAIR_LATE_CNT_COUNT q p) h2) h2
    exact ite_canon (progFault_canon _ _ _ _ _ _ h3) h3

theorem resumeStep_canon (s : State) (h1 : s.Canonical) : (resumeStep s).Canonical := by
  unfold resumeStep
  grind [mk_canon, forN_canon, noteExcess_canon, pick_canon, wakeTick_canon]

theorem moversStep_canon (s : State) (h1 : s.Canonical) : (moversStep s).Canonical := by
  unfold moversStep
  grind [mk_canon, chNext_canon, forN_canon]

theorem proxyGap_canon (t : Nat) (s : State) (c : Clip) (h2 : s.Canonical) : (proxyGap t s c).Canonical := by
  unfold proxyGap
  grind [mk_canon, placeRecord_canon]

theorem dropProxy_canon (s : State) (x : Frame) (h1 : s.Canonical) : (dropProxy s x).Canonical := by
  unfold dropProxy
  grind [mk_canon, foldl_canon, modFrame_canon, proxyGap_canon]

theorem cancelLane_canon (l : Nat) (s : State) (h2 : s.Canonical) : (cancelLane l s).Canonical := by
  unfold cancelLane
  grind [mk_canon, endJob_canon, foldl_canon, jobRecord_canon, modLane_canon]

theorem frameStep_canon (s : State) (h1 : s.Canonical) : (frameStep s).Canonical := by
  unfold frameStep
  grind [mk_canon, cancelLane_canon, dropProxy_canon, foldl_canon, forN_canon, openFrame_canon, proxyGap_canon, pruneFrames_canon]

theorem belayEarly_canon (s : State) (h1 : s.Canonical) : (belayEarly s).Canonical := by
  unfold belayEarly
  grind [mk_canon, magDrops_canon, modeStep_canon]

theorem belayLate_canon (s : State) (h1 : s.Canonical) : (belayLate s).Canonical := by
  unfold belayLate
  grind [mk_canon, belaySwitch_canon, boundaryLanes_canon, forN_canon, renewReady_canon]

theorem stagedStep_canon (s : State) (h1 : s.Canonical) : (stagedStep s).Canonical := by
  unfold stagedStep
  grind [mk_canon, showStride_canon, viewMode_canon]

theorem boundary_canon (s : State) (t : Nat) (h1 : s.Canonical) : (boundary s t).Canonical := by
  unfold boundary
  grind [mk_canon, belayEarly_canon, belayLate_canon, captureClose_canon, cyclesStep_canon, frameStep_canon, freqBoundary_canon, haltExcluded_canon, judgeStep_canon, migResume_canon, migStart_canon, moversStep_canon, onlineStep_canon, overcommitTest_canon, pairsStep_canon, pinTick_canon, policyStep_canon, raiseAll_canon, rateCommit_canon, resetsStep_canon, resumeStep_canon, sharesStep_canon, sourceCommit_canon, stagedStep_canon, tickNumber_canon, timersStep_canon]

end Sys2Proof.Machine
end

