-- ==== Sys2Proof/Laws/CanonTick.lean ====
section
/-! SUPPORT. That the operations of Machine/Tick.lean keep the canonical form of a state (Safety.lean). -/

namespace Sys2Proof.Machine

theorem pairEdge_canon (s : State) (t : Nat) (h1 : s.Canonical) : (pairEdge s t).Canonical := by
  unfold pairEdge
  grind [mk_canon]

theorem edgeTick_canon (s : State) (t : Nat) (h1 : s.Canonical) : (edgeTick s t).Canonical := by
  unfold edgeTick
  grind [mk_canon, boundary_canon, clrF_canon]

theorem tickInEdge_canon (s : State) (t d : Nat) (h1 : s.Canonical) : (tickInEdge s t d).Canonical := by
  unfold tickInEdge
  grind [mk_canon, bump_canon, edgeTick_canon, pairEdge_canon, stamp_canon]

theorem holdoverTick_canon (s : State) (t : Nat) (h1 : s.Canonical) : (holdoverTick s t).Canonical := by
  unfold holdoverTick
  grind [mk_canon, boundary_canon, bump_canon, setF_canon]

theorem lockLost_canon (s : State) (h1 : s.Canonical) : (lockLost s).Canonical := by
  unfold lockLost
  grind [mk_canon, clrF_canon, setF_canon]

theorem genlockEdge_canon (s : State) (err : Int) (t : Nat) (h1 : s.Canonical) : (genlockEdge s err t).Canonical := by
  unfold genlockEdge
  grind [mk_canon, clrF_canon, lockLost_canon, putInt_canon, setF_canon, stamp_canon]

theorem tickCtlWrite_canon (s : State) (v : Nat) (h1 : s.Canonical) : (tickCtlWrite s v).Canonical := by
  unfold tickCtlWrite
  grind [mk_canon, put_canon, setF_canon]

theorem rateDenWrite_canon (s : State) (v : Nat) (h1 : s.Canonical) : (rateDenWrite s v).Canonical := by
  unfold rateDenWrite
  grind [mk_canon, put_canon]

theorem admLimitWrite_canon (s : State) (v : Nat) (h1 : s.Canonical) : (admLimitWrite s v).Canonical := by
  unfold admLimitWrite
  grind [mk_canon, put_canon, setF_canon]

theorem setLatch_canon (s : State) (p : Nat) (x : Option Nat) (h1 : s.Canonical) : (setLatch s p x).Canonical := by
  unfold setLatch
  grind [mk_canon]

theorem tickLoRead_canon (s : State) (p : Nat) (h1 : s.Canonical) : (tickLoRead s p).Canonical := by
  unfold tickLoRead
  grind [mk_canon, setLatch_canon]

theorem tickHiRead_canon (s : State) (p : Nat) (h1 : s.Canonical) : (tickHiRead s p).Canonical := by
  unfold tickHiRead
  grind [mk_canon, setLatch_canon]

theorem dormStart_canon (s : State) (t : Nat) (h1 : s.Canonical) : (dormStart s t).Canonical := by
  unfold dormStart
  grind [mk_canon, addOp_canon, forN_canon, stamp_canon]

theorem modeRequest_canon (s : State) (m t : Nat) (h1 : s.Canonical) : (modeRequest s m t).Canonical := by
  unfold modeRequest
  grind [mk_canon, dormStart_canon, setTransition_canon]

theorem execFreeRunTick_canon (t : Nat) (s : State) (h2 : s.Canonical) (t' : State) (ht' : execFreeRunTick t s = .next t') : t'.Canonical := by
  unfold execFreeRunTick at *
  grind [mk_canon, boundary_canon, finSettle_canon]

theorem execTickInEdge_canon (rise : Timed Bool) (d : Fin 49) (s : State) (h3 : s.Canonical) (t' : State) (ht' : execTickInEdge rise d s = .next t') : t'.Canonical := by
  unfold execTickInEdge at *
  grind [mk_canon, finSettle_canon, tickInEdge_canon]

theorem execHoldoverTick_canon (t : Nat) (s : State) (h2 : s.Canonical) (t' : State) (ht' : execHoldoverTick t s = .next t') : t'.Canonical := by
  unfold execHoldoverTick at *
  grind [mk_canon, finSettle_canon, holdoverTick_canon]

theorem execGenlockEdge_canon (err : Int) (rise : Timed Bool) (s : State) (h3 : s.Canonical) (t' : State) (ht' : execGenlockEdge err rise s = .next t') : t'.Canonical := by
  unfold execGenlockEdge at *
  grind [mk_canon, genlockEdge_canon]

theorem execGenlockTick_canon (t : Nat) (s : State) (h2 : s.Canonical) (t' : State) (ht' : execGenlockTick t s = .next t') : t'.Canonical := by
  unfold execGenlockTick at *
  grind [mk_canon, boundary_canon, finSettle_canon]

theorem execGenlockEdgeMissing_canon (t : Nat) (s : State) (h2 : s.Canonical) (t' : State) (ht' : execGenlockEdgeMissing t s = .next t') : t'.Canonical := by
  unfold execGenlockEdgeMissing at *
  grind [mk_canon, lockLost_canon, stamp_canon]

theorem execTickRateDenWrite_canon (v : Word32) (s : State) (h2 : s.Canonical) (t' : State) (ht' : execTickRateDenWrite v s = .next t') : t'.Canonical := by
  unfold execTickRateDenWrite at *
  grind [mk_canon, answered_canon, rateDenWrite_canon]

theorem execTickNoLoad_canon (v : Word32) (s : State) (h2 : s.Canonical) (t' : State) (ht' : execTickNoLoad v s = .next t') : t'.Canonical := by
  unfold execTickNoLoad at *
  grind [mk_canon, answered_canon, tickCtlWrite_canon]

theorem execTickNoLoRead_canon (p : Part) (s : State) (h2 : s.Canonical) (t' : State) (ht' : execTickNoLoRead p s = .next t') : t'.Canonical := by
  unfold execTickNoLoRead at *
  grind [mk_canon, answered_canon, inWindow_canon, tickLoRead_canon]

theorem execTickNoHiRead_canon (p : Part) (s : State) (h2 : s.Canonical) (t' : State) (ht' : execTickNoHiRead p s = .next t') : t'.Canonical := by
  unfold execTickNoHiRead at *
  grind [mk_canon, answered_canon, inWindow_canon, tickHiRead_canon]

theorem execTickAdmLimitWrite_canon (v : Word32) (s : State) (h2 : s.Canonical) (t' : State) (ht' : execTickAdmLimitWrite v s = .next t') : t'.Canonical := by
  unfold execTickAdmLimitWrite at *
  grind [mk_canon, admLimitWrite_canon, answered_canon]

theorem execModeRequest_canon (v : Word32) (t : Nat) (s : State) (h3 : s.Canonical) (t' : State) (ht' : execModeRequest v t s = .next t') : t'.Canonical := by
  unfold execModeRequest at *
  grind [mk_canon, answered_canon, finSettle_canon, modeRefuse_canon, modeRequest_canon]

end Sys2Proof.Machine
end

