-- ==== Sys2Proof/Laws/CanonAccess.lean ====
section
/-! SUPPORT. That the operations of Machine/Access.lean keep the canonical form of a state (Safety.lean). -/

namespace Sys2Proof.Machine

theorem accErr_canon (s : State) (win : Option Part) (unmapped : Bool) (off : Nat) (h1 : s.Canonical) : (accErr s win unmapped off).Canonical := by
  unfold accErr
  grind [mk_canon, bump_canon, put_canon, raiseP_canon, setF_canon]

theorem failAccess_canon (s : State) (win : Option Part) (write : Bool) (off : Nat) (lanes : List Bool) (h1 : s.Canonical) : (failAccess s win write off lanes).Canonical := by
  unfold failAccess
  grind [mk_canon, accErr_canon]

theorem writeFld_canon (v : Nat) (s : State) (f : Fld) (h2 : s.Canonical) : (writeFld v s f).Canonical := by
  unfold writeFld
  grind [mk_canon, put_canon]

theorem writeWord_canon (s : State) (a v : Nat) (h1 : s.Canonical) : (writeWord s a v).Canonical := by
  unfold writeWord
  grind [mk_canon, foldl_canon, writeFld_canon]

theorem clearRead_canon (s : State) (a : Nat) (h1 : s.Canonical) : (clearRead s a).Canonical := by
  unfold clearRead
  grind [mk_canon, clrF_canon, foldl_canon]

theorem readReg_canon (s : State) (a : Nat) (h1 : s.Canonical) : (readReg s a).Canonical := by
  unfold readReg
  grind [mk_canon, auxPop_canon, clearRead_canon, put_canon, useFree_canon]

theorem sqCfgWrite_canon (s : State) (p r a v : Nat) (ok : Bool) (h1 : s.Canonical) : (sqCfgWrite s p r a v ok).Canonical := by
  unfold sqCfgWrite
  grind [mk_canon, put_canon, setF_canon, writeWord_canon]

theorem cqCfgWrite_canon (s : State) (p r a v : Nat) (ok : Bool) (h1 : s.Canonical) : (cqCfgWrite s p r a v ok).Canonical := by
  unfold cqCfgWrite
  grind [mk_canon, put_canon, setF_canon, writeWord_canon]

theorem winWrite_canon (s : State) (p off v : Nat) (h1 : s.Canonical) : (winWrite s p off v).Canonical := by
  unfold winWrite
  grind [mk_canon, cqCfgWrite_canon, msixMask_canon, msixSet_canon, pwHubErr_canon, sqCfgWrite_canon, writeWord_canon]

theorem ownerWrite_canon (s : State) (q p v : Nat) (h1 : s.Canonical) : (ownerWrite s q p v).Canonical := by
  unfold ownerWrite
  grind [mk_canon, put_canon, setF_canon]

theorem poolCfgWrite_canon (s : State) (a v : Nat) (ok : Bool) (h1 : s.Canonical) : (poolCfgWrite s a v ok).Canonical := by
  unfold poolCfgWrite
  grind [mk_canon, setF_canon, writeWord_canon]

theorem openStoreWrite_canon (s : State) (a v : Nat) (h1 : s.Canonical) : (openStoreWrite s a v).Canonical := by
  unfold openStoreWrite
  grind [mk_canon, put_canon, setF_canon, writeWord_canon]

theorem injWrite_canon (s : State) (a v : Nat) (h1 : s.Canonical) : (injWrite s a v).Canonical := by
  have key : ∀ s : State, s.Canonical → ∀ (a i k : Nat) (c1 c2 c3 c4 c5 c6 : Prop) [Decidable c1] [Decidable c2] [Decidable c3]
      [Decidable c4] [Decidable c5] [Decidable c6],
      (if c1 then writeWord s a v
      else if c2 then
        (if c3 then setF s R.INJ_STAT_CFGERR
        else if c4 then injStart (writeWord s a v) i
        else writeWord s a v)
      else if c5 then s
      else if c6 then setF s R.INJ_STAT_CFGERR
      else writeWord s a v).Canonical := by
    intro s h a i k c1 c2 c3 c4 c5 c6 _ _ _ _ _ _
    have hw := writeWord_canon s a v h
    have hc := setF_canon _ R.INJ_STAT_CFGERR h
    exact ite_canon hw (ite_canon (ite_canon hc (ite_canon (injStart_canon _ _ hw) hw)) (ite_canon h (ite_canon hc hw)))
  unfold injWrite
  exact key _ (mk_canon s h1 ..) a ((a - 0x341000) / 0x20) 0 _ _ _ _ _ _

theorem fltMaskWrite_canon (s : State) (w v : Nat) (h1 : s.Canonical) : (fltMaskWrite s w v).Canonical := by
  unfold fltMaskWrite
  grind [mk_canon, forN_canon, put_canon]

theorem bootLenWrite_canon (s : State) (v : Nat) (h1 : s.Canonical) : (bootLenWrite s v).Canonical := by
  unfold bootLenWrite
  grind [mk_canon, put_canon]

theorem aonWrite_canon (s : State) (a v : Nat) (h1 : s.Canonical) : (aonWrite s a v).Canonical := by
  unfold aonWrite
  grind [mk_canon, bootCtlStore_canon, bootLenWrite_canon, writeWord_canon]

theorem bar0Write_canon (s : State) (a v : Nat) (h1 : s.Canonical) : (bar0Write s a v).Canonical := by
  have hw := writeWord_canon s a v h1
  have hc := fun f => setF_canon s f h1
  unfold bar0Write
  exact ite_canon (ite_canon h1 (tickCtlWrite_canon _ _ h1)) <| ite_canon (ite_canon hw (hc _)) <|
    ite_canon (aonWrite_canon _ _ _ h1) <| ite_canon (openStoreWrite_canon _ _ _ h1) <| ite_canon (ownerWrite_canon _ _ _ _ h1) <|
    ite_canon (ite_canon hw h1) <| ite_canon (poolCfgWrite_canon _ _ _ _ h1) <| ite_canon (poolCfgWrite_canon _ _ _ _ h1) <|
    ite_canon (poolCfgWrite_canon _ _ _ _ h1) <| ite_canon (ite_canon hw (hc _)) <|
    ite_canon (ite_canon h1 (magCtlWrite_canon _ _ _ h1)) <| ite_canon (ite_canon hw (hc _)) <|
    ite_canon (cacheFlush_canon _ _ (fuaAll_canon _ _ hw)) <| ite_canon (ite_canon h1 hw) <|
    ite_canon (fltMaskWrite_canon _ _ _ h1) <| ite_canon (injWrite_canon _ _ _ h1) <| ite_canon (uartCtl_canon _ _ _ h1) <|
    ite_canon (auxPush_canon _ _ _ h1) hw

theorem cfgWrite_canon (s : State) (p : Part) (r : CfgReg) (v : Nat) (h1 : s.Canonical) : (cfgWrite s p r v).Canonical := by
  unfold cfgWrite
  grind [mk_canon, modCfg_canon, msixControl_canon, msixFlushAll_canon]

theorem cfgLock_canon (s : State) (h1 : s.Canonical) : (cfgLock s).Canonical := by
  unfold cfgLock
  grind [mk_canon, setF_canon]

theorem stageOld_canon (s : State) (a : Nat) (h1 : s.Canonical) : (stageOld s a).Canonical := by
  unfold stageOld
  grind [mk_canon]

theorem intCtlWrite_canon (s : State) (v : Nat) (h1 : s.Canonical) : (intCtlWrite s v).Canonical := by
  unfold intCtlWrite
  grind [mk_canon, cfgLock_canon, put_canon, showStride_canon, stageOld_canon]

theorem lockedWrite_canon (s : State) (a v : Nat) (h1 : s.Canonical) : (lockedWrite s a v).Canonical := by
  unfold lockedWrite
  grind [mk_canon, cfgLock_canon, intCtlWrite_canon, showStride_canon, writeWord_canon]

theorem stagedWrite_canon (s : State) (a v : Nat) (h1 : s.Canonical) : (stagedWrite s a v).Canonical := by
  unfold stagedWrite
  grind [mk_canon, intCtlWrite_canon, stageOld_canon, writeWord_canon]

theorem setLut_canon (s : State) (v k i x : Nat) (h1 : s.Canonical) : (setLut s v k i x).Canonical := by
  unfold setLut
  grind [mk_canon]

theorem lutWrite_canon (s : State) (v x : Nat) (h1 : s.Canonical) : (lutWrite s v x).Canonical := by
  unfold lutWrite
  grind [mk_canon, put_canon, setLut_canon]

theorem execAccessSizeError_canon (win : Option Part) (write : Bool) (off : Nat) (lanes : List Bool) (s : State) (h5 : s.Canonical) (t' : State) (ht' : execAccessSizeError win write off lanes s = .next t') : t'.Canonical := by
  unfold execAccessSizeError at *
  grind [mk_canon, failAccess_canon]

theorem execAccessUnmapped_canon (win : Option Part) (write : Bool) (x : BusBytes) (s : State) (h4 : s.Canonical) (t' : State) (ht' : execAccessUnmapped win write x s = .next t') : t'.Canonical := by
  unfold execAccessUnmapped at *
  grind [mk_canon, failAccess_canon]

theorem busWrite_canon (s : State) (win : Option Part) (off v : Nat) (h1 : s.Canonical) : (busWrite s win off v).Canonical := by
  unfold busWrite
  grind [mk_canon, bar0Write_canon, failAccess_canon, winWrite_canon]

theorem busRead_canon (s : State) (win : Option Part) (off : Nat) (h1 : s.Canonical) : (busRead s win off).Canonical := by
  unfold busRead
  grind [mk_canon, failAccess_canon, readReg_canon]

theorem execRegisterWrite_canon (a : RegAddr) (v : Word32) (s : State) (h3 : s.Canonical) (t' : State) (ht' : execRegisterWrite a v s = .next t') : t'.Canonical := by
  unfold execRegisterWrite at *
  grind [mk_canon, busWrite_canon, cfgWrite_canon, finSettle_canon, testWrite_canon]

theorem execReadClear_canon (a : RegAddr) (s : State) (h2 : s.Canonical) (t' : State) (ht' : execReadClear a s = .next t') : t'.Canonical := by
  unfold execReadClear at *
  grind [mk_canon, busRead_canon, testRead_canon]

theorem execLockedRegisterWrite_canon (off : Nat) (v : Word32) (s : State) (h3 : s.Canonical) (t' : State) (ht' : execLockedRegisterWrite off v s = .next t') : t'.Canonical := by
  unfold execLockedRegisterWrite at *
  grind [mk_canon, answered_canon, lockedWrite_canon]

theorem execStagedRegisterWrite_canon (off : Nat) (v : Word32) (s : State) (h3 : s.Canonical) (t' : State) (ht' : execStagedRegisterWrite off v s = .next t') : t'.Canonical := by
  unfold execStagedRegisterWrite at *
  grind [mk_canon, answered_canon, stagedWrite_canon]

theorem execLutDataWrite_canon (v : Fin 3) (w : Word32) (s : State) (h3 : s.Canonical) (t' : State) (ht' : execLutDataWrite v w s = .next t') : t'.Canonical := by
  unfold execLutDataWrite at *
  grind [mk_canon, answered_canon, lutWrite_canon]

end Sys2Proof.Machine
end

