-- ==== Sys2Proof/Laws/CanonIntake.lean ====
section
/-! SUPPORT. That the operations of Machine/Intake.lean keep the canonical form of a state (Safety.lean). -/

namespace Sys2Proof.Machine

theorem execCsi2FrameStart_canon (n : SensorPort) (burst : Bool) (hdr : Ecc) (vc : Fin 4) (t : Nat) (s : State) (h6 : s.Canonical) (t' : State) (ht' : execCsi2FrameStart n burst hdr vc t s = .next t') : t'.Canonical := by
  unfold execCsi2FrameStart at *
  grind [mk_canon, csiChannel_canon, csiHeader_canon, frameStart_canon, stamp_canon]

theorem execCsi2FrameEnd_canon (n : SensorPort) (burst : Bool) (hdr : Ecc) (vc : Fin 4) (s : State) (h5 : s.Canonical) (t' : State) (ht' : execCsi2FrameEnd n burst hdr vc s = .next t') : t'.Canonical := by
  unfold execCsi2FrameEnd at *
  grind [mk_canon, csiChannel_canon, csiHeader_canon, endWin_canon]

theorem execCsi2LongPacket_canon (n : SensorPort) (burst : Bool) (hdr : Ecc) (vc : Fin 4) (dt : BitVec 6) (payload : List Byte) (crcOk : Bool) (s : State) (h8 : s.Canonical) (t' : State) (ht' : execCsi2LongPacket n burst hdr vc dt payload crcOk s = .next t') : t'.Canonical := by
  unfold execCsi2LongPacket at *
  grind [mk_canon, bump_canon, csiChannel_canon, csiHeader_canon, takeRow_canon]

theorem execCsi2ShortPacketIgnored_canon (n : SensorPort) (burst : Bool) (hdr : Ecc) (vc : Fin 4) (s : State) (h5 : s.Canonical) (t' : State) (ht' : execCsi2ShortPacketIgnored n burst hdr vc s = .next t') : t'.Canonical := by
  unfold execCsi2ShortPacketIgnored at *
  grind [mk_canon, csiChannel_canon, csiHeader_canon]

theorem execCsi2PacketDiscarded_canon (n : SensorPort) (burst : Bool) (hdr : Ecc) (s : State) (h4 : s.Canonical) (t' : State) (ht' : execCsi2PacketDiscarded n burst hdr s = .next t') : t'.Canonical := by
  unfold execCsi2PacketDiscarded at *
  grind [mk_canon, bump_canon, csiHeader_canon]

theorem execFifoDrain_canon (n : SensorPort) (ecc : Ecc) (data : List Byte) (s : State) (h4 : s.Canonical) (t' : State) (ht' : execFifoDrain n ecc data s = .next t') : t'.Canonical := by
  unfold execFifoDrain at *
  grind [mk_canon, fifoDrain_canon]

end Sys2Proof.Machine
end

