-- ==== Sys2Proof/Laws/CanonMoverCmd.lean ====
section
/-! SUPPORT. That the operations of Machine/MoverCmd.lean keep the canonical form of a state (Safety.lean). -/

namespace Sys2Proof.Machine

theorem chInstr_canon (s : State) (c op : Nat) (ok : List Byte → Bool) (f : List Byte → State → State) (h1 : s.Canonical) (h5 : ∀ (x0 : List Byte) (s : State), s.Canonical → (f x0 s).Canonical) : (chInstr s c op ok f).Canonical := by
  unfold chInstr
  grind [mk_canon]

theorem mvStart_canon (c : RingCmd) (s : State) (h2 : s.Canonical) : (mvStart c s).Canonical := by
  unfold mvStart
  grind [mk_canon, chStart_canon, complete_canon]

theorem mvStop_canon (c : RingCmd) (s : State) (h2 : s.Canonical) : (mvStop c s).Canonical := by
  unfold mvStop
  grind [mk_canon, complete_canon, modCh_canon, put_canon]

theorem poolAllocCmd_canon (c : RingCmd) (s : State) (h2 : s.Canonical) : (poolAllocCmd c s).Canonical := by
  unfold poolAllocCmd
  grind [mk_canon, complete_canon, poolAlloc_canon]

theorem poolReleaseCmd_canon (c : RingCmd) (s : State) (h2 : s.Canonical) : (poolReleaseCmd c s).Canonical := by
  unfold poolReleaseCmd
  grind [mk_canon, complete_canon, poolRelease_canon]

theorem execMvStart_canon (p : Part) (r : Ring) (id : Nat) (s : State) (h4 : s.Canonical) (t' : State) (ht' : execMvStart p r id s = .next t') : t'.Canonical := by
  unfold execMvStart at *
  grind [mk_canon, finSettle_canon, mvStart_canon, withCmd_canon]

theorem execMvStop_canon (p : Part) (r : Ring) (id : Nat) (s : State) (h4 : s.Canonical) (t' : State) (ht' : execMvStop p r id s = .next t') : t'.Canonical := by
  unfold execMvStop at *
  grind [mk_canon, finSettle_canon, mvStop_canon, withCmd_canon]

theorem execPoolAlloc_canon (p : Part) (r : Ring) (id : Nat) (s : State) (h4 : s.Canonical) (t' : State) (ht' : execPoolAlloc p r id s = .next t') : t'.Canonical := by
  unfold execPoolAlloc at *
  grind [mk_canon, finSettle_canon, poolAllocCmd_canon, withCmd_canon]

theorem execPoolRelease_canon (p : Part) (r : Ring) (id : Nat) (s : State) (h4 : s.Canonical) (t' : State) (ht' : execPoolRelease p r id s = .next t') : t'.Canonical := by
  unfold execPoolRelease at *
  grind [mk_canon, finSettle_canon, poolReleaseCmd_canon, withCmd_canon]

theorem execPoolAllocate_canon (ess : Bool) (holder : Option Part) (s : State) (h3 : s.Canonical) (t' : State) (ht' : execPoolAllocate ess holder s = .next t') : t'.Canonical := by
  unfold execPoolAllocate at *
  grind [mk_canon, poolAlloc_canon]

theorem execMvMove_canon (c : Chan) (s : State) (h2 : s.Canonical) (t' : State) (ht' : execMvMove c s = .next t') : t'.Canonical := by
  unfold execMvMove at *
  grind [mk_canon, chInstr_canon, finSettle_canon, mvDoMove_canon]

theorem execMvLoop_canon (c : Chan) (s : State) (h2 : s.Canonical) (t' : State) (ht' : execMvLoop c s = .next t') : t'.Canonical := by
  unfold execMvLoop at *
  grind [mk_canon, chInstr_canon, finSettle_canon, mvDoLoop_canon]

theorem execMvWaitTick_canon (c : Chan) (t : Nat) (s : State) (h3 : s.Canonical) (t' : State) (ht' : execMvWaitTick c t s = .next t') : t'.Canonical := by
  unfold execMvWaitTick at *
  grind [mk_canon, chInstr_canon, chWaiting_canon, stamp_canon]

theorem execMvWaitSsm_canon (c : Chan) (t : Nat) (s : State) (h3 : s.Canonical) (t' : State) (ht' : execMvWaitSsm c t s = .next t') : t'.Canonical := by
  unfold execMvWaitSsm at *
  grind [mk_canon, chInstr_canon, finSettle_canon, mvDoWaitSsm_canon, stamp_canon]

theorem execMvWaitTimeout_canon (c : Chan) (t : Nat) (s : State) (h3 : s.Canonical) (t' : State) (ht' : execMvWaitTimeout c t s = .next t') : t'.Canonical := by
  unfold execMvWaitTimeout at *
  grind [mk_canon, chFail_canon, chInstr_canon, finSettle_canon, stamp_canon]

theorem execMvSignal_canon (c : Chan) (s : State) (h2 : s.Canonical) (t' : State) (ht' : execMvSignal c s = .next t') : t'.Canonical := by
  unfold execMvSignal at *
  grind [mk_canon, chInstr_canon, finSettle_canon, mvDoSignal_canon]

theorem execMoverBusError_canon (addr : Nat) (s : State) (h2 : s.Canonical) (t' : State) (ht' : execMoverBusError addr s = .next t') : t'.Canonical := by
  unfold execMoverBusError at *
  grind [mk_canon, finSettle_canon, movBusError_canon]

theorem execMovRestart_canon (v : Word32) (s : State) (h2 : s.Canonical) (t' : State) (ht' : execMovRestart v s = .next t') : t'.Canonical := by
  unfold execMovRestart at *
  grind [mk_canon, answered_canon]

theorem execMovRestartDone_canon (s : State) (h1 : s.Canonical) (t' : State) (ht' : execMovRestartDone s = .next t') : t'.Canonical := by
  unfold execMovRestartDone at *
  grind [mk_canon, clrF_canon]

end Sys2Proof.Machine
end

