-- ==== Sys2Proof/Laws/CanonSeqAlu.lean ====
section
/-! SUPPORT. That the operations of Machine/SeqAlu.lean keep the canonical form of a state (Safety.lean). -/

namespace Sys2Proof.Machine

theorem aluRow_canon (s : State) (q : Nat) (ecc : Ecc) (rd ra rb fn cost : Nat) (f : Nat → Nat → Nat) (h1 : s.Canonical) : (aluRow s q ecc rd ra rb fn cost f).Canonical := by
  unfold aluRow
  grind [mk_canon, seqRun_canon, seqWrite_canon]

theorem unRow_canon (s : State) (q : Nat) (ecc : Ecc) (rd ra fn : Nat) (f : Nat → Nat) (h1 : s.Canonical) : (unRow s q ecc rd ra fn f).Canonical := by
  unfold unRow
  grind [mk_canon, seqRun_canon, seqWrite_canon]

theorem immRow_canon (s : State) (q : Nat) (ecc : Ecc) (op rd ra imm : Nat) (f : Nat → Nat → Nat) (h1 : s.Canonical) : (immRow s q ecc op rd ra imm f).Canonical := by
  unfold immRow
  grind [mk_canon, seqRun_canon, seqWrite_canon]

theorem brRow_canon (s : State) (q : Nat) (ecc : Ecc) (op ra off : Nat) (c : Nat → Bool) (h1 : s.Canonical) : (brRow s q ecc op ra off c).Canonical := by
  unfold brRow
  grind [mk_canon, charge_canon, seqGoto_canon, seqNext_canon, seqRun_canon]

theorem execAdd_canon (q : Seq) (ecc : Ecc) (rd ra rb : Fin 32) (s : State) (h6 : s.Canonical) (t' : State) (ht' : execAdd q ecc rd ra rb s = .next t') : t'.Canonical := by
  unfold execAdd at *
  grind [mk_canon, aluRow_canon]

theorem execSub_canon (q : Seq) (ecc : Ecc) (rd ra rb : Fin 32) (s : State) (h6 : s.Canonical) (t' : State) (ht' : execSub q ecc rd ra rb s = .next t') : t'.Canonical := by
  unfold execSub at *
  grind [mk_canon, aluRow_canon]

theorem execAnd_canon (q : Seq) (ecc : Ecc) (rd ra rb : Fin 32) (s : State) (h6 : s.Canonical) (t' : State) (ht' : execAnd q ecc rd ra rb s = .next t') : t'.Canonical := by
  unfold execAnd at *
  grind [mk_canon, aluRow_canon]

theorem execOr_canon (q : Seq) (ecc : Ecc) (rd ra rb : Fin 32) (s : State) (h6 : s.Canonical) (t' : State) (ht' : execOr q ecc rd ra rb s = .next t') : t'.Canonical := by
  unfold execOr at *
  grind [mk_canon, aluRow_canon]

theorem execXor_canon (q : Seq) (ecc : Ecc) (rd ra rb : Fin 32) (s : State) (h6 : s.Canonical) (t' : State) (ht' : execXor q ecc rd ra rb s = .next t') : t'.Canonical := by
  unfold execXor at *
  grind [mk_canon, aluRow_canon]

theorem execShl_canon (q : Seq) (ecc : Ecc) (rd ra rb : Fin 32) (s : State) (h6 : s.Canonical) (t' : State) (ht' : execShl q ecc rd ra rb s = .next t') : t'.Canonical := by
  unfold execShl at *
  grind [mk_canon, aluRow_canon]

theorem execShr_canon (q : Seq) (ecc : Ecc) (rd ra rb : Fin 32) (s : State) (h6 : s.Canonical) (t' : State) (ht' : execShr q ecc rd ra rb s = .next t') : t'.Canonical := by
  unfold execShr at *
  grind [mk_canon, aluRow_canon]

theorem execSar_canon (q : Seq) (ecc : Ecc) (rd ra rb : Fin 32) (s : State) (h6 : s.Canonical) (t' : State) (ht' : execSar q ecc rd ra rb s = .next t') : t'.Canonical := by
  unfold execSar at *
  grind [mk_canon, aluRow_canon]

theorem execSlt_canon (q : Seq) (ecc : Ecc) (rd ra rb : Fin 32) (s : State) (h6 : s.Canonical) (t' : State) (ht' : execSlt q ecc rd ra rb s = .next t') : t'.Canonical := by
  unfold execSlt at *
  grind [mk_canon, aluRow_canon]

theorem execSltu_canon (q : Seq) (ecc : Ecc) (rd ra rb : Fin 32) (s : State) (h6 : s.Canonical) (t' : State) (ht' : execSltu q ecc rd ra rb s = .next t') : t'.Canonical := by
  unfold execSltu at *
  grind [mk_canon, aluRow_canon]

theorem execMul_canon (q : Seq) (ecc : Ecc) (rd ra rb : Fin 32) (s : State) (h6 : s.Canonical) (t' : State) (ht' : execMul q ecc rd ra rb s = .next t') : t'.Canonical := by
  unfold execMul at *
  grind [mk_canon, aluRow_canon]

theorem execMulhu_canon (q : Seq) (ecc : Ecc) (rd ra rb : Fin 32) (s : State) (h6 : s.Canonical) (t' : State) (ht' : execMulhu q ecc rd ra rb s = .next t') : t'.Canonical := by
  unfold execMulhu at *
  grind [mk_canon, aluRow_canon]

theorem execMin_canon (q : Seq) (ecc : Ecc) (rd ra rb : Fin 32) (s : State) (h6 : s.Canonical) (t' : State) (ht' : execMin q ecc rd ra rb s = .next t') : t'.Canonical := by
  unfold execMin at *
  grind [mk_canon, aluRow_canon]

theorem execMax_canon (q : Seq) (ecc : Ecc) (rd ra rb : Fin 32) (s : State) (h6 : s.Canonical) (t' : State) (ht' : execMax q ecc rd ra rb s = .next t') : t'.Canonical := by
  unfold execMax at *
  grind [mk_canon, aluRow_canon]

theorem execMinu_canon (q : Seq) (ecc : Ecc) (rd ra rb : Fin 32) (s : State) (h6 : s.Canonical) (t' : State) (ht' : execMinu q ecc rd ra rb s = .next t') : t'.Canonical := by
  unfold execMinu at *
  grind [mk_canon, aluRow_canon]

theorem execMaxu_canon (q : Seq) (ecc : Ecc) (rd ra rb : Fin 32) (s : State) (h6 : s.Canonical) (t' : State) (ht' : execMaxu q ecc rd ra rb s = .next t') : t'.Canonical := by
  unfold execMaxu at *
  grind [mk_canon, aluRow_canon]

theorem execSextb_canon (q : Seq) (ecc : Ecc) (rd ra : Fin 32) (s : State) (h5 : s.Canonical) (t' : State) (ht' : execSextb q ecc rd ra s = .next t') : t'.Canonical := by
  unfold execSextb at *
  grind [mk_canon, unRow_canon]

theorem execSexth_canon (q : Seq) (ecc : Ecc) (rd ra : Fin 32) (s : State) (h5 : s.Canonical) (t' : State) (ht' : execSexth q ecc rd ra s = .next t') : t'.Canonical := by
  unfold execSexth at *
  grind [mk_canon, unRow_canon]

theorem execSextw_canon (q : Seq) (ecc : Ecc) (rd ra : Fin 32) (s : State) (h5 : s.Canonical) (t' : State) (ht' : execSextw q ecc rd ra s = .next t') : t'.Canonical := by
  unfold execSextw at *
  grind [mk_canon, unRow_canon]

theorem execZextw_canon (q : Seq) (ecc : Ecc) (rd ra : Fin 32) (s : State) (h5 : s.Canonical) (t' : State) (ht' : execZextw q ecc rd ra s = .next t') : t'.Canonical := by
  unfold execZextw at *
  grind [mk_canon, unRow_canon]

theorem execClz_canon (q : Seq) (ecc : Ecc) (rd ra : Fin 32) (s : State) (h5 : s.Canonical) (t' : State) (ht' : execClz q ecc rd ra s = .next t') : t'.Canonical := by
  unfold execClz at *
  grind [mk_canon, unRow_canon]

theorem execJr_canon (q : Seq) (ecc : Ecc) (rd ra : Fin 32) (s : State) (h5 : s.Canonical) (t' : State) (ht' : execJr q ecc rd ra s = .next t') : t'.Canonical := by
  unfold execJr at *
  grind [mk_canon, charge_canon, progFault_canon, seqGoto_canon, seqRun_canon, setGreg_canon]

theorem execAddi_canon (q : Seq) (ecc : Ecc) (rd ra : Fin 32) (imm : BitVec 16) (s : State) (h6 : s.Canonical) (t' : State) (ht' : execAddi q ecc rd ra imm s = .next t') : t'.Canonical := by
  unfold execAddi at *
  grind [mk_canon, immRow_canon]

theorem execAndi_canon (q : Seq) (ecc : Ecc) (rd ra : Fin 32) (imm : BitVec 16) (s : State) (h6 : s.Canonical) (t' : State) (ht' : execAndi q ecc rd ra imm s = .next t') : t'.Canonical := by
  unfold execAndi at *
  grind [mk_canon, immRow_canon]

theorem execOri_canon (q : Seq) (ecc : Ecc) (rd ra : Fin 32) (imm : BitVec 16) (s : State) (h6 : s.Canonical) (t' : State) (ht' : execOri q ecc rd ra imm s = .next t') : t'.Canonical := by
  unfold execOri at *
  grind [mk_canon, immRow_canon]

theorem execXori_canon (q : Seq) (ecc : Ecc) (rd ra : Fin 32) (imm : BitVec 16) (s : State) (h6 : s.Canonical) (t' : State) (ht' : execXori q ecc rd ra imm s = .next t') : t'.Canonical := by
  unfold execXori at *
  grind [mk_canon, immRow_canon]

theorem execSlti_canon (q : Seq) (ecc : Ecc) (rd ra : Fin 32) (imm : BitVec 16) (s : State) (h6 : s.Canonical) (t' : State) (ht' : execSlti q ecc rd ra imm s = .next t') : t'.Canonical := by
  unfold execSlti at *
  grind [mk_canon, immRow_canon]

theorem execSltiu_canon (q : Seq) (ecc : Ecc) (rd ra : Fin 32) (imm : BitVec 16) (s : State) (h6 : s.Canonical) (t' : State) (ht' : execSltiu q ecc rd ra imm s = .next t') : t'.Canonical := by
  unfold execSltiu at *
  grind [mk_canon, immRow_canon]

theorem execLui_canon (q : Seq) (ecc : Ecc) (rd : Fin 32) (imm : BitVec 16) (s : State) (h5 : s.Canonical) (t' : State) (ht' : execLui q ecc rd imm s = .next t') : t'.Canonical := by
  unfold execLui at *
  grind [mk_canon, immRow_canon]

theorem execRds_canon (q : Seq) (ecc : Ecc) (rd : Fin 32) (reg : Fin 4) (t : Nat) (s : State) (h6 : s.Canonical) (t' : State) (ht' : execRds q ecc rd reg t s = .next t') : t'.Canonical := by
  unfold execRds at *
  grind [mk_canon, seqRun_canon, seqWrite_canon, stamp_canon]

theorem execShli_canon (q : Seq) (ecc : Ecc) (rd ra : Fin 32) (sh : Fin 64) (s : State) (h6 : s.Canonical) (t' : State) (ht' : execShli q ecc rd ra sh s = .next t') : t'.Canonical := by
  unfold execShli at *
  grind [mk_canon, immRow_canon]

theorem execShri_canon (q : Seq) (ecc : Ecc) (rd ra : Fin 32) (sh : Fin 64) (s : State) (h6 : s.Canonical) (t' : State) (ht' : execShri q ecc rd ra sh s = .next t') : t'.Canonical := by
  unfold execShri at *
  grind [mk_canon, immRow_canon]

theorem execSari_canon (q : Seq) (ecc : Ecc) (rd ra : Fin 32) (sh : Fin 64) (s : State) (h6 : s.Canonical) (t' : State) (ht' : execSari q ecc rd ra sh s = .next t') : t'.Canonical := by
  unfold execSari at *
  grind [mk_canon, immRow_canon]

theorem execBeqz_canon (q : Seq) (ecc : Ecc) (ra : Fin 32) (off : BitVec 21) (s : State) (h5 : s.Canonical) (t' : State) (ht' : execBeqz q ecc ra off s = .next t') : t'.Canonical := by
  unfold execBeqz at *
  grind [mk_canon, brRow_canon]

theorem execBnez_canon (q : Seq) (ecc : Ecc) (ra : Fin 32) (off : BitVec 21) (s : State) (h5 : s.Canonical) (t' : State) (ht' : execBnez q ecc ra off s = .next t') : t'.Canonical := by
  unfold execBnez at *
  grind [mk_canon, brRow_canon]

theorem execBltz_canon (q : Seq) (ecc : Ecc) (ra : Fin 32) (off : BitVec 21) (s : State) (h5 : s.Canonical) (t' : State) (ht' : execBltz q ecc ra off s = .next t') : t'.Canonical := by
  unfold execBltz at *
  grind [mk_canon, brRow_canon]

theorem execBgez_canon (q : Seq) (ecc : Ecc) (ra : Fin 32) (off : BitVec 21) (s : State) (h5 : s.Canonical) (t' : State) (ht' : execBgez q ecc ra off s = .next t') : t'.Canonical := by
  unfold execBgez at *
  grind [mk_canon, brRow_canon]

theorem execBgtz_canon (q : Seq) (ecc : Ecc) (ra : Fin 32) (off : BitVec 21) (s : State) (h5 : s.Canonical) (t' : State) (ht' : execBgtz q ecc ra off s = .next t') : t'.Canonical := by
  unfold execBgtz at *
  grind [mk_canon, brRow_canon]

theorem execBlez_canon (q : Seq) (ecc : Ecc) (ra : Fin 32) (off : BitVec 21) (s : State) (h5 : s.Canonical) (t' : State) (ht' : execBlez q ecc ra off s = .next t') : t'.Canonical := by
  unfold execBlez at *
  grind [mk_canon, brRow_canon]

theorem execJal_canon (q : Seq) (ecc : Ecc) (ra : Fin 32) (off : BitVec 21) (s : State) (h5 : s.Canonical) (t' : State) (ht' : execJal q ecc ra off s = .next t') : t'.Canonical := by
  unfold execJal at *
  grind [mk_canon, charge_canon, seqGoto_canon, seqRun_canon, setGreg_canon]

theorem execHalt_canon (q : Seq) (ecc : Ecc) (imm : BitVec 16) (s : State) (h4 : s.Canonical) (t' : State) (ht' : execHalt q ecc imm s = .next t') : t'.Canonical := by
  unfold execHalt at *
  grind [mk_canon, charge_canon, leave_canon, put_canon, raiseP_canon, seqRun_canon]

end Sys2Proof.Machine
end

