-- ==== Sys2Proof/Laws/CanonSeqMem.lean ====
section
/-! SUPPORT. That the operations of Machine/SeqMem.lean keep the canonical form of a state (Safety.lean). -/

namespace Sys2Proof.Machine

theorem atomicRow_canon (s : State) (q : Nat) (ecc : Ecc) (op rd ra rb : Nat) (dbl : Bool) (f : Nat → Nat → Nat → Option Nat) (h1 : s.Canonical) : (atomicRow s q ecc op rd ra rb dbl f).Canonical := by
  unfold atomicRow
  grind [mk_canon, drainAll_canon, orFault_canon, seqRun_canon, seqWrite_canon, ssmWrite_canon]

theorem hostLoad_canon (s : State) (q p rd a n t : Nat) (h1 : s.Canonical) : (hostLoad s q p rd a n t).Canonical := by
  unfold hostLoad
  grind [mk_canon, modPair_canon, settle_canon, startOp_canon]

theorem hostStore_canon (s : State) (q p a t : Nat) (bs : List Byte) (h1 : s.Canonical) : (hostStore s q p a t bs).Canonical := by
  unfold hostStore
  grind [mk_canon, modPair_canon, settle_canon, startOp_canon]

theorem windowRow_canon (s : State) (q p a n : Nat) (store : Bool) (k : WinRef → State → State) (h1 : s.Canonical) (h7 : ∀ (x0 : WinRef) (s : State), s.Canonical → (k x0 s).Canonical) : (windowRow s q p a n store k).Canonical := by
  unfold windowRow
  grind [mk_canon, orFault_canon]

theorem execStoreBufferDrain_canon (q : Seq) (s : State) (h2 : s.Canonical) (t' : State) (ht' : execStoreBufferDrain q s = .next t') : t'.Canonical := by
  unfold execStoreBufferDrain at *
  grind [mk_canon, drainOne_canon]

theorem execLd_canon (q : Seq) (ecc : Ecc) (rd base : Fin 32) (sz : Fin 4) (off : BitVec 14) (s : State) (h7 : s.Canonical) (t' : State) (ht' : execLd q ecc rd base sz off s = .next t') : t'.Canonical := by
  unfold execLd at *
  grind [mk_canon, orFault_canon, seqRun_canon, seqWrite_canon, ssmLoad_canon]

theorem execSt_canon (q : Seq) (ecc : Ecc) (rs base : Fin 32) (sz : Fin 4) (off : BitVec 14) (s : State) (h7 : s.Canonical) (t' : State) (ht' : execSt q ecc rs base sz off s = .next t') : t'.Canonical := by
  unfold execSt at *
  grind [mk_canon, orFault_canon, seqNext_canon, seqRun_canon, ssmStore_canon]

theorem execLdw_canon (q : Seq) (ecc : Ecc) (rd base : Fin 32) (sz : Fin 4) (off : BitVec 14) (ue : Bool) (t : Nat) (s : State) (h9 : s.Canonical) (t' : State) (ht' : execLdw q ecc rd base sz off ue t s = .next t') : t'.Canonical := by
  unfold execLdw at *
  grind [mk_canon, hostLoad_canon, orFault_canon, seqRun_canon, seqWrite_canon, stallCycles_canon, stamp_canon, windowRow_canon]

theorem execStw_canon (q : Seq) (ecc : Ecc) (rs base : Fin 32) (sz : Fin 4) (off : BitVec 14) (t : Nat) (s : State) (h8 : s.Canonical) (t' : State) (ht' : execStw q ecc rs base sz off t s = .next t') : t'.Canonical := by
  unfold execStw at *
  grind [mk_canon, fsWrite_canon, hostStore_canon, seqNext_canon, seqRun_canon, stallCycles_canon, stamp_canon, windowRow_canon]

theorem execAmoadd_canon (q : Seq) (ecc : Ecc) (rd ra rb : Fin 32) (dbl : Bool) (s : State) (h7 : s.Canonical) (t' : State) (ht' : execAmoadd q ecc rd ra rb dbl s = .next t') : t'.Canonical := by
  unfold execAmoadd at *
  grind [mk_canon, atomicRow_canon]

theorem execAmoswap_canon (q : Seq) (ecc : Ecc) (rd ra rb : Fin 32) (dbl : Bool) (s : State) (h7 : s.Canonical) (t' : State) (ht' : execAmoswap q ecc rd ra rb dbl s = .next t') : t'.Canonical := by
  unfold execAmoswap at *
  grind [mk_canon, atomicRow_canon]

theorem execCas_canon (q : Seq) (ecc : Ecc) (rd ra rb : Fin 32) (dbl : Bool) (s : State) (h7 : s.Canonical) (t' : State) (ht' : execCas q ecc rd ra rb dbl s = .next t') : t'.Canonical := by
  unfold execCas at *
  grind [mk_canon, atomicRow_canon]

theorem execFence_canon (q : Seq) (ecc : Ecc) (s : State) (h3 : s.Canonical) (t' : State) (ht' : execFence q ecc s = .next t') : t'.Canonical := by
  unfold execFence at *
  grind [mk_canon, drainAll_canon, seqNext_canon, seqRun_canon, stallCycles_canon]

end Sys2Proof.Machine
end

