-- ==== Sys2Proof/Laws/CanonStrandExec.lean ====
section
/-! SUPPORT. That the operations of Machine/StrandExec.lean keep the canonical form of a state (Safety.lean). -/

namespace Sys2Proof.Machine

theorem sramCe_canon (s : State) (n k : Nat) (h1 : s.Canonical) : (sramCe s n k).Canonical := by
  unfold sramCe
  grind [mk_canon, bumpBy_canon, fault_canon]

theorem execJobStart_canon (n : Strand) (t : Nat) (s : State) (h3 : s.Canonical) (t' : State) (ht' : execJobStart n t s = .next t') : t'.Canonical := by
  unfold execJobStart at *
  grind [mk_canon, finSettle_canon, stamp_canon, startJob_canon]

theorem execEncRow_canon (n : Strand) (hits : List (Nat × Nat × Nat × Nat)) (upset : List (Nat × Byte)) (ce : Nat) (s : State) (h5 : s.Canonical) (t' : State) (ht' : execEncRow n hits upset ce s = .next t') : t'.Canonical := by
  unfold execEncRow at *
  grind [mk_canon, encRow_canon, finSettle_canon, sramCe_canon]

theorem execEchoCheckDone_canon (x : StrandRun) (s : State) (h2 : s.Canonical) (t' : State) (ht' : execEchoCheckDone x s = .next t') : t'.Canonical := by
  unfold execEchoCheckDone at *
  grind [mk_canon, echoDone_canon, finSettle_canon, sramCe_canon]

theorem execDecRow_canon (x : StrandRun) (s : State) (h2 : s.Canonical) (t' : State) (ht' : execDecRow x s = .next t') : t'.Canonical := by
  unfold execDecRow at *
  grind [mk_canon, decRow_canon, finSettle_canon, sramCe_canon]

theorem execRowCommit_canon (n : Strand) (writes : Nat) (waited : Timed Nat) (s : State) (h4 : s.Canonical) (t' : State) (ht' : execRowCommit n writes waited s = .next t') : t'.Canonical := by
  unfold execRowCommit at *
  grind [mk_canon, finSettle_canon, rowCommit_canon, stamp_canon]

theorem execEchoJob_canon (x : StrandRun) (s : State) (h2 : s.Canonical) (t' : State) (ht' : execEchoJob x s = .next t') : t'.Canonical := by
  unfold execEchoJob at *
  grind [mk_canon, echoJob_canon, finSettle_canon, sramCe_canon]

theorem execLoadctx_canon (n : Strand) (s : State) (h2 : s.Canonical) (t' : State) (ht' : execLoadctx n s = .next t') : t'.Canonical := by
  unfold execLoadctx at *
  grind [mk_canon, finSettle_canon, loadCtx_canon]

theorem execSavectx_canon (n : Strand) (s : State) (h2 : s.Canonical) (t' : State) (ht' : execSavectx n s = .next t') : t'.Canonical := by
  unfold execSavectx at *
  grind [mk_canon, finSettle_canon, saveCtx_canon]

theorem uStep_canon (n : Nat) (ecc : Ecc) (w : MicroWord) (eng : Bool) (op : MicroWord → Bool) (s : State) (h6 : s.Canonical) (t' : State) (ht' : uStep n ecc w eng op s = .next t') : t'.Canonical := by
  unfold uStep at *
  grind [mk_canon, bump_canon, fault_canon, finSettle_canon, storeUe_canon, uIllegal_canon, uWord_canon]

theorem execUAdd_canon (n : Strand) (ecc : Ecc) (w : MicroWord) (eng : Bool) (s : State) (h5 : s.Canonical) (t' : State) (ht' : execUAdd n ecc w eng s = .next t') : t'.Canonical := by
  unfold execUAdd at *
  grind [mk_canon, uStep_canon]

theorem execUSub_canon (n : Strand) (ecc : Ecc) (w : MicroWord) (eng : Bool) (s : State) (h5 : s.Canonical) (t' : State) (ht' : execUSub n ecc w eng s = .next t') : t'.Canonical := by
  unfold execUSub at *
  grind [mk_canon, uStep_canon]

theorem execUAnd_canon (n : Strand) (ecc : Ecc) (w : MicroWord) (eng : Bool) (s : State) (h5 : s.Canonical) (t' : State) (ht' : execUAnd n ecc w eng s = .next t') : t'.Canonical := by
  unfold execUAnd at *
  grind [mk_canon, uStep_canon]

theorem execUOr_canon (n : Strand) (ecc : Ecc) (w : MicroWord) (eng : Bool) (s : State) (h5 : s.Canonical) (t' : State) (ht' : execUOr n ecc w eng s = .next t') : t'.Canonical := by
  unfold execUOr at *
  grind [mk_canon, uStep_canon]

theorem execUXor_canon (n : Strand) (ecc : Ecc) (w : MicroWord) (eng : Bool) (s : State) (h5 : s.Canonical) (t' : State) (ht' : execUXor n ecc w eng s = .next t') : t'.Canonical := by
  unfold execUXor at *
  grind [mk_canon, uStep_canon]

theorem execUShl_canon (n : Strand) (ecc : Ecc) (w : MicroWord) (eng : Bool) (s : State) (h5 : s.Canonical) (t' : State) (ht' : execUShl n ecc w eng s = .next t') : t'.Canonical := by
  unfold execUShl at *
  grind [mk_canon, uStep_canon]

theorem execUShr_canon (n : Strand) (ecc : Ecc) (w : MicroWord) (eng : Bool) (s : State) (h5 : s.Canonical) (t' : State) (ht' : execUShr n ecc w eng s = .next t') : t'.Canonical := by
  unfold execUShr at *
  grind [mk_canon, uStep_canon]

theorem execUSar_canon (n : Strand) (ecc : Ecc) (w : MicroWord) (eng : Bool) (s : State) (h5 : s.Canonical) (t' : State) (ht' : execUSar n ecc w eng s = .next t') : t'.Canonical := by
  unfold execUSar at *
  grind [mk_canon, uStep_canon]

theorem execUMul_canon (n : Strand) (ecc : Ecc) (w : MicroWord) (eng : Bool) (s : State) (h5 : s.Canonical) (t' : State) (ht' : execUMul n ecc w eng s = .next t') : t'.Canonical := by
  unfold execUMul at *
  grind [mk_canon, uStep_canon]

theorem execUMin_canon (n : Strand) (ecc : Ecc) (w : MicroWord) (eng : Bool) (s : State) (h5 : s.Canonical) (t' : State) (ht' : execUMin n ecc w eng s = .next t') : t'.Canonical := by
  unfold execUMin at *
  grind [mk_canon, uStep_canon]

theorem execUMax_canon (n : Strand) (ecc : Ecc) (w : MicroWord) (eng : Bool) (s : State) (h5 : s.Canonical) (t' : State) (ht' : execUMax n ecc w eng s = .next t') : t'.Canonical := by
  unfold execUMax at *
  grind [mk_canon, uStep_canon]

theorem execULi_canon (n : Strand) (ecc : Ecc) (w : MicroWord) (eng : Bool) (s : State) (h5 : s.Canonical) (t' : State) (ht' : execULi n ecc w eng s = .next t') : t'.Canonical := by
  unfold execULi at *
  grind [mk_canon, uStep_canon]

theorem execULui_canon (n : Strand) (ecc : Ecc) (w : MicroWord) (eng : Bool) (s : State) (h5 : s.Canonical) (t' : State) (ht' : execULui n ecc w eng s = .next t') : t'.Canonical := by
  unfold execULui at *
  grind [mk_canon, uStep_canon]

theorem execUAddi_canon (n : Strand) (ecc : Ecc) (w : MicroWord) (eng : Bool) (s : State) (h5 : s.Canonical) (t' : State) (ht' : execUAddi n ecc w eng s = .next t') : t'.Canonical := by
  unfold execUAddi at *
  grind [mk_canon, uStep_canon]

theorem execUCmp_canon (n : Strand) (ecc : Ecc) (w : MicroWord) (eng : Bool) (s : State) (h5 : s.Canonical) (t' : State) (ht' : execUCmp n ecc w eng s = .next t') : t'.Canonical := by
  unfold execUCmp at *
  grind [mk_canon, uStep_canon]

theorem execULd_canon (n : Strand) (ecc : Ecc) (w : MicroWord) (eng : Bool) (s : State) (h5 : s.Canonical) (t' : State) (ht' : execULd n ecc w eng s = .next t') : t'.Canonical := by
  unfold execULd at *
  grind [mk_canon, uStep_canon]

theorem execUSt_canon (n : Strand) (ecc : Ecc) (w : MicroWord) (eng : Bool) (s : State) (h5 : s.Canonical) (t' : State) (ht' : execUSt n ecc w eng s = .next t') : t'.Canonical := by
  unfold execUSt at *
  grind [mk_canon, uStep_canon]

theorem execULdh_canon (n : Strand) (ecc : Ecc) (w : MicroWord) (eng : Bool) (s : State) (h5 : s.Canonical) (t' : State) (ht' : execULdh n ecc w eng s = .next t') : t'.Canonical := by
  unfold execULdh at *
  grind [mk_canon, uStep_canon]

theorem execUSth_canon (n : Strand) (ecc : Ecc) (w : MicroWord) (eng : Bool) (s : State) (h5 : s.Canonical) (t' : State) (ht' : execUSth n ecc w eng s = .next t') : t'.Canonical := by
  unfold execUSth at *
  grind [mk_canon, uStep_canon]

theorem execUBranch_canon (n : Strand) (ecc : Ecc) (w : MicroWord) (eng : Bool) (s : State) (h5 : s.Canonical) (t' : State) (ht' : execUBranch n ecc w eng s = .next t') : t'.Canonical := by
  unfold execUBranch at *
  grind [mk_canon, uStep_canon]

theorem execUWaitCond_canon (n : Strand) (ecc : Ecc) (w : MicroWord) (eng : Bool) (s : State) (h5 : s.Canonical) (t' : State) (ht' : execUWaitCond n ecc w eng s = .next t') : t'.Canonical := by
  unfold execUWaitCond at *
  grind [mk_canon, uStep_canon]

theorem execUDispatch_canon (n : Strand) (ecc : Ecc) (w : MicroWord) (eng : Bool) (s : State) (h5 : s.Canonical) (t' : State) (ht' : execUDispatch n ecc w eng s = .next t') : t'.Canonical := by
  unfold execUDispatch at *
  grind [mk_canon, uStep_canon]

theorem execUCall_canon (n : Strand) (ecc : Ecc) (w : MicroWord) (eng : Bool) (s : State) (h5 : s.Canonical) (t' : State) (ht' : execUCall n ecc w eng s = .next t') : t'.Canonical := by
  unfold execUCall at *
  grind [mk_canon, uStep_canon]

theorem execUReturn_canon (n : Strand) (ecc : Ecc) (w : MicroWord) (eng : Bool) (s : State) (h5 : s.Canonical) (t' : State) (ht' : execUReturn n ecc w eng s = .next t') : t'.Canonical := by
  unfold execUReturn at *
  grind [mk_canon, uStep_canon]

theorem execUCommit_canon (n : Strand) (ecc : Ecc) (w : MicroWord) (eng : Bool) (s : State) (h5 : s.Canonical) (t' : State) (ht' : execUCommit n ecc w eng s = .next t') : t'.Canonical := by
  unfold execUCommit at *
  grind [mk_canon, uStep_canon]

theorem execControlStoreUe_canon (n : Strand) (s : State) (h2 : s.Canonical) (t' : State) (ht' : execControlStoreUe n s = .next t') : t'.Canonical := by
  unfold execControlStoreUe at *
  grind [mk_canon, finSettle_canon, storeUe_canon]

theorem execCustom_canon (n : Strand) (t : Nat) (s : State) (h3 : s.Canonical) (t' : State) (ht' : execCustom n t s = .next t') : t'.Canonical := by
  unfold execCustom at *
  grind [mk_canon, finSettle_canon, stamp_canon, startCustom_canon]

theorem execCustomTimeout_canon (n : Strand) (t : Nat) (s : State) (h3 : s.Canonical) (t' : State) (ht' : execCustomTimeout n t s = .next t') : t'.Canonical := by
  unfold execCustomTimeout at *
  grind [mk_canon, customFault_canon, finSettle_canon, stamp_canon]

theorem execNoCommitTimeout_canon (n : Strand) (waited t : Nat) (s : State) (h4 : s.Canonical) (t' : State) (ht' : execNoCommitTimeout n waited t s = .next t') : t'.Canonical := by
  unfold execNoCommitTimeout at *
  grind [mk_canon, finSettle_canon, noCommit_canon]

theorem execStrandSramUe_canon (n : Strand) (s : State) (h2 : s.Canonical) (t' : State) (ht' : execStrandSramUe n s = .next t') : t'.Canonical := by
  unfold execStrandSramUe at *
  grind [mk_canon, finSettle_canon, sramUe_canon]

theorem execSplice_canon (unack : Bool) (s : State) (h2 : s.Canonical) (t' : State) (ht' : execSplice unack s = .next t') : t'.Canonical := by
  unfold execSplice at *
  grind [mk_canon, finSettle_canon, splice_canon]

theorem execSpareRestore_canon (n : Strand) (t : Nat) (s : State) (h3 : s.Canonical) (t' : State) (ht' : execSpareRestore n t s = .next t') : t'.Canonical := by
  unfold execSpareRestore at *
  grind [mk_canon, finSettle_canon, restoreLane_canon, stamp_canon]

theorem execSelftest_canon (n : Strand) (s : State) (h2 : s.Canonical) (t' : State) (ht' : execSelftest n s = .next t') : t'.Canonical := by
  unfold execSelftest at *
  grind [mk_canon, finSettle_canon, startTest_canon]

theorem execSelftestDone_canon (n : Strand) (part : Nat) (sig : Word32) (s : State) (h4 : s.Canonical) (t' : State) (ht' : execSelftestDone n part sig s = .next t') : t'.Canonical := by
  unfold execSelftestDone at *
  grind [mk_canon, finSettle_canon, testDone_canon]

theorem execSpareSelftestTimer_canon (t : Nat) (s : State) (h2 : s.Canonical) (t' : State) (ht' : execSpareSelftestTimer t s = .next t') : t'.Canonical := by
  unfold execSpareSelftestTimer at *
  grind [mk_canon, finSettle_canon, spareTests_canon]

theorem execStrReset_canon (n : Strand) (v : Word32) (s : State) (h3 : s.Canonical) (t' : State) (ht' : execStrReset n v s = .next t') : t'.Canonical := by
  unfold execStrReset at *
  grind [mk_canon, answered_canon, finSettle_canon, strReset_canon]

theorem execStrQuarSet_canon (v : Word32) (s : State) (h2 : s.Canonical) (t' : State) (ht' : execStrQuarSet v s = .next t') : t'.Canonical := by
  unfold execStrQuarSet at *
  grind [mk_canon, answered_canon, finSettle_canon, strQuarSet_canon]

theorem execStrReadmit_canon (v : Word32) (s : State) (h2 : s.Canonical) (t' : State) (ht' : execStrReadmit v s = .next t') : t'.Canonical := by
  unfold execStrReadmit at *
  grind [mk_canon, answered_canon, finSettle_canon, strReadmit_canon]

theorem execStrTestReq_canon (v : Word32) (s : State) (h2 : s.Canonical) (t' : State) (ht' : execStrTestReq v s = .next t') : t'.Canonical := by
  unfold execStrTestReq at *
  grind [mk_canon, answered_canon, finSettle_canon, strTestReq_canon]

theorem execStrPoolWrite_canon (v : Word32) (s : State) (h2 : s.Canonical) (t' : State) (ht' : execStrPoolWrite v s = .next t') : t'.Canonical := by
  unfold execStrPoolWrite at *
  grind [mk_canon, answered_canon, finSettle_canon, strPoolWrite_canon]

theorem execOsData2Write_canon (v : Word32) (s : State) (h2 : s.Canonical) (t' : State) (ht' : execOsData2Write v s = .next t') : t'.Canonical := by
  unfold execOsData2Write at *
  grind [mk_canon, answered_canon, finSettle_canon, osData2_canon]

end Sys2Proof.Machine
end

