-- ==== Sys2Proof/Laws/Lists.lean ====
section
/-! SUPPORT. The laws of tables and loops (Bits.lean): an entry that is changed, one that is not, and a loop that acts once. -/

namespace Sys2Proof.Machine

/-- Entry i of a changed table. -/
theorem nth_modAt {α : Type} (l : List α) (i : Nat) (f : α → α) (d : α) : nth (modAt l i f) i d = if i < l.length then f (nth l i d) else d := by
  induction l generalizing i with
  | nil => simp [modAt, nth]
  | cons a l ih =>
    cases i with
    | zero => rfl
    | succ i => simpa [modAt, nth] using ih i

/-- A changed table keeps its length. -/
theorem len_modAt {α : Type} (l : List α) (i : Nat) (f : α → α) : (modAt l i f).length = l.length := by
  induction l generalizing i with
  | nil => rfl
  | cons a l ih => cases i with
    | zero => rfl
    | succ i => simp [modAt, ih]

/-- Two changes of one entry are one. -/
theorem modAt_modAt {α : Type} (l : List α) (i : Nat) (f g : α → α) : modAt (modAt l i f) i g = modAt l i (fun x => g (f x)) := by
  induction l generalizing i with
  | nil => rfl
  | cons a l ih => cases i with
    | zero => rfl
    | succ i => simp [modAt, ih]

/-- Two changes that agree on the entry give one table. -/
theorem modAt_congr {α : Type} (l : List α) (i : Nat) (f g : α → α) (d : α) (h : i < l.length → f (nth l i d) = g (nth l i d)) : modAt l i f = modAt l i g := by
  induction l generalizing i with
  | nil => rfl
  | cons a l ih => cases i with
    | zero => simp only [modAt, List.cons.injEq, and_true]; exact h (by simp)
    | succ i => simp only [modAt, List.cons.injEq, true_and]; exact ih i (fun hh => h (by simpa using hh))

/-- Past the end a table reads as the default. -/
theorem nth_ge {α : Type} (l : List α) (i : Nat) (d : α) (h : l.length ≤ i) : nth l i d = d := by simp [nth, h]

/-- A change past the end changes nothing. -/
theorem modAt_ge {α : Type} (l : List α) (i : Nat) (f : α → α) (h : l.length ≤ i) : modAt l i f = l := by
  induction l generalizing i with
  | nil => rfl
  | cons a l ih => cases i with
    | zero => simp at h
    | succ i => simp only [modAt, List.cons.injEq, true_and]; exact ih i (by simpa using h)

/-- No change. -/
theorem modAt_id {α : Type} (l : List α) (i : Nat) : modAt l i (fun x => x) = l := by
  induction l generalizing i with
  | nil => rfl
  | cons a l ih => cases i <;> simp [modAt, ih]

/-- A set entry reads back. -/
theorem nth_setAt {α : Type} (l : List α) (i : Nat) (v d : α) (h : i < l.length) : nth (setAt l i v) i d = v := by
  unfold setAt; rw [nth_modAt, if_pos h]

/-- The later of two settings of one entry stands. -/
theorem setAt_setAt {α : Type} (l : List α) (i : Nat) (v w : α) : setAt (setAt l i v) i w = setAt l i w := by
  unfold setAt; rw [modAt_modAt]

/-- Another entry is as it was. -/
theorem nth_modAt_other {α : Type} (l : List α) {i j : Nat} (f : α → α) (d : α) (h : j ≠ i) : nth (modAt l i f) j d = nth l j d := by
  induction l generalizing i j with
  | nil => rfl
  | cons a l ih => cases i with
    | zero => cases j with
      | zero => exact absurd rfl h
      | succ j => rfl
    | succ i => cases j with
      | zero => rfl
      | succ j => simpa [modAt, nth] using ih (by omega)

/-- Of a loop whose body acts at one index only, what it does there is left. -/
theorem forN_single {σ : Type} (n : Nat) (f : Nat → σ → σ) (b : Nat) (hb : b < n) (h : ∀ i < n, i ≠ b → ∀ x, f i x = x) (s : σ) :
    forN n f s = f b s := by
  unfold forN
  suffices ∀ (l : List Nat), l.Nodup → (∀ i ∈ l, i < n) → ∀ s, l.foldl (fun s i => f i s) s = if b ∈ l then f b s else s by
    rw [this _ List.nodup_range (fun i hi => List.mem_range.1 hi), if_pos (List.mem_range.2 hb)]
  intro l
  induction l with
  | nil => intros; rfl
  | cons a l ih =>
    intro hn hl s
    rw [List.foldl_cons, ih (List.nodup_cons.1 hn).2 fun i hi => hl i (by simp [hi])]
    by_cases e : a = b
    · subst e; rw [if_neg (List.nodup_cons.1 hn).1, if_pos (by simp)]
    · rw [h a (hl a (by simp)) e]
      by_cases m : b ∈ l
      · rw [if_pos m, if_pos (by simp [m])]
      · rw [if_neg m, if_neg (by simp [m, Ne.symm e])]

end Sys2Proof.Machine
end

