-- ==== Sys2Proof/Laws/Settle.lean ====
section
/-! SUPPORT. What each part of `settle` does at rest (Safety.lean), and that a block at rest stays so when a part of the state changes
that rest does not depend on. -/

namespace Sys2Proof.Machine

theorem forN_same (n : Nat) (f : Nat → State → State) (s : State) (h : ∀ i < n, f i s = s) : forN n f s = s := by
  unfold forN
  suffices ∀ l : List Nat, (∀ i ∈ l, f i s = s) → l.foldl (fun s i => f i s) s = s from
    this _ fun i hi => h i (List.mem_range.1 hi)
  intro l hl
  induction l with
  | nil => rfl
  | cons a l ih => rw [List.foldl_cons, hl a (by simp)]; exact ih fun i hi => hl i (by simp [hi])

theorem hostRun_rest {s : State} (h : s.host.up = true → opNext s s.host.ops [] = none) : hostRun s = s := by
  unfold hostRun
  split
  · rename_i hu
    unfold opFuel
    rw [show 64 + (s.host.ops.map fun o => o.len / 4096 + 8).sum = (63 + (s.host.ops.map fun o => o.len / 4096 + 8).sum) + 1 by omega]
    unfold opRun
    rw [h hu]
  · rfl

theorem chAllProgress_rest {s : State} (h : ∀ c < 16, chWriting s c = true ∨ (chOf s c).hold = 0) : chAllProgress s = s := by
  refine forN_same _ _ _ fun c hc => ?_
  unfold chProgress
  rcases h c hc with h | h
  · rw [if_pos h]
  · rw [h]; simp

theorem magRun_rest {s : State} (k : Nat) (h : magNext s = none) : magRun k s = s := by
  cases k with
  | zero => rfl
  | succ k => unfold magRun; rw [h]

theorem anchorRun_rest {s : State} (h : get s R.FLT_ANC_STAT_STATE ≠ 1) : anchorRun s = s := by
  unfold anchorRun; rw [if_neg h]

theorem clipProgress_rest {s : State} (h : ∀ c ∈ s.mags.clips, c.whip = 0) (a : Nat) : clipProgress s a = s := by
  unfold clipProgress
  cases hf : findClipId s a with
  | none => rfl
  | some c => simp [h c (List.mem_of_find?_eq_some hf)]

theorem clipsProgress_rest {s : State} (h : ∀ c ∈ s.mags.clips, c.whip = 0) : clipsProgress s = s := by
  unfold clipsProgress
  suffices ∀ l : List Nat, l.foldl clipProgress s = s from this _
  intro l
  induction l with
  | nil => rfl
  | cons a l ih => rw [List.foldl_cons, clipProgress_rest h]; exact ih

theorem modeProgress_rest {s : State} (h : get s R.GLB_MODE_STATE ≠ 2) : modeProgress s = s := by
  unfold modeProgress; rw [if_neg fun g => h g.1]

theorem resetsProgress_rest {s : State} (h : ∀ p < 8, (partOf s p).rst ≠ 2) : resetsProgress s = s := by
  unfold resetsProgress
  refine forN_same _ _ _ fun p hp => ?_
  exact if_neg fun g => h p hp g.1

theorem dormProgress_rest {s : State} (h : s.sup.dormAt = none) : dormProgress s = s := by
  unfold dormProgress dormEntering
  simp [h]

/-- Accesses that wait for their completions do not go on. -/
theorem opNext_issued (s : State) (l : List HostOp) (seen : List (Nat × HostReq)) (h : ∀ o ∈ l, o.issued = true) :
    opNext s l seen = none := by
  induction l generalizing seen with
  | nil => rfl
  | cons o r ih => unfold opNext; rw [if_pos (h o (by simp)), ih _ fun x hx => h x (by simp [hx])]

/-- Without an operation on any port none goes on. -/
theorem magNext_idle {s : State} (h : ∀ n < 4, (magOf s n).ops = []) : magNext s = none := by
  unfold magNext
  rw [List.findSome?_eq_none_iff]
  intro n hn
  rw [h n (List.mem_range.1 hn)]
  simp

/-- A block without host accesses and magazine operations in hand is at rest when nothing else is under way. -/
theorem atRest_idle {s : State} (ho : ∀ o ∈ s.host.ops, o.issued = true) (hm : ∀ n < 4, (magOf s n).ops = [])
    (hc : ∀ c < 16, (chOf s c).hold = 0) (ha : get s R.FLT_ANC_STAT_STATE ≠ 1) (hw : ∀ c ∈ s.mags.clips, c.whip = 0)
    (hs : get s R.GLB_MODE_STATE ≠ 2) (hp : ∀ p < 8, (partOf s p).rst ≠ 2) (hd : s.sup.dormAt = none) : AtRest s :=
  ⟨fun _ => opNext_issued s _ _ ho, fun c h => .inr (hc c h), magNext_idle hm, ha, hw, hs, hp, hd⟩

theorem finSettle_next (s : State) : finSettle s = .next (settle s) := rfl

theorem answered_run {s : State} (o : Host.Outcome State Fault Refusal) (h : unitsRun s = true) : answered s o = o := by
  unfold answered; rw [if_pos h]

end Sys2Proof.Machine
end

