-- ==== Sys2Proof/Laws/Effects.lean ====
section
/-! SUPPORT. What the operations that many commands share do: a sequencer's fetch and store buffer, a device instruction, and how a
command that settles completes. -/

namespace Sys2Proof.Machine

/-- A time that has passed stamps nothing. -/
theorem stamp_past {s : State} {t : Nat} (h : t ≤ s.clk) : stamp s t = s := by unfold stamp; rw [Nat.max_eq_left h]

/-- A pair whose fetch brings an executable word runs it (R279). -/
theorem seqRun_ok (s : State) (q p w : Nat) (k : Nat → State → State) (h : Fetches s q p w) : seqRun s q .ok w k = k p s := by
  obtain ⟨h0, h1, h2, h3, i, h4, h5, h6⟩ := h
  unfold seqRun
  simp only [h1, h4]
  rw [show stamp s (s.tick.last + execGap) = s from stamp_past h0, if_neg]
  intro hh
  rw [h2] at hh
  rcases hh with hh | hh | hh | hh
  · simp at hh
  · omega
  · omega
  · exact hh h6

/-- With an uncorrectable error in the word the program faults (R306). -/
theorem seqRun_ue (s : State) (q p w : Nat) (k : Nat → State → State) (h : Fetches s q p w) : seqRun s q .ue w k = progFault (fault (bump s (R.SEQ_IMEM_ECC_UE q)) (fltSeqUe q)) q p 8 (pairOf s q p).pc (pairOf s q p).pc := by
  obtain ⟨h0, h1, h2, h3, i, h4, h5, h6⟩ := h
  unfold seqRun
  simp only [h1, h4]
  rw [show stamp s (s.tick.last + execGap) = s from stamp_past h0, if_neg]
  intro hh
  rw [h2] at hh
  rcases hh with hh | hh | hh | hh
  · simp at hh
  · omega
  · omega
  · exact hh h6

/-- A corrected error is counted and the word runs. -/
theorem seqRun_ce (s : State) (q p w : Nat) (k : Nat → State → State) (h : Fetches s q p w) : seqRun s q .ce w k = k p (fault (bump s (R.SEQ_IMEM_ECC_CE q)) (fltSeqCe q)) := by
  obtain ⟨h0, h1, h2, h3, i, h4, h5, h6⟩ := h
  unfold seqRun
  simp only [h1, h4]
  rw [show stamp s (s.tick.last + execGap) = s from stamp_past h0, if_neg]
  intro hh
  rw [h2] at hh
  rcases hh with hh | hh | hh | hh
  · simp at hh
  · omega
  · omega
  · exact hh h6

/-- The sequencer that was changed. -/
theorem seqOf_modSeq (s : State) (q : Nat) (f : SeqSt → SeqSt) (h : q < s.seqs.seq.length) : seqOf (modSeq s q f) q = f (seqOf s q) := by
  unfold seqOf modSeq; dsimp only; rw [nth_modAt, if_pos h]

/-- The pair that was changed. -/
theorem pairOf_modPair (s : State) (q p : Nat) (f : PairSt → PairSt) (h : q < s.seqs.seq.length) (h2 : p < (seqOf s q).pair.length) : pairOf (modPair s q p f) q p = f (pairOf s q p) := by
  unfold modPair pairOf; rw [seqOf_modSeq _ _ _ h]; dsimp only; rw [nth_modAt, if_pos h2]

/-- Two changes of one sequencer are one. -/
theorem modSeq_modSeq (s : State) (q : Nat) (f g : SeqSt → SeqSt) : modSeq (modSeq s q f) q g = modSeq s q (fun x => g (f x)) := by
  unfold modSeq; dsimp only; rw [modAt_modAt]

/-- A change of a pair that leaves its pc. -/
theorem modPair_pc (s : State) (q p : Nat) (f : PairSt → PairSt) (hf : ∀ y, (f y).pc = y.pc) (x : SeqSt → SeqSt)
    (hx : ∀ y, (x y).pair = modAt y.pair p f) : (pairOf (modSeq s q x) q p).pc = (pairOf s q p).pc := by
  unfold pairOf
  rcases Nat.lt_or_ge q s.seqs.seq.length with h | h
  · rw [seqOf_modSeq _ _ _ h, hx, nth_modAt]
    split
    · exact hf _
    · rename_i h2; rw [nth_ge _ _ _ (by omega)]
  · unfold modSeq; rw [modAt_ge _ _ _ h]

/-- Counting a tick without slot left leaves the pc. -/
theorem noteExcess_pc (s : State) (q p : Nat) : (pairOf (noteExcess s q p) q p).pc = (pairOf s q p).pc := by
  unfold noteExcess modPair
  split
  · exact modPair_pc s q p _ (fun y => by rfl) _ fun y => rfl
  · rfl

/-- Charging cycles leaves the pc. -/
theorem charge_pc (s : State) (q p n : Nat) : (pairOf (charge s q p n) q p).pc = (pairOf s q p).pc := by
  unfold charge
  exact (modPair_pc (noteExcess s q p) q p _ (fun y => by rfl) _ fun y => rfl).trans (noteExcess_pc s q p)

/-- The length of a little-endian field. -/
theorem leBytes_length (n v : Nat) : (leBytes n v).length = n := by
  induction n generalizing v with
  | zero => rfl
  | succ n ih => simp [leBytes, ih]

/-- Draining stores leaves sequencers and registers. -/
theorem drainWrites_seqs (l : List BufStore) (s : State) : (l.foldl (fun s b => ssmWrite s b.addr b.bytes) s).seqs = s.seqs ∧ (l.foldl (fun s b => ssmWrite s b.addr b.bytes) s).regs = s.regs := by
  induction l generalizing s with
  | nil => exact ⟨rfl, rfl⟩
  | cons a l ih => exact ih _

/-- Draining leaves the registers and the owner of the pair. -/
theorem drainAll_pair (s : State) (q p : Nat) : (pairOf (drainAll s q p) q p).gregs = (pairOf s q p).gregs ∧ ownerOf (drainAll s q p) q p = ownerOf s q p := by
  unfold drainAll
  dsimp only
  constructor
  · have h := (drainWrites_seqs (pairOf s q p).sbuf (modPair s q p (fun y => { y with sbuf := [] }))).1
    have : ∀ x y : State, x.seqs = y.seqs → pairOf x q p = pairOf y q p := by
      intro x y hh; unfold pairOf seqOf; rw [hh]
    rw [this _ _ h]
    rcases Nat.lt_or_ge q s.seqs.seq.length with hq | hq
    · rcases Nat.lt_or_ge p (seqOf s q).pair.length with hp | hp
      · rw [pairOf_modPair _ _ _ _ hq hp]
      · have : modAt (seqOf s q).pair p (fun y => { y with sbuf := [] }) = (seqOf s q).pair := modAt_ge _ _ _ hp
        unfold modPair pairOf
        rw [seqOf_modSeq _ _ _ hq]
        dsimp only
        rw [this]
    · have : ∀ f, modPair s q p f = s := by
        intro f; unfold modPair modSeq; rw [modAt_ge _ _ _ hq]
      rw [this]
  · have h := (drainWrites_seqs (pairOf s q p).sbuf (modPair s q p (fun y => { y with sbuf := [] }))).2
    unfold ownerOf Machine.get
    rw [h]
    rfl

/-- Draining leaves whether device instructions return ABORTED. -/
theorem devDead_drainAll (s : State) (q p o : Nat) : devDead (drainAll s q p) o = devDead s o := by
  have h := drainWrites_seqs (pairOf s q p).sbuf (modPair s q p (fun y => { y with sbuf := [] }))
  unfold devDead drainAll anchored isSet partOf Machine.get
  dsimp only
  rw [h.1, h.2]
  rfl

/-- Draining leaves every register. -/
theorem greg_drainAll (s : State) (q p r : Nat) : greg (drainAll s q p) q p r = greg s q p r := by unfold greg; rw [(drainAll_pair s q p).1]

/-- Draining leaves the owner. -/
theorem ownerOf_drainAll (s : State) (q p : Nat) : ownerOf (drainAll s q p) q p = ownerOf s q p := (drainAll_pair s q p).2

/-- Draining leaves every register field. -/
theorem get_drainAll (s : State) (q p : Nat) (f : Fld) : get (drainAll s q p) f = get s f := by
  have h := drainWrites_seqs (pairOf s q p).sbuf (modPair s q p (fun y => { y with sbuf := [] }))
  unfold drainAll Machine.get
  dsimp only
  rw [h.2]; rfl

/-- Draining stores leaves the tick generator. -/
theorem drainWrites_tick (l : List BufStore) (s : State) : (l.foldl (fun s b => ssmWrite s b.addr b.bytes) s).tick = s.tick := by
  induction l generalizing s with
  | nil => rfl
  | cons a l ih => exact ih _

/-- Draining leaves the tick generator. -/
theorem drainAll_tick (s : State) (q p : Nat) : (drainAll s q p).tick = s.tick := by
  unfold drainAll; dsimp only; rw [drainWrites_tick]; rfl

/-- A device instruction on a live unit: drain, act, write rd. -/
theorem devRun_live (s : State) (q p rd cost : Nat) (f) (h : devDead s (ownerOf s q p) = false) : devRun s q p rd cost f = seqWrite (f (drainAll s q p)).2 q p rd (f (drainAll s q p)).1 cost := by
  unfold devRun; dsimp only; rw [ownerOf_drainAll, devDead_drainAll, h]; rfl

/-- A command whose outcome is finSettle of u completes with u settled. -/
theorem Completes.of_finSettle {i : Instr} {s u : State} (h : exec i s = finSettle u) : Completes i s u := h

/-- The same for a command that only running units answer. -/
theorem Completes.of_answered {i : Instr} {s u : State} (hu : unitsRun s = true) (h : exec i s = answered s (finSettle u)) :
    Completes i s u := by rw [answered_run _ hu] at h; exact h

/-- No change. -/
theorem modStrand_id (s : State) (n : Nat) : modStrand s n (fun z => z) = s := by unfold modStrand; rw [modAt_id]

end Sys2Proof.Machine
end

