-- ==== Sys2Proof/Laws/QueueBase.lean ====
section
/-! SUPPORT. That the shared operations leave the queue of waiting commands alone: register and memory writes, and loops of steps that
each leave it alone. -/

namespace Sys2Proof.Machine

theorem put_pending (s : State) (f : Fld) (v : Nat) : (put s f v).pending = s.pending := rfl

theorem foldl_pending {α : Type} (l : List α) (f : State → α → State) (s : State)
    (hf : ∀ (s : State) (a : α), (f s a).pending = s.pending) : (l.foldl f s).pending = s.pending := by
  induction l generalizing s with
  | nil => rfl
  | cons a l ih => rw [List.foldl_cons, ih, hf]

theorem forN_pending (n : Nat) (f : Nat → State → State) (s : State) (hf : ∀ (i : Nat) (s : State), (f i s).pending = s.pending) :
    (forN n f s).pending = s.pending := foldl_pending _ _ s fun s i => hf i s

theorem fsWrite_pending (s : State) (a : Nat) (bs : List Byte) : (fsWrite s a bs).pending = s.pending := rfl

theorem ssmWrite_pending (s : State) (a : Nat) (bs : List Byte) : (ssmWrite s a bs).pending = s.pending := rfl

theorem ite_pending {c : Prop} [Decidable c] {a b : State} {q : List Instr} (ha : a.pending = q) (hb : b.pending = q) :
    (if c then a else b).pending = q := by split <;> assumption

theorem ite2_pending {α : Type} {c : Prop} [Decidable c] {a b : α × State} {q : List Instr} (ha : a.2.pending = q)
    (hb : b.2.pending = q) : (if c then a else b).2.pending = q := by split <;> assumption

end Sys2Proof.Machine
end

