-- ==== Sys2Proof/Laws/QueueOps.lean ====
section
/-! SUPPORT. That the operations of Machine/Ops.lean leave the queue of waiting commands alone. -/

namespace Sys2Proof.Machine

theorem setF_pending (s : State) (f : Fld) : (setF s f).pending = s.pending := by
  unfold setF
  grind [put_pending]

theorem clrF_pending (s : State) (f : Fld) : (clrF s f).pending = s.pending := by
  unfold clrF
  grind [put_pending]

theorem bumpBy_pending (s : State) (f : Fld) (n : Nat) : (bumpBy s f n).pending = s.pending := by
  unfold bumpBy
  grind [put_pending]

theorem bump_pending (s : State) (f : Fld) : (bump s f).pending = s.pending := by
  unfold bump
  grind [bumpBy_pending]

theorem putMax_pending (s : State) (f : Fld) (v : Nat) : (putMax s f v).pending = s.pending := by
  unfold putMax
  grind [put_pending]

theorem put2_pending (s : State) (lo hi : Fld) (v : Nat) : (put2 s lo hi v).pending = s.pending := by
  unfold put2
  grind [put_pending]

theorem putInt_pending (s : State) (f : Fld) (i : Int) : (putInt s f i).pending = s.pending := by
  unfold putInt
  grind [put_pending]

theorem useFree_pending (s : State) : (useFree s).pending = s.pending := by
  unfold useFree
  grind

theorem stamp_pending (s : State) (t : Nat) : (stamp s t).pending = s.pending := by
  unfold stamp
  grind

theorem answered_pending (s : State) (o : Host.Outcome State Fault Refusal) (h2 : ∀ t, o = .next t → t.pending = s.pending) (t' : State) (ht' : answered s o = .next t') : t'.pending = s.pending := by
  unfold answered at *
  grind

theorem raise_pending (s : State) (src : Nat) : (raise s src).pending = s.pending := by
  unfold raise
  grind [put_pending]

theorem raiseP_pending (s : State) (p k : Nat) : (raiseP s p k).pending = s.pending := by
  unfold raiseP
  grind [raise_pending]

theorem modCfg_pending (s : State) (p : Nat) (f : CfgSt → CfgSt) : (modCfg s p f).pending = s.pending := by
  unfold modCfg
  grind

theorem raiseAll_pending (s : State) (k : Nat) : (raiseAll s k).pending = s.pending := by
  unfold raiseAll
  grind [forN_pending, raiseP_pending]

theorem fltFirst_pending (s : State) (f : Nat) : (fltFirst s f).pending = s.pending := by
  unfold fltFirst
  grind [put_pending, put2_pending]

theorem fltNotify_pending (s : State) (f : Nat) : (fltNotify s f).pending = s.pending := by
  unfold fltNotify
  grind [bump_pending, fltFirst_pending, raise_pending]

theorem fault_pending (s : State) (f : Nat) : (fault s f).pending = s.pending := by
  unfold fault
  grind [fltNotify_pending, put_pending]

end Sys2Proof.Machine
end

