-- ==== Sys2Proof/Laws/QueueXlate.lean ====
section
/-! SUPPORT. That the operations of Machine/Xlate.lean leave the queue of waiting commands alone. -/

namespace Sys2Proof.Machine

theorem modPH_pending (s : State) (p : Nat) (f : PartHost → PartHost) : (modPH s p f).pending = s.pending := by
  unfold modPH
  grind

theorem xfault_pending (s : State) (p addr : Nat) (write : Bool) (req : HostReq) (cause level region : Nat) : (xfault s p addr write req cause level region).pending = s.pending := by
  unfold xfault
  grind [bump_pending, fault_pending, modPH_pending, raiseP_pending]

theorem startWalk_pending (s : State) (p page : Nat) : (startWalk s p page).pending = s.pending := by
  unfold startWalk
  grind [bump_pending]

theorem startOp_pending (s : State) (p : Nat) (req : HostReq) (addr len : Nat) (write : Bool) (bytes : List Byte) : (startOp s p req addr len write bytes).pending = s.pending := by
  unfold startOp
  grind

theorem dropOp_pending (s : State) (id : Nat) : (dropOp s id).pending = s.pending := by
  unfold dropOp
  grind

theorem setOp_pending (s : State) (o : HostOp) : (setOp s o).pending = s.pending := by
  unfold setOp
  grind

theorem modSq_pending (s : State) (p r : Nat) (f : SqSt → SqSt) : (modSq s p r f).pending = s.pending := by
  unfold modSq
  grind [modPH_pending]

theorem modCq_pending (s : State) (p r : Nat) (f : CqSt → CqSt) : (modCq s p r f).pending = s.pending := by
  unfold modCq
  grind [modPH_pending]

theorem sqFinish_pending (s : State) (p r : Nat) : (sqFinish s p r).pending = s.pending := by
  unfold sqFinish
  grind [modSq_pending, setF_pending]

theorem complWritten_pending (s : State) (p cq : Nat) : (complWritten s p cq).pending = s.pending := by
  unfold complWritten
  grind [modCq_pending, put_pending]

theorem cqStop_pending (s : State) (p r : Nat) : (cqStop s p r).pending = s.pending := by
  unfold cqStop
  grind [bumpBy_pending, clrF_pending]

theorem complete_pending (s : State) (c : RingCmd) (status result : Nat) : (complete s c status result).pending = s.pending := by
  unfold complete
  grind [bump_pending, sqFinish_pending, startOp_pending]

theorem dropCmd_pending (s : State) (c : RingCmd) : (dropCmd s c).pending = s.pending := by
  unfold dropCmd
  grind

theorem withCmd_pending (s : State) (p r id opc : Nat) (f : RingCmd → State → State) (h6 : ∀ (x0 : RingCmd) (s : State), (f x0 s).pending = s.pending) : (withCmd s p r id opc f).pending = s.pending := by
  unfold withCmd
  grind [dropCmd_pending]

end Sys2Proof.Machine
end

