-- ==== Sys2Proof/Laws/QueueSeqCore.lean ====
section
/-! SUPPORT. That the operations of Machine/SeqCore.lean leave the queue of waiting commands alone. -/

namespace Sys2Proof.Machine

theorem modSeq_pending (s : State) (q : Nat) (f : SeqSt → SeqSt) : (modSeq s q f).pending = s.pending := by
  unfold modSeq
  grind

theorem modPair_pending (s : State) (q p : Nat) (f : PairSt → PairSt) : (modPair s q p f).pending = s.pending := by
  unfold modPair
  grind [modSeq_pending]

theorem modPart_pending (s : State) (p : Nat) (f : PartSt → PartSt) : (modPart s p f).pending = s.pending := by
  unfold modPart
  grind

theorem setStandby_pending (s : State) (q p : Nat) (i : Option (List Byte)) : (setStandby s q p i).pending = s.pending := by
  unfold setStandby
  grind [modPair_pending]

theorem setActive_pending (s : State) (q p : Nat) (i : Option (List Byte)) : (setActive s q p i).pending = s.pending := by
  unfold setActive
  grind [modPair_pending]

theorem noteExcess_pending (s : State) (q p : Nat) : (noteExcess s q p).pending = s.pending := by
  unfold noteExcess
  grind [bump_pending, modPair_pending]

theorem charge_pending (s : State) (q p n : Nat) : (charge s q p n).pending = s.pending := by
  unfold charge
  grind [modSeq_pending, noteExcess_pending]

theorem pick_pending (s : State) (q : Nat) : (pick s q).pending = s.pending := by
  unfold pick
  grind [modSeq_pending, noteExcess_pending, put_pending]

theorem drainOne_pending (s : State) (q p : Nat) : (drainOne s q p).pending = s.pending := by
  unfold drainOne
  grind [modPair_pending, ssmWrite_pending]

theorem drainAll_pending (s : State) (q p : Nat) : (drainAll s q p).pending = s.pending := by
  unfold drainAll
  grind [foldl_pending, modPair_pending, ssmWrite_pending]

theorem leave_pending (s : State) (q p st : Nat) : (leave s q p st).pending = s.pending := by
  unfold leave
  grind [drainAll_pending, modSeq_pending, pick_pending, put_pending]

theorem progFault_pending (s : State) (q p cause pc addr : Nat) : (progFault s q p cause pc addr).pending = s.pending := by
  unfold progFault
  grind [fault_pending, leave_pending, modPair_pending, put_pending, put2_pending, raiseP_pending]

theorem setGreg_pending (s : State) (q p r v : Nat) : (setGreg s q p r v).pending = s.pending := by
  unfold setGreg
  grind [modPair_pending]

theorem wake_pending (s : State) (q p v : Nat) : (wake s q p v).pending = s.pending := by
  unfold wake
  grind [modPair_pending, pick_pending, progFault_pending, put_pending, setGreg_pending]

theorem tagIssue_pending (s : State) (o tag : Nat) : (tagIssue s o tag).pending = s.pending := by
  unfold tagIssue
  grind [modPart_pending]

theorem tagPost_pending (s : State) (o tag : Nat) : (tagPost s o tag).pending = s.pending := by
  unfold tagPost
  grind [modPart_pending, wake_pending]

theorem bellRing_pending (s : State) (o k : Nat) : (bellRing s o k).pending = s.pending := by
  unfold bellRing
  grind [modPart_pending, wake_pending]

theorem modTimer_pending (s : State) (o t : Nat) (f : Timer → Timer) : (modTimer s o t f).pending = s.pending := by
  unfold modTimer
  grind [modPart_pending]

theorem tmrLose_pending (s : State) (o t n : Nat) : (tmrLose s o t n).pending = s.pending := by
  unfold tmrLose
  grind [bumpBy_pending, modTimer_pending]

theorem tmrExpire_pending (s : State) (o t : Nat) : (tmrExpire s o t).pending = s.pending := by
  unfold tmrExpire
  grind [put_pending, tmrLose_pending, wake_pending]

theorem tmrCancel_pending (s : State) (o t : Nat) : (tmrCancel s o t).pending = s.pending := by
  unfold tmrCancel
  grind [modTimer_pending, put_pending, tmrLose_pending]

theorem tmrLoad_pending (s : State) (o t mode ns c : Nat) : (tmrLoad s o t mode ns c).pending = s.pending := by
  unfold tmrLoad
  grind [modTimer_pending, put_pending, put2_pending, tmrCancel_pending]

theorem tmrNext_pending (s : State) (o t : Nat) : (tmrNext s o t).pending = s.pending := by
  unfold tmrNext
  grind [modTimer_pending, put_pending]

theorem setCaps_pending (s : State) (o e : Nat) (l : List Nat) : (setCaps s o e l).pending = s.pending := by
  unfold setCaps
  grind [modPart_pending, put_pending]

theorem edgeTake_pending (s : State) (o e stamp : Nat) : (edgeTake s o e stamp).pending = s.pending := by
  unfold edgeTake
  grind [bump_pending, put_pending, put2_pending, setCaps_pending, stamp_pending, wake_pending]

theorem setLevel_pending (s : State) (o e : Nat) (l : Option Bool) : (setLevel s o e l).pending = s.pending := by
  unfold setLevel
  grind [modPart_pending]

theorem edgeFlush_pending (s : State) (o e : Nat) : (edgeFlush s o e).pending = s.pending := by
  unfold edgeFlush
  grind [bumpBy_pending, setCaps_pending]

theorem edgeDisarm_pending (s : State) (o e : Nat) : (edgeDisarm s o e).pending = s.pending := by
  unfold edgeDisarm
  grind [edgeFlush_pending, put_pending]

end Sys2Proof.Machine
end

