-- ==== Sys2Proof/Laws/QueueLysilo.lean ====
section
/-! SUPPORT. That the operations of Machine/Lysilo.lean leave the queue of waiting commands alone. -/

namespace Sys2Proof.Machine

theorem seqRun_pending (s : State) (q : Nat) (ecc : Ecc) (w : Nat) (k : Nat → State → State) (h5 : ∀ (x0 : Nat) (s : State), (k x0 s).pending = s.pending) : (seqRun s q ecc w k).pending = s.pending := by
  unfold seqRun
  grind [bump_pending, fault_pending, progFault_pending, stamp_pending]

theorem seqGoto_pending (s : State) (q p pc : Nat) : (seqGoto s q p pc).pending = s.pending := by
  unfold seqGoto
  grind [modPair_pending, progFault_pending]

theorem seqNext_pending (s : State) (q p n : Nat) : (seqNext s q p n).pending = s.pending := by
  unfold seqNext
  grind [charge_pending, seqGoto_pending]

theorem seqWrite_pending (s : State) (q p rd v n : Nat) : (seqWrite s q p rd v n).pending = s.pending := by
  unfold seqWrite
  grind [seqNext_pending, setGreg_pending]

theorem stallCycles_pending (s : State) : (stallCycles s).2.pending = s.pending := by
  unfold stallCycles
  grind [useFree_pending]

theorem ssmLoad_pending (s : State) (q p a n : Nat) : (ssmLoad s q p a n).2.pending = s.pending := by
  unfold ssmLoad
  grind [drainOne_pending, forN_pending]

theorem ssmStore_pending (s : State) (q p a : Nat) (bs : List Byte) : (ssmStore s q p a bs).2.pending = s.pending := by
  unfold ssmStore
  grind [drainOne_pending, modPair_pending, stallCycles_pending]

theorem devRun_pending (s : State) (q p rd cost : Nat) (f : State → Nat × State)
    (hf : ∀ s : State, (f s).2.pending = s.pending) : (devRun s q p rd cost f).pending = s.pending := by
  simp only [devRun]
  exact ite_pending (by rw [seqWrite_pending, drainAll_pending]) (by rw [seqWrite_pending, hf, drainAll_pending])

end Sys2Proof.Machine
end

