-- ==== Sys2Proof/Laws/QueuePool.lean ====
section
/-! SUPPORT. That the operations of Machine/Pool.lean leave the queue of waiting commands alone. -/

namespace Sys2Proof.Machine

theorem setRef_pending (s : State) (b : Nat) (r : BufRef) : (setRef s b r).pending = s.pending := by
  unfold setRef
  grind

theorem lowWater_pending (s : State) (old new level src : Nat) : (lowWater s old new level src).pending = s.pending := by
  unfold lowWater
  grind [raise_pending]

theorem setFree_pending (s : State) (ess : Bool) (n : Nat) : (setFree s ess n).pending = s.pending := by
  unfold setFree
  grind [lowWater_pending, put_pending]

theorem freeBuf_pending (s : State) (b : Nat) : (freeBuf s b).pending = s.pending := by
  unfold freeBuf
  grind [fsWrite_pending, setFree_pending, setRef_pending]

theorem breakList_pending (s : State) (ess : Bool) : (breakList s ess).pending = s.pending := by
  unfold breakList
  grind [fault_pending, put_pending, raise_pending]

theorem takeHead_pending (s : State) (ess : Bool) (b nxt : Nat) (holder : Option Nat) : (takeHead s ess b nxt holder).pending = s.pending := by
  unfold takeHead
  grind [setFree_pending, setRef_pending]

theorem poolAlloc_pending (s : State) (ess : Bool) (holder : Option Nat) : (poolAlloc s ess holder).2.pending = s.pending := by
  unfold poolAlloc
  grind [breakList_pending, takeHead_pending]

theorem poolRefuse_pending (s : State) (b kind : Nat) : (poolRefuse s b kind).pending = s.pending := by
  unfold poolRefuse
  grind [bump_pending, put_pending, raise_pending]

theorem poolAdd_pending (s : State) (b : Nat) (holder : Option Nat) : (poolAdd s b holder).2.pending = s.pending := by
  unfold poolAdd
  grind [poolRefuse_pending, setRef_pending]

theorem dropRef_pending (s : State) (b : Nat) (r : BufRef) : (dropRef s b r).pending = s.pending := by
  unfold dropRef
  grind [freeBuf_pending, setRef_pending]

theorem poolRelease_pending (s : State) (b : Nat) (holder : Option Nat) : (poolRelease s b holder).2.pending = s.pending := by
  unfold poolRelease
  grind [dropRef_pending, poolRefuse_pending]

theorem releaseAll_pending (s : State) (bs : List Nat) : (releaseAll s bs).pending = s.pending := by
  unfold releaseAll
  grind [foldl_pending, poolRelease_pending]

theorem poolSweep_pending (s : State) (p : Nat) : (poolSweep s p).pending = s.pending := by
  unfold poolSweep
  grind [dropRef_pending, foldl_pending]

theorem threadList_pending (s : State) (l : List Nat) : (threadList s l).pending = s.pending := by
  induction l with
  | nil => rfl
  | cons b bs ih => rw [threadList, fsWrite_pending, ih]


theorem execPoolInit_pending (s : State) (t' : State) (ht' : execPoolInit s = .next t') : t'.pending = s.pending := by
  unfold execPoolInit at *
  grind [answered_pending, clrF_pending, put_pending, setF_pending]

theorem execPoolInitDone_pending (essOrder genOrder : List Nat) (s : State) (t' : State) (ht' : execPoolInitDone essOrder genOrder s = .next t') : t'.pending = s.pending := by
  unfold execPoolInitDone at *
  grind [clrF_pending, setFree_pending, threadList_pending]

theorem execPoolIncrement_pending (buf : Nat) (holder : Option Part) (s : State) (t' : State) (ht' : execPoolIncrement buf holder s = .next t') : t'.pending = s.pending := by
  unfold execPoolIncrement at *
  grind [poolAdd_pending]

theorem execPoolDecrement_pending (buf : Nat) (holder : Option Part) (s : State) (t' : State) (ht' : execPoolDecrement buf holder s = .next t') : t'.pending = s.pending := by
  unfold execPoolDecrement at *
  grind [poolRelease_pending]

end Sys2Proof.Machine
end

