-- ==== Sys2Proof/Laws/QueueStrandCore.lean ====
section
/-! SUPPORT. That the operations of Machine/StrandCore.lean leave the queue of waiting commands alone. -/

namespace Sys2Proof.Machine

theorem modStrand_pending (s : State) (n : Nat) (f : StrandSt → StrandSt) : (modStrand s n f).pending = s.pending := by
  unfold modStrand
  grind

theorem modLane_pending (s : State) (l : Nat) (f : Lane → Lane) : (modLane s l f).pending = s.pending := by
  unfold modLane
  grind [put_pending]

theorem poolStat_pending (s : State) : (poolStat s).pending = s.pending := by
  unfold poolStat
  grind [put_pending]

theorem setStrState_pending (s : State) (n st : Nat) : (setStrState s n st).pending = s.pending := by
  unfold setStrState
  grind [poolStat_pending, put_pending]

theorem writeRecord_pending (s : State) (part q space a : Nat) (bs : List Byte) : (writeRecord s part q space a bs).pending = s.pending := by
  unfold writeRecord
  grind [fsWrite_pending, ssmWrite_pending, startOp_pending]

theorem jobRecord_pending (s : State) (j : Job) (status failRow outcome strand epoch detail : Nat) : (jobRecord s j status failRow outcome strand epoch detail).pending = s.pending := by
  unfold jobRecord
  grind [raiseP_pending, tagPost_pending, writeRecord_pending]

theorem showJob_pending (s : State) (n : Nat) (opc part tag : Nat) : (showJob s n opc part tag).pending = s.pending := by
  unfold showJob
  grind [put_pending]

theorem freeStrand_pending (s : State) (n : Nat) : (freeStrand s n).pending = s.pending := by
  unfold freeStrand
  grind [modStrand_pending, showJob_pending]

theorem endTestJob_pending (s : State) (n status detail : Nat) : (endTestJob s n status detail).pending = s.pending := by
  unfold endTestJob
  grind [jobRecord_pending]

theorem abandonTest_pending (s : State) (n : Nat) : (abandonTest s n).pending = s.pending := by
  unfold abandonTest
  grind [endTestJob_pending, modStrand_pending, put_pending]

theorem giveLane_pending (s : State) (l n : Nat) : (giveLane s l n).pending = s.pending := by
  unfold giveLane
  grind [abandonTest_pending, modStrand_pending, put_pending, setStrState_pending]

theorem bumpEpoch_pending (s : State) (l : Nat) : (bumpEpoch s l).pending = s.pending := by
  unfold bumpEpoch
  grind [put_pending]

theorem takeover_pending (s : State) (l n : Nat) : (takeover s l n).pending = s.pending := by
  unfold takeover
  grind [bumpEpoch_pending, forN_pending, giveLane_pending, modLane_pending, modStrand_pending, put_pending, setStrState_pending]

theorem takeoverDue_pending (s : State) (n : Nat) : (takeoverDue s n).pending = s.pending := by
  unfold takeoverDue
  grind [takeover_pending]

theorem endJob_pending (s : State) (n l : Nat) (status failRow outcome detail : Nat) : (endJob s n l status failRow outcome detail).pending = s.pending := by
  unfold endJob
  grind [freeStrand_pending, jobRecord_pending, modLane_pending, takeoverDue_pending]

theorem stopDeadJobs_pending (s : State) : (stopDeadJobs s).pending = s.pending := by
  unfold stopDeadJobs
  grind [endJob_pending, forN_pending]

theorem modJob_pending (s : State) (l : Nat) (f : Job → Job) : (modJob s l f).pending = s.pending := by
  unfold modJob
  grind [modLane_pending]

theorem fsWrites_pending (s : State) (ws : List (Nat × List Byte)) : (fsWrites s ws).pending = s.pending := by
  unfold fsWrites
  grind [foldl_pending, fsWrite_pending]

theorem setFrame_pending (s : State) (x : FrameFix) : (setFrame s x).pending = s.pending := by
  unfold setFrame
  grind

theorem setClip_pending (s : State) (x : ClipFix) : (setClip s x).pending = s.pending := by
  unfold setClip
  grind

theorem declareFray_pending (s : State) (n cause : Nat) : (declareFray s n cause).pending = s.pending := by
  unfold declareFray
  grind [bump_pending, fault_pending, modStrand_pending, put_pending]

theorem fray_pending (s : State) (n cause : Nat) : (fray s n cause).pending = s.pending := by
  unfold fray
  grind [declareFray_pending, modStrand_pending, setStrState_pending]

end Sys2Proof.Machine
end

