-- ==== Sys2Proof/Laws/QueueAdmission.lean ====
section
/-! SUPPORT. That the operations of Machine/Admission.lean leave the queue of waiting commands alone. -/

namespace Sys2Proof.Machine

theorem noteRefusal_pending (s : State) (part : Nat) (r : Refused) : (noteRefusal s part r).pending = s.pending := by
  unfold noteRefusal
  grind [bump_pending, put_pending]

theorem overcommitSet_pending (s : State) : (overcommitSet s).pending = s.pending := by
  unfold overcommitSet
  grind [raise_pending, setF_pending]

theorem overcommitCheck_pending (s : State) : (overcommitCheck s).pending = s.pending := by
  unfold overcommitCheck
  grind [overcommitSet_pending]

theorem overcommitTest_pending (s : State) : (overcommitTest s).pending = s.pending := by
  unfold overcommitTest
  grind [clrF_pending, overcommitSet_pending]

end Sys2Proof.Machine
end

