-- ==== Sys2Proof/Laws/QueueStrandEnc.lean ====
section
/-! SUPPORT. That the operations of Machine/StrandEnc.lean leave the queue of waiting commands alone. -/

namespace Sys2Proof.Machine

theorem issueJob_pending (s : State) (q part space a : Nat) (d : List Byte) : (issueJob s q part space a d).2.pending = s.pending := by
  unfold issueJob
  grind [modLane_pending, tagIssue_pending, writeRecord_pending]

theorem fixFrame_pending (s : State) (j : Job) : (fixFrame s j).pending = s.pending := by
  unfold fixFrame
  grind [setClip_pending, setFrame_pending]

theorem fixDecoded_pending (s : State) (j : Job) : (fixDecoded s j).pending = s.pending := by
  unfold fixDecoded
  grind

theorem startCount_pending (s : State) (l : Nat) (f : FrameId) (b : Nat) : (startCount s l f b).pending = s.pending := by
  unfold startCount
  grind [modLane_pending, put_pending]

theorem loadBand_pending (s : State) (n l : Nat) (j : Job) : (loadBand s n l j).pending = s.pending := by
  unfold loadBand
  grind [fault_pending, modStrand_pending]

theorem startJob_pending (s : State) (n : Nat) : (startJob s n).pending = s.pending := by
  unfold startJob
  grind [endJob_pending, fixDecoded_pending, fixFrame_pending, loadBand_pending, modLane_pending, modStrand_pending, showJob_pending, startCount_pending]

theorem startRoutine_pending (s : State) (n kind entry : Nat) (regs : List (Nat × Nat)) : (startRoutine s n kind entry regs).pending = s.pending := by
  unfold startRoutine
  grind [foldl_pending, modStrand_pending, put_pending]

theorem startPre_pending (s : State) (n : Nat) (d y : List Byte) (row : Nat) : (startPre s n d y row).pending = s.pending := by
  unfold startPre
  grind [modStrand_pending, startRoutine_pending]

theorem startMeta_pending (s : State) (n : Nat) (d : List Byte) (x : Staged) : (startMeta s n d x).pending = s.pending := by
  unfold startMeta
  grind [modStrand_pending, startRoutine_pending]

theorem encRow_pending (s : State) (n : Nat) (hits : List (Nat × Nat × Nat × Nat)) (upset : List (Nat × Byte)) :
    (encRow s n hits upset).pending = s.pending := by
  have hl : ∀ (s : State) (o : Option Nat) (b : BandSt), (match o with
      | some l => endJob s n l jsBadOpcode 0xFFFF 0 b.runBytes
      | none => s).pending = s.pending := by
    intro s o b
    cases o
    · rfl
    · exact endJob_pending ..
  unfold encRow
  cases jobOf s n with
  | none => rfl
  | some a =>
    simp only
    cases (strandOf s n).band with
    | none => rfl
    | some b =>
      simp only
      cases findFrame s b.frame with
      | none => rfl
      | some f =>
        simp only
        refine ite_pending rfl (ite_pending (ite_pending (startPre_pending ..) (hl ..)) (ite_pending (fray_pending ..) ?_))
        refine ite_pending (ite_pending ?_ ?_) ?_
        · exact (startMeta_pending ..).trans (modStrand_pending ..)
        · exact (hl ..).trans (modStrand_pending ..)
        · exact modStrand_pending ..

theorem noteMiss_pending (s : State) (f : FrameId) (b row n : Nat) : (noteMiss s f b row n).pending = s.pending := by
  unfold noteMiss
  grind [fault_pending]

theorem noteMatch_pending (s : State) (f : FrameId) (b row : Nat) : (noteMatch s f b row).pending = s.pending := by
  unfold noteMatch
  grind

theorem echoDone_pending (s : State) (n : Nat) : (echoDone s n).pending = s.pending := by
  unfold echoDone
  grind [bump_pending, fray_pending, modStrand_pending, noteMatch_pending, noteMiss_pending, put_pending, setF_pending]

/-- A run of writes leaves the queue alone. -/
theorem writeRun_pending (list fuel : Nat) (s : State) (buf off total : Nat) (bs : List Byte) (s' : State)
    (b' o' t' : Nat) (h : writeRun list fuel s buf off total bs = .done s' b' o' t') : s'.pending = s.pending := by
  induction fuel generalizing s buf off total bs with
  | zero =>
    unfold writeRun at h
    split at h
    · cases h; rfl
    · cases h
  | succ fuel ih =>
    unfold writeRun at h
    split at h
    · cases h; rfl
    · split at h
      · rw [ih _ _ _ _ _ h, fsWrite_pending]
      · simp only at h
        split at h
        · cases h
        · split at h
          · cases h
          · rename_i b s2 hp
            have := poolAlloc_pending s true none
            rw [hp] at this
            rw [ih _ _ _ _ _ h, fsWrite_pending]
            exact this

theorem noteGap_pending (s : State) (l t : Nat) : (noteGap s l t).pending = s.pending := by
  unfold noteGap
  grind [modLane_pending, put_pending, putMax_pending]

theorem countRow_pending (s : State) (n l : Nat) (b : BandSt) (waited t : Nat) (ovf damaged : Bool) : (countRow s n l b waited t ovf damaged).pending = s.pending := by
  unfold countRow
  grind [modJob_pending, modLane_pending, modStrand_pending, noteGap_pending, put_pending, putMax_pending, setFrame_pending]

theorem endIfLast_pending (s : State) (n l : Nat) (y : List Byte) (rows detail : Nat) : (endIfLast s n l y rows detail).pending = s.pending := by
  unfold endIfLast
  grind [endJob_pending]

theorem commitEnc_pending (s : State) (n l : Nat) (j : Job) (f : FrameFix) (b : BandSt) (z : Staged) (waited t : Nat) :
    (commitEnc s n l j f b z waited t).pending = s.pending := by
  unfold commitEnc
  split
  · split
    · exact breakList_pending ..
    · rfl
  · exact endJob_pending ..
  · rename_i s' b' o' t' hw
    have hs := writeRun_pending _ _ _ _ _ _ _ _ _ _ _ hw
    have hm : (match z.metaRow with
      | some m => if jHookMeta j.desc then fsWrite s' (jMetaBuf j.desc + 64 * z.row) m else s'
      | none => s').pending = s.pending := by
      split
      · split
        · rw [fsWrite_pending, hs]
        · exact hs
      · exact hs
    rw [endIfLast_pending, countRow_pending, fsWrite_pending]
    split
    · exact hm
    · rw [fsWrites_pending]; exact hm

end Sys2Proof.Machine
end

