-- ==== Sys2Proof/Laws/QueueStrandDec.lean ====
section
/-! SUPPORT. That the operations of Machine/StrandDec.lean leave the queue of waiting commands alone. -/

namespace Sys2Proof.Machine

/-- Marks and writes row by row leave the queue alone. -/
theorem foldl_snd_pending {α β : Type} (l : List α) (f : β × State → α → β × State) (a : β × State)
    (hf : ∀ (a : β × State) (x : α), (f a x).2.pending = a.2.pending) : (l.foldl f a).2.pending = a.2.pending := by
  induction l generalizing a with
  | nil => rfl
  | cons x l ih => rw [List.foldl_cons, ih, hf]

theorem decLearn_pending (s : State) (w : DecWork) : (decLearn s w).pending = s.pending := by
  unfold decLearn
  grind

theorem decStage_pending (s : State) (n : Nat) (b : BandSt) (w : DecWork) (z : Staged) : (decStage s n b w z).pending = s.pending := by
  unfold decStage
  grind [bumpBy_pending, decLearn_pending, modStrand_pending]

theorem decRow_pending (s : State) (n : Nat) : (decRow s n).pending = s.pending := by
  unfold decRow
  grind [decStage_pending]

theorem putMarks_pending (s : State) (df : DecFrame) (map : Nat) (b : BandSt) (row : Nat) (codes : List Nat) : (putMarks s df map b row codes).2.pending = s.pending := by
  unfold putMarks
  grind [fsWrite_pending]

theorem fillRows_pending (s : State) (d : List Byte) (df : DecFrame) (b : BandSt) : (fillRows s d df b).2.2.pending = s.pending := by
  unfold fillRows
  simp only
  split
  · rfl
  · refine foldl_snd_pending _ _ _ ?_
    rintro ⟨df, s⟩ ⟨q, sm⟩
    simp only
    rw [putMarks_pending, fsWrites_pending]

theorem closeDecoded_pending (s : State) (df : DecFrame) (map : Nat) : (closeDecoded s df map).pending = s.pending := by
  unfold closeDecoded
  grind [fsWrite_pending, raiseP_pending]

theorem ckptBottom_pending (s : State) (df : DecFrame) (dst : Nat) (b : BandSt) : (ckptBottom s df dst b).2.pending = s.pending := by
  unfold ckptBottom
  grind [useFree_pending]

theorem commitDec_pending (s : State) (n l : Nat) (j : Job) (df : DecFrame) (b : BandSt) (z : Staged) (waited t : Nat) :
    (commitDec s n l j df b z waited t).pending = s.pending := by
  have hm : (z.marks.foldl (fun (x : DecFrame × State) m => putMarks x.2 x.1 (jRate j.desc) b m.1 m.2) (df, fsWrites s z.writes)).2.pending
      = s.pending := (foldl_snd_pending _ _ _ fun a x => putMarks_pending _ _ _ _ _ _).trans (fsWrites_pending ..)
  simp only [commitDec]
  generalize z.marks.foldl (fun (x : DecFrame × State) m => putMarks x.2 x.1 (jRate j.desc) b m.1 m.2) (df, fsWrites s z.writes) = a at hm
  have hc := (fillRows_pending a.2 j.desc a.1 b).trans hm
  generalize fillRows a.2 j.desc a.1 b = c at hc
  have hb := fun df dst b => (ckptBottom_pending c.2.2 df dst b).trans hc
  have hw := fun df dst b a v => (fsWrite_pending (ckptBottom c.2.2 df dst b).2 a v).trans (hb df dst b)
  have hx : ∀ (x : State) (y : Strands), x.pending = s.pending → (State.mk x.regs x.clk x.free x.rdata x.sent x.fs x.ssm x.tick x.hub x.host
    x.pool x.mov x.movRestart x.dram x.pins y x.seqs x.mags x.sbd x.intake x.sup x.areas x.pending).pending = s.pending := fun _ _ h => h
  refine (endIfLast_pending ..).trans ((countRow_pending ..).trans ?_)
  exact ite_pending ((closeDecoded_pending ..).trans (hx _ _ (hw ..))) (hx _ _ (hw ..))

theorem rowCommit_pending (s : State) (n : Nat) (writes waited t : Nat) : (rowCommit s n writes waited t).pending = s.pending := by
  unfold rowCommit
  dsimp only
  cases (strandOf s n).staged.head? with
  | none => exact ite_pending (bumpBy_pending ..) rfl
  | some z =>
    refine ite_pending (c := ¬ z.handed) rfl (ite_pending ((bumpBy_pending ..).trans (modStrand_pending ..)) ?_)
    have key : ∀ (o : Option (Nat × Job)) (b : Option BandSt) (k : Nat → Job → BandSt → State),
      (∀ l j b, (k l j b).pending = s.pending) →
      (match o, b with
      | some (l, j), some b => k l j b
      | _, _ => s).pending = s.pending := by
      intro o b k hk
      cases o with
      | none => rfl
      | some o => cases b with
        | none => rfl
        | some b => exact hk _ _ _
    refine key _ _ _ ?_
    intro l j b
    cases z.after with
    | some b' =>
      simp only
      cases findDec s b.frame with
      | none => rfl
      | some df => exact commitDec_pending ..
    | none =>
      simp only
      cases findFrame s b.frame with
      | none => rfl
      | some f => exact ite_pending rfl (commitEnc_pending ..)

theorem echoJob_pending (s : State) (n : Nat) : (echoJob s n).pending = s.pending := by
  unfold echoJob
  grind [endJob_pending, modJob_pending, raiseP_pending, useFree_pending]

theorem loadCtx_pending (s : State) (n : Nat) : (loadCtx s n).pending = s.pending := by
  unfold loadCtx
  grind [endJob_pending, modLane_pending, modStrand_pending, put_pending, startCount_pending]

theorem saveCtx_pending (s : State) (n : Nat) : (saveCtx s n).pending = s.pending := by
  unfold saveCtx
  grind [ckptBottom_pending, endJob_pending, fsWrite_pending]

end Sys2Proof.Machine
end

