-- ==== Sys2Proof/Laws/QueueMicro.lean ====
section
/-! SUPPORT. That the operations of Machine/Micro.lean leave the queue of waiting commands alone. -/

namespace Sys2Proof.Machine

theorem customFault_pending (s : State) (n : Nat) : (customFault s n).pending = s.pending := by
  unfold customFault
  dsimp only
  have h := rowCommit_pending s n 0 0 s.clk
  cases jobOf (rowCommit s n 0 0 s.clk) n with
  | none => exact h
  | some x => exact (endJob_pending ..).trans h


theorem uIllegal_pending (s : State) (n : Nat) (store : Bool) : (uIllegal s n store).pending = s.pending := by
  unfold uIllegal
  grind [customFault_pending, fray_pending]

theorem romReturn_pending (s : State) (n : Nat) : (romReturn s n).pending = s.pending := by
  unfold romReturn
  grind [put_pending, useFree_pending]

theorem routineEnd_pending (s : State) (n : Nat) : (routineEnd s n).pending = s.pending := by
  unfold routineEnd
  grind [endJob_pending, modStrand_pending, romReturn_pending]

theorem uHand_pending (s : State) (n : Nat) : (uHand s n).pending = s.pending := by
  unfold uHand
  grind [bump_pending, fsWrite_pending, modStrand_pending]

theorem uData_pending (s : State) (n : Nat) (w : MicroWord) : (uData s n w).pending = s.pending := by
  unfold uData
  grind [modStrand_pending, useFree_pending]

theorem uDispatchTo_pending (s : State) (n : Nat) : (uDispatchTo s n).pending = s.pending := by
  unfold uDispatchTo
  grind [endJob_pending, modStrand_pending, put_pending, routineEnd_pending]

theorem uNext_pending (s : State) (n pc : Nat) (w : MicroWord) (taken : Bool) : (uNext s n pc w taken).pending = s.pending := by
  unfold uNext
  grind [modStrand_pending, put_pending, routineEnd_pending, uDispatchTo_pending]

theorem uWord_pending (s : State) (n pc : Nat) (w : MicroWord) (eng : Bool) : (uWord s n pc w eng).pending = s.pending := by
  unfold uWord
  grind [customFault_pending, uData_pending, uHand_pending, uIllegal_pending, uNext_pending]

theorem storeUe_pending (s : State) (n : Nat) : (storeUe s n).pending = s.pending := by
  unfold storeUe
  grind [bump_pending, fray_pending]

theorem startCustom_pending (s : State) (n : Nat) : (startCustom s n).pending = s.pending := by
  unfold startCustom
  grind [endJob_pending, modStrand_pending, startRoutine_pending]

end Sys2Proof.Machine
end

