-- ==== Sys2Proof/Laws/QueueSplice.lean ====
section
/-! SUPPORT. That the operations of Machine/Splice.lean leave the queue of waiting commands alone. -/

namespace Sys2Proof.Machine

theorem resetStrand_pending (s : State) (n : Nat) : (resetStrand s n).pending = s.pending := by
  unfold resetStrand
  grind [modStrand_pending]

theorem beginTest_pending (s : State) (n kind : Nat) : (beginTest s n kind).pending = s.pending := by
  unfold beginTest
  grind [modStrand_pending, put_pending]

theorem startTest_pending (s : State) (n : Nat) : (startTest s n).pending = s.pending := by
  unfold startTest
  grind [beginTest_pending]

theorem testDone_pending (s : State) (n part sig : Nat) : (testDone s n part sig).pending = s.pending := by
  unfold testDone
  grind [endJob_pending, endTestJob_pending, fray_pending, modStrand_pending, put_pending, setF_pending, setStrState_pending]

theorem spareTests_pending (s : State) (t : Nat) : (spareTests s t).pending = s.pending := by
  unfold spareTests
  grind [beginTest_pending, forN_pending, stamp_pending]

theorem restartRow_pending (s : State) (n : Nat) : (restartRow s n).pending = s.pending := by
  unfold restartRow
  grind [bump_pending, modStrand_pending]

theorem sramUe_pending (s : State) (n : Nat) : (sramUe s n).pending = s.pending := by
  unfold sramUe
  grind [bump_pending, fray_pending, modStrand_pending, restartRow_pending]

theorem strandReadError_pending (s : State) (n : Nat) : (strandReadError s n).pending = s.pending := by
  unfold strandReadError
  dsimp only
  cases jobOf s n with
  | none => rfl
  | some x =>
    exact ite_pending rfl (ite_pending ((restartRow_pending ..).trans (modStrand_pending ..)) ((endJob_pending ..).trans (rowCommit_pending ..)))


theorem noCommit_pending (s : State) (n waited t : Nat) : (noCommit s n waited t).pending = s.pending := by
  unfold noCommit
  grind [fray_pending, putMax_pending, stamp_pending]

theorem shareLane_pending (s : State) (n l : Nat) : (shareLane s n l).pending = s.pending := by
  unfold shareLane
  grind [put_pending, setF_pending]

theorem passLane_pending (s : State) (n l cause : Nat) : (passLane s n l cause).pending = s.pending := by
  unfold passLane
  grind [bump_pending, bumpEpoch_pending, giveLane_pending, modLane_pending, put_pending, shareLane_pending, takeover_pending]

theorem isolate_pending (s : State) (n : Nat) (unack : Bool) : (isolate s n unack).pending = s.pending := by
  unfold isolate
  grind [modStrand_pending, put_pending, resetStrand_pending, setStrState_pending]

theorem splice_pending (s : State) (unack : Bool) : (splice s unack).pending = s.pending := by
  unfold splice
  grind [endJob_pending, foldl_pending, isolate_pending, overcommitSet_pending, passLane_pending]

theorem trimRun_pending (s : State) (list outBuf : Nat) : (trimRun s list outBuf).pending = s.pending := by
  unfold trimRun
  grind [foldl_pending, fsWrite_pending, poolRelease_pending]

theorem resumeJob_pending (s : State) (n l : Nat) (j : Job) : (resumeJob s n l j).pending = s.pending := by
  unfold resumeJob
  grind [endJob_pending, fault_pending, modLane_pending, modStrand_pending, showJob_pending, trimRun_pending]

theorem restoreLane_pending (s : State) (n : Nat) : (restoreLane s n).pending = s.pending := by
  unfold restoreLane
  grind [modLane_pending, resumeJob_pending, startOp_pending]

theorem descReread_pending (s : State) (l : Nat) (data : Option (List Byte)) : (descReread s l data).pending = s.pending := by
  unfold descReread
  grind [modLane_pending, restoreLane_pending]

theorem readyStrands_pending (s : State) : (readyStrands s).pending = s.pending := by
  unfold readyStrands
  grind [foldl_pending, setStrState_pending]

theorem moveLane_pending (s : State) (l m : Nat) : (moveLane s l m).pending = s.pending := by
  unfold moveLane
  grind [freeStrand_pending, giveLane_pending, modLane_pending]

theorem assignLanes_pending (s : State) : (assignLanes s).pending = s.pending := by
  unfold assignLanes
  grind [clrF_pending, foldl_pending, forN_pending, freeStrand_pending, modStrand_pending, moveLane_pending, put_pending, setF_pending, setStrState_pending, shareLane_pending]

theorem boundaryLanes_pending (s : State) : (boundaryLanes s).pending = s.pending := by
  unfold boundaryLanes
  grind [assignLanes_pending, forN_pending, moveLane_pending, put_pending, readyStrands_pending]

theorem strReset_pending (s : State) (n : Nat) (v : Nat) : (strReset s n v).pending = s.pending := by
  unfold strReset
  grind [abandonTest_pending, resetStrand_pending, setF_pending]

theorem strQuarSet_pending (s : State) (v : Nat) : (strQuarSet s v).pending = s.pending := by
  unfold strQuarSet
  grind [abandonTest_pending, setF_pending, setStrState_pending]

theorem strReadmit_pending (s : State) (v : Nat) : (strReadmit s v).pending = s.pending := by
  unfold strReadmit
  grind [put_pending, resetStrand_pending]

theorem strTestReq_pending (s : State) (v : Nat) : (strTestReq s v).pending = s.pending := by
  unfold strTestReq
  grind [beginTest_pending, modLane_pending, put_pending, takeover_pending, takeoverDue_pending]

theorem strPoolWrite_pending (s : State) (v : Nat) : (strPoolWrite s v).pending = s.pending := by
  unfold strPoolWrite
  grind [put_pending, setF_pending]

theorem osData2_pending (s : State) (v : Nat) : (osData2 s v).pending = s.pending := by
  unfold osData2
  grind [put_pending, setF_pending]

end Sys2Proof.Machine
end

