-- ==== Sys2Proof/Laws/QueueMagCore.lean ====
section
/-! SUPPORT. That the operations of Machine/MagCore.lean leave the queue of waiting commands alone. -/

namespace Sys2Proof.Machine

theorem modMag_pending (s : State) (n : Nat) (f : MagSt → MagSt) : (modMag s n f).pending = s.pending := by
  unfold modMag
  grind

theorem modSess_pending (s : State) (n : Nat) (f : Session → Session) : (modSess s n f).pending = s.pending := by
  unfold modSess
  grind [modMag_pending]

theorem magAccrue_pending (s : State) (n : Nat) : (magAccrue s n).pending = s.pending := by
  unfold magAccrue
  grind [modMag_pending]

theorem addCmd_pending (s : State) (n op : Nat) (r : NvReq) : (addCmd s n op r).pending = s.pending := by
  unfold addCmd
  grind [magAccrue_pending, modMag_pending, putMax_pending]

theorem addOp_pending (s : State) (n : Nat) (kind : MagKind) (steps : List MagStep) (code : Nat) : (addOp s n kind steps code).pending = s.pending := by
  unfold addOp
  grind [modMag_pending]

theorem modMop_pending (s : State) (n id : Nat) (f : MagOp → MagOp) : (modMop s n id f).pending = s.pending := by
  unfold modMop
  grind [modMag_pending]

theorem dropMop_pending (s : State) (n id : Nat) : (dropMop s n id).pending = s.pending := by
  unfold dropMop
  grind [modMag_pending]

theorem prepend_pending (s : State) (n id : Nat) (l : List MagStep) : (prepend s n id l).pending = s.pending := by
  unfold prepend
  grind [modMop_pending]

theorem headerSteps_pending (s : State) (n : Nat) (dirty : Bool) : (headerSteps s n dirty).1.pending = s.pending := by
  unfold headerSteps
  grind [modSess_pending]

theorem spoolRecord_pending (s : State) (sp : SpoolReq) (status flags member bytes : Nat) : (spoolRecord s sp status flags member bytes).pending = s.pending := by
  unfold spoolRecord
  grind [writeRecord_pending]

theorem spoolDone_pending (s : State) (sp : SpoolReq) (status flags member bytes : Nat) : (spoolDone s sp status flags member bytes).pending = s.pending := by
  unfold spoolDone
  grind [raiseP_pending, spoolRecord_pending, tagPost_pending]

theorem modClip_pending (s : State) (id : Nat) (f : Clip → Clip) : (modClip s id f).pending = s.pending := by
  unfold modClip
  grind

theorem modMem_pending (s : State) (id n : Nat) (f : ClipMem → ClipMem) : (modMem s id n f).pending = s.pending := by
  unfold modMem
  grind [modClip_pending]

theorem showSpace_pending (s : State) (n : Nat) : (showSpace s n).pending = s.pending := by
  unfold showSpace
  grind [put_pending, raise_pending, setF_pending]

theorem takeAu_pending (s : State) (n num : Nat) (chain : List Nat) (r' : Nat × State)
    (hr' : takeAu s n num chain = some r') : r'.2.pending = s.pending := by
  simp only [takeAu, Option.map_eq_some_iff] at hr'
  obtain ⟨u, _, rfl⟩ := hr'
  exact modSess_pending ..

theorem extendChain_pending (n num need fuel : Nat) (s : State) (chain new : List Nat) :
    (extendChain n num need fuel s chain new).1.pending = s.pending := by
  induction fuel generalizing s chain new with
  | zero => rfl
  | succ fuel ih =>
    unfold extendChain
    split
    · rfl
    · cases ht : takeAu s n num chain with
      | none => rfl
      | some r => exact (ih r.2 _ _).trans (takeAu_pending _ _ _ _ _ ht)

theorem dropDue_pending (s : State) (n why : Nat) : (dropDue s n why).pending = s.pending := by
  unfold dropDue
  grind [modMag_pending]

theorem writeMap_pending (s : State) (n : Nat) (chain new : List Nat) : (writeMap s n chain new).pending = s.pending := by
  unfold writeMap
  grind [addOp_pending, modMag_pending, showSpace_pending]

theorem placeRecord_pending (s : State) (c : Clip) (n : Nat) (r : RecReq) : (placeRecord s c n r).pending = s.pending := by
  unfold placeRecord
  cases memOf c n with
  | none => rfl
  | some m =>
    simp only
    have he := extendChain_pending n c.num (m.next + (1 + ceilDiv r.metaB.length 4096 + ceilDiv r.ess.length 4096) +
      b2n ((m.ents.length + 1) % 96 == 0) + 2) ((1 + ceilDiv r.metaB.length 4096 + ceilDiv r.ess.length 4096) / auBlocks + 2) s
      m.chain []
    generalize extendChain n c.num (m.next + (1 + ceilDiv r.metaB.length 4096 + ceilDiv r.ess.length 4096) +
      b2n ((m.ents.length + 1) % 96 == 0) + 2) ((1 + ceilDiv r.metaB.length 4096 + ceilDiv r.ess.length 4096) / auBlocks + 2) s
      m.chain [] = e at he
    have hw := (writeMap_pending e.1 n e.2.1 e.2.2.1).trans he
    have hd : (if e.2.2.2 then writeMap e.1 n e.2.1 e.2.2.1 else
        dropDue (setF (writeMap e.1 n e.2.1 e.2.2.1) (R.MAG_STAT_LOWSPACE n)) n 4).pending = s.pending :=
      ite_pending hw ((dropDue_pending ..).trans ((setF_pending ..).trans hw))
    exact ite_pending ((addOp_pending ..).trans ((modMem_pending ..).trans hd)) ((addOp_pending ..).trans ((modMem_pending ..).trans hd))

theorem modFrame_pending (s : State) (t : Nat) (f : Frame → Frame) : (modFrame s t f).pending = s.pending := by
  unfold modFrame
  grind

theorem modClipFrame_pending (s : State) (t clip : Nat) (f : ClipFrame → ClipFrame) : (modClipFrame s t clip f).pending = s.pending := by
  unfold modClipFrame
  grind [modFrame_pending]

theorem clipIndex_pending (s : State) (id n : Nat) : (clipIndex s id n).pending = s.pending := by
  unfold clipIndex
  grind [addOp_pending]

theorem issueReady_pending (s : State) (n : Nat) (r : Ready) : (issueReady s n r).pending = s.pending := by
  unfold issueReady
  grind [modMag_pending]

theorem startWhip1_pending (s : State) (c : Clip) (n : Nat) (m : ClipMem) : (startWhip1 s c n m).pending = s.pending := by
  unfold startWhip1
  grind [addOp_pending, issueReady_pending, modMem_pending]

theorem startWhip2_pending (s : State) (c : Clip) (n : Nat) (m : ClipMem) : (startWhip2 s c n m).pending = s.pending := by
  unfold startWhip2
  grind [addOp_pending, headerSteps_pending, modMem_pending, modSess_pending]

theorem clipProgress_pending (s : State) (id : Nat) : (clipProgress s id).pending = s.pending := by
  unfold clipProgress
  grind [foldl_pending, modClip_pending, startWhip1_pending, startWhip2_pending]

theorem clipsProgress_pending (s : State) : (clipsProgress s).pending = s.pending := by
  unfold clipsProgress
  grind [clipProgress_pending, foldl_pending]

theorem whipClip_pending (s : State) (id : Nat) : (whipClip s id).pending = s.pending := by
  unfold whipClip
  grind [clipProgress_pending, modClip_pending]

theorem renewReady_pending (s : State) (n : Nat) : (renewReady s n).pending = s.pending := by
  unfold renewReady
  grind [modMag_pending]

theorem dropReady_pending (s : State) (id n : Nat) : (dropReady s id n).pending = s.pending := by
  unfold dropReady
  grind [modMag_pending]

end Sys2Proof.Machine
end

