-- ==== Sys2Proof/Laws/QueueSbdCore.lean ====
section
/-! SUPPORT. That the operations of Machine/SbdCore.lean leave the queue of waiting commands alone. -/

namespace Sys2Proof.Machine

theorem modSbd_pending (s : State) (n : Nat) (f : SbdSt → SbdSt) : (modSbd s n f).pending = s.pending := by
  unfold modSbd
  grind

theorem addXfer_pending (s : State) (n : Nat) (use : SbdUse) (dev addr : Nat) (write : List Byte) (read : Nat) : (addXfer s n use dev addr write read).pending = s.pending := by
  unfold addXfer
  grind [modSbd_pending]

theorem idCompare_pending (s : State) (n : Nat) (sn : List Byte) (nsze : Nat) : (idCompare s n sn nsze).pending = s.pending := by
  unfold idCompare
  grind [raise_pending, setF_pending]

theorem lifeEu_pending (s : State) (n duw : Nat) : (lifeEu s n duw).2.pending = s.pending := by
  unfold lifeEu
  grind [useFree_pending]

theorem lifeUpdate_pending (s : State) (n pct duw : Nat) : (lifeUpdate s n pct duw).pending = s.pending := by
  unfold lifeUpdate
  grind [clrF_pending, fault_pending, lifeEu_pending, modSbd_pending, put_pending, raise_pending, setF_pending]

theorem wearPut_pending (s : State) (n i : Nat) (e : List Byte) : (wearPut s n i e).pending = s.pending := by
  unfold wearPut
  grind [addXfer_pending, modSbd_pending]

theorem wearOpened_pending (s : State) (n : Nat) (es : List (List Byte)) : (wearOpened s n es).pending = s.pending := by
  unfold wearOpened
  grind [modSbd_pending, wearPut_pending]

theorem wearClosed_pending (s : State) (n : Nat) : (wearClosed s n).pending = s.pending := by
  unfold wearClosed
  grind [modSbd_pending, wearPut_pending]

end Sys2Proof.Machine
end

