-- ==== Sys2Proof/Laws/QueueMagRun.lean ====
section
/-! SUPPORT. That the operations of Machine/MagRun.lean leave the queue of waiting commands alone. -/

namespace Sys2Proof.Machine

theorem portIdle_pending (s : State) (n : Nat) : (portIdle s n).pending = s.pending := by
  unfold portIdle
  grind [clrF_pending, modMag_pending, put_pending]

theorem openEnd_pending (s : State) (n : Nat) (c : RingCmd) (code count : Nat) : (openEnd s n c code count).pending = s.pending := by
  unfold openEnd
  grind [complete_pending, portIdle_pending]

theorem portFail_pending (s : State) (n : Nat) : (portFail s n).pending = s.pending := by
  unfold portFail
  grind [fault_pending, modMag_pending, put_pending, raise_pending]

theorem freeRec_pending (s : State) (r : RecReq) : (freeRec s r).pending = s.pending := by
  unfold freeRec
  grind [releaseAll_pending]

theorem setAnc_pending (s : State) (n v : Nat) : (setAnc s n v).pending = s.pending := by
  unfold setAnc
  grind

theorem dormAbort_pending (s : State) (block kind : Nat) : (dormAbort s block kind).pending = s.pending := by
  unfold dormAbort
  grind [bump_pending, put_pending, setF_pending]

theorem opFail_pending (s : State) (n : Nat) (o : MagOp) : (opFail s n o).pending = s.pending := by
  unfold opFail
  grind [complete_pending, dormAbort_pending, dropMop_pending, modMag_pending, openEnd_pending, portIdle_pending, setAnc_pending, spoolDone_pending]

theorem cmdFail_pending (s : State) (n : Nat) (c : NvCmd) (o : MagOp) : (cmdFail s n c o).pending = s.pending := by
  unfold cmdFail
  grind [opFail_pending, portFail_pending]

theorem openHdrs_pending (s : State) (n : Nat) (o : MagOp) (c : RingCmd) : (openHdrs s n o c).pending = s.pending := by
  unfold openHdrs
  grind [dropMop_pending, modMag_pending, modMop_pending, openEnd_pending, prepend_pending]

theorem openTabs_pending (s : State) (n : Nat) (o : MagOp) : (openTabs s n o).pending = s.pending := by
  unfold openTabs
  grind [modSess_pending]

theorem walkNext_pending (s : State) (n id : Nat) (todo : List Nat) (count : Nat) : (walkNext s n id todo count).pending = s.pending := by
  unfold walkNext
  grind [modMop_pending, prepend_pending]

theorem walkRead_pending (s : State) (n id : Nat) (w : RecWalk) : (walkRead s n id w).pending = s.pending := by
  unfold walkRead
  grind [prepend_pending]

theorem walkClose_pending (s : State) (n id : Nat) (w : RecWalk) (pre : List MagStep) (last frames footer : Nat) : (walkClose s n id w pre last frames footer).pending = s.pending := by
  unfold walkClose
  grind [headerSteps_pending, modSess_pending, prepend_pending]

theorem walkFoot_pending (s : State) (n id : Nat) (w : RecWalk) (pre : List MagStep) : (walkFoot s n id w pre).pending = s.pending := by
  unfold walkFoot
  grind [walkClose_pending]

theorem walkEnd_pending (s : State) (n id : Nat) (w : RecWalk) : (walkEnd s n id w).pending = s.pending := by
  unfold walkEnd
  grind [extendChain_pending, opFail_pending, walkFoot_pending]

theorem walkStep_pending (s : State) (n : Nat) (o : MagOp) (w : RecWalk) : (walkStep s n o w).pending = s.pending := by
  unfold walkStep
  grind [prepend_pending, walkClose_pending, walkEnd_pending, walkNext_pending, walkRead_pending]

theorem openDone_pending (s : State) (n : Nat) (o : MagOp) (c : RingCmd) : (openDone s n o c).pending = s.pending := by
  unfold openDone
  grind [addOp_pending, clrF_pending, dropMop_pending, idCompare_pending, modMag_pending, modSbd_pending, openEnd_pending, put_pending, showSpace_pending]

theorem recHeader_pending (s : State) (n : Nat) (o : MagOp) (r : RecReq) : (recHeader s n o r).pending = s.pending := by
  unfold recHeader
  grind [prepend_pending]

theorem recDone_pending (s : State) (n : Nat) (o : MagOp) (r : RecReq) : (recDone s n o r).pending = s.pending := by
  unfold recDone
  grind [clipIndex_pending, clipProgress_pending, dropMop_pending, freeRec_pending, modClip_pending, modClipFrame_pending, modMem_pending, spoolDone_pending]

theorem indexDone_pending (s : State) (n id : Nat) : (indexDone s n id).pending = s.pending := by
  unfold indexDone
  grind [clipIndex_pending, clipProgress_pending, modMem_pending]

theorem rfEnd_pending (s : State) (n : Nat) (o : MagOp) (sp : SpoolReq) (status : Nat) (gap : Bool) (bytes : Nat) : (rfEnd s n o sp status gap bytes).pending = s.pending := by
  unfold rfEnd
  grind [dropMop_pending, spoolDone_pending]

theorem noteRead_pending (s : State) (p : Nat) (h : List Byte) : (noteRead s p h).pending = s.pending := by
  unfold noteRead
  grind

theorem rfStep_pending (s : State) (n : Nat) (o : MagOp) (sp : SpoolReq) (a : MagAct) : (rfStep s n o sp a).pending = s.pending := by
  unfold rfStep
  cases a <;> grind (splits := 30) [rfEnd_pending, prepend_pending, noteRead_pending, poolAlloc_pending, fsWrite_pending]

theorem portReturn_pending (s : State) (n : Nat) : (portReturn s n).pending = s.pending := by
  unfold portReturn
  grind [bumpBy_pending, modMag_pending, put_pending, raise_pending]

theorem comeBackDone_pending (s : State) (n : Nat) : (comeBackDone s n).pending = s.pending := by
  unfold comeBackDone
  grind [modMag_pending, portReturn_pending]

theorem gotQueues_pending (s : State) (n : Nat) (o : MagOp) : (gotQueues s n o).pending = s.pending := by
  unfold gotQueues
  grind [prepend_pending, put_pending]

theorem magAct_pending (s : State) (n : Nat) (o : MagOp) (a : MagAct) : (magAct s n o a).pending = s.pending := by
  unfold magAct
  grind [addXfer_pending, bumpBy_pending, clipProgress_pending, comeBackDone_pending, complete_pending, dropMop_pending, dropReady_pending, fsWrite_pending, gotQueues_pending, headerSteps_pending, indexDone_pending, lifeUpdate_pending, modMag_pending, modMem_pending, opFail_pending, openDone_pending, openHdrs_pending, openTabs_pending, portIdle_pending, prepend_pending, put_pending, raise_pending, recDone_pending, recHeader_pending, rfStep_pending, setAnc_pending, spoolDone_pending, startOp_pending, walkNext_pending, walkStep_pending, wearClosed_pending]

theorem fuaAll_pending (s : State) (n : Nat) : (fuaAll s n).pending = s.pending := by
  unfold fuaAll
  grind [clrF_pending, raise_pending, setF_pending]

theorem cacheFlush_pending (s : State) (n : Nat) : (cacheFlush s n).pending = s.pending := by
  unfold cacheFlush
  grind [addOp_pending]

theorem magStep_pending (s : State) (n : Nat) (o : MagOp) : (magStep s n o).pending = s.pending := by
  unfold magStep
  grind [addCmd_pending, cacheFlush_pending, dropMop_pending, foldl_pending, magAct_pending, modMop_pending]

theorem magRun_pending (fuel : Nat) (s : State) : (magRun fuel s).pending = s.pending := by
  induction fuel generalizing s with
  | zero => rfl
  | succ fuel ih =>
    unfold magRun
    split
    · rfl
    · rw [ih, magStep_pending]


theorem portLose_pending (s : State) (n t : Nat) : (portLose s n t).pending = s.pending := by
  unfold portLose
  grind [bump_pending, foldl_pending, modMag_pending, opFail_pending, put_pending, raise_pending]

theorem rehome_pending (s : State) (held : Bool) (r : RecReq) : (rehome s held r).pending = s.pending := by
  unfold rehome
  grind [bump_pending, freeRec_pending, modClipFrame_pending, placeRecord_pending, spoolDone_pending]

theorem dropPort_pending (s : State) (n t : Nat) : (dropPort s n t).pending = s.pending := by
  unfold dropPort
  grind [addOp_pending, fault_pending, foldl_pending, modMag_pending, opFail_pending, portIdle_pending, put_pending, raise_pending, rehome_pending]

theorem magDrops_pending (s : State) : (magDrops s).pending = s.pending := by
  unfold magDrops
  grind [clipsProgress_pending, dropPort_pending, fault_pending, foldl_pending]

end Sys2Proof.Machine
end

