-- ==== Sys2Proof/Laws/QueueHub.lean ====
section
/-! SUPPORT. That the operations of Machine/Hub.lean leave the queue of waiting commands alone. -/

namespace Sys2Proof.Machine

theorem msixSet_pending (s : State) (p v w x : Nat) : (msixSet s p v w x).pending = s.pending := by
  unfold msixSet
  grind

theorem msixMsg_pending (s : State) (p v : Nat) : (msixMsg s p v).pending = s.pending := by
  unfold msixMsg
  grind

theorem msixSend_pending (s : State) (p v : Nat) : (msixSend s p v).pending = s.pending := by
  unfold msixSend
  grind [msixMsg_pending]

theorem msixFlush_pending (s : State) (p v : Nat) : (msixFlush s p v).pending = s.pending := by
  unfold msixFlush
  grind [msixMsg_pending]

theorem msixMask_pending (s : State) (p v : Nat) (m : Bool) : (msixMask s p v m).pending = s.pending := by
  unfold msixMask
  grind [msixFlush_pending]

theorem msixFlushAll_pending (s : State) (p : Nat) : (msixFlushAll s p).pending = s.pending := by
  unfold msixFlushAll
  grind [forN_pending, msixFlush_pending]

theorem msixControl_pending (s : State) (p : Nat) (en hush : Bool) : (msixControl s p en hush).pending = s.pending := by
  unfold msixControl
  grind [msixFlushAll_pending]

theorem assignSrc_pending (s : State) (src : Nat) : (assignSrc s src).pending = s.pending := by
  unfold assignSrc
  grind [msixSend_pending]

theorem withdraw_pending (s : State) (src : Nat) : (withdraw s src).pending = s.pending := by
  unfold withdraw
  grind

theorem pendClr_pending (s : State) (src : Nat) : (pendClr s src).pending = s.pending := by
  unfold pendClr
  grind [put_pending, withdraw_pending]

theorem maskSet_pending (s : State) (src : Nat) : (maskSet s src).pending = s.pending := by
  unfold maskSet
  grind [put_pending, withdraw_pending]

theorem maskClr_pending (s : State) (src : Nat) : (maskClr s src).pending = s.pending := by
  unfold maskClr
  grind [put_pending]

theorem claimSrc_pending (s : State) (t src : Nat) : (claimSrc s t src).pending = s.pending := by
  unfold claimSrc
  grind [put_pending]

theorem claimRead_pending (s : State) (t : Nat) : (claimRead s t).pending = s.pending := by
  unfold claimRead
  grind [claimSrc_pending]

theorem endSrc_pending (s : State) (src : Nat) : (endSrc s src).pending = s.pending := by
  unfold endSrc
  grind [put_pending]

theorem reassign_pending (s : State) (src : Nat) : (reassign s src).pending = s.pending := by
  unfold reassign
  grind [assignSrc_pending, withdraw_pending]

theorem reassignAll_pending (s : State) : (reassignAll s).pending = s.pending := by
  unfold reassignAll
  grind [forN_pending, reassign_pending]

theorem setTarget_pending (s : State) (t : Nat) (en : Bool) : (setTarget s t en).pending = s.pending := by
  unfold setTarget
  grind [put_pending, reassignAll_pending]

theorem pwHubErr_pending (s : State) (p : Nat) : (pwHubErr s p).pending = s.pending := by
  unfold pwHubErr
  grind [bump_pending]

theorem inWindow_pending (s : State) (p : Nat) (s' : State) (h : s'.pending = s.pending) : (inWindow s p s').pending = s.pending :=
  ite_pending h rfl

theorem execHubRaise_pending (src : Source) (s : State) (t' : State) (ht' : execHubRaise src s = .next t') : t'.pending = s.pending := by
  unfold execHubRaise at *
  grind [answered_pending, raise_pending]

theorem execHubPendSet_pending (src : Source) (s : State) (t' : State) (ht' : execHubPendSet src s = .next t') : t'.pending = s.pending := by
  unfold execHubPendSet at *
  grind [answered_pending, raise_pending]

theorem execHubPendClr_pending (src : Source) (s : State) (t' : State) (ht' : execHubPendClr src s = .next t') : t'.pending = s.pending := by
  unfold execHubPendClr at *
  grind [answered_pending, pendClr_pending]

theorem execHubMaskSet_pending (src : Source) (s : State) (t' : State) (ht' : execHubMaskSet src s = .next t') : t'.pending = s.pending := by
  unfold execHubMaskSet at *
  grind [answered_pending, maskSet_pending]

theorem execHubMaskClr_pending (src : Source) (s : State) (t' : State) (ht' : execHubMaskClr src s = .next t') : t'.pending = s.pending := by
  unfold execHubMaskClr at *
  grind [answered_pending, maskClr_pending]

theorem execHubAssign_pending (src : Source) (s : State) (t' : State) (ht' : execHubAssign src s = .next t') : t'.pending = s.pending := by
  unfold execHubAssign at *
  grind [assignSrc_pending]

theorem execHubClaim_pending (tgt : Target) (s : State) (t' : State) (ht' : execHubClaim tgt s = .next t') : t'.pending = s.pending := by
  unfold execHubClaim at *
  grind [answered_pending, claimRead_pending]

theorem execHubEoi_pending (tgt : Target) (src : Source) (s : State) (t' : State) (ht' : execHubEoi tgt src s = .next t') : t'.pending = s.pending := by
  unfold execHubEoi at *
  grind [answered_pending, bump_pending, endSrc_pending, raise_pending]

theorem execHubRouteWrite_pending (src : Source) (v : Word32) (s : State) (t' : State) (ht' : execHubRouteWrite src v s = .next t') : t'.pending = s.pending := by
  unfold execHubRouteWrite at *
  grind [answered_pending, put_pending, reassign_pending]

theorem execHubTgtCtlWrite_pending (tgt : Target) (v : Word32) (s : State) (t' : State) (ht' : execHubTgtCtlWrite tgt v s = .next t') : t'.pending = s.pending := by
  unfold execHubTgtCtlWrite at *
  grind [answered_pending, put_pending, setTarget_pending]

theorem execMsixVectorUnmask_pending (p : Part) (vec : Fin 32) (s : State) (t' : State) (ht' : execMsixVectorUnmask p vec s = .next t') : t'.pending = s.pending := by
  unfold execMsixVectorUnmask at *
  grind [answered_pending, inWindow_pending, msixMask_pending]

theorem execPwHubRaise_pending (p : Part) (src : Source) (s : State) (t' : State) (ht' : execPwHubRaise p src s = .next t') : t'.pending = s.pending := by
  unfold execPwHubRaise at *
  grind [answered_pending, inWindow_pending, pwHubErr_pending, raise_pending]

theorem execPwHubPendClr_pending (p : Part) (src : Source) (s : State) (t' : State) (ht' : execPwHubPendClr p src s = .next t') : t'.pending = s.pending := by
  unfold execPwHubPendClr at *
  grind [answered_pending, inWindow_pending, pendClr_pending, pwHubErr_pending]

theorem execPwHubMaskSet_pending (p : Part) (src : Source) (s : State) (t' : State) (ht' : execPwHubMaskSet p src s = .next t') : t'.pending = s.pending := by
  unfold execPwHubMaskSet at *
  grind [answered_pending, inWindow_pending, maskSet_pending, pwHubErr_pending]

theorem execPwHubMaskClr_pending (p : Part) (src : Source) (s : State) (t' : State) (ht' : execPwHubMaskClr p src s = .next t') : t'.pending = s.pending := by
  unfold execPwHubMaskClr at *
  grind [answered_pending, inWindow_pending, maskClr_pending, pwHubErr_pending]

theorem execPwHubClaim_pending (p : Part) (s : State) (t' : State) (ht' : execPwHubClaim p s = .next t') : t'.pending = s.pending := by
  unfold execPwHubClaim at *
  grind [answered_pending, claimRead_pending, inWindow_pending]

theorem execPwHubEoi_pending (p : Part) (src : Source) (s : State) (t' : State) (ht' : execPwHubEoi p src s = .next t') : t'.pending = s.pending := by
  unfold execPwHubEoi at *
  grind [answered_pending, endSrc_pending, inWindow_pending, pwHubErr_pending]

end Sys2Proof.Machine
end

