-- ==== Sys2Proof/Laws/QueueMoverCore.lean ====
section
/-! SUPPORT. That the operations of Machine/MoverCore.lean leave the queue of waiting commands alone. -/

namespace Sys2Proof.Machine

theorem modCh_pending (s : State) (c : Nat) (f : MovCh → MovCh) : (modCh s c f).pending = s.pending := by
  unfold modCh
  grind

theorem chWriteProg_pending (s : State) (c a : Nat) (bs : List Byte) : (chWriteProg s c a bs).pending = s.pending := by
  unfold chWriteProg
  grind [fsWrite_pending, ssmWrite_pending, startOp_pending]

theorem chReport_pending (s : State) (c : Nat) : (chReport s c).pending = s.pending := by
  unfold chReport
  grind [chWriteProg_pending, modCh_pending]

theorem chEnd_pending (s : State) (c status idx : Nat) : (chEnd s c status idx).pending = s.pending := by
  unfold chEnd
  grind [modCh_pending]

theorem chFail_pending (s : State) (c status : Nat) : (chFail s c status).pending = s.pending := by
  unfold chFail
  grind [chEnd_pending]

theorem chFinish_pending (s : State) (c : Nat) : (chFinish s c).pending = s.pending := by
  unfold chFinish
  grind [complete_pending, foldl_pending, modCh_pending, put_pending, raise_pending]

theorem chReceive_pending (s : State) (c : Nat) (i : List Byte) : (chReceive s c i).pending = s.pending := by
  unfold chReceive
  grind [chFail_pending, modCh_pending]

theorem chFetch_pending (s : State) (c : Nat) : (chFetch s c).pending = s.pending := by
  unfold chFetch
  grind [chFail_pending, chReceive_pending, modCh_pending, startOp_pending]

theorem chGoto_pending (s : State) (c idx : Nat) : (chGoto s c idx).pending = s.pending := by
  unfold chGoto
  grind [chEnd_pending, chFetch_pending, modCh_pending, put_pending]

theorem chNext_pending (s : State) (c : Nat) : (chNext s c).pending = s.pending := by
  unfold chNext
  grind [chFail_pending, chGoto_pending]

theorem chStart_pending (s : State) (c space base lo hi : Nat) (cmd : Option RingCmd) : (chStart s c space base lo hi cmd).pending = s.pending := by
  unfold chStart
  grind [chFetch_pending, modCh_pending, put_pending]

theorem sideWrite_pending (s : State) (o c sp a : Nat) (bs : List Byte) : (sideWrite s o c sp a bs).pending = s.pending := by
  unfold sideWrite
  grind [fsWrite_pending, ssmWrite_pending, startOp_pending]

theorem mvDeliver_pending (s : State) (c : Nat) (m : MvMove) (bs : List Byte) : (mvDeliver s c m bs).pending = s.pending := by
  unfold mvDeliver
  grind [bumpBy_pending, chFail_pending, chNext_pending, modCh_pending, poolRelease_pending, sideWrite_pending]

theorem mvDoMove_pending (s : State) (c : Nat) (i : List Byte) : (mvDoMove s c i).pending = s.pending := by
  unfold mvDoMove
  grind [chFail_pending, modCh_pending, mvDeliver_pending, poolAdd_pending, startOp_pending]

theorem mvDoLoop_pending (s : State) (c : Nat) (i : List Byte) : (mvDoLoop s c i).pending = s.pending := by
  unfold mvDoLoop
  grind [chFail_pending, chGoto_pending, chNext_pending, modCh_pending]

theorem chWaiting_pending (s : State) (c t : Nat) : (chWaiting s c t).pending = s.pending := by
  unfold chWaiting
  grind [modCh_pending, put_pending]

theorem mvDoWaitSsm_pending (s : State) (c t : Nat) (i : List Byte) : (mvDoWaitSsm s c t i).pending = s.pending := by
  unfold mvDoWaitSsm
  grind [chFail_pending, chNext_pending, chWaiting_pending]

theorem mvSignalAct_pending (s : State) (c : Nat) (i : List Byte) : (mvSignalAct s c i).pending = s.pending := by
  unfold mvSignalAct
  grind [chEnd_pending, chFail_pending, chNext_pending, raise_pending, ssmWrite_pending]

theorem mvDoSignal_pending (s : State) (c : Nat) (i : List Byte) : (mvDoSignal s c i).pending = s.pending := by
  unfold mvDoSignal
  grind [modCh_pending, mvSignalAct_pending]

theorem chProgress_pending (s : State) (c : Nat) : (chProgress s c).pending = s.pending := by
  unfold chProgress
  grind [chFinish_pending, chNext_pending, chReport_pending, modCh_pending, mvSignalAct_pending]

theorem chAllProgress_pending (s : State) : (chAllProgress s).pending = s.pending := by
  unfold chAllProgress
  grind [chProgress_pending, forN_pending]

theorem chKillOps_pending (s : State) (c : Nat) : (chKillOps s c).pending = s.pending := by
  unfold chKillOps
  grind

theorem movStopAll_pending (s : State) : (movStopAll s).pending = s.pending := by
  unfold movStopAll
  grind [chFail_pending, chKillOps_pending, forN_pending]

theorem movBusError_pending (s : State) (addr : Nat) : (movBusError s addr).pending = s.pending := by
  unfold movBusError
  grind [bump_pending, fault_pending, movStopAll_pending, put_pending, put2_pending, raise_pending]

theorem chReset_pending (s : State) (c : Nat) : (chReset s c).pending = s.pending := by
  unfold chReset
  grind [chKillOps_pending, modCh_pending, put_pending, withdraw_pending]

end Sys2Proof.Machine
end

