-- ==== Sys2Proof/Laws/QueueModeCore.lean ====
section
/-! SUPPORT. That the operations of Machine/ModeCore.lean leave the queue of waiting commands alone. -/

namespace Sys2Proof.Machine

theorem modeRefuse_pending (s : State) (m code : Nat) : (modeRefuse s m code).pending = s.pending := by
  unfold modeRefuse
  grind [bump_pending, put_pending, raise_pending]

theorem setTransition_pending (s : State) (st target : Nat) : (setTransition s st target).pending = s.pending := by
  unfold setTransition
  grind [put_pending]

theorem noTransition_pending (s : State) : (noTransition s).pending = s.pending := by
  unfold noTransition
  grind [leave_pending, setTransition_pending]

theorem openMember_pending (c : Clip) (s : State) (n : Nat) : (openMember c s n).pending = s.pending := by
  unfold openMember
  cases h : takeAu s n c.num [] with
  | none => rfl
  | some r =>
    have h3 := takeAu_pending _ _ _ _ _ h
    obtain ⟨u, s⟩ := r
    simp only at h3
    simp only [modMem_pending, addOp_pending, modMag_pending, headerSteps_pending, showSpace_pending, modSess_pending, h3]

theorem openClip_pending (s : State) (q p : Nat) (proxy alaz : Bool) (ports : List Nat) : (openClip s q p proxy alaz ports).pending = s.pending := by
  unfold openClip
  grind [foldl_pending, openMember_pending]

theorem openClips_pending (s : State) (m : Nat) : (openClips s m).pending = s.pending := by
  unfold openClips
  grind [foldl_pending, openClip_pending]

theorem modeProgress_pending (s : State) : (modeProgress s).pending = s.pending := by
  unfold modeProgress
  grind [foldl_pending, put_pending, whipClip_pending]

theorem modeLast_pending (s : State) (reason a b : Nat) : (modeLast s reason a b).pending = s.pending := by
  unfold modeLast
  grind [put_pending]

theorem injStop_pending (s : State) : (injStop s).pending = s.pending := by
  unfold injStop
  grind [clrF_pending, forN_pending]

theorem injDisarm_pending (s : State) : (injDisarm s).pending = s.pending := by
  unfold injDisarm
  grind [injStop_pending]

theorem injMode_pending (s : State) : (injMode s).pending = s.pending := by
  unfold injMode
  grind [injStop_pending, setF_pending]

theorem setMode_pending (s : State) (m reason : Nat) : (setMode s m reason).pending = s.pending := by
  unfold setMode
  grind [injMode_pending, modeLast_pending, noTransition_pending, put_pending, put2_pending]

theorem haltByMode_pending (s : State) (q p : Nat) : (haltByMode s q p).pending = s.pending := by
  unfold haltByMode
  grind [drainAll_pending, modPair_pending, modSeq_pending, put_pending, raiseP_pending]

theorem haltExcluded_pending (s : State) : (haltExcluded s).pending = s.pending := by
  unfold haltExcluded
  grind [forN_pending, haltByMode_pending]

theorem queueReadmit_pending (s : State) : (queueReadmit s).pending = s.pending := by
  unfold queueReadmit
  grind [forN_pending]

end Sys2Proof.Machine
end

