-- ==== Sys2Proof/Laws/QueueSeqDevCore.lean ====
section
/-! SUPPORT. That the operations of Machine/SeqDevCore.lean leave the queue of waiting commands alone. -/

namespace Sys2Proof.Machine

theorem orFault_pending (s : State) (q p cause a : Nat) (k : State → State) (h6 : ∀  (s : State), (k  s).pending = s.pending) : (orFault s q p cause a k).pending = s.pending := by
  unfold orFault
  grind [progFault_pending]

theorem spoolPass_pending (s : State) (sq p : Nat) (r : DescRef) (q : Nat) (d : List Byte) : (spoolPass s sq p r q d).2.pending = s.pending := by
  unfold spoolPass
  grind [releaseAll_pending, spoolRecord_pending, tagIssue_pending]

theorem descPass_pending (s : State) (q p rd : Nat) (r : DescRef) (sel : Option Nat) (d : List Byte) (cost : Nat) : (descPass s q p rd r sel d cost).pending = s.pending := by
  unfold descPass
  grind [issueJob_pending, seqWrite_pending, spoolPass_pending]

theorem stallDone_pending (s : State) (op : Nat) (data : List Byte) : (stallDone s op data).pending = s.pending := by
  unfold stallDone
  grind [descPass_pending, modPair_pending, pick_pending, seqNext_pending, seqWrite_pending]

theorem stallFail_pending (s : State) (op cause : Nat) : (stallFail s op cause).pending = s.pending := by
  unfold stallFail
  grind [charge_pending, progFault_pending]

theorem stallTick_pending (s : State) (q p : Nat) : (stallTick s q p).pending = s.pending := by
  unfold stallTick
  grind [charge_pending, modPair_pending]

theorem stallAbort_pending (s : State) (q p : Nat) : (stallAbort s q p).pending = s.pending := by
  unfold stallAbort
  grind [modPair_pending, pick_pending, seqWrite_pending]

end Sys2Proof.Machine
end

