-- ==== Sys2Proof/Laws/QueueAnchorCore.lean ====
section
/-! SUPPORT. That the operations of Machine/AnchorCore.lean leave the queue of waiting commands alone. -/

namespace Sys2Proof.Machine

theorem ancSkip_pending (s : State) (n : Nat) : (ancSkip s n).pending = s.pending := by
  unfold ancSkip
  grind [modMag_pending, put_pending, setAnc_pending]

theorem ancPort_pending (s : State) (n : Nat) : (ancPort s n).pending = s.pending := by
  unfold ancPort
  grind [addOp_pending, ancSkip_pending, modMag_pending, setAnc_pending]

theorem ancPort2_pending (s : State) (n : Nat) : (ancPort2 s n).pending = s.pending := by
  unfold ancPort2
  grind [addOp_pending, setAnc_pending]

theorem ancEnd_pending (s : State) : (ancEnd s).pending = s.pending := by
  unfold ancEnd
  grind [put_pending, raise_pending, setF_pending]

theorem anchorRun_pending (s : State) : (anchorRun s).pending = s.pending := by
  unfold anchorRun
  grind [ancEnd_pending, ancPort_pending, ancPort2_pending, forN_pending]

end Sys2Proof.Machine
end

