-- ==== Sys2Proof/Laws/QueueInstallCore.lean ====
section
/-! SUPPORT. That the operations of Machine/InstallCore.lean leave the queue of waiting commands alone. -/

namespace Sys2Proof.Machine

theorem modInstall_pending (s : State) (q p : Nat) (f : Install → Install) : (modInstall s q p f).pending = s.pending := by
  unfold modInstall
  grind [modSeq_pending]

theorem installNext_pending (s : State) (q : Nat) : (installNext s q).pending = s.pending := by
  unfold installNext
  grind [modInstall_pending, modSeq_pending, startOp_pending]

theorem installRead_pending (s : State) (q p : Nat) (data : List Byte) : (installRead s q p data).pending = s.pending := by
  unfold installRead
  grind [modInstall_pending, modSeq_pending, startOp_pending]

theorem installEnd_pending (s : State) (q p stby word : Nat) : (installEnd s q p stby word).pending = s.pending := by
  unfold installEnd
  grind [complete_pending, installNext_pending, modSeq_pending, put_pending]

theorem installRefuse_pending (s : State) (q p word : Nat) : (installRefuse s q p word).pending = s.pending := by
  unfold installRefuse
  grind [installEnd_pending]

theorem installCheck_pending (s : State) (q : Nat) : (installCheck s q).pending = s.pending := by
  unfold installCheck
  grind [installRefuse_pending, modInstall_pending]

end Sys2Proof.Machine
end

