-- ==== Sys2Proof/Laws/QueuePump.lean ====
section
/-! SUPPORT. That the operations of Machine/Pump.lean leave the queue of waiting commands alone. -/

namespace Sys2Proof.Machine

theorem sqFetchFail_pending (s : State) (p r code : Nat) : (sqFetchFail s p r code).pending = s.pending := by
  unfold sqFetchFail
  grind [clrF_pending, modSq_pending, put_pending, raiseP_pending, setF_pending]

theorem cqWriteFail_pending (s : State) (p r : Nat) : (cqWriteFail s p r).pending = s.pending := by
  unfold cqWriteFail
  grind [cqStop_pending, put_pending, raiseP_pending, setF_pending]

theorem chXlate_pending (s : State) (c : Nat) (stat : Bool) : (chXlate s c stat).pending = s.pending := by
  unfold chXlate
  grind [chFail_pending, chKillOps_pending, modCh_pending]

theorem magDirectEnd_pending (s : State) (n k st : Nat) : (magDirectEnd s n k st).pending = s.pending := by
  unfold magDirectEnd
  grind [complete_pending, dropMop_pending]

theorem opFault_pending (s : State) (o : HostOp) : (opFault s o).pending = s.pending := by
  unfold opFault
  grind [chXlate_pending, cqWriteFail_pending, descReread_pending, dropOp_pending, installRefuse_pending, magDirectEnd_pending, sqFetchFail_pending, stallFail_pending]

theorem writeIssued_pending (s : State) (o : HostOp) : (writeIssued s o).pending = s.pending := by
  unfold writeIssued
  grind [complWritten_pending, dropOp_pending, magDirectEnd_pending, raiseP_pending, stallDone_pending]

theorem opIssued_pending (s : State) (o : HostOp) : (opIssued s o).pending = s.pending := by
  unfold opIssued
  grind [setOp_pending, writeIssued_pending]

theorem accessPage_pending (s : State) (o : HostOp) : (accessPage s o).pending = s.pending := by
  unfold accessPage
  grind [bump_pending, opFault_pending, opIssued_pending, setOp_pending, startWalk_pending, xfault_pending]

theorem opPage_pending (s : State) (o : HostOp) : (opPage s o).pending = s.pending := by
  unfold opPage
  grind [accessPage_pending, dropOp_pending, opIssued_pending]

theorem opRun_pending (fuel : Nat) (s : State) : (opRun fuel s).pending = s.pending := by
  induction fuel generalizing s with
  | zero => rfl
  | succ fuel ih =>
    unfold opRun
    split
    · rfl
    · rw [ih, opPage_pending]

theorem resetEnd_pending (s : State) (p : Nat) : (resetEnd s p).pending = s.pending := by
  unfold resetEnd
  grind [bump_pending, clrF_pending, modPart_pending, poolSweep_pending, raise_pending]

theorem resetsProgress_pending (s : State) : (resetsProgress s).pending = s.pending := by
  unfold resetsProgress
  grind [forN_pending, resetEnd_pending]

theorem dormProgress_pending (s : State) : (dormProgress s).pending = s.pending := by
  unfold dormProgress
  grind [clrF_pending, dormAbort_pending, forN_pending, setF_pending, setMode_pending]

theorem hostRun_pending (s : State) : (hostRun s).pending = s.pending := by
  unfold hostRun
  grind [opRun_pending]

theorem settleOnce_pending (s : State) : (settleOnce s).pending = s.pending := by
  unfold settleOnce
  grind [anchorRun_pending, chAllProgress_pending, clipsProgress_pending, dormProgress_pending, hostRun_pending, magRun_pending, modeProgress_pending, resetsProgress_pending]

theorem settle_pending (s : State) : (settle s).pending = s.pending := by
  unfold settle
  grind [settleOnce_pending]

theorem finSettle_pending (s : State) (t' : State) (ht' : finSettle s = .next t') : t'.pending = s.pending := by
  unfold finSettle at *
  grind [settle_pending]

end Sys2Proof.Machine
end

