-- ==== Sys2Proof/Laws/QueueDram.lean ====
section
/-! SUPPORT. That the operations of Machine/Dram.lean leave the queue of waiting commands alone. -/

namespace Sys2Proof.Machine

theorem openRowOf_pending (s : State) (a : Nat) : (openRowOf s a).pending = s.pending := by
  unfold openRowOf
  grind

theorem waitAtPort_pending (s : State) (port addr : Nat) (write : Bool) (since level : Nat) : (waitAtPort s port addr write since level).pending = s.pending := by
  unfold waitAtPort
  grind

theorem portStat_pending (s : State) (port ns : Nat) : (portStat s port ns).pending = s.pending := by
  unfold portStat
  grind [bump_pending, putMax_pending]

theorem drcUe_pending (s : State) (addr : Nat) : (drcUe s addr).pending = s.pending := by
  unfold drcUe
  grind [bump_pending, fault_pending, put2_pending, raise_pending]

theorem readErrorAt_pending (s : State) (port unit addr : Nat) : (readErrorAt s port unit addr).pending = s.pending := by
  unfold readErrorAt
  grind [movBusError_pending, strandReadError_pending]

theorem requestDone_pending (s : State) (port unit addr : Nat) (write : Bool) (since t : Nat) (ce ue : Bool) : (requestDone s port unit addr write since t ce ue).pending = s.pending := by
  unfold requestDone
  grind [bump_pending, drcUe_pending, fault_pending, openRowOf_pending, portStat_pending, readErrorAt_pending, stamp_pending]

theorem setOwed_pending (s : State) (b n : Nat) : (setOwed s b n).pending = s.pending := by
  unfold setOwed
  grind

theorem closeRow_pending (s : State) (b : Nat) : (closeRow s b).pending = s.pending := by
  unfold closeRow
  grind

theorem refreshDue_pending (s : State) (b : Nat) (waiting : Bool) : (refreshDue s b waiting).pending = s.pending := by
  unfold refreshDue
  grind [bump_pending, closeRow_pending, setOwed_pending]

theorem freqRequest_pending (s : State) (r : FreqReq) : (freqRequest s r).pending = s.pending := by
  unfold freqRequest
  grind [put_pending]

theorem freqHot_pending (s : State) : (freqHot s).pending = s.pending := by
  unfold freqHot
  grind [put_pending]

theorem freqBoundary_pending (s : State) : (freqBoundary s).pending = s.pending := by
  unfold freqBoundary
  grind [overcommitSet_pending, put_pending, raise_pending, setF_pending]

theorem freqDone_pending (s : State) (relocked : Bool) (t : Nat) : (freqDone s relocked t).pending = s.pending := by
  unfold freqDone
  grind [bump_pending, clrF_pending, overcommitCheck_pending, put_pending, raise_pending, setF_pending, stamp_pending]

theorem putTrained_pending (s : State) (k : Nat) (b : Bool) : (putTrained s k b).pending = s.pending := by
  unfold putTrained
  grind [put_pending]

theorem putTset_pending (s : State) (k reg v : Nat) : (putTset s k reg v).pending = s.pending := by
  unfold putTset
  grind [put_pending]

theorem execDramRequestDone_pending (port : Fin 24) (unit addr : Nat) (write : Bool) (since t : Nat) (ce ue : Bool) (s : State) (t' : State) (ht' : execDramRequestDone port unit addr write since t ce ue s = .next t') : t'.pending = s.pending := by
  unfold execDramRequestDone at *
  grind [finSettle_pending, requestDone_pending]

theorem execUrgencyEscalate_pending (port : Fin 24) (addr : Nat) (write : Bool) (since t : Nat) (s : State) (t' : State) (ht' : execUrgencyEscalate port addr write since t s = .next t') : t'.pending = s.pending := by
  unfold execUrgencyEscalate at *
  grind [stamp_pending, waitAtPort_pending]

theorem execRefreshDue_pending (chan bank : Fin 16) (waiting : Bool) (s : State) (t' : State) (ht' : execRefreshDue chan bank waiting s = .next t') : t'.pending = s.pending := by
  unfold execRefreshDue at *
  grind [refreshDue_pending]

theorem execDqsTracking_pending (t : Nat) (s : State) (t' : State) (ht' : execDqsTracking t s = .next t') : t'.pending = s.pending := by
  unfold execDqsTracking at *
  grind [stamp_pending]

theorem execMr4Read_pending (codes : List (BitVec 3)) (s : State) (t' : State) (ht' : execMr4Read codes s = .next t') : t'.pending = s.pending := by
  unfold execMr4Read at *
  grind [foldl_pending, put_pending]

theorem execDrcFreqSet_pending (set : Fin 2) (s : State) (t' : State) (ht' : execDrcFreqSet set s = .next t') : t'.pending = s.pending := by
  unfold execDrcFreqSet at *
  grind [answered_pending, freqRequest_pending]

theorem execDrcFreqForce_pending (set : Fin 2) (s : State) (t' : State) (ht' : execDrcFreqForce set s = .next t') : t'.pending = s.pending := by
  unfold execDrcFreqForce at *
  grind [answered_pending, freqRequest_pending]

theorem execDrcFreqCancel_pending (s : State) (t' : State) (ht' : execDrcFreqCancel s = .next t') : t'.pending = s.pending := by
  unfold execDrcFreqCancel at *
  grind [answered_pending, put_pending]

theorem execFreqChangeDone_pending (relocked : Bool) (t : Nat) (s : State) (t' : State) (ht' : execFreqChangeDone relocked t s = .next t') : t'.pending = s.pending := by
  unfold execFreqChangeDone at *
  grind [freqDone_pending]

theorem execDrcTrain_pending (v : Word32) (s : State) (t' : State) (ht' : execDrcTrain v s = .next t') : t'.pending = s.pending := by
  unfold execDrcTrain at *
  grind [answered_pending, setF_pending]

theorem execTrainingDone_pending (ok : Bool) (s : State) (t' : State) (ht' : execTrainingDone ok s = .next t') : t'.pending = s.pending := by
  unfold execTrainingDone at *
  grind [putTrained_pending]

theorem execDrcPortTgtWrite_pending (port : Fin 24) (v : Word32) (s : State) (t' : State) (ht' : execDrcPortTgtWrite port v s = .next t') : t'.pending = s.pending := by
  unfold execDrcPortTgtWrite at *
  grind [answered_pending, put_pending, setF_pending]

theorem execDrcTsetWrite_pending (set : Fin 2) (reg : Fin 4) (v : Word32) (s : State) (t' : State) (ht' : execDrcTsetWrite set reg v s = .next t') : t'.pending = s.pending := by
  unfold execDrcTsetWrite at *
  grind [answered_pending, putTrained_pending, putTset_pending, setF_pending]

end Sys2Proof.Machine
end

