-- ==== Sys2Proof/Laws/QueuePartReset.lean ====
section
/-! SUPPORT. That the operations of Machine/PartReset.lean leave the queue of waiting commands alone. -/

namespace Sys2Proof.Machine

theorem restoreRange_pending (s : State) (sc : Scope) (lo hi : Nat) : (restoreRange s sc lo hi).pending = s.pending := by
  unfold restoreRange
  grind

theorem removeOp_pending (s : State) (n : Nat) (o : MagOp) : (removeOp s n o).pending = s.pending := by
  unfold removeOp
  grind [dropMop_pending, freeRec_pending, modMag_pending, modMem_pending]

theorem spoolReset_pending (s : State) (p : Nat) : (spoolReset s p).pending = s.pending := by
  unfold spoolReset
  grind [foldl_pending, forN_pending, modMag_pending, releaseAll_pending, removeOp_pending]

theorem jobsReset_pending (s : State) (p : Nat) : (jobsReset s p).pending = s.pending := by
  unfold jobsReset
  grind [forN_pending, modLane_pending, stopDeadJobs_pending]

theorem hubReset_pending (s : State) (p : Nat) : (hubReset s p).pending = s.pending := by
  unfold hubReset
  grind [forN_pending, put_pending]

theorem cachePurge_pending (s : State) (p first pages : Nat) : (cachePurge s p first pages).pending = s.pending := by
  unfold cachePurge
  grind

theorem accessReset_pending (s : State) (p : Nat) : (accessReset s p).pending = s.pending := by
  unfold accessReset
  grind

theorem ringsReset_pending (s : State) (p : Nat) : (ringsReset s p).pending = s.pending := by
  unfold ringsReset
  grind [modPH_pending]

theorem installsReset_pending (s : State) (p : Nat) : (installsReset s p).pending = s.pending := by
  unfold installsReset
  grind [forN_pending, installNext_pending, modSeq_pending]

theorem partReset_pending (s : State) (p : Nat) : (partReset s p).pending = s.pending := by
  unfold partReset
  grind [accessReset_pending, chReset_pending, forN_pending, hubReset_pending, injDisarm_pending, installsReset_pending, jobsReset_pending, modPart_pending, restoreRange_pending, ringsReset_pending, setF_pending, spoolReset_pending, stallAbort_pending]

end Sys2Proof.Machine
end

