-- ==== Sys2Proof/Laws/QueueHost.lean ====
section
/-! SUPPORT. That the operations of Machine/Host.lean leave the queue of waiting commands alone. -/

namespace Sys2Proof.Machine

theorem readWindow_pending (s : State) (p r n : Nat) : (readWindow s p r n).pending = s.pending := by
  unfold readWindow
  grind [modSq_pending, startOp_pending]

theorem takeEntry_pending (s : State) (p r : Nat) (e : List Byte) : (takeEntry s p r e).pending = s.pending := by
  unfold takeEntry
  grind [clrF_pending, complete_pending, modCq_pending, modPH_pending, modSq_pending, put_pending]

theorem takeWindow_pending (s : State) (p r : Nat) (l : List (List Byte)) : (takeWindow s p r l).pending = s.pending := by
  induction l generalizing s with
  | nil => exact readWindow_pending ..
  | cons e l ih =>
    unfold takeWindow
    split
    · exact (modSq_pending ..).trans (put_pending ..)
    · split
      · exact modSq_pending ..
      · rw [ih, takeEntry_pending]

theorem turnPart_pending (s : State) (r' : Nat × State) (hr' : turnPart s = some r') : r'.2.pending = s.pending := by
  unfold turnPart at hr'
  dsimp only at hr'
  have ha := forN_pending 8 (fun p s => if partRung s p then s else modPH s p fun h => { h with deficit := 0 }) s
    fun i s => ite_pending rfl (modPH_pending ..)
  generalize forN 8 (fun p s => if partRung s p then s else modPH s p fun h => { h with deficit := 0 }) s = a at ha hr'
  split at hr'
  · cases hr'; exact ha
  · obtain ⟨p, -, rfl⟩ := Option.map_eq_some_iff.1 hr'
    exact (modPH_pending ..).trans ha

theorem turnRing_pending (s : State) (p : Nat) (r' : Nat × State) (hr' : turnRing s p = some r') : r'.2.pending = s.pending := by
  unfold turnRing at hr'
  dsimp only at hr'
  obtain ⟨r, -, rfl⟩ := Option.map_eq_some_iff.1 hr'
  exact (modPH_pending ..).trans (ite_pending rfl (forN_pending _ _ _ fun i s => modSq_pending ..))

theorem ringTurn_pending (s : State) (r' : (Nat × Nat) × State) (hr' : ringTurn s = some r') : r'.2.pending = s.pending := by
  unfold ringTurn at hr'
  cases hp : turnPart s with
  | none => rw [hp] at hr'; cases hr'
  | some x =>
    rw [hp] at hr'
    obtain ⟨y, hy, rfl⟩ := Option.map_eq_some_iff.1 hr'
    exact (turnRing_pending _ _ _ hy).trans (turnPart_pending _ _ hp)

theorem serveRing_pending (s : State) (p r : Nat) : (serveRing s p r).pending = s.pending := by
  unfold serveRing
  refine ite_pending rfl ?_
  cases hp : ringTurn s with
  | none => rfl
  | some x => exact ite_pending ((readWindow_pending ..).trans ((modSq_pending ..).trans (ringTurn_pending _ _ hp))) rfl

theorem sqEnable_pending (s : State) (p r : Nat) : (sqEnable s p r).pending = s.pending := by
  unfold sqEnable
  grind [modSq_pending, put_pending, setF_pending]

theorem cqEnable_pending (s : State) (p r : Nat) : (cqEnable s p r).pending = s.pending := by
  unfold cqEnable
  grind [modCq_pending, put_pending, setF_pending]

theorem cqHead_pending (s : State) (p r v : Nat) : (cqHead s p r v).pending = s.pending := by
  unfold cqHead
  grind [modCq_pending, put_pending, setF_pending]

theorem walkFault_pending (s : State) (p page cause level region : Nat) : (walkFault s p page cause level region).pending = s.pending := by
  unfold walkFault
  grind [foldl_pending, opFault_pending, xfault_pending]

theorem cacheAdd_pending (s : State) (e : CacheEnt) : (cacheAdd s e).pending = s.pending := by
  unfold cacheAdd
  grind [useFree_pending]

theorem walkEnds_pending (s : State) (w : Walk) (k : State → State) (h3 : ∀  (s : State), (k  s).pending = s.pending) : (walkEnds s w k).pending = s.pending := by
  unfold walkEnds
  grind [startWalk_pending, walkFault_pending]

theorem tableRead_pending (s : State) (w : Walk) (ok : Bool) (v : Nat) : (tableRead s w ok v).pending = s.pending := by
  unfold tableRead
  grind [cacheAdd_pending, walkEnds_pending, walkFault_pending]

theorem fsCommit_pending (s : State) (p pages : Nat) : (fsCommit s p pages).pending = s.pending := by
  unfold fsCommit
  grind [put_pending, setF_pending]

theorem ssmCommit_pending (s : State) (p base size : Nat) : (ssmCommit s p base size).pending = s.pending := by
  unfold ssmCommit
  grind [put_pending, setF_pending]

theorem readReturned_pending (s : State) (o : HostOp) (ok : Bool) (data : List Byte) : (readReturned s o ok data).pending = s.pending := by
  unfold readReturned
  grind [chReceive_pending, descReread_pending, installRead_pending, installRefuse_pending, magDirectEnd_pending, modMop_pending, movBusError_pending, mvDeliver_pending, sqFetchFail_pending, stallDone_pending, stallFail_pending, takeWindow_pending]

theorem execSqDoorbell_pending (p : Part) (r : Ring) (s : State) (t' : State) (ht' : execSqDoorbell p r s = .next t') : t'.pending = s.pending := by
  unfold execSqDoorbell at *
  grind [answered_pending, inWindow_pending, modSq_pending, setF_pending]

theorem execRingService_pending (p : Part) (r : Ring) (s : State) (t' : State) (ht' : execRingService p r s = .next t') : t'.pending = s.pending := by
  unfold execRingService at *
  grind [finSettle_pending, serveRing_pending]

theorem execSqEnable_pending (p : Part) (r : Ring) (s : State) (t' : State) (ht' : execSqEnable p r s = .next t') : t'.pending = s.pending := by
  unfold execSqEnable at *
  grind [answered_pending, inWindow_pending, sqEnable_pending]

theorem execSqDisable_pending (p : Part) (r : Ring) (s : State) (t' : State) (ht' : execSqDisable p r s = .next t') : t'.pending = s.pending := by
  unfold execSqDisable at *
  grind [answered_pending, clrF_pending, inWindow_pending]

theorem execCqEnable_pending (p : Part) (r : Ring) (s : State) (t' : State) (ht' : execCqEnable p r s = .next t') : t'.pending = s.pending := by
  unfold execCqEnable at *
  grind [answered_pending, cqEnable_pending, inWindow_pending]

theorem execCqDisable_pending (p : Part) (r : Ring) (s : State) (t' : State) (ht' : execCqDisable p r s = .next t') : t'.pending = s.pending := by
  unfold execCqDisable at *
  grind [answered_pending, cqStop_pending, inWindow_pending]

theorem execCqHeadWrite_pending (p : Part) (r : Ring) (v : Word32) (s : State) (t' : State) (ht' : execCqHeadWrite p r v s = .next t') : t'.pending = s.pending := by
  unfold execCqHeadWrite at *
  grind [answered_pending, cqHead_pending, inWindow_pending]

theorem execSeqTargetClaim_pending (q : Seq) (s : State) (t' : State) (ht' : execSeqTargetClaim q s = .next t') : t'.pending = s.pending := by
  unfold execSeqTargetClaim at *
  grind [bellRing_pending, claimSrc_pending, endSrc_pending]

theorem execWalkReadDone_pending (p : Part) (page : Nat) (ok : Bool) (entry : Word64) (s : State) (t' : State) (ht' : execWalkReadDone p page ok entry s = .next t') : t'.pending = s.pending := by
  unfold execWalkReadDone at *
  grind [finSettle_pending, tableRead_pending]

theorem execIomInvCmd_pending (v : Word32) (s : State) (t' : State) (ht' : execIomInvCmd v s = .next t') : t'.pending = s.pending := by
  unfold execIomInvCmd at *
  grind [answered_pending, cachePurge_pending, clrF_pending, setF_pending]

theorem execInvalidationDone_pending (s : State) (t' : State) (ht' : execInvalidationDone s = .next t') : t'.pending = s.pending := by
  unfold execInvalidationDone at *
  grind [clrF_pending, setF_pending]

theorem execIomRootWrite_pending (p : Part) (hi : Bool) (v : Word32) (s : State) (t' : State) (ht' : execIomRootWrite p hi v s = .next t') : t'.pending = s.pending := by
  unfold execIomRootWrite at *
  grind [answered_pending, cachePurge_pending, put_pending]

theorem execPwFqPop_pending (p : Part) (s : State) (t' : State) (ht' : execPwFqPop p s = .next t') : t'.pending = s.pending := by
  unfold execPwFqPop at *
  grind [answered_pending, inWindow_pending, modPH_pending]

theorem execPrtFsSizeWrite_pending (p : Part) (v : Word32) (s : State) (t' : State) (ht' : execPrtFsSizeWrite p v s = .next t') : t'.pending = s.pending := by
  unfold execPrtFsSizeWrite at *
  grind [answered_pending, fsCommit_pending]

theorem execPrtSsmWrite_pending (p : Part) (v : Word32) (s : State) (t' : State) (ht' : execPrtSsmWrite p v s = .next t') : t'.pending = s.pending := by
  unfold execPrtSsmWrite at *
  grind [answered_pending, ssmCommit_pending]

theorem execPrtShareWrite_pending (p : Part) (v : Word32) (s : State) (t' : State) (ht' : execPrtShareWrite p v s = .next t') : t'.pending = s.pending := by
  unfold execPrtShareWrite at *
  grind [answered_pending, put_pending, setF_pending]

theorem execPrtPreset_pending (v : Word32) (s : State) (t' : State) (ht' : execPrtPreset v s = .next t') : t'.pending = s.pending := by
  unfold execPrtPreset at *
  grind [answered_pending, finSettle_pending, partReset_pending, setF_pending]

theorem msixOff_pending (s : State) (p : Nat) : (msixOff s p).pending = s.pending := by
  unfold msixOff
  grind [modCfg_pending]

theorem execFunctionLevelReset_pending (p : Part) (s t' : State) (ht' : execFunctionLevelReset p s = .next t') : t'.pending = s.pending := by
  have hf := foldl_pending ((List.range 8).filter (present s)) (fun s k => partReset (msixOff s k) k) s
    fun s k => (partReset_pending ..).trans (msixOff_pending ..)
  unfold execFunctionLevelReset at ht'
  split at ht'
  · cases ht'; rfl
  · split at ht'
    · refine (finSettle_pending _ _ ht').trans ?_
      dsimp only
      generalize ((List.range 8).filter (present s)).foldl (fun s k => partReset (msixOff s k) k) s = a at hf
      exact hf
    · exact (finSettle_pending _ _ ht').trans ((partReset_pending ..).trans (msixOff_pending ..))

theorem execVfEnableClear_pending (n : Fin 8) (s t' : State) (ht' : execVfEnableClear n s = .next t') : t'.pending = s.pending := by
  have hf := foldl_pending ((List.range 8).filter fun k => n.val < k && present s k) (fun s k => partReset (msixOff s k) k) s
    fun s k => (partReset_pending ..).trans (msixOff_pending ..)
  unfold execVfEnableClear at ht'
  dsimp only at ht'
  generalize ((List.range 8).filter fun k => n.val < k && present s k).foldl (fun s k => partReset (msixOff s k) k) s = a at hf ht'
  exact (finSettle_pending _ _ ht').trans hf


theorem execVfEnableSet_pending (n : Fin 8) (s : State) (t' : State) (ht' : execVfEnableSet n s = .next t') : t'.pending = s.pending := by
  unfold execVfEnableSet at *
  grind

theorem execNop_pending (p : Part) (r : Ring) (id : Nat) (s : State) (t' : State) (ht' : execNop p r id s = .next t') : t'.pending = s.pending := by
  unfold execNop at *
  grind [complete_pending, finSettle_pending, withCmd_pending]

theorem aerNote_pending (s : State) (p : Nat) : (aerNote s p).pending = s.pending := by
  unfold aerNote
  grind [modCfg_pending, useFree_pending]

theorem readArrived_pending (s : State) (o : HostOp) (ok : Bool) (data : List Byte) : (readArrived s o ok data).pending = s.pending := by
  unfold readArrived
  grind [movBusError_pending, readReturned_pending]

theorem execHostReadCompletion_pending (op : Nat) (ok : Bool) (data : List Byte) (t : Nat) (s : State) (t' : State) (ht' : execHostReadCompletion op ok data t s = .next t') : t'.pending = s.pending := by
  unfold execHostReadCompletion at *
  grind [aerNote_pending, dropOp_pending, finSettle_pending, readArrived_pending, stamp_pending]

end Sys2Proof.Machine
end

