-- ==== Sys2Proof/Laws/QueueIntakeCore.lean ====
section
/-! SUPPORT. That the operations of Machine/IntakeCore.lean leave the queue of waiting commands alone. -/

namespace Sys2Proof.Machine

theorem showStride_pending (s : State) : (showStride s).pending = s.pending := by
  unfold showStride
  grind [put_pending]

theorem modEv_pending (s : State) (e : Nat) (f : Frame → Frame) : (modEv s e f).pending = s.pending := by
  unfold modEv
  grind

theorem modWin_pending (s : State) (e n : Nat) (f : Win → Win) : (modWin s e n f).pending = s.pending := by
  unfold modWin
  grind [modEv_pending]

theorem modPort_pending (s : State) (n : Nat) (f : SensPort → SensPort) : (modPort s n f).pending = s.pending := by
  unfold modPort
  grind

theorem fifoPush_pending (s : State) (n : Nat) (ws : List FifoWord) : (fifoPush s n ws).pending = s.pending := by
  unfold fifoPush
  grind [modPort_pending, put_pending, putMax_pending, raise_pending]

theorem addPacked_pending (s : State) (e n : Nat) (b : List Byte) : (addPacked s e n b).pending = s.pending := by
  unfold addPacked
  grind [modWin_pending]

theorem replaceFrom_pending (s : State) (x : Frame) (w : Win) (r off : Nat) : (replaceFrom s x w r off).pending = s.pending := by
  unfold replaceFrom
  grind [fsWrite_pending, modEv_pending]

theorem packRow_pending (s : State) (x : Frame) (w : Win) : (packRow s x w).pending = s.pending := by
  unfold packRow
  grind [addPacked_pending, bumpBy_pending, fifoPush_pending, raise_pending, replaceFrom_pending, setF_pending, useFree_pending]

theorem packLoop_pending (e n : Nat) (s : State) : (packLoop e n s).pending = s.pending := by
  induction n generalizing s with
  | zero => rfl
  | succ n ih =>
    unfold packLoop
    split
    · rfl
    · split
      · rfl
      · rw [ih, packRow_pending]

theorem emitTails_pending (s : State) (e : Nat) : (emitTails s e).pending = s.pending := by
  unfold emitTails
  grind [fifoPush_pending, foldl_pending, modWin_pending]

theorem emitAll_pending (s : State) : (emitAll s).pending = s.pending := by
  unfold emitAll
  grind [emitTails_pending, foldl_pending]

theorem intakeRun_pending (s : State) (e : Nat) : (intakeRun s e).pending = s.pending :=
  (emitTails_pending ..).trans (packLoop_pending ..)

theorem closeWin_pending (s : State) (e n : Nat) (trunc : Bool) : (closeWin s e n trunc).pending = s.pending := by
  unfold closeWin
  grind [intakeRun_pending, modEv_pending, modWin_pending]

theorem finalize_pending (s : State) (x : Frame) : (finalize s x).pending = s.pending := by
  unfold finalize
  grind [bump_pending, clrF_pending, modEv_pending, put_pending, raise_pending]

theorem checkFinal_pending (s : State) (e : Nat) : (checkFinal s e).pending = s.pending := by
  unfold checkFinal
  grind [finalize_pending]

theorem endWin_pending (s : State) (e n : Nat) : (endWin s e n).pending = s.pending := by
  unfold endWin
  grind [closeWin_pending, modWin_pending]

theorem startWin_pending (s : State) (e n t : Nat) : (startWin s e n t).pending = s.pending := by
  unfold startWin
  grind [bump_pending, closeWin_pending, modEv_pending, modWin_pending]

theorem closeBefore_pending (s : State) (e n : Nat) : (closeBefore s e n).pending = s.pending := by
  unfold closeBefore
  grind [closeWin_pending, foldl_pending]

theorem frameStart_pending (s : State) (n t : Nat) : (frameStart s n t).pending = s.pending := by
  unfold frameStart
  grind [closeBefore_pending, startWin_pending]

theorem takeRow_pending (s : State) (n : Nat) (l : Option (List Nat)) : (takeRow s n l).pending = s.pending := by
  unfold takeRow
  grind [bump_pending, intakeRun_pending, modWin_pending]

theorem csiHeader_pending (s : State) (n : Nat) (burst : Bool) (hdr : Ecc) (lost use : State → State)
    (hl : ∀ s : State, (lost s).pending = s.pending) (hu : ∀ s : State, (use s).pending = s.pending) :
    (csiHeader s n burst hdr lost use).pending = s.pending := by
  have hb := ite_pending (c := burst = true) (modPort_pending s n (fun p => { p with skip := false })) (rfl : s.pending = s.pending)
  have key : ∀ s : State, (if (sensPort s n).skip then s
    else match hdr with
      | .ue => lost (modPort (bump s (R.INT_PORT_ERR_HDR_UNC n)) n fun p => { p with skip := true })
      | .ce => use (bump s (R.INT_PORT_ERR_HDR_CORR n))
      | .ok => use s).pending = s.pending := by
    intro s
    refine ite_pending rfl ?_
    cases hdr
    · exact hu _
    · exact (hu _).trans (bump_pending ..)
    · exact (hl _).trans ((modPort_pending ..).trans (bump_pending ..))
  unfold csiHeader
  exact ite_pending ((key _).trans hb) rfl

theorem csiChannel_pending (s : State) (n vc : Nat) (use : State → State) (h4 : ∀  (s : State), (use  s).pending = s.pending) : (csiChannel s n vc use).pending = s.pending := by
  unfold csiChannel
  grind [bump_pending]

theorem fifoDrain_pending (s : State) (n : Nat) (ecc : Ecc) (data : List Byte) : (fifoDrain s n ecc data).pending = s.pending := by
  unfold fifoDrain
  grind [bump_pending, checkFinal_pending, emitAll_pending, fault_pending, fsWrite_pending, modEv_pending, modPort_pending, modWin_pending, put_pending]

theorem releaseSlots_pending (s : State) : (releaseSlots s).pending = s.pending := by
  unfold releaseSlots
  grind

theorem captureClose_pending (s : State) : (captureClose s).pending = s.pending := by
  unfold captureClose
  dsimp only
  have ha := forN_pending 12 (fun n s' => closeBefore s' (s.tick.events - 1) n) s fun i s' => closeBefore_pending ..
  generalize forN 12 (fun n s' => closeBefore s' (s.tick.events - 1) n) s = a at ha
  cases a.intake.frames.find? fun x => x.ev + 1 == s.tick.events && x.kind == 0 with
  | none => exact ha
  | some x =>
    refine ite_pending ?_ (ite_pending ((setF_pending ..).trans ((modEv_pending ..).trans ha)) ((modEv_pending ..).trans ha))
    cases findEv (modEv a x.ev fun f => { f with kind := 1, capLate := true, held := false }) x.ev with
    | none => exact (modEv_pending ..).trans ha
    | some y => exact (finalize_pending ..).trans ((modEv_pending ..).trans ha)


theorem openFrame_pending (s : State) (noProxy : Bool) : (openFrame s noProxy).pending = s.pending := by
  unfold openFrame
  grind [bump_pending, fault_pending, put_pending, setF_pending]

theorem pruneFrames_pending (s : State) : (pruneFrames s).pending = s.pending := by
  unfold pruneFrames
  grind

theorem intakeMode_pending (s : State) : (intakeMode s).pending = s.pending := by
  unfold intakeMode
  grind [clrF_pending, forN_pending, raise_pending, setF_pending]

end Sys2Proof.Machine
end

