-- ==== Sys2Proof/Laws/QueueMag.lean ====
section
/-! SUPPORT. That the operations of Machine/Mag.lean leave the queue of waiting commands alone. -/

namespace Sys2Proof.Machine

theorem mgChecked_pending (c : RingCmd) (priv : Bool) (fields : List (Nat × Nat)) (s : State) (k : State → State) (h5 : ∀  (s : State), (k  s).pending = s.pending) : (mgChecked c priv fields s k).pending = s.pending := by
  unfold mgChecked
  grind [complete_pending]

theorem magOpen_pending (c : RingCmd) (s : State) : (magOpen c s).pending = s.pending := by
  unfold magOpen
  grind [addOp_pending, complete_pending, mgChecked_pending, openEnd_pending]

theorem magClose_pending (c : RingCmd) (s : State) : (magClose c s).pending = s.pending := by
  unfold magClose
  grind [addOp_pending, complete_pending, mgChecked_pending]

theorem magFormat_pending (c : RingCmd) (s : State) : (magFormat c s).pending = s.pending := by
  unfold magFormat
  grind [addOp_pending, complete_pending, mgChecked_pending]

theorem hostio_pending (c : RingCmd) (s : State) : (hostio c s).pending = s.pending := by
  unfold hostio
  grind [addOp_pending, complete_pending, mgChecked_pending, startOp_pending]

theorem hostioRow_pending (s : State) (p r id : Nat) (w : Bool) : (hostioRow s p r id w).pending = s.pending := by
  unfold hostioRow
  grind [dropCmd_pending, hostio_pending]

theorem spPlace_pending (s : State) (c : Clip) (x : SpoolReq) (gap : Bool) (flags : Nat) (metaB ess : List Byte) (bands bufs : List Nat) : (spPlace s c x gap flags metaB ess bands bufs).pending = s.pending := by
  unfold spPlace
  grind [modClipFrame_pending, placeRecord_pending, releaseAll_pending, spoolDone_pending]

theorem spWrite_pending (s : State) (x : SpoolReq) (c : Clip) : (spWrite s x c).pending = s.pending := by
  unfold spWrite
  grind [releaseAll_pending, spPlace_pending, spoolDone_pending]

theorem spReadFrame_pending (s : State) (x : SpoolReq) : (spReadFrame s x).pending = s.pending := by
  unfold spReadFrame
  grind [addOp_pending, spoolDone_pending]

theorem spBlocks_pending (s : State) (x : SpoolReq) : (spBlocks s x).pending = s.pending := by
  unfold spBlocks
  grind [addOp_pending, spoolDone_pending]

theorem spTake_pending (s : State) (x : SpoolReq) : (spTake s x).pending = s.pending := by
  unfold spTake
  grind [releaseAll_pending, spBlocks_pending, spReadFrame_pending, spWrite_pending, spoolDone_pending]

theorem spoolRow_pending (s : State) (q op : Nat) : (spoolRow s q op).pending = s.pending := by
  unfold spoolRow
  grind [spTake_pending]

theorem setCached_pending (s : State) (n : Nat) (l : List (Nat × Nat × Nat)) : (setCached s n l).pending = s.pending := by
  unfold setCached
  grind [modMag_pending, put_pending]

theorem issueFrom_pending (s : State) (n q : Nat) : (issueFrom s n q).pending = s.pending := by
  unfold issueFrom
  grind [bump_pending, modMag_pending, modMop_pending, setCached_pending]

theorem schedulerSlot_pending (s : State) (n : Nat) : (schedulerSlot s n).pending = s.pending := by
  unfold schedulerSlot
  grind [cacheFlush_pending, fuaAll_pending, issueFrom_pending, magAccrue_pending, modMag_pending]

theorem dropNv_pending (s : State) (n cid : Nat) : (dropNv s n cid).pending = s.pending := by
  unfold dropNv
  grind [modMag_pending]

theorem latNote_pending (s : State) (n : Nat) (c : NvCmd) : (latNote s n c).pending = s.pending := by
  unfold latNote
  grind [putMax_pending]

theorem nvOk_pending (s : State) (n : Nat) (c : NvCmd) (dw0 : Nat) (data : List Byte) : (nvOk s n c dw0 data).pending = s.pending := by
  unfold nvOk
  grind [dropNv_pending, latNote_pending, modMop_pending, setCached_pending]

theorem nvError_pending (s : State) (n : Nat) (c : NvCmd) : (nvError s n c).pending = s.pending := by
  unfold nvError
  grind [addOp_pending, cmdFail_pending, dropNv_pending, latNote_pending, modMag_pending, setCached_pending]

theorem nvComplete_pending (s : State) (n cid sc sct dw0 : Nat) (data : List Byte) : (nvComplete s n cid sc sct dw0 data).pending = s.pending := by
  unfold nvComplete
  grind [dropNv_pending, magAccrue_pending, nvError_pending, nvOk_pending]

theorem cmdTimeout_pending (s : State) (n cid : Nat) : (cmdTimeout s n cid).pending = s.pending := by
  unfold cmdTimeout
  grind [addCmd_pending, modMag_pending]

theorem abortTimeout_pending (s : State) (n cid : Nat) : (abortTimeout s n cid).pending = s.pending := by
  unfold abortTimeout
  grind [portLose_pending]

theorem linkTrained_pending (s : State) (n : Nat) : (linkTrained s n).pending = s.pending := by
  unfold linkTrained
  grind [addOp_pending, dropDue_pending, modMag_pending, put_pending]

theorem holdExpire_pending (s : State) (n : Nat) : (holdExpire s n).pending = s.pending := by
  unfold holdExpire
  grind [dropDue_pending, modMag_pending, put_pending]

theorem dropRequest_pending (s : State) (n : Nat) : (dropRequest s n).pending = s.pending := by
  unfold dropRequest
  grind [dropDue_pending]

theorem readySet_pending (s : State) (n mqes mpsmin : Nat) : (readySet s n mqes mpsmin).pending = s.pending := by
  unfold readySet
  grind [modMag_pending, modMop_pending, opFail_pending]

theorem readyTimeout_pending (s : State) (n : Nat) : (readyTimeout s n).pending = s.pending := by
  unfold readyTimeout
  grind [opFail_pending]

theorem magEnable_pending (s : State) (n : Nat) (en : Bool) : (magEnable s n en).pending = s.pending := by
  unfold magEnable
  grind [foldl_pending, modMag_pending, opFail_pending, portLose_pending, put_pending]

theorem execMagOpen_pending (p : Part) (r : Ring) (id : Nat) (s : State) (t' : State) (ht' : execMagOpen p r id s = .next t') : t'.pending = s.pending := by
  unfold execMagOpen at *
  grind [finSettle_pending, magOpen_pending, withCmd_pending]

theorem execMagClose_pending (p : Part) (r : Ring) (id : Nat) (s : State) (t' : State) (ht' : execMagClose p r id s = .next t') : t'.pending = s.pending := by
  unfold execMagClose at *
  grind [finSettle_pending, magClose_pending, withCmd_pending]

theorem execMagFormat_pending (p : Part) (r : Ring) (id : Nat) (s : State) (t' : State) (ht' : execMagFormat p r id s = .next t') : t'.pending = s.pending := by
  unfold execMagFormat at *
  grind [finSettle_pending, magFormat_pending, withCmd_pending]

theorem execHostioRead_pending (p : Part) (r : Ring) (id : Nat) (s : State) (t' : State) (ht' : execHostioRead p r id s = .next t') : t'.pending = s.pending := by
  unfold execHostioRead at *
  grind [finSettle_pending, hostioRow_pending]

theorem execHostioWrite_pending (p : Part) (r : Ring) (id : Nat) (s : State) (t' : State) (ht' : execHostioWrite p r id s = .next t') : t'.pending = s.pending := by
  unfold execHostioWrite at *
  grind [finSettle_pending, hostioRow_pending]

theorem execWriteFrame_pending (q : Fin 8) (t : Nat) (s : State) (t' : State) (ht' : execWriteFrame q t s = .next t') : t'.pending = s.pending := by
  unfold execWriteFrame at *
  grind [finSettle_pending, spoolRow_pending, stamp_pending]

theorem execDiscard_pending (q : Fin 8) (t : Nat) (s : State) (t' : State) (ht' : execDiscard q t s = .next t') : t'.pending = s.pending := by
  unfold execDiscard at *
  grind [finSettle_pending, spoolRow_pending, stamp_pending]

theorem execReadFrame_pending (q : Fin 8) (t : Nat) (s : State) (t' : State) (ht' : execReadFrame q t s = .next t') : t'.pending = s.pending := by
  unfold execReadFrame at *
  grind [finSettle_pending, spoolRow_pending, stamp_pending]

theorem execReadBlocks_pending (q : Fin 8) (t : Nat) (s : State) (t' : State) (ht' : execReadBlocks q t s = .next t') : t'.pending = s.pending := by
  unfold execReadBlocks at *
  grind [finSettle_pending, spoolRow_pending, stamp_pending]

theorem execTrim_pending (q : Fin 8) (t : Nat) (s : State) (t' : State) (ht' : execTrim q t s = .next t') : t'.pending = s.pending := by
  unfold execTrim at *
  grind [finSettle_pending, spoolRow_pending, stamp_pending]

theorem execSchedulerSlot_pending (n : MagPort) (t : Nat) (s : State) (t' : State) (ht' : execSchedulerSlot n t s = .next t') : t'.pending = s.pending := by
  unfold execSchedulerSlot at *
  grind [finSettle_pending, schedulerSlot_pending, stamp_pending]

theorem execNvmeCompletion_pending (n : MagPort) (cid : Nat) (sc : Fin 256) (sct : Fin 8) (dw0 : Word32) (data : List Byte) (t : Nat) (s : State) (t' : State) (ht' : execNvmeCompletion n cid sc sct dw0 data t s = .next t') : t'.pending = s.pending := by
  unfold execNvmeCompletion at *
  grind [finSettle_pending, nvComplete_pending, stamp_pending]

theorem execNvmeCommandTimeout_pending (n : MagPort) (cid t : Nat) (s : State) (t' : State) (ht' : execNvmeCommandTimeout n cid t s = .next t') : t'.pending = s.pending := by
  unfold execNvmeCommandTimeout at *
  grind [cmdTimeout_pending, finSettle_pending, stamp_pending]

theorem execAbortTimeout_pending (n : MagPort) (cid t : Nat) (s : State) (t' : State) (ht' : execAbortTimeout n cid t s = .next t') : t'.pending = s.pending := by
  unfold execAbortTimeout at *
  grind [abortTimeout_pending, finSettle_pending, stamp_pending]

theorem execCstsCfsSet_pending (n : MagPort) (t : Nat) (s : State) (t' : State) (ht' : execCstsCfsSet n t s = .next t') : t'.pending = s.pending := by
  unfold execCstsCfsSet at *
  grind [finSettle_pending, portLose_pending, stamp_pending]

theorem execCstsRdySet_pending (n : MagPort) (mqes mpsmin t : Nat) (s : State) (t' : State) (ht' : execCstsRdySet n mqes mpsmin t s = .next t') : t'.pending = s.pending := by
  unfold execCstsRdySet at *
  grind [finSettle_pending, readySet_pending, stamp_pending]

theorem execCstsRdyTimeout_pending (n : MagPort) (t : Nat) (s : State) (t' : State) (ht' : execCstsRdyTimeout n t s = .next t') : t'.pending = s.pending := by
  unfold execCstsRdyTimeout at *
  grind [finSettle_pending, readyTimeout_pending, stamp_pending]

theorem execSmartPoll_pending (n : MagPort) (t : Nat) (s : State) (t' : State) (ht' : execSmartPoll n t s = .next t') : t'.pending = s.pending := by
  unfold execSmartPoll at *
  grind [addOp_pending, finSettle_pending, modMag_pending, stamp_pending]

theorem execMagLinkDown_pending (n : MagPort) (t : Nat) (s : State) (t' : State) (ht' : execMagLinkDown n t s = .next t') : t'.pending = s.pending := by
  unfold execMagLinkDown at *
  grind [finSettle_pending, portLose_pending, stamp_pending]

theorem execLinkRetrain_pending (n : MagPort) (up : Bool) (t : Nat) (s : State) (t' : State) (ht' : execLinkRetrain n up t s = .next t') : t'.pending = s.pending := by
  unfold execLinkRetrain at *
  grind [finSettle_pending, linkTrained_pending, stamp_pending]

theorem execMagLinkUp_pending (n : MagPort) (t : Nat) (s : State) (t' : State) (ht' : execMagLinkUp n t s = .next t') : t'.pending = s.pending := by
  unfold execMagLinkUp at *
  grind [finSettle_pending, linkTrained_pending, stamp_pending]

theorem execHoldWindowExpiry_pending (n : MagPort) (t : Nat) (s : State) (t' : State) (ht' : execHoldWindowExpiry n t s = .next t') : t'.pending = s.pending := by
  unfold execHoldWindowExpiry at *
  grind [finSettle_pending, holdExpire_pending, stamp_pending]

theorem magCtlWrite_pending (s : State) (n v : Nat) : (magCtlWrite s n v).pending = s.pending := by
  unfold magCtlWrite
  grind [dropRequest_pending, magEnable_pending]

theorem execMagDropRequest_pending (n : MagPort) (v : Word32) (s : State) (t' : State) (ht' : execMagDropRequest n v s = .next t') : t'.pending = s.pending := by
  unfold execMagDropRequest at *
  grind [answered_pending, finSettle_pending, magCtlWrite_pending]

theorem execMagQShapeWrite_pending (n : MagPort) (q : Fin 8) (v : Word32) (t : Nat) (s : State) (t' : State) (ht' : execMagQShapeWrite n q v t s = .next t') : t'.pending = s.pending := by
  unfold execMagQShapeWrite at *
  grind [answered_pending, magAccrue_pending, modMag_pending, put_pending, setF_pending, stamp_pending]

theorem execMagQBurstWrite_pending (n : MagPort) (q : Fin 8) (v : Word32) (t : Nat) (s : State) (t' : State) (ht' : execMagQBurstWrite n q v t s = .next t') : t'.pending = s.pending := by
  unfold execMagQBurstWrite at *
  grind [answered_pending, magAccrue_pending, modMag_pending, put_pending, stamp_pending]

end Sys2Proof.Machine
end

