-- ==== Sys2Proof/Laws/QueueSbd.lean ====
section
/-! SUPPORT. That the operations of Machine/Sbd.lean leave the queue of waiting commands alone. -/

namespace Sys2Proof.Machine

theorem gaugeLimit_pending (s : State) (n v : Nat) : (gaugeLimit s n v).pending = s.pending := by
  unfold gaugeLimit
  grind [cacheFlush_pending, fuaAll_pending, put_pending]

theorem gaugeDoubtCheck_pending (s : State) (n : Nat) : (gaugeDoubtCheck s n).pending = s.pending := by
  unfold gaugeDoubtCheck
  grind [gaugeLimit_pending, modSbd_pending, put_pending, raise_pending]

theorem putGauge_pending (s : State) (f : Fld) (a b : Nat) : (putGauge s f a b).pending = s.pending := by
  unfold putGauge
  grind [put_pending, useFree_pending]

theorem gaugeEvaluate_pending (s : State) (n : Nat) : (gaugeEvaluate s n).pending = s.pending := by
  unfold gaugeEvaluate
  grind [charge_pending, fault_pending, gaugeDoubtCheck_pending, gaugeLimit_pending, modSbd_pending, put_pending, putGauge_pending, raise_pending, setF_pending]

theorem gaugeSample_pending (s : State) (n v i : Nat) : (gaugeSample s n v i).pending = s.pending := by
  unfold gaugeSample
  grind [charge_pending, gaugeDoubtCheck_pending, modSbd_pending, put_pending, putGauge_pending, putInt_pending]

theorem restComplete_pending (s : State) (n : Nat) : (restComplete s n).pending = s.pending := by
  unfold restComplete
  grind [charge_pending, modSbd_pending, putGauge_pending]

theorem slotNow_pending (s : State) (n k : Nat) (b : List Byte) : (slotNow s n k b).pending = s.pending := by
  unfold slotNow
  grind [modSbd_pending, put_pending]

theorem labelStart_pending (s : State) (n a : Nat) : (labelStart s n a).pending = s.pending := by
  unfold labelStart
  grind [addXfer_pending, modSbd_pending, put_pending]

theorem labelNext_pending (s : State) (n : Nat) : (labelNext s n).pending = s.pending := by
  unfold labelNext
  grind [clrF_pending, labelStart_pending]

theorem labelEnd_pending (s : State) (n : Nat) (last : Option Nat) : (labelEnd s n last).pending = s.pending := by
  unfold labelEnd
  grind [labelNext_pending, modSbd_pending, put_pending]

theorem labelBroken_pending (s : State) (n : Nat) : (labelBroken s n).pending = s.pending := by
  unfold labelBroken
  grind [labelEnd_pending, useFree_pending]

theorem recover_pending (s : State) (n : Nat) : (recover s n).pending = s.pending := by
  unfold recover
  grind [addXfer_pending, put_pending]

theorem labelGo_pending (s : State) (n : Nat) : (labelGo s n).pending = s.pending := by
  unfold labelGo
  grind [labelStart_pending, modSbd_pending, setF_pending]

theorem labelPoll_pending (s : State) (n : Nat) (busy : Bool) (t : Nat) : (labelPoll s n busy t).pending = s.pending := by
  unfold labelPoll
  split
  · rfl
  · simp only
    refine ite_pending (ite_pending ((labelEnd_pending ..).trans (stamp_pending ..)) (stamp_pending ..)) (ite_pending ?_ ?_) <;>
      exact (addXfer_pending ..).trans ((modSbd_pending ..).trans (stamp_pending ..))

theorem powerFollow_pending (s : State) (n : Nat) : (powerFollow s n).pending = s.pending := by
  unfold powerFollow
  grind [put_pending]

theorem magKnown_pending (s : State) (n : Nat) : (magKnown s n).pending = s.pending := by
  unfold magKnown
  grind [labelNext_pending, modSbd_pending, powerFollow_pending, put_pending, raise_pending, recover_pending, setF_pending]

theorem presenceAssert_pending (s : State) (n : Nat) : (presenceAssert s n).pending = s.pending := by
  unfold presenceAssert
  grind [addXfer_pending, bump_pending, charge_pending, clrF_pending, modSbd_pending, powerFollow_pending, setF_pending]

theorem presenceRemove_pending (s : State) (n t : Nat) : (presenceRemove s n t).pending = s.pending := by
  unfold presenceRemove
  grind [clrF_pending, gaugeDoubtCheck_pending, modSbd_pending, portLose_pending, put_pending, raise_pending, setF_pending]

theorem identDone_pending (s : State) (n : Nat) (b : Option (List Byte)) : (identDone s n b).pending = s.pending := by
  unfold identDone
  grind [forN_pending, put_pending, setF_pending]

theorem xferDone_pending (s : State) (n : Nat) (x : SbdXfer) (ok : Bool) (data : List Byte) (t : Nat) : (xferDone s n x ok data t).pending = s.pending := by
  unfold xferDone
  grind [addXfer_pending, identDone_pending, labelBroken_pending, labelEnd_pending, magKnown_pending, modSbd_pending, raise_pending, setF_pending, slotNow_pending, wearOpened_pending]

theorem i2cDone_pending (s : State) (n : Nat) (nak : Bool) (data : List Byte) (t : Nat) : (i2cDone s n nak data t).pending = s.pending := by
  unfold i2cDone
  grind [modSbd_pending, stamp_pending, xferDone_pending]

theorem i2cRetry_pending (s : State) (n t : Nat) : (i2cRetry s n t).pending = s.pending := by
  unfold i2cRetry
  split
  · rfl
  · exact ite_pending ((modSbd_pending ..).trans (stamp_pending ..)) rfl

theorem execPresenceAssert_pending (n : MagPort) (t : Nat) (s : State) (t' : State) (ht' : execPresenceAssert n t s = .next t') : t'.pending = s.pending := by
  unfold execPresenceAssert at *
  grind [finSettle_pending, presenceAssert_pending, stamp_pending]

theorem execPresenceRemove_pending (n : MagPort) (t : Nat) (s : State) (t' : State) (ht' : execPresenceRemove n t s = .next t') : t'.pending = s.pending := by
  unfold execPresenceRemove at *
  grind [finSettle_pending, presenceRemove_pending, stamp_pending]

theorem execSbdCtlWrite_pending (n : MagPort) (v : Word32) (s : State) (t' : State) (ht' : execSbdCtlWrite n v s = .next t') : t'.pending = s.pending := by
  unfold execSbdCtlWrite at *
  grind [answered_pending, powerFollow_pending, put_pending, setF_pending]

theorem execSbdI2cDone_pending (n : MagPort) (nak : Bool) (data : List Byte) (t : Nat) (s : State) (t' : State) (ht' : execSbdI2cDone n nak data t s = .next t') : t'.pending = s.pending := by
  unfold execSbdI2cDone at *
  grind [finSettle_pending, i2cDone_pending]

theorem execSbdI2cRetry_pending (n : MagPort) (t : Nat) (s : State) (t' : State) (ht' : execSbdI2cRetry n t s = .next t') : t'.pending = s.pending := by
  unfold execSbdI2cRetry at *
  grind [i2cRetry_pending]

theorem execGaugeSample_pending (n : MagPort) (v i : BitVec 12) (s : State) (t' : State) (ht' : execGaugeSample n v i s = .next t') : t'.pending = s.pending := by
  unfold execGaugeSample at *
  grind [finSettle_pending, gaugeSample_pending]

theorem execGaugeEvaluate_pending (n : MagPort) (s : State) (t' : State) (ht' : execGaugeEvaluate n s = .next t') : t'.pending = s.pending := by
  unfold execGaugeEvaluate at *
  grind [finSettle_pending, gaugeEvaluate_pending]

theorem execGaugeRestComplete_pending (n : MagPort) (s : State) (t' : State) (ht' : execGaugeRestComplete n s = .next t') : t'.pending = s.pending := by
  unfold execGaugeRestComplete at *
  grind [restComplete_pending]

theorem execLabelGo_pending (n : MagPort) (v : Word32) (s : State) (t' : State) (ht' : execLabelGo n v s = .next t') : t'.pending = s.pending := by
  unfold execLabelGo at *
  grind [answered_pending, labelGo_pending]

theorem execLabelBusyPoll_pending (n : MagPort) (busy : Bool) (t : Nat) (s : State) (t' : State) (ht' : execLabelBusyPoll n busy t s = .next t') : t'.pending = s.pending := by
  unfold execLabelBusyPoll at *
  grind [labelPoll_pending]

end Sys2Proof.Machine
end

