-- ==== Sys2Proof/Laws/QueueFaults.lean ====
section
/-! SUPPORT. That the operations of Machine/Faults.lean leave the queue of waiting commands alone. -/

namespace Sys2Proof.Machine

theorem setCore_pending (s : State) (c v : Nat) : (setCore s c v).pending = s.pending := by
  unfold setCore
  grind [put_pending]

theorem setSince_pending (s : State) (c t : Nat) : (setSince s c t).pending = s.pending := by
  unfold setSince
  grind

theorem unforce_pending (s : State) (f : Nat) : (unforce s f).pending = s.pending := by
  unfold unforce
  grind [clrF_pending, setSince_pending]

theorem statClear_pending (s : State) (f : Nat) : (statClear s f).pending = s.pending := by
  unfold statClear
  grind [clrF_pending, unforce_pending]

theorem showHealth_pending (s : State) (t : Nat) : (showHealth s t).pending = s.pending := by
  unfold showHealth
  grind [put_pending]

theorem setBeat_pending (s : State) (c : Nat) (b : Option Nat) : (setBeat s c b).pending = s.pending := by
  unfold setBeat
  grind

theorem setMute_pending (s : State) (c : Nat) (b : Bool) : (setMute s c b).pending = s.pending := by
  unfold setMute
  grind

theorem belayReset_pending (s : State) (c t : Nat) : (belayReset s c t).pending = s.pending := by
  unfold belayReset
  grind [setBeat_pending, setCore_pending, setSince_pending]

theorem activate_pending (s : State) (o : Nat) : (activate s o).pending = s.pending := by
  unfold activate
  grind [put_pending, setCore_pending, setTarget_pending]

theorem belayTakeover_pending (s : State) (o e : Nat) : (belayTakeover s o e).pending = s.pending := by
  unfold belayTakeover
  grind [activate_pending, bump_pending, put_pending, raise_pending]

theorem coreLost_pending (s : State) (c t e : Nat) (always : Bool) : (coreLost s c t e always).pending = s.pending := by
  unfold coreLost
  grind [belayReset_pending, belayTakeover_pending, fault_pending, raise_pending, setMute_pending]

theorem takeoverCheck_pending (s : State) (o t : Nat) : (takeoverCheck s o t).pending = s.pending := by
  unfold takeoverCheck
  grind [belayReset_pending, belayTakeover_pending]

theorem belaySwitch_pending (s : State) : (belaySwitch s).pending = s.pending := by
  unfold belaySwitch
  grind [activate_pending, bump_pending, setCore_pending]

theorem blyErr_pending (s : State) : (blyErr s).pending = s.pending := by
  unfold blyErr
  grind [setF_pending]

theorem forceOne_pending (s : State) (f : Nat) : (forceOne s f).pending = s.pending := by
  unfold forceOne
  grind (splits := 40) [breakList_pending, coreLost_pending, dropDue_pending, fault_pending, fray_pending, freqHot_pending,
    movBusError_pending, portFail_pending, progFault_pending, put_pending, raise_pending, raiseP_pending, setF_pending,
    setMute_pending, showHealth_pending, useFree_pending]

theorem modInj_pending (s : State) (i : Nat) (f : InjSt → InjSt) : (modInj s i f).pending = s.pending := by
  unfold modInj
  grind

theorem injStart_pending (s : State) (i : Nat) : (injStart s i).pending = s.pending := by
  unfold injStart
  grind [modInj_pending]

theorem injAct_pending (s : State) (i len t : Nat) : (injAct s i len t).pending = s.pending := by
  unfold injAct
  grind [bump_pending, clrF_pending, modInj_pending, raise_pending]

theorem injUnit_pending (s : State) (i len t : Nat) : (injUnit s i len t).pending = s.pending := by
  unfold injUnit
  grind [injAct_pending, modInj_pending, stamp_pending]

theorem ancHalt_pending (s : State) (n : Nat) : (ancHalt s n).pending = s.pending := by
  unfold ancHalt
  grind [modMag_pending]

theorem ancStart_pending (s : State) (n : Nat) : (ancStart s n).pending = s.pending := by
  unfold ancStart
  grind [setAnc_pending]

theorem anchorAct_pending (s : State) (cause t : Nat) : (anchorAct s cause t).pending = s.pending := by
  unfold anchorAct
  grind [ancHalt_pending, ancStart_pending, clrF_pending, fault_pending, forN_pending, movStopAll_pending, noTransition_pending, put_pending, put2_pending, setCore_pending, setF_pending, stamp_pending, stopDeadJobs_pending]

theorem anchorTimeout_pending (s : State) (n t : Nat) : (anchorTimeout s n t).pending = s.pending := by
  unfold anchorTimeout
  grind [addCmd_pending, foldl_pending, modMag_pending, setAnc_pending, stamp_pending]

theorem execFltStatClear_pending (w : Fin 8) (v : Word32) (s : State) (t' : State) (ht' : execFltStatClear w v s = .next t') : t'.pending = s.pending := by
  unfold execFltStatClear at *
  grind [answered_pending, forN_pending, statClear_pending]

theorem execFltForce_pending (w : Fin 8) (v : Word32) (s : State) (t' : State) (ht' : execFltForce w v s = .next t') : t'.pending = s.pending := by
  unfold execFltForce at *
  grind [answered_pending, finSettle_pending, forN_pending, forceOne_pending, setF_pending]

theorem execInjArmFirst_pending (t : Nat) (s : State) (t' : State) (ht' : execInjArmFirst t s = .next t') : t'.pending = s.pending := by
  unfold execInjArmFirst at *
  grind [answered_pending, stamp_pending]

theorem execInjArmSecond_pending (t : Nat) (s : State) (t' : State) (ht' : execInjArmSecond t s = .next t') : t'.pending = s.pending := by
  unfold execInjArmSecond at *
  grind [answered_pending, setF_pending, stamp_pending]

theorem execInjDisarm_pending (v : Word32) (s : State) (t' : State) (ht' : execInjDisarm v s = .next t') : t'.pending = s.pending := by
  unfold execInjDisarm at *
  grind [answered_pending, injDisarm_pending]

theorem execInjArmTimeout_pending (t : Nat) (s : State) (t' : State) (ht' : execInjArmTimeout t s = .next t') :
    t'.pending = s.pending := by
  unfold execInjArmTimeout at ht'
  cases ht'
  split
  · split
    · exact stamp_pending s t
    · rfl
  · rfl

theorem execInjUnit_pending (i : Fin 17) (bytes t : Nat) (s : State) (t' : State) (ht' : execInjUnit i bytes t s = .next t') : t'.pending = s.pending := by
  unfold execInjUnit at *
  grind [injUnit_pending]

theorem execInjReorderTimeout_pending (i : Fin 17) (t : Nat) (s : State) (t' : State)
    (ht' : execInjReorderTimeout i t s = .next t') : t'.pending = s.pending := by
  unfold execInjReorderTimeout at ht'
  cases ht'
  split
  · exact ite_pending ((modInj_pending ..).trans (stamp_pending ..)) rfl
  · rfl

theorem execBelayHeartbeat_pending (c : Fin 2) (t : Nat) (s : State) (t' : State) (ht' : execBelayHeartbeat c t s = .next t') : t'.pending = s.pending := by
  unfold execBelayHeartbeat at *
  grind [setBeat_pending, showHealth_pending, stamp_pending]

theorem execBelaySilent_pending (c : Fin 2) (t e : Nat) (s : State) (t' : State) (ht' : execBelaySilent c t e s = .next t') : t'.pending = s.pending := by
  unfold execBelaySilent at *
  grind [coreLost_pending, finSettle_pending, showHealth_pending, stamp_pending]

theorem execBelayResetDone_pending (c : Fin 2) (pass : Bool) (t : Nat) (s : State) (t' : State) (ht' : execBelayResetDone c pass t s = .next t') : t'.pending = s.pending := by
  unfold execBelayResetDone at *
  grind [finSettle_pending, setBeat_pending, setCore_pending, setMute_pending, showHealth_pending, stamp_pending, takeoverCheck_pending]

theorem execBelayResetTimeout_pending (c : Fin 2) (t : Nat) (s : State) (t' : State) (ht' : execBelayResetTimeout c t s = .next t') : t'.pending = s.pending := by
  unfold execBelayResetTimeout at *
  grind [setCore_pending, stamp_pending]

theorem execBelaySwitch_pending (s : State) (t' : State) (ht' : execBelaySwitch s = .next t') : t'.pending = s.pending := by
  unfold execBelaySwitch at *
  grind [answered_pending, blyErr_pending]

theorem execBelayTest_pending (t : Nat) (s : State) (t' : State) (ht' : execBelayTest t s = .next t') : t'.pending = s.pending := by
  unfold execBelayTest at *
  grind [answered_pending, blyErr_pending, put_pending, setBeat_pending, setCore_pending, setSince_pending, stamp_pending]

theorem execBelayTestDone_pending (pass : Bool) (t : Nat) (s : State) (t' : State) (ht' : execBelayTestDone pass t s = .next t') : t'.pending = s.pending := by
  unfold execBelayTestDone at *
  grind [finSettle_pending, put_pending, setBeat_pending, setCore_pending, showHealth_pending, stamp_pending, takeoverCheck_pending]

theorem execBelayResetRequest_pending (t : Nat) (s : State) (t' : State) (ht' : execBelayResetRequest t s = .next t') : t'.pending = s.pending := by
  unfold execBelayResetRequest at *
  grind [answered_pending, belayReset_pending, blyErr_pending, stamp_pending]

theorem execBelayClaim_pending (s : State) (t' : State) (ht' : execBelayClaim s = .next t') : t'.pending = s.pending := by
  unfold execBelayClaim at *
  grind [claimSrc_pending, endSrc_pending]

theorem execAnchorAct_pending (t : Nat) (s : State) (t' : State) (ht' : execAnchorAct t s = .next t') : t'.pending = s.pending := by
  unfold execAnchorAct at *
  grind [anchorAct_pending, finSettle_pending]

theorem execAnchorAbortTimeout_pending (n : MagPort) (t : Nat) (s : State) (t' : State) (ht' : execAnchorAbortTimeout n t s = .next t') : t'.pending = s.pending := by
  unfold execAnchorAbortTimeout at *
  grind [anchorTimeout_pending, finSettle_pending]

theorem execLanyardToggle_pending (t : Nat) (s : State) (t' : State) (ht' : execLanyardToggle t s = .next t') : t'.pending = s.pending := by
  unfold execLanyardToggle at *
  grind [put_pending, showHealth_pending, stamp_pending]

end Sys2Proof.Machine
end

