-- ==== Sys2Proof/Laws/QueueBoot.lean ====
section
/-! SUPPORT. That the operations of Machine/Boot.lean leave the queue of waiting commands alone. -/

namespace Sys2Proof.Machine

theorem freshState_pending (s : State) : (freshState s).pending = s.pending := by
  unfold freshState
  grind

theorem coldReset_pending (s : State) (cause : Nat) : (coldReset s cause).pending = s.pending := by
  unfold coldReset
  grind [freshState_pending, put_pending]

theorem tapReset_pending (s : State) : (tapReset s).pending = s.pending := by
  unfold tapReset
  grind

theorem testEnable_pending (s : State) (high : Bool) : (testEnable s high).pending = s.pending := by
  unfold testEnable
  grind [coldReset_pending, useFree_pending]

theorem testWrite_pending (s : State) (x : TestPad) (v : Nat) : (testWrite s x v).pending = s.pending := by
  unfold testWrite
  grind [tapReset_pending, testEnable_pending]

theorem testRead_pending (s : State) (x : TestPad) : (testRead s x).pending = s.pending := by
  unfold testRead
  grind [useFree_pending]

theorem maskStates_pending (s : State) : (maskStates s).pending = s.pending := by
  unfold maskStates
  grind [forN_pending, setStrState_pending]

theorem warmReset_pending (s : State) (cause : Nat) : (warmReset s cause).pending = s.pending := by
  unfold warmReset
  grind [freshState_pending, maskStates_pending, modeLast_pending, put_pending, settle_pending]

theorem wakeUp_pending (s : State) (src : Nat) : (wakeUp s src).pending = s.pending := by
  unfold wakeUp
  grind [clrF_pending, freshState_pending, maskStates_pending, modeLast_pending, put_pending]

theorem wakeEvent_pending (s : State) (src : Nat) (en : Bool) : (wakeEvent s src en).pending = s.pending := by
  unfold wakeEvent
  grind [dormAbort_pending, wakeUp_pending]

theorem loadConfig_pending (s : State) (i : List Byte) : (loadConfig s i).pending = s.pending := by
  unfold loadConfig
  grind [forN_pending, put_pending, putTrained_pending, putTset_pending]

theorem loadPatch_pending (s : State) (i : List Byte) : (loadPatch s i).pending = s.pending := by
  unfold loadPatch
  grind [forN_pending, put_pending]

theorem bootTest_pending (s : State) (n part sig : Nat) : (bootTest s n part sig).pending = s.pending := by
  unfold bootTest
  grind [declareFray_pending, put_pending, setStrState_pending]

theorem bootTests_pending (s : State) (tests : List (Nat × Word32)) : (bootTests s tests).pending = s.pending := by
  unfold bootTests
  grind [bootTest_pending, forN_pending]

theorem startCores_pending (s : State) (b0 b1 : Bool) : (startCores s b0 b1).pending = s.pending := by
  unfold startCores
  grind [activate_pending, setCore_pending]

theorem bootFail_pending (s : State) (code : Nat) : (bootFail s code).pending = s.pending := by
  unfold bootFail
  grind [put_pending, setF_pending, setMode_pending, warmReset_pending]

theorem bootCtlStore_pending (s : State) (v : Nat) : (bootCtlStore s v).pending = s.pending := by
  unfold bootCtlStore
  grind [put_pending]

theorem bootAttempt_pending (s : State) (flash : Option (List Byte)) (c : BootCrypto) (trained b0 b1 : Bool) (tests : List (Nat × Word32)) : (bootAttempt s flash c trained b0 b1 tests).pending = s.pending := by
  unfold bootAttempt
  grind [bootFail_pending, bootTests_pending, loadConfig_pending, loadPatch_pending, put_pending, startCores_pending]

theorem bootReady_pending (s : State) (t : Nat) : (bootReady s t).pending = s.pending := by
  unfold bootReady
  grind [clrF_pending, raiseAll_pending, setF_pending, setMode_pending, stamp_pending]

theorem gateRefused_pending (s : State) (b kind : Nat) : (gateRefused s b kind).pending = s.pending := by
  unfold gateRefused
  grind [bump_pending, clrF_pending, put_pending]

theorem clockGate_pending (s : State) (b : Nat) (refused : Bool) (t : Nat) : (clockGate s b refused t).pending = s.pending := by
  unfold clockGate
  grind [dormAbort_pending, gateRefused_pending, put_pending, stamp_pending]

theorem blockWake_pending (s : State) (b t : Nat) : (blockWake s b t).pending = s.pending := by
  unfold blockWake
  grind [gateRefused_pending, put_pending, stamp_pending]

theorem setTemp_pending (s : State) (d : BitVec 11) : (setTemp s d).pending = s.pending := by
  unfold setTemp
  grind [fault_pending, freqHot_pending, put_pending]

theorem setCause_pending (s : State) (f : Sup → Sup) : (setCause s f).pending = s.pending := by
  unfold setCause
  grind

theorem execPowerOn_pending (s : State) (t' : State) (ht' : execPowerOn s = .next t') : t'.pending = s.pending := by
  unfold execPowerOn at *
  grind [coldReset_pending, tapReset_pending]

theorem pinReset_pending (s : State) : (pinReset s).pending = s.pending := by
  unfold pinReset
  grind [coldReset_pending, put_pending]

theorem execResetNAssert_pending (ns : Nat) (takes : Bool) (s : State) (t' : State) (ht' : execResetNAssert ns takes s = .next t') : t'.pending = s.pending := by
  unfold execResetNAssert at *
  grind [pinReset_pending]

theorem execInternalResetRelease_pending (sel : Fin 4) (s : State) (t' : State) (ht' : execInternalResetRelease sel s = .next t') : t'.pending = s.pending := by
  unfold execInternalResetRelease at *
  grind

theorem execAonBrownOut_pending (s : State) (t' : State) (ht' : execAonBrownOut s = .next t') : t'.pending = s.pending := by
  unfold execAonBrownOut at *
  grind [coldReset_pending]

theorem execAonRstCtl_pending (v : Word32) (s : State) (t' : State) (ht' : execAonRstCtl v s = .next t') : t'.pending = s.pending := by
  unfold execAonRstCtl at *
  grind [warmReset_pending]

theorem execBootAttempt_pending (flash : Option (List Byte)) (key : Option (Fin 4)) (sig gcm trained b0 b1 : Bool) (tests : List (Nat × Word32)) (s : State) (t' : State) (ht' : execBootAttempt flash key sig gcm trained b0 b1 tests s = .next t') : t'.pending = s.pending := by
  unfold execBootAttempt at *
  grind [bootAttempt_pending]

theorem execBootTimeout_pending (t : Nat) (s : State) (t' : State) (ht' : execBootTimeout t s = .next t') : t'.pending = s.pending := by
  unfold execBootTimeout at *
  grind [bootFail_pending, put_pending]

theorem execAonBootData_pending (v : Word32) (s : State) (t' : State) (ht' : execAonBootData v s = .next t') : t'.pending = s.pending := by
  unfold execAonBootData at *
  grind

theorem bootRetry_pending (s : State) : (bootRetry s).pending = s.pending := by
  unfold bootRetry
  grind [clrF_pending, setF_pending, warmReset_pending]

theorem bootGo_pending (s : State) (t : Nat) : (bootGo s t).pending = s.pending := by
  unfold bootGo
  grind [stamp_pending]

theorem bootCtl_pending (s : State) (v t : Nat) : (bootCtl s v t).pending = s.pending := by
  unfold bootCtl
  grind [bootCtlStore_pending, bootGo_pending, bootRetry_pending]

theorem execAonBootGo_pending (x : Timed Word32) (s : State) (t' : State) (ht' : execAonBootGo x s = .next t') : t'.pending = s.pending := by
  unfold execAonBootGo at *
  grind [bootCtl_pending]

theorem execAonBootRetry_pending (v : Word32) (s : State) (t' : State) (ht' : execAonBootRetry v s = .next t') : t'.pending = s.pending := by
  unfold execAonBootRetry at *
  grind [bootCtl_pending]

theorem execB0Ready_pending (t : Nat) (s : State) (t' : State) (ht' : execB0Ready t s = .next t') : t'.pending = s.pending := by
  unfold execB0Ready at *
  grind [bootReady_pending]

theorem execClockGate_pending (b : Fin 32) (refused : Bool) (t : Nat) (s : State) (t' : State) (ht' : execClockGate b refused t s = .next t') : t'.pending = s.pending := by
  unfold execClockGate at *
  grind [clockGate_pending]

theorem execBlockWake_pending (b : Fin 32) (t : Nat) (s : State) (t' : State) (ht' : execBlockWake b t s = .next t') : t'.pending = s.pending := by
  unfold execBlockWake at *
  grind [blockWake_pending, finSettle_pending]

theorem execWakeNFall_pending (s : State) (t' : State) (ht' : execWakeNFall s = .next t') : t'.pending = s.pending := by
  unfold execWakeNFall at *
  grind [wakeEvent_pending]

theorem execPerstNRise_pending (s : State) (t' : State) (ht' : execPerstNRise s = .next t') : t'.pending = s.pending := by
  unfold execPerstNRise at *
  grind [wakeEvent_pending]

theorem execWakeTimerExpiry_pending (t : Nat) (s : State) (t' : State) (ht' : execWakeTimerExpiry t s = .next t') : t'.pending = s.pending := by
  unfold execWakeTimerExpiry at *
  grind [wakeUp_pending]

theorem execThermalHot_pending (d : BitVec 11) (s : State) (t' : State) (ht' : execThermalHot d s = .next t') : t'.pending = s.pending := by
  unfold execThermalHot at *
  grind [setTemp_pending]

theorem execThermalCrit_pending (d : BitVec 11) (s : State) (t' : State) (ht' : execThermalCrit d s = .next t') : t'.pending = s.pending := by
  unfold execThermalCrit at *
  grind [setTemp_pending]

theorem execJunctionBelow100c_pending (d : BitVec 11) (s : State) (t' : State) (ht' : execJunctionBelow100c d s = .next t') : t'.pending = s.pending := by
  unfold execJunctionBelow100c at *
  grind [setTemp_pending]

theorem execSupplyOor_pending (s : State) (t' : State) (ht' : execSupplyOor s = .next t') : t'.pending = s.pending := by
  unfold execSupplyOor at *
  grind [fault_pending, setCause_pending]

theorem execRailInRange_pending (s : State) (t' : State) (ht' : execRailInRange s = .next t') : t'.pending = s.pending := by
  unfold execRailInRange at *
  grind [setCause_pending]

theorem execClkFail_pending (s : State) (t' : State) (ht' : execClkFail s = .next t') : t'.pending = s.pending := by
  unfold execClkFail at *
  grind [fault_pending, setCause_pending]

theorem execClockRestored_pending (s : State) (t' : State) (ht' : execClockRestored s = .next t') : t'.pending = s.pending := by
  unfold execClockRestored at *
  grind [setCause_pending]

theorem execHostLinkDown_pending (s : State) (t' : State) (ht' : execHostLinkDown s = .next t') : t'.pending = s.pending := by
  unfold execHostLinkDown at *
  grind [fault_pending, setCause_pending]

theorem execHostLinkUp_pending (s t' : State) (ht' : execHostLinkUp s = .next t') : t'.pending = s.pending := by
  unfold execHostLinkUp at ht'
  split at ht'
  · cases ht'; rfl
  · exact (finSettle_pending _ _ ht').trans (setCause_pending s fun x => { x with linkBad := false })

end Sys2Proof.Machine
end

