-- ==== Sys2Proof/Laws/QueueExchange.lean ====
section
/-! SUPPORT. That the operations of Machine/Exchange.lean leave the queue of waiting commands alone. -/

namespace Sys2Proof.Machine

theorem installCmd_pending (c : RingCmd) (s : State) : (installCmd c s).pending = s.pending := by
  unfold installCmd
  grind [complete_pending, installNext_pending, modPair_pending, modSeq_pending, put_pending]

theorem admitInstall_pending (s : State) (q p : Nat) : (admitInstall s q p).pending = s.pending := by
  unfold admitInstall
  grind [installEnd_pending, installRefuse_pending, modPair_pending, noteRefusal_pending, setStandby_pending]

theorem admitAgain_pending (s : State) (q p : Nat) (cmd : Option RingCmd) : (admitAgain s q p cmd).pending = s.pending := by
  unfold admitAgain
  grind [complete_pending, modPair_pending, noteRefusal_pending, put_pending, raiseP_pending]

theorem admitNext_pending (s : State) : (admitNext s).pending = s.pending := by
  unfold admitNext
  grind [admitAgain_pending, admitInstall_pending]

theorem exchangeCmd_pending (c : RingCmd) (s : State) (k : Nat → Nat → State)
    (hk : ∀ q p : Nat, (k q p).pending = s.pending) : (exchangeCmd c s k).pending = s.pending := by
  unfold exchangeCmd
  simp only
  exact ite_pending (complete_pending ..) (ite_pending (complete_pending ..) (hk _ _))

theorem swapCmd_pending (c : RingCmd) (s : State) : (swapCmd c s).pending = s.pending := by
  unfold swapCmd
  grind [complete_pending, exchangeCmd_pending, modPair_pending]

theorem restartAgain_pending (s : State) (q p : Nat) (c : RingCmd) : (restartAgain s q p c).pending = s.pending := by
  unfold restartAgain
  grind [complete_pending]

theorem restartCmd_pending (c : RingCmd) (s : State) : (restartCmd c s).pending = s.pending := by
  unfold restartCmd
  grind [complete_pending, exchangeCmd_pending, modPair_pending, restartAgain_pending]

theorem execInstall_pending (p : Part) (r : Ring) (id : Nat) (s : State) (t' : State) (ht' : execInstall p r id s = .next t') : t'.pending = s.pending := by
  unfold execInstall at *
  grind [finSettle_pending, installCmd_pending, withCmd_pending]

theorem execInstallImageLoaded_pending (q : Seq) (s : State) (t' : State) (ht' : execInstallImageLoaded q s = .next t') : t'.pending = s.pending := by
  unfold execInstallImageLoaded at *
  grind [finSettle_pending, installCheck_pending]

theorem execAdmission_pending (s : State) (t' : State) (ht' : execAdmission s = .next t') : t'.pending = s.pending := by
  unfold execAdmission at *
  grind [admitNext_pending, finSettle_pending]

theorem execSwap_pending (p : Part) (r : Ring) (id : Nat) (s : State) (t' : State) (ht' : execSwap p r id s = .next t') : t'.pending = s.pending := by
  unfold execSwap at *
  grind [finSettle_pending, swapCmd_pending, withCmd_pending]

theorem execRestart_pending (p : Part) (r : Ring) (id : Nat) (s : State) (t' : State) (ht' : execRestart p r id s = .next t') : t'.pending = s.pending := by
  unfold execRestart at *
  grind [finSettle_pending, restartCmd_pending, withCmd_pending]

theorem execSeqMigReq_pending (v : Word32) (s : State) (t' : State) (ht' : execSeqMigReq v s = .next t') : t'.pending = s.pending := by
  unfold execSeqMigReq at *
  grind [answered_pending, put_pending]

theorem execSeqOnlineRequest_pending (v : Word32) (s : State) (t' : State) (ht' : execSeqOnlineRequest v s = .next t') : t'.pending = s.pending := by
  unfold execSeqOnlineRequest at *
  grind [answered_pending]

theorem execSeqTestReq_pending (v : Word32) (s : State) (t' : State) (ht' : execSeqTestReq v s = .next t') : t'.pending = s.pending := by
  unfold execSeqTestReq at *
  grind [answered_pending, put_pending]

theorem execSeqTestDone_pending (pass : Bool) (s : State) (t' : State) (ht' : execSeqTestDone pass s = .next t') : t'.pending = s.pending := by
  unfold execSeqTestDone at *
  grind [put_pending]

end Sys2Proof.Machine
end

