-- ==== Sys2Proof/Laws/QueuePins.lean ====
section
/-! SUPPORT. That the operations of Machine/Pins.lean leave the queue of waiting commands alone. -/

namespace Sys2Proof.Machine

theorem pinErr_pending (s : State) : (pinErr s).pending = s.pending := by
  unfold pinErr
  grind [setF_pending]

theorem modLine_pending (s : State) (n : Nat) (f : LineSt → LineSt) : (modLine s n f).pending = s.pending := by
  unfold modLine
  grind

theorem modLtc_pending (s : State) (f : Ltc → Ltc) : (modLtc s f).pending = s.pending := by
  unfold modLtc
  grind

theorem switchLine_pending (s : State) (n v t : Nat) : (switchLine s n v t).pending = s.pending := by
  unfold switchLine
  grind [bump_pending, clrF_pending, modLine_pending, put_pending, settle_pending]

theorem stagedSwitches_pending (s : State) : (stagedSwitches s).pending = s.pending := by
  unfold stagedSwitches
  grind [forN_pending, switchLine_pending]

theorem pulseLines_pending (s : State) : (pulseLines s).pending = s.pending := by
  unfold pulseLines
  grind [forN_pending, modLine_pending]

theorem ltcSend_pending (s : State) : (ltcSend s).pending = s.pending := by
  unfold ltcSend
  grind [modLtc_pending]

theorem ltcTick_pending (s : State) : (ltcTick s).pending = s.pending := by
  unfold ltcTick
  grind [ltcSend_pending, put2_pending]

theorem ltcRateCheck_pending (s : State) : (ltcRateCheck s).pending = s.pending := by
  unfold ltcRateCheck
  grind [clrF_pending, pinErr_pending]

theorem pinTick_pending (s : State) : (pinTick s).pending = s.pending := by
  unfold pinTick
  grind [ltcTick_pending, pulseLines_pending, stagedSwitches_pending]

theorem setUart_pending (s : State) (u : Nat) (x : Uart) : (setUart s u x).pending = s.pending := by
  unfold setUart
  grind [put_pending]

theorem setAux_pending (s : State) (b : Nat) (x : Aux) : (setAux s b x).pending = s.pending := by
  unfold setAux
  grind

theorem auxPush_pending (s : State) (b : Nat) (v : Byte) : (auxPush s b v).pending = s.pending := by
  unfold auxPush
  grind [setAux_pending]

theorem auxPop_pending (s : State) (b : Nat) : (auxPop s b).pending = s.pending := by
  unfold auxPop
  grind [setAux_pending, useFree_pending]

theorem uartCtl_pending (s : State) (u v : Nat) : (uartCtl s u v).pending = s.pending := by
  unfold uartCtl
  grind [pinErr_pending, put_pending]

theorem execPinGlCfgWrite_pending (n : Line) (v : Word32) (t : Nat) (s : State) (t' : State) (ht' : execPinGlCfgWrite n v t s = .next t') : t'.pending = s.pending := by
  unfold execPinGlCfgWrite at *
  grind [answered_pending, pinErr_pending, stamp_pending, switchLine_pending]

theorem execPinGlStageWrite_pending (n : Line) (v : Word32) (s : State) (t' : State) (ht' : execPinGlStageWrite n v s = .next t') : t'.pending = s.pending := by
  unfold execPinGlStageWrite at *
  grind [answered_pending, pinErr_pending, put_pending, setF_pending]

theorem relevel_pending (s : State) (n : Nat) : (relevel s n).pending = s.pending := by
  unfold relevel
  grind [forN_pending, setLevel_pending]

theorem execSwitchSettleEnd_pending (n : Line) (t : Nat) (s : State) (t' : State) (ht' : execSwitchSettleEnd n t s = .next t') : t'.pending = s.pending := by
  unfold execSwitchSettleEnd at *
  grind [modLine_pending, relevel_pending, settle_pending, stamp_pending]

theorem disarmLine_pending (s : State) (o n : Nat) : (disarmLine s o n).pending = s.pending := by
  unfold disarmLine
  grind [edgeDisarm_pending, forN_pending]

theorem execPinGlOwnerWrite_pending (n : Line) (v : Word32) (s : State) (t' : State) (ht' : execPinGlOwnerWrite n v s = .next t') : t'.pending = s.pending := by
  unfold execPinGlOwnerWrite at *
  grind [answered_pending, disarmLine_pending, put_pending]

theorem execPinLtcCtlWrite_pending (v : Word32) (s : State) (t' : State) (ht' : execPinLtcCtlWrite v s = .next t') : t'.pending = s.pending := by
  unfold execPinLtcCtlWrite at *
  grind [answered_pending, pinErr_pending, put_pending]

theorem execSyncOutPulseEnd_pending (n : Line) (t : Nat) (s : State) (t' : State) (ht' : execSyncOutPulseEnd n t s = .next t') : t'.pending = s.pending := by
  unfold execSyncOutPulseEnd at *
  grind [modLine_pending, stamp_pending]

theorem execTickOutFall_pending (n : Line) (t : Nat) (s : State) (t' : State) (ht' : execTickOutFall n t s = .next t') : t'.pending = s.pending := by
  unfold execTickOutFall at *
  grind [modLine_pending, stamp_pending]

theorem execLtcRxFrame_pending (data : Word64) (sync : Bool) (s : State) (t' : State) (ht' : execLtcRxFrame data sync s = .next t') : t'.pending = s.pending := by
  unfold execLtcRxFrame at *
  grind [bump_pending, clrF_pending, modLtc_pending, setF_pending]

theorem execLtcTxFrameTimer_pending (t : Nat) (s : State) (t' : State) (ht' : execLtcTxFrameTimer t s = .next t') : t'.pending = s.pending := by
  unfold execLtcTxFrameTimer at *
  grind [ltcSend_pending, modLtc_pending, stamp_pending]

theorem execUartRxByte_pending (u : Fin 4) (b : Byte) (s : State) (t' : State) (ht' : execUartRxByte u b s = .next t') : t'.pending = s.pending := by
  unfold execUartRxByte at *
  grind [bump_pending, setUart_pending]

theorem execUartTxByte_pending (u : Fin 4) (s : State) (t' : State) (ht' : execUartTxByte u s = .next t') : t'.pending = s.pending := by
  unfold execUartTxByte at *
  grind [setUart_pending]

theorem execPinUartDataWrite_pending (u : Fin 4) (v : Word32) (s : State) (t' : State) (ht' : execPinUartDataWrite u v s = .next t') : t'.pending = s.pending := by
  unfold execPinUartDataWrite at *
  grind [answered_pending, setUart_pending]

theorem execPinUartDataRead_pending (u : Fin 4) (s : State) (t' : State) (ht' : execPinUartDataRead u s = .next t') : t'.pending = s.pending := by
  unfold execPinUartDataRead at *
  grind [answered_pending, setUart_pending, useFree_pending]

theorem execPinI2cCmd_pending (b : Fin 4) (v : Word32) (s : State) (t' : State) (ht' : execPinI2cCmd b v s = .next t') : t'.pending = s.pending := by
  unfold execPinI2cCmd at *
  grind [answered_pending, pinErr_pending, setAux_pending, setF_pending]

theorem execAuxI2cDone_pending (b : Fin 4) (nak : Bool) (data : List Byte) (s : State) (t' : State) (ht' : execAuxI2cDone b nak data s = .next t') : t'.pending = s.pending := by
  unfold execAuxI2cDone at *
  grind [clrF_pending, setAux_pending, setF_pending]

end Sys2Proof.Machine
end

