-- ==== Sys2Proof/Laws/QueueSeqDev.lean ====
section
/-! SUPPORT. That the operations of Machine/SeqDev.lean leave the queue of waiting commands alone. -/

namespace Sys2Proof.Machine

theorem descRow_pending (s : State) (q p rd ra n : Nat) (sel : Option Nat) (ue : Bool) : (descRow s q p rd ra n sel ue).pending = s.pending := by
  unfold descRow
  grind [descPass_pending, drainAll_pending, modPair_pending, orFault_pending, seqWrite_pending, stallCycles_pending, startOp_pending]

theorem moveStart_pending (s : State) (q p c : Nat) (r : DescRef) : (moveStart s q p c r).2.pending = s.pending := by
  unfold moveStart
  grind [chStart_pending]

theorem blockOn_pending (s : State) (q p kind obj rd : Nat) : (blockOn s q p kind obj rd).pending = s.pending := by
  unfold blockOn
  grind [leave_pending, modPair_pending]

theorem waitRow_pending (s : State) (q : Nat) (ecc : Ecc) (kind rd ra lim : Nat) (poll : Bool)
    (f : Nat → Nat → State → Option (Nat × State))
    (hf : ∀ (o x : Nat) (s : State), ∀ r, f o x s = some r → r.2.pending = s.pending) :
    (waitRow s q ecc kind rd ra lim poll f).pending = s.pending := by
  unfold waitRow
  refine seqRun_pending _ _ _ _ _ ?_
  intro p s
  simp only
  split
  · exact seqWrite_pending ..
  · split
    · exact seqWrite_pending ..
    · split
      · rename_i v s2 he
        exact (seqWrite_pending ..).trans (hf _ _ _ _ he)
      · split
        · exact seqWrite_pending ..
        · exact (blockOn_pending ..).trans (charge_pending ..)

theorem waitTag_pending (o x : Nat) (s : State) (r' : Nat × State) (hr' : waitTag o x s = some r') : r'.2.pending = s.pending := by
  unfold waitTag at *
  grind [modPart_pending]

theorem waitTimer_pending (o t : Nat) (s : State) (r' : Nat × State) (hr' : waitTimer o t s = some r') : r'.2.pending = s.pending := by
  unfold waitTimer at *
  grind [put_pending]

theorem waitEdge_pending (o e : Nat) (s : State) (r' : Nat × State) (hr' : waitEdge o e s = some r') : r'.2.pending = s.pending := by
  unfold waitEdge at *
  grind [setCaps_pending]

theorem waitBell_pending (o k : Nat) (s : State) (r' : Nat × State) (hr' : waitBell o k s = some r') : r'.2.pending = s.pending := by
  unfold waitBell at *
  grind [modPart_pending]

theorem tsetRow_pending (s : State) (q : Nat) (ecc : Ecc) (mode rd ra tm : Nat) : (tsetRow s q ecc mode rd ra tm).pending = s.pending := by
  unfold tsetRow
  grind [devRun_pending, seqRun_pending, tmrCancel_pending, tmrLoad_pending]

theorem tgetRow_pending (s : State) (q : Nat) (ecc : Ecc) (sel rd ra tm : Nat) (f : Nat → State → Nat × State)
    (hf : ∀ (o : Nat) (s : State), (f o s).2.pending = s.pending) : (tgetRow s q ecc sel rd ra tm f).pending = s.pending := by
  unfold tgetRow
  refine seqRun_pending _ _ _ _ _ ?_
  intro p s
  simp only
  split
  · exact seqWrite_pending ..
  · exact (seqWrite_pending ..).trans (hf _ _)

theorem tmrLeft_pending (s : State) (o t : Nat) : (tmrLeft s o t).2.pending = s.pending := by
  unfold tmrLeft
  grind [useFree_pending]

theorem edgeArm_pending (s : State) (o e input edges : Nat) (once : Bool) : (edgeArm s o e input edges once).pending = s.pending := by
  unfold edgeArm
  grind [edgeFlush_pending, put_pending, setLevel_pending]

theorem execIssue_pending (q : Seq) (ecc : Ecc) (rd ra : Fin 32) (ue : Bool) (t : Nat) (s : State) (t' : State) (ht' : execIssue q ecc rd ra ue t s = .next t') : t'.pending = s.pending := by
  unfold execIssue at *
  grind [descRow_pending, finSettle_pending, seqRun_pending, stamp_pending]

theorem execSpool_pending (q : Seq) (ecc : Ecc) (rd ra : Fin 32) (sel : Fin 8) (ue : Bool) (t : Nat) (s : State) (t' : State) (ht' : execSpool q ecc rd ra sel ue t s = .next t') : t'.pending = s.pending := by
  unfold execSpool at *
  grind [descRow_pending, finSettle_pending, seqRun_pending, stamp_pending]

theorem execMove_pending (q : Seq) (ecc : Ecc) (rd ra : Fin 32) (chan : Chan) (s : State) (t' : State) (ht' : execMove q ecc rd ra chan s = .next t') : t'.pending = s.pending := by
  unfold execMove at *
  grind [drainAll_pending, finSettle_pending, moveStart_pending, orFault_pending, seqRun_pending, seqWrite_pending]

theorem execSig_pending (q : Seq) (ecc : Ecc) (rd ra : Fin 32) (src : BitVec 10) (s : State) (t' : State) (ht' : execSig q ecc rd ra src s = .next t') : t'.pending = s.pending := by
  unfold execSig at *
  grind [devRun_pending, raise_pending, seqRun_pending]

theorem execWaitTick_pending (q : Seq) (ecc : Ecc) (rd ra : Fin 32) (poll : Bool) (s : State) (t' : State) (ht' : execWaitTick q ecc rd ra poll s = .next t') : t'.pending = s.pending := by
  unfold execWaitTick at *
  grind [blockOn_pending, charge_pending, seqRun_pending, seqWrite_pending]

theorem execWaitTag_pending (q : Seq) (ecc : Ecc) (rd ra : Fin 32) (poll : Bool) (s : State) (t' : State)
    (ht' : execWaitTag q ecc rd ra poll s = .next t') : t'.pending = s.pending := by
  unfold execWaitTag at ht'
  cases ht'
  refine seqRun_pending _ _ _ _ _ ?_
  intro p s
  simp only
  split
  · exact seqWrite_pending ..
  · split
    · rename_i v s2 he
      exact (seqWrite_pending ..).trans (waitTag_pending _ _ _ _ he)
    · split
      · exact seqWrite_pending ..
      · exact (blockOn_pending ..).trans (charge_pending ..)

theorem execWaitTimer_pending (q : Seq) (ecc : Ecc) (rd ra : Fin 32) (poll : Bool) (s : State) (t' : State)
    (ht' : execWaitTimer q ecc rd ra poll s = .next t') : t'.pending = s.pending := by
  unfold execWaitTimer at ht'
  cases ht'
  exact waitRow_pending _ _ _ _ _ _ _ _ _ fun _ _ _ _ hr => waitTimer_pending _ _ _ _ hr

theorem execWaitEdge_pending (q : Seq) (ecc : Ecc) (rd ra : Fin 32) (poll : Bool) (s : State) (t' : State)
    (ht' : execWaitEdge q ecc rd ra poll s = .next t') : t'.pending = s.pending := by
  unfold execWaitEdge at ht'
  cases ht'
  exact waitRow_pending _ _ _ _ _ _ _ _ _ fun _ _ _ _ hr => waitEdge_pending _ _ _ _ hr

theorem execWaitDoorbell_pending (q : Seq) (ecc : Ecc) (rd ra : Fin 32) (poll : Bool) (s : State) (t' : State)
    (ht' : execWaitDoorbell q ecc rd ra poll s = .next t') : t'.pending = s.pending := by
  unfold execWaitDoorbell at ht'
  cases ht'
  exact waitRow_pending _ _ _ _ _ _ _ _ _ fun _ _ _ _ hr => waitBell_pending _ _ _ _ hr

theorem execTsetCancel_pending (q : Seq) (ecc : Ecc) (rd ra tm : Fin 32) (s : State) (t' : State) (ht' : execTsetCancel q ecc rd ra tm s = .next t') : t'.pending = s.pending := by
  unfold execTsetCancel at *
  grind [tsetRow_pending]

theorem execTsetOneshot_pending (q : Seq) (ecc : Ecc) (rd ra tm : Fin 32) (t : Nat) (s : State) (t' : State) (ht' : execTsetOneshot q ecc rd ra tm t s = .next t') : t'.pending = s.pending := by
  unfold execTsetOneshot at *
  grind [stamp_pending, tsetRow_pending]

theorem execTsetPeriodic_pending (q : Seq) (ecc : Ecc) (rd ra tm : Fin 32) (t : Nat) (s : State) (t' : State) (ht' : execTsetPeriodic q ecc rd ra tm t s = .next t') : t'.pending = s.pending := by
  unfold execTsetPeriodic at *
  grind [stamp_pending, tsetRow_pending]

theorem execTsetTickOneshot_pending (q : Seq) (ecc : Ecc) (rd ra tm : Fin 32) (s : State) (t' : State) (ht' : execTsetTickOneshot q ecc rd ra tm s = .next t') : t'.pending = s.pending := by
  unfold execTsetTickOneshot at *
  grind [tsetRow_pending]

theorem execTsetTickPeriodic_pending (q : Seq) (ecc : Ecc) (rd ra tm : Fin 32) (s : State) (t' : State) (ht' : execTsetTickPeriodic q ecc rd ra tm s = .next t') : t'.pending = s.pending := by
  unfold execTsetTickPeriodic at *
  grind [tsetRow_pending]

theorem execTgetNs_pending (q : Seq) (ecc : Ecc) (rd ra tm : Fin 32) (t : Nat) (s : State) (t' : State) (ht' : execTgetNs q ecc rd ra tm t s = .next t') : t'.pending = s.pending := by
  unfold execTgetNs at *
  grind [stamp_pending, tgetRow_pending, tmrLeft_pending]

theorem execTgetPending_pending (q : Seq) (ecc : Ecc) (rd ra tm : Fin 32) (s : State) (t' : State) (ht' : execTgetPending q ecc rd ra tm s = .next t') : t'.pending = s.pending := by
  unfold execTgetPending at *
  grind [tgetRow_pending]

theorem execTgetLost_pending (q : Seq) (ecc : Ecc) (rd ra tm : Fin 32) (s : State) (t' : State) (ht' : execTgetLost q ecc rd ra tm s = .next t') : t'.pending = s.pending := by
  unfold execTgetLost at *
  grind [modTimer_pending, tgetRow_pending]

theorem execEarmArm_pending (q : Seq) (ecc : Ecc) (rd ra : Fin 32) (det : Fin 16) (edges : Fin 4) (once : Bool) (s : State) (t' : State) (ht' : execEarmArm q ecc rd ra det edges once s = .next t') : t'.pending = s.pending := by
  unfold execEarmArm at *
  grind [devRun_pending, edgeArm_pending, seqRun_pending]

theorem execEarmDisarm_pending (q : Seq) (ecc : Ecc) (rd ra : Fin 32) (det : Fin 16) (once : Bool) (s : State) (t' : State) (ht' : execEarmDisarm q ecc rd ra det once s = .next t') : t'.pending = s.pending := by
  unfold execEarmDisarm at *
  grind [devRun_pending, edgeDisarm_pending, put_pending, seqRun_pending]

theorem execQuantumExpiry_pending (q : Seq) (s : State) (t' : State) (ht' : execQuantumExpiry q s = .next t') : t'.pending = s.pending := by
  unfold execQuantumExpiry at *
  grind [leave_pending]

theorem execTimerExpiry_pending (p : Part) (tm : Fin 32) (t : Nat) (s : State) (t' : State) (ht' : execTimerExpiry p tm t s = .next t') : t'.pending = s.pending := by
  unfold execTimerExpiry at *
  grind [stamp_pending, tmrExpire_pending, tmrNext_pending]

theorem edgeSample_pending (s : State) (o e : Nat) (rise : Bool) (t : Nat) : (edgeSample s o e rise t).pending = s.pending := by
  unfold edgeSample
  grind [edgeTake_pending, setLevel_pending, stamp_pending]

theorem execEdgeCapture_pending (p : Part) (det : Fin 16) (rise : Bool) (t : Nat) (s : State) (t' : State) (ht' : execEdgeCapture p det rise t s = .next t') : t'.pending = s.pending := by
  unfold execEdgeCapture at *
  grind [edgeSample_pending]

theorem execProgramDoorbell_pending (p : Part) (k : Fin 16) (s : State) (t' : State) (ht' : execProgramDoorbell p k s = .next t') : t'.pending = s.pending := by
  unfold execProgramDoorbell at *
  grind [answered_pending, bellRing_pending, inWindow_pending]

end Sys2Proof.Machine
end

