-- ==== Sys2Proof/Laws/QueueViews.lean ====
section
/-! SUPPORT. That the operations of Machine/Views.lean leave the queue of waiting commands alone. -/

namespace Sys2Proof.Machine

theorem countSkip_pending (s : State) (v m : Nat) : (countSkip s v m).pending = s.pending := by
  unfold countSkip
  grind [bump_pending]

theorem viewDone_pending (s : State) (v part n : Nat) : (viewDone s v part n).pending = s.pending := by
  unfold viewDone
  grind [countSkip_pending, fsWrite_pending]

theorem modMon_pending (s : State) (m : Nat) (f : MonSt → MonSt) : (modMon s m f).pending = s.pending := by
  unfold modMon
  grind

theorem monFetch_pending (s : State) (m v : Nat) (z : ViewShot) : (monFetch s m v z).2.pending = s.pending := by
  unfold monFetch
  grind

theorem monSend_pending (s : State) (m v t : Nat) (z : ViewShot) : (monSend s m v t z).pending = s.pending := by
  unfold monSend
  grind [bump_pending, modMon_pending, monFetch_pending]

theorem monBad_pending (s : State) (m : Nat) : (monBad s m).pending = s.pending := by
  unfold monBad
  grind [modMon_pending, setF_pending]

theorem monStart_pending (s : State) (m t : Nat) : (monStart s m t).pending = s.pending := by
  unfold monStart
  grind [foldl_pending, monBad_pending, monSend_pending]

theorem viewMode_pending (s : State) : (viewMode s).pending = s.pending := by
  unfold viewMode
  grind [forN_pending, modMon_pending]

theorem execViewFrameDone_pending (v : Fin 3) (part : Part) (tick : Nat) (s : State) (t' : State) (ht' : execViewFrameDone v part tick s = .next t') : t'.pending = s.pending := by
  unfold execViewFrameDone at *
  grind [viewDone_pending]

theorem execMoFrameStart_pending (m : Fin 2) (t : Nat) (s : State) (t' : State) (ht' : execMoFrameStart m t s = .next t') : t'.pending = s.pending := by
  unfold execMoFrameStart at *
  grind [monStart_pending, stamp_pending]

end Sys2Proof.Machine
end

