-- ==== Sys2Proof/Laws/QueueBoundary.lean ====
section
/-! SUPPORT. That the operations of Machine/Boundary.lean leave the queue of waiting commands alone. -/

namespace Sys2Proof.Machine

/-- A loop over a state and a flag leaves the queue alone. -/
theorem foldl_fst_pending {α : Type} (l : List α) (f : State × Bool → α → State × Bool) (a : State × Bool)
    (hf : ∀ (a : State × Bool) (x : α), (f a x).1.pending = a.1.pending) : (l.foldl f a).1.pending = a.1.pending := by
  induction l generalizing a with
  | nil => rfl
  | cons x l ih => rw [List.foldl_cons, ih, hf]

theorem tickNumber_pending (s : State) (t : Nat) : (tickNumber s t).pending = s.pending := by
  unfold tickNumber
  grind [stamp_pending]

theorem rateCommit_pending (s : State) : (rateCommit s).pending = s.pending := by
  unfold rateCommit
  grind [ltcRateCheck_pending, put_pending, setF_pending]

theorem sourceCommit_pending (s : State) : (sourceCommit s).pending = s.pending := by
  unfold sourceCommit
  grind [clrF_pending, put_pending]

theorem cyclesStep_pending (s : State) : (cyclesStep s).pending = s.pending := by
  unfold cyclesStep
  grind [foldl_pending, forN_pending, modPair_pending, modSeq_pending, put_pending, putMax_pending, stallTick_pending]

theorem timerTick_pending (s : State) (p k t : Nat) : (timerTick s p k t).pending = s.pending := by
  unfold timerTick
  grind [bump_pending, modTimer_pending, tmrExpire_pending, tmrNext_pending]

theorem timersStep_pending (s : State) (t : Nat) : (timersStep s t).pending = s.pending := by
  unfold timersStep
  grind [forN_pending, timerTick_pending]

theorem noteLate_pending (s : State) (stage part n : Nat) : (noteLate s stage part n).pending = s.pending := by
  unfold noteLate
  grind [bump_pending, put_pending, put2_pending, raiseAll_pending]

theorem markLate_pending (s : State) (clip n : Nat) : (markLate s clip n).pending = s.pending := by
  unfold markLate
  grind [modClip_pending]

theorem judgeCapture_pending (e : Nat) (x : Frame) (a : State × Bool) : (judgeCapture e x a).1.pending = a.1.pending := by
  unfold judgeCapture
  grind [noteLate_pending]

theorem judgeCode_pending (e : Nat) (x : Frame) (a : State × Bool) (c : ClipFrame) : (judgeCode e x a c).1.pending = a.1.pending := by
  unfold judgeCode
  grind [modClipFrame_pending, noteLate_pending]

theorem judgeCommit_pending (e : Nat) (x : Frame) (a : State × Bool) (c : ClipFrame) : (judgeCommit e x a c).1.pending = a.1.pending := by
  unfold judgeCommit
  grind [markLate_pending, modClipFrame_pending, noteLate_pending]

theorem judgeLoose_pending (e : Nat) (x : Frame) (a : State × Bool) : (judgeLoose e x a).1.pending = a.1.pending := by
  unfold judgeLoose
  grind [noteLate_pending]

theorem judgeFrame_pending (e : Nat) (a : State × Bool) (x : Frame) : (judgeFrame e a x).1.pending = a.1.pending := by
  unfold judgeFrame
  rw [foldl_fst_pending _ _ _ fun a c => judgeCommit_pending _ _ _ _, foldl_fst_pending _ _ _ fun a c => judgeCode_pending _ _ _ _,
    judgeLoose_pending, judgeCapture_pending]

theorem moveLevel_pending (s : State) (late : Bool) : (moveLevel s late).pending = s.pending := by
  unfold moveLevel
  grind [put_pending]

theorem judgeStep_pending (s : State) : (judgeStep s).pending = s.pending := by
  unfold judgeStep
  simp only
  rw [releaseSlots_pending, moveLevel_pending, foldl_fst_pending _ _ _ fun a x => judgeFrame_pending _ _ _]

theorem emptyPair_pending (s : State) (q p : Nat) : (emptyPair s q p).pending = s.pending := by
  unfold emptyPair
  grind [drainAll_pending, modPair_pending, modSeq_pending, restoreRange_pending]

theorem resetStep_pending (s : State) (p : Nat) : (resetStep s p).pending = s.pending := by
  unfold resetStep
  grind [emptyPair_pending, foldl_pending, forN_pending, modPart_pending, whipClip_pending]

theorem resetsStep_pending (s : State) : (resetsStep s).pending = s.pending := by
  unfold resetsStep
  grind [forN_pending, resetStep_pending]

theorem sharesStep_pending (s : State) : (sharesStep s).pending = s.pending := by
  unfold sharesStep
  grind

theorem modeEffect_pending (s : State) (m reason : Nat) : (modeEffect s m reason).pending = s.pending := by
  unfold modeEffect
  grind [intakeMode_pending, modeRefuse_pending, queueReadmit_pending, raiseAll_pending, setMode_pending, viewMode_pending]

theorem leaveNow_pending (s : State) : (leaveNow s).pending = s.pending := by
  unfold leaveNow
  grind [leave_pending]

theorem forcePreview_pending (s : State) : (forcePreview s).pending = s.pending := by
  unfold forcePreview
  grind [foldl_pending, leaveNow_pending, setTransition_pending, whipClip_pending]

theorem modeStep_pending (s : State) : (modeStep s).pending = s.pending := by
  unfold modeStep
  grind [forcePreview_pending, leaveNow_pending, modeEffect_pending, modeRefuse_pending, noTransition_pending, openClips_pending]

theorem startProg_pending (s : State) (q p : Nat) : (startProg s q p).pending = s.pending := by
  unfold startProg
  grind [drainAll_pending, modPair_pending, modSeq_pending, put_pending]

theorem timersHandover_pending (s : State) (o policy : Nat) : (timersHandover s o policy).pending = s.pending := by
  unfold timersHandover
  grind [forN_pending, tmrCancel_pending]

theorem swapPair_pending (s : State) (q p : Nat) : (swapPair s q p).pending = s.pending := by
  unfold swapPair
  grind [drainAll_pending, modPair_pending, put_pending, setActive_pending, timersHandover_pending]

theorem pairStep_pending (s : State) (q p : Nat) : (pairStep s q p).pending = s.pending := by
  unfold pairStep
  grind [complete_pending, modPair_pending, restartAgain_pending, startProg_pending, swapPair_pending]

theorem pairsStep_pending (s : State) : (pairsStep s).pending = s.pending := by
  unfold pairsStep
  grind [forN_pending, pairStep_pending]

theorem policyStep_pending (s : State) : (policyStep s).pending = s.pending := by
  unfold policyStep
  grind [put_pending]

theorem movePair_pending (a b : Nat) (s : State) (m : Nat × Nat) : (movePair a b s m).pending = s.pending := by
  unfold movePair
  grind [drainAll_pending, foldl_pending, installRefuse_pending, modPair_pending, put_pending, setF_pending]

theorem migStart_pending (s : State) : (migStart s).pending = s.pending := by
  unfold migStart
  grind [foldl_pending, modSeq_pending, movePair_pending, put_pending]

theorem postOf_pending (o : Nat) (w : WaitSt) (s : State) (r' : Nat × State) (hr' : postOf o w s = some r') : r'.2.pending = s.pending := by
  unfold postOf at *
  grind [waitBell_pending, waitEdge_pending, waitTag_pending, waitTimer_pending]

theorem postHeld_pending (s : State) (i : Nat) : (postHeld s i).pending = s.pending := by
  unfold postHeld
  dsimp only
  cases (pairOf s (i / 8) (i % 8)).wait with
  | none => rfl
  | some w =>
    refine ite_pending rfl ?_
    cases hp : postOf (ownerOf s (i / 8) (i % 8)) w s with
    | none => rfl
    | some r => exact (wake_pending ..).trans (postOf_pending _ _ _ _ hp)


theorem migResume_pending (s : State) : (migResume s).pending = s.pending := by
  unfold migResume
  grind [bump_pending, foldl_pending, forN_pending, modPair_pending, postHeld_pending, put_pending, raiseP_pending]

theorem onlineStep_pending (s : State) : (onlineStep s).pending = s.pending := by
  unfold onlineStep
  grind [foldl_pending, put_pending]

theorem wakeTick_pending (s : State) (q p : Nat) : (wakeTick s q p).pending = s.pending := by
  unfold wakeTick
  cases (pairOf s q p).wait with
  | none => rfl
  | some w =>
    refine ite_pending rfl ?_
    have h2 := (put_pending _ (R.SEQ_PAIR_STAT_STATE q p) stRunnable).trans ((modPair_pending _ q p (fun y => { y with
      wait := none, pc := y.pc + 4, tickRef := (setGreg s q p w.rd ((2 ^ 64 + s.tick.no - (pairOf s q p).tickRef) % 2 ^ 64)).tick.no })).trans
      (setGreg_pending s q p w.rd ((2 ^ 64 + s.tick.no - (pairOf s q p).tickRef) % 2 ^ 64)))
    have h3 := ite_pending (c := 1 < (2 ^ 64 + s.tick.no - (pairOf s q p).tickRef) % 2 ^ 64)
      ((bump_pending _ (R.SEQ_PAIR_LATE_CNT_COUNT q p)).trans h2) h2
    exact ite_pending ((progFault_pending ..).trans h3) h3

theorem resumeStep_pending (s : State) : (resumeStep s).pending = s.pending := by
  unfold resumeStep
  grind [forN_pending, noteExcess_pending, pick_pending, wakeTick_pending]

theorem moversStep_pending (s : State) : (moversStep s).pending = s.pending := by
  unfold moversStep
  grind [chNext_pending, forN_pending]

theorem proxyGap_pending (t : Nat) (s : State) (c : Clip) : (proxyGap t s c).pending = s.pending := by
  unfold proxyGap
  grind [placeRecord_pending]

theorem dropProxy_pending (s : State) (x : Frame) : (dropProxy s x).pending = s.pending := by
  unfold dropProxy
  grind [foldl_pending, modFrame_pending, proxyGap_pending]

theorem cancelLane_pending (l : Nat) (s : State) : (cancelLane l s).pending = s.pending := by
  unfold cancelLane
  grind [endJob_pending, foldl_pending, jobRecord_pending, modLane_pending]

theorem frameStep_pending (s : State) : (frameStep s).pending = s.pending := by
  unfold frameStep
  grind [cancelLane_pending, dropProxy_pending, foldl_pending, forN_pending, openFrame_pending, proxyGap_pending, pruneFrames_pending]

theorem belayEarly_pending (s : State) : (belayEarly s).pending = s.pending := by
  unfold belayEarly
  grind [magDrops_pending, modeStep_pending]

theorem belayLate_pending (s : State) : (belayLate s).pending = s.pending := by
  unfold belayLate
  grind [belaySwitch_pending, boundaryLanes_pending, forN_pending, renewReady_pending]

theorem stagedStep_pending (s : State) : (stagedStep s).pending = s.pending := by
  unfold stagedStep
  grind [showStride_pending, viewMode_pending]

theorem boundary_pending (s : State) (t : Nat) : (boundary s t).pending = s.pending := by
  unfold boundary
  grind [belayEarly_pending, belayLate_pending, captureClose_pending, cyclesStep_pending, frameStep_pending, freqBoundary_pending, haltExcluded_pending, judgeStep_pending, migResume_pending, migStart_pending, moversStep_pending, onlineStep_pending, overcommitTest_pending, pairsStep_pending, pinTick_pending, policyStep_pending, raiseAll_pending, rateCommit_pending, resetsStep_pending, resumeStep_pending, sharesStep_pending, sourceCommit_pending, stagedStep_pending, tickNumber_pending, timersStep_pending]

end Sys2Proof.Machine
end

