-- ==== Sys2Proof/Laws/QueueTick.lean ====
section
/-! SUPPORT. That the operations of Machine/Tick.lean leave the queue of waiting commands alone. -/

namespace Sys2Proof.Machine

theorem pairEdge_pending (s : State) (t : Nat) : (pairEdge s t).pending = s.pending := by
  unfold pairEdge
  grind

theorem edgeTick_pending (s : State) (t : Nat) : (edgeTick s t).pending = s.pending := by
  unfold edgeTick
  grind [boundary_pending, clrF_pending]

theorem tickInEdge_pending (s : State) (t d : Nat) : (tickInEdge s t d).pending = s.pending := by
  unfold tickInEdge
  grind [bump_pending, edgeTick_pending, pairEdge_pending, stamp_pending]

theorem holdoverTick_pending (s : State) (t : Nat) : (holdoverTick s t).pending = s.pending := by
  unfold holdoverTick
  grind [boundary_pending, bump_pending, setF_pending]

theorem lockLost_pending (s : State) : (lockLost s).pending = s.pending := by
  unfold lockLost
  grind [clrF_pending, setF_pending]

theorem genlockEdge_pending (s : State) (err : Int) (t : Nat) : (genlockEdge s err t).pending = s.pending := by
  unfold genlockEdge
  grind [clrF_pending, lockLost_pending, putInt_pending, setF_pending, stamp_pending]

theorem tickCtlWrite_pending (s : State) (v : Nat) : (tickCtlWrite s v).pending = s.pending := by
  unfold tickCtlWrite
  grind [put_pending, setF_pending]

theorem rateDenWrite_pending (s : State) (v : Nat) : (rateDenWrite s v).pending = s.pending := by
  unfold rateDenWrite
  grind [put_pending]

theorem admLimitWrite_pending (s : State) (v : Nat) : (admLimitWrite s v).pending = s.pending := by
  unfold admLimitWrite
  grind [put_pending, setF_pending]

theorem setLatch_pending (s : State) (p : Nat) (x : Option Nat) : (setLatch s p x).pending = s.pending := by
  unfold setLatch
  grind

theorem tickLoRead_pending (s : State) (p : Nat) : (tickLoRead s p).pending = s.pending := by
  unfold tickLoRead
  grind [setLatch_pending]

theorem tickHiRead_pending (s : State) (p : Nat) : (tickHiRead s p).pending = s.pending := by
  unfold tickHiRead
  grind [setLatch_pending]

theorem dormStart_pending (s : State) (t : Nat) : (dormStart s t).pending = s.pending := by
  unfold dormStart
  grind [addOp_pending, forN_pending, stamp_pending]

theorem modeRequest_pending (s : State) (m t : Nat) : (modeRequest s m t).pending = s.pending := by
  unfold modeRequest
  grind [dormStart_pending, setTransition_pending]

theorem execFreeRunTick_pending (t : Nat) (s : State) (t' : State) (ht' : execFreeRunTick t s = .next t') : t'.pending = s.pending := by
  unfold execFreeRunTick at *
  grind [boundary_pending, finSettle_pending]

theorem execTickInEdge_pending (rise : Timed Bool) (d : Fin 49) (s : State) (t' : State) (ht' : execTickInEdge rise d s = .next t') : t'.pending = s.pending := by
  unfold execTickInEdge at *
  grind [finSettle_pending, tickInEdge_pending]

theorem execHoldoverTick_pending (t : Nat) (s : State) (t' : State) (ht' : execHoldoverTick t s = .next t') : t'.pending = s.pending := by
  unfold execHoldoverTick at *
  grind [finSettle_pending, holdoverTick_pending]

theorem execGenlockEdge_pending (err : Int) (rise : Timed Bool) (s : State) (t' : State) (ht' : execGenlockEdge err rise s = .next t') : t'.pending = s.pending := by
  unfold execGenlockEdge at *
  grind [genlockEdge_pending]

theorem execGenlockTick_pending (t : Nat) (s : State) (t' : State) (ht' : execGenlockTick t s = .next t') : t'.pending = s.pending := by
  unfold execGenlockTick at *
  grind [boundary_pending, finSettle_pending]

theorem execGenlockEdgeMissing_pending (t : Nat) (s : State) (t' : State) (ht' : execGenlockEdgeMissing t s = .next t') : t'.pending = s.pending := by
  unfold execGenlockEdgeMissing at *
  grind [lockLost_pending, stamp_pending]

theorem execTickRateDenWrite_pending (v : Word32) (s : State) (t' : State) (ht' : execTickRateDenWrite v s = .next t') : t'.pending = s.pending := by
  unfold execTickRateDenWrite at *
  grind [answered_pending, rateDenWrite_pending]

theorem execTickNoLoad_pending (v : Word32) (s : State) (t' : State) (ht' : execTickNoLoad v s = .next t') : t'.pending = s.pending := by
  unfold execTickNoLoad at *
  grind [answered_pending, tickCtlWrite_pending]

theorem execTickNoLoRead_pending (p : Part) (s : State) (t' : State) (ht' : execTickNoLoRead p s = .next t') : t'.pending = s.pending := by
  unfold execTickNoLoRead at *
  grind [answered_pending, inWindow_pending, tickLoRead_pending]

theorem execTickNoHiRead_pending (p : Part) (s : State) (t' : State) (ht' : execTickNoHiRead p s = .next t') : t'.pending = s.pending := by
  unfold execTickNoHiRead at *
  grind [answered_pending, inWindow_pending, tickHiRead_pending]

theorem execTickAdmLimitWrite_pending (v : Word32) (s : State) (t' : State) (ht' : execTickAdmLimitWrite v s = .next t') : t'.pending = s.pending := by
  unfold execTickAdmLimitWrite at *
  grind [admLimitWrite_pending, answered_pending]

theorem execModeRequest_pending (v : Word32) (t : Nat) (s : State) (t' : State) (ht' : execModeRequest v t s = .next t') : t'.pending = s.pending := by
  unfold execModeRequest at *
  grind [answered_pending, finSettle_pending, modeRefuse_pending, modeRequest_pending]

end Sys2Proof.Machine
end

