-- ==== Sys2Proof/Laws/QueueAccess.lean ====
section
/-! SUPPORT. That the operations of Machine/Access.lean leave the queue of waiting commands alone. -/

namespace Sys2Proof.Machine

theorem accErr_pending (s : State) (win : Option Part) (unmapped : Bool) (off : Nat) : (accErr s win unmapped off).pending = s.pending := by
  unfold accErr
  grind [bump_pending, put_pending, raiseP_pending, setF_pending]

theorem failAccess_pending (s : State) (win : Option Part) (write : Bool) (off : Nat) (lanes : List Bool) : (failAccess s win write off lanes).pending = s.pending := by
  unfold failAccess
  grind [accErr_pending]

theorem writeFld_pending (v : Nat) (s : State) (f : Fld) : (writeFld v s f).pending = s.pending := by
  unfold writeFld
  grind [put_pending]

theorem writeWord_pending (s : State) (a v : Nat) : (writeWord s a v).pending = s.pending := by
  unfold writeWord
  grind [foldl_pending, writeFld_pending]

theorem clearRead_pending (s : State) (a : Nat) : (clearRead s a).pending = s.pending := by
  unfold clearRead
  grind [clrF_pending, foldl_pending]

theorem readReg_pending (s : State) (a : Nat) : (readReg s a).pending = s.pending := by
  unfold readReg
  grind [auxPop_pending, clearRead_pending, put_pending, useFree_pending]

theorem sqCfgWrite_pending (s : State) (p r a v : Nat) (ok : Bool) : (sqCfgWrite s p r a v ok).pending = s.pending := by
  unfold sqCfgWrite
  grind [put_pending, setF_pending, writeWord_pending]

theorem cqCfgWrite_pending (s : State) (p r a v : Nat) (ok : Bool) : (cqCfgWrite s p r a v ok).pending = s.pending := by
  unfold cqCfgWrite
  grind [put_pending, setF_pending, writeWord_pending]

theorem winWrite_pending (s : State) (p off v : Nat) : (winWrite s p off v).pending = s.pending := by
  unfold winWrite
  grind [cqCfgWrite_pending, msixMask_pending, msixSet_pending, pwHubErr_pending, sqCfgWrite_pending, writeWord_pending]

theorem ownerWrite_pending (s : State) (q p v : Nat) : (ownerWrite s q p v).pending = s.pending := by
  unfold ownerWrite
  grind [put_pending, setF_pending]

theorem poolCfgWrite_pending (s : State) (a v : Nat) (ok : Bool) : (poolCfgWrite s a v ok).pending = s.pending := by
  unfold poolCfgWrite
  grind [setF_pending, writeWord_pending]

theorem openStoreWrite_pending (s : State) (a v : Nat) : (openStoreWrite s a v).pending = s.pending := by
  unfold openStoreWrite
  grind [put_pending, setF_pending, writeWord_pending]

theorem injWrite_pending (s : State) (a v : Nat) : (injWrite s a v).pending = s.pending := by
  have key : ∀ (s : State) (a i : Nat) (c1 c2 c3 c4 c5 c6 : Prop) [Decidable c1] [Decidable c2] [Decidable c3]
      [Decidable c4] [Decidable c5] [Decidable c6],
      (if c1 then writeWord s a v
      else if c2 then
        (if c3 then setF s R.INJ_STAT_CFGERR
        else if c4 then injStart (writeWord s a v) i
        else writeWord s a v)
      else if c5 then s
      else if c6 then setF s R.INJ_STAT_CFGERR
      else writeWord s a v).pending = s.pending := by
    intro s a i c1 c2 c3 c4 c5 c6 _ _ _ _ _ _
    have hw := writeWord_pending s a v
    have hc := setF_pending s R.INJ_STAT_CFGERR
    exact ite_pending hw (ite_pending (ite_pending hc (ite_pending ((injStart_pending ..).trans hw) hw))
      (ite_pending rfl (ite_pending hc hw)))
  unfold injWrite
  exact key { s with sup := { s.sup with armAt := none } } a ((a - 0x341000) / 0x20) _ _ _ _ _ _

theorem fltMaskWrite_pending (s : State) (w v : Nat) : (fltMaskWrite s w v).pending = s.pending := by
  unfold fltMaskWrite
  grind [forN_pending, put_pending]

theorem bootLenWrite_pending (s : State) (v : Nat) : (bootLenWrite s v).pending = s.pending := by
  unfold bootLenWrite
  grind [put_pending]

theorem aonWrite_pending (s : State) (a v : Nat) : (aonWrite s a v).pending = s.pending := by
  unfold aonWrite
  grind [bootCtlStore_pending, bootLenWrite_pending, writeWord_pending]

theorem bar0Write_pending (s : State) (a v : Nat) : (bar0Write s a v).pending = s.pending := by
  have hw := writeWord_pending s a v
  have hc := fun f => setF_pending s f
  unfold bar0Write
  exact ite_pending (ite_pending rfl (tickCtlWrite_pending ..)) <| ite_pending (ite_pending hw (hc _)) <|
    ite_pending (aonWrite_pending ..) <| ite_pending (openStoreWrite_pending ..) <| ite_pending (ownerWrite_pending ..) <|
    ite_pending (ite_pending hw rfl) <| ite_pending (poolCfgWrite_pending ..) <| ite_pending (poolCfgWrite_pending ..) <|
    ite_pending (poolCfgWrite_pending ..) <| ite_pending (ite_pending hw (hc _)) <|
    ite_pending (ite_pending rfl (magCtlWrite_pending ..)) <| ite_pending (ite_pending hw (hc _)) <|
    ite_pending ((cacheFlush_pending ..).trans ((fuaAll_pending ..).trans hw)) <| ite_pending (ite_pending rfl hw) <|
    ite_pending (fltMaskWrite_pending ..) <| ite_pending (injWrite_pending ..) <| ite_pending (uartCtl_pending ..) <|
    ite_pending (auxPush_pending ..) hw

theorem cfgWrite_pending (s : State) (p : Part) (r : CfgReg) (v : Nat) : (cfgWrite s p r v).pending = s.pending := by
  unfold cfgWrite
  grind [modCfg_pending, msixControl_pending, msixFlushAll_pending]

theorem cfgLock_pending (s : State) : (cfgLock s).pending = s.pending := by
  unfold cfgLock
  grind [setF_pending]

theorem stageOld_pending (s : State) (a : Nat) : (stageOld s a).pending = s.pending := by
  unfold stageOld
  grind

theorem intCtlWrite_pending (s : State) (v : Nat) : (intCtlWrite s v).pending = s.pending := by
  unfold intCtlWrite
  grind [cfgLock_pending, put_pending, showStride_pending, stageOld_pending]

theorem lockedWrite_pending (s : State) (a v : Nat) : (lockedWrite s a v).pending = s.pending := by
  unfold lockedWrite
  grind [cfgLock_pending, intCtlWrite_pending, showStride_pending, writeWord_pending]

theorem stagedWrite_pending (s : State) (a v : Nat) : (stagedWrite s a v).pending = s.pending := by
  unfold stagedWrite
  grind [intCtlWrite_pending, stageOld_pending, writeWord_pending]

theorem setLut_pending (s : State) (v k i x : Nat) : (setLut s v k i x).pending = s.pending := by
  unfold setLut
  grind

theorem lutWrite_pending (s : State) (v x : Nat) : (lutWrite s v x).pending = s.pending := by
  unfold lutWrite
  grind [put_pending, setLut_pending]

theorem execAccessSizeError_pending (win : Option Part) (write : Bool) (off : Nat) (lanes : List Bool) (s : State) (t' : State) (ht' : execAccessSizeError win write off lanes s = .next t') : t'.pending = s.pending := by
  unfold execAccessSizeError at *
  grind [failAccess_pending]

theorem execAccessUnmapped_pending (win : Option Part) (write : Bool) (x : BusBytes) (s : State) (t' : State) (ht' : execAccessUnmapped win write x s = .next t') : t'.pending = s.pending := by
  unfold execAccessUnmapped at *
  grind [failAccess_pending]

theorem busWrite_pending (s : State) (win : Option Part) (off v : Nat) : (busWrite s win off v).pending = s.pending := by
  unfold busWrite
  grind [bar0Write_pending, failAccess_pending, winWrite_pending]

theorem busRead_pending (s : State) (win : Option Part) (off : Nat) : (busRead s win off).pending = s.pending := by
  unfold busRead
  grind [failAccess_pending, readReg_pending]

theorem execRegisterWrite_pending (a : RegAddr) (v : Word32) (s : State) (t' : State) (ht' : execRegisterWrite a v s = .next t') : t'.pending = s.pending := by
  unfold execRegisterWrite at *
  grind [busWrite_pending, cfgWrite_pending, finSettle_pending, testWrite_pending]

theorem execReadClear_pending (a : RegAddr) (s : State) (t' : State) (ht' : execReadClear a s = .next t') : t'.pending = s.pending := by
  unfold execReadClear at *
  grind [busRead_pending, testRead_pending]

theorem execLockedRegisterWrite_pending (off : Nat) (v : Word32) (s : State) (t' : State) (ht' : execLockedRegisterWrite off v s = .next t') : t'.pending = s.pending := by
  unfold execLockedRegisterWrite at *
  grind [answered_pending, lockedWrite_pending]

theorem execStagedRegisterWrite_pending (off : Nat) (v : Word32) (s : State) (t' : State) (ht' : execStagedRegisterWrite off v s = .next t') : t'.pending = s.pending := by
  unfold execStagedRegisterWrite at *
  grind [answered_pending, stagedWrite_pending]

theorem execLutDataWrite_pending (v : Fin 3) (w : Word32) (s : State) (t' : State) (ht' : execLutDataWrite v w s = .next t') : t'.pending = s.pending := by
  unfold execLutDataWrite at *
  grind [answered_pending, lutWrite_pending]

end Sys2Proof.Machine
end

