-- ==== Sys2Proof/Laws/QueueIntake.lean ====
section
/-! SUPPORT. That the operations of Machine/Intake.lean leave the queue of waiting commands alone. -/

namespace Sys2Proof.Machine

theorem execCsi2FrameStart_pending (n : SensorPort) (burst : Bool) (hdr : Ecc) (vc : Fin 4) (t : Nat) (s : State) (t' : State) (ht' : execCsi2FrameStart n burst hdr vc t s = .next t') : t'.pending = s.pending := by
  unfold execCsi2FrameStart at *
  grind [csiChannel_pending, csiHeader_pending, frameStart_pending, stamp_pending]

theorem execCsi2FrameEnd_pending (n : SensorPort) (burst : Bool) (hdr : Ecc) (vc : Fin 4) (s : State) (t' : State) (ht' : execCsi2FrameEnd n burst hdr vc s = .next t') : t'.pending = s.pending := by
  unfold execCsi2FrameEnd at *
  grind [csiChannel_pending, csiHeader_pending, endWin_pending]

theorem execCsi2LongPacket_pending (n : SensorPort) (burst : Bool) (hdr : Ecc) (vc : Fin 4) (dt : BitVec 6) (payload : List Byte) (crcOk : Bool) (s : State) (t' : State) (ht' : execCsi2LongPacket n burst hdr vc dt payload crcOk s = .next t') : t'.pending = s.pending := by
  unfold execCsi2LongPacket at *
  grind [bump_pending, csiChannel_pending, csiHeader_pending, takeRow_pending]

theorem execCsi2ShortPacketIgnored_pending (n : SensorPort) (burst : Bool) (hdr : Ecc) (vc : Fin 4) (s : State) (t' : State) (ht' : execCsi2ShortPacketIgnored n burst hdr vc s = .next t') : t'.pending = s.pending := by
  unfold execCsi2ShortPacketIgnored at *
  grind [csiChannel_pending, csiHeader_pending]

theorem execCsi2PacketDiscarded_pending (n : SensorPort) (burst : Bool) (hdr : Ecc) (s : State) (t' : State) (ht' : execCsi2PacketDiscarded n burst hdr s = .next t') : t'.pending = s.pending := by
  unfold execCsi2PacketDiscarded at *
  grind [bump_pending, csiHeader_pending]

theorem execFifoDrain_pending (n : SensorPort) (ecc : Ecc) (data : List Byte) (s : State) (t' : State) (ht' : execFifoDrain n ecc data s = .next t') : t'.pending = s.pending := by
  unfold execFifoDrain at *
  grind [fifoDrain_pending]

end Sys2Proof.Machine
end

