-- ==== Sys2Proof/Laws/QueueMoverCmd.lean ====
section
/-! SUPPORT. That the operations of Machine/MoverCmd.lean leave the queue of waiting commands alone. -/

namespace Sys2Proof.Machine

theorem chInstr_pending (s : State) (c op : Nat) (ok : List Byte → Bool) (f : List Byte → State → State) (h5 : ∀ (x0 : List Byte) (s : State), (f x0 s).pending = s.pending) : (chInstr s c op ok f).pending = s.pending := by
  unfold chInstr
  grind

theorem mvStart_pending (c : RingCmd) (s : State) : (mvStart c s).pending = s.pending := by
  unfold mvStart
  grind [chStart_pending, complete_pending]

theorem mvStop_pending (c : RingCmd) (s : State) : (mvStop c s).pending = s.pending := by
  unfold mvStop
  grind [complete_pending, modCh_pending, put_pending]

theorem poolAllocCmd_pending (c : RingCmd) (s : State) : (poolAllocCmd c s).pending = s.pending := by
  unfold poolAllocCmd
  grind [complete_pending, poolAlloc_pending]

theorem poolReleaseCmd_pending (c : RingCmd) (s : State) : (poolReleaseCmd c s).pending = s.pending := by
  unfold poolReleaseCmd
  grind [complete_pending, poolRelease_pending]

theorem execMvStart_pending (p : Part) (r : Ring) (id : Nat) (s : State) (t' : State) (ht' : execMvStart p r id s = .next t') : t'.pending = s.pending := by
  unfold execMvStart at *
  grind [finSettle_pending, mvStart_pending, withCmd_pending]

theorem execMvStop_pending (p : Part) (r : Ring) (id : Nat) (s : State) (t' : State) (ht' : execMvStop p r id s = .next t') : t'.pending = s.pending := by
  unfold execMvStop at *
  grind [finSettle_pending, mvStop_pending, withCmd_pending]

theorem execPoolAlloc_pending (p : Part) (r : Ring) (id : Nat) (s : State) (t' : State) (ht' : execPoolAlloc p r id s = .next t') : t'.pending = s.pending := by
  unfold execPoolAlloc at *
  grind [finSettle_pending, poolAllocCmd_pending, withCmd_pending]

theorem execPoolRelease_pending (p : Part) (r : Ring) (id : Nat) (s : State) (t' : State) (ht' : execPoolRelease p r id s = .next t') : t'.pending = s.pending := by
  unfold execPoolRelease at *
  grind [finSettle_pending, poolReleaseCmd_pending, withCmd_pending]

theorem execPoolAllocate_pending (ess : Bool) (holder : Option Part) (s : State) (t' : State) (ht' : execPoolAllocate ess holder s = .next t') : t'.pending = s.pending := by
  unfold execPoolAllocate at *
  grind [poolAlloc_pending]

theorem execMvMove_pending (c : Chan) (s : State) (t' : State) (ht' : execMvMove c s = .next t') : t'.pending = s.pending := by
  unfold execMvMove at *
  grind [chInstr_pending, finSettle_pending, mvDoMove_pending]

theorem execMvLoop_pending (c : Chan) (s : State) (t' : State) (ht' : execMvLoop c s = .next t') : t'.pending = s.pending := by
  unfold execMvLoop at *
  grind [chInstr_pending, finSettle_pending, mvDoLoop_pending]

theorem execMvWaitTick_pending (c : Chan) (t : Nat) (s : State) (t' : State) (ht' : execMvWaitTick c t s = .next t') : t'.pending = s.pending := by
  unfold execMvWaitTick at *
  grind [chInstr_pending, chWaiting_pending, stamp_pending]

theorem execMvWaitSsm_pending (c : Chan) (t : Nat) (s : State) (t' : State) (ht' : execMvWaitSsm c t s = .next t') : t'.pending = s.pending := by
  unfold execMvWaitSsm at *
  grind [chInstr_pending, finSettle_pending, mvDoWaitSsm_pending, stamp_pending]

theorem execMvWaitTimeout_pending (c : Chan) (t : Nat) (s : State) (t' : State) (ht' : execMvWaitTimeout c t s = .next t') : t'.pending = s.pending := by
  unfold execMvWaitTimeout at *
  grind [chFail_pending, chInstr_pending, finSettle_pending, stamp_pending]

theorem execMvSignal_pending (c : Chan) (s : State) (t' : State) (ht' : execMvSignal c s = .next t') : t'.pending = s.pending := by
  unfold execMvSignal at *
  grind [chInstr_pending, finSettle_pending, mvDoSignal_pending]

theorem execMoverBusError_pending (addr : Nat) (s : State) (t' : State) (ht' : execMoverBusError addr s = .next t') : t'.pending = s.pending := by
  unfold execMoverBusError at *
  grind [finSettle_pending, movBusError_pending]

theorem execMovRestart_pending (v : Word32) (s : State) (t' : State) (ht' : execMovRestart v s = .next t') : t'.pending = s.pending := by
  unfold execMovRestart at *
  grind [answered_pending]

theorem execMovRestartDone_pending (s : State) (t' : State) (ht' : execMovRestartDone s = .next t') : t'.pending = s.pending := by
  unfold execMovRestartDone at *
  grind [clrF_pending]

end Sys2Proof.Machine
end

