-- ==== Sys2Proof/Laws/QueueSeqAlu.lean ====
section
/-! SUPPORT. That the operations of Machine/SeqAlu.lean leave the queue of waiting commands alone. -/

namespace Sys2Proof.Machine

theorem aluRow_pending (s : State) (q : Nat) (ecc : Ecc) (rd ra rb fn cost : Nat) (f : Nat → Nat → Nat) : (aluRow s q ecc rd ra rb fn cost f).pending = s.pending := by
  unfold aluRow
  grind [seqRun_pending, seqWrite_pending]

theorem unRow_pending (s : State) (q : Nat) (ecc : Ecc) (rd ra fn : Nat) (f : Nat → Nat) : (unRow s q ecc rd ra fn f).pending = s.pending := by
  unfold unRow
  grind [seqRun_pending, seqWrite_pending]

theorem immRow_pending (s : State) (q : Nat) (ecc : Ecc) (op rd ra imm : Nat) (f : Nat → Nat → Nat) : (immRow s q ecc op rd ra imm f).pending = s.pending := by
  unfold immRow
  grind [seqRun_pending, seqWrite_pending]

theorem brRow_pending (s : State) (q : Nat) (ecc : Ecc) (op ra off : Nat) (c : Nat → Bool) : (brRow s q ecc op ra off c).pending = s.pending := by
  unfold brRow
  grind [charge_pending, seqGoto_pending, seqNext_pending, seqRun_pending]

theorem execAdd_pending (q : Seq) (ecc : Ecc) (rd ra rb : Fin 32) (s : State) (t' : State) (ht' : execAdd q ecc rd ra rb s = .next t') : t'.pending = s.pending := by
  unfold execAdd at *
  grind [aluRow_pending]

theorem execSub_pending (q : Seq) (ecc : Ecc) (rd ra rb : Fin 32) (s : State) (t' : State) (ht' : execSub q ecc rd ra rb s = .next t') : t'.pending = s.pending := by
  unfold execSub at *
  grind [aluRow_pending]

theorem execAnd_pending (q : Seq) (ecc : Ecc) (rd ra rb : Fin 32) (s : State) (t' : State) (ht' : execAnd q ecc rd ra rb s = .next t') : t'.pending = s.pending := by
  unfold execAnd at *
  grind [aluRow_pending]

theorem execOr_pending (q : Seq) (ecc : Ecc) (rd ra rb : Fin 32) (s : State) (t' : State) (ht' : execOr q ecc rd ra rb s = .next t') : t'.pending = s.pending := by
  unfold execOr at *
  grind [aluRow_pending]

theorem execXor_pending (q : Seq) (ecc : Ecc) (rd ra rb : Fin 32) (s : State) (t' : State) (ht' : execXor q ecc rd ra rb s = .next t') : t'.pending = s.pending := by
  unfold execXor at *
  grind [aluRow_pending]

theorem execShl_pending (q : Seq) (ecc : Ecc) (rd ra rb : Fin 32) (s : State) (t' : State) (ht' : execShl q ecc rd ra rb s = .next t') : t'.pending = s.pending := by
  unfold execShl at *
  grind [aluRow_pending]

theorem execShr_pending (q : Seq) (ecc : Ecc) (rd ra rb : Fin 32) (s : State) (t' : State) (ht' : execShr q ecc rd ra rb s = .next t') : t'.pending = s.pending := by
  unfold execShr at *
  grind [aluRow_pending]

theorem execSar_pending (q : Seq) (ecc : Ecc) (rd ra rb : Fin 32) (s : State) (t' : State) (ht' : execSar q ecc rd ra rb s = .next t') : t'.pending = s.pending := by
  unfold execSar at *
  grind [aluRow_pending]

theorem execSlt_pending (q : Seq) (ecc : Ecc) (rd ra rb : Fin 32) (s : State) (t' : State) (ht' : execSlt q ecc rd ra rb s = .next t') : t'.pending = s.pending := by
  unfold execSlt at *
  grind [aluRow_pending]

theorem execSltu_pending (q : Seq) (ecc : Ecc) (rd ra rb : Fin 32) (s : State) (t' : State) (ht' : execSltu q ecc rd ra rb s = .next t') : t'.pending = s.pending := by
  unfold execSltu at *
  grind [aluRow_pending]

theorem execMul_pending (q : Seq) (ecc : Ecc) (rd ra rb : Fin 32) (s : State) (t' : State) (ht' : execMul q ecc rd ra rb s = .next t') : t'.pending = s.pending := by
  unfold execMul at *
  grind [aluRow_pending]

theorem execMulhu_pending (q : Seq) (ecc : Ecc) (rd ra rb : Fin 32) (s : State) (t' : State) (ht' : execMulhu q ecc rd ra rb s = .next t') : t'.pending = s.pending := by
  unfold execMulhu at *
  grind [aluRow_pending]

theorem execMin_pending (q : Seq) (ecc : Ecc) (rd ra rb : Fin 32) (s : State) (t' : State) (ht' : execMin q ecc rd ra rb s = .next t') : t'.pending = s.pending := by
  unfold execMin at *
  grind [aluRow_pending]

theorem execMax_pending (q : Seq) (ecc : Ecc) (rd ra rb : Fin 32) (s : State) (t' : State) (ht' : execMax q ecc rd ra rb s = .next t') : t'.pending = s.pending := by
  unfold execMax at *
  grind [aluRow_pending]

theorem execMinu_pending (q : Seq) (ecc : Ecc) (rd ra rb : Fin 32) (s : State) (t' : State) (ht' : execMinu q ecc rd ra rb s = .next t') : t'.pending = s.pending := by
  unfold execMinu at *
  grind [aluRow_pending]

theorem execMaxu_pending (q : Seq) (ecc : Ecc) (rd ra rb : Fin 32) (s : State) (t' : State) (ht' : execMaxu q ecc rd ra rb s = .next t') : t'.pending = s.pending := by
  unfold execMaxu at *
  grind [aluRow_pending]

theorem execSextb_pending (q : Seq) (ecc : Ecc) (rd ra : Fin 32) (s : State) (t' : State) (ht' : execSextb q ecc rd ra s = .next t') : t'.pending = s.pending := by
  unfold execSextb at *
  grind [unRow_pending]

theorem execSexth_pending (q : Seq) (ecc : Ecc) (rd ra : Fin 32) (s : State) (t' : State) (ht' : execSexth q ecc rd ra s = .next t') : t'.pending = s.pending := by
  unfold execSexth at *
  grind [unRow_pending]

theorem execSextw_pending (q : Seq) (ecc : Ecc) (rd ra : Fin 32) (s : State) (t' : State) (ht' : execSextw q ecc rd ra s = .next t') : t'.pending = s.pending := by
  unfold execSextw at *
  grind [unRow_pending]

theorem execZextw_pending (q : Seq) (ecc : Ecc) (rd ra : Fin 32) (s : State) (t' : State) (ht' : execZextw q ecc rd ra s = .next t') : t'.pending = s.pending := by
  unfold execZextw at *
  grind [unRow_pending]

theorem execClz_pending (q : Seq) (ecc : Ecc) (rd ra : Fin 32) (s : State) (t' : State) (ht' : execClz q ecc rd ra s = .next t') : t'.pending = s.pending := by
  unfold execClz at *
  grind [unRow_pending]

theorem execJr_pending (q : Seq) (ecc : Ecc) (rd ra : Fin 32) (s : State) (t' : State) (ht' : execJr q ecc rd ra s = .next t') : t'.pending = s.pending := by
  unfold execJr at *
  grind [charge_pending, progFault_pending, seqGoto_pending, seqRun_pending, setGreg_pending]

theorem execAddi_pending (q : Seq) (ecc : Ecc) (rd ra : Fin 32) (imm : BitVec 16) (s : State) (t' : State) (ht' : execAddi q ecc rd ra imm s = .next t') : t'.pending = s.pending := by
  unfold execAddi at *
  grind [immRow_pending]

theorem execAndi_pending (q : Seq) (ecc : Ecc) (rd ra : Fin 32) (imm : BitVec 16) (s : State) (t' : State) (ht' : execAndi q ecc rd ra imm s = .next t') : t'.pending = s.pending := by
  unfold execAndi at *
  grind [immRow_pending]

theorem execOri_pending (q : Seq) (ecc : Ecc) (rd ra : Fin 32) (imm : BitVec 16) (s : State) (t' : State) (ht' : execOri q ecc rd ra imm s = .next t') : t'.pending = s.pending := by
  unfold execOri at *
  grind [immRow_pending]

theorem execXori_pending (q : Seq) (ecc : Ecc) (rd ra : Fin 32) (imm : BitVec 16) (s : State) (t' : State) (ht' : execXori q ecc rd ra imm s = .next t') : t'.pending = s.pending := by
  unfold execXori at *
  grind [immRow_pending]

theorem execSlti_pending (q : Seq) (ecc : Ecc) (rd ra : Fin 32) (imm : BitVec 16) (s : State) (t' : State) (ht' : execSlti q ecc rd ra imm s = .next t') : t'.pending = s.pending := by
  unfold execSlti at *
  grind [immRow_pending]

theorem execSltiu_pending (q : Seq) (ecc : Ecc) (rd ra : Fin 32) (imm : BitVec 16) (s : State) (t' : State) (ht' : execSltiu q ecc rd ra imm s = .next t') : t'.pending = s.pending := by
  unfold execSltiu at *
  grind [immRow_pending]

theorem execLui_pending (q : Seq) (ecc : Ecc) (rd : Fin 32) (imm : BitVec 16) (s : State) (t' : State) (ht' : execLui q ecc rd imm s = .next t') : t'.pending = s.pending := by
  unfold execLui at *
  grind [immRow_pending]

theorem execRds_pending (q : Seq) (ecc : Ecc) (rd : Fin 32) (reg : Fin 4) (t : Nat) (s : State) (t' : State) (ht' : execRds q ecc rd reg t s = .next t') : t'.pending = s.pending := by
  unfold execRds at *
  grind [seqRun_pending, seqWrite_pending, stamp_pending]

theorem execShli_pending (q : Seq) (ecc : Ecc) (rd ra : Fin 32) (sh : Fin 64) (s : State) (t' : State) (ht' : execShli q ecc rd ra sh s = .next t') : t'.pending = s.pending := by
  unfold execShli at *
  grind [immRow_pending]

theorem execShri_pending (q : Seq) (ecc : Ecc) (rd ra : Fin 32) (sh : Fin 64) (s : State) (t' : State) (ht' : execShri q ecc rd ra sh s = .next t') : t'.pending = s.pending := by
  unfold execShri at *
  grind [immRow_pending]

theorem execSari_pending (q : Seq) (ecc : Ecc) (rd ra : Fin 32) (sh : Fin 64) (s : State) (t' : State) (ht' : execSari q ecc rd ra sh s = .next t') : t'.pending = s.pending := by
  unfold execSari at *
  grind [immRow_pending]

theorem execBeqz_pending (q : Seq) (ecc : Ecc) (ra : Fin 32) (off : BitVec 21) (s : State) (t' : State) (ht' : execBeqz q ecc ra off s = .next t') : t'.pending = s.pending := by
  unfold execBeqz at *
  grind [brRow_pending]

theorem execBnez_pending (q : Seq) (ecc : Ecc) (ra : Fin 32) (off : BitVec 21) (s : State) (t' : State) (ht' : execBnez q ecc ra off s = .next t') : t'.pending = s.pending := by
  unfold execBnez at *
  grind [brRow_pending]

theorem execBltz_pending (q : Seq) (ecc : Ecc) (ra : Fin 32) (off : BitVec 21) (s : State) (t' : State) (ht' : execBltz q ecc ra off s = .next t') : t'.pending = s.pending := by
  unfold execBltz at *
  grind [brRow_pending]

theorem execBgez_pending (q : Seq) (ecc : Ecc) (ra : Fin 32) (off : BitVec 21) (s : State) (t' : State) (ht' : execBgez q ecc ra off s = .next t') : t'.pending = s.pending := by
  unfold execBgez at *
  grind [brRow_pending]

theorem execBgtz_pending (q : Seq) (ecc : Ecc) (ra : Fin 32) (off : BitVec 21) (s : State) (t' : State) (ht' : execBgtz q ecc ra off s = .next t') : t'.pending = s.pending := by
  unfold execBgtz at *
  grind [brRow_pending]

theorem execBlez_pending (q : Seq) (ecc : Ecc) (ra : Fin 32) (off : BitVec 21) (s : State) (t' : State) (ht' : execBlez q ecc ra off s = .next t') : t'.pending = s.pending := by
  unfold execBlez at *
  grind [brRow_pending]

theorem execJal_pending (q : Seq) (ecc : Ecc) (ra : Fin 32) (off : BitVec 21) (s : State) (t' : State) (ht' : execJal q ecc ra off s = .next t') : t'.pending = s.pending := by
  unfold execJal at *
  grind [charge_pending, seqGoto_pending, seqRun_pending, setGreg_pending]

theorem execHalt_pending (q : Seq) (ecc : Ecc) (imm : BitVec 16) (s : State) (t' : State) (ht' : execHalt q ecc imm s = .next t') : t'.pending = s.pending := by
  unfold execHalt at *
  grind [charge_pending, leave_pending, put_pending, raiseP_pending, seqRun_pending]

end Sys2Proof.Machine
end

