-- ==== Sys2Proof/Laws/QueueSeqMem.lean ====
section
/-! SUPPORT. That the operations of Machine/SeqMem.lean leave the queue of waiting commands alone. -/

namespace Sys2Proof.Machine

theorem atomicRow_pending (s : State) (q : Nat) (ecc : Ecc) (op rd ra rb : Nat) (dbl : Bool) (f : Nat → Nat → Nat → Option Nat) : (atomicRow s q ecc op rd ra rb dbl f).pending = s.pending := by
  unfold atomicRow
  grind [drainAll_pending, orFault_pending, seqRun_pending, seqWrite_pending, ssmWrite_pending]

theorem hostLoad_pending (s : State) (q p rd a n t : Nat) : (hostLoad s q p rd a n t).pending = s.pending := by
  unfold hostLoad
  grind [modPair_pending, settle_pending, startOp_pending]

theorem hostStore_pending (s : State) (q p a t : Nat) (bs : List Byte) : (hostStore s q p a t bs).pending = s.pending := by
  unfold hostStore
  grind [modPair_pending, settle_pending, startOp_pending]

theorem windowRow_pending (s : State) (q p a n : Nat) (store : Bool) (k : WinRef → State → State) (h7 : ∀ (x0 : WinRef) (s : State), (k x0 s).pending = s.pending) : (windowRow s q p a n store k).pending = s.pending := by
  unfold windowRow
  grind [orFault_pending]

theorem execStoreBufferDrain_pending (q : Seq) (s : State) (t' : State) (ht' : execStoreBufferDrain q s = .next t') : t'.pending = s.pending := by
  unfold execStoreBufferDrain at *
  grind [drainOne_pending]

theorem execLd_pending (q : Seq) (ecc : Ecc) (rd base : Fin 32) (sz : Fin 4) (off : BitVec 14) (s : State) (t' : State) (ht' : execLd q ecc rd base sz off s = .next t') : t'.pending = s.pending := by
  unfold execLd at *
  grind [orFault_pending, seqRun_pending, seqWrite_pending, ssmLoad_pending]

theorem execSt_pending (q : Seq) (ecc : Ecc) (rs base : Fin 32) (sz : Fin 4) (off : BitVec 14) (s : State) (t' : State) (ht' : execSt q ecc rs base sz off s = .next t') : t'.pending = s.pending := by
  unfold execSt at *
  grind [orFault_pending, seqNext_pending, seqRun_pending, ssmStore_pending]

theorem execLdw_pending (q : Seq) (ecc : Ecc) (rd base : Fin 32) (sz : Fin 4) (off : BitVec 14) (ue : Bool) (t : Nat) (s : State) (t' : State) (ht' : execLdw q ecc rd base sz off ue t s = .next t') : t'.pending = s.pending := by
  unfold execLdw at *
  grind [hostLoad_pending, orFault_pending, seqRun_pending, seqWrite_pending, stallCycles_pending, stamp_pending, windowRow_pending]

theorem execStw_pending (q : Seq) (ecc : Ecc) (rs base : Fin 32) (sz : Fin 4) (off : BitVec 14) (t : Nat) (s : State) (t' : State) (ht' : execStw q ecc rs base sz off t s = .next t') : t'.pending = s.pending := by
  unfold execStw at *
  grind [fsWrite_pending, hostStore_pending, seqNext_pending, seqRun_pending, stallCycles_pending, stamp_pending, windowRow_pending]

theorem execAmoadd_pending (q : Seq) (ecc : Ecc) (rd ra rb : Fin 32) (dbl : Bool) (s : State) (t' : State) (ht' : execAmoadd q ecc rd ra rb dbl s = .next t') : t'.pending = s.pending := by
  unfold execAmoadd at *
  grind [atomicRow_pending]

theorem execAmoswap_pending (q : Seq) (ecc : Ecc) (rd ra rb : Fin 32) (dbl : Bool) (s : State) (t' : State) (ht' : execAmoswap q ecc rd ra rb dbl s = .next t') : t'.pending = s.pending := by
  unfold execAmoswap at *
  grind [atomicRow_pending]

theorem execCas_pending (q : Seq) (ecc : Ecc) (rd ra rb : Fin 32) (dbl : Bool) (s : State) (t' : State) (ht' : execCas q ecc rd ra rb dbl s = .next t') : t'.pending = s.pending := by
  unfold execCas at *
  grind [atomicRow_pending]

theorem execFence_pending (q : Seq) (ecc : Ecc) (s : State) (t' : State) (ht' : execFence q ecc s = .next t') : t'.pending = s.pending := by
  unfold execFence at *
  grind [drainAll_pending, seqNext_pending, seqRun_pending, stallCycles_pending]

end Sys2Proof.Machine
end

