-- ==== Sys2Proof/Laws/QueueStrandExec.lean ====
section
/-! SUPPORT. That the operations of Machine/StrandExec.lean leave the queue of waiting commands alone. -/

namespace Sys2Proof.Machine

theorem sramCe_pending (s : State) (n k : Nat) : (sramCe s n k).pending = s.pending := by
  unfold sramCe
  grind [bumpBy_pending, fault_pending]

theorem execJobStart_pending (n : Strand) (t : Nat) (s : State) (t' : State) (ht' : execJobStart n t s = .next t') : t'.pending = s.pending := by
  unfold execJobStart at *
  grind [finSettle_pending, stamp_pending, startJob_pending]

theorem execEncRow_pending (n : Strand) (hits : List (Nat × Nat × Nat × Nat)) (upset : List (Nat × Byte)) (ce : Nat) (s : State) (t' : State) (ht' : execEncRow n hits upset ce s = .next t') : t'.pending = s.pending := by
  unfold execEncRow at *
  grind [encRow_pending, finSettle_pending, sramCe_pending]

theorem execEchoCheckDone_pending (x : StrandRun) (s : State) (t' : State) (ht' : execEchoCheckDone x s = .next t') : t'.pending = s.pending := by
  unfold execEchoCheckDone at *
  grind [echoDone_pending, finSettle_pending, sramCe_pending]

theorem execDecRow_pending (x : StrandRun) (s : State) (t' : State) (ht' : execDecRow x s = .next t') : t'.pending = s.pending := by
  unfold execDecRow at *
  grind [decRow_pending, finSettle_pending, sramCe_pending]

theorem execRowCommit_pending (n : Strand) (writes : Nat) (waited : Timed Nat) (s : State) (t' : State) (ht' : execRowCommit n writes waited s = .next t') : t'.pending = s.pending := by
  unfold execRowCommit at *
  grind [finSettle_pending, rowCommit_pending, stamp_pending]

theorem execEchoJob_pending (x : StrandRun) (s : State) (t' : State) (ht' : execEchoJob x s = .next t') : t'.pending = s.pending := by
  unfold execEchoJob at *
  grind [echoJob_pending, finSettle_pending, sramCe_pending]

theorem execLoadctx_pending (n : Strand) (s : State) (t' : State) (ht' : execLoadctx n s = .next t') : t'.pending = s.pending := by
  unfold execLoadctx at *
  grind [finSettle_pending, loadCtx_pending]

theorem execSavectx_pending (n : Strand) (s : State) (t' : State) (ht' : execSavectx n s = .next t') : t'.pending = s.pending := by
  unfold execSavectx at *
  grind [finSettle_pending, saveCtx_pending]

theorem uStep_pending (n : Nat) (ecc : Ecc) (w : MicroWord) (eng : Bool) (op : MicroWord → Bool) (s : State) (t' : State) (ht' : uStep n ecc w eng op s = .next t') : t'.pending = s.pending := by
  unfold uStep at *
  grind [bump_pending, fault_pending, finSettle_pending, storeUe_pending, uIllegal_pending, uWord_pending]

theorem execUAdd_pending (n : Strand) (ecc : Ecc) (w : MicroWord) (eng : Bool) (s : State) (t' : State) (ht' : execUAdd n ecc w eng s = .next t') : t'.pending = s.pending := by
  unfold execUAdd at *
  grind [uStep_pending]

theorem execUSub_pending (n : Strand) (ecc : Ecc) (w : MicroWord) (eng : Bool) (s : State) (t' : State) (ht' : execUSub n ecc w eng s = .next t') : t'.pending = s.pending := by
  unfold execUSub at *
  grind [uStep_pending]

theorem execUAnd_pending (n : Strand) (ecc : Ecc) (w : MicroWord) (eng : Bool) (s : State) (t' : State) (ht' : execUAnd n ecc w eng s = .next t') : t'.pending = s.pending := by
  unfold execUAnd at *
  grind [uStep_pending]

theorem execUOr_pending (n : Strand) (ecc : Ecc) (w : MicroWord) (eng : Bool) (s : State) (t' : State) (ht' : execUOr n ecc w eng s = .next t') : t'.pending = s.pending := by
  unfold execUOr at *
  grind [uStep_pending]

theorem execUXor_pending (n : Strand) (ecc : Ecc) (w : MicroWord) (eng : Bool) (s : State) (t' : State) (ht' : execUXor n ecc w eng s = .next t') : t'.pending = s.pending := by
  unfold execUXor at *
  grind [uStep_pending]

theorem execUShl_pending (n : Strand) (ecc : Ecc) (w : MicroWord) (eng : Bool) (s : State) (t' : State) (ht' : execUShl n ecc w eng s = .next t') : t'.pending = s.pending := by
  unfold execUShl at *
  grind [uStep_pending]

theorem execUShr_pending (n : Strand) (ecc : Ecc) (w : MicroWord) (eng : Bool) (s : State) (t' : State) (ht' : execUShr n ecc w eng s = .next t') : t'.pending = s.pending := by
  unfold execUShr at *
  grind [uStep_pending]

theorem execUSar_pending (n : Strand) (ecc : Ecc) (w : MicroWord) (eng : Bool) (s : State) (t' : State) (ht' : execUSar n ecc w eng s = .next t') : t'.pending = s.pending := by
  unfold execUSar at *
  grind [uStep_pending]

theorem execUMul_pending (n : Strand) (ecc : Ecc) (w : MicroWord) (eng : Bool) (s : State) (t' : State) (ht' : execUMul n ecc w eng s = .next t') : t'.pending = s.pending := by
  unfold execUMul at *
  grind [uStep_pending]

theorem execUMin_pending (n : Strand) (ecc : Ecc) (w : MicroWord) (eng : Bool) (s : State) (t' : State) (ht' : execUMin n ecc w eng s = .next t') : t'.pending = s.pending := by
  unfold execUMin at *
  grind [uStep_pending]

theorem execUMax_pending (n : Strand) (ecc : Ecc) (w : MicroWord) (eng : Bool) (s : State) (t' : State) (ht' : execUMax n ecc w eng s = .next t') : t'.pending = s.pending := by
  unfold execUMax at *
  grind [uStep_pending]

theorem execULi_pending (n : Strand) (ecc : Ecc) (w : MicroWord) (eng : Bool) (s : State) (t' : State) (ht' : execULi n ecc w eng s = .next t') : t'.pending = s.pending := by
  unfold execULi at *
  grind [uStep_pending]

theorem execULui_pending (n : Strand) (ecc : Ecc) (w : MicroWord) (eng : Bool) (s : State) (t' : State) (ht' : execULui n ecc w eng s = .next t') : t'.pending = s.pending := by
  unfold execULui at *
  grind [uStep_pending]

theorem execUAddi_pending (n : Strand) (ecc : Ecc) (w : MicroWord) (eng : Bool) (s : State) (t' : State) (ht' : execUAddi n ecc w eng s = .next t') : t'.pending = s.pending := by
  unfold execUAddi at *
  grind [uStep_pending]

theorem execUCmp_pending (n : Strand) (ecc : Ecc) (w : MicroWord) (eng : Bool) (s : State) (t' : State) (ht' : execUCmp n ecc w eng s = .next t') : t'.pending = s.pending := by
  unfold execUCmp at *
  grind [uStep_pending]

theorem execULd_pending (n : Strand) (ecc : Ecc) (w : MicroWord) (eng : Bool) (s : State) (t' : State) (ht' : execULd n ecc w eng s = .next t') : t'.pending = s.pending := by
  unfold execULd at *
  grind [uStep_pending]

theorem execUSt_pending (n : Strand) (ecc : Ecc) (w : MicroWord) (eng : Bool) (s : State) (t' : State) (ht' : execUSt n ecc w eng s = .next t') : t'.pending = s.pending := by
  unfold execUSt at *
  grind [uStep_pending]

theorem execULdh_pending (n : Strand) (ecc : Ecc) (w : MicroWord) (eng : Bool) (s : State) (t' : State) (ht' : execULdh n ecc w eng s = .next t') : t'.pending = s.pending := by
  unfold execULdh at *
  grind [uStep_pending]

theorem execUSth_pending (n : Strand) (ecc : Ecc) (w : MicroWord) (eng : Bool) (s : State) (t' : State) (ht' : execUSth n ecc w eng s = .next t') : t'.pending = s.pending := by
  unfold execUSth at *
  grind [uStep_pending]

theorem execUBranch_pending (n : Strand) (ecc : Ecc) (w : MicroWord) (eng : Bool) (s : State) (t' : State) (ht' : execUBranch n ecc w eng s = .next t') : t'.pending = s.pending := by
  unfold execUBranch at *
  grind [uStep_pending]

theorem execUWaitCond_pending (n : Strand) (ecc : Ecc) (w : MicroWord) (eng : Bool) (s : State) (t' : State) (ht' : execUWaitCond n ecc w eng s = .next t') : t'.pending = s.pending := by
  unfold execUWaitCond at *
  grind [uStep_pending]

theorem execUDispatch_pending (n : Strand) (ecc : Ecc) (w : MicroWord) (eng : Bool) (s : State) (t' : State) (ht' : execUDispatch n ecc w eng s = .next t') : t'.pending = s.pending := by
  unfold execUDispatch at *
  grind [uStep_pending]

theorem execUCall_pending (n : Strand) (ecc : Ecc) (w : MicroWord) (eng : Bool) (s : State) (t' : State) (ht' : execUCall n ecc w eng s = .next t') : t'.pending = s.pending := by
  unfold execUCall at *
  grind [uStep_pending]

theorem execUReturn_pending (n : Strand) (ecc : Ecc) (w : MicroWord) (eng : Bool) (s : State) (t' : State) (ht' : execUReturn n ecc w eng s = .next t') : t'.pending = s.pending := by
  unfold execUReturn at *
  grind [uStep_pending]

theorem execUCommit_pending (n : Strand) (ecc : Ecc) (w : MicroWord) (eng : Bool) (s : State) (t' : State) (ht' : execUCommit n ecc w eng s = .next t') : t'.pending = s.pending := by
  unfold execUCommit at *
  grind [uStep_pending]

theorem execControlStoreUe_pending (n : Strand) (s : State) (t' : State) (ht' : execControlStoreUe n s = .next t') : t'.pending = s.pending := by
  unfold execControlStoreUe at *
  grind [finSettle_pending, storeUe_pending]

theorem execCustom_pending (n : Strand) (t : Nat) (s : State) (t' : State) (ht' : execCustom n t s = .next t') : t'.pending = s.pending := by
  unfold execCustom at *
  grind [finSettle_pending, stamp_pending, startCustom_pending]

theorem execCustomTimeout_pending (n : Strand) (t : Nat) (s : State) (t' : State) (ht' : execCustomTimeout n t s = .next t') : t'.pending = s.pending := by
  unfold execCustomTimeout at *
  grind [customFault_pending, finSettle_pending, stamp_pending]

theorem execNoCommitTimeout_pending (n : Strand) (waited t : Nat) (s : State) (t' : State) (ht' : execNoCommitTimeout n waited t s = .next t') : t'.pending = s.pending := by
  unfold execNoCommitTimeout at *
  grind [finSettle_pending, noCommit_pending]

theorem execStrandSramUe_pending (n : Strand) (s : State) (t' : State) (ht' : execStrandSramUe n s = .next t') : t'.pending = s.pending := by
  unfold execStrandSramUe at *
  grind [finSettle_pending, sramUe_pending]

theorem execSplice_pending (unack : Bool) (s : State) (t' : State) (ht' : execSplice unack s = .next t') : t'.pending = s.pending := by
  unfold execSplice at *
  grind [finSettle_pending, splice_pending]

theorem execSpareRestore_pending (n : Strand) (t : Nat) (s : State) (t' : State) (ht' : execSpareRestore n t s = .next t') : t'.pending = s.pending := by
  unfold execSpareRestore at *
  grind [finSettle_pending, restoreLane_pending, stamp_pending]

theorem execSelftest_pending (n : Strand) (s : State) (t' : State) (ht' : execSelftest n s = .next t') : t'.pending = s.pending := by
  unfold execSelftest at *
  grind [finSettle_pending, startTest_pending]

theorem execSelftestDone_pending (n : Strand) (part : Nat) (sig : Word32) (s : State) (t' : State) (ht' : execSelftestDone n part sig s = .next t') : t'.pending = s.pending := by
  unfold execSelftestDone at *
  grind [finSettle_pending, testDone_pending]

theorem execSpareSelftestTimer_pending (t : Nat) (s : State) (t' : State) (ht' : execSpareSelftestTimer t s = .next t') : t'.pending = s.pending := by
  unfold execSpareSelftestTimer at *
  grind [finSettle_pending, spareTests_pending]

theorem execStrReset_pending (n : Strand) (v : Word32) (s : State) (t' : State) (ht' : execStrReset n v s = .next t') : t'.pending = s.pending := by
  unfold execStrReset at *
  grind [answered_pending, finSettle_pending, strReset_pending]

theorem execStrQuarSet_pending (v : Word32) (s : State) (t' : State) (ht' : execStrQuarSet v s = .next t') : t'.pending = s.pending := by
  unfold execStrQuarSet at *
  grind [answered_pending, finSettle_pending, strQuarSet_pending]

theorem execStrReadmit_pending (v : Word32) (s : State) (t' : State) (ht' : execStrReadmit v s = .next t') : t'.pending = s.pending := by
  unfold execStrReadmit at *
  grind [answered_pending, finSettle_pending, strReadmit_pending]

theorem execStrTestReq_pending (v : Word32) (s : State) (t' : State) (ht' : execStrTestReq v s = .next t') : t'.pending = s.pending := by
  unfold execStrTestReq at *
  grind [answered_pending, finSettle_pending, strTestReq_pending]

theorem execStrPoolWrite_pending (v : Word32) (s : State) (t' : State) (ht' : execStrPoolWrite v s = .next t') : t'.pending = s.pending := by
  unfold execStrPoolWrite at *
  grind [answered_pending, finSettle_pending, strPoolWrite_pending]

theorem execOsData2Write_pending (v : Word32) (s : State) (t' : State) (ht' : execOsData2Write v s = .next t') : t'.pending = s.pending := by
  unfold execOsData2Write at *
  grind [answered_pending, finSettle_pending, osData2_pending]

end Sys2Proof.Machine
end

