-- ==== Sys2Proof/Laws/State.lean ====
section
/-! SUPPORT. What each elementary update leaves of State, field by field, so that no proof unfolds a record update. -/

namespace Sys2Proof.Machine

/-! ## put -/

@[simp] theorem put_clk (s : State) (f : Fld) (v : Nat) : (put s f v).clk = s.clk := rfl
@[simp] theorem put_free (s : State) (f : Fld) (v : Nat) : (put s f v).free = s.free := rfl
@[simp] theorem put_rdata (s : State) (f : Fld) (v : Nat) : (put s f v).rdata = s.rdata := rfl
@[simp] theorem put_sent (s : State) (f : Fld) (v : Nat) : (put s f v).sent = s.sent := rfl
@[simp] theorem put_fs (s : State) (f : Fld) (v : Nat) : (put s f v).fs = s.fs := rfl
@[simp] theorem put_ssm (s : State) (f : Fld) (v : Nat) : (put s f v).ssm = s.ssm := rfl
@[simp] theorem put_tick (s : State) (f : Fld) (v : Nat) : (put s f v).tick = s.tick := rfl
@[simp] theorem put_hub (s : State) (f : Fld) (v : Nat) : (put s f v).hub = s.hub := rfl
@[simp] theorem put_host (s : State) (f : Fld) (v : Nat) : (put s f v).host = s.host := rfl
@[simp] theorem put_pool (s : State) (f : Fld) (v : Nat) : (put s f v).pool = s.pool := rfl
@[simp] theorem put_mov (s : State) (f : Fld) (v : Nat) : (put s f v).mov = s.mov := rfl
@[simp] theorem put_movRestart (s : State) (f : Fld) (v : Nat) : (put s f v).movRestart = s.movRestart := rfl
@[simp] theorem put_dram (s : State) (f : Fld) (v : Nat) : (put s f v).dram = s.dram := rfl
@[simp] theorem put_pins (s : State) (f : Fld) (v : Nat) : (put s f v).pins = s.pins := rfl
@[simp] theorem put_strs (s : State) (f : Fld) (v : Nat) : (put s f v).strs = s.strs := rfl
@[simp] theorem put_seqs (s : State) (f : Fld) (v : Nat) : (put s f v).seqs = s.seqs := rfl
@[simp] theorem put_mags (s : State) (f : Fld) (v : Nat) : (put s f v).mags = s.mags := rfl
@[simp] theorem put_sbd (s : State) (f : Fld) (v : Nat) : (put s f v).sbd = s.sbd := rfl
@[simp] theorem put_intake (s : State) (f : Fld) (v : Nat) : (put s f v).intake = s.intake := rfl
@[simp] theorem put_sup (s : State) (f : Fld) (v : Nat) : (put s f v).sup = s.sup := rfl
@[simp] theorem put_areas (s : State) (f : Fld) (v : Nat) : (put s f v).areas = s.areas := rfl
@[simp] theorem put_queue (s : State) (f : Fld) (v : Nat) : (put s f v).pending = s.pending := rfl

/-! ## stamp -/

@[simp] theorem stamp_regs (s : State) (t : Nat) : (stamp s t).regs = s.regs := rfl
@[simp] theorem stamp_free (s : State) (t : Nat) : (stamp s t).free = s.free := rfl
@[simp] theorem stamp_rdata (s : State) (t : Nat) : (stamp s t).rdata = s.rdata := rfl
@[simp] theorem stamp_sent (s : State) (t : Nat) : (stamp s t).sent = s.sent := rfl
@[simp] theorem stamp_fs (s : State) (t : Nat) : (stamp s t).fs = s.fs := rfl
@[simp] theorem stamp_ssm (s : State) (t : Nat) : (stamp s t).ssm = s.ssm := rfl
@[simp] theorem stamp_tick (s : State) (t : Nat) : (stamp s t).tick = s.tick := rfl
@[simp] theorem stamp_hub (s : State) (t : Nat) : (stamp s t).hub = s.hub := rfl
@[simp] theorem stamp_host (s : State) (t : Nat) : (stamp s t).host = s.host := rfl
@[simp] theorem stamp_pool (s : State) (t : Nat) : (stamp s t).pool = s.pool := rfl
@[simp] theorem stamp_mov (s : State) (t : Nat) : (stamp s t).mov = s.mov := rfl
@[simp] theorem stamp_movRestart (s : State) (t : Nat) : (stamp s t).movRestart = s.movRestart := rfl
@[simp] theorem stamp_dram (s : State) (t : Nat) : (stamp s t).dram = s.dram := rfl
@[simp] theorem stamp_pins (s : State) (t : Nat) : (stamp s t).pins = s.pins := rfl
@[simp] theorem stamp_strs (s : State) (t : Nat) : (stamp s t).strs = s.strs := rfl
@[simp] theorem stamp_seqs (s : State) (t : Nat) : (stamp s t).seqs = s.seqs := rfl
@[simp] theorem stamp_mags (s : State) (t : Nat) : (stamp s t).mags = s.mags := rfl
@[simp] theorem stamp_sbd (s : State) (t : Nat) : (stamp s t).sbd = s.sbd := rfl
@[simp] theorem stamp_intake (s : State) (t : Nat) : (stamp s t).intake = s.intake := rfl
@[simp] theorem stamp_sup (s : State) (t : Nat) : (stamp s t).sup = s.sup := rfl
@[simp] theorem stamp_areas (s : State) (t : Nat) : (stamp s t).areas = s.areas := rfl
@[simp] theorem stamp_queue (s : State) (t : Nat) : (stamp s t).pending = s.pending := rfl
@[simp] theorem stamp_get (s : State) (t : Nat) (x : Fld) : get (stamp s t) x = get s x := rfl

/-! ## useFree -/

@[simp] theorem useFree_regs (s : State) : (useFree s).regs = s.regs := rfl
@[simp] theorem useFree_clk (s : State) : (useFree s).clk = s.clk := rfl
@[simp] theorem useFree_rdata (s : State) : (useFree s).rdata = s.rdata := rfl
@[simp] theorem useFree_sent (s : State) : (useFree s).sent = s.sent := rfl
@[simp] theorem useFree_fs (s : State) : (useFree s).fs = s.fs := rfl
@[simp] theorem useFree_ssm (s : State) : (useFree s).ssm = s.ssm := rfl
@[simp] theorem useFree_tick (s : State) : (useFree s).tick = s.tick := rfl
@[simp] theorem useFree_hub (s : State) : (useFree s).hub = s.hub := rfl
@[simp] theorem useFree_host (s : State) : (useFree s).host = s.host := rfl
@[simp] theorem useFree_pool (s : State) : (useFree s).pool = s.pool := rfl
@[simp] theorem useFree_mov (s : State) : (useFree s).mov = s.mov := rfl
@[simp] theorem useFree_movRestart (s : State) : (useFree s).movRestart = s.movRestart := rfl
@[simp] theorem useFree_dram (s : State) : (useFree s).dram = s.dram := rfl
@[simp] theorem useFree_pins (s : State) : (useFree s).pins = s.pins := rfl
@[simp] theorem useFree_strs (s : State) : (useFree s).strs = s.strs := rfl
@[simp] theorem useFree_seqs (s : State) : (useFree s).seqs = s.seqs := rfl
@[simp] theorem useFree_mags (s : State) : (useFree s).mags = s.mags := rfl
@[simp] theorem useFree_sbd (s : State) : (useFree s).sbd = s.sbd := rfl
@[simp] theorem useFree_intake (s : State) : (useFree s).intake = s.intake := rfl
@[simp] theorem useFree_sup (s : State) : (useFree s).sup = s.sup := rfl
@[simp] theorem useFree_areas (s : State) : (useFree s).areas = s.areas := rfl
@[simp] theorem useFree_queue (s : State) : (useFree s).pending = s.pending := rfl
@[simp] theorem useFree_get (s : State) (x : Fld) : get (useFree s) x = get s x := rfl

/-! ## modCh -/

@[simp] theorem modCh_regs (s : State) (c : Nat) (f : MovCh → MovCh) : (modCh s c f).regs = s.regs := rfl
@[simp] theorem modCh_clk (s : State) (c : Nat) (f : MovCh → MovCh) : (modCh s c f).clk = s.clk := rfl
@[simp] theorem modCh_free (s : State) (c : Nat) (f : MovCh → MovCh) : (modCh s c f).free = s.free := rfl
@[simp] theorem modCh_rdata (s : State) (c : Nat) (f : MovCh → MovCh) : (modCh s c f).rdata = s.rdata := rfl
@[simp] theorem modCh_sent (s : State) (c : Nat) (f : MovCh → MovCh) : (modCh s c f).sent = s.sent := rfl
@[simp] theorem modCh_fs (s : State) (c : Nat) (f : MovCh → MovCh) : (modCh s c f).fs = s.fs := rfl
@[simp] theorem modCh_ssm (s : State) (c : Nat) (f : MovCh → MovCh) : (modCh s c f).ssm = s.ssm := rfl
@[simp] theorem modCh_tick (s : State) (c : Nat) (f : MovCh → MovCh) : (modCh s c f).tick = s.tick := rfl
@[simp] theorem modCh_hub (s : State) (c : Nat) (f : MovCh → MovCh) : (modCh s c f).hub = s.hub := rfl
@[simp] theorem modCh_host (s : State) (c : Nat) (f : MovCh → MovCh) : (modCh s c f).host = s.host := rfl
@[simp] theorem modCh_pool (s : State) (c : Nat) (f : MovCh → MovCh) : (modCh s c f).pool = s.pool := rfl
@[simp] theorem modCh_movRestart (s : State) (c : Nat) (f : MovCh → MovCh) : (modCh s c f).movRestart = s.movRestart := rfl
@[simp] theorem modCh_dram (s : State) (c : Nat) (f : MovCh → MovCh) : (modCh s c f).dram = s.dram := rfl
@[simp] theorem modCh_pins (s : State) (c : Nat) (f : MovCh → MovCh) : (modCh s c f).pins = s.pins := rfl
@[simp] theorem modCh_strs (s : State) (c : Nat) (f : MovCh → MovCh) : (modCh s c f).strs = s.strs := rfl
@[simp] theorem modCh_seqs (s : State) (c : Nat) (f : MovCh → MovCh) : (modCh s c f).seqs = s.seqs := rfl
@[simp] theorem modCh_mags (s : State) (c : Nat) (f : MovCh → MovCh) : (modCh s c f).mags = s.mags := rfl
@[simp] theorem modCh_sbd (s : State) (c : Nat) (f : MovCh → MovCh) : (modCh s c f).sbd = s.sbd := rfl
@[simp] theorem modCh_intake (s : State) (c : Nat) (f : MovCh → MovCh) : (modCh s c f).intake = s.intake := rfl
@[simp] theorem modCh_sup (s : State) (c : Nat) (f : MovCh → MovCh) : (modCh s c f).sup = s.sup := rfl
@[simp] theorem modCh_areas (s : State) (c : Nat) (f : MovCh → MovCh) : (modCh s c f).areas = s.areas := rfl
@[simp] theorem modCh_queue (s : State) (c : Nat) (f : MovCh → MovCh) : (modCh s c f).pending = s.pending := rfl
@[simp] theorem modCh_get (s : State) (c : Nat) (f : MovCh → MovCh) (x : Fld) : get (modCh s c f) x = get s x := rfl

/-! ## modLine -/

@[simp] theorem modLine_regs (s : State) (n : Nat) (f : LineSt → LineSt) : (modLine s n f).regs = s.regs := rfl
@[simp] theorem modLine_clk (s : State) (n : Nat) (f : LineSt → LineSt) : (modLine s n f).clk = s.clk := rfl
@[simp] theorem modLine_free (s : State) (n : Nat) (f : LineSt → LineSt) : (modLine s n f).free = s.free := rfl
@[simp] theorem modLine_rdata (s : State) (n : Nat) (f : LineSt → LineSt) : (modLine s n f).rdata = s.rdata := rfl
@[simp] theorem modLine_sent (s : State) (n : Nat) (f : LineSt → LineSt) : (modLine s n f).sent = s.sent := rfl
@[simp] theorem modLine_fs (s : State) (n : Nat) (f : LineSt → LineSt) : (modLine s n f).fs = s.fs := rfl
@[simp] theorem modLine_ssm (s : State) (n : Nat) (f : LineSt → LineSt) : (modLine s n f).ssm = s.ssm := rfl
@[simp] theorem modLine_tick (s : State) (n : Nat) (f : LineSt → LineSt) : (modLine s n f).tick = s.tick := rfl
@[simp] theorem modLine_hub (s : State) (n : Nat) (f : LineSt → LineSt) : (modLine s n f).hub = s.hub := rfl
@[simp] theorem modLine_host (s : State) (n : Nat) (f : LineSt → LineSt) : (modLine s n f).host = s.host := rfl
@[simp] theorem modLine_pool (s : State) (n : Nat) (f : LineSt → LineSt) : (modLine s n f).pool = s.pool := rfl
@[simp] theorem modLine_mov (s : State) (n : Nat) (f : LineSt → LineSt) : (modLine s n f).mov = s.mov := rfl
@[simp] theorem modLine_movRestart (s : State) (n : Nat) (f : LineSt → LineSt) : (modLine s n f).movRestart = s.movRestart := rfl
@[simp] theorem modLine_dram (s : State) (n : Nat) (f : LineSt → LineSt) : (modLine s n f).dram = s.dram := rfl
@[simp] theorem modLine_strs (s : State) (n : Nat) (f : LineSt → LineSt) : (modLine s n f).strs = s.strs := rfl
@[simp] theorem modLine_seqs (s : State) (n : Nat) (f : LineSt → LineSt) : (modLine s n f).seqs = s.seqs := rfl
@[simp] theorem modLine_mags (s : State) (n : Nat) (f : LineSt → LineSt) : (modLine s n f).mags = s.mags := rfl
@[simp] theorem modLine_sbd (s : State) (n : Nat) (f : LineSt → LineSt) : (modLine s n f).sbd = s.sbd := rfl
@[simp] theorem modLine_intake (s : State) (n : Nat) (f : LineSt → LineSt) : (modLine s n f).intake = s.intake := rfl
@[simp] theorem modLine_sup (s : State) (n : Nat) (f : LineSt → LineSt) : (modLine s n f).sup = s.sup := rfl
@[simp] theorem modLine_areas (s : State) (n : Nat) (f : LineSt → LineSt) : (modLine s n f).areas = s.areas := rfl
@[simp] theorem modLine_queue (s : State) (n : Nat) (f : LineSt → LineSt) : (modLine s n f).pending = s.pending := rfl
@[simp] theorem modLine_get (s : State) (n : Nat) (f : LineSt → LineSt) (x : Fld) : get (modLine s n f) x = get s x := rfl

/-! ## modLtc -/

@[simp] theorem modLtc_regs (s : State) (f : Ltc → Ltc) : (modLtc s f).regs = s.regs := rfl
@[simp] theorem modLtc_clk (s : State) (f : Ltc → Ltc) : (modLtc s f).clk = s.clk := rfl
@[simp] theorem modLtc_free (s : State) (f : Ltc → Ltc) : (modLtc s f).free = s.free := rfl
@[simp] theorem modLtc_rdata (s : State) (f : Ltc → Ltc) : (modLtc s f).rdata = s.rdata := rfl
@[simp] theorem modLtc_sent (s : State) (f : Ltc → Ltc) : (modLtc s f).sent = s.sent := rfl
@[simp] theorem modLtc_fs (s : State) (f : Ltc → Ltc) : (modLtc s f).fs = s.fs := rfl
@[simp] theorem modLtc_ssm (s : State) (f : Ltc → Ltc) : (modLtc s f).ssm = s.ssm := rfl
@[simp] theorem modLtc_tick (s : State) (f : Ltc → Ltc) : (modLtc s f).tick = s.tick := rfl
@[simp] theorem modLtc_hub (s : State) (f : Ltc → Ltc) : (modLtc s f).hub = s.hub := rfl
@[simp] theorem modLtc_host (s : State) (f : Ltc → Ltc) : (modLtc s f).host = s.host := rfl
@[simp] theorem modLtc_pool (s : State) (f : Ltc → Ltc) : (modLtc s f).pool = s.pool := rfl
@[simp] theorem modLtc_mov (s : State) (f : Ltc → Ltc) : (modLtc s f).mov = s.mov := rfl
@[simp] theorem modLtc_movRestart (s : State) (f : Ltc → Ltc) : (modLtc s f).movRestart = s.movRestart := rfl
@[simp] theorem modLtc_dram (s : State) (f : Ltc → Ltc) : (modLtc s f).dram = s.dram := rfl
@[simp] theorem modLtc_strs (s : State) (f : Ltc → Ltc) : (modLtc s f).strs = s.strs := rfl
@[simp] theorem modLtc_seqs (s : State) (f : Ltc → Ltc) : (modLtc s f).seqs = s.seqs := rfl
@[simp] theorem modLtc_mags (s : State) (f : Ltc → Ltc) : (modLtc s f).mags = s.mags := rfl
@[simp] theorem modLtc_sbd (s : State) (f : Ltc → Ltc) : (modLtc s f).sbd = s.sbd := rfl
@[simp] theorem modLtc_intake (s : State) (f : Ltc → Ltc) : (modLtc s f).intake = s.intake := rfl
@[simp] theorem modLtc_sup (s : State) (f : Ltc → Ltc) : (modLtc s f).sup = s.sup := rfl
@[simp] theorem modLtc_areas (s : State) (f : Ltc → Ltc) : (modLtc s f).areas = s.areas := rfl
@[simp] theorem modLtc_queue (s : State) (f : Ltc → Ltc) : (modLtc s f).pending = s.pending := rfl
@[simp] theorem modLtc_get (s : State) (f : Ltc → Ltc) (x : Fld) : get (modLtc s f) x = get s x := rfl

/-! ## modStrand -/

@[simp] theorem modStrand_regs (s : State) (n : Nat) (f : StrandSt → StrandSt) : (modStrand s n f).regs = s.regs := rfl
@[simp] theorem modStrand_clk (s : State) (n : Nat) (f : StrandSt → StrandSt) : (modStrand s n f).clk = s.clk := rfl
@[simp] theorem modStrand_free (s : State) (n : Nat) (f : StrandSt → StrandSt) : (modStrand s n f).free = s.free := rfl
@[simp] theorem modStrand_rdata (s : State) (n : Nat) (f : StrandSt → StrandSt) : (modStrand s n f).rdata = s.rdata := rfl
@[simp] theorem modStrand_sent (s : State) (n : Nat) (f : StrandSt → StrandSt) : (modStrand s n f).sent = s.sent := rfl
@[simp] theorem modStrand_fs (s : State) (n : Nat) (f : StrandSt → StrandSt) : (modStrand s n f).fs = s.fs := rfl
@[simp] theorem modStrand_ssm (s : State) (n : Nat) (f : StrandSt → StrandSt) : (modStrand s n f).ssm = s.ssm := rfl
@[simp] theorem modStrand_tick (s : State) (n : Nat) (f : StrandSt → StrandSt) : (modStrand s n f).tick = s.tick := rfl
@[simp] theorem modStrand_hub (s : State) (n : Nat) (f : StrandSt → StrandSt) : (modStrand s n f).hub = s.hub := rfl
@[simp] theorem modStrand_host (s : State) (n : Nat) (f : StrandSt → StrandSt) : (modStrand s n f).host = s.host := rfl
@[simp] theorem modStrand_pool (s : State) (n : Nat) (f : StrandSt → StrandSt) : (modStrand s n f).pool = s.pool := rfl
@[simp] theorem modStrand_mov (s : State) (n : Nat) (f : StrandSt → StrandSt) : (modStrand s n f).mov = s.mov := rfl
@[simp] theorem modStrand_movRestart (s : State) (n : Nat) (f : StrandSt → StrandSt) : (modStrand s n f).movRestart = s.movRestart := rfl
@[simp] theorem modStrand_dram (s : State) (n : Nat) (f : StrandSt → StrandSt) : (modStrand s n f).dram = s.dram := rfl
@[simp] theorem modStrand_pins (s : State) (n : Nat) (f : StrandSt → StrandSt) : (modStrand s n f).pins = s.pins := rfl
@[simp] theorem modStrand_seqs (s : State) (n : Nat) (f : StrandSt → StrandSt) : (modStrand s n f).seqs = s.seqs := rfl
@[simp] theorem modStrand_mags (s : State) (n : Nat) (f : StrandSt → StrandSt) : (modStrand s n f).mags = s.mags := rfl
@[simp] theorem modStrand_sbd (s : State) (n : Nat) (f : StrandSt → StrandSt) : (modStrand s n f).sbd = s.sbd := rfl
@[simp] theorem modStrand_intake (s : State) (n : Nat) (f : StrandSt → StrandSt) : (modStrand s n f).intake = s.intake := rfl
@[simp] theorem modStrand_sup (s : State) (n : Nat) (f : StrandSt → StrandSt) : (modStrand s n f).sup = s.sup := rfl
@[simp] theorem modStrand_areas (s : State) (n : Nat) (f : StrandSt → StrandSt) : (modStrand s n f).areas = s.areas := rfl
@[simp] theorem modStrand_queue (s : State) (n : Nat) (f : StrandSt → StrandSt) : (modStrand s n f).pending = s.pending := rfl
@[simp] theorem modStrand_get (s : State) (n : Nat) (f : StrandSt → StrandSt) (x : Fld) : get (modStrand s n f) x = get s x := rfl

/-! ## modLane -/

@[simp] theorem modLane_clk (s : State) (l : Nat) (f : Lane → Lane) : (modLane s l f).clk = s.clk := rfl
@[simp] theorem modLane_free (s : State) (l : Nat) (f : Lane → Lane) : (modLane s l f).free = s.free := rfl
@[simp] theorem modLane_rdata (s : State) (l : Nat) (f : Lane → Lane) : (modLane s l f).rdata = s.rdata := rfl
@[simp] theorem modLane_sent (s : State) (l : Nat) (f : Lane → Lane) : (modLane s l f).sent = s.sent := rfl
@[simp] theorem modLane_fs (s : State) (l : Nat) (f : Lane → Lane) : (modLane s l f).fs = s.fs := rfl
@[simp] theorem modLane_ssm (s : State) (l : Nat) (f : Lane → Lane) : (modLane s l f).ssm = s.ssm := rfl
@[simp] theorem modLane_tick (s : State) (l : Nat) (f : Lane → Lane) : (modLane s l f).tick = s.tick := rfl
@[simp] theorem modLane_hub (s : State) (l : Nat) (f : Lane → Lane) : (modLane s l f).hub = s.hub := rfl
@[simp] theorem modLane_host (s : State) (l : Nat) (f : Lane → Lane) : (modLane s l f).host = s.host := rfl
@[simp] theorem modLane_pool (s : State) (l : Nat) (f : Lane → Lane) : (modLane s l f).pool = s.pool := rfl
@[simp] theorem modLane_mov (s : State) (l : Nat) (f : Lane → Lane) : (modLane s l f).mov = s.mov := rfl
@[simp] theorem modLane_movRestart (s : State) (l : Nat) (f : Lane → Lane) : (modLane s l f).movRestart = s.movRestart := rfl
@[simp] theorem modLane_dram (s : State) (l : Nat) (f : Lane → Lane) : (modLane s l f).dram = s.dram := rfl
@[simp] theorem modLane_pins (s : State) (l : Nat) (f : Lane → Lane) : (modLane s l f).pins = s.pins := rfl
@[simp] theorem modLane_seqs (s : State) (l : Nat) (f : Lane → Lane) : (modLane s l f).seqs = s.seqs := rfl
@[simp] theorem modLane_mags (s : State) (l : Nat) (f : Lane → Lane) : (modLane s l f).mags = s.mags := rfl
@[simp] theorem modLane_sbd (s : State) (l : Nat) (f : Lane → Lane) : (modLane s l f).sbd = s.sbd := rfl
@[simp] theorem modLane_intake (s : State) (l : Nat) (f : Lane → Lane) : (modLane s l f).intake = s.intake := rfl
@[simp] theorem modLane_sup (s : State) (l : Nat) (f : Lane → Lane) : (modLane s l f).sup = s.sup := rfl
@[simp] theorem modLane_areas (s : State) (l : Nat) (f : Lane → Lane) : (modLane s l f).areas = s.areas := rfl
@[simp] theorem modLane_queue (s : State) (l : Nat) (f : Lane → Lane) : (modLane s l f).pending = s.pending := rfl

/-! ## modSeq -/

@[simp] theorem modSeq_regs (s : State) (q : Nat) (f : SeqSt → SeqSt) : (modSeq s q f).regs = s.regs := rfl
@[simp] theorem modSeq_clk (s : State) (q : Nat) (f : SeqSt → SeqSt) : (modSeq s q f).clk = s.clk := rfl
@[simp] theorem modSeq_free (s : State) (q : Nat) (f : SeqSt → SeqSt) : (modSeq s q f).free = s.free := rfl
@[simp] theorem modSeq_rdata (s : State) (q : Nat) (f : SeqSt → SeqSt) : (modSeq s q f).rdata = s.rdata := rfl
@[simp] theorem modSeq_sent (s : State) (q : Nat) (f : SeqSt → SeqSt) : (modSeq s q f).sent = s.sent := rfl
@[simp] theorem modSeq_fs (s : State) (q : Nat) (f : SeqSt → SeqSt) : (modSeq s q f).fs = s.fs := rfl
@[simp] theorem modSeq_ssm (s : State) (q : Nat) (f : SeqSt → SeqSt) : (modSeq s q f).ssm = s.ssm := rfl
@[simp] theorem modSeq_tick (s : State) (q : Nat) (f : SeqSt → SeqSt) : (modSeq s q f).tick = s.tick := rfl
@[simp] theorem modSeq_hub (s : State) (q : Nat) (f : SeqSt → SeqSt) : (modSeq s q f).hub = s.hub := rfl
@[simp] theorem modSeq_host (s : State) (q : Nat) (f : SeqSt → SeqSt) : (modSeq s q f).host = s.host := rfl
@[simp] theorem modSeq_pool (s : State) (q : Nat) (f : SeqSt → SeqSt) : (modSeq s q f).pool = s.pool := rfl
@[simp] theorem modSeq_mov (s : State) (q : Nat) (f : SeqSt → SeqSt) : (modSeq s q f).mov = s.mov := rfl
@[simp] theorem modSeq_movRestart (s : State) (q : Nat) (f : SeqSt → SeqSt) : (modSeq s q f).movRestart = s.movRestart := rfl
@[simp] theorem modSeq_dram (s : State) (q : Nat) (f : SeqSt → SeqSt) : (modSeq s q f).dram = s.dram := rfl
@[simp] theorem modSeq_pins (s : State) (q : Nat) (f : SeqSt → SeqSt) : (modSeq s q f).pins = s.pins := rfl
@[simp] theorem modSeq_strs (s : State) (q : Nat) (f : SeqSt → SeqSt) : (modSeq s q f).strs = s.strs := rfl
@[simp] theorem modSeq_mags (s : State) (q : Nat) (f : SeqSt → SeqSt) : (modSeq s q f).mags = s.mags := rfl
@[simp] theorem modSeq_sbd (s : State) (q : Nat) (f : SeqSt → SeqSt) : (modSeq s q f).sbd = s.sbd := rfl
@[simp] theorem modSeq_intake (s : State) (q : Nat) (f : SeqSt → SeqSt) : (modSeq s q f).intake = s.intake := rfl
@[simp] theorem modSeq_sup (s : State) (q : Nat) (f : SeqSt → SeqSt) : (modSeq s q f).sup = s.sup := rfl
@[simp] theorem modSeq_areas (s : State) (q : Nat) (f : SeqSt → SeqSt) : (modSeq s q f).areas = s.areas := rfl
@[simp] theorem modSeq_queue (s : State) (q : Nat) (f : SeqSt → SeqSt) : (modSeq s q f).pending = s.pending := rfl
@[simp] theorem modSeq_get (s : State) (q : Nat) (f : SeqSt → SeqSt) (x : Fld) : get (modSeq s q f) x = get s x := rfl

/-! ## modPair -/

@[simp] theorem modPair_regs (s : State) (q p : Nat) (f : PairSt → PairSt) : (modPair s q p f).regs = s.regs := rfl
@[simp] theorem modPair_clk (s : State) (q p : Nat) (f : PairSt → PairSt) : (modPair s q p f).clk = s.clk := rfl
@[simp] theorem modPair_free (s : State) (q p : Nat) (f : PairSt → PairSt) : (modPair s q p f).free = s.free := rfl
@[simp] theorem modPair_rdata (s : State) (q p : Nat) (f : PairSt → PairSt) : (modPair s q p f).rdata = s.rdata := rfl
@[simp] theorem modPair_sent (s : State) (q p : Nat) (f : PairSt → PairSt) : (modPair s q p f).sent = s.sent := rfl
@[simp] theorem modPair_fs (s : State) (q p : Nat) (f : PairSt → PairSt) : (modPair s q p f).fs = s.fs := rfl
@[simp] theorem modPair_ssm (s : State) (q p : Nat) (f : PairSt → PairSt) : (modPair s q p f).ssm = s.ssm := rfl
@[simp] theorem modPair_tick (s : State) (q p : Nat) (f : PairSt → PairSt) : (modPair s q p f).tick = s.tick := rfl
@[simp] theorem modPair_hub (s : State) (q p : Nat) (f : PairSt → PairSt) : (modPair s q p f).hub = s.hub := rfl
@[simp] theorem modPair_host (s : State) (q p : Nat) (f : PairSt → PairSt) : (modPair s q p f).host = s.host := rfl
@[simp] theorem modPair_pool (s : State) (q p : Nat) (f : PairSt → PairSt) : (modPair s q p f).pool = s.pool := rfl
@[simp] theorem modPair_mov (s : State) (q p : Nat) (f : PairSt → PairSt) : (modPair s q p f).mov = s.mov := rfl
@[simp] theorem modPair_movRestart (s : State) (q p : Nat) (f : PairSt → PairSt) : (modPair s q p f).movRestart = s.movRestart := rfl
@[simp] theorem modPair_dram (s : State) (q p : Nat) (f : PairSt → PairSt) : (modPair s q p f).dram = s.dram := rfl
@[simp] theorem modPair_pins (s : State) (q p : Nat) (f : PairSt → PairSt) : (modPair s q p f).pins = s.pins := rfl
@[simp] theorem modPair_strs (s : State) (q p : Nat) (f : PairSt → PairSt) : (modPair s q p f).strs = s.strs := rfl
@[simp] theorem modPair_mags (s : State) (q p : Nat) (f : PairSt → PairSt) : (modPair s q p f).mags = s.mags := rfl
@[simp] theorem modPair_sbd (s : State) (q p : Nat) (f : PairSt → PairSt) : (modPair s q p f).sbd = s.sbd := rfl
@[simp] theorem modPair_intake (s : State) (q p : Nat) (f : PairSt → PairSt) : (modPair s q p f).intake = s.intake := rfl
@[simp] theorem modPair_sup (s : State) (q p : Nat) (f : PairSt → PairSt) : (modPair s q p f).sup = s.sup := rfl
@[simp] theorem modPair_areas (s : State) (q p : Nat) (f : PairSt → PairSt) : (modPair s q p f).areas = s.areas := rfl
@[simp] theorem modPair_queue (s : State) (q p : Nat) (f : PairSt → PairSt) : (modPair s q p f).pending = s.pending := rfl
@[simp] theorem modPair_get (s : State) (q p : Nat) (f : PairSt → PairSt) (x : Fld) : get (modPair s q p f) x = get s x := rfl

/-! ## modPart -/

@[simp] theorem modPart_regs (s : State) (p : Nat) (f : PartSt → PartSt) : (modPart s p f).regs = s.regs := rfl
@[simp] theorem modPart_clk (s : State) (p : Nat) (f : PartSt → PartSt) : (modPart s p f).clk = s.clk := rfl
@[simp] theorem modPart_free (s : State) (p : Nat) (f : PartSt → PartSt) : (modPart s p f).free = s.free := rfl
@[simp] theorem modPart_rdata (s : State) (p : Nat) (f : PartSt → PartSt) : (modPart s p f).rdata = s.rdata := rfl
@[simp] theorem modPart_sent (s : State) (p : Nat) (f : PartSt → PartSt) : (modPart s p f).sent = s.sent := rfl
@[simp] theorem modPart_fs (s : State) (p : Nat) (f : PartSt → PartSt) : (modPart s p f).fs = s.fs := rfl
@[simp] theorem modPart_ssm (s : State) (p : Nat) (f : PartSt → PartSt) : (modPart s p f).ssm = s.ssm := rfl
@[simp] theorem modPart_tick (s : State) (p : Nat) (f : PartSt → PartSt) : (modPart s p f).tick = s.tick := rfl
@[simp] theorem modPart_hub (s : State) (p : Nat) (f : PartSt → PartSt) : (modPart s p f).hub = s.hub := rfl
@[simp] theorem modPart_host (s : State) (p : Nat) (f : PartSt → PartSt) : (modPart s p f).host = s.host := rfl
@[simp] theorem modPart_pool (s : State) (p : Nat) (f : PartSt → PartSt) : (modPart s p f).pool = s.pool := rfl
@[simp] theorem modPart_mov (s : State) (p : Nat) (f : PartSt → PartSt) : (modPart s p f).mov = s.mov := rfl
@[simp] theorem modPart_movRestart (s : State) (p : Nat) (f : PartSt → PartSt) : (modPart s p f).movRestart = s.movRestart := rfl
@[simp] theorem modPart_dram (s : State) (p : Nat) (f : PartSt → PartSt) : (modPart s p f).dram = s.dram := rfl
@[simp] theorem modPart_pins (s : State) (p : Nat) (f : PartSt → PartSt) : (modPart s p f).pins = s.pins := rfl
@[simp] theorem modPart_strs (s : State) (p : Nat) (f : PartSt → PartSt) : (modPart s p f).strs = s.strs := rfl
@[simp] theorem modPart_mags (s : State) (p : Nat) (f : PartSt → PartSt) : (modPart s p f).mags = s.mags := rfl
@[simp] theorem modPart_sbd (s : State) (p : Nat) (f : PartSt → PartSt) : (modPart s p f).sbd = s.sbd := rfl
@[simp] theorem modPart_intake (s : State) (p : Nat) (f : PartSt → PartSt) : (modPart s p f).intake = s.intake := rfl
@[simp] theorem modPart_sup (s : State) (p : Nat) (f : PartSt → PartSt) : (modPart s p f).sup = s.sup := rfl
@[simp] theorem modPart_areas (s : State) (p : Nat) (f : PartSt → PartSt) : (modPart s p f).areas = s.areas := rfl
@[simp] theorem modPart_queue (s : State) (p : Nat) (f : PartSt → PartSt) : (modPart s p f).pending = s.pending := rfl
@[simp] theorem modPart_get (s : State) (p : Nat) (f : PartSt → PartSt) (x : Fld) : get (modPart s p f) x = get s x := rfl

/-! ## modMag -/

@[simp] theorem modMag_regs (s : State) (n : Nat) (f : MagSt → MagSt) : (modMag s n f).regs = s.regs := rfl
@[simp] theorem modMag_clk (s : State) (n : Nat) (f : MagSt → MagSt) : (modMag s n f).clk = s.clk := rfl
@[simp] theorem modMag_free (s : State) (n : Nat) (f : MagSt → MagSt) : (modMag s n f).free = s.free := rfl
@[simp] theorem modMag_rdata (s : State) (n : Nat) (f : MagSt → MagSt) : (modMag s n f).rdata = s.rdata := rfl
@[simp] theorem modMag_sent (s : State) (n : Nat) (f : MagSt → MagSt) : (modMag s n f).sent = s.sent := rfl
@[simp] theorem modMag_fs (s : State) (n : Nat) (f : MagSt → MagSt) : (modMag s n f).fs = s.fs := rfl
@[simp] theorem modMag_ssm (s : State) (n : Nat) (f : MagSt → MagSt) : (modMag s n f).ssm = s.ssm := rfl
@[simp] theorem modMag_tick (s : State) (n : Nat) (f : MagSt → MagSt) : (modMag s n f).tick = s.tick := rfl
@[simp] theorem modMag_hub (s : State) (n : Nat) (f : MagSt → MagSt) : (modMag s n f).hub = s.hub := rfl
@[simp] theorem modMag_host (s : State) (n : Nat) (f : MagSt → MagSt) : (modMag s n f).host = s.host := rfl
@[simp] theorem modMag_pool (s : State) (n : Nat) (f : MagSt → MagSt) : (modMag s n f).pool = s.pool := rfl
@[simp] theorem modMag_mov (s : State) (n : Nat) (f : MagSt → MagSt) : (modMag s n f).mov = s.mov := rfl
@[simp] theorem modMag_movRestart (s : State) (n : Nat) (f : MagSt → MagSt) : (modMag s n f).movRestart = s.movRestart := rfl
@[simp] theorem modMag_dram (s : State) (n : Nat) (f : MagSt → MagSt) : (modMag s n f).dram = s.dram := rfl
@[simp] theorem modMag_pins (s : State) (n : Nat) (f : MagSt → MagSt) : (modMag s n f).pins = s.pins := rfl
@[simp] theorem modMag_strs (s : State) (n : Nat) (f : MagSt → MagSt) : (modMag s n f).strs = s.strs := rfl
@[simp] theorem modMag_seqs (s : State) (n : Nat) (f : MagSt → MagSt) : (modMag s n f).seqs = s.seqs := rfl
@[simp] theorem modMag_sbd (s : State) (n : Nat) (f : MagSt → MagSt) : (modMag s n f).sbd = s.sbd := rfl
@[simp] theorem modMag_intake (s : State) (n : Nat) (f : MagSt → MagSt) : (modMag s n f).intake = s.intake := rfl
@[simp] theorem modMag_sup (s : State) (n : Nat) (f : MagSt → MagSt) : (modMag s n f).sup = s.sup := rfl
@[simp] theorem modMag_areas (s : State) (n : Nat) (f : MagSt → MagSt) : (modMag s n f).areas = s.areas := rfl
@[simp] theorem modMag_queue (s : State) (n : Nat) (f : MagSt → MagSt) : (modMag s n f).pending = s.pending := rfl
@[simp] theorem modMag_get (s : State) (n : Nat) (f : MagSt → MagSt) (x : Fld) : get (modMag s n f) x = get s x := rfl

/-! ## modClip -/

@[simp] theorem modClip_regs (s : State) (i : Nat) (f : Clip → Clip) : (modClip s i f).regs = s.regs := rfl
@[simp] theorem modClip_clk (s : State) (i : Nat) (f : Clip → Clip) : (modClip s i f).clk = s.clk := rfl
@[simp] theorem modClip_free (s : State) (i : Nat) (f : Clip → Clip) : (modClip s i f).free = s.free := rfl
@[simp] theorem modClip_rdata (s : State) (i : Nat) (f : Clip → Clip) : (modClip s i f).rdata = s.rdata := rfl
@[simp] theorem modClip_sent (s : State) (i : Nat) (f : Clip → Clip) : (modClip s i f).sent = s.sent := rfl
@[simp] theorem modClip_fs (s : State) (i : Nat) (f : Clip → Clip) : (modClip s i f).fs = s.fs := rfl
@[simp] theorem modClip_ssm (s : State) (i : Nat) (f : Clip → Clip) : (modClip s i f).ssm = s.ssm := rfl
@[simp] theorem modClip_tick (s : State) (i : Nat) (f : Clip → Clip) : (modClip s i f).tick = s.tick := rfl
@[simp] theorem modClip_hub (s : State) (i : Nat) (f : Clip → Clip) : (modClip s i f).hub = s.hub := rfl
@[simp] theorem modClip_host (s : State) (i : Nat) (f : Clip → Clip) : (modClip s i f).host = s.host := rfl
@[simp] theorem modClip_pool (s : State) (i : Nat) (f : Clip → Clip) : (modClip s i f).pool = s.pool := rfl
@[simp] theorem modClip_mov (s : State) (i : Nat) (f : Clip → Clip) : (modClip s i f).mov = s.mov := rfl
@[simp] theorem modClip_movRestart (s : State) (i : Nat) (f : Clip → Clip) : (modClip s i f).movRestart = s.movRestart := rfl
@[simp] theorem modClip_dram (s : State) (i : Nat) (f : Clip → Clip) : (modClip s i f).dram = s.dram := rfl
@[simp] theorem modClip_pins (s : State) (i : Nat) (f : Clip → Clip) : (modClip s i f).pins = s.pins := rfl
@[simp] theorem modClip_strs (s : State) (i : Nat) (f : Clip → Clip) : (modClip s i f).strs = s.strs := rfl
@[simp] theorem modClip_seqs (s : State) (i : Nat) (f : Clip → Clip) : (modClip s i f).seqs = s.seqs := rfl
@[simp] theorem modClip_sbd (s : State) (i : Nat) (f : Clip → Clip) : (modClip s i f).sbd = s.sbd := rfl
@[simp] theorem modClip_intake (s : State) (i : Nat) (f : Clip → Clip) : (modClip s i f).intake = s.intake := rfl
@[simp] theorem modClip_sup (s : State) (i : Nat) (f : Clip → Clip) : (modClip s i f).sup = s.sup := rfl
@[simp] theorem modClip_areas (s : State) (i : Nat) (f : Clip → Clip) : (modClip s i f).areas = s.areas := rfl
@[simp] theorem modClip_queue (s : State) (i : Nat) (f : Clip → Clip) : (modClip s i f).pending = s.pending := rfl
@[simp] theorem modClip_get (s : State) (i : Nat) (f : Clip → Clip) (x : Fld) : get (modClip s i f) x = get s x := rfl

/-! ## modSbd -/

@[simp] theorem modSbd_regs (s : State) (n : Nat) (f : SbdSt → SbdSt) : (modSbd s n f).regs = s.regs := rfl
@[simp] theorem modSbd_clk (s : State) (n : Nat) (f : SbdSt → SbdSt) : (modSbd s n f).clk = s.clk := rfl
@[simp] theorem modSbd_free (s : State) (n : Nat) (f : SbdSt → SbdSt) : (modSbd s n f).free = s.free := rfl
@[simp] theorem modSbd_rdata (s : State) (n : Nat) (f : SbdSt → SbdSt) : (modSbd s n f).rdata = s.rdata := rfl
@[simp] theorem modSbd_sent (s : State) (n : Nat) (f : SbdSt → SbdSt) : (modSbd s n f).sent = s.sent := rfl
@[simp] theorem modSbd_fs (s : State) (n : Nat) (f : SbdSt → SbdSt) : (modSbd s n f).fs = s.fs := rfl
@[simp] theorem modSbd_ssm (s : State) (n : Nat) (f : SbdSt → SbdSt) : (modSbd s n f).ssm = s.ssm := rfl
@[simp] theorem modSbd_tick (s : State) (n : Nat) (f : SbdSt → SbdSt) : (modSbd s n f).tick = s.tick := rfl
@[simp] theorem modSbd_hub (s : State) (n : Nat) (f : SbdSt → SbdSt) : (modSbd s n f).hub = s.hub := rfl
@[simp] theorem modSbd_host (s : State) (n : Nat) (f : SbdSt → SbdSt) : (modSbd s n f).host = s.host := rfl
@[simp] theorem modSbd_pool (s : State) (n : Nat) (f : SbdSt → SbdSt) : (modSbd s n f).pool = s.pool := rfl
@[simp] theorem modSbd_mov (s : State) (n : Nat) (f : SbdSt → SbdSt) : (modSbd s n f).mov = s.mov := rfl
@[simp] theorem modSbd_movRestart (s : State) (n : Nat) (f : SbdSt → SbdSt) : (modSbd s n f).movRestart = s.movRestart := rfl
@[simp] theorem modSbd_dram (s : State) (n : Nat) (f : SbdSt → SbdSt) : (modSbd s n f).dram = s.dram := rfl
@[simp] theorem modSbd_pins (s : State) (n : Nat) (f : SbdSt → SbdSt) : (modSbd s n f).pins = s.pins := rfl
@[simp] theorem modSbd_strs (s : State) (n : Nat) (f : SbdSt → SbdSt) : (modSbd s n f).strs = s.strs := rfl
@[simp] theorem modSbd_seqs (s : State) (n : Nat) (f : SbdSt → SbdSt) : (modSbd s n f).seqs = s.seqs := rfl
@[simp] theorem modSbd_mags (s : State) (n : Nat) (f : SbdSt → SbdSt) : (modSbd s n f).mags = s.mags := rfl
@[simp] theorem modSbd_intake (s : State) (n : Nat) (f : SbdSt → SbdSt) : (modSbd s n f).intake = s.intake := rfl
@[simp] theorem modSbd_sup (s : State) (n : Nat) (f : SbdSt → SbdSt) : (modSbd s n f).sup = s.sup := rfl
@[simp] theorem modSbd_areas (s : State) (n : Nat) (f : SbdSt → SbdSt) : (modSbd s n f).areas = s.areas := rfl
@[simp] theorem modSbd_queue (s : State) (n : Nat) (f : SbdSt → SbdSt) : (modSbd s n f).pending = s.pending := rfl
@[simp] theorem modSbd_get (s : State) (n : Nat) (f : SbdSt → SbdSt) (x : Fld) : get (modSbd s n f) x = get s x := rfl

/-! ## modPH -/

@[simp] theorem modPH_regs (s : State) (p : Nat) (f : PartHost → PartHost) : (modPH s p f).regs = s.regs := rfl
@[simp] theorem modPH_clk (s : State) (p : Nat) (f : PartHost → PartHost) : (modPH s p f).clk = s.clk := rfl
@[simp] theorem modPH_free (s : State) (p : Nat) (f : PartHost → PartHost) : (modPH s p f).free = s.free := rfl
@[simp] theorem modPH_rdata (s : State) (p : Nat) (f : PartHost → PartHost) : (modPH s p f).rdata = s.rdata := rfl
@[simp] theorem modPH_sent (s : State) (p : Nat) (f : PartHost → PartHost) : (modPH s p f).sent = s.sent := rfl
@[simp] theorem modPH_fs (s : State) (p : Nat) (f : PartHost → PartHost) : (modPH s p f).fs = s.fs := rfl
@[simp] theorem modPH_ssm (s : State) (p : Nat) (f : PartHost → PartHost) : (modPH s p f).ssm = s.ssm := rfl
@[simp] theorem modPH_tick (s : State) (p : Nat) (f : PartHost → PartHost) : (modPH s p f).tick = s.tick := rfl
@[simp] theorem modPH_hub (s : State) (p : Nat) (f : PartHost → PartHost) : (modPH s p f).hub = s.hub := rfl
@[simp] theorem modPH_pool (s : State) (p : Nat) (f : PartHost → PartHost) : (modPH s p f).pool = s.pool := rfl
@[simp] theorem modPH_mov (s : State) (p : Nat) (f : PartHost → PartHost) : (modPH s p f).mov = s.mov := rfl
@[simp] theorem modPH_movRestart (s : State) (p : Nat) (f : PartHost → PartHost) : (modPH s p f).movRestart = s.movRestart := rfl
@[simp] theorem modPH_dram (s : State) (p : Nat) (f : PartHost → PartHost) : (modPH s p f).dram = s.dram := rfl
@[simp] theorem modPH_pins (s : State) (p : Nat) (f : PartHost → PartHost) : (modPH s p f).pins = s.pins := rfl
@[simp] theorem modPH_strs (s : State) (p : Nat) (f : PartHost → PartHost) : (modPH s p f).strs = s.strs := rfl
@[simp] theorem modPH_seqs (s : State) (p : Nat) (f : PartHost → PartHost) : (modPH s p f).seqs = s.seqs := rfl
@[simp] theorem modPH_mags (s : State) (p : Nat) (f : PartHost → PartHost) : (modPH s p f).mags = s.mags := rfl
@[simp] theorem modPH_sbd (s : State) (p : Nat) (f : PartHost → PartHost) : (modPH s p f).sbd = s.sbd := rfl
@[simp] theorem modPH_intake (s : State) (p : Nat) (f : PartHost → PartHost) : (modPH s p f).intake = s.intake := rfl
@[simp] theorem modPH_sup (s : State) (p : Nat) (f : PartHost → PartHost) : (modPH s p f).sup = s.sup := rfl
@[simp] theorem modPH_areas (s : State) (p : Nat) (f : PartHost → PartHost) : (modPH s p f).areas = s.areas := rfl
@[simp] theorem modPH_queue (s : State) (p : Nat) (f : PartHost → PartHost) : (modPH s p f).pending = s.pending := rfl
@[simp] theorem modPH_get (s : State) (p : Nat) (f : PartHost → PartHost) (x : Fld) : get (modPH s p f) x = get s x := rfl

/-! ## modEv -/

@[simp] theorem modEv_regs (s : State) (e : Nat) (f : Frame → Frame) : (modEv s e f).regs = s.regs := rfl
@[simp] theorem modEv_clk (s : State) (e : Nat) (f : Frame → Frame) : (modEv s e f).clk = s.clk := rfl
@[simp] theorem modEv_free (s : State) (e : Nat) (f : Frame → Frame) : (modEv s e f).free = s.free := rfl
@[simp] theorem modEv_rdata (s : State) (e : Nat) (f : Frame → Frame) : (modEv s e f).rdata = s.rdata := rfl
@[simp] theorem modEv_sent (s : State) (e : Nat) (f : Frame → Frame) : (modEv s e f).sent = s.sent := rfl
@[simp] theorem modEv_fs (s : State) (e : Nat) (f : Frame → Frame) : (modEv s e f).fs = s.fs := rfl
@[simp] theorem modEv_ssm (s : State) (e : Nat) (f : Frame → Frame) : (modEv s e f).ssm = s.ssm := rfl
@[simp] theorem modEv_tick (s : State) (e : Nat) (f : Frame → Frame) : (modEv s e f).tick = s.tick := rfl
@[simp] theorem modEv_hub (s : State) (e : Nat) (f : Frame → Frame) : (modEv s e f).hub = s.hub := rfl
@[simp] theorem modEv_host (s : State) (e : Nat) (f : Frame → Frame) : (modEv s e f).host = s.host := rfl
@[simp] theorem modEv_pool (s : State) (e : Nat) (f : Frame → Frame) : (modEv s e f).pool = s.pool := rfl
@[simp] theorem modEv_mov (s : State) (e : Nat) (f : Frame → Frame) : (modEv s e f).mov = s.mov := rfl
@[simp] theorem modEv_movRestart (s : State) (e : Nat) (f : Frame → Frame) : (modEv s e f).movRestart = s.movRestart := rfl
@[simp] theorem modEv_dram (s : State) (e : Nat) (f : Frame → Frame) : (modEv s e f).dram = s.dram := rfl
@[simp] theorem modEv_pins (s : State) (e : Nat) (f : Frame → Frame) : (modEv s e f).pins = s.pins := rfl
@[simp] theorem modEv_strs (s : State) (e : Nat) (f : Frame → Frame) : (modEv s e f).strs = s.strs := rfl
@[simp] theorem modEv_seqs (s : State) (e : Nat) (f : Frame → Frame) : (modEv s e f).seqs = s.seqs := rfl
@[simp] theorem modEv_mags (s : State) (e : Nat) (f : Frame → Frame) : (modEv s e f).mags = s.mags := rfl
@[simp] theorem modEv_sbd (s : State) (e : Nat) (f : Frame → Frame) : (modEv s e f).sbd = s.sbd := rfl
@[simp] theorem modEv_sup (s : State) (e : Nat) (f : Frame → Frame) : (modEv s e f).sup = s.sup := rfl
@[simp] theorem modEv_areas (s : State) (e : Nat) (f : Frame → Frame) : (modEv s e f).areas = s.areas := rfl
@[simp] theorem modEv_queue (s : State) (e : Nat) (f : Frame → Frame) : (modEv s e f).pending = s.pending := rfl
@[simp] theorem modEv_get (s : State) (e : Nat) (f : Frame → Frame) (x : Fld) : get (modEv s e f) x = get s x := rfl

/-! ## modPort -/

@[simp] theorem modPort_regs (s : State) (n : Nat) (f : SensPort → SensPort) : (modPort s n f).regs = s.regs := rfl
@[simp] theorem modPort_clk (s : State) (n : Nat) (f : SensPort → SensPort) : (modPort s n f).clk = s.clk := rfl
@[simp] theorem modPort_free (s : State) (n : Nat) (f : SensPort → SensPort) : (modPort s n f).free = s.free := rfl
@[simp] theorem modPort_rdata (s : State) (n : Nat) (f : SensPort → SensPort) : (modPort s n f).rdata = s.rdata := rfl
@[simp] theorem modPort_sent (s : State) (n : Nat) (f : SensPort → SensPort) : (modPort s n f).sent = s.sent := rfl
@[simp] theorem modPort_fs (s : State) (n : Nat) (f : SensPort → SensPort) : (modPort s n f).fs = s.fs := rfl
@[simp] theorem modPort_ssm (s : State) (n : Nat) (f : SensPort → SensPort) : (modPort s n f).ssm = s.ssm := rfl
@[simp] theorem modPort_tick (s : State) (n : Nat) (f : SensPort → SensPort) : (modPort s n f).tick = s.tick := rfl
@[simp] theorem modPort_hub (s : State) (n : Nat) (f : SensPort → SensPort) : (modPort s n f).hub = s.hub := rfl
@[simp] theorem modPort_host (s : State) (n : Nat) (f : SensPort → SensPort) : (modPort s n f).host = s.host := rfl
@[simp] theorem modPort_pool (s : State) (n : Nat) (f : SensPort → SensPort) : (modPort s n f).pool = s.pool := rfl
@[simp] theorem modPort_mov (s : State) (n : Nat) (f : SensPort → SensPort) : (modPort s n f).mov = s.mov := rfl
@[simp] theorem modPort_movRestart (s : State) (n : Nat) (f : SensPort → SensPort) : (modPort s n f).movRestart = s.movRestart := rfl
@[simp] theorem modPort_dram (s : State) (n : Nat) (f : SensPort → SensPort) : (modPort s n f).dram = s.dram := rfl
@[simp] theorem modPort_pins (s : State) (n : Nat) (f : SensPort → SensPort) : (modPort s n f).pins = s.pins := rfl
@[simp] theorem modPort_strs (s : State) (n : Nat) (f : SensPort → SensPort) : (modPort s n f).strs = s.strs := rfl
@[simp] theorem modPort_seqs (s : State) (n : Nat) (f : SensPort → SensPort) : (modPort s n f).seqs = s.seqs := rfl
@[simp] theorem modPort_mags (s : State) (n : Nat) (f : SensPort → SensPort) : (modPort s n f).mags = s.mags := rfl
@[simp] theorem modPort_sbd (s : State) (n : Nat) (f : SensPort → SensPort) : (modPort s n f).sbd = s.sbd := rfl
@[simp] theorem modPort_sup (s : State) (n : Nat) (f : SensPort → SensPort) : (modPort s n f).sup = s.sup := rfl
@[simp] theorem modPort_areas (s : State) (n : Nat) (f : SensPort → SensPort) : (modPort s n f).areas = s.areas := rfl
@[simp] theorem modPort_queue (s : State) (n : Nat) (f : SensPort → SensPort) : (modPort s n f).pending = s.pending := rfl
@[simp] theorem modPort_get (s : State) (n : Nat) (f : SensPort → SensPort) (x : Fld) : get (modPort s n f) x = get s x := rfl

/-! ## modMon -/

@[simp] theorem modMon_regs (s : State) (m : Nat) (f : MonSt → MonSt) : (modMon s m f).regs = s.regs := rfl
@[simp] theorem modMon_clk (s : State) (m : Nat) (f : MonSt → MonSt) : (modMon s m f).clk = s.clk := rfl
@[simp] theorem modMon_free (s : State) (m : Nat) (f : MonSt → MonSt) : (modMon s m f).free = s.free := rfl
@[simp] theorem modMon_rdata (s : State) (m : Nat) (f : MonSt → MonSt) : (modMon s m f).rdata = s.rdata := rfl
@[simp] theorem modMon_sent (s : State) (m : Nat) (f : MonSt → MonSt) : (modMon s m f).sent = s.sent := rfl
@[simp] theorem modMon_fs (s : State) (m : Nat) (f : MonSt → MonSt) : (modMon s m f).fs = s.fs := rfl
@[simp] theorem modMon_ssm (s : State) (m : Nat) (f : MonSt → MonSt) : (modMon s m f).ssm = s.ssm := rfl
@[simp] theorem modMon_tick (s : State) (m : Nat) (f : MonSt → MonSt) : (modMon s m f).tick = s.tick := rfl
@[simp] theorem modMon_hub (s : State) (m : Nat) (f : MonSt → MonSt) : (modMon s m f).hub = s.hub := rfl
@[simp] theorem modMon_host (s : State) (m : Nat) (f : MonSt → MonSt) : (modMon s m f).host = s.host := rfl
@[simp] theorem modMon_pool (s : State) (m : Nat) (f : MonSt → MonSt) : (modMon s m f).pool = s.pool := rfl
@[simp] theorem modMon_mov (s : State) (m : Nat) (f : MonSt → MonSt) : (modMon s m f).mov = s.mov := rfl
@[simp] theorem modMon_movRestart (s : State) (m : Nat) (f : MonSt → MonSt) : (modMon s m f).movRestart = s.movRestart := rfl
@[simp] theorem modMon_dram (s : State) (m : Nat) (f : MonSt → MonSt) : (modMon s m f).dram = s.dram := rfl
@[simp] theorem modMon_pins (s : State) (m : Nat) (f : MonSt → MonSt) : (modMon s m f).pins = s.pins := rfl
@[simp] theorem modMon_strs (s : State) (m : Nat) (f : MonSt → MonSt) : (modMon s m f).strs = s.strs := rfl
@[simp] theorem modMon_seqs (s : State) (m : Nat) (f : MonSt → MonSt) : (modMon s m f).seqs = s.seqs := rfl
@[simp] theorem modMon_mags (s : State) (m : Nat) (f : MonSt → MonSt) : (modMon s m f).mags = s.mags := rfl
@[simp] theorem modMon_sbd (s : State) (m : Nat) (f : MonSt → MonSt) : (modMon s m f).sbd = s.sbd := rfl
@[simp] theorem modMon_sup (s : State) (m : Nat) (f : MonSt → MonSt) : (modMon s m f).sup = s.sup := rfl
@[simp] theorem modMon_areas (s : State) (m : Nat) (f : MonSt → MonSt) : (modMon s m f).areas = s.areas := rfl
@[simp] theorem modMon_queue (s : State) (m : Nat) (f : MonSt → MonSt) : (modMon s m f).pending = s.pending := rfl
@[simp] theorem modMon_get (s : State) (m : Nat) (f : MonSt → MonSt) (x : Fld) : get (modMon s m f) x = get s x := rfl

/-! ## modInj -/

@[simp] theorem modInj_regs (s : State) (i : Nat) (f : InjSt → InjSt) : (modInj s i f).regs = s.regs := rfl
@[simp] theorem modInj_clk (s : State) (i : Nat) (f : InjSt → InjSt) : (modInj s i f).clk = s.clk := rfl
@[simp] theorem modInj_free (s : State) (i : Nat) (f : InjSt → InjSt) : (modInj s i f).free = s.free := rfl
@[simp] theorem modInj_rdata (s : State) (i : Nat) (f : InjSt → InjSt) : (modInj s i f).rdata = s.rdata := rfl
@[simp] theorem modInj_sent (s : State) (i : Nat) (f : InjSt → InjSt) : (modInj s i f).sent = s.sent := rfl
@[simp] theorem modInj_fs (s : State) (i : Nat) (f : InjSt → InjSt) : (modInj s i f).fs = s.fs := rfl
@[simp] theorem modInj_ssm (s : State) (i : Nat) (f : InjSt → InjSt) : (modInj s i f).ssm = s.ssm := rfl
@[simp] theorem modInj_tick (s : State) (i : Nat) (f : InjSt → InjSt) : (modInj s i f).tick = s.tick := rfl
@[simp] theorem modInj_hub (s : State) (i : Nat) (f : InjSt → InjSt) : (modInj s i f).hub = s.hub := rfl
@[simp] theorem modInj_host (s : State) (i : Nat) (f : InjSt → InjSt) : (modInj s i f).host = s.host := rfl
@[simp] theorem modInj_pool (s : State) (i : Nat) (f : InjSt → InjSt) : (modInj s i f).pool = s.pool := rfl
@[simp] theorem modInj_mov (s : State) (i : Nat) (f : InjSt → InjSt) : (modInj s i f).mov = s.mov := rfl
@[simp] theorem modInj_movRestart (s : State) (i : Nat) (f : InjSt → InjSt) : (modInj s i f).movRestart = s.movRestart := rfl
@[simp] theorem modInj_dram (s : State) (i : Nat) (f : InjSt → InjSt) : (modInj s i f).dram = s.dram := rfl
@[simp] theorem modInj_pins (s : State) (i : Nat) (f : InjSt → InjSt) : (modInj s i f).pins = s.pins := rfl
@[simp] theorem modInj_strs (s : State) (i : Nat) (f : InjSt → InjSt) : (modInj s i f).strs = s.strs := rfl
@[simp] theorem modInj_seqs (s : State) (i : Nat) (f : InjSt → InjSt) : (modInj s i f).seqs = s.seqs := rfl
@[simp] theorem modInj_mags (s : State) (i : Nat) (f : InjSt → InjSt) : (modInj s i f).mags = s.mags := rfl
@[simp] theorem modInj_sbd (s : State) (i : Nat) (f : InjSt → InjSt) : (modInj s i f).sbd = s.sbd := rfl
@[simp] theorem modInj_intake (s : State) (i : Nat) (f : InjSt → InjSt) : (modInj s i f).intake = s.intake := rfl
@[simp] theorem modInj_areas (s : State) (i : Nat) (f : InjSt → InjSt) : (modInj s i f).areas = s.areas := rfl
@[simp] theorem modInj_queue (s : State) (i : Nat) (f : InjSt → InjSt) : (modInj s i f).pending = s.pending := rfl
@[simp] theorem modInj_get (s : State) (i : Nat) (f : InjSt → InjSt) (x : Fld) : get (modInj s i f) x = get s x := rfl

/-! ## setAnc -/

@[simp] theorem setAnc_regs (s : State) (n v : Nat) : (setAnc s n v).regs = s.regs := rfl
@[simp] theorem setAnc_clk (s : State) (n v : Nat) : (setAnc s n v).clk = s.clk := rfl
@[simp] theorem setAnc_free (s : State) (n v : Nat) : (setAnc s n v).free = s.free := rfl
@[simp] theorem setAnc_rdata (s : State) (n v : Nat) : (setAnc s n v).rdata = s.rdata := rfl
@[simp] theorem setAnc_sent (s : State) (n v : Nat) : (setAnc s n v).sent = s.sent := rfl
@[simp] theorem setAnc_fs (s : State) (n v : Nat) : (setAnc s n v).fs = s.fs := rfl
@[simp] theorem setAnc_ssm (s : State) (n v : Nat) : (setAnc s n v).ssm = s.ssm := rfl
@[simp] theorem setAnc_tick (s : State) (n v : Nat) : (setAnc s n v).tick = s.tick := rfl
@[simp] theorem setAnc_hub (s : State) (n v : Nat) : (setAnc s n v).hub = s.hub := rfl
@[simp] theorem setAnc_host (s : State) (n v : Nat) : (setAnc s n v).host = s.host := rfl
@[simp] theorem setAnc_pool (s : State) (n v : Nat) : (setAnc s n v).pool = s.pool := rfl
@[simp] theorem setAnc_mov (s : State) (n v : Nat) : (setAnc s n v).mov = s.mov := rfl
@[simp] theorem setAnc_movRestart (s : State) (n v : Nat) : (setAnc s n v).movRestart = s.movRestart := rfl
@[simp] theorem setAnc_dram (s : State) (n v : Nat) : (setAnc s n v).dram = s.dram := rfl
@[simp] theorem setAnc_pins (s : State) (n v : Nat) : (setAnc s n v).pins = s.pins := rfl
@[simp] theorem setAnc_strs (s : State) (n v : Nat) : (setAnc s n v).strs = s.strs := rfl
@[simp] theorem setAnc_seqs (s : State) (n v : Nat) : (setAnc s n v).seqs = s.seqs := rfl
@[simp] theorem setAnc_mags (s : State) (n v : Nat) : (setAnc s n v).mags = s.mags := rfl
@[simp] theorem setAnc_sbd (s : State) (n v : Nat) : (setAnc s n v).sbd = s.sbd := rfl
@[simp] theorem setAnc_intake (s : State) (n v : Nat) : (setAnc s n v).intake = s.intake := rfl
@[simp] theorem setAnc_areas (s : State) (n v : Nat) : (setAnc s n v).areas = s.areas := rfl
@[simp] theorem setAnc_queue (s : State) (n v : Nat) : (setAnc s n v).pending = s.pending := rfl
@[simp] theorem setAnc_get (s : State) (n v : Nat) (x : Fld) : get (setAnc s n v) x = get s x := rfl

/-! ## What the updates write -/

@[simp] theorem stamp_clk (s : State) (t : Nat) : (stamp s t).clk = max s.clk t := rfl
@[simp] theorem useFree_free (s : State) : (useFree s).free = s.free + 1 := rfl
theorem put_regs (s : State) (f : Fld) (v : Nat) : (put s f v).regs = regsPut s.regs f v := rfl

end Sys2Proof.Machine
end

