-- ==== Sys2Proof/Laws/TickBase.lean ====
section
/-! SUPPORT. That the shared operations leave the tick number alone: register and memory writes, and loops of steps that
each leave it alone. -/

namespace Sys2Proof.Machine

theorem put_tickNo (s : State) (f : Fld) (v : Nat) : (put s f v).tick.no = s.tick.no := rfl

theorem foldl_tickNo {α : Type} (l : List α) (f : State → α → State) (s : State)
    (hf : ∀ (s : State) (a : α), (f s a).tick.no = s.tick.no) : (l.foldl f s).tick.no = s.tick.no := by
  induction l generalizing s with
  | nil => rfl
  | cons a l ih => rw [List.foldl_cons, ih, hf]

theorem forN_tickNo (n : Nat) (f : Nat → State → State) (s : State) (hf : ∀ (i : Nat) (s : State), (f i s).tick.no = s.tick.no) :
    (forN n f s).tick.no = s.tick.no := foldl_tickNo _ _ s fun s i => hf i s

theorem fsWrite_tickNo (s : State) (a : Nat) (bs : List Byte) : (fsWrite s a bs).tick.no = s.tick.no := rfl

theorem ssmWrite_tickNo (s : State) (a : Nat) (bs : List Byte) : (ssmWrite s a bs).tick.no = s.tick.no := rfl

theorem ite_tickNo {c : Prop} [Decidable c] {a b : State} {q : Nat} (ha : a.tick.no = q) (hb : b.tick.no = q) :
    (if c then a else b).tick.no = q := by split <;> assumption

theorem ite2_tickNo {α : Type} {c : Prop} [Decidable c] {a b : α × State} {q : Nat} (ha : a.2.tick.no = q)
    (hb : b.2.tick.no = q) : (if c then a else b).2.tick.no = q := by split <;> assumption

end Sys2Proof.Machine
end

