-- ==== Sys2Proof/Laws/TickNoOps.lean ====
section
/-! SUPPORT. That the operations of Machine/Ops.lean leave the tick number alone. -/

namespace Sys2Proof.Machine

theorem setF_tickNo (s : State) (f : Fld) : (setF s f).tick.no = s.tick.no := by
  unfold setF
  grind [put_tickNo]

theorem clrF_tickNo (s : State) (f : Fld) : (clrF s f).tick.no = s.tick.no := by
  unfold clrF
  grind [put_tickNo]

theorem bumpBy_tickNo (s : State) (f : Fld) (n : Nat) : (bumpBy s f n).tick.no = s.tick.no := by
  unfold bumpBy
  grind [put_tickNo]

theorem bump_tickNo (s : State) (f : Fld) : (bump s f).tick.no = s.tick.no := by
  unfold bump
  grind [bumpBy_tickNo]

theorem putMax_tickNo (s : State) (f : Fld) (v : Nat) : (putMax s f v).tick.no = s.tick.no := by
  unfold putMax
  grind [put_tickNo]

theorem put2_tickNo (s : State) (lo hi : Fld) (v : Nat) : (put2 s lo hi v).tick.no = s.tick.no := by
  unfold put2
  grind [put_tickNo]

theorem putInt_tickNo (s : State) (f : Fld) (i : Int) : (putInt s f i).tick.no = s.tick.no := by
  unfold putInt
  grind [put_tickNo]

theorem useFree_tickNo (s : State) : (useFree s).tick.no = s.tick.no := by
  unfold useFree
  grind

theorem stamp_tickNo (s : State) (t : Nat) : (stamp s t).tick.no = s.tick.no := by
  unfold stamp
  grind

theorem answered_tickNo (s : State) (o : Host.Outcome State Fault Refusal) (h2 : ∀ t, o = .next t → t.tick.no = s.tick.no) (t' : State) (ht' : answered s o = .next t') : t'.tick.no = s.tick.no := by
  unfold answered at *
  grind

theorem raise_tickNo (s : State) (src : Nat) : (raise s src).tick.no = s.tick.no := by
  unfold raise
  grind [put_tickNo]

theorem raiseP_tickNo (s : State) (p k : Nat) : (raiseP s p k).tick.no = s.tick.no := by
  unfold raiseP
  grind [raise_tickNo]

theorem modCfg_tickNo (s : State) (p : Nat) (f : CfgSt → CfgSt) : (modCfg s p f).tick.no = s.tick.no := by
  unfold modCfg
  grind

theorem raiseAll_tickNo (s : State) (k : Nat) : (raiseAll s k).tick.no = s.tick.no := by
  unfold raiseAll
  grind [forN_tickNo, raiseP_tickNo]

theorem fltFirst_tickNo (s : State) (f : Nat) : (fltFirst s f).tick.no = s.tick.no := by
  unfold fltFirst
  grind [put_tickNo, put2_tickNo]

theorem fltNotify_tickNo (s : State) (f : Nat) : (fltNotify s f).tick.no = s.tick.no := by
  unfold fltNotify
  grind [bump_tickNo, fltFirst_tickNo, raise_tickNo]

theorem fault_tickNo (s : State) (f : Nat) : (fault s f).tick.no = s.tick.no := by
  unfold fault
  grind [fltNotify_tickNo, put_tickNo]

end Sys2Proof.Machine
end

