-- ==== Sys2Proof/Laws/TickNoXlate.lean ====
section
/-! SUPPORT. That the operations of Machine/Xlate.lean leave the tick number alone. -/

namespace Sys2Proof.Machine

theorem modPH_tickNo (s : State) (p : Nat) (f : PartHost → PartHost) : (modPH s p f).tick.no = s.tick.no := by
  unfold modPH
  grind

theorem xfault_tickNo (s : State) (p addr : Nat) (write : Bool) (req : HostReq) (cause level region : Nat) : (xfault s p addr write req cause level region).tick.no = s.tick.no := by
  unfold xfault
  grind [bump_tickNo, fault_tickNo, modPH_tickNo, raiseP_tickNo]

theorem startWalk_tickNo (s : State) (p page : Nat) : (startWalk s p page).tick.no = s.tick.no := by
  unfold startWalk
  grind [bump_tickNo]

theorem startOp_tickNo (s : State) (p : Nat) (req : HostReq) (addr len : Nat) (write : Bool) (bytes : List Byte) : (startOp s p req addr len write bytes).tick.no = s.tick.no := by
  unfold startOp
  grind

theorem dropOp_tickNo (s : State) (id : Nat) : (dropOp s id).tick.no = s.tick.no := by
  unfold dropOp
  grind

theorem setOp_tickNo (s : State) (o : HostOp) : (setOp s o).tick.no = s.tick.no := by
  unfold setOp
  grind

theorem modSq_tickNo (s : State) (p r : Nat) (f : SqSt → SqSt) : (modSq s p r f).tick.no = s.tick.no := by
  unfold modSq
  grind [modPH_tickNo]

theorem modCq_tickNo (s : State) (p r : Nat) (f : CqSt → CqSt) : (modCq s p r f).tick.no = s.tick.no := by
  unfold modCq
  grind [modPH_tickNo]

theorem sqFinish_tickNo (s : State) (p r : Nat) : (sqFinish s p r).tick.no = s.tick.no := by
  unfold sqFinish
  grind [modSq_tickNo, setF_tickNo]

theorem complWritten_tickNo (s : State) (p cq : Nat) : (complWritten s p cq).tick.no = s.tick.no := by
  unfold complWritten
  grind [modCq_tickNo, put_tickNo]

theorem cqStop_tickNo (s : State) (p r : Nat) : (cqStop s p r).tick.no = s.tick.no := by
  unfold cqStop
  grind [bumpBy_tickNo, clrF_tickNo]

theorem complete_tickNo (s : State) (c : RingCmd) (status result : Nat) : (complete s c status result).tick.no = s.tick.no := by
  unfold complete
  grind [bump_tickNo, sqFinish_tickNo, startOp_tickNo]

theorem dropCmd_tickNo (s : State) (c : RingCmd) : (dropCmd s c).tick.no = s.tick.no := by
  unfold dropCmd
  grind

theorem withCmd_tickNo (s : State) (p r id opc : Nat) (f : RingCmd → State → State) (h6 : ∀ (x0 : RingCmd) (s : State), (f x0 s).tick.no = s.tick.no) : (withCmd s p r id opc f).tick.no = s.tick.no := by
  unfold withCmd
  grind [dropCmd_tickNo]

end Sys2Proof.Machine
end

