-- ==== Sys2Proof/Laws/TickNoSeqCore.lean ====
section
/-! SUPPORT. That the operations of Machine/SeqCore.lean leave the tick number alone. -/

namespace Sys2Proof.Machine

theorem modSeq_tickNo (s : State) (q : Nat) (f : SeqSt → SeqSt) : (modSeq s q f).tick.no = s.tick.no := by
  unfold modSeq
  grind

theorem modPair_tickNo (s : State) (q p : Nat) (f : PairSt → PairSt) : (modPair s q p f).tick.no = s.tick.no := by
  unfold modPair
  grind [modSeq_tickNo]

theorem modPart_tickNo (s : State) (p : Nat) (f : PartSt → PartSt) : (modPart s p f).tick.no = s.tick.no := by
  unfold modPart
  grind

theorem setStandby_tickNo (s : State) (q p : Nat) (i : Option (List Byte)) : (setStandby s q p i).tick.no = s.tick.no := by
  unfold setStandby
  grind [modPair_tickNo]

theorem setActive_tickNo (s : State) (q p : Nat) (i : Option (List Byte)) : (setActive s q p i).tick.no = s.tick.no := by
  unfold setActive
  grind [modPair_tickNo]

theorem noteExcess_tickNo (s : State) (q p : Nat) : (noteExcess s q p).tick.no = s.tick.no := by
  unfold noteExcess
  grind [bump_tickNo, modPair_tickNo]

theorem charge_tickNo (s : State) (q p n : Nat) : (charge s q p n).tick.no = s.tick.no := by
  unfold charge
  grind [modSeq_tickNo, noteExcess_tickNo]

theorem pick_tickNo (s : State) (q : Nat) : (pick s q).tick.no = s.tick.no := by
  unfold pick
  grind [modSeq_tickNo, noteExcess_tickNo, put_tickNo]

theorem drainOne_tickNo (s : State) (q p : Nat) : (drainOne s q p).tick.no = s.tick.no := by
  unfold drainOne
  grind [modPair_tickNo, ssmWrite_tickNo]

theorem drainAll_tickNo (s : State) (q p : Nat) : (drainAll s q p).tick.no = s.tick.no := by
  unfold drainAll
  grind [foldl_tickNo, modPair_tickNo, ssmWrite_tickNo]

theorem leave_tickNo (s : State) (q p st : Nat) : (leave s q p st).tick.no = s.tick.no := by
  unfold leave
  grind [drainAll_tickNo, modSeq_tickNo, pick_tickNo, put_tickNo]

theorem progFault_tickNo (s : State) (q p cause pc addr : Nat) : (progFault s q p cause pc addr).tick.no = s.tick.no := by
  unfold progFault
  grind [fault_tickNo, leave_tickNo, modPair_tickNo, put_tickNo, put2_tickNo, raiseP_tickNo]

theorem setGreg_tickNo (s : State) (q p r v : Nat) : (setGreg s q p r v).tick.no = s.tick.no := by
  unfold setGreg
  grind [modPair_tickNo]

theorem wake_tickNo (s : State) (q p v : Nat) : (wake s q p v).tick.no = s.tick.no := by
  unfold wake
  grind [modPair_tickNo, pick_tickNo, progFault_tickNo, put_tickNo, setGreg_tickNo]

theorem tagIssue_tickNo (s : State) (o tag : Nat) : (tagIssue s o tag).tick.no = s.tick.no := by
  unfold tagIssue
  grind [modPart_tickNo]

theorem tagPost_tickNo (s : State) (o tag : Nat) : (tagPost s o tag).tick.no = s.tick.no := by
  unfold tagPost
  grind [modPart_tickNo, wake_tickNo]

theorem bellRing_tickNo (s : State) (o k : Nat) : (bellRing s o k).tick.no = s.tick.no := by
  unfold bellRing
  grind [modPart_tickNo, wake_tickNo]

theorem modTimer_tickNo (s : State) (o t : Nat) (f : Timer → Timer) : (modTimer s o t f).tick.no = s.tick.no := by
  unfold modTimer
  grind [modPart_tickNo]

theorem tmrLose_tickNo (s : State) (o t n : Nat) : (tmrLose s o t n).tick.no = s.tick.no := by
  unfold tmrLose
  grind [bumpBy_tickNo, modTimer_tickNo]

theorem tmrExpire_tickNo (s : State) (o t : Nat) : (tmrExpire s o t).tick.no = s.tick.no := by
  unfold tmrExpire
  grind [put_tickNo, tmrLose_tickNo, wake_tickNo]

theorem tmrCancel_tickNo (s : State) (o t : Nat) : (tmrCancel s o t).tick.no = s.tick.no := by
  unfold tmrCancel
  grind [modTimer_tickNo, put_tickNo, tmrLose_tickNo]

theorem tmrLoad_tickNo (s : State) (o t mode ns c : Nat) : (tmrLoad s o t mode ns c).tick.no = s.tick.no := by
  unfold tmrLoad
  grind [modTimer_tickNo, put_tickNo, put2_tickNo, tmrCancel_tickNo]

theorem tmrNext_tickNo (s : State) (o t : Nat) : (tmrNext s o t).tick.no = s.tick.no := by
  unfold tmrNext
  grind [modTimer_tickNo, put_tickNo]

theorem setCaps_tickNo (s : State) (o e : Nat) (l : List Nat) : (setCaps s o e l).tick.no = s.tick.no := by
  unfold setCaps
  grind [modPart_tickNo, put_tickNo]

theorem edgeTake_tickNo (s : State) (o e stamp : Nat) : (edgeTake s o e stamp).tick.no = s.tick.no := by
  unfold edgeTake
  grind [bump_tickNo, put_tickNo, put2_tickNo, setCaps_tickNo, stamp_tickNo, wake_tickNo]

theorem setLevel_tickNo (s : State) (o e : Nat) (l : Option Bool) : (setLevel s o e l).tick.no = s.tick.no := by
  unfold setLevel
  grind [modPart_tickNo]

theorem edgeFlush_tickNo (s : State) (o e : Nat) : (edgeFlush s o e).tick.no = s.tick.no := by
  unfold edgeFlush
  grind [bumpBy_tickNo, setCaps_tickNo]

theorem edgeDisarm_tickNo (s : State) (o e : Nat) : (edgeDisarm s o e).tick.no = s.tick.no := by
  unfold edgeDisarm
  grind [edgeFlush_tickNo, put_tickNo]

end Sys2Proof.Machine
end

