-- ==== Sys2Proof/Laws/TickNoLysilo.lean ====
section
/-! SUPPORT. That the operations of Machine/Lysilo.lean leave the tick number alone. -/

namespace Sys2Proof.Machine

theorem seqRun_tickNo (s : State) (q : Nat) (ecc : Ecc) (w : Nat) (k : Nat → State → State) (h5 : ∀ (x0 : Nat) (s : State), (k x0 s).tick.no = s.tick.no) : (seqRun s q ecc w k).tick.no = s.tick.no := by
  unfold seqRun
  grind [bump_tickNo, fault_tickNo, progFault_tickNo, stamp_tickNo]

theorem seqGoto_tickNo (s : State) (q p pc : Nat) : (seqGoto s q p pc).tick.no = s.tick.no := by
  unfold seqGoto
  grind [modPair_tickNo, progFault_tickNo]

theorem seqNext_tickNo (s : State) (q p n : Nat) : (seqNext s q p n).tick.no = s.tick.no := by
  unfold seqNext
  grind [charge_tickNo, seqGoto_tickNo]

theorem seqWrite_tickNo (s : State) (q p rd v n : Nat) : (seqWrite s q p rd v n).tick.no = s.tick.no := by
  unfold seqWrite
  grind [seqNext_tickNo, setGreg_tickNo]

theorem stallCycles_tickNo (s : State) : (stallCycles s).2.tick.no = s.tick.no := by
  unfold stallCycles
  grind [useFree_tickNo]

theorem ssmLoad_tickNo (s : State) (q p a n : Nat) : (ssmLoad s q p a n).2.tick.no = s.tick.no := by
  unfold ssmLoad
  grind [drainOne_tickNo, forN_tickNo]

theorem ssmStore_tickNo (s : State) (q p a : Nat) (bs : List Byte) : (ssmStore s q p a bs).2.tick.no = s.tick.no := by
  unfold ssmStore
  grind [drainOne_tickNo, modPair_tickNo, stallCycles_tickNo]

theorem devRun_tickNo (s : State) (q p rd cost : Nat) (f : State → Nat × State)
    (hf : ∀ s : State, (f s).2.tick.no = s.tick.no) : (devRun s q p rd cost f).tick.no = s.tick.no := by
  simp only [devRun]
  exact ite_tickNo (by rw [seqWrite_tickNo, drainAll_tickNo]) (by rw [seqWrite_tickNo, hf, drainAll_tickNo])

end Sys2Proof.Machine
end

