-- ==== Sys2Proof/Laws/TickNoPool.lean ====
section
/-! SUPPORT. That the operations of Machine/Pool.lean leave the tick number alone. -/

namespace Sys2Proof.Machine

theorem setRef_tickNo (s : State) (b : Nat) (r : BufRef) : (setRef s b r).tick.no = s.tick.no := by
  unfold setRef
  grind

theorem lowWater_tickNo (s : State) (old new level src : Nat) : (lowWater s old new level src).tick.no = s.tick.no := by
  unfold lowWater
  grind [raise_tickNo]

theorem setFree_tickNo (s : State) (ess : Bool) (n : Nat) : (setFree s ess n).tick.no = s.tick.no := by
  unfold setFree
  grind [lowWater_tickNo, put_tickNo]

theorem freeBuf_tickNo (s : State) (b : Nat) : (freeBuf s b).tick.no = s.tick.no := by
  unfold freeBuf
  grind [fsWrite_tickNo, setFree_tickNo, setRef_tickNo]

theorem breakList_tickNo (s : State) (ess : Bool) : (breakList s ess).tick.no = s.tick.no := by
  unfold breakList
  grind [fault_tickNo, put_tickNo, raise_tickNo]

theorem takeHead_tickNo (s : State) (ess : Bool) (b nxt : Nat) (holder : Option Nat) : (takeHead s ess b nxt holder).tick.no = s.tick.no := by
  unfold takeHead
  grind [setFree_tickNo, setRef_tickNo]

theorem poolAlloc_tickNo (s : State) (ess : Bool) (holder : Option Nat) : (poolAlloc s ess holder).2.tick.no = s.tick.no := by
  unfold poolAlloc
  grind [breakList_tickNo, takeHead_tickNo]

theorem poolRefuse_tickNo (s : State) (b kind : Nat) : (poolRefuse s b kind).tick.no = s.tick.no := by
  unfold poolRefuse
  grind [bump_tickNo, put_tickNo, raise_tickNo]

theorem poolAdd_tickNo (s : State) (b : Nat) (holder : Option Nat) : (poolAdd s b holder).2.tick.no = s.tick.no := by
  unfold poolAdd
  grind [poolRefuse_tickNo, setRef_tickNo]

theorem dropRef_tickNo (s : State) (b : Nat) (r : BufRef) : (dropRef s b r).tick.no = s.tick.no := by
  unfold dropRef
  grind [freeBuf_tickNo, setRef_tickNo]

theorem poolRelease_tickNo (s : State) (b : Nat) (holder : Option Nat) : (poolRelease s b holder).2.tick.no = s.tick.no := by
  unfold poolRelease
  grind [dropRef_tickNo, poolRefuse_tickNo]

theorem releaseAll_tickNo (s : State) (bs : List Nat) : (releaseAll s bs).tick.no = s.tick.no := by
  unfold releaseAll
  grind [foldl_tickNo, poolRelease_tickNo]

theorem poolSweep_tickNo (s : State) (p : Nat) : (poolSweep s p).tick.no = s.tick.no := by
  unfold poolSweep
  grind [dropRef_tickNo, foldl_tickNo]

theorem threadList_tickNo (s : State) (l : List Nat) : (threadList s l).tick.no = s.tick.no := by
  induction l with
  | nil => rfl
  | cons b bs ih => rw [threadList, fsWrite_tickNo, ih]


theorem execPoolInit_tickNo (s : State) (t' : State) (ht' : execPoolInit s = .next t') : t'.tick.no = s.tick.no := by
  unfold execPoolInit at *
  grind [answered_tickNo, clrF_tickNo, put_tickNo, setF_tickNo]

theorem execPoolInitDone_tickNo (essOrder genOrder : List Nat) (s : State) (t' : State) (ht' : execPoolInitDone essOrder genOrder s = .next t') : t'.tick.no = s.tick.no := by
  unfold execPoolInitDone at *
  grind [clrF_tickNo, setFree_tickNo, threadList_tickNo]

theorem execPoolIncrement_tickNo (buf : Nat) (holder : Option Part) (s : State) (t' : State) (ht' : execPoolIncrement buf holder s = .next t') : t'.tick.no = s.tick.no := by
  unfold execPoolIncrement at *
  grind [poolAdd_tickNo]

theorem execPoolDecrement_tickNo (buf : Nat) (holder : Option Part) (s : State) (t' : State) (ht' : execPoolDecrement buf holder s = .next t') : t'.tick.no = s.tick.no := by
  unfold execPoolDecrement at *
  grind [poolRelease_tickNo]

end Sys2Proof.Machine
end

