-- ==== Sys2Proof/Laws/TickNoStrandCore.lean ====
section
/-! SUPPORT. That the operations of Machine/StrandCore.lean leave the tick number alone. -/

namespace Sys2Proof.Machine

theorem modStrand_tickNo (s : State) (n : Nat) (f : StrandSt → StrandSt) : (modStrand s n f).tick.no = s.tick.no := by
  unfold modStrand
  grind

theorem modLane_tickNo (s : State) (l : Nat) (f : Lane → Lane) : (modLane s l f).tick.no = s.tick.no := by
  unfold modLane
  grind [put_tickNo]

theorem poolStat_tickNo (s : State) : (poolStat s).tick.no = s.tick.no := by
  unfold poolStat
  grind [put_tickNo]

theorem setStrState_tickNo (s : State) (n st : Nat) : (setStrState s n st).tick.no = s.tick.no := by
  unfold setStrState
  grind [poolStat_tickNo, put_tickNo]

theorem writeRecord_tickNo (s : State) (part q space a : Nat) (bs : List Byte) : (writeRecord s part q space a bs).tick.no = s.tick.no := by
  unfold writeRecord
  grind [fsWrite_tickNo, ssmWrite_tickNo, startOp_tickNo]

theorem jobRecord_tickNo (s : State) (j : Job) (status failRow outcome strand epoch detail : Nat) : (jobRecord s j status failRow outcome strand epoch detail).tick.no = s.tick.no := by
  unfold jobRecord
  grind [raiseP_tickNo, tagPost_tickNo, writeRecord_tickNo]

theorem showJob_tickNo (s : State) (n : Nat) (opc part tag : Nat) : (showJob s n opc part tag).tick.no = s.tick.no := by
  unfold showJob
  grind [put_tickNo]

theorem freeStrand_tickNo (s : State) (n : Nat) : (freeStrand s n).tick.no = s.tick.no := by
  unfold freeStrand
  grind [modStrand_tickNo, showJob_tickNo]

theorem endTestJob_tickNo (s : State) (n status detail : Nat) : (endTestJob s n status detail).tick.no = s.tick.no := by
  unfold endTestJob
  grind [jobRecord_tickNo]

theorem abandonTest_tickNo (s : State) (n : Nat) : (abandonTest s n).tick.no = s.tick.no := by
  unfold abandonTest
  grind [endTestJob_tickNo, modStrand_tickNo, put_tickNo]

theorem giveLane_tickNo (s : State) (l n : Nat) : (giveLane s l n).tick.no = s.tick.no := by
  unfold giveLane
  grind [abandonTest_tickNo, modStrand_tickNo, put_tickNo, setStrState_tickNo]

theorem bumpEpoch_tickNo (s : State) (l : Nat) : (bumpEpoch s l).tick.no = s.tick.no := by
  unfold bumpEpoch
  grind [put_tickNo]

theorem takeover_tickNo (s : State) (l n : Nat) : (takeover s l n).tick.no = s.tick.no := by
  unfold takeover
  grind [bumpEpoch_tickNo, forN_tickNo, giveLane_tickNo, modLane_tickNo, modStrand_tickNo, put_tickNo, setStrState_tickNo]

theorem takeoverDue_tickNo (s : State) (n : Nat) : (takeoverDue s n).tick.no = s.tick.no := by
  unfold takeoverDue
  grind [takeover_tickNo]

theorem endJob_tickNo (s : State) (n l : Nat) (status failRow outcome detail : Nat) : (endJob s n l status failRow outcome detail).tick.no = s.tick.no := by
  unfold endJob
  grind [freeStrand_tickNo, jobRecord_tickNo, modLane_tickNo, takeoverDue_tickNo]

theorem stopDeadJobs_tickNo (s : State) : (stopDeadJobs s).tick.no = s.tick.no := by
  unfold stopDeadJobs
  grind [endJob_tickNo, forN_tickNo]

theorem modJob_tickNo (s : State) (l : Nat) (f : Job → Job) : (modJob s l f).tick.no = s.tick.no := by
  unfold modJob
  grind [modLane_tickNo]

theorem fsWrites_tickNo (s : State) (ws : List (Nat × List Byte)) : (fsWrites s ws).tick.no = s.tick.no := by
  unfold fsWrites
  grind [foldl_tickNo, fsWrite_tickNo]

theorem setFrame_tickNo (s : State) (x : FrameFix) : (setFrame s x).tick.no = s.tick.no := by
  unfold setFrame
  grind

theorem setClip_tickNo (s : State) (x : ClipFix) : (setClip s x).tick.no = s.tick.no := by
  unfold setClip
  grind

theorem declareFray_tickNo (s : State) (n cause : Nat) : (declareFray s n cause).tick.no = s.tick.no := by
  unfold declareFray
  grind [bump_tickNo, fault_tickNo, modStrand_tickNo, put_tickNo]

theorem fray_tickNo (s : State) (n cause : Nat) : (fray s n cause).tick.no = s.tick.no := by
  unfold fray
  grind [declareFray_tickNo, modStrand_tickNo, setStrState_tickNo]

end Sys2Proof.Machine
end

