-- ==== Sys2Proof/Laws/TickNoAdmission.lean ====
section
/-! SUPPORT. That the operations of Machine/Admission.lean leave the tick number alone. -/

namespace Sys2Proof.Machine

theorem noteRefusal_tickNo (s : State) (part : Nat) (r : Refused) : (noteRefusal s part r).tick.no = s.tick.no := by
  unfold noteRefusal
  grind [bump_tickNo, put_tickNo]

theorem overcommitSet_tickNo (s : State) : (overcommitSet s).tick.no = s.tick.no := by
  unfold overcommitSet
  grind [raise_tickNo, setF_tickNo]

theorem overcommitCheck_tickNo (s : State) : (overcommitCheck s).tick.no = s.tick.no := by
  unfold overcommitCheck
  grind [overcommitSet_tickNo]

theorem overcommitTest_tickNo (s : State) : (overcommitTest s).tick.no = s.tick.no := by
  unfold overcommitTest
  grind [clrF_tickNo, overcommitSet_tickNo]

end Sys2Proof.Machine
end

