-- ==== Sys2Proof/Laws/TickNoStrandEnc.lean ====
section
/-! SUPPORT. That the operations of Machine/StrandEnc.lean leave the tick number alone. -/

namespace Sys2Proof.Machine

theorem issueJob_tickNo (s : State) (q part space a : Nat) (d : List Byte) : (issueJob s q part space a d).2.tick.no = s.tick.no := by
  unfold issueJob
  grind [modLane_tickNo, tagIssue_tickNo, writeRecord_tickNo]

theorem fixFrame_tickNo (s : State) (j : Job) : (fixFrame s j).tick.no = s.tick.no := by
  unfold fixFrame
  grind [setClip_tickNo, setFrame_tickNo]

theorem fixDecoded_tickNo (s : State) (j : Job) : (fixDecoded s j).tick.no = s.tick.no := by
  unfold fixDecoded
  grind

theorem startCount_tickNo (s : State) (l : Nat) (f : FrameId) (b : Nat) : (startCount s l f b).tick.no = s.tick.no := by
  unfold startCount
  grind [modLane_tickNo, put_tickNo]

theorem loadBand_tickNo (s : State) (n l : Nat) (j : Job) : (loadBand s n l j).tick.no = s.tick.no := by
  unfold loadBand
  grind [fault_tickNo, modStrand_tickNo]

theorem startJob_tickNo (s : State) (n : Nat) : (startJob s n).tick.no = s.tick.no := by
  unfold startJob
  grind [endJob_tickNo, fixDecoded_tickNo, fixFrame_tickNo, loadBand_tickNo, modLane_tickNo, modStrand_tickNo, showJob_tickNo, startCount_tickNo]

theorem startRoutine_tickNo (s : State) (n kind entry : Nat) (regs : List (Nat × Nat)) : (startRoutine s n kind entry regs).tick.no = s.tick.no := by
  unfold startRoutine
  grind [foldl_tickNo, modStrand_tickNo, put_tickNo]

theorem startPre_tickNo (s : State) (n : Nat) (d y : List Byte) (row : Nat) : (startPre s n d y row).tick.no = s.tick.no := by
  unfold startPre
  grind [modStrand_tickNo, startRoutine_tickNo]

theorem startMeta_tickNo (s : State) (n : Nat) (d : List Byte) (x : Staged) : (startMeta s n d x).tick.no = s.tick.no := by
  unfold startMeta
  grind [modStrand_tickNo, startRoutine_tickNo]

theorem encRow_tickNo (s : State) (n : Nat) (hits : List (Nat × Nat × Nat × Nat)) (upset : List (Nat × Byte)) :
    (encRow s n hits upset).tick.no = s.tick.no := by
  have hl : ∀ (s : State) (o : Option Nat) (b : BandSt), (match o with
      | some l => endJob s n l jsBadOpcode 0xFFFF 0 b.runBytes
      | none => s).tick.no = s.tick.no := by
    intro s o b
    cases o
    · rfl
    · exact endJob_tickNo ..
  unfold encRow
  cases jobOf s n with
  | none => rfl
  | some a =>
    simp only
    cases (strandOf s n).band with
    | none => rfl
    | some b =>
      simp only
      cases findFrame s b.frame with
      | none => rfl
      | some f =>
        simp only
        refine ite_tickNo rfl (ite_tickNo (ite_tickNo (startPre_tickNo ..) (hl ..)) (ite_tickNo (fray_tickNo ..) ?_))
        refine ite_tickNo (ite_tickNo ?_ ?_) ?_
        · exact (startMeta_tickNo ..).trans (modStrand_tickNo ..)
        · exact (hl ..).trans (modStrand_tickNo ..)
        · exact modStrand_tickNo ..

theorem noteMiss_tickNo (s : State) (f : FrameId) (b row n : Nat) : (noteMiss s f b row n).tick.no = s.tick.no := by
  unfold noteMiss
  grind [fault_tickNo]

theorem noteMatch_tickNo (s : State) (f : FrameId) (b row : Nat) : (noteMatch s f b row).tick.no = s.tick.no := by
  unfold noteMatch
  grind

theorem echoDone_tickNo (s : State) (n : Nat) : (echoDone s n).tick.no = s.tick.no := by
  unfold echoDone
  grind [bump_tickNo, fray_tickNo, modStrand_tickNo, noteMatch_tickNo, noteMiss_tickNo, put_tickNo, setF_tickNo]

/-- A run of writes leaves the tick number alone. -/
theorem writeRun_tickNo (list fuel : Nat) (s : State) (buf off total : Nat) (bs : List Byte) (s' : State)
    (b' o' t' : Nat) (h : writeRun list fuel s buf off total bs = .done s' b' o' t') : s'.tick.no = s.tick.no := by
  induction fuel generalizing s buf off total bs with
  | zero =>
    unfold writeRun at h
    split at h
    · cases h; rfl
    · cases h
  | succ fuel ih =>
    unfold writeRun at h
    split at h
    · cases h; rfl
    · split at h
      · rw [ih _ _ _ _ _ h, fsWrite_tickNo]
      · simp only at h
        split at h
        · cases h
        · split at h
          · cases h
          · rename_i b s2 hp
            have := poolAlloc_tickNo s true none
            rw [hp] at this
            rw [ih _ _ _ _ _ h, fsWrite_tickNo]
            exact this

theorem noteGap_tickNo (s : State) (l t : Nat) : (noteGap s l t).tick.no = s.tick.no := by
  unfold noteGap
  grind [modLane_tickNo, put_tickNo, putMax_tickNo]

theorem countRow_tickNo (s : State) (n l : Nat) (b : BandSt) (waited t : Nat) (ovf damaged : Bool) : (countRow s n l b waited t ovf damaged).tick.no = s.tick.no := by
  unfold countRow
  grind [modJob_tickNo, modLane_tickNo, modStrand_tickNo, noteGap_tickNo, put_tickNo, putMax_tickNo, setFrame_tickNo]

theorem endIfLast_tickNo (s : State) (n l : Nat) (y : List Byte) (rows detail : Nat) : (endIfLast s n l y rows detail).tick.no = s.tick.no := by
  unfold endIfLast
  grind [endJob_tickNo]

theorem commitEnc_tickNo (s : State) (n l : Nat) (j : Job) (f : FrameFix) (b : BandSt) (z : Staged) (waited t : Nat) :
    (commitEnc s n l j f b z waited t).tick.no = s.tick.no := by
  unfold commitEnc
  split
  · split
    · exact breakList_tickNo ..
    · rfl
  · exact endJob_tickNo ..
  · rename_i s' b' o' t' hw
    have hs := writeRun_tickNo _ _ _ _ _ _ _ _ _ _ _ hw
    have hm : (match z.metaRow with
      | some m => if jHookMeta j.desc then fsWrite s' (jMetaBuf j.desc + 64 * z.row) m else s'
      | none => s').tick.no = s.tick.no := by
      split
      · split
        · rw [fsWrite_tickNo, hs]
        · exact hs
      · exact hs
    rw [endIfLast_tickNo, countRow_tickNo, fsWrite_tickNo]
    split
    · exact hm
    · rw [fsWrites_tickNo]; exact hm

end Sys2Proof.Machine
end

