-- ==== Sys2Proof/Laws/TickNoStrandDec.lean ====
section
/-! SUPPORT. That the operations of Machine/StrandDec.lean leave the tick number alone. -/

namespace Sys2Proof.Machine

/-- Marks and writes row by row leave the tick number alone. -/
theorem foldl_snd_tickNo {α β : Type} (l : List α) (f : β × State → α → β × State) (a : β × State)
    (hf : ∀ (a : β × State) (x : α), (f a x).2.tick.no = a.2.tick.no) : (l.foldl f a).2.tick.no = a.2.tick.no := by
  induction l generalizing a with
  | nil => rfl
  | cons x l ih => rw [List.foldl_cons, ih, hf]

theorem decLearn_tickNo (s : State) (w : DecWork) : (decLearn s w).tick.no = s.tick.no := by
  unfold decLearn
  grind

theorem decStage_tickNo (s : State) (n : Nat) (b : BandSt) (w : DecWork) (z : Staged) : (decStage s n b w z).tick.no = s.tick.no := by
  unfold decStage
  grind [bumpBy_tickNo, decLearn_tickNo, modStrand_tickNo]

theorem decRow_tickNo (s : State) (n : Nat) : (decRow s n).tick.no = s.tick.no := by
  unfold decRow
  grind [decStage_tickNo]

theorem putMarks_tickNo (s : State) (df : DecFrame) (map : Nat) (b : BandSt) (row : Nat) (codes : List Nat) : (putMarks s df map b row codes).2.tick.no = s.tick.no := by
  unfold putMarks
  grind [fsWrite_tickNo]

theorem fillRows_tickNo (s : State) (d : List Byte) (df : DecFrame) (b : BandSt) : (fillRows s d df b).2.2.tick.no = s.tick.no := by
  unfold fillRows
  simp only
  split
  · rfl
  · refine foldl_snd_tickNo _ _ _ ?_
    rintro ⟨df, s⟩ ⟨q, sm⟩
    simp only
    rw [putMarks_tickNo, fsWrites_tickNo]

theorem closeDecoded_tickNo (s : State) (df : DecFrame) (map : Nat) : (closeDecoded s df map).tick.no = s.tick.no := by
  unfold closeDecoded
  grind [fsWrite_tickNo, raiseP_tickNo]

theorem ckptBottom_tickNo (s : State) (df : DecFrame) (dst : Nat) (b : BandSt) : (ckptBottom s df dst b).2.tick.no = s.tick.no := by
  unfold ckptBottom
  grind [useFree_tickNo]

theorem commitDec_tickNo (s : State) (n l : Nat) (j : Job) (df : DecFrame) (b : BandSt) (z : Staged) (waited t : Nat) :
    (commitDec s n l j df b z waited t).tick.no = s.tick.no := by
  have hm : (z.marks.foldl (fun (x : DecFrame × State) m => putMarks x.2 x.1 (jRate j.desc) b m.1 m.2) (df, fsWrites s z.writes)).2.tick.no
      = s.tick.no := (foldl_snd_tickNo _ _ _ fun a x => putMarks_tickNo _ _ _ _ _ _).trans (fsWrites_tickNo ..)
  simp only [commitDec]
  generalize z.marks.foldl (fun (x : DecFrame × State) m => putMarks x.2 x.1 (jRate j.desc) b m.1 m.2) (df, fsWrites s z.writes) = a at hm
  have hc := (fillRows_tickNo a.2 j.desc a.1 b).trans hm
  generalize fillRows a.2 j.desc a.1 b = c at hc
  have hb := fun df dst b => (ckptBottom_tickNo c.2.2 df dst b).trans hc
  have hw := fun df dst b a v => (fsWrite_tickNo (ckptBottom c.2.2 df dst b).2 a v).trans (hb df dst b)
  have hx : ∀ (x : State) (y : Strands), x.tick.no = s.tick.no → (State.mk x.regs x.clk x.free x.rdata x.sent x.fs x.ssm x.tick x.hub x.host
    x.pool x.mov x.movRestart x.dram x.pins y x.seqs x.mags x.sbd x.intake x.sup x.areas x.pending).tick.no = s.tick.no := fun _ _ h => h
  refine (endIfLast_tickNo ..).trans ((countRow_tickNo ..).trans ?_)
  exact ite_tickNo ((closeDecoded_tickNo ..).trans (hx _ _ (hw ..))) (hx _ _ (hw ..))

theorem rowCommit_tickNo (s : State) (n : Nat) (writes waited t : Nat) : (rowCommit s n writes waited t).tick.no = s.tick.no := by
  unfold rowCommit
  dsimp only
  cases (strandOf s n).staged.head? with
  | none => exact ite_tickNo (bumpBy_tickNo ..) rfl
  | some z =>
    refine ite_tickNo (c := ¬ z.handed) rfl (ite_tickNo ((bumpBy_tickNo ..).trans (modStrand_tickNo ..)) ?_)
    have key : ∀ (o : Option (Nat × Job)) (b : Option BandSt) (k : Nat → Job → BandSt → State),
      (∀ l j b, (k l j b).tick.no = s.tick.no) →
      (match o, b with
      | some (l, j), some b => k l j b
      | _, _ => s).tick.no = s.tick.no := by
      intro o b k hk
      cases o with
      | none => rfl
      | some o => cases b with
        | none => rfl
        | some b => exact hk _ _ _
    refine key _ _ _ ?_
    intro l j b
    cases z.after with
    | some b' =>
      simp only
      cases findDec s b.frame with
      | none => rfl
      | some df => exact commitDec_tickNo ..
    | none =>
      simp only
      cases findFrame s b.frame with
      | none => rfl
      | some f => exact ite_tickNo rfl (commitEnc_tickNo ..)

theorem echoJob_tickNo (s : State) (n : Nat) : (echoJob s n).tick.no = s.tick.no := by
  unfold echoJob
  grind [endJob_tickNo, modJob_tickNo, raiseP_tickNo, useFree_tickNo]

theorem loadCtx_tickNo (s : State) (n : Nat) : (loadCtx s n).tick.no = s.tick.no := by
  unfold loadCtx
  grind [endJob_tickNo, modLane_tickNo, modStrand_tickNo, put_tickNo, startCount_tickNo]

theorem saveCtx_tickNo (s : State) (n : Nat) : (saveCtx s n).tick.no = s.tick.no := by
  unfold saveCtx
  grind [ckptBottom_tickNo, endJob_tickNo, fsWrite_tickNo]

end Sys2Proof.Machine
end

