-- ==== Sys2Proof/Laws/TickNoMicro.lean ====
section
/-! SUPPORT. That the operations of Machine/Micro.lean leave the tick number alone. -/

namespace Sys2Proof.Machine

theorem customFault_tickNo (s : State) (n : Nat) : (customFault s n).tick.no = s.tick.no := by
  unfold customFault
  dsimp only
  have h := rowCommit_tickNo s n 0 0 s.clk
  cases jobOf (rowCommit s n 0 0 s.clk) n with
  | none => exact h
  | some x => exact (endJob_tickNo ..).trans h


theorem uIllegal_tickNo (s : State) (n : Nat) (store : Bool) : (uIllegal s n store).tick.no = s.tick.no := by
  unfold uIllegal
  grind [customFault_tickNo, fray_tickNo]

theorem romReturn_tickNo (s : State) (n : Nat) : (romReturn s n).tick.no = s.tick.no := by
  unfold romReturn
  grind [put_tickNo, useFree_tickNo]

theorem routineEnd_tickNo (s : State) (n : Nat) : (routineEnd s n).tick.no = s.tick.no := by
  unfold routineEnd
  grind [endJob_tickNo, modStrand_tickNo, romReturn_tickNo]

theorem uHand_tickNo (s : State) (n : Nat) : (uHand s n).tick.no = s.tick.no := by
  unfold uHand
  grind [bump_tickNo, fsWrite_tickNo, modStrand_tickNo]

theorem uData_tickNo (s : State) (n : Nat) (w : MicroWord) : (uData s n w).tick.no = s.tick.no := by
  unfold uData
  grind [modStrand_tickNo, useFree_tickNo]

theorem uDispatchTo_tickNo (s : State) (n : Nat) : (uDispatchTo s n).tick.no = s.tick.no := by
  unfold uDispatchTo
  grind [endJob_tickNo, modStrand_tickNo, put_tickNo, routineEnd_tickNo]

theorem uNext_tickNo (s : State) (n pc : Nat) (w : MicroWord) (taken : Bool) : (uNext s n pc w taken).tick.no = s.tick.no := by
  unfold uNext
  grind [modStrand_tickNo, put_tickNo, routineEnd_tickNo, uDispatchTo_tickNo]

theorem uWord_tickNo (s : State) (n pc : Nat) (w : MicroWord) (eng : Bool) : (uWord s n pc w eng).tick.no = s.tick.no := by
  unfold uWord
  grind [customFault_tickNo, uData_tickNo, uHand_tickNo, uIllegal_tickNo, uNext_tickNo]

theorem storeUe_tickNo (s : State) (n : Nat) : (storeUe s n).tick.no = s.tick.no := by
  unfold storeUe
  grind [bump_tickNo, fray_tickNo]

theorem startCustom_tickNo (s : State) (n : Nat) : (startCustom s n).tick.no = s.tick.no := by
  unfold startCustom
  grind [endJob_tickNo, modStrand_tickNo, startRoutine_tickNo]

end Sys2Proof.Machine
end

