-- ==== Sys2Proof/Laws/TickNoSplice.lean ====
section
/-! SUPPORT. That the operations of Machine/Splice.lean leave the tick number alone. -/

namespace Sys2Proof.Machine

theorem resetStrand_tickNo (s : State) (n : Nat) : (resetStrand s n).tick.no = s.tick.no := by
  unfold resetStrand
  grind [modStrand_tickNo]

theorem beginTest_tickNo (s : State) (n kind : Nat) : (beginTest s n kind).tick.no = s.tick.no := by
  unfold beginTest
  grind [modStrand_tickNo, put_tickNo]

theorem startTest_tickNo (s : State) (n : Nat) : (startTest s n).tick.no = s.tick.no := by
  unfold startTest
  grind [beginTest_tickNo]

theorem testDone_tickNo (s : State) (n part sig : Nat) : (testDone s n part sig).tick.no = s.tick.no := by
  unfold testDone
  grind [endJob_tickNo, endTestJob_tickNo, fray_tickNo, modStrand_tickNo, put_tickNo, setF_tickNo, setStrState_tickNo]

theorem spareTests_tickNo (s : State) (t : Nat) : (spareTests s t).tick.no = s.tick.no := by
  unfold spareTests
  grind [beginTest_tickNo, forN_tickNo, stamp_tickNo]

theorem restartRow_tickNo (s : State) (n : Nat) : (restartRow s n).tick.no = s.tick.no := by
  unfold restartRow
  grind [bump_tickNo, modStrand_tickNo]

theorem sramUe_tickNo (s : State) (n : Nat) : (sramUe s n).tick.no = s.tick.no := by
  unfold sramUe
  grind [bump_tickNo, fray_tickNo, modStrand_tickNo, restartRow_tickNo]

theorem strandReadError_tickNo (s : State) (n : Nat) : (strandReadError s n).tick.no = s.tick.no := by
  unfold strandReadError
  dsimp only
  cases jobOf s n with
  | none => rfl
  | some x =>
    exact ite_tickNo rfl (ite_tickNo ((restartRow_tickNo ..).trans (modStrand_tickNo ..)) ((endJob_tickNo ..).trans (rowCommit_tickNo ..)))


theorem noCommit_tickNo (s : State) (n waited t : Nat) : (noCommit s n waited t).tick.no = s.tick.no := by
  unfold noCommit
  grind [fray_tickNo, putMax_tickNo, stamp_tickNo]

theorem shareLane_tickNo (s : State) (n l : Nat) : (shareLane s n l).tick.no = s.tick.no := by
  unfold shareLane
  grind [put_tickNo, setF_tickNo]

theorem passLane_tickNo (s : State) (n l cause : Nat) : (passLane s n l cause).tick.no = s.tick.no := by
  unfold passLane
  grind [bump_tickNo, bumpEpoch_tickNo, giveLane_tickNo, modLane_tickNo, put_tickNo, shareLane_tickNo, takeover_tickNo]

theorem isolate_tickNo (s : State) (n : Nat) (unack : Bool) : (isolate s n unack).tick.no = s.tick.no := by
  unfold isolate
  grind [modStrand_tickNo, put_tickNo, resetStrand_tickNo, setStrState_tickNo]

theorem splice_tickNo (s : State) (unack : Bool) : (splice s unack).tick.no = s.tick.no := by
  unfold splice
  grind [endJob_tickNo, foldl_tickNo, isolate_tickNo, overcommitSet_tickNo, passLane_tickNo]

theorem trimRun_tickNo (s : State) (list outBuf : Nat) : (trimRun s list outBuf).tick.no = s.tick.no := by
  unfold trimRun
  grind [foldl_tickNo, fsWrite_tickNo, poolRelease_tickNo]

theorem resumeJob_tickNo (s : State) (n l : Nat) (j : Job) : (resumeJob s n l j).tick.no = s.tick.no := by
  unfold resumeJob
  grind [endJob_tickNo, fault_tickNo, modLane_tickNo, modStrand_tickNo, showJob_tickNo, trimRun_tickNo]

theorem restoreLane_tickNo (s : State) (n : Nat) : (restoreLane s n).tick.no = s.tick.no := by
  unfold restoreLane
  grind [modLane_tickNo, resumeJob_tickNo, startOp_tickNo]

theorem descReread_tickNo (s : State) (l : Nat) (data : Option (List Byte)) : (descReread s l data).tick.no = s.tick.no := by
  unfold descReread
  grind [modLane_tickNo, restoreLane_tickNo]

theorem readyStrands_tickNo (s : State) : (readyStrands s).tick.no = s.tick.no := by
  unfold readyStrands
  grind [foldl_tickNo, setStrState_tickNo]

theorem moveLane_tickNo (s : State) (l m : Nat) : (moveLane s l m).tick.no = s.tick.no := by
  unfold moveLane
  grind [freeStrand_tickNo, giveLane_tickNo, modLane_tickNo]

theorem assignLanes_tickNo (s : State) : (assignLanes s).tick.no = s.tick.no := by
  unfold assignLanes
  grind [clrF_tickNo, foldl_tickNo, forN_tickNo, freeStrand_tickNo, modStrand_tickNo, moveLane_tickNo, put_tickNo, setF_tickNo, setStrState_tickNo, shareLane_tickNo]

theorem boundaryLanes_tickNo (s : State) : (boundaryLanes s).tick.no = s.tick.no := by
  unfold boundaryLanes
  grind [assignLanes_tickNo, forN_tickNo, moveLane_tickNo, put_tickNo, readyStrands_tickNo]

theorem strReset_tickNo (s : State) (n : Nat) (v : Nat) : (strReset s n v).tick.no = s.tick.no := by
  unfold strReset
  grind [abandonTest_tickNo, resetStrand_tickNo, setF_tickNo]

theorem strQuarSet_tickNo (s : State) (v : Nat) : (strQuarSet s v).tick.no = s.tick.no := by
  unfold strQuarSet
  grind [abandonTest_tickNo, setF_tickNo, setStrState_tickNo]

theorem strReadmit_tickNo (s : State) (v : Nat) : (strReadmit s v).tick.no = s.tick.no := by
  unfold strReadmit
  grind [put_tickNo, resetStrand_tickNo]

theorem strTestReq_tickNo (s : State) (v : Nat) : (strTestReq s v).tick.no = s.tick.no := by
  unfold strTestReq
  grind [beginTest_tickNo, modLane_tickNo, put_tickNo, takeover_tickNo, takeoverDue_tickNo]

theorem strPoolWrite_tickNo (s : State) (v : Nat) : (strPoolWrite s v).tick.no = s.tick.no := by
  unfold strPoolWrite
  grind [put_tickNo, setF_tickNo]

theorem osData2_tickNo (s : State) (v : Nat) : (osData2 s v).tick.no = s.tick.no := by
  unfold osData2
  grind [put_tickNo, setF_tickNo]

end Sys2Proof.Machine
end

