-- ==== Sys2Proof/Laws/TickNoMagCore.lean ====
section
/-! SUPPORT. That the operations of Machine/MagCore.lean leave the tick number alone. -/

namespace Sys2Proof.Machine

theorem modMag_tickNo (s : State) (n : Nat) (f : MagSt → MagSt) : (modMag s n f).tick.no = s.tick.no := by
  unfold modMag
  grind

theorem modSess_tickNo (s : State) (n : Nat) (f : Session → Session) : (modSess s n f).tick.no = s.tick.no := by
  unfold modSess
  grind [modMag_tickNo]

theorem magAccrue_tickNo (s : State) (n : Nat) : (magAccrue s n).tick.no = s.tick.no := by
  unfold magAccrue
  grind [modMag_tickNo]

theorem addCmd_tickNo (s : State) (n op : Nat) (r : NvReq) : (addCmd s n op r).tick.no = s.tick.no := by
  unfold addCmd
  grind [magAccrue_tickNo, modMag_tickNo, putMax_tickNo]

theorem addOp_tickNo (s : State) (n : Nat) (kind : MagKind) (steps : List MagStep) (code : Nat) : (addOp s n kind steps code).tick.no = s.tick.no := by
  unfold addOp
  grind [modMag_tickNo]

theorem modMop_tickNo (s : State) (n id : Nat) (f : MagOp → MagOp) : (modMop s n id f).tick.no = s.tick.no := by
  unfold modMop
  grind [modMag_tickNo]

theorem dropMop_tickNo (s : State) (n id : Nat) : (dropMop s n id).tick.no = s.tick.no := by
  unfold dropMop
  grind [modMag_tickNo]

theorem prepend_tickNo (s : State) (n id : Nat) (l : List MagStep) : (prepend s n id l).tick.no = s.tick.no := by
  unfold prepend
  grind [modMop_tickNo]

theorem headerSteps_tickNo (s : State) (n : Nat) (dirty : Bool) : (headerSteps s n dirty).1.tick.no = s.tick.no := by
  unfold headerSteps
  grind [modSess_tickNo]

theorem spoolRecord_tickNo (s : State) (sp : SpoolReq) (status flags member bytes : Nat) : (spoolRecord s sp status flags member bytes).tick.no = s.tick.no := by
  unfold spoolRecord
  grind [writeRecord_tickNo]

theorem spoolDone_tickNo (s : State) (sp : SpoolReq) (status flags member bytes : Nat) : (spoolDone s sp status flags member bytes).tick.no = s.tick.no := by
  unfold spoolDone
  grind [raiseP_tickNo, spoolRecord_tickNo, tagPost_tickNo]

theorem modClip_tickNo (s : State) (id : Nat) (f : Clip → Clip) : (modClip s id f).tick.no = s.tick.no := by
  unfold modClip
  grind

theorem modMem_tickNo (s : State) (id n : Nat) (f : ClipMem → ClipMem) : (modMem s id n f).tick.no = s.tick.no := by
  unfold modMem
  grind [modClip_tickNo]

theorem showSpace_tickNo (s : State) (n : Nat) : (showSpace s n).tick.no = s.tick.no := by
  unfold showSpace
  grind [put_tickNo, raise_tickNo, setF_tickNo]

theorem takeAu_tickNo (s : State) (n num : Nat) (chain : List Nat) (r' : Nat × State)
    (hr' : takeAu s n num chain = some r') : r'.2.tick.no = s.tick.no := by
  simp only [takeAu, Option.map_eq_some_iff] at hr'
  obtain ⟨u, _, rfl⟩ := hr'
  exact modSess_tickNo ..

theorem extendChain_tickNo (n num need fuel : Nat) (s : State) (chain new : List Nat) :
    (extendChain n num need fuel s chain new).1.tick.no = s.tick.no := by
  induction fuel generalizing s chain new with
  | zero => rfl
  | succ fuel ih =>
    unfold extendChain
    split
    · rfl
    · cases ht : takeAu s n num chain with
      | none => rfl
      | some r => exact (ih r.2 _ _).trans (takeAu_tickNo _ _ _ _ _ ht)

theorem dropDue_tickNo (s : State) (n why : Nat) : (dropDue s n why).tick.no = s.tick.no := by
  unfold dropDue
  grind [modMag_tickNo]

theorem writeMap_tickNo (s : State) (n : Nat) (chain new : List Nat) : (writeMap s n chain new).tick.no = s.tick.no := by
  unfold writeMap
  grind [addOp_tickNo, modMag_tickNo, showSpace_tickNo]

theorem placeRecord_tickNo (s : State) (c : Clip) (n : Nat) (r : RecReq) : (placeRecord s c n r).tick.no = s.tick.no := by
  unfold placeRecord
  cases memOf c n with
  | none => rfl
  | some m =>
    simp only
    have he := extendChain_tickNo n c.num (m.next + (1 + ceilDiv r.metaB.length 4096 + ceilDiv r.ess.length 4096) +
      b2n ((m.ents.length + 1) % 96 == 0) + 2) ((1 + ceilDiv r.metaB.length 4096 + ceilDiv r.ess.length 4096) / auBlocks + 2) s
      m.chain []
    generalize extendChain n c.num (m.next + (1 + ceilDiv r.metaB.length 4096 + ceilDiv r.ess.length 4096) +
      b2n ((m.ents.length + 1) % 96 == 0) + 2) ((1 + ceilDiv r.metaB.length 4096 + ceilDiv r.ess.length 4096) / auBlocks + 2) s
      m.chain [] = e at he
    have hw := (writeMap_tickNo e.1 n e.2.1 e.2.2.1).trans he
    have hd : (if e.2.2.2 then writeMap e.1 n e.2.1 e.2.2.1 else
        dropDue (setF (writeMap e.1 n e.2.1 e.2.2.1) (R.MAG_STAT_LOWSPACE n)) n 4).tick.no = s.tick.no :=
      ite_tickNo hw ((dropDue_tickNo ..).trans ((setF_tickNo ..).trans hw))
    exact ite_tickNo ((addOp_tickNo ..).trans ((modMem_tickNo ..).trans hd)) ((addOp_tickNo ..).trans ((modMem_tickNo ..).trans hd))

theorem modFrame_tickNo (s : State) (t : Nat) (f : Frame → Frame) : (modFrame s t f).tick.no = s.tick.no := by
  unfold modFrame
  grind

theorem modClipFrame_tickNo (s : State) (t clip : Nat) (f : ClipFrame → ClipFrame) : (modClipFrame s t clip f).tick.no = s.tick.no := by
  unfold modClipFrame
  grind [modFrame_tickNo]

theorem clipIndex_tickNo (s : State) (id n : Nat) : (clipIndex s id n).tick.no = s.tick.no := by
  unfold clipIndex
  grind [addOp_tickNo]

theorem issueReady_tickNo (s : State) (n : Nat) (r : Ready) : (issueReady s n r).tick.no = s.tick.no := by
  unfold issueReady
  grind [modMag_tickNo]

theorem startWhip1_tickNo (s : State) (c : Clip) (n : Nat) (m : ClipMem) : (startWhip1 s c n m).tick.no = s.tick.no := by
  unfold startWhip1
  grind [addOp_tickNo, issueReady_tickNo, modMem_tickNo]

theorem startWhip2_tickNo (s : State) (c : Clip) (n : Nat) (m : ClipMem) : (startWhip2 s c n m).tick.no = s.tick.no := by
  unfold startWhip2
  grind [addOp_tickNo, headerSteps_tickNo, modMem_tickNo, modSess_tickNo]

theorem clipProgress_tickNo (s : State) (id : Nat) : (clipProgress s id).tick.no = s.tick.no := by
  unfold clipProgress
  grind [foldl_tickNo, modClip_tickNo, startWhip1_tickNo, startWhip2_tickNo]

theorem clipsProgress_tickNo (s : State) : (clipsProgress s).tick.no = s.tick.no := by
  unfold clipsProgress
  grind [clipProgress_tickNo, foldl_tickNo]

theorem whipClip_tickNo (s : State) (id : Nat) : (whipClip s id).tick.no = s.tick.no := by
  unfold whipClip
  grind [clipProgress_tickNo, modClip_tickNo]

theorem renewReady_tickNo (s : State) (n : Nat) : (renewReady s n).tick.no = s.tick.no := by
  unfold renewReady
  grind [modMag_tickNo]

theorem dropReady_tickNo (s : State) (id n : Nat) : (dropReady s id n).tick.no = s.tick.no := by
  unfold dropReady
  grind [modMag_tickNo]

end Sys2Proof.Machine
end

