-- ==== Sys2Proof/Laws/TickNoSbdCore.lean ====
section
/-! SUPPORT. That the operations of Machine/SbdCore.lean leave the tick number alone. -/

namespace Sys2Proof.Machine

theorem modSbd_tickNo (s : State) (n : Nat) (f : SbdSt → SbdSt) : (modSbd s n f).tick.no = s.tick.no := by
  unfold modSbd
  grind

theorem addXfer_tickNo (s : State) (n : Nat) (use : SbdUse) (dev addr : Nat) (write : List Byte) (read : Nat) : (addXfer s n use dev addr write read).tick.no = s.tick.no := by
  unfold addXfer
  grind [modSbd_tickNo]

theorem idCompare_tickNo (s : State) (n : Nat) (sn : List Byte) (nsze : Nat) : (idCompare s n sn nsze).tick.no = s.tick.no := by
  unfold idCompare
  grind [raise_tickNo, setF_tickNo]

theorem lifeEu_tickNo (s : State) (n duw : Nat) : (lifeEu s n duw).2.tick.no = s.tick.no := by
  unfold lifeEu
  grind [useFree_tickNo]

theorem lifeUpdate_tickNo (s : State) (n pct duw : Nat) : (lifeUpdate s n pct duw).tick.no = s.tick.no := by
  unfold lifeUpdate
  grind [clrF_tickNo, fault_tickNo, lifeEu_tickNo, modSbd_tickNo, put_tickNo, raise_tickNo, setF_tickNo]

theorem wearPut_tickNo (s : State) (n i : Nat) (e : List Byte) : (wearPut s n i e).tick.no = s.tick.no := by
  unfold wearPut
  grind [addXfer_tickNo, modSbd_tickNo]

theorem wearOpened_tickNo (s : State) (n : Nat) (es : List (List Byte)) : (wearOpened s n es).tick.no = s.tick.no := by
  unfold wearOpened
  grind [modSbd_tickNo, wearPut_tickNo]

theorem wearClosed_tickNo (s : State) (n : Nat) : (wearClosed s n).tick.no = s.tick.no := by
  unfold wearClosed
  grind [modSbd_tickNo, wearPut_tickNo]

end Sys2Proof.Machine
end

