-- ==== Sys2Proof/Laws/TickNoMagRun.lean ====
section
/-! SUPPORT. That the operations of Machine/MagRun.lean leave the tick number alone. -/

namespace Sys2Proof.Machine

theorem portIdle_tickNo (s : State) (n : Nat) : (portIdle s n).tick.no = s.tick.no := by
  unfold portIdle
  grind [clrF_tickNo, modMag_tickNo, put_tickNo]

theorem openEnd_tickNo (s : State) (n : Nat) (c : RingCmd) (code count : Nat) : (openEnd s n c code count).tick.no = s.tick.no := by
  unfold openEnd
  grind [complete_tickNo, portIdle_tickNo]

theorem portFail_tickNo (s : State) (n : Nat) : (portFail s n).tick.no = s.tick.no := by
  unfold portFail
  grind [fault_tickNo, modMag_tickNo, put_tickNo, raise_tickNo]

theorem freeRec_tickNo (s : State) (r : RecReq) : (freeRec s r).tick.no = s.tick.no := by
  unfold freeRec
  grind [releaseAll_tickNo]

theorem setAnc_tickNo (s : State) (n v : Nat) : (setAnc s n v).tick.no = s.tick.no := by
  unfold setAnc
  grind

theorem dormAbort_tickNo (s : State) (block kind : Nat) : (dormAbort s block kind).tick.no = s.tick.no := by
  unfold dormAbort
  grind [bump_tickNo, put_tickNo, setF_tickNo]

theorem opFail_tickNo (s : State) (n : Nat) (o : MagOp) : (opFail s n o).tick.no = s.tick.no := by
  unfold opFail
  grind [complete_tickNo, dormAbort_tickNo, dropMop_tickNo, modMag_tickNo, openEnd_tickNo, portIdle_tickNo, setAnc_tickNo, spoolDone_tickNo]

theorem cmdFail_tickNo (s : State) (n : Nat) (c : NvCmd) (o : MagOp) : (cmdFail s n c o).tick.no = s.tick.no := by
  unfold cmdFail
  grind [opFail_tickNo, portFail_tickNo]

theorem openHdrs_tickNo (s : State) (n : Nat) (o : MagOp) (c : RingCmd) : (openHdrs s n o c).tick.no = s.tick.no := by
  unfold openHdrs
  grind [dropMop_tickNo, modMag_tickNo, modMop_tickNo, openEnd_tickNo, prepend_tickNo]

theorem openTabs_tickNo (s : State) (n : Nat) (o : MagOp) : (openTabs s n o).tick.no = s.tick.no := by
  unfold openTabs
  grind [modSess_tickNo]

theorem walkNext_tickNo (s : State) (n id : Nat) (todo : List Nat) (count : Nat) : (walkNext s n id todo count).tick.no = s.tick.no := by
  unfold walkNext
  grind [modMop_tickNo, prepend_tickNo]

theorem walkRead_tickNo (s : State) (n id : Nat) (w : RecWalk) : (walkRead s n id w).tick.no = s.tick.no := by
  unfold walkRead
  grind [prepend_tickNo]

theorem walkClose_tickNo (s : State) (n id : Nat) (w : RecWalk) (pre : List MagStep) (last frames footer : Nat) : (walkClose s n id w pre last frames footer).tick.no = s.tick.no := by
  unfold walkClose
  grind [headerSteps_tickNo, modSess_tickNo, prepend_tickNo]

theorem walkFoot_tickNo (s : State) (n id : Nat) (w : RecWalk) (pre : List MagStep) : (walkFoot s n id w pre).tick.no = s.tick.no := by
  unfold walkFoot
  grind [walkClose_tickNo]

theorem walkEnd_tickNo (s : State) (n id : Nat) (w : RecWalk) : (walkEnd s n id w).tick.no = s.tick.no := by
  unfold walkEnd
  grind [extendChain_tickNo, opFail_tickNo, walkFoot_tickNo]

theorem walkStep_tickNo (s : State) (n : Nat) (o : MagOp) (w : RecWalk) : (walkStep s n o w).tick.no = s.tick.no := by
  unfold walkStep
  grind [prepend_tickNo, walkClose_tickNo, walkEnd_tickNo, walkNext_tickNo, walkRead_tickNo]

theorem openDone_tickNo (s : State) (n : Nat) (o : MagOp) (c : RingCmd) : (openDone s n o c).tick.no = s.tick.no := by
  unfold openDone
  grind [addOp_tickNo, clrF_tickNo, dropMop_tickNo, idCompare_tickNo, modMag_tickNo, modSbd_tickNo, openEnd_tickNo, put_tickNo, showSpace_tickNo]

theorem recHeader_tickNo (s : State) (n : Nat) (o : MagOp) (r : RecReq) : (recHeader s n o r).tick.no = s.tick.no := by
  unfold recHeader
  grind [prepend_tickNo]

theorem recDone_tickNo (s : State) (n : Nat) (o : MagOp) (r : RecReq) : (recDone s n o r).tick.no = s.tick.no := by
  unfold recDone
  grind [clipIndex_tickNo, clipProgress_tickNo, dropMop_tickNo, freeRec_tickNo, modClip_tickNo, modClipFrame_tickNo, modMem_tickNo, spoolDone_tickNo]

theorem indexDone_tickNo (s : State) (n id : Nat) : (indexDone s n id).tick.no = s.tick.no := by
  unfold indexDone
  grind [clipIndex_tickNo, clipProgress_tickNo, modMem_tickNo]

theorem rfEnd_tickNo (s : State) (n : Nat) (o : MagOp) (sp : SpoolReq) (status : Nat) (gap : Bool) (bytes : Nat) : (rfEnd s n o sp status gap bytes).tick.no = s.tick.no := by
  unfold rfEnd
  grind [dropMop_tickNo, spoolDone_tickNo]

theorem noteRead_tickNo (s : State) (p : Nat) (h : List Byte) : (noteRead s p h).tick.no = s.tick.no := by
  unfold noteRead
  grind

theorem rfStep_tickNo (s : State) (n : Nat) (o : MagOp) (sp : SpoolReq) (a : MagAct) : (rfStep s n o sp a).tick.no = s.tick.no := by
  unfold rfStep
  cases a <;> grind (splits := 30) [rfEnd_tickNo, prepend_tickNo, noteRead_tickNo, poolAlloc_tickNo, fsWrite_tickNo]

theorem portReturn_tickNo (s : State) (n : Nat) : (portReturn s n).tick.no = s.tick.no := by
  unfold portReturn
  grind [bumpBy_tickNo, modMag_tickNo, put_tickNo, raise_tickNo]

theorem comeBackDone_tickNo (s : State) (n : Nat) : (comeBackDone s n).tick.no = s.tick.no := by
  unfold comeBackDone
  grind [modMag_tickNo, portReturn_tickNo]

theorem gotQueues_tickNo (s : State) (n : Nat) (o : MagOp) : (gotQueues s n o).tick.no = s.tick.no := by
  unfold gotQueues
  grind [prepend_tickNo, put_tickNo]

theorem magAct_tickNo (s : State) (n : Nat) (o : MagOp) (a : MagAct) : (magAct s n o a).tick.no = s.tick.no := by
  unfold magAct
  grind [addXfer_tickNo, bumpBy_tickNo, clipProgress_tickNo, comeBackDone_tickNo, complete_tickNo, dropMop_tickNo, dropReady_tickNo, fsWrite_tickNo, gotQueues_tickNo, headerSteps_tickNo, indexDone_tickNo, lifeUpdate_tickNo, modMag_tickNo, modMem_tickNo, opFail_tickNo, openDone_tickNo, openHdrs_tickNo, openTabs_tickNo, portIdle_tickNo, prepend_tickNo, put_tickNo, raise_tickNo, recDone_tickNo, recHeader_tickNo, rfStep_tickNo, setAnc_tickNo, spoolDone_tickNo, startOp_tickNo, walkNext_tickNo, walkStep_tickNo, wearClosed_tickNo]

theorem fuaAll_tickNo (s : State) (n : Nat) : (fuaAll s n).tick.no = s.tick.no := by
  unfold fuaAll
  grind [clrF_tickNo, raise_tickNo, setF_tickNo]

theorem cacheFlush_tickNo (s : State) (n : Nat) : (cacheFlush s n).tick.no = s.tick.no := by
  unfold cacheFlush
  grind [addOp_tickNo]

theorem magStep_tickNo (s : State) (n : Nat) (o : MagOp) : (magStep s n o).tick.no = s.tick.no := by
  unfold magStep
  grind [addCmd_tickNo, cacheFlush_tickNo, dropMop_tickNo, foldl_tickNo, magAct_tickNo, modMop_tickNo]

theorem magRun_tickNo (fuel : Nat) (s : State) : (magRun fuel s).tick.no = s.tick.no := by
  induction fuel generalizing s with
  | zero => rfl
  | succ fuel ih =>
    unfold magRun
    split
    · rfl
    · rw [ih, magStep_tickNo]


theorem portLose_tickNo (s : State) (n t : Nat) : (portLose s n t).tick.no = s.tick.no := by
  unfold portLose
  grind [bump_tickNo, foldl_tickNo, modMag_tickNo, opFail_tickNo, put_tickNo, raise_tickNo]

theorem rehome_tickNo (s : State) (held : Bool) (r : RecReq) : (rehome s held r).tick.no = s.tick.no := by
  unfold rehome
  grind [bump_tickNo, freeRec_tickNo, modClipFrame_tickNo, placeRecord_tickNo, spoolDone_tickNo]

theorem dropPort_tickNo (s : State) (n t : Nat) : (dropPort s n t).tick.no = s.tick.no := by
  unfold dropPort
  grind [addOp_tickNo, fault_tickNo, foldl_tickNo, modMag_tickNo, opFail_tickNo, portIdle_tickNo, put_tickNo, raise_tickNo, rehome_tickNo]

theorem magDrops_tickNo (s : State) : (magDrops s).tick.no = s.tick.no := by
  unfold magDrops
  grind [clipsProgress_tickNo, dropPort_tickNo, fault_tickNo, foldl_tickNo]

end Sys2Proof.Machine
end

