-- ==== Sys2Proof/Laws/TickNoHub.lean ====
section
/-! SUPPORT. That the operations of Machine/Hub.lean leave the tick number alone. -/

namespace Sys2Proof.Machine

theorem msixSet_tickNo (s : State) (p v w x : Nat) : (msixSet s p v w x).tick.no = s.tick.no := by
  unfold msixSet
  grind

theorem msixMsg_tickNo (s : State) (p v : Nat) : (msixMsg s p v).tick.no = s.tick.no := by
  unfold msixMsg
  grind

theorem msixSend_tickNo (s : State) (p v : Nat) : (msixSend s p v).tick.no = s.tick.no := by
  unfold msixSend
  grind [msixMsg_tickNo]

theorem msixFlush_tickNo (s : State) (p v : Nat) : (msixFlush s p v).tick.no = s.tick.no := by
  unfold msixFlush
  grind [msixMsg_tickNo]

theorem msixMask_tickNo (s : State) (p v : Nat) (m : Bool) : (msixMask s p v m).tick.no = s.tick.no := by
  unfold msixMask
  grind [msixFlush_tickNo]

theorem msixFlushAll_tickNo (s : State) (p : Nat) : (msixFlushAll s p).tick.no = s.tick.no := by
  unfold msixFlushAll
  grind [forN_tickNo, msixFlush_tickNo]

theorem msixControl_tickNo (s : State) (p : Nat) (en hush : Bool) : (msixControl s p en hush).tick.no = s.tick.no := by
  unfold msixControl
  grind [msixFlushAll_tickNo]

theorem assignSrc_tickNo (s : State) (src : Nat) : (assignSrc s src).tick.no = s.tick.no := by
  unfold assignSrc
  grind [msixSend_tickNo]

theorem withdraw_tickNo (s : State) (src : Nat) : (withdraw s src).tick.no = s.tick.no := by
  unfold withdraw
  grind

theorem pendClr_tickNo (s : State) (src : Nat) : (pendClr s src).tick.no = s.tick.no := by
  unfold pendClr
  grind [put_tickNo, withdraw_tickNo]

theorem maskSet_tickNo (s : State) (src : Nat) : (maskSet s src).tick.no = s.tick.no := by
  unfold maskSet
  grind [put_tickNo, withdraw_tickNo]

theorem maskClr_tickNo (s : State) (src : Nat) : (maskClr s src).tick.no = s.tick.no := by
  unfold maskClr
  grind [put_tickNo]

theorem claimSrc_tickNo (s : State) (t src : Nat) : (claimSrc s t src).tick.no = s.tick.no := by
  unfold claimSrc
  grind [put_tickNo]

theorem claimRead_tickNo (s : State) (t : Nat) : (claimRead s t).tick.no = s.tick.no := by
  unfold claimRead
  grind [claimSrc_tickNo]

theorem endSrc_tickNo (s : State) (src : Nat) : (endSrc s src).tick.no = s.tick.no := by
  unfold endSrc
  grind [put_tickNo]

theorem reassign_tickNo (s : State) (src : Nat) : (reassign s src).tick.no = s.tick.no := by
  unfold reassign
  grind [assignSrc_tickNo, withdraw_tickNo]

theorem reassignAll_tickNo (s : State) : (reassignAll s).tick.no = s.tick.no := by
  unfold reassignAll
  grind [forN_tickNo, reassign_tickNo]

theorem setTarget_tickNo (s : State) (t : Nat) (en : Bool) : (setTarget s t en).tick.no = s.tick.no := by
  unfold setTarget
  grind [put_tickNo, reassignAll_tickNo]

theorem pwHubErr_tickNo (s : State) (p : Nat) : (pwHubErr s p).tick.no = s.tick.no := by
  unfold pwHubErr
  grind [bump_tickNo]

theorem inWindow_tickNo (s : State) (p : Nat) (s' : State) (h : s'.tick.no = s.tick.no) : (inWindow s p s').tick.no = s.tick.no :=
  ite_tickNo h rfl

theorem execHubRaise_tickNo (src : Source) (s : State) (t' : State) (ht' : execHubRaise src s = .next t') : t'.tick.no = s.tick.no := by
  unfold execHubRaise at *
  grind [answered_tickNo, raise_tickNo]

theorem execHubPendSet_tickNo (src : Source) (s : State) (t' : State) (ht' : execHubPendSet src s = .next t') : t'.tick.no = s.tick.no := by
  unfold execHubPendSet at *
  grind [answered_tickNo, raise_tickNo]

theorem execHubPendClr_tickNo (src : Source) (s : State) (t' : State) (ht' : execHubPendClr src s = .next t') : t'.tick.no = s.tick.no := by
  unfold execHubPendClr at *
  grind [answered_tickNo, pendClr_tickNo]

theorem execHubMaskSet_tickNo (src : Source) (s : State) (t' : State) (ht' : execHubMaskSet src s = .next t') : t'.tick.no = s.tick.no := by
  unfold execHubMaskSet at *
  grind [answered_tickNo, maskSet_tickNo]

theorem execHubMaskClr_tickNo (src : Source) (s : State) (t' : State) (ht' : execHubMaskClr src s = .next t') : t'.tick.no = s.tick.no := by
  unfold execHubMaskClr at *
  grind [answered_tickNo, maskClr_tickNo]

theorem execHubAssign_tickNo (src : Source) (s : State) (t' : State) (ht' : execHubAssign src s = .next t') : t'.tick.no = s.tick.no := by
  unfold execHubAssign at *
  grind [assignSrc_tickNo]

theorem execHubClaim_tickNo (tgt : Target) (s : State) (t' : State) (ht' : execHubClaim tgt s = .next t') : t'.tick.no = s.tick.no := by
  unfold execHubClaim at *
  grind [answered_tickNo, claimRead_tickNo]

theorem execHubEoi_tickNo (tgt : Target) (src : Source) (s : State) (t' : State) (ht' : execHubEoi tgt src s = .next t') : t'.tick.no = s.tick.no := by
  unfold execHubEoi at *
  grind [answered_tickNo, bump_tickNo, endSrc_tickNo, raise_tickNo]

theorem execHubRouteWrite_tickNo (src : Source) (v : Word32) (s : State) (t' : State) (ht' : execHubRouteWrite src v s = .next t') : t'.tick.no = s.tick.no := by
  unfold execHubRouteWrite at *
  grind [answered_tickNo, put_tickNo, reassign_tickNo]

theorem execHubTgtCtlWrite_tickNo (tgt : Target) (v : Word32) (s : State) (t' : State) (ht' : execHubTgtCtlWrite tgt v s = .next t') : t'.tick.no = s.tick.no := by
  unfold execHubTgtCtlWrite at *
  grind [answered_tickNo, put_tickNo, setTarget_tickNo]

theorem execMsixVectorUnmask_tickNo (p : Part) (vec : Fin 32) (s : State) (t' : State) (ht' : execMsixVectorUnmask p vec s = .next t') : t'.tick.no = s.tick.no := by
  unfold execMsixVectorUnmask at *
  grind [answered_tickNo, inWindow_tickNo, msixMask_tickNo]

theorem execPwHubRaise_tickNo (p : Part) (src : Source) (s : State) (t' : State) (ht' : execPwHubRaise p src s = .next t') : t'.tick.no = s.tick.no := by
  unfold execPwHubRaise at *
  grind [answered_tickNo, inWindow_tickNo, pwHubErr_tickNo, raise_tickNo]

theorem execPwHubPendClr_tickNo (p : Part) (src : Source) (s : State) (t' : State) (ht' : execPwHubPendClr p src s = .next t') : t'.tick.no = s.tick.no := by
  unfold execPwHubPendClr at *
  grind [answered_tickNo, inWindow_tickNo, pendClr_tickNo, pwHubErr_tickNo]

theorem execPwHubMaskSet_tickNo (p : Part) (src : Source) (s : State) (t' : State) (ht' : execPwHubMaskSet p src s = .next t') : t'.tick.no = s.tick.no := by
  unfold execPwHubMaskSet at *
  grind [answered_tickNo, inWindow_tickNo, maskSet_tickNo, pwHubErr_tickNo]

theorem execPwHubMaskClr_tickNo (p : Part) (src : Source) (s : State) (t' : State) (ht' : execPwHubMaskClr p src s = .next t') : t'.tick.no = s.tick.no := by
  unfold execPwHubMaskClr at *
  grind [answered_tickNo, inWindow_tickNo, maskClr_tickNo, pwHubErr_tickNo]

theorem execPwHubClaim_tickNo (p : Part) (s : State) (t' : State) (ht' : execPwHubClaim p s = .next t') : t'.tick.no = s.tick.no := by
  unfold execPwHubClaim at *
  grind [answered_tickNo, claimRead_tickNo, inWindow_tickNo]

theorem execPwHubEoi_tickNo (p : Part) (src : Source) (s : State) (t' : State) (ht' : execPwHubEoi p src s = .next t') : t'.tick.no = s.tick.no := by
  unfold execPwHubEoi at *
  grind [answered_tickNo, endSrc_tickNo, inWindow_tickNo, pwHubErr_tickNo]

end Sys2Proof.Machine
end

