-- ==== Sys2Proof/Laws/TickNoMoverCore.lean ====
section
/-! SUPPORT. That the operations of Machine/MoverCore.lean leave the tick number alone. -/

namespace Sys2Proof.Machine

theorem modCh_tickNo (s : State) (c : Nat) (f : MovCh → MovCh) : (modCh s c f).tick.no = s.tick.no := by
  unfold modCh
  grind

theorem chWriteProg_tickNo (s : State) (c a : Nat) (bs : List Byte) : (chWriteProg s c a bs).tick.no = s.tick.no := by
  unfold chWriteProg
  grind [fsWrite_tickNo, ssmWrite_tickNo, startOp_tickNo]

theorem chReport_tickNo (s : State) (c : Nat) : (chReport s c).tick.no = s.tick.no := by
  unfold chReport
  grind [chWriteProg_tickNo, modCh_tickNo]

theorem chEnd_tickNo (s : State) (c status idx : Nat) : (chEnd s c status idx).tick.no = s.tick.no := by
  unfold chEnd
  grind [modCh_tickNo]

theorem chFail_tickNo (s : State) (c status : Nat) : (chFail s c status).tick.no = s.tick.no := by
  unfold chFail
  grind [chEnd_tickNo]

theorem chFinish_tickNo (s : State) (c : Nat) : (chFinish s c).tick.no = s.tick.no := by
  unfold chFinish
  grind [complete_tickNo, foldl_tickNo, modCh_tickNo, put_tickNo, raise_tickNo]

theorem chReceive_tickNo (s : State) (c : Nat) (i : List Byte) : (chReceive s c i).tick.no = s.tick.no := by
  unfold chReceive
  grind [chFail_tickNo, modCh_tickNo]

theorem chFetch_tickNo (s : State) (c : Nat) : (chFetch s c).tick.no = s.tick.no := by
  unfold chFetch
  grind [chFail_tickNo, chReceive_tickNo, modCh_tickNo, startOp_tickNo]

theorem chGoto_tickNo (s : State) (c idx : Nat) : (chGoto s c idx).tick.no = s.tick.no := by
  unfold chGoto
  grind [chEnd_tickNo, chFetch_tickNo, modCh_tickNo, put_tickNo]

theorem chNext_tickNo (s : State) (c : Nat) : (chNext s c).tick.no = s.tick.no := by
  unfold chNext
  grind [chFail_tickNo, chGoto_tickNo]

theorem chStart_tickNo (s : State) (c space base lo hi : Nat) (cmd : Option RingCmd) : (chStart s c space base lo hi cmd).tick.no = s.tick.no := by
  unfold chStart
  grind [chFetch_tickNo, modCh_tickNo, put_tickNo]

theorem sideWrite_tickNo (s : State) (o c sp a : Nat) (bs : List Byte) : (sideWrite s o c sp a bs).tick.no = s.tick.no := by
  unfold sideWrite
  grind [fsWrite_tickNo, ssmWrite_tickNo, startOp_tickNo]

theorem mvDeliver_tickNo (s : State) (c : Nat) (m : MvMove) (bs : List Byte) : (mvDeliver s c m bs).tick.no = s.tick.no := by
  unfold mvDeliver
  grind [bumpBy_tickNo, chFail_tickNo, chNext_tickNo, modCh_tickNo, poolRelease_tickNo, sideWrite_tickNo]

theorem mvDoMove_tickNo (s : State) (c : Nat) (i : List Byte) : (mvDoMove s c i).tick.no = s.tick.no := by
  unfold mvDoMove
  grind [chFail_tickNo, modCh_tickNo, mvDeliver_tickNo, poolAdd_tickNo, startOp_tickNo]

theorem mvDoLoop_tickNo (s : State) (c : Nat) (i : List Byte) : (mvDoLoop s c i).tick.no = s.tick.no := by
  unfold mvDoLoop
  grind [chFail_tickNo, chGoto_tickNo, chNext_tickNo, modCh_tickNo]

theorem chWaiting_tickNo (s : State) (c t : Nat) : (chWaiting s c t).tick.no = s.tick.no := by
  unfold chWaiting
  grind [modCh_tickNo, put_tickNo]

theorem mvDoWaitSsm_tickNo (s : State) (c t : Nat) (i : List Byte) : (mvDoWaitSsm s c t i).tick.no = s.tick.no := by
  unfold mvDoWaitSsm
  grind [chFail_tickNo, chNext_tickNo, chWaiting_tickNo]

theorem mvSignalAct_tickNo (s : State) (c : Nat) (i : List Byte) : (mvSignalAct s c i).tick.no = s.tick.no := by
  unfold mvSignalAct
  grind [chEnd_tickNo, chFail_tickNo, chNext_tickNo, raise_tickNo, ssmWrite_tickNo]

theorem mvDoSignal_tickNo (s : State) (c : Nat) (i : List Byte) : (mvDoSignal s c i).tick.no = s.tick.no := by
  unfold mvDoSignal
  grind [modCh_tickNo, mvSignalAct_tickNo]

theorem chProgress_tickNo (s : State) (c : Nat) : (chProgress s c).tick.no = s.tick.no := by
  unfold chProgress
  grind [chFinish_tickNo, chNext_tickNo, chReport_tickNo, modCh_tickNo, mvSignalAct_tickNo]

theorem chAllProgress_tickNo (s : State) : (chAllProgress s).tick.no = s.tick.no := by
  unfold chAllProgress
  grind [chProgress_tickNo, forN_tickNo]

theorem chKillOps_tickNo (s : State) (c : Nat) : (chKillOps s c).tick.no = s.tick.no := by
  unfold chKillOps
  grind

theorem movStopAll_tickNo (s : State) : (movStopAll s).tick.no = s.tick.no := by
  unfold movStopAll
  grind [chFail_tickNo, chKillOps_tickNo, forN_tickNo]

theorem movBusError_tickNo (s : State) (addr : Nat) : (movBusError s addr).tick.no = s.tick.no := by
  unfold movBusError
  grind [bump_tickNo, fault_tickNo, movStopAll_tickNo, put_tickNo, put2_tickNo, raise_tickNo]

theorem chReset_tickNo (s : State) (c : Nat) : (chReset s c).tick.no = s.tick.no := by
  unfold chReset
  grind [chKillOps_tickNo, modCh_tickNo, put_tickNo, withdraw_tickNo]

end Sys2Proof.Machine
end

