-- ==== Sys2Proof/Laws/TickNoModeCore.lean ====
section
/-! SUPPORT. That the operations of Machine/ModeCore.lean leave the tick number alone. -/

namespace Sys2Proof.Machine

theorem modeRefuse_tickNo (s : State) (m code : Nat) : (modeRefuse s m code).tick.no = s.tick.no := by
  unfold modeRefuse
  grind [bump_tickNo, put_tickNo, raise_tickNo]

theorem setTransition_tickNo (s : State) (st target : Nat) : (setTransition s st target).tick.no = s.tick.no := by
  unfold setTransition
  grind [put_tickNo]

theorem noTransition_tickNo (s : State) : (noTransition s).tick.no = s.tick.no := by
  unfold noTransition
  grind [leave_tickNo, setTransition_tickNo]

theorem openMember_tickNo (c : Clip) (s : State) (n : Nat) : (openMember c s n).tick.no = s.tick.no := by
  unfold openMember
  cases h : takeAu s n c.num [] with
  | none => rfl
  | some r =>
    have h3 := takeAu_tickNo _ _ _ _ _ h
    obtain ⟨u, s⟩ := r
    simp only at h3
    simp only [modMem_tickNo, addOp_tickNo, modMag_tickNo, headerSteps_tickNo, showSpace_tickNo, modSess_tickNo, h3]

theorem openClip_tickNo (s : State) (q p : Nat) (proxy alaz : Bool) (ports : List Nat) : (openClip s q p proxy alaz ports).tick.no = s.tick.no := by
  unfold openClip
  grind [foldl_tickNo, openMember_tickNo]

theorem openClips_tickNo (s : State) (m : Nat) : (openClips s m).tick.no = s.tick.no := by
  unfold openClips
  grind [foldl_tickNo, openClip_tickNo]

theorem modeProgress_tickNo (s : State) : (modeProgress s).tick.no = s.tick.no := by
  unfold modeProgress
  grind [foldl_tickNo, put_tickNo, whipClip_tickNo]

theorem modeLast_tickNo (s : State) (reason a b : Nat) : (modeLast s reason a b).tick.no = s.tick.no := by
  unfold modeLast
  grind [put_tickNo]

theorem injStop_tickNo (s : State) : (injStop s).tick.no = s.tick.no := by
  unfold injStop
  grind [clrF_tickNo, forN_tickNo]

theorem injDisarm_tickNo (s : State) : (injDisarm s).tick.no = s.tick.no := by
  unfold injDisarm
  grind [injStop_tickNo]

theorem injMode_tickNo (s : State) : (injMode s).tick.no = s.tick.no := by
  unfold injMode
  grind [injStop_tickNo, setF_tickNo]

theorem setMode_tickNo (s : State) (m reason : Nat) : (setMode s m reason).tick.no = s.tick.no := by
  unfold setMode
  grind [injMode_tickNo, modeLast_tickNo, noTransition_tickNo, put_tickNo, put2_tickNo]

theorem haltByMode_tickNo (s : State) (q p : Nat) : (haltByMode s q p).tick.no = s.tick.no := by
  unfold haltByMode
  grind [drainAll_tickNo, modPair_tickNo, modSeq_tickNo, put_tickNo, raiseP_tickNo]

theorem haltExcluded_tickNo (s : State) : (haltExcluded s).tick.no = s.tick.no := by
  unfold haltExcluded
  grind [forN_tickNo, haltByMode_tickNo]

theorem queueReadmit_tickNo (s : State) : (queueReadmit s).tick.no = s.tick.no := by
  unfold queueReadmit
  grind [forN_tickNo]

end Sys2Proof.Machine
end

