-- ==== Sys2Proof/Laws/TickNoSeqDevCore.lean ====
section
/-! SUPPORT. That the operations of Machine/SeqDevCore.lean leave the tick number alone. -/

namespace Sys2Proof.Machine

theorem orFault_tickNo (s : State) (q p cause a : Nat) (k : State → State) (h6 : ∀  (s : State), (k  s).tick.no = s.tick.no) : (orFault s q p cause a k).tick.no = s.tick.no := by
  unfold orFault
  grind [progFault_tickNo]

theorem spoolPass_tickNo (s : State) (sq p : Nat) (r : DescRef) (q : Nat) (d : List Byte) : (spoolPass s sq p r q d).2.tick.no = s.tick.no := by
  unfold spoolPass
  grind [releaseAll_tickNo, spoolRecord_tickNo, tagIssue_tickNo]

theorem descPass_tickNo (s : State) (q p rd : Nat) (r : DescRef) (sel : Option Nat) (d : List Byte) (cost : Nat) : (descPass s q p rd r sel d cost).tick.no = s.tick.no := by
  unfold descPass
  grind [issueJob_tickNo, seqWrite_tickNo, spoolPass_tickNo]

theorem stallDone_tickNo (s : State) (op : Nat) (data : List Byte) : (stallDone s op data).tick.no = s.tick.no := by
  unfold stallDone
  grind [descPass_tickNo, modPair_tickNo, pick_tickNo, seqNext_tickNo, seqWrite_tickNo]

theorem stallFail_tickNo (s : State) (op cause : Nat) : (stallFail s op cause).tick.no = s.tick.no := by
  unfold stallFail
  grind [charge_tickNo, progFault_tickNo]

theorem stallTick_tickNo (s : State) (q p : Nat) : (stallTick s q p).tick.no = s.tick.no := by
  unfold stallTick
  grind [charge_tickNo, modPair_tickNo]

theorem stallAbort_tickNo (s : State) (q p : Nat) : (stallAbort s q p).tick.no = s.tick.no := by
  unfold stallAbort
  grind [modPair_tickNo, pick_tickNo, seqWrite_tickNo]

end Sys2Proof.Machine
end

