-- ==== Sys2Proof/Laws/TickNoAnchorCore.lean ====
section
/-! SUPPORT. That the operations of Machine/AnchorCore.lean leave the tick number alone. -/

namespace Sys2Proof.Machine

theorem ancSkip_tickNo (s : State) (n : Nat) : (ancSkip s n).tick.no = s.tick.no := by
  unfold ancSkip
  grind [modMag_tickNo, put_tickNo, setAnc_tickNo]

theorem ancPort_tickNo (s : State) (n : Nat) : (ancPort s n).tick.no = s.tick.no := by
  unfold ancPort
  grind [addOp_tickNo, ancSkip_tickNo, modMag_tickNo, setAnc_tickNo]

theorem ancPort2_tickNo (s : State) (n : Nat) : (ancPort2 s n).tick.no = s.tick.no := by
  unfold ancPort2
  grind [addOp_tickNo, setAnc_tickNo]

theorem ancEnd_tickNo (s : State) : (ancEnd s).tick.no = s.tick.no := by
  unfold ancEnd
  grind [put_tickNo, raise_tickNo, setF_tickNo]

theorem anchorRun_tickNo (s : State) : (anchorRun s).tick.no = s.tick.no := by
  unfold anchorRun
  grind [ancEnd_tickNo, ancPort_tickNo, ancPort2_tickNo, forN_tickNo]

end Sys2Proof.Machine
end

