-- ==== Sys2Proof/Laws/TickNoInstallCore.lean ====
section
/-! SUPPORT. That the operations of Machine/InstallCore.lean leave the tick number alone. -/

namespace Sys2Proof.Machine

theorem modInstall_tickNo (s : State) (q p : Nat) (f : Install → Install) : (modInstall s q p f).tick.no = s.tick.no := by
  unfold modInstall
  grind [modSeq_tickNo]

theorem installNext_tickNo (s : State) (q : Nat) : (installNext s q).tick.no = s.tick.no := by
  unfold installNext
  grind [modInstall_tickNo, modSeq_tickNo, startOp_tickNo]

theorem installRead_tickNo (s : State) (q p : Nat) (data : List Byte) : (installRead s q p data).tick.no = s.tick.no := by
  unfold installRead
  grind [modInstall_tickNo, modSeq_tickNo, startOp_tickNo]

theorem installEnd_tickNo (s : State) (q p stby word : Nat) : (installEnd s q p stby word).tick.no = s.tick.no := by
  unfold installEnd
  grind [complete_tickNo, installNext_tickNo, modSeq_tickNo, put_tickNo]

theorem installRefuse_tickNo (s : State) (q p word : Nat) : (installRefuse s q p word).tick.no = s.tick.no := by
  unfold installRefuse
  grind [installEnd_tickNo]

theorem installCheck_tickNo (s : State) (q : Nat) : (installCheck s q).tick.no = s.tick.no := by
  unfold installCheck
  grind [installRefuse_tickNo, modInstall_tickNo]

end Sys2Proof.Machine
end

