-- ==== Sys2Proof/Laws/TickNoPump.lean ====
section
/-! SUPPORT. That the operations of Machine/Pump.lean leave the tick number alone. -/

namespace Sys2Proof.Machine

theorem sqFetchFail_tickNo (s : State) (p r code : Nat) : (sqFetchFail s p r code).tick.no = s.tick.no := by
  unfold sqFetchFail
  grind [clrF_tickNo, modSq_tickNo, put_tickNo, raiseP_tickNo, setF_tickNo]

theorem cqWriteFail_tickNo (s : State) (p r : Nat) : (cqWriteFail s p r).tick.no = s.tick.no := by
  unfold cqWriteFail
  grind [cqStop_tickNo, put_tickNo, raiseP_tickNo, setF_tickNo]

theorem chXlate_tickNo (s : State) (c : Nat) (stat : Bool) : (chXlate s c stat).tick.no = s.tick.no := by
  unfold chXlate
  grind [chFail_tickNo, chKillOps_tickNo, modCh_tickNo]

theorem magDirectEnd_tickNo (s : State) (n k st : Nat) : (magDirectEnd s n k st).tick.no = s.tick.no := by
  unfold magDirectEnd
  grind [complete_tickNo, dropMop_tickNo]

theorem opFault_tickNo (s : State) (o : HostOp) : (opFault s o).tick.no = s.tick.no := by
  unfold opFault
  grind [chXlate_tickNo, cqWriteFail_tickNo, descReread_tickNo, dropOp_tickNo, installRefuse_tickNo, magDirectEnd_tickNo, sqFetchFail_tickNo, stallFail_tickNo]

theorem writeIssued_tickNo (s : State) (o : HostOp) : (writeIssued s o).tick.no = s.tick.no := by
  unfold writeIssued
  grind [complWritten_tickNo, dropOp_tickNo, magDirectEnd_tickNo, raiseP_tickNo, stallDone_tickNo]

theorem opIssued_tickNo (s : State) (o : HostOp) : (opIssued s o).tick.no = s.tick.no := by
  unfold opIssued
  grind [setOp_tickNo, writeIssued_tickNo]

theorem accessPage_tickNo (s : State) (o : HostOp) : (accessPage s o).tick.no = s.tick.no := by
  unfold accessPage
  grind [bump_tickNo, opFault_tickNo, opIssued_tickNo, setOp_tickNo, startWalk_tickNo, xfault_tickNo]

theorem opPage_tickNo (s : State) (o : HostOp) : (opPage s o).tick.no = s.tick.no := by
  unfold opPage
  grind [accessPage_tickNo, dropOp_tickNo, opIssued_tickNo]

theorem opRun_tickNo (fuel : Nat) (s : State) : (opRun fuel s).tick.no = s.tick.no := by
  induction fuel generalizing s with
  | zero => rfl
  | succ fuel ih =>
    unfold opRun
    split
    · rfl
    · rw [ih, opPage_tickNo]

theorem resetEnd_tickNo (s : State) (p : Nat) : (resetEnd s p).tick.no = s.tick.no := by
  unfold resetEnd
  grind [bump_tickNo, clrF_tickNo, modPart_tickNo, poolSweep_tickNo, raise_tickNo]

theorem resetsProgress_tickNo (s : State) : (resetsProgress s).tick.no = s.tick.no := by
  unfold resetsProgress
  grind [forN_tickNo, resetEnd_tickNo]

theorem dormProgress_tickNo (s : State) : (dormProgress s).tick.no = s.tick.no := by
  unfold dormProgress
  grind [clrF_tickNo, dormAbort_tickNo, forN_tickNo, setF_tickNo, setMode_tickNo]

theorem hostRun_tickNo (s : State) : (hostRun s).tick.no = s.tick.no := by
  unfold hostRun
  grind [opRun_tickNo]

theorem settleOnce_tickNo (s : State) : (settleOnce s).tick.no = s.tick.no := by
  unfold settleOnce
  grind [anchorRun_tickNo, chAllProgress_tickNo, clipsProgress_tickNo, dormProgress_tickNo, hostRun_tickNo, magRun_tickNo, modeProgress_tickNo, resetsProgress_tickNo]

theorem settle_tickNo (s : State) : (settle s).tick.no = s.tick.no := by
  unfold settle
  grind [settleOnce_tickNo]

theorem finSettle_tickNo (s : State) (t' : State) (ht' : finSettle s = .next t') : t'.tick.no = s.tick.no := by
  unfold finSettle at *
  grind [settle_tickNo]

end Sys2Proof.Machine
end

