-- ==== Sys2Proof/Laws/TickNoDram.lean ====
section
/-! SUPPORT. That the operations of Machine/Dram.lean leave the tick number alone. -/

namespace Sys2Proof.Machine

theorem openRowOf_tickNo (s : State) (a : Nat) : (openRowOf s a).tick.no = s.tick.no := by
  unfold openRowOf
  grind

theorem waitAtPort_tickNo (s : State) (port addr : Nat) (write : Bool) (since level : Nat) : (waitAtPort s port addr write since level).tick.no = s.tick.no := by
  unfold waitAtPort
  grind

theorem portStat_tickNo (s : State) (port ns : Nat) : (portStat s port ns).tick.no = s.tick.no := by
  unfold portStat
  grind [bump_tickNo, putMax_tickNo]

theorem drcUe_tickNo (s : State) (addr : Nat) : (drcUe s addr).tick.no = s.tick.no := by
  unfold drcUe
  grind [bump_tickNo, fault_tickNo, put2_tickNo, raise_tickNo]

theorem readErrorAt_tickNo (s : State) (port unit addr : Nat) : (readErrorAt s port unit addr).tick.no = s.tick.no := by
  unfold readErrorAt
  grind [movBusError_tickNo, strandReadError_tickNo]

theorem requestDone_tickNo (s : State) (port unit addr : Nat) (write : Bool) (since t : Nat) (ce ue : Bool) : (requestDone s port unit addr write since t ce ue).tick.no = s.tick.no := by
  unfold requestDone
  grind [bump_tickNo, drcUe_tickNo, fault_tickNo, openRowOf_tickNo, portStat_tickNo, readErrorAt_tickNo, stamp_tickNo]

theorem setOwed_tickNo (s : State) (b n : Nat) : (setOwed s b n).tick.no = s.tick.no := by
  unfold setOwed
  grind

theorem closeRow_tickNo (s : State) (b : Nat) : (closeRow s b).tick.no = s.tick.no := by
  unfold closeRow
  grind

theorem refreshDue_tickNo (s : State) (b : Nat) (waiting : Bool) : (refreshDue s b waiting).tick.no = s.tick.no := by
  unfold refreshDue
  grind [bump_tickNo, closeRow_tickNo, setOwed_tickNo]

theorem freqRequest_tickNo (s : State) (r : FreqReq) : (freqRequest s r).tick.no = s.tick.no := by
  unfold freqRequest
  grind [put_tickNo]

theorem freqHot_tickNo (s : State) : (freqHot s).tick.no = s.tick.no := by
  unfold freqHot
  grind [put_tickNo]

theorem freqBoundary_tickNo (s : State) : (freqBoundary s).tick.no = s.tick.no := by
  unfold freqBoundary
  grind [overcommitSet_tickNo, put_tickNo, raise_tickNo, setF_tickNo]

theorem freqDone_tickNo (s : State) (relocked : Bool) (t : Nat) : (freqDone s relocked t).tick.no = s.tick.no := by
  unfold freqDone
  grind [bump_tickNo, clrF_tickNo, overcommitCheck_tickNo, put_tickNo, raise_tickNo, setF_tickNo, stamp_tickNo]

theorem putTrained_tickNo (s : State) (k : Nat) (b : Bool) : (putTrained s k b).tick.no = s.tick.no := by
  unfold putTrained
  grind [put_tickNo]

theorem putTset_tickNo (s : State) (k reg v : Nat) : (putTset s k reg v).tick.no = s.tick.no := by
  unfold putTset
  grind [put_tickNo]

theorem execDramRequestDone_tickNo (port : Fin 24) (unit addr : Nat) (write : Bool) (since t : Nat) (ce ue : Bool) (s : State) (t' : State) (ht' : execDramRequestDone port unit addr write since t ce ue s = .next t') : t'.tick.no = s.tick.no := by
  unfold execDramRequestDone at *
  grind [finSettle_tickNo, requestDone_tickNo]

theorem execUrgencyEscalate_tickNo (port : Fin 24) (addr : Nat) (write : Bool) (since t : Nat) (s : State) (t' : State) (ht' : execUrgencyEscalate port addr write since t s = .next t') : t'.tick.no = s.tick.no := by
  unfold execUrgencyEscalate at *
  grind [stamp_tickNo, waitAtPort_tickNo]

theorem execRefreshDue_tickNo (chan bank : Fin 16) (waiting : Bool) (s : State) (t' : State) (ht' : execRefreshDue chan bank waiting s = .next t') : t'.tick.no = s.tick.no := by
  unfold execRefreshDue at *
  grind [refreshDue_tickNo]

theorem execDqsTracking_tickNo (t : Nat) (s : State) (t' : State) (ht' : execDqsTracking t s = .next t') : t'.tick.no = s.tick.no := by
  unfold execDqsTracking at *
  grind [stamp_tickNo]

theorem execMr4Read_tickNo (codes : List (BitVec 3)) (s : State) (t' : State) (ht' : execMr4Read codes s = .next t') : t'.tick.no = s.tick.no := by
  unfold execMr4Read at *
  grind [foldl_tickNo, put_tickNo]

theorem execDrcFreqSet_tickNo (set : Fin 2) (s : State) (t' : State) (ht' : execDrcFreqSet set s = .next t') : t'.tick.no = s.tick.no := by
  unfold execDrcFreqSet at *
  grind [answered_tickNo, freqRequest_tickNo]

theorem execDrcFreqForce_tickNo (set : Fin 2) (s : State) (t' : State) (ht' : execDrcFreqForce set s = .next t') : t'.tick.no = s.tick.no := by
  unfold execDrcFreqForce at *
  grind [answered_tickNo, freqRequest_tickNo]

theorem execDrcFreqCancel_tickNo (s : State) (t' : State) (ht' : execDrcFreqCancel s = .next t') : t'.tick.no = s.tick.no := by
  unfold execDrcFreqCancel at *
  grind [answered_tickNo, put_tickNo]

theorem execFreqChangeDone_tickNo (relocked : Bool) (t : Nat) (s : State) (t' : State) (ht' : execFreqChangeDone relocked t s = .next t') : t'.tick.no = s.tick.no := by
  unfold execFreqChangeDone at *
  grind [freqDone_tickNo]

theorem execDrcTrain_tickNo (v : Word32) (s : State) (t' : State) (ht' : execDrcTrain v s = .next t') : t'.tick.no = s.tick.no := by
  unfold execDrcTrain at *
  grind [answered_tickNo, setF_tickNo]

theorem execTrainingDone_tickNo (ok : Bool) (s : State) (t' : State) (ht' : execTrainingDone ok s = .next t') : t'.tick.no = s.tick.no := by
  unfold execTrainingDone at *
  grind [putTrained_tickNo]

theorem execDrcPortTgtWrite_tickNo (port : Fin 24) (v : Word32) (s : State) (t' : State) (ht' : execDrcPortTgtWrite port v s = .next t') : t'.tick.no = s.tick.no := by
  unfold execDrcPortTgtWrite at *
  grind [answered_tickNo, put_tickNo, setF_tickNo]

theorem execDrcTsetWrite_tickNo (set : Fin 2) (reg : Fin 4) (v : Word32) (s : State) (t' : State) (ht' : execDrcTsetWrite set reg v s = .next t') : t'.tick.no = s.tick.no := by
  unfold execDrcTsetWrite at *
  grind [answered_tickNo, putTrained_tickNo, putTset_tickNo, setF_tickNo]

end Sys2Proof.Machine
end

