-- ==== Sys2Proof/Laws/TickNoPartReset.lean ====
section
/-! SUPPORT. That the operations of Machine/PartReset.lean leave the tick number alone. -/

namespace Sys2Proof.Machine

theorem restoreRange_tickNo (s : State) (sc : Scope) (lo hi : Nat) : (restoreRange s sc lo hi).tick.no = s.tick.no := by
  unfold restoreRange
  grind

theorem removeOp_tickNo (s : State) (n : Nat) (o : MagOp) : (removeOp s n o).tick.no = s.tick.no := by
  unfold removeOp
  grind [dropMop_tickNo, freeRec_tickNo, modMag_tickNo, modMem_tickNo]

theorem spoolReset_tickNo (s : State) (p : Nat) : (spoolReset s p).tick.no = s.tick.no := by
  unfold spoolReset
  grind [foldl_tickNo, forN_tickNo, modMag_tickNo, releaseAll_tickNo, removeOp_tickNo]

theorem jobsReset_tickNo (s : State) (p : Nat) : (jobsReset s p).tick.no = s.tick.no := by
  unfold jobsReset
  grind [forN_tickNo, modLane_tickNo, stopDeadJobs_tickNo]

theorem hubReset_tickNo (s : State) (p : Nat) : (hubReset s p).tick.no = s.tick.no := by
  unfold hubReset
  grind [forN_tickNo, put_tickNo]

theorem cachePurge_tickNo (s : State) (p first pages : Nat) : (cachePurge s p first pages).tick.no = s.tick.no := by
  unfold cachePurge
  grind

theorem accessReset_tickNo (s : State) (p : Nat) : (accessReset s p).tick.no = s.tick.no := by
  unfold accessReset
  grind

theorem ringsReset_tickNo (s : State) (p : Nat) : (ringsReset s p).tick.no = s.tick.no := by
  unfold ringsReset
  grind [modPH_tickNo]

theorem installsReset_tickNo (s : State) (p : Nat) : (installsReset s p).tick.no = s.tick.no := by
  unfold installsReset
  grind [forN_tickNo, installNext_tickNo, modSeq_tickNo]

theorem partReset_tickNo (s : State) (p : Nat) : (partReset s p).tick.no = s.tick.no := by
  unfold partReset
  grind [accessReset_tickNo, chReset_tickNo, forN_tickNo, hubReset_tickNo, injDisarm_tickNo, installsReset_tickNo, jobsReset_tickNo, modPart_tickNo, restoreRange_tickNo, ringsReset_tickNo, setF_tickNo, spoolReset_tickNo, stallAbort_tickNo]

end Sys2Proof.Machine
end

