-- ==== Sys2Proof/Laws/TickNoHost.lean ====
section
/-! SUPPORT. That the operations of Machine/Host.lean leave the tick number alone. -/

namespace Sys2Proof.Machine

theorem readWindow_tickNo (s : State) (p r n : Nat) : (readWindow s p r n).tick.no = s.tick.no := by
  unfold readWindow
  grind [modSq_tickNo, startOp_tickNo]

theorem takeEntry_tickNo (s : State) (p r : Nat) (e : List Byte) : (takeEntry s p r e).tick.no = s.tick.no := by
  unfold takeEntry
  grind [clrF_tickNo, complete_tickNo, modCq_tickNo, modPH_tickNo, modSq_tickNo, put_tickNo]

theorem takeWindow_tickNo (s : State) (p r : Nat) (l : List (List Byte)) : (takeWindow s p r l).tick.no = s.tick.no := by
  induction l generalizing s with
  | nil => exact readWindow_tickNo ..
  | cons e l ih =>
    unfold takeWindow
    split
    · exact (modSq_tickNo ..).trans (put_tickNo ..)
    · split
      · exact modSq_tickNo ..
      · rw [ih, takeEntry_tickNo]

theorem turnPart_tickNo (s : State) (r' : Nat × State) (hr' : turnPart s = some r') : r'.2.tick.no = s.tick.no := by
  unfold turnPart at hr'
  dsimp only at hr'
  have ha := forN_tickNo 8 (fun p s => if partRung s p then s else modPH s p fun h => { h with deficit := 0 }) s
    fun i s => ite_tickNo rfl (modPH_tickNo ..)
  generalize forN 8 (fun p s => if partRung s p then s else modPH s p fun h => { h with deficit := 0 }) s = a at ha hr'
  split at hr'
  · cases hr'; exact ha
  · obtain ⟨p, -, rfl⟩ := Option.map_eq_some_iff.1 hr'
    exact (modPH_tickNo ..).trans ha

theorem turnRing_tickNo (s : State) (p : Nat) (r' : Nat × State) (hr' : turnRing s p = some r') : r'.2.tick.no = s.tick.no := by
  unfold turnRing at hr'
  dsimp only at hr'
  obtain ⟨r, -, rfl⟩ := Option.map_eq_some_iff.1 hr'
  exact (modPH_tickNo ..).trans (ite_tickNo rfl (forN_tickNo _ _ _ fun i s => modSq_tickNo ..))

theorem ringTurn_tickNo (s : State) (r' : (Nat × Nat) × State) (hr' : ringTurn s = some r') : r'.2.tick.no = s.tick.no := by
  unfold ringTurn at hr'
  cases hp : turnPart s with
  | none => rw [hp] at hr'; cases hr'
  | some x =>
    rw [hp] at hr'
    obtain ⟨y, hy, rfl⟩ := Option.map_eq_some_iff.1 hr'
    exact (turnRing_tickNo _ _ _ hy).trans (turnPart_tickNo _ _ hp)

theorem serveRing_tickNo (s : State) (p r : Nat) : (serveRing s p r).tick.no = s.tick.no := by
  unfold serveRing
  refine ite_tickNo rfl ?_
  cases hp : ringTurn s with
  | none => rfl
  | some x => exact ite_tickNo ((readWindow_tickNo ..).trans ((modSq_tickNo ..).trans (ringTurn_tickNo _ _ hp))) rfl

theorem sqEnable_tickNo (s : State) (p r : Nat) : (sqEnable s p r).tick.no = s.tick.no := by
  unfold sqEnable
  grind [modSq_tickNo, put_tickNo, setF_tickNo]

theorem cqEnable_tickNo (s : State) (p r : Nat) : (cqEnable s p r).tick.no = s.tick.no := by
  unfold cqEnable
  grind [modCq_tickNo, put_tickNo, setF_tickNo]

theorem cqHead_tickNo (s : State) (p r v : Nat) : (cqHead s p r v).tick.no = s.tick.no := by
  unfold cqHead
  grind [modCq_tickNo, put_tickNo, setF_tickNo]

theorem walkFault_tickNo (s : State) (p page cause level region : Nat) : (walkFault s p page cause level region).tick.no = s.tick.no := by
  unfold walkFault
  grind [foldl_tickNo, opFault_tickNo, xfault_tickNo]

theorem cacheAdd_tickNo (s : State) (e : CacheEnt) : (cacheAdd s e).tick.no = s.tick.no := by
  unfold cacheAdd
  grind [useFree_tickNo]

theorem walkEnds_tickNo (s : State) (w : Walk) (k : State → State) (h3 : ∀  (s : State), (k  s).tick.no = s.tick.no) : (walkEnds s w k).tick.no = s.tick.no := by
  unfold walkEnds
  grind [startWalk_tickNo, walkFault_tickNo]

theorem tableRead_tickNo (s : State) (w : Walk) (ok : Bool) (v : Nat) : (tableRead s w ok v).tick.no = s.tick.no := by
  unfold tableRead
  grind [cacheAdd_tickNo, walkEnds_tickNo, walkFault_tickNo]

theorem fsCommit_tickNo (s : State) (p pages : Nat) : (fsCommit s p pages).tick.no = s.tick.no := by
  unfold fsCommit
  grind [put_tickNo, setF_tickNo]

theorem ssmCommit_tickNo (s : State) (p base size : Nat) : (ssmCommit s p base size).tick.no = s.tick.no := by
  unfold ssmCommit
  grind [put_tickNo, setF_tickNo]

theorem readReturned_tickNo (s : State) (o : HostOp) (ok : Bool) (data : List Byte) : (readReturned s o ok data).tick.no = s.tick.no := by
  unfold readReturned
  grind [chReceive_tickNo, descReread_tickNo, installRead_tickNo, installRefuse_tickNo, magDirectEnd_tickNo, modMop_tickNo, movBusError_tickNo, mvDeliver_tickNo, sqFetchFail_tickNo, stallDone_tickNo, stallFail_tickNo, takeWindow_tickNo]

theorem execSqDoorbell_tickNo (p : Part) (r : Ring) (s : State) (t' : State) (ht' : execSqDoorbell p r s = .next t') : t'.tick.no = s.tick.no := by
  unfold execSqDoorbell at *
  grind [answered_tickNo, inWindow_tickNo, modSq_tickNo, setF_tickNo]

theorem execRingService_tickNo (p : Part) (r : Ring) (s : State) (t' : State) (ht' : execRingService p r s = .next t') : t'.tick.no = s.tick.no := by
  unfold execRingService at *
  grind [finSettle_tickNo, serveRing_tickNo]

theorem execSqEnable_tickNo (p : Part) (r : Ring) (s : State) (t' : State) (ht' : execSqEnable p r s = .next t') : t'.tick.no = s.tick.no := by
  unfold execSqEnable at *
  grind [answered_tickNo, inWindow_tickNo, sqEnable_tickNo]

theorem execSqDisable_tickNo (p : Part) (r : Ring) (s : State) (t' : State) (ht' : execSqDisable p r s = .next t') : t'.tick.no = s.tick.no := by
  unfold execSqDisable at *
  grind [answered_tickNo, clrF_tickNo, inWindow_tickNo]

theorem execCqEnable_tickNo (p : Part) (r : Ring) (s : State) (t' : State) (ht' : execCqEnable p r s = .next t') : t'.tick.no = s.tick.no := by
  unfold execCqEnable at *
  grind [answered_tickNo, cqEnable_tickNo, inWindow_tickNo]

theorem execCqDisable_tickNo (p : Part) (r : Ring) (s : State) (t' : State) (ht' : execCqDisable p r s = .next t') : t'.tick.no = s.tick.no := by
  unfold execCqDisable at *
  grind [answered_tickNo, cqStop_tickNo, inWindow_tickNo]

theorem execCqHeadWrite_tickNo (p : Part) (r : Ring) (v : Word32) (s : State) (t' : State) (ht' : execCqHeadWrite p r v s = .next t') : t'.tick.no = s.tick.no := by
  unfold execCqHeadWrite at *
  grind [answered_tickNo, cqHead_tickNo, inWindow_tickNo]

theorem execSeqTargetClaim_tickNo (q : Seq) (s : State) (t' : State) (ht' : execSeqTargetClaim q s = .next t') : t'.tick.no = s.tick.no := by
  unfold execSeqTargetClaim at *
  grind [bellRing_tickNo, claimSrc_tickNo, endSrc_tickNo]

theorem execWalkReadDone_tickNo (p : Part) (page : Nat) (ok : Bool) (entry : Word64) (s : State) (t' : State) (ht' : execWalkReadDone p page ok entry s = .next t') : t'.tick.no = s.tick.no := by
  unfold execWalkReadDone at *
  grind [finSettle_tickNo, tableRead_tickNo]

theorem execIomInvCmd_tickNo (v : Word32) (s : State) (t' : State) (ht' : execIomInvCmd v s = .next t') : t'.tick.no = s.tick.no := by
  unfold execIomInvCmd at *
  grind [answered_tickNo, cachePurge_tickNo, clrF_tickNo, setF_tickNo]

theorem execInvalidationDone_tickNo (s : State) (t' : State) (ht' : execInvalidationDone s = .next t') : t'.tick.no = s.tick.no := by
  unfold execInvalidationDone at *
  grind [clrF_tickNo, setF_tickNo]

theorem execIomRootWrite_tickNo (p : Part) (hi : Bool) (v : Word32) (s : State) (t' : State) (ht' : execIomRootWrite p hi v s = .next t') : t'.tick.no = s.tick.no := by
  unfold execIomRootWrite at *
  grind [answered_tickNo, cachePurge_tickNo, put_tickNo]

theorem execPwFqPop_tickNo (p : Part) (s : State) (t' : State) (ht' : execPwFqPop p s = .next t') : t'.tick.no = s.tick.no := by
  unfold execPwFqPop at *
  grind [answered_tickNo, inWindow_tickNo, modPH_tickNo]

theorem execPrtFsSizeWrite_tickNo (p : Part) (v : Word32) (s : State) (t' : State) (ht' : execPrtFsSizeWrite p v s = .next t') : t'.tick.no = s.tick.no := by
  unfold execPrtFsSizeWrite at *
  grind [answered_tickNo, fsCommit_tickNo]

theorem execPrtSsmWrite_tickNo (p : Part) (v : Word32) (s : State) (t' : State) (ht' : execPrtSsmWrite p v s = .next t') : t'.tick.no = s.tick.no := by
  unfold execPrtSsmWrite at *
  grind [answered_tickNo, ssmCommit_tickNo]

theorem execPrtShareWrite_tickNo (p : Part) (v : Word32) (s : State) (t' : State) (ht' : execPrtShareWrite p v s = .next t') : t'.tick.no = s.tick.no := by
  unfold execPrtShareWrite at *
  grind [answered_tickNo, put_tickNo, setF_tickNo]

theorem execPrtPreset_tickNo (v : Word32) (s : State) (t' : State) (ht' : execPrtPreset v s = .next t') : t'.tick.no = s.tick.no := by
  unfold execPrtPreset at *
  grind [answered_tickNo, finSettle_tickNo, partReset_tickNo, setF_tickNo]

theorem msixOff_tickNo (s : State) (p : Nat) : (msixOff s p).tick.no = s.tick.no := by
  unfold msixOff
  grind [modCfg_tickNo]

theorem execFunctionLevelReset_tickNo (p : Part) (s t' : State) (ht' : execFunctionLevelReset p s = .next t') : t'.tick.no = s.tick.no := by
  have hf := foldl_tickNo ((List.range 8).filter (present s)) (fun s k => partReset (msixOff s k) k) s
    fun s k => (partReset_tickNo ..).trans (msixOff_tickNo ..)
  unfold execFunctionLevelReset at ht'
  split at ht'
  · cases ht'; rfl
  · split at ht'
    · refine (finSettle_tickNo _ _ ht').trans ?_
      dsimp only
      generalize ((List.range 8).filter (present s)).foldl (fun s k => partReset (msixOff s k) k) s = a at hf
      exact hf
    · exact (finSettle_tickNo _ _ ht').trans ((partReset_tickNo ..).trans (msixOff_tickNo ..))

theorem execVfEnableClear_tickNo (n : Fin 8) (s t' : State) (ht' : execVfEnableClear n s = .next t') : t'.tick.no = s.tick.no := by
  have hf := foldl_tickNo ((List.range 8).filter fun k => n.val < k && present s k) (fun s k => partReset (msixOff s k) k) s
    fun s k => (partReset_tickNo ..).trans (msixOff_tickNo ..)
  unfold execVfEnableClear at ht'
  dsimp only at ht'
  generalize ((List.range 8).filter fun k => n.val < k && present s k).foldl (fun s k => partReset (msixOff s k) k) s = a at hf ht'
  exact (finSettle_tickNo _ _ ht').trans hf


theorem execVfEnableSet_tickNo (n : Fin 8) (s : State) (t' : State) (ht' : execVfEnableSet n s = .next t') : t'.tick.no = s.tick.no := by
  unfold execVfEnableSet at *
  grind

theorem execNop_tickNo (p : Part) (r : Ring) (id : Nat) (s : State) (t' : State) (ht' : execNop p r id s = .next t') : t'.tick.no = s.tick.no := by
  unfold execNop at *
  grind [complete_tickNo, finSettle_tickNo, withCmd_tickNo]

theorem aerNote_tickNo (s : State) (p : Nat) : (aerNote s p).tick.no = s.tick.no := by
  unfold aerNote
  grind [modCfg_tickNo, useFree_tickNo]

theorem readArrived_tickNo (s : State) (o : HostOp) (ok : Bool) (data : List Byte) : (readArrived s o ok data).tick.no = s.tick.no := by
  unfold readArrived
  grind [movBusError_tickNo, readReturned_tickNo]

theorem execHostReadCompletion_tickNo (op : Nat) (ok : Bool) (data : List Byte) (t : Nat) (s : State) (t' : State) (ht' : execHostReadCompletion op ok data t s = .next t') : t'.tick.no = s.tick.no := by
  unfold execHostReadCompletion at *
  grind [aerNote_tickNo, dropOp_tickNo, finSettle_tickNo, readArrived_tickNo, stamp_tickNo]

end Sys2Proof.Machine
end

