-- ==== Sys2Proof/Laws/TickNoIntakeCore.lean ====
section
/-! SUPPORT. That the operations of Machine/IntakeCore.lean leave the tick number alone. -/

namespace Sys2Proof.Machine

theorem showStride_tickNo (s : State) : (showStride s).tick.no = s.tick.no := by
  unfold showStride
  grind [put_tickNo]

theorem modEv_tickNo (s : State) (e : Nat) (f : Frame → Frame) : (modEv s e f).tick.no = s.tick.no := by
  unfold modEv
  grind

theorem modWin_tickNo (s : State) (e n : Nat) (f : Win → Win) : (modWin s e n f).tick.no = s.tick.no := by
  unfold modWin
  grind [modEv_tickNo]

theorem modPort_tickNo (s : State) (n : Nat) (f : SensPort → SensPort) : (modPort s n f).tick.no = s.tick.no := by
  unfold modPort
  grind

theorem fifoPush_tickNo (s : State) (n : Nat) (ws : List FifoWord) : (fifoPush s n ws).tick.no = s.tick.no := by
  unfold fifoPush
  grind [modPort_tickNo, put_tickNo, putMax_tickNo, raise_tickNo]

theorem addPacked_tickNo (s : State) (e n : Nat) (b : List Byte) : (addPacked s e n b).tick.no = s.tick.no := by
  unfold addPacked
  grind [modWin_tickNo]

theorem replaceFrom_tickNo (s : State) (x : Frame) (w : Win) (r off : Nat) : (replaceFrom s x w r off).tick.no = s.tick.no := by
  unfold replaceFrom
  grind [fsWrite_tickNo, modEv_tickNo]

theorem packRow_tickNo (s : State) (x : Frame) (w : Win) : (packRow s x w).tick.no = s.tick.no := by
  unfold packRow
  grind [addPacked_tickNo, bumpBy_tickNo, fifoPush_tickNo, raise_tickNo, replaceFrom_tickNo, setF_tickNo, useFree_tickNo]

theorem packLoop_tickNo (e n : Nat) (s : State) : (packLoop e n s).tick.no = s.tick.no := by
  induction n generalizing s with
  | zero => rfl
  | succ n ih =>
    unfold packLoop
    split
    · rfl
    · split
      · rfl
      · rw [ih, packRow_tickNo]

theorem emitTails_tickNo (s : State) (e : Nat) : (emitTails s e).tick.no = s.tick.no := by
  unfold emitTails
  grind [fifoPush_tickNo, foldl_tickNo, modWin_tickNo]

theorem emitAll_tickNo (s : State) : (emitAll s).tick.no = s.tick.no := by
  unfold emitAll
  grind [emitTails_tickNo, foldl_tickNo]

theorem intakeRun_tickNo (s : State) (e : Nat) : (intakeRun s e).tick.no = s.tick.no :=
  (emitTails_tickNo ..).trans (packLoop_tickNo ..)

theorem closeWin_tickNo (s : State) (e n : Nat) (trunc : Bool) : (closeWin s e n trunc).tick.no = s.tick.no := by
  unfold closeWin
  grind [intakeRun_tickNo, modEv_tickNo, modWin_tickNo]

theorem finalize_tickNo (s : State) (x : Frame) : (finalize s x).tick.no = s.tick.no := by
  unfold finalize
  grind [bump_tickNo, clrF_tickNo, modEv_tickNo, put_tickNo, raise_tickNo]

theorem checkFinal_tickNo (s : State) (e : Nat) : (checkFinal s e).tick.no = s.tick.no := by
  unfold checkFinal
  grind [finalize_tickNo]

theorem endWin_tickNo (s : State) (e n : Nat) : (endWin s e n).tick.no = s.tick.no := by
  unfold endWin
  grind [closeWin_tickNo, modWin_tickNo]

theorem startWin_tickNo (s : State) (e n t : Nat) : (startWin s e n t).tick.no = s.tick.no := by
  unfold startWin
  grind [bump_tickNo, closeWin_tickNo, modEv_tickNo, modWin_tickNo]

theorem closeBefore_tickNo (s : State) (e n : Nat) : (closeBefore s e n).tick.no = s.tick.no := by
  unfold closeBefore
  grind [closeWin_tickNo, foldl_tickNo]

theorem frameStart_tickNo (s : State) (n t : Nat) : (frameStart s n t).tick.no = s.tick.no := by
  unfold frameStart
  grind [closeBefore_tickNo, startWin_tickNo]

theorem takeRow_tickNo (s : State) (n : Nat) (l : Option (List Nat)) : (takeRow s n l).tick.no = s.tick.no := by
  unfold takeRow
  grind [bump_tickNo, intakeRun_tickNo, modWin_tickNo]

theorem csiHeader_tickNo (s : State) (n : Nat) (burst : Bool) (hdr : Ecc) (lost use : State → State)
    (hl : ∀ s : State, (lost s).tick.no = s.tick.no) (hu : ∀ s : State, (use s).tick.no = s.tick.no) :
    (csiHeader s n burst hdr lost use).tick.no = s.tick.no := by
  have hb := ite_tickNo (c := burst = true) (modPort_tickNo s n (fun p => { p with skip := false })) (rfl : s.tick.no = s.tick.no)
  have key : ∀ s : State, (if (sensPort s n).skip then s
    else match hdr with
      | .ue => lost (modPort (bump s (R.INT_PORT_ERR_HDR_UNC n)) n fun p => { p with skip := true })
      | .ce => use (bump s (R.INT_PORT_ERR_HDR_CORR n))
      | .ok => use s).tick.no = s.tick.no := by
    intro s
    refine ite_tickNo rfl ?_
    cases hdr
    · exact hu _
    · exact (hu _).trans (bump_tickNo ..)
    · exact (hl _).trans ((modPort_tickNo ..).trans (bump_tickNo ..))
  unfold csiHeader
  exact ite_tickNo ((key _).trans hb) rfl

theorem csiChannel_tickNo (s : State) (n vc : Nat) (use : State → State) (h4 : ∀  (s : State), (use  s).tick.no = s.tick.no) : (csiChannel s n vc use).tick.no = s.tick.no := by
  unfold csiChannel
  grind [bump_tickNo]

theorem fifoDrain_tickNo (s : State) (n : Nat) (ecc : Ecc) (data : List Byte) : (fifoDrain s n ecc data).tick.no = s.tick.no := by
  unfold fifoDrain
  grind [bump_tickNo, checkFinal_tickNo, emitAll_tickNo, fault_tickNo, fsWrite_tickNo, modEv_tickNo, modPort_tickNo, modWin_tickNo, put_tickNo]

theorem releaseSlots_tickNo (s : State) : (releaseSlots s).tick.no = s.tick.no := by
  unfold releaseSlots
  grind

theorem captureClose_tickNo (s : State) : (captureClose s).tick.no = s.tick.no := by
  unfold captureClose
  dsimp only
  have ha := forN_tickNo 12 (fun n s' => closeBefore s' (s.tick.events - 1) n) s fun i s' => closeBefore_tickNo ..
  generalize forN 12 (fun n s' => closeBefore s' (s.tick.events - 1) n) s = a at ha
  cases a.intake.frames.find? fun x => x.ev + 1 == s.tick.events && x.kind == 0 with
  | none => exact ha
  | some x =>
    refine ite_tickNo ?_ (ite_tickNo ((setF_tickNo ..).trans ((modEv_tickNo ..).trans ha)) ((modEv_tickNo ..).trans ha))
    cases findEv (modEv a x.ev fun f => { f with kind := 1, capLate := true, held := false }) x.ev with
    | none => exact (modEv_tickNo ..).trans ha
    | some y => exact (finalize_tickNo ..).trans ((modEv_tickNo ..).trans ha)


theorem openFrame_tickNo (s : State) (noProxy : Bool) : (openFrame s noProxy).tick.no = s.tick.no := by
  unfold openFrame
  grind [bump_tickNo, fault_tickNo, put_tickNo, setF_tickNo]

theorem pruneFrames_tickNo (s : State) : (pruneFrames s).tick.no = s.tick.no := by
  unfold pruneFrames
  grind

theorem intakeMode_tickNo (s : State) : (intakeMode s).tick.no = s.tick.no := by
  unfold intakeMode
  grind [clrF_tickNo, forN_tickNo, raise_tickNo, setF_tickNo]

end Sys2Proof.Machine
end

