-- ==== Sys2Proof/Laws/TickNoMag.lean ====
section
/-! SUPPORT. That the operations of Machine/Mag.lean leave the tick number alone. -/

namespace Sys2Proof.Machine

theorem mgChecked_tickNo (c : RingCmd) (priv : Bool) (fields : List (Nat × Nat)) (s : State) (k : State → State) (h5 : ∀  (s : State), (k  s).tick.no = s.tick.no) : (mgChecked c priv fields s k).tick.no = s.tick.no := by
  unfold mgChecked
  grind [complete_tickNo]

theorem magOpen_tickNo (c : RingCmd) (s : State) : (magOpen c s).tick.no = s.tick.no := by
  unfold magOpen
  grind [addOp_tickNo, complete_tickNo, mgChecked_tickNo, openEnd_tickNo]

theorem magClose_tickNo (c : RingCmd) (s : State) : (magClose c s).tick.no = s.tick.no := by
  unfold magClose
  grind [addOp_tickNo, complete_tickNo, mgChecked_tickNo]

theorem magFormat_tickNo (c : RingCmd) (s : State) : (magFormat c s).tick.no = s.tick.no := by
  unfold magFormat
  grind [addOp_tickNo, complete_tickNo, mgChecked_tickNo]

theorem hostio_tickNo (c : RingCmd) (s : State) : (hostio c s).tick.no = s.tick.no := by
  unfold hostio
  grind [addOp_tickNo, complete_tickNo, mgChecked_tickNo, startOp_tickNo]

theorem hostioRow_tickNo (s : State) (p r id : Nat) (w : Bool) : (hostioRow s p r id w).tick.no = s.tick.no := by
  unfold hostioRow
  grind [dropCmd_tickNo, hostio_tickNo]

theorem spPlace_tickNo (s : State) (c : Clip) (x : SpoolReq) (gap : Bool) (flags : Nat) (metaB ess : List Byte) (bands bufs : List Nat) : (spPlace s c x gap flags metaB ess bands bufs).tick.no = s.tick.no := by
  unfold spPlace
  grind [modClipFrame_tickNo, placeRecord_tickNo, releaseAll_tickNo, spoolDone_tickNo]

theorem spWrite_tickNo (s : State) (x : SpoolReq) (c : Clip) : (spWrite s x c).tick.no = s.tick.no := by
  unfold spWrite
  grind [releaseAll_tickNo, spPlace_tickNo, spoolDone_tickNo]

theorem spReadFrame_tickNo (s : State) (x : SpoolReq) : (spReadFrame s x).tick.no = s.tick.no := by
  unfold spReadFrame
  grind [addOp_tickNo, spoolDone_tickNo]

theorem spBlocks_tickNo (s : State) (x : SpoolReq) : (spBlocks s x).tick.no = s.tick.no := by
  unfold spBlocks
  grind [addOp_tickNo, spoolDone_tickNo]

theorem spTake_tickNo (s : State) (x : SpoolReq) : (spTake s x).tick.no = s.tick.no := by
  unfold spTake
  grind [releaseAll_tickNo, spBlocks_tickNo, spReadFrame_tickNo, spWrite_tickNo, spoolDone_tickNo]

theorem spoolRow_tickNo (s : State) (q op : Nat) : (spoolRow s q op).tick.no = s.tick.no := by
  unfold spoolRow
  grind [spTake_tickNo]

theorem setCached_tickNo (s : State) (n : Nat) (l : List (Nat × Nat × Nat)) : (setCached s n l).tick.no = s.tick.no := by
  unfold setCached
  grind [modMag_tickNo, put_tickNo]

theorem issueFrom_tickNo (s : State) (n q : Nat) : (issueFrom s n q).tick.no = s.tick.no := by
  unfold issueFrom
  grind [bump_tickNo, modMag_tickNo, modMop_tickNo, setCached_tickNo]

theorem schedulerSlot_tickNo (s : State) (n : Nat) : (schedulerSlot s n).tick.no = s.tick.no := by
  unfold schedulerSlot
  grind [cacheFlush_tickNo, fuaAll_tickNo, issueFrom_tickNo, magAccrue_tickNo, modMag_tickNo]

theorem dropNv_tickNo (s : State) (n cid : Nat) : (dropNv s n cid).tick.no = s.tick.no := by
  unfold dropNv
  grind [modMag_tickNo]

theorem latNote_tickNo (s : State) (n : Nat) (c : NvCmd) : (latNote s n c).tick.no = s.tick.no := by
  unfold latNote
  grind [putMax_tickNo]

theorem nvOk_tickNo (s : State) (n : Nat) (c : NvCmd) (dw0 : Nat) (data : List Byte) : (nvOk s n c dw0 data).tick.no = s.tick.no := by
  unfold nvOk
  grind [dropNv_tickNo, latNote_tickNo, modMop_tickNo, setCached_tickNo]

theorem nvError_tickNo (s : State) (n : Nat) (c : NvCmd) : (nvError s n c).tick.no = s.tick.no := by
  unfold nvError
  grind [addOp_tickNo, cmdFail_tickNo, dropNv_tickNo, latNote_tickNo, modMag_tickNo, setCached_tickNo]

theorem nvComplete_tickNo (s : State) (n cid sc sct dw0 : Nat) (data : List Byte) : (nvComplete s n cid sc sct dw0 data).tick.no = s.tick.no := by
  unfold nvComplete
  grind [dropNv_tickNo, magAccrue_tickNo, nvError_tickNo, nvOk_tickNo]

theorem cmdTimeout_tickNo (s : State) (n cid : Nat) : (cmdTimeout s n cid).tick.no = s.tick.no := by
  unfold cmdTimeout
  grind [addCmd_tickNo, modMag_tickNo]

theorem abortTimeout_tickNo (s : State) (n cid : Nat) : (abortTimeout s n cid).tick.no = s.tick.no := by
  unfold abortTimeout
  grind [portLose_tickNo]

theorem linkTrained_tickNo (s : State) (n : Nat) : (linkTrained s n).tick.no = s.tick.no := by
  unfold linkTrained
  grind [addOp_tickNo, dropDue_tickNo, modMag_tickNo, put_tickNo]

theorem holdExpire_tickNo (s : State) (n : Nat) : (holdExpire s n).tick.no = s.tick.no := by
  unfold holdExpire
  grind [dropDue_tickNo, modMag_tickNo, put_tickNo]

theorem dropRequest_tickNo (s : State) (n : Nat) : (dropRequest s n).tick.no = s.tick.no := by
  unfold dropRequest
  grind [dropDue_tickNo]

theorem readySet_tickNo (s : State) (n mqes mpsmin : Nat) : (readySet s n mqes mpsmin).tick.no = s.tick.no := by
  unfold readySet
  grind [modMag_tickNo, modMop_tickNo, opFail_tickNo]

theorem readyTimeout_tickNo (s : State) (n : Nat) : (readyTimeout s n).tick.no = s.tick.no := by
  unfold readyTimeout
  grind [opFail_tickNo]

theorem magEnable_tickNo (s : State) (n : Nat) (en : Bool) : (magEnable s n en).tick.no = s.tick.no := by
  unfold magEnable
  grind [foldl_tickNo, modMag_tickNo, opFail_tickNo, portLose_tickNo, put_tickNo]

theorem execMagOpen_tickNo (p : Part) (r : Ring) (id : Nat) (s : State) (t' : State) (ht' : execMagOpen p r id s = .next t') : t'.tick.no = s.tick.no := by
  unfold execMagOpen at *
  grind [finSettle_tickNo, magOpen_tickNo, withCmd_tickNo]

theorem execMagClose_tickNo (p : Part) (r : Ring) (id : Nat) (s : State) (t' : State) (ht' : execMagClose p r id s = .next t') : t'.tick.no = s.tick.no := by
  unfold execMagClose at *
  grind [finSettle_tickNo, magClose_tickNo, withCmd_tickNo]

theorem execMagFormat_tickNo (p : Part) (r : Ring) (id : Nat) (s : State) (t' : State) (ht' : execMagFormat p r id s = .next t') : t'.tick.no = s.tick.no := by
  unfold execMagFormat at *
  grind [finSettle_tickNo, magFormat_tickNo, withCmd_tickNo]

theorem execHostioRead_tickNo (p : Part) (r : Ring) (id : Nat) (s : State) (t' : State) (ht' : execHostioRead p r id s = .next t') : t'.tick.no = s.tick.no := by
  unfold execHostioRead at *
  grind [finSettle_tickNo, hostioRow_tickNo]

theorem execHostioWrite_tickNo (p : Part) (r : Ring) (id : Nat) (s : State) (t' : State) (ht' : execHostioWrite p r id s = .next t') : t'.tick.no = s.tick.no := by
  unfold execHostioWrite at *
  grind [finSettle_tickNo, hostioRow_tickNo]

theorem execWriteFrame_tickNo (q : Fin 8) (t : Nat) (s : State) (t' : State) (ht' : execWriteFrame q t s = .next t') : t'.tick.no = s.tick.no := by
  unfold execWriteFrame at *
  grind [finSettle_tickNo, spoolRow_tickNo, stamp_tickNo]

theorem execDiscard_tickNo (q : Fin 8) (t : Nat) (s : State) (t' : State) (ht' : execDiscard q t s = .next t') : t'.tick.no = s.tick.no := by
  unfold execDiscard at *
  grind [finSettle_tickNo, spoolRow_tickNo, stamp_tickNo]

theorem execReadFrame_tickNo (q : Fin 8) (t : Nat) (s : State) (t' : State) (ht' : execReadFrame q t s = .next t') : t'.tick.no = s.tick.no := by
  unfold execReadFrame at *
  grind [finSettle_tickNo, spoolRow_tickNo, stamp_tickNo]

theorem execReadBlocks_tickNo (q : Fin 8) (t : Nat) (s : State) (t' : State) (ht' : execReadBlocks q t s = .next t') : t'.tick.no = s.tick.no := by
  unfold execReadBlocks at *
  grind [finSettle_tickNo, spoolRow_tickNo, stamp_tickNo]

theorem execTrim_tickNo (q : Fin 8) (t : Nat) (s : State) (t' : State) (ht' : execTrim q t s = .next t') : t'.tick.no = s.tick.no := by
  unfold execTrim at *
  grind [finSettle_tickNo, spoolRow_tickNo, stamp_tickNo]

theorem execSchedulerSlot_tickNo (n : MagPort) (t : Nat) (s : State) (t' : State) (ht' : execSchedulerSlot n t s = .next t') : t'.tick.no = s.tick.no := by
  unfold execSchedulerSlot at *
  grind [finSettle_tickNo, schedulerSlot_tickNo, stamp_tickNo]

theorem execNvmeCompletion_tickNo (n : MagPort) (cid : Nat) (sc : Fin 256) (sct : Fin 8) (dw0 : Word32) (data : List Byte) (t : Nat) (s : State) (t' : State) (ht' : execNvmeCompletion n cid sc sct dw0 data t s = .next t') : t'.tick.no = s.tick.no := by
  unfold execNvmeCompletion at *
  grind [finSettle_tickNo, nvComplete_tickNo, stamp_tickNo]

theorem execNvmeCommandTimeout_tickNo (n : MagPort) (cid t : Nat) (s : State) (t' : State) (ht' : execNvmeCommandTimeout n cid t s = .next t') : t'.tick.no = s.tick.no := by
  unfold execNvmeCommandTimeout at *
  grind [cmdTimeout_tickNo, finSettle_tickNo, stamp_tickNo]

theorem execAbortTimeout_tickNo (n : MagPort) (cid t : Nat) (s : State) (t' : State) (ht' : execAbortTimeout n cid t s = .next t') : t'.tick.no = s.tick.no := by
  unfold execAbortTimeout at *
  grind [abortTimeout_tickNo, finSettle_tickNo, stamp_tickNo]

theorem execCstsCfsSet_tickNo (n : MagPort) (t : Nat) (s : State) (t' : State) (ht' : execCstsCfsSet n t s = .next t') : t'.tick.no = s.tick.no := by
  unfold execCstsCfsSet at *
  grind [finSettle_tickNo, portLose_tickNo, stamp_tickNo]

theorem execCstsRdySet_tickNo (n : MagPort) (mqes mpsmin t : Nat) (s : State) (t' : State) (ht' : execCstsRdySet n mqes mpsmin t s = .next t') : t'.tick.no = s.tick.no := by
  unfold execCstsRdySet at *
  grind [finSettle_tickNo, readySet_tickNo, stamp_tickNo]

theorem execCstsRdyTimeout_tickNo (n : MagPort) (t : Nat) (s : State) (t' : State) (ht' : execCstsRdyTimeout n t s = .next t') : t'.tick.no = s.tick.no := by
  unfold execCstsRdyTimeout at *
  grind [finSettle_tickNo, readyTimeout_tickNo, stamp_tickNo]

theorem execSmartPoll_tickNo (n : MagPort) (t : Nat) (s : State) (t' : State) (ht' : execSmartPoll n t s = .next t') : t'.tick.no = s.tick.no := by
  unfold execSmartPoll at *
  grind [addOp_tickNo, finSettle_tickNo, modMag_tickNo, stamp_tickNo]

theorem execMagLinkDown_tickNo (n : MagPort) (t : Nat) (s : State) (t' : State) (ht' : execMagLinkDown n t s = .next t') : t'.tick.no = s.tick.no := by
  unfold execMagLinkDown at *
  grind [finSettle_tickNo, portLose_tickNo, stamp_tickNo]

theorem execLinkRetrain_tickNo (n : MagPort) (up : Bool) (t : Nat) (s : State) (t' : State) (ht' : execLinkRetrain n up t s = .next t') : t'.tick.no = s.tick.no := by
  unfold execLinkRetrain at *
  grind [finSettle_tickNo, linkTrained_tickNo, stamp_tickNo]

theorem execMagLinkUp_tickNo (n : MagPort) (t : Nat) (s : State) (t' : State) (ht' : execMagLinkUp n t s = .next t') : t'.tick.no = s.tick.no := by
  unfold execMagLinkUp at *
  grind [finSettle_tickNo, linkTrained_tickNo, stamp_tickNo]

theorem execHoldWindowExpiry_tickNo (n : MagPort) (t : Nat) (s : State) (t' : State) (ht' : execHoldWindowExpiry n t s = .next t') : t'.tick.no = s.tick.no := by
  unfold execHoldWindowExpiry at *
  grind [finSettle_tickNo, holdExpire_tickNo, stamp_tickNo]

theorem magCtlWrite_tickNo (s : State) (n v : Nat) : (magCtlWrite s n v).tick.no = s.tick.no := by
  unfold magCtlWrite
  grind [dropRequest_tickNo, magEnable_tickNo]

theorem execMagDropRequest_tickNo (n : MagPort) (v : Word32) (s : State) (t' : State) (ht' : execMagDropRequest n v s = .next t') : t'.tick.no = s.tick.no := by
  unfold execMagDropRequest at *
  grind [answered_tickNo, finSettle_tickNo, magCtlWrite_tickNo]

theorem execMagQShapeWrite_tickNo (n : MagPort) (q : Fin 8) (v : Word32) (t : Nat) (s : State) (t' : State) (ht' : execMagQShapeWrite n q v t s = .next t') : t'.tick.no = s.tick.no := by
  unfold execMagQShapeWrite at *
  grind [answered_tickNo, magAccrue_tickNo, modMag_tickNo, put_tickNo, setF_tickNo, stamp_tickNo]

theorem execMagQBurstWrite_tickNo (n : MagPort) (q : Fin 8) (v : Word32) (t : Nat) (s : State) (t' : State) (ht' : execMagQBurstWrite n q v t s = .next t') : t'.tick.no = s.tick.no := by
  unfold execMagQBurstWrite at *
  grind [answered_tickNo, magAccrue_tickNo, modMag_tickNo, put_tickNo, stamp_tickNo]

end Sys2Proof.Machine
end

