-- ==== Sys2Proof/Laws/TickNoSbd.lean ====
section
/-! SUPPORT. That the operations of Machine/Sbd.lean leave the tick number alone. -/

namespace Sys2Proof.Machine

theorem gaugeLimit_tickNo (s : State) (n v : Nat) : (gaugeLimit s n v).tick.no = s.tick.no := by
  unfold gaugeLimit
  grind [cacheFlush_tickNo, fuaAll_tickNo, put_tickNo]

theorem gaugeDoubtCheck_tickNo (s : State) (n : Nat) : (gaugeDoubtCheck s n).tick.no = s.tick.no := by
  unfold gaugeDoubtCheck
  grind [gaugeLimit_tickNo, modSbd_tickNo, put_tickNo, raise_tickNo]

theorem putGauge_tickNo (s : State) (f : Fld) (a b : Nat) : (putGauge s f a b).tick.no = s.tick.no := by
  unfold putGauge
  grind [put_tickNo, useFree_tickNo]

theorem gaugeEvaluate_tickNo (s : State) (n : Nat) : (gaugeEvaluate s n).tick.no = s.tick.no := by
  unfold gaugeEvaluate
  grind [charge_tickNo, fault_tickNo, gaugeDoubtCheck_tickNo, gaugeLimit_tickNo, modSbd_tickNo, put_tickNo, putGauge_tickNo, raise_tickNo, setF_tickNo]

theorem gaugeSample_tickNo (s : State) (n v i : Nat) : (gaugeSample s n v i).tick.no = s.tick.no := by
  unfold gaugeSample
  grind [charge_tickNo, gaugeDoubtCheck_tickNo, modSbd_tickNo, put_tickNo, putGauge_tickNo, putInt_tickNo]

theorem restComplete_tickNo (s : State) (n : Nat) : (restComplete s n).tick.no = s.tick.no := by
  unfold restComplete
  grind [charge_tickNo, modSbd_tickNo, putGauge_tickNo]

theorem slotNow_tickNo (s : State) (n k : Nat) (b : List Byte) : (slotNow s n k b).tick.no = s.tick.no := by
  unfold slotNow
  grind [modSbd_tickNo, put_tickNo]

theorem labelStart_tickNo (s : State) (n a : Nat) : (labelStart s n a).tick.no = s.tick.no := by
  unfold labelStart
  grind [addXfer_tickNo, modSbd_tickNo, put_tickNo]

theorem labelNext_tickNo (s : State) (n : Nat) : (labelNext s n).tick.no = s.tick.no := by
  unfold labelNext
  grind [clrF_tickNo, labelStart_tickNo]

theorem labelEnd_tickNo (s : State) (n : Nat) (last : Option Nat) : (labelEnd s n last).tick.no = s.tick.no := by
  unfold labelEnd
  grind [labelNext_tickNo, modSbd_tickNo, put_tickNo]

theorem labelBroken_tickNo (s : State) (n : Nat) : (labelBroken s n).tick.no = s.tick.no := by
  unfold labelBroken
  grind [labelEnd_tickNo, useFree_tickNo]

theorem recover_tickNo (s : State) (n : Nat) : (recover s n).tick.no = s.tick.no := by
  unfold recover
  grind [addXfer_tickNo, put_tickNo]

theorem labelGo_tickNo (s : State) (n : Nat) : (labelGo s n).tick.no = s.tick.no := by
  unfold labelGo
  grind [labelStart_tickNo, modSbd_tickNo, setF_tickNo]

theorem labelPoll_tickNo (s : State) (n : Nat) (busy : Bool) (t : Nat) : (labelPoll s n busy t).tick.no = s.tick.no := by
  unfold labelPoll
  split
  · rfl
  · simp only
    refine ite_tickNo (ite_tickNo ((labelEnd_tickNo ..).trans (stamp_tickNo ..)) (stamp_tickNo ..)) (ite_tickNo ?_ ?_) <;>
      exact (addXfer_tickNo ..).trans ((modSbd_tickNo ..).trans (stamp_tickNo ..))

theorem powerFollow_tickNo (s : State) (n : Nat) : (powerFollow s n).tick.no = s.tick.no := by
  unfold powerFollow
  grind [put_tickNo]

theorem magKnown_tickNo (s : State) (n : Nat) : (magKnown s n).tick.no = s.tick.no := by
  unfold magKnown
  grind [labelNext_tickNo, modSbd_tickNo, powerFollow_tickNo, put_tickNo, raise_tickNo, recover_tickNo, setF_tickNo]

theorem presenceAssert_tickNo (s : State) (n : Nat) : (presenceAssert s n).tick.no = s.tick.no := by
  unfold presenceAssert
  grind [addXfer_tickNo, bump_tickNo, charge_tickNo, clrF_tickNo, modSbd_tickNo, powerFollow_tickNo, setF_tickNo]

theorem presenceRemove_tickNo (s : State) (n t : Nat) : (presenceRemove s n t).tick.no = s.tick.no := by
  unfold presenceRemove
  grind [clrF_tickNo, gaugeDoubtCheck_tickNo, modSbd_tickNo, portLose_tickNo, put_tickNo, raise_tickNo, setF_tickNo]

theorem identDone_tickNo (s : State) (n : Nat) (b : Option (List Byte)) : (identDone s n b).tick.no = s.tick.no := by
  unfold identDone
  grind [forN_tickNo, put_tickNo, setF_tickNo]

theorem xferDone_tickNo (s : State) (n : Nat) (x : SbdXfer) (ok : Bool) (data : List Byte) (t : Nat) : (xferDone s n x ok data t).tick.no = s.tick.no := by
  unfold xferDone
  grind [addXfer_tickNo, identDone_tickNo, labelBroken_tickNo, labelEnd_tickNo, magKnown_tickNo, modSbd_tickNo, raise_tickNo, setF_tickNo, slotNow_tickNo, wearOpened_tickNo]

theorem i2cDone_tickNo (s : State) (n : Nat) (nak : Bool) (data : List Byte) (t : Nat) : (i2cDone s n nak data t).tick.no = s.tick.no := by
  unfold i2cDone
  grind [modSbd_tickNo, stamp_tickNo, xferDone_tickNo]

theorem i2cRetry_tickNo (s : State) (n t : Nat) : (i2cRetry s n t).tick.no = s.tick.no := by
  unfold i2cRetry
  split
  · rfl
  · exact ite_tickNo ((modSbd_tickNo ..).trans (stamp_tickNo ..)) rfl

theorem execPresenceAssert_tickNo (n : MagPort) (t : Nat) (s : State) (t' : State) (ht' : execPresenceAssert n t s = .next t') : t'.tick.no = s.tick.no := by
  unfold execPresenceAssert at *
  grind [finSettle_tickNo, presenceAssert_tickNo, stamp_tickNo]

theorem execPresenceRemove_tickNo (n : MagPort) (t : Nat) (s : State) (t' : State) (ht' : execPresenceRemove n t s = .next t') : t'.tick.no = s.tick.no := by
  unfold execPresenceRemove at *
  grind [finSettle_tickNo, presenceRemove_tickNo, stamp_tickNo]

theorem execSbdCtlWrite_tickNo (n : MagPort) (v : Word32) (s : State) (t' : State) (ht' : execSbdCtlWrite n v s = .next t') : t'.tick.no = s.tick.no := by
  unfold execSbdCtlWrite at *
  grind [answered_tickNo, powerFollow_tickNo, put_tickNo, setF_tickNo]

theorem execSbdI2cDone_tickNo (n : MagPort) (nak : Bool) (data : List Byte) (t : Nat) (s : State) (t' : State) (ht' : execSbdI2cDone n nak data t s = .next t') : t'.tick.no = s.tick.no := by
  unfold execSbdI2cDone at *
  grind [finSettle_tickNo, i2cDone_tickNo]

theorem execSbdI2cRetry_tickNo (n : MagPort) (t : Nat) (s : State) (t' : State) (ht' : execSbdI2cRetry n t s = .next t') : t'.tick.no = s.tick.no := by
  unfold execSbdI2cRetry at *
  grind [i2cRetry_tickNo]

theorem execGaugeSample_tickNo (n : MagPort) (v i : BitVec 12) (s : State) (t' : State) (ht' : execGaugeSample n v i s = .next t') : t'.tick.no = s.tick.no := by
  unfold execGaugeSample at *
  grind [finSettle_tickNo, gaugeSample_tickNo]

theorem execGaugeEvaluate_tickNo (n : MagPort) (s : State) (t' : State) (ht' : execGaugeEvaluate n s = .next t') : t'.tick.no = s.tick.no := by
  unfold execGaugeEvaluate at *
  grind [finSettle_tickNo, gaugeEvaluate_tickNo]

theorem execGaugeRestComplete_tickNo (n : MagPort) (s : State) (t' : State) (ht' : execGaugeRestComplete n s = .next t') : t'.tick.no = s.tick.no := by
  unfold execGaugeRestComplete at *
  grind [restComplete_tickNo]

theorem execLabelGo_tickNo (n : MagPort) (v : Word32) (s : State) (t' : State) (ht' : execLabelGo n v s = .next t') : t'.tick.no = s.tick.no := by
  unfold execLabelGo at *
  grind [answered_tickNo, labelGo_tickNo]

theorem execLabelBusyPoll_tickNo (n : MagPort) (busy : Bool) (t : Nat) (s : State) (t' : State) (ht' : execLabelBusyPoll n busy t s = .next t') : t'.tick.no = s.tick.no := by
  unfold execLabelBusyPoll at *
  grind [labelPoll_tickNo]

end Sys2Proof.Machine
end

