-- ==== Sys2Proof/Laws/TickNoFaults.lean ====
section
/-! SUPPORT. That the operations of Machine/Faults.lean leave the tick number alone. -/

namespace Sys2Proof.Machine

theorem setCore_tickNo (s : State) (c v : Nat) : (setCore s c v).tick.no = s.tick.no := by
  unfold setCore
  grind [put_tickNo]

theorem setSince_tickNo (s : State) (c t : Nat) : (setSince s c t).tick.no = s.tick.no := by
  unfold setSince
  grind

theorem unforce_tickNo (s : State) (f : Nat) : (unforce s f).tick.no = s.tick.no := by
  unfold unforce
  grind [clrF_tickNo, setSince_tickNo]

theorem statClear_tickNo (s : State) (f : Nat) : (statClear s f).tick.no = s.tick.no := by
  unfold statClear
  grind [clrF_tickNo, unforce_tickNo]

theorem showHealth_tickNo (s : State) (t : Nat) : (showHealth s t).tick.no = s.tick.no := by
  unfold showHealth
  grind [put_tickNo]

theorem setBeat_tickNo (s : State) (c : Nat) (b : Option Nat) : (setBeat s c b).tick.no = s.tick.no := by
  unfold setBeat
  grind

theorem setMute_tickNo (s : State) (c : Nat) (b : Bool) : (setMute s c b).tick.no = s.tick.no := by
  unfold setMute
  grind

theorem belayReset_tickNo (s : State) (c t : Nat) : (belayReset s c t).tick.no = s.tick.no := by
  unfold belayReset
  grind [setBeat_tickNo, setCore_tickNo, setSince_tickNo]

theorem activate_tickNo (s : State) (o : Nat) : (activate s o).tick.no = s.tick.no := by
  unfold activate
  grind [put_tickNo, setCore_tickNo, setTarget_tickNo]

theorem belayTakeover_tickNo (s : State) (o e : Nat) : (belayTakeover s o e).tick.no = s.tick.no := by
  unfold belayTakeover
  grind [activate_tickNo, bump_tickNo, put_tickNo, raise_tickNo]

theorem coreLost_tickNo (s : State) (c t e : Nat) (always : Bool) : (coreLost s c t e always).tick.no = s.tick.no := by
  unfold coreLost
  grind [belayReset_tickNo, belayTakeover_tickNo, fault_tickNo, raise_tickNo, setMute_tickNo]

theorem takeoverCheck_tickNo (s : State) (o t : Nat) : (takeoverCheck s o t).tick.no = s.tick.no := by
  unfold takeoverCheck
  grind [belayReset_tickNo, belayTakeover_tickNo]

theorem belaySwitch_tickNo (s : State) : (belaySwitch s).tick.no = s.tick.no := by
  unfold belaySwitch
  grind [activate_tickNo, bump_tickNo, setCore_tickNo]

theorem blyErr_tickNo (s : State) : (blyErr s).tick.no = s.tick.no := by
  unfold blyErr
  grind [setF_tickNo]

theorem forceOne_tickNo (s : State) (f : Nat) : (forceOne s f).tick.no = s.tick.no := by
  unfold forceOne
  grind (splits := 40) [breakList_tickNo, coreLost_tickNo, dropDue_tickNo, fault_tickNo, fray_tickNo, freqHot_tickNo,
    movBusError_tickNo, portFail_tickNo, progFault_tickNo, put_tickNo, raise_tickNo, raiseP_tickNo, setF_tickNo,
    setMute_tickNo, showHealth_tickNo, useFree_tickNo]

theorem modInj_tickNo (s : State) (i : Nat) (f : InjSt → InjSt) : (modInj s i f).tick.no = s.tick.no := by
  unfold modInj
  grind

theorem injStart_tickNo (s : State) (i : Nat) : (injStart s i).tick.no = s.tick.no := by
  unfold injStart
  grind [modInj_tickNo]

theorem injAct_tickNo (s : State) (i len t : Nat) : (injAct s i len t).tick.no = s.tick.no := by
  unfold injAct
  grind [bump_tickNo, clrF_tickNo, modInj_tickNo, raise_tickNo]

theorem injUnit_tickNo (s : State) (i len t : Nat) : (injUnit s i len t).tick.no = s.tick.no := by
  unfold injUnit
  grind [injAct_tickNo, modInj_tickNo, stamp_tickNo]

theorem ancHalt_tickNo (s : State) (n : Nat) : (ancHalt s n).tick.no = s.tick.no := by
  unfold ancHalt
  grind [modMag_tickNo]

theorem ancStart_tickNo (s : State) (n : Nat) : (ancStart s n).tick.no = s.tick.no := by
  unfold ancStart
  grind [setAnc_tickNo]

theorem anchorAct_tickNo (s : State) (cause t : Nat) : (anchorAct s cause t).tick.no = s.tick.no := by
  unfold anchorAct
  grind [ancHalt_tickNo, ancStart_tickNo, clrF_tickNo, fault_tickNo, forN_tickNo, movStopAll_tickNo, noTransition_tickNo, put_tickNo, put2_tickNo, setCore_tickNo, setF_tickNo, stamp_tickNo, stopDeadJobs_tickNo]

theorem anchorTimeout_tickNo (s : State) (n t : Nat) : (anchorTimeout s n t).tick.no = s.tick.no := by
  unfold anchorTimeout
  grind [addCmd_tickNo, foldl_tickNo, modMag_tickNo, setAnc_tickNo, stamp_tickNo]

theorem execFltStatClear_tickNo (w : Fin 8) (v : Word32) (s : State) (t' : State) (ht' : execFltStatClear w v s = .next t') : t'.tick.no = s.tick.no := by
  unfold execFltStatClear at *
  grind [answered_tickNo, forN_tickNo, statClear_tickNo]

theorem execFltForce_tickNo (w : Fin 8) (v : Word32) (s : State) (t' : State) (ht' : execFltForce w v s = .next t') : t'.tick.no = s.tick.no := by
  unfold execFltForce at *
  grind [answered_tickNo, finSettle_tickNo, forN_tickNo, forceOne_tickNo, setF_tickNo]

theorem execInjArmFirst_tickNo (t : Nat) (s : State) (t' : State) (ht' : execInjArmFirst t s = .next t') : t'.tick.no = s.tick.no := by
  unfold execInjArmFirst at *
  grind [answered_tickNo, stamp_tickNo]

theorem execInjArmSecond_tickNo (t : Nat) (s : State) (t' : State) (ht' : execInjArmSecond t s = .next t') : t'.tick.no = s.tick.no := by
  unfold execInjArmSecond at *
  grind [answered_tickNo, setF_tickNo, stamp_tickNo]

theorem execInjDisarm_tickNo (v : Word32) (s : State) (t' : State) (ht' : execInjDisarm v s = .next t') : t'.tick.no = s.tick.no := by
  unfold execInjDisarm at *
  grind [answered_tickNo, injDisarm_tickNo]

theorem execInjArmTimeout_tickNo (t : Nat) (s : State) (t' : State) (ht' : execInjArmTimeout t s = .next t') :
    t'.tick.no = s.tick.no := by
  unfold execInjArmTimeout at ht'
  cases ht'
  split
  · split
    · exact stamp_tickNo s t
    · rfl
  · rfl

theorem execInjUnit_tickNo (i : Fin 17) (bytes t : Nat) (s : State) (t' : State) (ht' : execInjUnit i bytes t s = .next t') : t'.tick.no = s.tick.no := by
  unfold execInjUnit at *
  grind [injUnit_tickNo]

theorem execInjReorderTimeout_tickNo (i : Fin 17) (t : Nat) (s : State) (t' : State)
    (ht' : execInjReorderTimeout i t s = .next t') : t'.tick.no = s.tick.no := by
  unfold execInjReorderTimeout at ht'
  cases ht'
  split
  · exact ite_tickNo ((modInj_tickNo ..).trans (stamp_tickNo ..)) rfl
  · rfl

theorem execBelayHeartbeat_tickNo (c : Fin 2) (t : Nat) (s : State) (t' : State) (ht' : execBelayHeartbeat c t s = .next t') : t'.tick.no = s.tick.no := by
  unfold execBelayHeartbeat at *
  grind [setBeat_tickNo, showHealth_tickNo, stamp_tickNo]

theorem execBelaySilent_tickNo (c : Fin 2) (t e : Nat) (s : State) (t' : State) (ht' : execBelaySilent c t e s = .next t') : t'.tick.no = s.tick.no := by
  unfold execBelaySilent at *
  grind [coreLost_tickNo, finSettle_tickNo, showHealth_tickNo, stamp_tickNo]

theorem execBelayResetDone_tickNo (c : Fin 2) (pass : Bool) (t : Nat) (s : State) (t' : State) (ht' : execBelayResetDone c pass t s = .next t') : t'.tick.no = s.tick.no := by
  unfold execBelayResetDone at *
  grind [finSettle_tickNo, setBeat_tickNo, setCore_tickNo, setMute_tickNo, showHealth_tickNo, stamp_tickNo, takeoverCheck_tickNo]

theorem execBelayResetTimeout_tickNo (c : Fin 2) (t : Nat) (s : State) (t' : State) (ht' : execBelayResetTimeout c t s = .next t') : t'.tick.no = s.tick.no := by
  unfold execBelayResetTimeout at *
  grind [setCore_tickNo, stamp_tickNo]

theorem execBelaySwitch_tickNo (s : State) (t' : State) (ht' : execBelaySwitch s = .next t') : t'.tick.no = s.tick.no := by
  unfold execBelaySwitch at *
  grind [answered_tickNo, blyErr_tickNo]

theorem execBelayTest_tickNo (t : Nat) (s : State) (t' : State) (ht' : execBelayTest t s = .next t') : t'.tick.no = s.tick.no := by
  unfold execBelayTest at *
  grind [answered_tickNo, blyErr_tickNo, put_tickNo, setBeat_tickNo, setCore_tickNo, setSince_tickNo, stamp_tickNo]

theorem execBelayTestDone_tickNo (pass : Bool) (t : Nat) (s : State) (t' : State) (ht' : execBelayTestDone pass t s = .next t') : t'.tick.no = s.tick.no := by
  unfold execBelayTestDone at *
  grind [finSettle_tickNo, put_tickNo, setBeat_tickNo, setCore_tickNo, showHealth_tickNo, stamp_tickNo, takeoverCheck_tickNo]

theorem execBelayResetRequest_tickNo (t : Nat) (s : State) (t' : State) (ht' : execBelayResetRequest t s = .next t') : t'.tick.no = s.tick.no := by
  unfold execBelayResetRequest at *
  grind [answered_tickNo, belayReset_tickNo, blyErr_tickNo, stamp_tickNo]

theorem execBelayClaim_tickNo (s : State) (t' : State) (ht' : execBelayClaim s = .next t') : t'.tick.no = s.tick.no := by
  unfold execBelayClaim at *
  grind [claimSrc_tickNo, endSrc_tickNo]

theorem execAnchorAct_tickNo (t : Nat) (s : State) (t' : State) (ht' : execAnchorAct t s = .next t') : t'.tick.no = s.tick.no := by
  unfold execAnchorAct at *
  grind [anchorAct_tickNo, finSettle_tickNo]

theorem execAnchorAbortTimeout_tickNo (n : MagPort) (t : Nat) (s : State) (t' : State) (ht' : execAnchorAbortTimeout n t s = .next t') : t'.tick.no = s.tick.no := by
  unfold execAnchorAbortTimeout at *
  grind [anchorTimeout_tickNo, finSettle_tickNo]

theorem execLanyardToggle_tickNo (t : Nat) (s : State) (t' : State) (ht' : execLanyardToggle t s = .next t') : t'.tick.no = s.tick.no := by
  unfold execLanyardToggle at *
  grind [put_tickNo, showHealth_tickNo, stamp_tickNo]

end Sys2Proof.Machine
end

