-- ==== Sys2Proof/Laws/TickNoBoot.lean ====
section
/-! SUPPORT. That the operations of Machine/Boot.lean leave the tick number alone. -/

namespace Sys2Proof.Machine

theorem tapReset_tickNo (s : State) : (tapReset s).tick.no = s.tick.no := by
  unfold tapReset
  grind

theorem testRead_tickNo (s : State) (x : TestPad) : (testRead s x).tick.no = s.tick.no := by
  unfold testRead
  grind [useFree_tickNo]

theorem maskStates_tickNo (s : State) : (maskStates s).tick.no = s.tick.no := by
  unfold maskStates
  grind [forN_tickNo, setStrState_tickNo]

theorem loadConfig_tickNo (s : State) (i : List Byte) : (loadConfig s i).tick.no = s.tick.no := by
  unfold loadConfig
  grind [forN_tickNo, put_tickNo, putTrained_tickNo, putTset_tickNo]

theorem loadPatch_tickNo (s : State) (i : List Byte) : (loadPatch s i).tick.no = s.tick.no := by
  unfold loadPatch
  grind [forN_tickNo, put_tickNo]

theorem bootTest_tickNo (s : State) (n part sig : Nat) : (bootTest s n part sig).tick.no = s.tick.no := by
  unfold bootTest
  grind [declareFray_tickNo, put_tickNo, setStrState_tickNo]

theorem bootTests_tickNo (s : State) (tests : List (Nat × Word32)) : (bootTests s tests).tick.no = s.tick.no := by
  unfold bootTests
  grind [bootTest_tickNo, forN_tickNo]

theorem startCores_tickNo (s : State) (b0 b1 : Bool) : (startCores s b0 b1).tick.no = s.tick.no := by
  unfold startCores
  grind [activate_tickNo, setCore_tickNo]

theorem bootCtlStore_tickNo (s : State) (v : Nat) : (bootCtlStore s v).tick.no = s.tick.no := by
  unfold bootCtlStore
  grind [put_tickNo]

theorem bootReady_tickNo (s : State) (t : Nat) : (bootReady s t).tick.no = s.tick.no := by
  unfold bootReady
  grind [clrF_tickNo, raiseAll_tickNo, setF_tickNo, setMode_tickNo, stamp_tickNo]

theorem gateRefused_tickNo (s : State) (b kind : Nat) : (gateRefused s b kind).tick.no = s.tick.no := by
  unfold gateRefused
  grind [bump_tickNo, clrF_tickNo, put_tickNo]

theorem clockGate_tickNo (s : State) (b : Nat) (refused : Bool) (t : Nat) : (clockGate s b refused t).tick.no = s.tick.no := by
  unfold clockGate
  grind [dormAbort_tickNo, gateRefused_tickNo, put_tickNo, stamp_tickNo]

theorem blockWake_tickNo (s : State) (b t : Nat) : (blockWake s b t).tick.no = s.tick.no := by
  unfold blockWake
  grind [gateRefused_tickNo, put_tickNo, stamp_tickNo]

theorem setTemp_tickNo (s : State) (d : BitVec 11) : (setTemp s d).tick.no = s.tick.no := by
  unfold setTemp
  grind [fault_tickNo, freqHot_tickNo, put_tickNo]

theorem setCause_tickNo (s : State) (f : Sup → Sup) : (setCause s f).tick.no = s.tick.no := by
  unfold setCause
  grind

theorem execInternalResetRelease_tickNo (sel : Fin 4) (s : State) (t' : State) (ht' : execInternalResetRelease sel s = .next t') : t'.tick.no = s.tick.no := by
  unfold execInternalResetRelease at *
  grind

theorem execAonBootData_tickNo (v : Word32) (s : State) (t' : State) (ht' : execAonBootData v s = .next t') : t'.tick.no = s.tick.no := by
  unfold execAonBootData at *
  grind

theorem bootGo_tickNo (s : State) (t : Nat) : (bootGo s t).tick.no = s.tick.no := by
  unfold bootGo
  grind [stamp_tickNo]

theorem execB0Ready_tickNo (t : Nat) (s : State) (t' : State) (ht' : execB0Ready t s = .next t') : t'.tick.no = s.tick.no := by
  unfold execB0Ready at *
  grind [bootReady_tickNo]

theorem execClockGate_tickNo (b : Fin 32) (refused : Bool) (t : Nat) (s : State) (t' : State) (ht' : execClockGate b refused t s = .next t') : t'.tick.no = s.tick.no := by
  unfold execClockGate at *
  grind [clockGate_tickNo]

theorem execBlockWake_tickNo (b : Fin 32) (t : Nat) (s : State) (t' : State) (ht' : execBlockWake b t s = .next t') : t'.tick.no = s.tick.no := by
  unfold execBlockWake at *
  grind [blockWake_tickNo, finSettle_tickNo]

theorem execThermalHot_tickNo (d : BitVec 11) (s : State) (t' : State) (ht' : execThermalHot d s = .next t') : t'.tick.no = s.tick.no := by
  unfold execThermalHot at *
  grind [setTemp_tickNo]

theorem execThermalCrit_tickNo (d : BitVec 11) (s : State) (t' : State) (ht' : execThermalCrit d s = .next t') : t'.tick.no = s.tick.no := by
  unfold execThermalCrit at *
  grind [setTemp_tickNo]

theorem execJunctionBelow100c_tickNo (d : BitVec 11) (s : State) (t' : State) (ht' : execJunctionBelow100c d s = .next t') : t'.tick.no = s.tick.no := by
  unfold execJunctionBelow100c at *
  grind [setTemp_tickNo]

theorem execSupplyOor_tickNo (s : State) (t' : State) (ht' : execSupplyOor s = .next t') : t'.tick.no = s.tick.no := by
  unfold execSupplyOor at *
  grind [fault_tickNo, setCause_tickNo]

theorem execRailInRange_tickNo (s : State) (t' : State) (ht' : execRailInRange s = .next t') : t'.tick.no = s.tick.no := by
  unfold execRailInRange at *
  grind [setCause_tickNo]

theorem execClkFail_tickNo (s : State) (t' : State) (ht' : execClkFail s = .next t') : t'.tick.no = s.tick.no := by
  unfold execClkFail at *
  grind [fault_tickNo, setCause_tickNo]

theorem execClockRestored_tickNo (s : State) (t' : State) (ht' : execClockRestored s = .next t') : t'.tick.no = s.tick.no := by
  unfold execClockRestored at *
  grind [setCause_tickNo]

theorem execHostLinkDown_tickNo (s : State) (t' : State) (ht' : execHostLinkDown s = .next t') : t'.tick.no = s.tick.no := by
  unfold execHostLinkDown at *
  grind [fault_tickNo, setCause_tickNo]

theorem execHostLinkUp_tickNo (s t' : State) (ht' : execHostLinkUp s = .next t') : t'.tick.no = s.tick.no := by
  unfold execHostLinkUp at ht'
  split at ht'
  · cases ht'; rfl
  · exact (finSettle_tickNo _ _ ht').trans (setCause_tickNo s fun x => { x with linkBad := false })

end Sys2Proof.Machine
end

