-- ==== Sys2Proof/Laws/TickNoExchange.lean ====
section
/-! SUPPORT. That the operations of Machine/Exchange.lean leave the tick number alone. -/

namespace Sys2Proof.Machine

theorem installCmd_tickNo (c : RingCmd) (s : State) : (installCmd c s).tick.no = s.tick.no := by
  unfold installCmd
  grind [complete_tickNo, installNext_tickNo, modPair_tickNo, modSeq_tickNo, put_tickNo]

theorem admitInstall_tickNo (s : State) (q p : Nat) : (admitInstall s q p).tick.no = s.tick.no := by
  unfold admitInstall
  grind [installEnd_tickNo, installRefuse_tickNo, modPair_tickNo, noteRefusal_tickNo, setStandby_tickNo]

theorem admitAgain_tickNo (s : State) (q p : Nat) (cmd : Option RingCmd) : (admitAgain s q p cmd).tick.no = s.tick.no := by
  unfold admitAgain
  grind [complete_tickNo, modPair_tickNo, noteRefusal_tickNo, put_tickNo, raiseP_tickNo]

theorem admitNext_tickNo (s : State) : (admitNext s).tick.no = s.tick.no := by
  unfold admitNext
  grind [admitAgain_tickNo, admitInstall_tickNo]

theorem exchangeCmd_tickNo (c : RingCmd) (s : State) (k : Nat → Nat → State)
    (hk : ∀ q p : Nat, (k q p).tick.no = s.tick.no) : (exchangeCmd c s k).tick.no = s.tick.no := by
  unfold exchangeCmd
  simp only
  exact ite_tickNo (complete_tickNo ..) (ite_tickNo (complete_tickNo ..) (hk _ _))

theorem swapCmd_tickNo (c : RingCmd) (s : State) : (swapCmd c s).tick.no = s.tick.no := by
  unfold swapCmd
  grind [complete_tickNo, exchangeCmd_tickNo, modPair_tickNo]

theorem restartAgain_tickNo (s : State) (q p : Nat) (c : RingCmd) : (restartAgain s q p c).tick.no = s.tick.no := by
  unfold restartAgain
  grind [complete_tickNo]

theorem restartCmd_tickNo (c : RingCmd) (s : State) : (restartCmd c s).tick.no = s.tick.no := by
  unfold restartCmd
  grind [complete_tickNo, exchangeCmd_tickNo, modPair_tickNo, restartAgain_tickNo]

theorem execInstall_tickNo (p : Part) (r : Ring) (id : Nat) (s : State) (t' : State) (ht' : execInstall p r id s = .next t') : t'.tick.no = s.tick.no := by
  unfold execInstall at *
  grind [finSettle_tickNo, installCmd_tickNo, withCmd_tickNo]

theorem execInstallImageLoaded_tickNo (q : Seq) (s : State) (t' : State) (ht' : execInstallImageLoaded q s = .next t') : t'.tick.no = s.tick.no := by
  unfold execInstallImageLoaded at *
  grind [finSettle_tickNo, installCheck_tickNo]

theorem execAdmission_tickNo (s : State) (t' : State) (ht' : execAdmission s = .next t') : t'.tick.no = s.tick.no := by
  unfold execAdmission at *
  grind [admitNext_tickNo, finSettle_tickNo]

theorem execSwap_tickNo (p : Part) (r : Ring) (id : Nat) (s : State) (t' : State) (ht' : execSwap p r id s = .next t') : t'.tick.no = s.tick.no := by
  unfold execSwap at *
  grind [finSettle_tickNo, swapCmd_tickNo, withCmd_tickNo]

theorem execRestart_tickNo (p : Part) (r : Ring) (id : Nat) (s : State) (t' : State) (ht' : execRestart p r id s = .next t') : t'.tick.no = s.tick.no := by
  unfold execRestart at *
  grind [finSettle_tickNo, restartCmd_tickNo, withCmd_tickNo]

theorem execSeqMigReq_tickNo (v : Word32) (s : State) (t' : State) (ht' : execSeqMigReq v s = .next t') : t'.tick.no = s.tick.no := by
  unfold execSeqMigReq at *
  grind [answered_tickNo, put_tickNo]

theorem execSeqOnlineRequest_tickNo (v : Word32) (s : State) (t' : State) (ht' : execSeqOnlineRequest v s = .next t') : t'.tick.no = s.tick.no := by
  unfold execSeqOnlineRequest at *
  grind [answered_tickNo]

theorem execSeqTestReq_tickNo (v : Word32) (s : State) (t' : State) (ht' : execSeqTestReq v s = .next t') : t'.tick.no = s.tick.no := by
  unfold execSeqTestReq at *
  grind [answered_tickNo, put_tickNo]

theorem execSeqTestDone_tickNo (pass : Bool) (s : State) (t' : State) (ht' : execSeqTestDone pass s = .next t') : t'.tick.no = s.tick.no := by
  unfold execSeqTestDone at *
  grind [put_tickNo]

end Sys2Proof.Machine
end

