-- ==== Sys2Proof/Laws/TickNoPins.lean ====
section
/-! SUPPORT. That the operations of Machine/Pins.lean leave the tick number alone. -/

namespace Sys2Proof.Machine

theorem pinErr_tickNo (s : State) : (pinErr s).tick.no = s.tick.no := by
  unfold pinErr
  grind [setF_tickNo]

theorem modLine_tickNo (s : State) (n : Nat) (f : LineSt → LineSt) : (modLine s n f).tick.no = s.tick.no := by
  unfold modLine
  grind

theorem modLtc_tickNo (s : State) (f : Ltc → Ltc) : (modLtc s f).tick.no = s.tick.no := by
  unfold modLtc
  grind

theorem switchLine_tickNo (s : State) (n v t : Nat) : (switchLine s n v t).tick.no = s.tick.no := by
  unfold switchLine
  grind [bump_tickNo, clrF_tickNo, modLine_tickNo, put_tickNo, settle_tickNo]

theorem stagedSwitches_tickNo (s : State) : (stagedSwitches s).tick.no = s.tick.no := by
  unfold stagedSwitches
  grind [forN_tickNo, switchLine_tickNo]

theorem pulseLines_tickNo (s : State) : (pulseLines s).tick.no = s.tick.no := by
  unfold pulseLines
  grind [forN_tickNo, modLine_tickNo]

theorem ltcSend_tickNo (s : State) : (ltcSend s).tick.no = s.tick.no := by
  unfold ltcSend
  grind [modLtc_tickNo]

theorem ltcTick_tickNo (s : State) : (ltcTick s).tick.no = s.tick.no := by
  unfold ltcTick
  grind [ltcSend_tickNo, put2_tickNo]

theorem ltcRateCheck_tickNo (s : State) : (ltcRateCheck s).tick.no = s.tick.no := by
  unfold ltcRateCheck
  grind [clrF_tickNo, pinErr_tickNo]

theorem pinTick_tickNo (s : State) : (pinTick s).tick.no = s.tick.no := by
  unfold pinTick
  grind [ltcTick_tickNo, pulseLines_tickNo, stagedSwitches_tickNo]

theorem setUart_tickNo (s : State) (u : Nat) (x : Uart) : (setUart s u x).tick.no = s.tick.no := by
  unfold setUart
  grind [put_tickNo]

theorem setAux_tickNo (s : State) (b : Nat) (x : Aux) : (setAux s b x).tick.no = s.tick.no := by
  unfold setAux
  grind

theorem auxPush_tickNo (s : State) (b : Nat) (v : Byte) : (auxPush s b v).tick.no = s.tick.no := by
  unfold auxPush
  grind [setAux_tickNo]

theorem auxPop_tickNo (s : State) (b : Nat) : (auxPop s b).tick.no = s.tick.no := by
  unfold auxPop
  grind [setAux_tickNo, useFree_tickNo]

theorem uartCtl_tickNo (s : State) (u v : Nat) : (uartCtl s u v).tick.no = s.tick.no := by
  unfold uartCtl
  grind [pinErr_tickNo, put_tickNo]

theorem execPinGlCfgWrite_tickNo (n : Line) (v : Word32) (t : Nat) (s : State) (t' : State) (ht' : execPinGlCfgWrite n v t s = .next t') : t'.tick.no = s.tick.no := by
  unfold execPinGlCfgWrite at *
  grind [answered_tickNo, pinErr_tickNo, stamp_tickNo, switchLine_tickNo]

theorem execPinGlStageWrite_tickNo (n : Line) (v : Word32) (s : State) (t' : State) (ht' : execPinGlStageWrite n v s = .next t') : t'.tick.no = s.tick.no := by
  unfold execPinGlStageWrite at *
  grind [answered_tickNo, pinErr_tickNo, put_tickNo, setF_tickNo]

theorem relevel_tickNo (s : State) (n : Nat) : (relevel s n).tick.no = s.tick.no := by
  unfold relevel
  grind [forN_tickNo, setLevel_tickNo]

theorem execSwitchSettleEnd_tickNo (n : Line) (t : Nat) (s : State) (t' : State) (ht' : execSwitchSettleEnd n t s = .next t') : t'.tick.no = s.tick.no := by
  unfold execSwitchSettleEnd at *
  grind [modLine_tickNo, relevel_tickNo, settle_tickNo, stamp_tickNo]

theorem disarmLine_tickNo (s : State) (o n : Nat) : (disarmLine s o n).tick.no = s.tick.no := by
  unfold disarmLine
  grind [edgeDisarm_tickNo, forN_tickNo]

theorem execPinGlOwnerWrite_tickNo (n : Line) (v : Word32) (s : State) (t' : State) (ht' : execPinGlOwnerWrite n v s = .next t') : t'.tick.no = s.tick.no := by
  unfold execPinGlOwnerWrite at *
  grind [answered_tickNo, disarmLine_tickNo, put_tickNo]

theorem execPinLtcCtlWrite_tickNo (v : Word32) (s : State) (t' : State) (ht' : execPinLtcCtlWrite v s = .next t') : t'.tick.no = s.tick.no := by
  unfold execPinLtcCtlWrite at *
  grind [answered_tickNo, pinErr_tickNo, put_tickNo]

theorem execSyncOutPulseEnd_tickNo (n : Line) (t : Nat) (s : State) (t' : State) (ht' : execSyncOutPulseEnd n t s = .next t') : t'.tick.no = s.tick.no := by
  unfold execSyncOutPulseEnd at *
  grind [modLine_tickNo, stamp_tickNo]

theorem execTickOutFall_tickNo (n : Line) (t : Nat) (s : State) (t' : State) (ht' : execTickOutFall n t s = .next t') : t'.tick.no = s.tick.no := by
  unfold execTickOutFall at *
  grind [modLine_tickNo, stamp_tickNo]

theorem execLtcRxFrame_tickNo (data : Word64) (sync : Bool) (s : State) (t' : State) (ht' : execLtcRxFrame data sync s = .next t') : t'.tick.no = s.tick.no := by
  unfold execLtcRxFrame at *
  grind [bump_tickNo, clrF_tickNo, modLtc_tickNo, setF_tickNo]

theorem execLtcTxFrameTimer_tickNo (t : Nat) (s : State) (t' : State) (ht' : execLtcTxFrameTimer t s = .next t') : t'.tick.no = s.tick.no := by
  unfold execLtcTxFrameTimer at *
  grind [ltcSend_tickNo, modLtc_tickNo, stamp_tickNo]

theorem execUartRxByte_tickNo (u : Fin 4) (b : Byte) (s : State) (t' : State) (ht' : execUartRxByte u b s = .next t') : t'.tick.no = s.tick.no := by
  unfold execUartRxByte at *
  grind [bump_tickNo, setUart_tickNo]

theorem execUartTxByte_tickNo (u : Fin 4) (s : State) (t' : State) (ht' : execUartTxByte u s = .next t') : t'.tick.no = s.tick.no := by
  unfold execUartTxByte at *
  grind [setUart_tickNo]

theorem execPinUartDataWrite_tickNo (u : Fin 4) (v : Word32) (s : State) (t' : State) (ht' : execPinUartDataWrite u v s = .next t') : t'.tick.no = s.tick.no := by
  unfold execPinUartDataWrite at *
  grind [answered_tickNo, setUart_tickNo]

theorem execPinUartDataRead_tickNo (u : Fin 4) (s : State) (t' : State) (ht' : execPinUartDataRead u s = .next t') : t'.tick.no = s.tick.no := by
  unfold execPinUartDataRead at *
  grind [answered_tickNo, setUart_tickNo, useFree_tickNo]

theorem execPinI2cCmd_tickNo (b : Fin 4) (v : Word32) (s : State) (t' : State) (ht' : execPinI2cCmd b v s = .next t') : t'.tick.no = s.tick.no := by
  unfold execPinI2cCmd at *
  grind [answered_tickNo, pinErr_tickNo, setAux_tickNo, setF_tickNo]

theorem execAuxI2cDone_tickNo (b : Fin 4) (nak : Bool) (data : List Byte) (s : State) (t' : State) (ht' : execAuxI2cDone b nak data s = .next t') : t'.tick.no = s.tick.no := by
  unfold execAuxI2cDone at *
  grind [clrF_tickNo, setAux_tickNo, setF_tickNo]

end Sys2Proof.Machine
end

