-- ==== Sys2Proof/Laws/TickNoSeqDev.lean ====
section
/-! SUPPORT. That the operations of Machine/SeqDev.lean leave the tick number alone. -/

namespace Sys2Proof.Machine

theorem descRow_tickNo (s : State) (q p rd ra n : Nat) (sel : Option Nat) (ue : Bool) : (descRow s q p rd ra n sel ue).tick.no = s.tick.no := by
  unfold descRow
  grind [descPass_tickNo, drainAll_tickNo, modPair_tickNo, orFault_tickNo, seqWrite_tickNo, stallCycles_tickNo, startOp_tickNo]

theorem moveStart_tickNo (s : State) (q p c : Nat) (r : DescRef) : (moveStart s q p c r).2.tick.no = s.tick.no := by
  unfold moveStart
  grind [chStart_tickNo]

theorem blockOn_tickNo (s : State) (q p kind obj rd : Nat) : (blockOn s q p kind obj rd).tick.no = s.tick.no := by
  unfold blockOn
  grind [leave_tickNo, modPair_tickNo]

theorem waitRow_tickNo (s : State) (q : Nat) (ecc : Ecc) (kind rd ra lim : Nat) (poll : Bool)
    (f : Nat → Nat → State → Option (Nat × State))
    (hf : ∀ (o x : Nat) (s : State), ∀ r, f o x s = some r → r.2.tick.no = s.tick.no) :
    (waitRow s q ecc kind rd ra lim poll f).tick.no = s.tick.no := by
  unfold waitRow
  refine seqRun_tickNo _ _ _ _ _ ?_
  intro p s
  simp only
  split
  · exact seqWrite_tickNo ..
  · split
    · exact seqWrite_tickNo ..
    · split
      · rename_i v s2 he
        exact (seqWrite_tickNo ..).trans (hf _ _ _ _ he)
      · split
        · exact seqWrite_tickNo ..
        · exact (blockOn_tickNo ..).trans (charge_tickNo ..)

theorem waitTag_tickNo (o x : Nat) (s : State) (r' : Nat × State) (hr' : waitTag o x s = some r') : r'.2.tick.no = s.tick.no := by
  unfold waitTag at *
  grind [modPart_tickNo]

theorem waitTimer_tickNo (o t : Nat) (s : State) (r' : Nat × State) (hr' : waitTimer o t s = some r') : r'.2.tick.no = s.tick.no := by
  unfold waitTimer at *
  grind [put_tickNo]

theorem waitEdge_tickNo (o e : Nat) (s : State) (r' : Nat × State) (hr' : waitEdge o e s = some r') : r'.2.tick.no = s.tick.no := by
  unfold waitEdge at *
  grind [setCaps_tickNo]

theorem waitBell_tickNo (o k : Nat) (s : State) (r' : Nat × State) (hr' : waitBell o k s = some r') : r'.2.tick.no = s.tick.no := by
  unfold waitBell at *
  grind [modPart_tickNo]

theorem tsetRow_tickNo (s : State) (q : Nat) (ecc : Ecc) (mode rd ra tm : Nat) : (tsetRow s q ecc mode rd ra tm).tick.no = s.tick.no := by
  unfold tsetRow
  grind [devRun_tickNo, seqRun_tickNo, tmrCancel_tickNo, tmrLoad_tickNo]

theorem tgetRow_tickNo (s : State) (q : Nat) (ecc : Ecc) (sel rd ra tm : Nat) (f : Nat → State → Nat × State)
    (hf : ∀ (o : Nat) (s : State), (f o s).2.tick.no = s.tick.no) : (tgetRow s q ecc sel rd ra tm f).tick.no = s.tick.no := by
  unfold tgetRow
  refine seqRun_tickNo _ _ _ _ _ ?_
  intro p s
  simp only
  split
  · exact seqWrite_tickNo ..
  · exact (seqWrite_tickNo ..).trans (hf _ _)

theorem tmrLeft_tickNo (s : State) (o t : Nat) : (tmrLeft s o t).2.tick.no = s.tick.no := by
  unfold tmrLeft
  grind [useFree_tickNo]

theorem edgeArm_tickNo (s : State) (o e input edges : Nat) (once : Bool) : (edgeArm s o e input edges once).tick.no = s.tick.no := by
  unfold edgeArm
  grind [edgeFlush_tickNo, put_tickNo, setLevel_tickNo]

theorem execIssue_tickNo (q : Seq) (ecc : Ecc) (rd ra : Fin 32) (ue : Bool) (t : Nat) (s : State) (t' : State) (ht' : execIssue q ecc rd ra ue t s = .next t') : t'.tick.no = s.tick.no := by
  unfold execIssue at *
  grind [descRow_tickNo, finSettle_tickNo, seqRun_tickNo, stamp_tickNo]

theorem execSpool_tickNo (q : Seq) (ecc : Ecc) (rd ra : Fin 32) (sel : Fin 8) (ue : Bool) (t : Nat) (s : State) (t' : State) (ht' : execSpool q ecc rd ra sel ue t s = .next t') : t'.tick.no = s.tick.no := by
  unfold execSpool at *
  grind [descRow_tickNo, finSettle_tickNo, seqRun_tickNo, stamp_tickNo]

theorem execMove_tickNo (q : Seq) (ecc : Ecc) (rd ra : Fin 32) (chan : Chan) (s : State) (t' : State) (ht' : execMove q ecc rd ra chan s = .next t') : t'.tick.no = s.tick.no := by
  unfold execMove at *
  grind [drainAll_tickNo, finSettle_tickNo, moveStart_tickNo, orFault_tickNo, seqRun_tickNo, seqWrite_tickNo]

theorem execSig_tickNo (q : Seq) (ecc : Ecc) (rd ra : Fin 32) (src : BitVec 10) (s : State) (t' : State) (ht' : execSig q ecc rd ra src s = .next t') : t'.tick.no = s.tick.no := by
  unfold execSig at *
  grind [devRun_tickNo, raise_tickNo, seqRun_tickNo]

theorem execWaitTick_tickNo (q : Seq) (ecc : Ecc) (rd ra : Fin 32) (poll : Bool) (s : State) (t' : State) (ht' : execWaitTick q ecc rd ra poll s = .next t') : t'.tick.no = s.tick.no := by
  unfold execWaitTick at *
  grind [blockOn_tickNo, charge_tickNo, seqRun_tickNo, seqWrite_tickNo]

theorem execWaitTag_tickNo (q : Seq) (ecc : Ecc) (rd ra : Fin 32) (poll : Bool) (s : State) (t' : State)
    (ht' : execWaitTag q ecc rd ra poll s = .next t') : t'.tick.no = s.tick.no := by
  unfold execWaitTag at ht'
  cases ht'
  refine seqRun_tickNo _ _ _ _ _ ?_
  intro p s
  simp only
  split
  · exact seqWrite_tickNo ..
  · split
    · rename_i v s2 he
      exact (seqWrite_tickNo ..).trans (waitTag_tickNo _ _ _ _ he)
    · split
      · exact seqWrite_tickNo ..
      · exact (blockOn_tickNo ..).trans (charge_tickNo ..)

theorem execWaitTimer_tickNo (q : Seq) (ecc : Ecc) (rd ra : Fin 32) (poll : Bool) (s : State) (t' : State)
    (ht' : execWaitTimer q ecc rd ra poll s = .next t') : t'.tick.no = s.tick.no := by
  unfold execWaitTimer at ht'
  cases ht'
  exact waitRow_tickNo _ _ _ _ _ _ _ _ _ fun _ _ _ _ hr => waitTimer_tickNo _ _ _ _ hr

theorem execWaitEdge_tickNo (q : Seq) (ecc : Ecc) (rd ra : Fin 32) (poll : Bool) (s : State) (t' : State)
    (ht' : execWaitEdge q ecc rd ra poll s = .next t') : t'.tick.no = s.tick.no := by
  unfold execWaitEdge at ht'
  cases ht'
  exact waitRow_tickNo _ _ _ _ _ _ _ _ _ fun _ _ _ _ hr => waitEdge_tickNo _ _ _ _ hr

theorem execWaitDoorbell_tickNo (q : Seq) (ecc : Ecc) (rd ra : Fin 32) (poll : Bool) (s : State) (t' : State)
    (ht' : execWaitDoorbell q ecc rd ra poll s = .next t') : t'.tick.no = s.tick.no := by
  unfold execWaitDoorbell at ht'
  cases ht'
  exact waitRow_tickNo _ _ _ _ _ _ _ _ _ fun _ _ _ _ hr => waitBell_tickNo _ _ _ _ hr

theorem execTsetCancel_tickNo (q : Seq) (ecc : Ecc) (rd ra tm : Fin 32) (s : State) (t' : State) (ht' : execTsetCancel q ecc rd ra tm s = .next t') : t'.tick.no = s.tick.no := by
  unfold execTsetCancel at *
  grind [tsetRow_tickNo]

theorem execTsetOneshot_tickNo (q : Seq) (ecc : Ecc) (rd ra tm : Fin 32) (t : Nat) (s : State) (t' : State) (ht' : execTsetOneshot q ecc rd ra tm t s = .next t') : t'.tick.no = s.tick.no := by
  unfold execTsetOneshot at *
  grind [stamp_tickNo, tsetRow_tickNo]

theorem execTsetPeriodic_tickNo (q : Seq) (ecc : Ecc) (rd ra tm : Fin 32) (t : Nat) (s : State) (t' : State) (ht' : execTsetPeriodic q ecc rd ra tm t s = .next t') : t'.tick.no = s.tick.no := by
  unfold execTsetPeriodic at *
  grind [stamp_tickNo, tsetRow_tickNo]

theorem execTsetTickOneshot_tickNo (q : Seq) (ecc : Ecc) (rd ra tm : Fin 32) (s : State) (t' : State) (ht' : execTsetTickOneshot q ecc rd ra tm s = .next t') : t'.tick.no = s.tick.no := by
  unfold execTsetTickOneshot at *
  grind [tsetRow_tickNo]

theorem execTsetTickPeriodic_tickNo (q : Seq) (ecc : Ecc) (rd ra tm : Fin 32) (s : State) (t' : State) (ht' : execTsetTickPeriodic q ecc rd ra tm s = .next t') : t'.tick.no = s.tick.no := by
  unfold execTsetTickPeriodic at *
  grind [tsetRow_tickNo]

theorem execTgetNs_tickNo (q : Seq) (ecc : Ecc) (rd ra tm : Fin 32) (t : Nat) (s : State) (t' : State) (ht' : execTgetNs q ecc rd ra tm t s = .next t') : t'.tick.no = s.tick.no := by
  unfold execTgetNs at *
  grind [stamp_tickNo, tgetRow_tickNo, tmrLeft_tickNo]

theorem execTgetPending_tickNo (q : Seq) (ecc : Ecc) (rd ra tm : Fin 32) (s : State) (t' : State) (ht' : execTgetPending q ecc rd ra tm s = .next t') : t'.tick.no = s.tick.no := by
  unfold execTgetPending at *
  grind [tgetRow_tickNo]

theorem execTgetLost_tickNo (q : Seq) (ecc : Ecc) (rd ra tm : Fin 32) (s : State) (t' : State) (ht' : execTgetLost q ecc rd ra tm s = .next t') : t'.tick.no = s.tick.no := by
  unfold execTgetLost at *
  grind [modTimer_tickNo, tgetRow_tickNo]

theorem execEarmArm_tickNo (q : Seq) (ecc : Ecc) (rd ra : Fin 32) (det : Fin 16) (edges : Fin 4) (once : Bool) (s : State) (t' : State) (ht' : execEarmArm q ecc rd ra det edges once s = .next t') : t'.tick.no = s.tick.no := by
  unfold execEarmArm at *
  grind [devRun_tickNo, edgeArm_tickNo, seqRun_tickNo]

theorem execEarmDisarm_tickNo (q : Seq) (ecc : Ecc) (rd ra : Fin 32) (det : Fin 16) (once : Bool) (s : State) (t' : State) (ht' : execEarmDisarm q ecc rd ra det once s = .next t') : t'.tick.no = s.tick.no := by
  unfold execEarmDisarm at *
  grind [devRun_tickNo, edgeDisarm_tickNo, put_tickNo, seqRun_tickNo]

theorem execQuantumExpiry_tickNo (q : Seq) (s : State) (t' : State) (ht' : execQuantumExpiry q s = .next t') : t'.tick.no = s.tick.no := by
  unfold execQuantumExpiry at *
  grind [leave_tickNo]

theorem execTimerExpiry_tickNo (p : Part) (tm : Fin 32) (t : Nat) (s : State) (t' : State) (ht' : execTimerExpiry p tm t s = .next t') : t'.tick.no = s.tick.no := by
  unfold execTimerExpiry at *
  grind [stamp_tickNo, tmrExpire_tickNo, tmrNext_tickNo]

theorem edgeSample_tickNo (s : State) (o e : Nat) (rise : Bool) (t : Nat) : (edgeSample s o e rise t).tick.no = s.tick.no := by
  unfold edgeSample
  grind [edgeTake_tickNo, setLevel_tickNo, stamp_tickNo]

theorem execEdgeCapture_tickNo (p : Part) (det : Fin 16) (rise : Bool) (t : Nat) (s : State) (t' : State) (ht' : execEdgeCapture p det rise t s = .next t') : t'.tick.no = s.tick.no := by
  unfold execEdgeCapture at *
  grind [edgeSample_tickNo]

theorem execProgramDoorbell_tickNo (p : Part) (k : Fin 16) (s : State) (t' : State) (ht' : execProgramDoorbell p k s = .next t') : t'.tick.no = s.tick.no := by
  unfold execProgramDoorbell at *
  grind [answered_tickNo, bellRing_tickNo, inWindow_tickNo]

end Sys2Proof.Machine
end

