-- ==== Sys2Proof/Laws/TickNoViews.lean ====
section
/-! SUPPORT. That the operations of Machine/Views.lean leave the tick number alone. -/

namespace Sys2Proof.Machine

theorem countSkip_tickNo (s : State) (v m : Nat) : (countSkip s v m).tick.no = s.tick.no := by
  unfold countSkip
  grind [bump_tickNo]

theorem viewDone_tickNo (s : State) (v part n : Nat) : (viewDone s v part n).tick.no = s.tick.no := by
  unfold viewDone
  grind [countSkip_tickNo, fsWrite_tickNo]

theorem modMon_tickNo (s : State) (m : Nat) (f : MonSt → MonSt) : (modMon s m f).tick.no = s.tick.no := by
  unfold modMon
  grind

theorem monFetch_tickNo (s : State) (m v : Nat) (z : ViewShot) : (monFetch s m v z).2.tick.no = s.tick.no := by
  unfold monFetch
  grind

theorem monSend_tickNo (s : State) (m v t : Nat) (z : ViewShot) : (monSend s m v t z).tick.no = s.tick.no := by
  unfold monSend
  grind [bump_tickNo, modMon_tickNo, monFetch_tickNo]

theorem monBad_tickNo (s : State) (m : Nat) : (monBad s m).tick.no = s.tick.no := by
  unfold monBad
  grind [modMon_tickNo, setF_tickNo]

theorem monStart_tickNo (s : State) (m t : Nat) : (monStart s m t).tick.no = s.tick.no := by
  unfold monStart
  grind [foldl_tickNo, monBad_tickNo, monSend_tickNo]

theorem viewMode_tickNo (s : State) : (viewMode s).tick.no = s.tick.no := by
  unfold viewMode
  grind [forN_tickNo, modMon_tickNo]

theorem execViewFrameDone_tickNo (v : Fin 3) (part : Part) (tick : Nat) (s : State) (t' : State) (ht' : execViewFrameDone v part tick s = .next t') : t'.tick.no = s.tick.no := by
  unfold execViewFrameDone at *
  grind [viewDone_tickNo]

theorem execMoFrameStart_tickNo (m : Fin 2) (t : Nat) (s : State) (t' : State) (ht' : execMoFrameStart m t s = .next t') : t'.tick.no = s.tick.no := by
  unfold execMoFrameStart at *
  grind [monStart_tickNo, stamp_tickNo]

end Sys2Proof.Machine
end

