-- ==== Sys2Proof/Laws/TickNoBoundary.lean ====
section
/-! SUPPORT. That the operations of Machine/Boundary.lean leave the tick number alone. -/

namespace Sys2Proof.Machine

/-- A loop over a state and a flag leaves the tick number alone. -/
theorem foldl_fst_tickNo {α : Type} (l : List α) (f : State × Bool → α → State × Bool) (a : State × Bool)
    (hf : ∀ (a : State × Bool) (x : α), (f a x).1.tick.no = a.1.tick.no) : (l.foldl f a).1.tick.no = a.1.tick.no := by
  induction l generalizing a with
  | nil => rfl
  | cons x l ih => rw [List.foldl_cons, ih, hf]

theorem rateCommit_tickNo (s : State) : (rateCommit s).tick.no = s.tick.no := by
  unfold rateCommit
  grind [ltcRateCheck_tickNo, put_tickNo, setF_tickNo]

theorem sourceCommit_tickNo (s : State) : (sourceCommit s).tick.no = s.tick.no := by
  unfold sourceCommit
  grind [clrF_tickNo, put_tickNo]

theorem cyclesStep_tickNo (s : State) : (cyclesStep s).tick.no = s.tick.no := by
  unfold cyclesStep
  grind [foldl_tickNo, forN_tickNo, modPair_tickNo, modSeq_tickNo, put_tickNo, putMax_tickNo, stallTick_tickNo]

theorem timerTick_tickNo (s : State) (p k t : Nat) : (timerTick s p k t).tick.no = s.tick.no := by
  unfold timerTick
  grind [bump_tickNo, modTimer_tickNo, tmrExpire_tickNo, tmrNext_tickNo]

theorem timersStep_tickNo (s : State) (t : Nat) : (timersStep s t).tick.no = s.tick.no := by
  unfold timersStep
  grind [forN_tickNo, timerTick_tickNo]

theorem noteLate_tickNo (s : State) (stage part n : Nat) : (noteLate s stage part n).tick.no = s.tick.no := by
  unfold noteLate
  grind [bump_tickNo, put_tickNo, put2_tickNo, raiseAll_tickNo]

theorem markLate_tickNo (s : State) (clip n : Nat) : (markLate s clip n).tick.no = s.tick.no := by
  unfold markLate
  grind [modClip_tickNo]

theorem judgeCapture_tickNo (e : Nat) (x : Frame) (a : State × Bool) : (judgeCapture e x a).1.tick.no = a.1.tick.no := by
  unfold judgeCapture
  grind [noteLate_tickNo]

theorem judgeCode_tickNo (e : Nat) (x : Frame) (a : State × Bool) (c : ClipFrame) : (judgeCode e x a c).1.tick.no = a.1.tick.no := by
  unfold judgeCode
  grind [modClipFrame_tickNo, noteLate_tickNo]

theorem judgeCommit_tickNo (e : Nat) (x : Frame) (a : State × Bool) (c : ClipFrame) : (judgeCommit e x a c).1.tick.no = a.1.tick.no := by
  unfold judgeCommit
  grind [markLate_tickNo, modClipFrame_tickNo, noteLate_tickNo]

theorem judgeLoose_tickNo (e : Nat) (x : Frame) (a : State × Bool) : (judgeLoose e x a).1.tick.no = a.1.tick.no := by
  unfold judgeLoose
  grind [noteLate_tickNo]

theorem judgeFrame_tickNo (e : Nat) (a : State × Bool) (x : Frame) : (judgeFrame e a x).1.tick.no = a.1.tick.no := by
  unfold judgeFrame
  rw [foldl_fst_tickNo _ _ _ fun a c => judgeCommit_tickNo _ _ _ _, foldl_fst_tickNo _ _ _ fun a c => judgeCode_tickNo _ _ _ _,
    judgeLoose_tickNo, judgeCapture_tickNo]

theorem moveLevel_tickNo (s : State) (late : Bool) : (moveLevel s late).tick.no = s.tick.no := by
  unfold moveLevel
  grind [put_tickNo]

theorem judgeStep_tickNo (s : State) : (judgeStep s).tick.no = s.tick.no := by
  unfold judgeStep
  simp only
  rw [releaseSlots_tickNo, moveLevel_tickNo, foldl_fst_tickNo _ _ _ fun a x => judgeFrame_tickNo _ _ _]

theorem emptyPair_tickNo (s : State) (q p : Nat) : (emptyPair s q p).tick.no = s.tick.no := by
  unfold emptyPair
  grind [drainAll_tickNo, modPair_tickNo, modSeq_tickNo, restoreRange_tickNo]

theorem resetStep_tickNo (s : State) (p : Nat) : (resetStep s p).tick.no = s.tick.no := by
  unfold resetStep
  grind [emptyPair_tickNo, foldl_tickNo, forN_tickNo, modPart_tickNo, whipClip_tickNo]

theorem resetsStep_tickNo (s : State) : (resetsStep s).tick.no = s.tick.no := by
  unfold resetsStep
  grind [forN_tickNo, resetStep_tickNo]

theorem sharesStep_tickNo (s : State) : (sharesStep s).tick.no = s.tick.no := by
  unfold sharesStep
  grind

theorem modeEffect_tickNo (s : State) (m reason : Nat) : (modeEffect s m reason).tick.no = s.tick.no := by
  unfold modeEffect
  grind [intakeMode_tickNo, modeRefuse_tickNo, queueReadmit_tickNo, raiseAll_tickNo, setMode_tickNo, viewMode_tickNo]

theorem leaveNow_tickNo (s : State) : (leaveNow s).tick.no = s.tick.no := by
  unfold leaveNow
  grind [leave_tickNo]

theorem forcePreview_tickNo (s : State) : (forcePreview s).tick.no = s.tick.no := by
  unfold forcePreview
  grind [foldl_tickNo, leaveNow_tickNo, setTransition_tickNo, whipClip_tickNo]

theorem modeStep_tickNo (s : State) : (modeStep s).tick.no = s.tick.no := by
  unfold modeStep
  grind [forcePreview_tickNo, leaveNow_tickNo, modeEffect_tickNo, modeRefuse_tickNo, noTransition_tickNo, openClips_tickNo]

theorem startProg_tickNo (s : State) (q p : Nat) : (startProg s q p).tick.no = s.tick.no := by
  unfold startProg
  grind [drainAll_tickNo, modPair_tickNo, modSeq_tickNo, put_tickNo]

theorem timersHandover_tickNo (s : State) (o policy : Nat) : (timersHandover s o policy).tick.no = s.tick.no := by
  unfold timersHandover
  grind [forN_tickNo, tmrCancel_tickNo]

theorem swapPair_tickNo (s : State) (q p : Nat) : (swapPair s q p).tick.no = s.tick.no := by
  unfold swapPair
  grind [drainAll_tickNo, modPair_tickNo, put_tickNo, setActive_tickNo, timersHandover_tickNo]

theorem pairStep_tickNo (s : State) (q p : Nat) : (pairStep s q p).tick.no = s.tick.no := by
  unfold pairStep
  grind [complete_tickNo, modPair_tickNo, restartAgain_tickNo, startProg_tickNo, swapPair_tickNo]

theorem pairsStep_tickNo (s : State) : (pairsStep s).tick.no = s.tick.no := by
  unfold pairsStep
  grind [forN_tickNo, pairStep_tickNo]

theorem policyStep_tickNo (s : State) : (policyStep s).tick.no = s.tick.no := by
  unfold policyStep
  grind [put_tickNo]

theorem movePair_tickNo (a b : Nat) (s : State) (m : Nat × Nat) : (movePair a b s m).tick.no = s.tick.no := by
  unfold movePair
  grind [drainAll_tickNo, foldl_tickNo, installRefuse_tickNo, modPair_tickNo, put_tickNo, setF_tickNo]

theorem migStart_tickNo (s : State) : (migStart s).tick.no = s.tick.no := by
  unfold migStart
  grind [foldl_tickNo, modSeq_tickNo, movePair_tickNo, put_tickNo]

theorem postOf_tickNo (o : Nat) (w : WaitSt) (s : State) (r' : Nat × State) (hr' : postOf o w s = some r') : r'.2.tick.no = s.tick.no := by
  unfold postOf at *
  grind [waitBell_tickNo, waitEdge_tickNo, waitTag_tickNo, waitTimer_tickNo]

theorem postHeld_tickNo (s : State) (i : Nat) : (postHeld s i).tick.no = s.tick.no := by
  unfold postHeld
  dsimp only
  cases (pairOf s (i / 8) (i % 8)).wait with
  | none => rfl
  | some w =>
    refine ite_tickNo rfl ?_
    cases hp : postOf (ownerOf s (i / 8) (i % 8)) w s with
    | none => rfl
    | some r => exact (wake_tickNo ..).trans (postOf_tickNo _ _ _ _ hp)


theorem migResume_tickNo (s : State) : (migResume s).tick.no = s.tick.no := by
  unfold migResume
  grind [bump_tickNo, foldl_tickNo, forN_tickNo, modPair_tickNo, postHeld_tickNo, put_tickNo, raiseP_tickNo]

theorem onlineStep_tickNo (s : State) : (onlineStep s).tick.no = s.tick.no := by
  unfold onlineStep
  grind [foldl_tickNo, put_tickNo]

theorem wakeTick_tickNo (s : State) (q p : Nat) : (wakeTick s q p).tick.no = s.tick.no := by
  unfold wakeTick
  cases (pairOf s q p).wait with
  | none => rfl
  | some w =>
    refine ite_tickNo rfl ?_
    have h2 := (put_tickNo _ (R.SEQ_PAIR_STAT_STATE q p) stRunnable).trans ((modPair_tickNo _ q p (fun y => { y with
      wait := none, pc := y.pc + 4, tickRef := (setGreg s q p w.rd ((2 ^ 64 + s.tick.no - (pairOf s q p).tickRef) % 2 ^ 64)).tick.no })).trans
      (setGreg_tickNo s q p w.rd ((2 ^ 64 + s.tick.no - (pairOf s q p).tickRef) % 2 ^ 64)))
    have h3 := ite_tickNo (c := 1 < (2 ^ 64 + s.tick.no - (pairOf s q p).tickRef) % 2 ^ 64)
      ((bump_tickNo _ (R.SEQ_PAIR_LATE_CNT_COUNT q p)).trans h2) h2
    exact ite_tickNo ((progFault_tickNo ..).trans h3) h3

theorem resumeStep_tickNo (s : State) : (resumeStep s).tick.no = s.tick.no := by
  unfold resumeStep
  grind [forN_tickNo, noteExcess_tickNo, pick_tickNo, wakeTick_tickNo]

theorem moversStep_tickNo (s : State) : (moversStep s).tick.no = s.tick.no := by
  unfold moversStep
  grind [chNext_tickNo, forN_tickNo]

theorem proxyGap_tickNo (t : Nat) (s : State) (c : Clip) : (proxyGap t s c).tick.no = s.tick.no := by
  unfold proxyGap
  grind [placeRecord_tickNo]

theorem dropProxy_tickNo (s : State) (x : Frame) : (dropProxy s x).tick.no = s.tick.no := by
  unfold dropProxy
  grind [foldl_tickNo, modFrame_tickNo, proxyGap_tickNo]

theorem cancelLane_tickNo (l : Nat) (s : State) : (cancelLane l s).tick.no = s.tick.no := by
  unfold cancelLane
  grind [endJob_tickNo, foldl_tickNo, jobRecord_tickNo, modLane_tickNo]

theorem frameStep_tickNo (s : State) : (frameStep s).tick.no = s.tick.no := by
  unfold frameStep
  grind [cancelLane_tickNo, dropProxy_tickNo, foldl_tickNo, forN_tickNo, openFrame_tickNo, proxyGap_tickNo, pruneFrames_tickNo]

theorem belayEarly_tickNo (s : State) : (belayEarly s).tick.no = s.tick.no := by
  unfold belayEarly
  grind [magDrops_tickNo, modeStep_tickNo]

theorem belayLate_tickNo (s : State) : (belayLate s).tick.no = s.tick.no := by
  unfold belayLate
  grind [belaySwitch_tickNo, boundaryLanes_tickNo, forN_tickNo, renewReady_tickNo]

theorem stagedStep_tickNo (s : State) : (stagedStep s).tick.no = s.tick.no := by
  unfold stagedStep
  grind [showStride_tickNo, viewMode_tickNo]

end Sys2Proof.Machine
end

