-- ==== Sys2Proof/Laws/TickNoTick.lean ====
section
/-! SUPPORT. That the operations of Machine/Tick.lean leave the tick number alone. -/

namespace Sys2Proof.Machine

theorem pairEdge_tickNo (s : State) (t : Nat) : (pairEdge s t).tick.no = s.tick.no := by
  unfold pairEdge
  grind

theorem lockLost_tickNo (s : State) : (lockLost s).tick.no = s.tick.no := by
  unfold lockLost
  grind [clrF_tickNo, setF_tickNo]

theorem genlockEdge_tickNo (s : State) (err : Int) (t : Nat) : (genlockEdge s err t).tick.no = s.tick.no := by
  unfold genlockEdge
  grind [clrF_tickNo, lockLost_tickNo, putInt_tickNo, setF_tickNo, stamp_tickNo]

theorem tickCtlWrite_tickNo (s : State) (v : Nat) : (tickCtlWrite s v).tick.no = s.tick.no := by
  unfold tickCtlWrite
  grind [put_tickNo, setF_tickNo]

theorem rateDenWrite_tickNo (s : State) (v : Nat) : (rateDenWrite s v).tick.no = s.tick.no := by
  unfold rateDenWrite
  grind [put_tickNo]

theorem admLimitWrite_tickNo (s : State) (v : Nat) : (admLimitWrite s v).tick.no = s.tick.no := by
  unfold admLimitWrite
  grind [put_tickNo, setF_tickNo]

theorem setLatch_tickNo (s : State) (p : Nat) (x : Option Nat) : (setLatch s p x).tick.no = s.tick.no := by
  unfold setLatch
  grind

theorem tickLoRead_tickNo (s : State) (p : Nat) : (tickLoRead s p).tick.no = s.tick.no := by
  unfold tickLoRead
  grind [setLatch_tickNo]

theorem tickHiRead_tickNo (s : State) (p : Nat) : (tickHiRead s p).tick.no = s.tick.no := by
  unfold tickHiRead
  grind [setLatch_tickNo]

theorem dormStart_tickNo (s : State) (t : Nat) : (dormStart s t).tick.no = s.tick.no := by
  unfold dormStart
  grind [addOp_tickNo, forN_tickNo, stamp_tickNo]

theorem modeRequest_tickNo (s : State) (m t : Nat) : (modeRequest s m t).tick.no = s.tick.no := by
  unfold modeRequest
  grind [dormStart_tickNo, setTransition_tickNo]

theorem execGenlockEdge_tickNo (err : Int) (rise : Timed Bool) (s : State) (t' : State) (ht' : execGenlockEdge err rise s = .next t') : t'.tick.no = s.tick.no := by
  unfold execGenlockEdge at *
  grind [genlockEdge_tickNo]

theorem execGenlockEdgeMissing_tickNo (t : Nat) (s : State) (t' : State) (ht' : execGenlockEdgeMissing t s = .next t') : t'.tick.no = s.tick.no := by
  unfold execGenlockEdgeMissing at *
  grind [lockLost_tickNo, stamp_tickNo]

theorem execTickRateDenWrite_tickNo (v : Word32) (s : State) (t' : State) (ht' : execTickRateDenWrite v s = .next t') : t'.tick.no = s.tick.no := by
  unfold execTickRateDenWrite at *
  grind [answered_tickNo, rateDenWrite_tickNo]

theorem execTickNoLoad_tickNo (v : Word32) (s : State) (t' : State) (ht' : execTickNoLoad v s = .next t') : t'.tick.no = s.tick.no := by
  unfold execTickNoLoad at *
  grind [answered_tickNo, tickCtlWrite_tickNo]

theorem execTickNoLoRead_tickNo (p : Part) (s : State) (t' : State) (ht' : execTickNoLoRead p s = .next t') : t'.tick.no = s.tick.no := by
  unfold execTickNoLoRead at *
  grind [answered_tickNo, inWindow_tickNo, tickLoRead_tickNo]

theorem execTickNoHiRead_tickNo (p : Part) (s : State) (t' : State) (ht' : execTickNoHiRead p s = .next t') : t'.tick.no = s.tick.no := by
  unfold execTickNoHiRead at *
  grind [answered_tickNo, inWindow_tickNo, tickHiRead_tickNo]

theorem execTickAdmLimitWrite_tickNo (v : Word32) (s : State) (t' : State) (ht' : execTickAdmLimitWrite v s = .next t') : t'.tick.no = s.tick.no := by
  unfold execTickAdmLimitWrite at *
  grind [admLimitWrite_tickNo, answered_tickNo]

theorem execModeRequest_tickNo (v : Word32) (t : Nat) (s : State) (t' : State) (ht' : execModeRequest v t s = .next t') : t'.tick.no = s.tick.no := by
  unfold execModeRequest at *
  grind [answered_tickNo, finSettle_tickNo, modeRefuse_tickNo, modeRequest_tickNo]

end Sys2Proof.Machine
end

