-- ==== Sys2Proof/Laws/TickNoAccess.lean ====
section
/-! SUPPORT. That the operations of Machine/Access.lean leave the tick number alone. -/

namespace Sys2Proof.Machine

theorem accErr_tickNo (s : State) (win : Option Part) (unmapped : Bool) (off : Nat) : (accErr s win unmapped off).tick.no = s.tick.no := by
  unfold accErr
  grind [bump_tickNo, put_tickNo, raiseP_tickNo, setF_tickNo]

theorem failAccess_tickNo (s : State) (win : Option Part) (write : Bool) (off : Nat) (lanes : List Bool) : (failAccess s win write off lanes).tick.no = s.tick.no := by
  unfold failAccess
  grind [accErr_tickNo]

theorem writeFld_tickNo (v : Nat) (s : State) (f : Fld) : (writeFld v s f).tick.no = s.tick.no := by
  unfold writeFld
  grind [put_tickNo]

theorem writeWord_tickNo (s : State) (a v : Nat) : (writeWord s a v).tick.no = s.tick.no := by
  unfold writeWord
  grind [foldl_tickNo, writeFld_tickNo]

theorem clearRead_tickNo (s : State) (a : Nat) : (clearRead s a).tick.no = s.tick.no := by
  unfold clearRead
  grind [clrF_tickNo, foldl_tickNo]

theorem readReg_tickNo (s : State) (a : Nat) : (readReg s a).tick.no = s.tick.no := by
  unfold readReg
  grind [auxPop_tickNo, clearRead_tickNo, put_tickNo, useFree_tickNo]

theorem sqCfgWrite_tickNo (s : State) (p r a v : Nat) (ok : Bool) : (sqCfgWrite s p r a v ok).tick.no = s.tick.no := by
  unfold sqCfgWrite
  grind [put_tickNo, setF_tickNo, writeWord_tickNo]

theorem cqCfgWrite_tickNo (s : State) (p r a v : Nat) (ok : Bool) : (cqCfgWrite s p r a v ok).tick.no = s.tick.no := by
  unfold cqCfgWrite
  grind [put_tickNo, setF_tickNo, writeWord_tickNo]

theorem winWrite_tickNo (s : State) (p off v : Nat) : (winWrite s p off v).tick.no = s.tick.no := by
  unfold winWrite
  grind [cqCfgWrite_tickNo, msixMask_tickNo, msixSet_tickNo, pwHubErr_tickNo, sqCfgWrite_tickNo, writeWord_tickNo]

theorem ownerWrite_tickNo (s : State) (q p v : Nat) : (ownerWrite s q p v).tick.no = s.tick.no := by
  unfold ownerWrite
  grind [put_tickNo, setF_tickNo]

theorem poolCfgWrite_tickNo (s : State) (a v : Nat) (ok : Bool) : (poolCfgWrite s a v ok).tick.no = s.tick.no := by
  unfold poolCfgWrite
  grind [setF_tickNo, writeWord_tickNo]

theorem openStoreWrite_tickNo (s : State) (a v : Nat) : (openStoreWrite s a v).tick.no = s.tick.no := by
  unfold openStoreWrite
  grind [put_tickNo, setF_tickNo, writeWord_tickNo]

theorem injWrite_tickNo (s : State) (a v : Nat) : (injWrite s a v).tick.no = s.tick.no := by
  have key : ∀ (s : State) (a i : Nat) (c1 c2 c3 c4 c5 c6 : Prop) [Decidable c1] [Decidable c2] [Decidable c3]
      [Decidable c4] [Decidable c5] [Decidable c6],
      (if c1 then writeWord s a v
      else if c2 then
        (if c3 then setF s R.INJ_STAT_CFGERR
        else if c4 then injStart (writeWord s a v) i
        else writeWord s a v)
      else if c5 then s
      else if c6 then setF s R.INJ_STAT_CFGERR
      else writeWord s a v).tick.no = s.tick.no := by
    intro s a i c1 c2 c3 c4 c5 c6 _ _ _ _ _ _
    have hw := writeWord_tickNo s a v
    have hc := setF_tickNo s R.INJ_STAT_CFGERR
    exact ite_tickNo hw (ite_tickNo (ite_tickNo hc (ite_tickNo ((injStart_tickNo ..).trans hw) hw))
      (ite_tickNo rfl (ite_tickNo hc hw)))
  unfold injWrite
  exact key { s with sup := { s.sup with armAt := none } } a ((a - 0x341000) / 0x20) _ _ _ _ _ _

theorem fltMaskWrite_tickNo (s : State) (w v : Nat) : (fltMaskWrite s w v).tick.no = s.tick.no := by
  unfold fltMaskWrite
  grind [forN_tickNo, put_tickNo]

theorem bootLenWrite_tickNo (s : State) (v : Nat) : (bootLenWrite s v).tick.no = s.tick.no := by
  unfold bootLenWrite
  grind [put_tickNo]

theorem aonWrite_tickNo (s : State) (a v : Nat) : (aonWrite s a v).tick.no = s.tick.no := by
  unfold aonWrite
  grind [bootCtlStore_tickNo, bootLenWrite_tickNo, writeWord_tickNo]

theorem bar0Write_tickNo (s : State) (a v : Nat) : (bar0Write s a v).tick.no = s.tick.no := by
  have hw := writeWord_tickNo s a v
  have hc := fun f => setF_tickNo s f
  unfold bar0Write
  exact ite_tickNo (ite_tickNo rfl (tickCtlWrite_tickNo ..)) <| ite_tickNo (ite_tickNo hw (hc _)) <|
    ite_tickNo (aonWrite_tickNo ..) <| ite_tickNo (openStoreWrite_tickNo ..) <| ite_tickNo (ownerWrite_tickNo ..) <|
    ite_tickNo (ite_tickNo hw rfl) <| ite_tickNo (poolCfgWrite_tickNo ..) <| ite_tickNo (poolCfgWrite_tickNo ..) <|
    ite_tickNo (poolCfgWrite_tickNo ..) <| ite_tickNo (ite_tickNo hw (hc _)) <|
    ite_tickNo (ite_tickNo rfl (magCtlWrite_tickNo ..)) <| ite_tickNo (ite_tickNo hw (hc _)) <|
    ite_tickNo ((cacheFlush_tickNo ..).trans ((fuaAll_tickNo ..).trans hw)) <| ite_tickNo (ite_tickNo rfl hw) <|
    ite_tickNo (fltMaskWrite_tickNo ..) <| ite_tickNo (injWrite_tickNo ..) <| ite_tickNo (uartCtl_tickNo ..) <|
    ite_tickNo (auxPush_tickNo ..) hw

theorem cfgWrite_tickNo (s : State) (p : Part) (r : CfgReg) (v : Nat) : (cfgWrite s p r v).tick.no = s.tick.no := by
  unfold cfgWrite
  grind [modCfg_tickNo, msixControl_tickNo, msixFlushAll_tickNo]

theorem cfgLock_tickNo (s : State) : (cfgLock s).tick.no = s.tick.no := by
  unfold cfgLock
  grind [setF_tickNo]

theorem stageOld_tickNo (s : State) (a : Nat) : (stageOld s a).tick.no = s.tick.no := by
  unfold stageOld
  grind

theorem intCtlWrite_tickNo (s : State) (v : Nat) : (intCtlWrite s v).tick.no = s.tick.no := by
  unfold intCtlWrite
  grind [cfgLock_tickNo, put_tickNo, showStride_tickNo, stageOld_tickNo]

theorem lockedWrite_tickNo (s : State) (a v : Nat) : (lockedWrite s a v).tick.no = s.tick.no := by
  unfold lockedWrite
  grind [cfgLock_tickNo, intCtlWrite_tickNo, showStride_tickNo, writeWord_tickNo]

theorem stagedWrite_tickNo (s : State) (a v : Nat) : (stagedWrite s a v).tick.no = s.tick.no := by
  unfold stagedWrite
  grind [intCtlWrite_tickNo, stageOld_tickNo, writeWord_tickNo]

theorem setLut_tickNo (s : State) (v k i x : Nat) : (setLut s v k i x).tick.no = s.tick.no := by
  unfold setLut
  grind

theorem lutWrite_tickNo (s : State) (v x : Nat) : (lutWrite s v x).tick.no = s.tick.no := by
  unfold lutWrite
  grind [put_tickNo, setLut_tickNo]

theorem execAccessSizeError_tickNo (win : Option Part) (write : Bool) (off : Nat) (lanes : List Bool) (s : State) (t' : State) (ht' : execAccessSizeError win write off lanes s = .next t') : t'.tick.no = s.tick.no := by
  unfold execAccessSizeError at *
  grind [failAccess_tickNo]

theorem execAccessUnmapped_tickNo (win : Option Part) (write : Bool) (x : BusBytes) (s : State) (t' : State) (ht' : execAccessUnmapped win write x s = .next t') : t'.tick.no = s.tick.no := by
  unfold execAccessUnmapped at *
  grind [failAccess_tickNo]

theorem busWrite_tickNo (s : State) (win : Option Part) (off v : Nat) : (busWrite s win off v).tick.no = s.tick.no := by
  unfold busWrite
  grind [bar0Write_tickNo, failAccess_tickNo, winWrite_tickNo]

theorem busRead_tickNo (s : State) (win : Option Part) (off : Nat) : (busRead s win off).tick.no = s.tick.no := by
  unfold busRead
  grind [failAccess_tickNo, readReg_tickNo]

theorem execReadClear_tickNo (a : RegAddr) (s : State) (t' : State) (ht' : execReadClear a s = .next t') : t'.tick.no = s.tick.no := by
  unfold execReadClear at *
  grind [busRead_tickNo, testRead_tickNo]

theorem execLockedRegisterWrite_tickNo (off : Nat) (v : Word32) (s : State) (t' : State) (ht' : execLockedRegisterWrite off v s = .next t') : t'.tick.no = s.tick.no := by
  unfold execLockedRegisterWrite at *
  grind [answered_tickNo, lockedWrite_tickNo]

theorem execStagedRegisterWrite_tickNo (off : Nat) (v : Word32) (s : State) (t' : State) (ht' : execStagedRegisterWrite off v s = .next t') : t'.tick.no = s.tick.no := by
  unfold execStagedRegisterWrite at *
  grind [answered_tickNo, stagedWrite_tickNo]

theorem execLutDataWrite_tickNo (v : Fin 3) (w : Word32) (s : State) (t' : State) (ht' : execLutDataWrite v w s = .next t') : t'.tick.no = s.tick.no := by
  unfold execLutDataWrite at *
  grind [answered_tickNo, lutWrite_tickNo]

end Sys2Proof.Machine
end

