-- ==== Sys2Proof/Laws/TickNoIntake.lean ====
section
/-! SUPPORT. That the operations of Machine/Intake.lean leave the tick number alone. -/

namespace Sys2Proof.Machine

theorem execCsi2FrameStart_tickNo (n : SensorPort) (burst : Bool) (hdr : Ecc) (vc : Fin 4) (t : Nat) (s : State) (t' : State) (ht' : execCsi2FrameStart n burst hdr vc t s = .next t') : t'.tick.no = s.tick.no := by
  unfold execCsi2FrameStart at *
  grind [csiChannel_tickNo, csiHeader_tickNo, frameStart_tickNo, stamp_tickNo]

theorem execCsi2FrameEnd_tickNo (n : SensorPort) (burst : Bool) (hdr : Ecc) (vc : Fin 4) (s : State) (t' : State) (ht' : execCsi2FrameEnd n burst hdr vc s = .next t') : t'.tick.no = s.tick.no := by
  unfold execCsi2FrameEnd at *
  grind [csiChannel_tickNo, csiHeader_tickNo, endWin_tickNo]

theorem execCsi2LongPacket_tickNo (n : SensorPort) (burst : Bool) (hdr : Ecc) (vc : Fin 4) (dt : BitVec 6) (payload : List Byte) (crcOk : Bool) (s : State) (t' : State) (ht' : execCsi2LongPacket n burst hdr vc dt payload crcOk s = .next t') : t'.tick.no = s.tick.no := by
  unfold execCsi2LongPacket at *
  grind [bump_tickNo, csiChannel_tickNo, csiHeader_tickNo, takeRow_tickNo]

theorem execCsi2ShortPacketIgnored_tickNo (n : SensorPort) (burst : Bool) (hdr : Ecc) (vc : Fin 4) (s : State) (t' : State) (ht' : execCsi2ShortPacketIgnored n burst hdr vc s = .next t') : t'.tick.no = s.tick.no := by
  unfold execCsi2ShortPacketIgnored at *
  grind [csiChannel_tickNo, csiHeader_tickNo]

theorem execCsi2PacketDiscarded_tickNo (n : SensorPort) (burst : Bool) (hdr : Ecc) (s : State) (t' : State) (ht' : execCsi2PacketDiscarded n burst hdr s = .next t') : t'.tick.no = s.tick.no := by
  unfold execCsi2PacketDiscarded at *
  grind [bump_tickNo, csiHeader_tickNo]

theorem execFifoDrain_tickNo (n : SensorPort) (ecc : Ecc) (data : List Byte) (s : State) (t' : State) (ht' : execFifoDrain n ecc data s = .next t') : t'.tick.no = s.tick.no := by
  unfold execFifoDrain at *
  grind [fifoDrain_tickNo]

end Sys2Proof.Machine
end

