-- ==== Sys2Proof/Laws/TickNoMoverCmd.lean ====
section
/-! SUPPORT. That the operations of Machine/MoverCmd.lean leave the tick number alone. -/

namespace Sys2Proof.Machine

theorem chInstr_tickNo (s : State) (c op : Nat) (ok : List Byte → Bool) (f : List Byte → State → State) (h5 : ∀ (x0 : List Byte) (s : State), (f x0 s).tick.no = s.tick.no) : (chInstr s c op ok f).tick.no = s.tick.no := by
  unfold chInstr
  grind

theorem mvStart_tickNo (c : RingCmd) (s : State) : (mvStart c s).tick.no = s.tick.no := by
  unfold mvStart
  grind [chStart_tickNo, complete_tickNo]

theorem mvStop_tickNo (c : RingCmd) (s : State) : (mvStop c s).tick.no = s.tick.no := by
  unfold mvStop
  grind [complete_tickNo, modCh_tickNo, put_tickNo]

theorem poolAllocCmd_tickNo (c : RingCmd) (s : State) : (poolAllocCmd c s).tick.no = s.tick.no := by
  unfold poolAllocCmd
  grind [complete_tickNo, poolAlloc_tickNo]

theorem poolReleaseCmd_tickNo (c : RingCmd) (s : State) : (poolReleaseCmd c s).tick.no = s.tick.no := by
  unfold poolReleaseCmd
  grind [complete_tickNo, poolRelease_tickNo]

theorem execMvStart_tickNo (p : Part) (r : Ring) (id : Nat) (s : State) (t' : State) (ht' : execMvStart p r id s = .next t') : t'.tick.no = s.tick.no := by
  unfold execMvStart at *
  grind [finSettle_tickNo, mvStart_tickNo, withCmd_tickNo]

theorem execMvStop_tickNo (p : Part) (r : Ring) (id : Nat) (s : State) (t' : State) (ht' : execMvStop p r id s = .next t') : t'.tick.no = s.tick.no := by
  unfold execMvStop at *
  grind [finSettle_tickNo, mvStop_tickNo, withCmd_tickNo]

theorem execPoolAlloc_tickNo (p : Part) (r : Ring) (id : Nat) (s : State) (t' : State) (ht' : execPoolAlloc p r id s = .next t') : t'.tick.no = s.tick.no := by
  unfold execPoolAlloc at *
  grind [finSettle_tickNo, poolAllocCmd_tickNo, withCmd_tickNo]

theorem execPoolRelease_tickNo (p : Part) (r : Ring) (id : Nat) (s : State) (t' : State) (ht' : execPoolRelease p r id s = .next t') : t'.tick.no = s.tick.no := by
  unfold execPoolRelease at *
  grind [finSettle_tickNo, poolReleaseCmd_tickNo, withCmd_tickNo]

theorem execPoolAllocate_tickNo (ess : Bool) (holder : Option Part) (s : State) (t' : State) (ht' : execPoolAllocate ess holder s = .next t') : t'.tick.no = s.tick.no := by
  unfold execPoolAllocate at *
  grind [poolAlloc_tickNo]

theorem execMvMove_tickNo (c : Chan) (s : State) (t' : State) (ht' : execMvMove c s = .next t') : t'.tick.no = s.tick.no := by
  unfold execMvMove at *
  grind [chInstr_tickNo, finSettle_tickNo, mvDoMove_tickNo]

theorem execMvLoop_tickNo (c : Chan) (s : State) (t' : State) (ht' : execMvLoop c s = .next t') : t'.tick.no = s.tick.no := by
  unfold execMvLoop at *
  grind [chInstr_tickNo, finSettle_tickNo, mvDoLoop_tickNo]

theorem execMvWaitTick_tickNo (c : Chan) (t : Nat) (s : State) (t' : State) (ht' : execMvWaitTick c t s = .next t') : t'.tick.no = s.tick.no := by
  unfold execMvWaitTick at *
  grind [chInstr_tickNo, chWaiting_tickNo, stamp_tickNo]

theorem execMvWaitSsm_tickNo (c : Chan) (t : Nat) (s : State) (t' : State) (ht' : execMvWaitSsm c t s = .next t') : t'.tick.no = s.tick.no := by
  unfold execMvWaitSsm at *
  grind [chInstr_tickNo, finSettle_tickNo, mvDoWaitSsm_tickNo, stamp_tickNo]

theorem execMvWaitTimeout_tickNo (c : Chan) (t : Nat) (s : State) (t' : State) (ht' : execMvWaitTimeout c t s = .next t') : t'.tick.no = s.tick.no := by
  unfold execMvWaitTimeout at *
  grind [chFail_tickNo, chInstr_tickNo, finSettle_tickNo, stamp_tickNo]

theorem execMvSignal_tickNo (c : Chan) (s : State) (t' : State) (ht' : execMvSignal c s = .next t') : t'.tick.no = s.tick.no := by
  unfold execMvSignal at *
  grind [chInstr_tickNo, finSettle_tickNo, mvDoSignal_tickNo]

theorem execMoverBusError_tickNo (addr : Nat) (s : State) (t' : State) (ht' : execMoverBusError addr s = .next t') : t'.tick.no = s.tick.no := by
  unfold execMoverBusError at *
  grind [finSettle_tickNo, movBusError_tickNo]

theorem execMovRestart_tickNo (v : Word32) (s : State) (t' : State) (ht' : execMovRestart v s = .next t') : t'.tick.no = s.tick.no := by
  unfold execMovRestart at *
  grind [answered_tickNo]

theorem execMovRestartDone_tickNo (s : State) (t' : State) (ht' : execMovRestartDone s = .next t') : t'.tick.no = s.tick.no := by
  unfold execMovRestartDone at *
  grind [clrF_tickNo]

end Sys2Proof.Machine
end

