-- ==== Sys2Proof/Laws/TickNoSeqAlu.lean ====
section
/-! SUPPORT. That the operations of Machine/SeqAlu.lean leave the tick number alone. -/

namespace Sys2Proof.Machine

theorem aluRow_tickNo (s : State) (q : Nat) (ecc : Ecc) (rd ra rb fn cost : Nat) (f : Nat → Nat → Nat) : (aluRow s q ecc rd ra rb fn cost f).tick.no = s.tick.no := by
  unfold aluRow
  grind [seqRun_tickNo, seqWrite_tickNo]

theorem unRow_tickNo (s : State) (q : Nat) (ecc : Ecc) (rd ra fn : Nat) (f : Nat → Nat) : (unRow s q ecc rd ra fn f).tick.no = s.tick.no := by
  unfold unRow
  grind [seqRun_tickNo, seqWrite_tickNo]

theorem immRow_tickNo (s : State) (q : Nat) (ecc : Ecc) (op rd ra imm : Nat) (f : Nat → Nat → Nat) : (immRow s q ecc op rd ra imm f).tick.no = s.tick.no := by
  unfold immRow
  grind [seqRun_tickNo, seqWrite_tickNo]

theorem brRow_tickNo (s : State) (q : Nat) (ecc : Ecc) (op ra off : Nat) (c : Nat → Bool) : (brRow s q ecc op ra off c).tick.no = s.tick.no := by
  unfold brRow
  grind [charge_tickNo, seqGoto_tickNo, seqNext_tickNo, seqRun_tickNo]

theorem execAdd_tickNo (q : Seq) (ecc : Ecc) (rd ra rb : Fin 32) (s : State) (t' : State) (ht' : execAdd q ecc rd ra rb s = .next t') : t'.tick.no = s.tick.no := by
  unfold execAdd at *
  grind [aluRow_tickNo]

theorem execSub_tickNo (q : Seq) (ecc : Ecc) (rd ra rb : Fin 32) (s : State) (t' : State) (ht' : execSub q ecc rd ra rb s = .next t') : t'.tick.no = s.tick.no := by
  unfold execSub at *
  grind [aluRow_tickNo]

theorem execAnd_tickNo (q : Seq) (ecc : Ecc) (rd ra rb : Fin 32) (s : State) (t' : State) (ht' : execAnd q ecc rd ra rb s = .next t') : t'.tick.no = s.tick.no := by
  unfold execAnd at *
  grind [aluRow_tickNo]

theorem execOr_tickNo (q : Seq) (ecc : Ecc) (rd ra rb : Fin 32) (s : State) (t' : State) (ht' : execOr q ecc rd ra rb s = .next t') : t'.tick.no = s.tick.no := by
  unfold execOr at *
  grind [aluRow_tickNo]

theorem execXor_tickNo (q : Seq) (ecc : Ecc) (rd ra rb : Fin 32) (s : State) (t' : State) (ht' : execXor q ecc rd ra rb s = .next t') : t'.tick.no = s.tick.no := by
  unfold execXor at *
  grind [aluRow_tickNo]

theorem execShl_tickNo (q : Seq) (ecc : Ecc) (rd ra rb : Fin 32) (s : State) (t' : State) (ht' : execShl q ecc rd ra rb s = .next t') : t'.tick.no = s.tick.no := by
  unfold execShl at *
  grind [aluRow_tickNo]

theorem execShr_tickNo (q : Seq) (ecc : Ecc) (rd ra rb : Fin 32) (s : State) (t' : State) (ht' : execShr q ecc rd ra rb s = .next t') : t'.tick.no = s.tick.no := by
  unfold execShr at *
  grind [aluRow_tickNo]

theorem execSar_tickNo (q : Seq) (ecc : Ecc) (rd ra rb : Fin 32) (s : State) (t' : State) (ht' : execSar q ecc rd ra rb s = .next t') : t'.tick.no = s.tick.no := by
  unfold execSar at *
  grind [aluRow_tickNo]

theorem execSlt_tickNo (q : Seq) (ecc : Ecc) (rd ra rb : Fin 32) (s : State) (t' : State) (ht' : execSlt q ecc rd ra rb s = .next t') : t'.tick.no = s.tick.no := by
  unfold execSlt at *
  grind [aluRow_tickNo]

theorem execSltu_tickNo (q : Seq) (ecc : Ecc) (rd ra rb : Fin 32) (s : State) (t' : State) (ht' : execSltu q ecc rd ra rb s = .next t') : t'.tick.no = s.tick.no := by
  unfold execSltu at *
  grind [aluRow_tickNo]

theorem execMul_tickNo (q : Seq) (ecc : Ecc) (rd ra rb : Fin 32) (s : State) (t' : State) (ht' : execMul q ecc rd ra rb s = .next t') : t'.tick.no = s.tick.no := by
  unfold execMul at *
  grind [aluRow_tickNo]

theorem execMulhu_tickNo (q : Seq) (ecc : Ecc) (rd ra rb : Fin 32) (s : State) (t' : State) (ht' : execMulhu q ecc rd ra rb s = .next t') : t'.tick.no = s.tick.no := by
  unfold execMulhu at *
  grind [aluRow_tickNo]

theorem execMin_tickNo (q : Seq) (ecc : Ecc) (rd ra rb : Fin 32) (s : State) (t' : State) (ht' : execMin q ecc rd ra rb s = .next t') : t'.tick.no = s.tick.no := by
  unfold execMin at *
  grind [aluRow_tickNo]

theorem execMax_tickNo (q : Seq) (ecc : Ecc) (rd ra rb : Fin 32) (s : State) (t' : State) (ht' : execMax q ecc rd ra rb s = .next t') : t'.tick.no = s.tick.no := by
  unfold execMax at *
  grind [aluRow_tickNo]

theorem execMinu_tickNo (q : Seq) (ecc : Ecc) (rd ra rb : Fin 32) (s : State) (t' : State) (ht' : execMinu q ecc rd ra rb s = .next t') : t'.tick.no = s.tick.no := by
  unfold execMinu at *
  grind [aluRow_tickNo]

theorem execMaxu_tickNo (q : Seq) (ecc : Ecc) (rd ra rb : Fin 32) (s : State) (t' : State) (ht' : execMaxu q ecc rd ra rb s = .next t') : t'.tick.no = s.tick.no := by
  unfold execMaxu at *
  grind [aluRow_tickNo]

theorem execSextb_tickNo (q : Seq) (ecc : Ecc) (rd ra : Fin 32) (s : State) (t' : State) (ht' : execSextb q ecc rd ra s = .next t') : t'.tick.no = s.tick.no := by
  unfold execSextb at *
  grind [unRow_tickNo]

theorem execSexth_tickNo (q : Seq) (ecc : Ecc) (rd ra : Fin 32) (s : State) (t' : State) (ht' : execSexth q ecc rd ra s = .next t') : t'.tick.no = s.tick.no := by
  unfold execSexth at *
  grind [unRow_tickNo]

theorem execSextw_tickNo (q : Seq) (ecc : Ecc) (rd ra : Fin 32) (s : State) (t' : State) (ht' : execSextw q ecc rd ra s = .next t') : t'.tick.no = s.tick.no := by
  unfold execSextw at *
  grind [unRow_tickNo]

theorem execZextw_tickNo (q : Seq) (ecc : Ecc) (rd ra : Fin 32) (s : State) (t' : State) (ht' : execZextw q ecc rd ra s = .next t') : t'.tick.no = s.tick.no := by
  unfold execZextw at *
  grind [unRow_tickNo]

theorem execClz_tickNo (q : Seq) (ecc : Ecc) (rd ra : Fin 32) (s : State) (t' : State) (ht' : execClz q ecc rd ra s = .next t') : t'.tick.no = s.tick.no := by
  unfold execClz at *
  grind [unRow_tickNo]

theorem execJr_tickNo (q : Seq) (ecc : Ecc) (rd ra : Fin 32) (s : State) (t' : State) (ht' : execJr q ecc rd ra s = .next t') : t'.tick.no = s.tick.no := by
  unfold execJr at *
  grind [charge_tickNo, progFault_tickNo, seqGoto_tickNo, seqRun_tickNo, setGreg_tickNo]

theorem execAddi_tickNo (q : Seq) (ecc : Ecc) (rd ra : Fin 32) (imm : BitVec 16) (s : State) (t' : State) (ht' : execAddi q ecc rd ra imm s = .next t') : t'.tick.no = s.tick.no := by
  unfold execAddi at *
  grind [immRow_tickNo]

theorem execAndi_tickNo (q : Seq) (ecc : Ecc) (rd ra : Fin 32) (imm : BitVec 16) (s : State) (t' : State) (ht' : execAndi q ecc rd ra imm s = .next t') : t'.tick.no = s.tick.no := by
  unfold execAndi at *
  grind [immRow_tickNo]

theorem execOri_tickNo (q : Seq) (ecc : Ecc) (rd ra : Fin 32) (imm : BitVec 16) (s : State) (t' : State) (ht' : execOri q ecc rd ra imm s = .next t') : t'.tick.no = s.tick.no := by
  unfold execOri at *
  grind [immRow_tickNo]

theorem execXori_tickNo (q : Seq) (ecc : Ecc) (rd ra : Fin 32) (imm : BitVec 16) (s : State) (t' : State) (ht' : execXori q ecc rd ra imm s = .next t') : t'.tick.no = s.tick.no := by
  unfold execXori at *
  grind [immRow_tickNo]

theorem execSlti_tickNo (q : Seq) (ecc : Ecc) (rd ra : Fin 32) (imm : BitVec 16) (s : State) (t' : State) (ht' : execSlti q ecc rd ra imm s = .next t') : t'.tick.no = s.tick.no := by
  unfold execSlti at *
  grind [immRow_tickNo]

theorem execSltiu_tickNo (q : Seq) (ecc : Ecc) (rd ra : Fin 32) (imm : BitVec 16) (s : State) (t' : State) (ht' : execSltiu q ecc rd ra imm s = .next t') : t'.tick.no = s.tick.no := by
  unfold execSltiu at *
  grind [immRow_tickNo]

theorem execLui_tickNo (q : Seq) (ecc : Ecc) (rd : Fin 32) (imm : BitVec 16) (s : State) (t' : State) (ht' : execLui q ecc rd imm s = .next t') : t'.tick.no = s.tick.no := by
  unfold execLui at *
  grind [immRow_tickNo]

theorem execRds_tickNo (q : Seq) (ecc : Ecc) (rd : Fin 32) (reg : Fin 4) (t : Nat) (s : State) (t' : State) (ht' : execRds q ecc rd reg t s = .next t') : t'.tick.no = s.tick.no := by
  unfold execRds at *
  grind [seqRun_tickNo, seqWrite_tickNo, stamp_tickNo]

theorem execShli_tickNo (q : Seq) (ecc : Ecc) (rd ra : Fin 32) (sh : Fin 64) (s : State) (t' : State) (ht' : execShli q ecc rd ra sh s = .next t') : t'.tick.no = s.tick.no := by
  unfold execShli at *
  grind [immRow_tickNo]

theorem execShri_tickNo (q : Seq) (ecc : Ecc) (rd ra : Fin 32) (sh : Fin 64) (s : State) (t' : State) (ht' : execShri q ecc rd ra sh s = .next t') : t'.tick.no = s.tick.no := by
  unfold execShri at *
  grind [immRow_tickNo]

theorem execSari_tickNo (q : Seq) (ecc : Ecc) (rd ra : Fin 32) (sh : Fin 64) (s : State) (t' : State) (ht' : execSari q ecc rd ra sh s = .next t') : t'.tick.no = s.tick.no := by
  unfold execSari at *
  grind [immRow_tickNo]

theorem execBeqz_tickNo (q : Seq) (ecc : Ecc) (ra : Fin 32) (off : BitVec 21) (s : State) (t' : State) (ht' : execBeqz q ecc ra off s = .next t') : t'.tick.no = s.tick.no := by
  unfold execBeqz at *
  grind [brRow_tickNo]

theorem execBnez_tickNo (q : Seq) (ecc : Ecc) (ra : Fin 32) (off : BitVec 21) (s : State) (t' : State) (ht' : execBnez q ecc ra off s = .next t') : t'.tick.no = s.tick.no := by
  unfold execBnez at *
  grind [brRow_tickNo]

theorem execBltz_tickNo (q : Seq) (ecc : Ecc) (ra : Fin 32) (off : BitVec 21) (s : State) (t' : State) (ht' : execBltz q ecc ra off s = .next t') : t'.tick.no = s.tick.no := by
  unfold execBltz at *
  grind [brRow_tickNo]

theorem execBgez_tickNo (q : Seq) (ecc : Ecc) (ra : Fin 32) (off : BitVec 21) (s : State) (t' : State) (ht' : execBgez q ecc ra off s = .next t') : t'.tick.no = s.tick.no := by
  unfold execBgez at *
  grind [brRow_tickNo]

theorem execBgtz_tickNo (q : Seq) (ecc : Ecc) (ra : Fin 32) (off : BitVec 21) (s : State) (t' : State) (ht' : execBgtz q ecc ra off s = .next t') : t'.tick.no = s.tick.no := by
  unfold execBgtz at *
  grind [brRow_tickNo]

theorem execBlez_tickNo (q : Seq) (ecc : Ecc) (ra : Fin 32) (off : BitVec 21) (s : State) (t' : State) (ht' : execBlez q ecc ra off s = .next t') : t'.tick.no = s.tick.no := by
  unfold execBlez at *
  grind [brRow_tickNo]

theorem execJal_tickNo (q : Seq) (ecc : Ecc) (ra : Fin 32) (off : BitVec 21) (s : State) (t' : State) (ht' : execJal q ecc ra off s = .next t') : t'.tick.no = s.tick.no := by
  unfold execJal at *
  grind [charge_tickNo, seqGoto_tickNo, seqRun_tickNo, setGreg_tickNo]

theorem execHalt_tickNo (q : Seq) (ecc : Ecc) (imm : BitVec 16) (s : State) (t' : State) (ht' : execHalt q ecc imm s = .next t') : t'.tick.no = s.tick.no := by
  unfold execHalt at *
  grind [charge_tickNo, leave_tickNo, put_tickNo, raiseP_tickNo, seqRun_tickNo]

end Sys2Proof.Machine
end

