-- ==== Sys2Proof/Laws/TickNoSeqMem.lean ====
section
/-! SUPPORT. That the operations of Machine/SeqMem.lean leave the tick number alone. -/

namespace Sys2Proof.Machine

theorem atomicRow_tickNo (s : State) (q : Nat) (ecc : Ecc) (op rd ra rb : Nat) (dbl : Bool) (f : Nat → Nat → Nat → Option Nat) : (atomicRow s q ecc op rd ra rb dbl f).tick.no = s.tick.no := by
  unfold atomicRow
  grind [drainAll_tickNo, orFault_tickNo, seqRun_tickNo, seqWrite_tickNo, ssmWrite_tickNo]

theorem hostLoad_tickNo (s : State) (q p rd a n t : Nat) : (hostLoad s q p rd a n t).tick.no = s.tick.no := by
  unfold hostLoad
  grind [modPair_tickNo, settle_tickNo, startOp_tickNo]

theorem hostStore_tickNo (s : State) (q p a t : Nat) (bs : List Byte) : (hostStore s q p a t bs).tick.no = s.tick.no := by
  unfold hostStore
  grind [modPair_tickNo, settle_tickNo, startOp_tickNo]

theorem windowRow_tickNo (s : State) (q p a n : Nat) (store : Bool) (k : WinRef → State → State) (h7 : ∀ (x0 : WinRef) (s : State), (k x0 s).tick.no = s.tick.no) : (windowRow s q p a n store k).tick.no = s.tick.no := by
  unfold windowRow
  grind [orFault_tickNo]

theorem execStoreBufferDrain_tickNo (q : Seq) (s : State) (t' : State) (ht' : execStoreBufferDrain q s = .next t') : t'.tick.no = s.tick.no := by
  unfold execStoreBufferDrain at *
  grind [drainOne_tickNo]

theorem execLd_tickNo (q : Seq) (ecc : Ecc) (rd base : Fin 32) (sz : Fin 4) (off : BitVec 14) (s : State) (t' : State) (ht' : execLd q ecc rd base sz off s = .next t') : t'.tick.no = s.tick.no := by
  unfold execLd at *
  grind [orFault_tickNo, seqRun_tickNo, seqWrite_tickNo, ssmLoad_tickNo]

theorem execSt_tickNo (q : Seq) (ecc : Ecc) (rs base : Fin 32) (sz : Fin 4) (off : BitVec 14) (s : State) (t' : State) (ht' : execSt q ecc rs base sz off s = .next t') : t'.tick.no = s.tick.no := by
  unfold execSt at *
  grind [orFault_tickNo, seqNext_tickNo, seqRun_tickNo, ssmStore_tickNo]

theorem execLdw_tickNo (q : Seq) (ecc : Ecc) (rd base : Fin 32) (sz : Fin 4) (off : BitVec 14) (ue : Bool) (t : Nat) (s : State) (t' : State) (ht' : execLdw q ecc rd base sz off ue t s = .next t') : t'.tick.no = s.tick.no := by
  unfold execLdw at *
  grind [hostLoad_tickNo, orFault_tickNo, seqRun_tickNo, seqWrite_tickNo, stallCycles_tickNo, stamp_tickNo, windowRow_tickNo]

theorem execStw_tickNo (q : Seq) (ecc : Ecc) (rs base : Fin 32) (sz : Fin 4) (off : BitVec 14) (t : Nat) (s : State) (t' : State) (ht' : execStw q ecc rs base sz off t s = .next t') : t'.tick.no = s.tick.no := by
  unfold execStw at *
  grind [fsWrite_tickNo, hostStore_tickNo, seqNext_tickNo, seqRun_tickNo, stallCycles_tickNo, stamp_tickNo, windowRow_tickNo]

theorem execAmoadd_tickNo (q : Seq) (ecc : Ecc) (rd ra rb : Fin 32) (dbl : Bool) (s : State) (t' : State) (ht' : execAmoadd q ecc rd ra rb dbl s = .next t') : t'.tick.no = s.tick.no := by
  unfold execAmoadd at *
  grind [atomicRow_tickNo]

theorem execAmoswap_tickNo (q : Seq) (ecc : Ecc) (rd ra rb : Fin 32) (dbl : Bool) (s : State) (t' : State) (ht' : execAmoswap q ecc rd ra rb dbl s = .next t') : t'.tick.no = s.tick.no := by
  unfold execAmoswap at *
  grind [atomicRow_tickNo]

theorem execCas_tickNo (q : Seq) (ecc : Ecc) (rd ra rb : Fin 32) (dbl : Bool) (s : State) (t' : State) (ht' : execCas q ecc rd ra rb dbl s = .next t') : t'.tick.no = s.tick.no := by
  unfold execCas at *
  grind [atomicRow_tickNo]

theorem execFence_tickNo (q : Seq) (ecc : Ecc) (s : State) (t' : State) (ht' : execFence q ecc s = .next t') : t'.tick.no = s.tick.no := by
  unfold execFence at *
  grind [drainAll_tickNo, seqNext_tickNo, seqRun_tickNo, stallCycles_tickNo]

end Sys2Proof.Machine
end

