-- ==== Sys2Proof/Laws/TickNoStrandExec.lean ====
section
/-! SUPPORT. That the operations of Machine/StrandExec.lean leave the tick number alone. -/

namespace Sys2Proof.Machine

theorem sramCe_tickNo (s : State) (n k : Nat) : (sramCe s n k).tick.no = s.tick.no := by
  unfold sramCe
  grind [bumpBy_tickNo, fault_tickNo]

theorem execJobStart_tickNo (n : Strand) (t : Nat) (s : State) (t' : State) (ht' : execJobStart n t s = .next t') : t'.tick.no = s.tick.no := by
  unfold execJobStart at *
  grind [finSettle_tickNo, stamp_tickNo, startJob_tickNo]

theorem execEncRow_tickNo (n : Strand) (hits : List (Nat × Nat × Nat × Nat)) (upset : List (Nat × Byte)) (ce : Nat) (s : State) (t' : State) (ht' : execEncRow n hits upset ce s = .next t') : t'.tick.no = s.tick.no := by
  unfold execEncRow at *
  grind [encRow_tickNo, finSettle_tickNo, sramCe_tickNo]

theorem execEchoCheckDone_tickNo (x : StrandRun) (s : State) (t' : State) (ht' : execEchoCheckDone x s = .next t') : t'.tick.no = s.tick.no := by
  unfold execEchoCheckDone at *
  grind [echoDone_tickNo, finSettle_tickNo, sramCe_tickNo]

theorem execDecRow_tickNo (x : StrandRun) (s : State) (t' : State) (ht' : execDecRow x s = .next t') : t'.tick.no = s.tick.no := by
  unfold execDecRow at *
  grind [decRow_tickNo, finSettle_tickNo, sramCe_tickNo]

theorem execRowCommit_tickNo (n : Strand) (writes : Nat) (waited : Timed Nat) (s : State) (t' : State) (ht' : execRowCommit n writes waited s = .next t') : t'.tick.no = s.tick.no := by
  unfold execRowCommit at *
  grind [finSettle_tickNo, rowCommit_tickNo, stamp_tickNo]

theorem execEchoJob_tickNo (x : StrandRun) (s : State) (t' : State) (ht' : execEchoJob x s = .next t') : t'.tick.no = s.tick.no := by
  unfold execEchoJob at *
  grind [echoJob_tickNo, finSettle_tickNo, sramCe_tickNo]

theorem execLoadctx_tickNo (n : Strand) (s : State) (t' : State) (ht' : execLoadctx n s = .next t') : t'.tick.no = s.tick.no := by
  unfold execLoadctx at *
  grind [finSettle_tickNo, loadCtx_tickNo]

theorem execSavectx_tickNo (n : Strand) (s : State) (t' : State) (ht' : execSavectx n s = .next t') : t'.tick.no = s.tick.no := by
  unfold execSavectx at *
  grind [finSettle_tickNo, saveCtx_tickNo]

theorem uStep_tickNo (n : Nat) (ecc : Ecc) (w : MicroWord) (eng : Bool) (op : MicroWord → Bool) (s : State) (t' : State) (ht' : uStep n ecc w eng op s = .next t') : t'.tick.no = s.tick.no := by
  unfold uStep at *
  grind [bump_tickNo, fault_tickNo, finSettle_tickNo, storeUe_tickNo, uIllegal_tickNo, uWord_tickNo]

theorem execUAdd_tickNo (n : Strand) (ecc : Ecc) (w : MicroWord) (eng : Bool) (s : State) (t' : State) (ht' : execUAdd n ecc w eng s = .next t') : t'.tick.no = s.tick.no := by
  unfold execUAdd at *
  grind [uStep_tickNo]

theorem execUSub_tickNo (n : Strand) (ecc : Ecc) (w : MicroWord) (eng : Bool) (s : State) (t' : State) (ht' : execUSub n ecc w eng s = .next t') : t'.tick.no = s.tick.no := by
  unfold execUSub at *
  grind [uStep_tickNo]

theorem execUAnd_tickNo (n : Strand) (ecc : Ecc) (w : MicroWord) (eng : Bool) (s : State) (t' : State) (ht' : execUAnd n ecc w eng s = .next t') : t'.tick.no = s.tick.no := by
  unfold execUAnd at *
  grind [uStep_tickNo]

theorem execUOr_tickNo (n : Strand) (ecc : Ecc) (w : MicroWord) (eng : Bool) (s : State) (t' : State) (ht' : execUOr n ecc w eng s = .next t') : t'.tick.no = s.tick.no := by
  unfold execUOr at *
  grind [uStep_tickNo]

theorem execUXor_tickNo (n : Strand) (ecc : Ecc) (w : MicroWord) (eng : Bool) (s : State) (t' : State) (ht' : execUXor n ecc w eng s = .next t') : t'.tick.no = s.tick.no := by
  unfold execUXor at *
  grind [uStep_tickNo]

theorem execUShl_tickNo (n : Strand) (ecc : Ecc) (w : MicroWord) (eng : Bool) (s : State) (t' : State) (ht' : execUShl n ecc w eng s = .next t') : t'.tick.no = s.tick.no := by
  unfold execUShl at *
  grind [uStep_tickNo]

theorem execUShr_tickNo (n : Strand) (ecc : Ecc) (w : MicroWord) (eng : Bool) (s : State) (t' : State) (ht' : execUShr n ecc w eng s = .next t') : t'.tick.no = s.tick.no := by
  unfold execUShr at *
  grind [uStep_tickNo]

theorem execUSar_tickNo (n : Strand) (ecc : Ecc) (w : MicroWord) (eng : Bool) (s : State) (t' : State) (ht' : execUSar n ecc w eng s = .next t') : t'.tick.no = s.tick.no := by
  unfold execUSar at *
  grind [uStep_tickNo]

theorem execUMul_tickNo (n : Strand) (ecc : Ecc) (w : MicroWord) (eng : Bool) (s : State) (t' : State) (ht' : execUMul n ecc w eng s = .next t') : t'.tick.no = s.tick.no := by
  unfold execUMul at *
  grind [uStep_tickNo]

theorem execUMin_tickNo (n : Strand) (ecc : Ecc) (w : MicroWord) (eng : Bool) (s : State) (t' : State) (ht' : execUMin n ecc w eng s = .next t') : t'.tick.no = s.tick.no := by
  unfold execUMin at *
  grind [uStep_tickNo]

theorem execUMax_tickNo (n : Strand) (ecc : Ecc) (w : MicroWord) (eng : Bool) (s : State) (t' : State) (ht' : execUMax n ecc w eng s = .next t') : t'.tick.no = s.tick.no := by
  unfold execUMax at *
  grind [uStep_tickNo]

theorem execULi_tickNo (n : Strand) (ecc : Ecc) (w : MicroWord) (eng : Bool) (s : State) (t' : State) (ht' : execULi n ecc w eng s = .next t') : t'.tick.no = s.tick.no := by
  unfold execULi at *
  grind [uStep_tickNo]

theorem execULui_tickNo (n : Strand) (ecc : Ecc) (w : MicroWord) (eng : Bool) (s : State) (t' : State) (ht' : execULui n ecc w eng s = .next t') : t'.tick.no = s.tick.no := by
  unfold execULui at *
  grind [uStep_tickNo]

theorem execUAddi_tickNo (n : Strand) (ecc : Ecc) (w : MicroWord) (eng : Bool) (s : State) (t' : State) (ht' : execUAddi n ecc w eng s = .next t') : t'.tick.no = s.tick.no := by
  unfold execUAddi at *
  grind [uStep_tickNo]

theorem execUCmp_tickNo (n : Strand) (ecc : Ecc) (w : MicroWord) (eng : Bool) (s : State) (t' : State) (ht' : execUCmp n ecc w eng s = .next t') : t'.tick.no = s.tick.no := by
  unfold execUCmp at *
  grind [uStep_tickNo]

theorem execULd_tickNo (n : Strand) (ecc : Ecc) (w : MicroWord) (eng : Bool) (s : State) (t' : State) (ht' : execULd n ecc w eng s = .next t') : t'.tick.no = s.tick.no := by
  unfold execULd at *
  grind [uStep_tickNo]

theorem execUSt_tickNo (n : Strand) (ecc : Ecc) (w : MicroWord) (eng : Bool) (s : State) (t' : State) (ht' : execUSt n ecc w eng s = .next t') : t'.tick.no = s.tick.no := by
  unfold execUSt at *
  grind [uStep_tickNo]

theorem execULdh_tickNo (n : Strand) (ecc : Ecc) (w : MicroWord) (eng : Bool) (s : State) (t' : State) (ht' : execULdh n ecc w eng s = .next t') : t'.tick.no = s.tick.no := by
  unfold execULdh at *
  grind [uStep_tickNo]

theorem execUSth_tickNo (n : Strand) (ecc : Ecc) (w : MicroWord) (eng : Bool) (s : State) (t' : State) (ht' : execUSth n ecc w eng s = .next t') : t'.tick.no = s.tick.no := by
  unfold execUSth at *
  grind [uStep_tickNo]

theorem execUBranch_tickNo (n : Strand) (ecc : Ecc) (w : MicroWord) (eng : Bool) (s : State) (t' : State) (ht' : execUBranch n ecc w eng s = .next t') : t'.tick.no = s.tick.no := by
  unfold execUBranch at *
  grind [uStep_tickNo]

theorem execUWaitCond_tickNo (n : Strand) (ecc : Ecc) (w : MicroWord) (eng : Bool) (s : State) (t' : State) (ht' : execUWaitCond n ecc w eng s = .next t') : t'.tick.no = s.tick.no := by
  unfold execUWaitCond at *
  grind [uStep_tickNo]

theorem execUDispatch_tickNo (n : Strand) (ecc : Ecc) (w : MicroWord) (eng : Bool) (s : State) (t' : State) (ht' : execUDispatch n ecc w eng s = .next t') : t'.tick.no = s.tick.no := by
  unfold execUDispatch at *
  grind [uStep_tickNo]

theorem execUCall_tickNo (n : Strand) (ecc : Ecc) (w : MicroWord) (eng : Bool) (s : State) (t' : State) (ht' : execUCall n ecc w eng s = .next t') : t'.tick.no = s.tick.no := by
  unfold execUCall at *
  grind [uStep_tickNo]

theorem execUReturn_tickNo (n : Strand) (ecc : Ecc) (w : MicroWord) (eng : Bool) (s : State) (t' : State) (ht' : execUReturn n ecc w eng s = .next t') : t'.tick.no = s.tick.no := by
  unfold execUReturn at *
  grind [uStep_tickNo]

theorem execUCommit_tickNo (n : Strand) (ecc : Ecc) (w : MicroWord) (eng : Bool) (s : State) (t' : State) (ht' : execUCommit n ecc w eng s = .next t') : t'.tick.no = s.tick.no := by
  unfold execUCommit at *
  grind [uStep_tickNo]

theorem execControlStoreUe_tickNo (n : Strand) (s : State) (t' : State) (ht' : execControlStoreUe n s = .next t') : t'.tick.no = s.tick.no := by
  unfold execControlStoreUe at *
  grind [finSettle_tickNo, storeUe_tickNo]

theorem execCustom_tickNo (n : Strand) (t : Nat) (s : State) (t' : State) (ht' : execCustom n t s = .next t') : t'.tick.no = s.tick.no := by
  unfold execCustom at *
  grind [finSettle_tickNo, stamp_tickNo, startCustom_tickNo]

theorem execCustomTimeout_tickNo (n : Strand) (t : Nat) (s : State) (t' : State) (ht' : execCustomTimeout n t s = .next t') : t'.tick.no = s.tick.no := by
  unfold execCustomTimeout at *
  grind [customFault_tickNo, finSettle_tickNo, stamp_tickNo]

theorem execNoCommitTimeout_tickNo (n : Strand) (waited t : Nat) (s : State) (t' : State) (ht' : execNoCommitTimeout n waited t s = .next t') : t'.tick.no = s.tick.no := by
  unfold execNoCommitTimeout at *
  grind [finSettle_tickNo, noCommit_tickNo]

theorem execStrandSramUe_tickNo (n : Strand) (s : State) (t' : State) (ht' : execStrandSramUe n s = .next t') : t'.tick.no = s.tick.no := by
  unfold execStrandSramUe at *
  grind [finSettle_tickNo, sramUe_tickNo]

theorem execSplice_tickNo (unack : Bool) (s : State) (t' : State) (ht' : execSplice unack s = .next t') : t'.tick.no = s.tick.no := by
  unfold execSplice at *
  grind [finSettle_tickNo, splice_tickNo]

theorem execSpareRestore_tickNo (n : Strand) (t : Nat) (s : State) (t' : State) (ht' : execSpareRestore n t s = .next t') : t'.tick.no = s.tick.no := by
  unfold execSpareRestore at *
  grind [finSettle_tickNo, restoreLane_tickNo, stamp_tickNo]

theorem execSelftest_tickNo (n : Strand) (s : State) (t' : State) (ht' : execSelftest n s = .next t') : t'.tick.no = s.tick.no := by
  unfold execSelftest at *
  grind [finSettle_tickNo, startTest_tickNo]

theorem execSelftestDone_tickNo (n : Strand) (part : Nat) (sig : Word32) (s : State) (t' : State) (ht' : execSelftestDone n part sig s = .next t') : t'.tick.no = s.tick.no := by
  unfold execSelftestDone at *
  grind [finSettle_tickNo, testDone_tickNo]

theorem execSpareSelftestTimer_tickNo (t : Nat) (s : State) (t' : State) (ht' : execSpareSelftestTimer t s = .next t') : t'.tick.no = s.tick.no := by
  unfold execSpareSelftestTimer at *
  grind [finSettle_tickNo, spareTests_tickNo]

theorem execStrReset_tickNo (n : Strand) (v : Word32) (s : State) (t' : State) (ht' : execStrReset n v s = .next t') : t'.tick.no = s.tick.no := by
  unfold execStrReset at *
  grind [answered_tickNo, finSettle_tickNo, strReset_tickNo]

theorem execStrQuarSet_tickNo (v : Word32) (s : State) (t' : State) (ht' : execStrQuarSet v s = .next t') : t'.tick.no = s.tick.no := by
  unfold execStrQuarSet at *
  grind [answered_tickNo, finSettle_tickNo, strQuarSet_tickNo]

theorem execStrReadmit_tickNo (v : Word32) (s : State) (t' : State) (ht' : execStrReadmit v s = .next t') : t'.tick.no = s.tick.no := by
  unfold execStrReadmit at *
  grind [answered_tickNo, finSettle_tickNo, strReadmit_tickNo]

theorem execStrTestReq_tickNo (v : Word32) (s : State) (t' : State) (ht' : execStrTestReq v s = .next t') : t'.tick.no = s.tick.no := by
  unfold execStrTestReq at *
  grind [answered_tickNo, finSettle_tickNo, strTestReq_tickNo]

theorem execStrPoolWrite_tickNo (v : Word32) (s : State) (t' : State) (ht' : execStrPoolWrite v s = .next t') : t'.tick.no = s.tick.no := by
  unfold execStrPoolWrite at *
  grind [answered_tickNo, finSettle_tickNo, strPoolWrite_tickNo]

theorem execOsData2Write_tickNo (v : Word32) (s : State) (t' : State) (ht' : execOsData2Write v s = .next t') : t'.tick.no = s.tick.no := by
  unfold execOsData2Write at *
  grind [answered_tickNo, finSettle_tickNo, osData2_tickNo]

end Sys2Proof.Machine
end

