-- ==== Sys2Proof/Machine/Extract.lean ====
section
/-! DEFINITION. Layer extraction (R127, R170, R173): the stream that keeps the lower layers of an Alazerik frame. The host software or mover
program that carries it out copies bytes; no command of the block does it (log entry 82). -/

namespace Sys2Proof.Machine

/-- The stored bytes up to the next marker, and the rest: a marker is 0xFF not followed by the stuffed zero (R160). -/
def bodyOf : List Byte → List Byte × List Byte
  | a :: b :: r =>
    if a = 0xFF#8 ∧ b ≠ 0#8 then ([], a :: b :: r)
    else let x := bodyOf (b :: r); (a :: x.1, x.2)
  | l => (l, [])

/-- The records of a stream: marker code and stored body. -/
def recordsOf : Nat → List Byte → List (Byte × List Byte)
  | fuel + 1, a :: c :: r =>
    if a = 0xFF#8 then let x := bodyOf r; (c, x.1) :: recordsOf fuel x.2 else []
  | _, _ => []

/-- The logical bytes of stored ones (R160). -/
def unstuff : List Byte → List Byte
  | a :: b :: r => if a = 0xFF#8 ∧ b = 0#8 then a :: unstuff r else a :: unstuff (b :: r)
  | l => l

/-- The stored bytes of the first n logical ones, and the rest. -/
def storedSplit : Nat → List Byte → List Byte × List Byte
  | 0, l => ([], l)
  | n + 1, a :: b :: r =>
    if a = 0xFF#8 ∧ b = 0#8 then let x := storedSplit n r; (a :: b :: x.1, x.2)
    else let x := storedSplit n (b :: r); (a :: x.1, x.2)
  | _ + 1, l => (l, [])

/-- Logical bytes i to i + n − 1 of l replaced by v, big-endian. -/
def putBe (l : List Byte) (i n v : Nat) : List Byte := l.take i ++ beBytes n v ++ l.drop (i + n)

/-- R173: a frame start record with LAYERS set to keep. -/
def extractStart (keep : Nat) (body : List Byte) : List Byte :=
  let l := unstuff body
  let l := l.take (l.length - 4)
  let flags := beAt l 4 1
  record 0xA0#8 (stuff (putBe l 4 1 (flags - 2 * (flags / 2 % 4) + 2 * keep)))

/-- R127, R170: a row segment with its header, L2 at length 0 (L1 as well when only L0 is kept), and its own CRC. -/
def extractRow (keep : Nat) (body : List Byte) : List Byte :=
  let x := storedSplit 16 body
  let h := unstuff x.1
  let n0 := beAt h 6 3
  let n1 := if keep < 2 then 0 else beAt h 9 3
  record 0xA2#8 (stuff (putBe (putBe h 9 3 n1) 0xC 3 0) ++ x.2.take n0 ++ (x.2.drop n0).take n1)

/-- R173: the frame end record with the RUN_LEN of each band. -/
def extractEnd (runs : List Nat) (body : List Byte) : List Byte :=
  let l := unstuff body
  let l := l.take (l.length - 4)
  record 0xA3#8 (stuff (l.take 4 ++ runs.flatMap (beBytes 4) ++ l.drop (4 + 4 * runs.length)))

/-- One more record of an extraction: the bytes so far; the bytes stored when each band run began, and those at the end of its last
row segment. -/
def extractStep (keep : Nat) (x : List Byte × List (Nat × Nat)) (r : Byte × List Byte) : List Byte × List (Nat × Nat) :=
  let copy := 0xFF#8 :: r.1 :: r.2
  if r.1 = 0xA0#8 then (x.1 ++ extractStart keep r.2, [])
  else if r.1 = 0xA1#8 then (x.1 ++ copy, x.2 ++ [(x.1.length, x.1.length)])
  else if r.1 = 0xA2#8 then
    let out := x.1 ++ extractRow keep r.2
    (out, x.2.dropLast ++ (x.2.getLast?.map fun b => (b.1, out.length)).toList)
  else if r.1 = 0xA3#8 then (x.1 ++ extractEnd (x.2.map fun b => b.2 - b.1) r.2, [])
  else (x.1 ++ copy, x.2)

/-- R127: the stream that carries L0 (keep = 1), or L0 and L1 (keep = 2), of the stream given. -/
def extractLayers (keep : Nat) (stream : List Byte) : List Byte :=
  ((recordsOf stream.length stream).foldl (extractStep keep) ([], [])).1

end Sys2Proof.Machine
end

