-- ==== Sys2Proof/WellFormed.lean ====
section
/-! DEFINITION. Which terms of Instr are commands that can be sent: operands that their types leave wider than the interface they come
through are in range. -/

namespace Sys2Proof

/-- CYCLE is a 64-bit count (R285). -/
def cycleOk (t : Nat) : Bool := t < 2 ^ 64

/-- A tick number is a 64-bit count (R29). -/
def tickOk (n : Nat) : Bool := n < 2 ^ 64

/-- The identifier of a ring command, and of an NVMe command, has 16 bits (R346). -/
def idOk (n : Nat) : Bool := n < 2 ^ 16

/-- A coil pool buffer number (R399). -/
def bufOk (b : Nat) : Bool := b < 262144

/-- A frame store address has 35 bits (R409). -/
def storeOk (a : Nat) : Bool := a < 2 ^ 35

/-- A word offset inside the global BAR0 of 4 MiB, or inside a window of 64 KiB (R18). -/
def offOk (win : Option Part) (off : Nat) : Bool := off % 4 == 0 && off < if win.isSome then 0x10000 else 0x400000

/-- Byte enables of whole words (R8). -/
def lanesOk (l : List Bool) : Bool := l.length != 0 && l.length % 4 == 0

/-- The address of one register. -/
def regOk : RegAddr → Bool
  | .bar0 off => offOk none off
  | .window p off => offOk (some p) off
  | .config _ _ => true
  | .test (.data k) => k < 64
  | .test _ => true

/-- A word of the INT block (R101). -/
def intakeReg (off : Nat) : Bool := off % 4 == 0 && 0xA0000 ≤ off && off < 0xB0000

/-- Is a command well formed? -/
def Instr.wf : Instr → Bool
  | .accessSizeError win _ off lanes => offOk win off && off % 4 == 0 && lanesOk lanes
  | .accessUnmapped win _ x => offOk win x.off && lanesOk x.lanes
  | .registerWrite a _ => regOk a
  | .readClear a => regOk a
  | .powerOn => true
  | .resetNAssert _ _ => true
  | .internalResetRelease _ => true
  | .aonBrownOut => true
  | .supplyOor => true
  | .clkFail => true
  | .aonRstCtl _ => true
  | .bootAttempt _ _ _ _ _ _ _ tests => tests.length == 18 && tests.all fun x => x.1 ≤ 4
  | .bootTimeout t => cycleOk t
  | .aonBootData _ => true
  | .aonBootGo x => x.val.toNat / 256 % 2 == 1 && cycleOk x.t
  | .aonBootRetry _ => true
  | .b0Ready t => cycleOk t
  | .clockGate _ _ t => cycleOk t
  | .blockWake _ t => cycleOk t
  | .wakeNFall => true
  | .perstNRise => true
  | .wakeTimerExpiry t => cycleOk t
  | .thermalHot _ => true
  | .thermalCrit _ => true
  | .hostLinkDown => true
  | .freeRunTick t => cycleOk t
  | .tickInEdge rise _ => cycleOk rise.t
  | .holdoverTick t => cycleOk t
  | .genlockEdge _ rise => cycleOk rise.t
  | .genlockTick t => cycleOk t
  | .genlockEdgeMissing t => cycleOk t
  | .tickRateDenWrite _ => true
  | .tickNoLoad _ => true
  | .tickNoLoRead _ => true
  | .tickNoHiRead _ => true
  | .tickAdmLimitWrite _ => true
  | .admission => true
  | .modeRequest _ t => cycleOk t
  | .csi2FrameStart _ _ _ _ t => cycleOk t
  | .csi2FrameEnd _ _ _ _ => true
  | .csi2LongPacket _ _ _ _ _ _ _ => true
  | .csi2ShortPacketIgnored _ _ _ _ => true
  | .csi2PacketDiscarded _ _ _ => true
  | .fifoDrain _ _ _ => true
  | .lockedRegisterWrite off _ => intakeReg off
  | .stagedRegisterWrite off _ => intakeReg off
  | .lutDataWrite _ _ => true
  | .viewFrameDone _ _ tick => tickOk tick
  | .moFrameStart _ t => cycleOk t
  | .quantumExpiry _ => true
  | .storeBufferDrain _ => true
  | .add _ _ _ _ _ => true
  | .sub _ _ _ _ _ => true
  | .and _ _ _ _ _ => true
  | .or _ _ _ _ _ => true
  | .xor _ _ _ _ _ => true
  | .shl _ _ _ _ _ => true
  | .shr _ _ _ _ _ => true
  | .sar _ _ _ _ _ => true
  | .slt _ _ _ _ _ => true
  | .sltu _ _ _ _ _ => true
  | .mul _ _ _ _ _ => true
  | .mulhu _ _ _ _ _ => true
  | .min _ _ _ _ _ => true
  | .max _ _ _ _ _ => true
  | .minu _ _ _ _ _ => true
  | .maxu _ _ _ _ _ => true
  | .sextb _ _ _ _ => true
  | .sexth _ _ _ _ => true
  | .sextw _ _ _ _ => true
  | .zextw _ _ _ _ => true
  | .jr _ _ _ _ => true
  | .clz _ _ _ _ => true
  | .addi _ _ _ _ _ => true
  | .andi _ _ _ _ _ => true
  | .ori _ _ _ _ _ => true
  | .xori _ _ _ _ _ => true
  | .slti _ _ _ _ _ => true
  | .sltiu _ _ _ _ _ => true
  | .lui _ _ _ _ => true
  | .rds _ _ _ _ t => cycleOk t
  | .shli _ _ _ _ _ => true
  | .shri _ _ _ _ _ => true
  | .sari _ _ _ _ _ => true
  | .ld _ _ _ _ _ _ => true
  | .st _ _ _ _ _ _ => true
  | .ldw _ _ _ _ _ _ _ t => cycleOk t
  | .stw _ _ _ _ _ _ t => cycleOk t
  | .amoadd _ _ _ _ _ _ => true
  | .amoswap _ _ _ _ _ _ => true
  | .cas _ _ _ _ _ _ => true
  | .fence _ _ => true
  | .beqz _ _ _ _ => true
  | .bnez _ _ _ _ => true
  | .bltz _ _ _ _ => true
  | .bgez _ _ _ _ => true
  | .bgtz _ _ _ _ => true
  | .blez _ _ _ _ => true
  | .jal _ _ _ _ => true
  | .issue _ _ _ _ _ t => cycleOk t
  | .move _ _ _ _ _ => true
  | .spool _ _ _ _ _ _ t => cycleOk t
  | .sig _ _ _ _ _ => true
  | .waitTick _ _ _ _ _ => true
  | .waitTag _ _ _ _ _ => true
  | .waitTimer _ _ _ _ _ => true
  | .waitEdge _ _ _ _ _ => true
  | .waitDoorbell _ _ _ _ _ => true
  | .tsetCancel _ _ _ _ _ => true
  | .tsetOneshot _ _ _ _ _ t => cycleOk t
  | .tsetPeriodic _ _ _ _ _ t => cycleOk t
  | .tsetTickOneshot _ _ _ _ _ => true
  | .tsetTickPeriodic _ _ _ _ _ => true
  | .tgetNs _ _ _ _ _ t => cycleOk t
  | .tgetPending _ _ _ _ _ => true
  | .tgetLost _ _ _ _ _ => true
  | .earmArm _ _ _ _ _ edges _ => edges.val != 0
  | .earmDisarm _ _ _ _ _ _ => true
  | .halt _ _ _ => true
  | .timerExpiry _ _ t => cycleOk t
  | .edgeCapture _ _ _ t => cycleOk t
  | .programDoorbell _ _ => true
  | .jobStart _ t => cycleOk t
  | .encRow _ _ _ _ => true
  | .decRow _ => true
  | .echoJob _ => true
  | .loadctx _ => true
  | .savectx _ => true
  | .selftest _ => true
  | .custom _ t => cycleOk t
  | .uAdd _ _ _ _ => true
  | .uSub _ _ _ _ => true
  | .uAnd _ _ _ _ => true
  | .uOr _ _ _ _ => true
  | .uXor _ _ _ _ => true
  | .uShl _ _ _ _ => true
  | .uShr _ _ _ _ => true
  | .uSar _ _ _ _ => true
  | .uMul _ _ _ _ => true
  | .uMin _ _ _ _ => true
  | .uMax _ _ _ _ => true
  | .uLi _ _ _ _ => true
  | .uLui _ _ _ _ => true
  | .uAddi _ _ _ _ => true
  | .uCmp _ _ _ _ => true
  | .uLd _ _ _ _ => true
  | .uSt _ _ _ _ => true
  | .uLdh _ _ _ _ => true
  | .uSth _ _ _ _ => true
  | .uBranch _ _ _ _ => true
  | .uWaitCond _ _ _ _ => true
  | .uDispatch _ _ _ _ => true
  | .uCall _ _ _ _ => true
  | .uReturn _ _ _ _ => true
  | .uCommit _ _ _ _ => true
  | .rowCommit _ _ waited => cycleOk waited.t
  | .echoCheckDone _ => true
  | .noCommitTimeout _ _ t => cycleOk t
  | .strandSramUe _ => true
  | .controlStoreUe _ => true
  | .customTimeout _ t => cycleOk t
  | .splice _ => true
  | .spareRestore _ t => cycleOk t
  | .selftestDone _ part _ => part ≤ 4
  | .spareSelftestTimer t => cycleOk t
  | .strReset _ _ => true
  | .strQuarSet _ => true
  | .strReadmit _ => true
  | .strTestReq _ => true
  | .strPoolWrite _ => true
  | .osData2Write _ => true
  | .install _ _ id => idOk id
  | .installImageLoaded _ => true
  | .swap _ _ id => idOk id
  | .restart _ _ id => idOk id
  | .nop _ _ id => idOk id
  | .seqMigReq _ => true
  | .seqOnlineRequest _ => true
  | .seqTestReq _ => true
  | .seqTestDone _ => true
  | .sqDoorbell _ _ => true
  | .ringService _ _ => true
  | .sqEnable _ _ => true
  | .sqDisable _ _ => true
  | .cqEnable _ _ => true
  | .cqDisable _ _ => true
  | .cqHeadWrite _ _ _ => true
  | .hubRaise _ => true
  | .hubPendSet _ => true
  | .hubPendClr _ => true
  | .hubMaskSet _ => true
  | .hubMaskClr _ => true
  | .hubAssign _ => true
  | .hubClaim _ => true
  | .hubEoi _ _ => true
  | .hubRouteWrite _ _ => true
  | .hubTgtCtlWrite _ _ => true
  | .seqTargetClaim _ => true
  | .belayClaim => true
  | .msixVectorUnmask _ _ => true
  | .pwHubRaise _ _ => true
  | .pwHubPendClr _ _ => true
  | .pwHubMaskSet _ _ => true
  | .pwHubMaskClr _ _ => true
  | .pwHubClaim _ => true
  | .pwHubEoi _ _ => true
  | .walkReadDone _ page _ _ => page < 2 ^ 36
  | .iomInvCmd _ => true
  | .invalidationDone => true
  | .iomRootWrite _ _ _ => true
  | .pwFqPop _ => true
  | .prtFsSizeWrite _ _ => true
  | .prtSsmWrite _ _ => true
  | .prtShareWrite _ _ => true
  | .prtPreset _ => true
  | .functionLevelReset _ => true
  | .vfEnableClear _ => true
  | .mvStart _ _ id => idOk id
  | .mvStop _ _ id => idOk id
  | .poolAlloc _ _ id => idOk id
  | .poolRelease _ _ id => idOk id
  | .mvMove _ => true
  | .mvLoop _ => true
  | .mvWaitTick _ t => cycleOk t
  | .mvWaitSsm _ t => cycleOk t
  | .mvWaitTimeout _ t => cycleOk t
  | .mvSignal _ => true
  | .moverBusError addr => addr < 2 ^ 64
  | .movRestart _ => true
  | .movRestartDone => true
  | .poolInit => true
  | .poolInitDone essOrder genOrder => essOrder.length + genOrder.length ≤ 262144
  | .poolAllocate _ _ => true
  | .poolIncrement buf _ => bufOk buf
  | .poolDecrement buf _ => bufOk buf
  | .dramRequestDone _ _ addr _ since t _ _ => storeOk addr && since ≤ t && cycleOk t
  | .urgencyEscalate _ addr _ since t => storeOk addr && since ≤ t && cycleOk t
  | .refreshDue _ _ _ => true
  | .dqsTracking t => cycleOk t
  | .mr4Read codes => codes.length == 16
  | .drcFreqSet _ => true
  | .drcFreqForce _ => true
  | .drcFreqCancel => true
  | .freqChangeDone _ t => cycleOk t
  | .drcTrain _ => true
  | .trainingDone _ => true
  | .drcPortTgtWrite _ _ => true
  | .drcTsetWrite _ _ _ => true
  | .magOpen _ _ id => idOk id
  | .magClose _ _ id => idOk id
  | .magFormat _ _ id => idOk id
  | .hostioRead _ _ id => idOk id
  | .hostioWrite _ _ id => idOk id
  | .writeFrame _ t => cycleOk t
  | .discard _ t => cycleOk t
  | .readFrame _ t => cycleOk t
  | .readBlocks _ t => cycleOk t
  | .trim _ t => cycleOk t
  | .schedulerSlot _ t => cycleOk t
  | .nvmeCompletion _ cid _ _ _ _ t => idOk cid && cycleOk t
  | .nvmeCommandTimeout _ cid t => idOk cid && cycleOk t
  | .abortTimeout _ cid t => idOk cid && cycleOk t
  | .smartPoll _ t => cycleOk t
  | .magLinkDown _ t => cycleOk t
  | .linkRetrain _ _ t => cycleOk t
  | .magLinkUp _ t => cycleOk t
  | .holdWindowExpiry _ t => cycleOk t
  | .magDropRequest _ _ => true
  | .magQShapeWrite _ _ _ t => cycleOk t
  | .magQBurstWrite _ _ _ t => cycleOk t
  | .presenceAssert _ t => cycleOk t
  | .presenceRemove _ t => cycleOk t
  | .sbdCtlWrite _ _ => true
  | .sbdI2cDone _ _ _ t => cycleOk t
  | .sbdI2cRetry _ t => cycleOk t
  | .gaugeEvaluate _ => true
  | .gaugeRestComplete _ => true
  | .labelGo _ _ => true
  | .labelBusyPoll _ _ t => cycleOk t
  | .fltStatClear _ _ => true
  | .fltForce _ _ => true
  | .injArmFirst t => cycleOk t
  | .injArmSecond t => cycleOk t
  | .injDisarm _ => true
  | .injArmTimeout t => cycleOk t
  | .injUnit _ _ t => cycleOk t
  | .injReorderTimeout _ t => cycleOk t
  | .belayHeartbeat _ t => cycleOk t
  | .belaySilent _ t e => t ≤ e && cycleOk e
  | .belayResetDone _ _ t => cycleOk t
  | .belayResetTimeout _ t => cycleOk t
  | .belaySwitch => true
  | .belayTest t => cycleOk t
  | .belayTestDone _ t => cycleOk t
  | .belayResetRequest t => cycleOk t
  | .anchorAct t => cycleOk t
  | .anchorAbortTimeout _ t => cycleOk t
  | .lanyardToggle t => cycleOk t
  | .pinGlCfgWrite _ _ t => cycleOk t
  | .pinGlStageWrite _ _ => true
  | .switchSettleEnd _ t => cycleOk t
  | .pinGlOwnerWrite _ _ => true
  | .pinLtcCtlWrite _ => true
  | .syncOutPulseEnd _ t => cycleOk t
  | .tickOutFall _ t => cycleOk t
  | .ltcRxFrame _ _ => true
  | .ltcTxFrameTimer t => cycleOk t
  | .uartRxByte _ _ => true
  | .uartTxByte _ => true
  | .pinUartDataWrite _ _ => true
  | .pinUartDataRead _ => true
  | .pinI2cCmd _ _ => true
  | .auxI2cDone _ _ _ => true
  | .hostLinkUp => true
  | .junctionBelow100c _ => true
  | .railInRange => true
  | .clockRestored => true
  | .vfEnableSet _ => true
  | .cstsCfsSet _ t => cycleOk t
  | .cstsRdySet _ mqes mpsmin t => mqes < 2 ^ 16 && mpsmin < 16 && cycleOk t
  | .cstsRdyTimeout _ t => cycleOk t
  | .gaugeSample _ _ _ => true
  | .hostReadCompletion _ _ _ t => cycleOk t

end Sys2Proof
end

