-- ==== Sys2Proof/Tests/Slice0.lean ====
section
/-! SUPPORT. The author's own tests: commands that are not well formed, vectors of the spec's worked examples, and for each statement with
hypotheses a concrete state and operands that meet them (the witnesses; a clause's boundary values where it has a range). -/

open Sys2Proof Sys2Proof.Machine

namespace Sys2Proof.Tests

set_option Elab.async false

/-! ## Small states -/

/-- The machine right after reset; mode m; a state with one register field set. -/
abbrev s0 : State := State.reset
def inMode (m : Nat) : State := put s0 R.GLB_MODE_CUR m
def idle : State := inMode modeIDLE
def rec : State := inMode modeRECRAW
def bare : State := inMode modeBARE
def held : State := { s0 with sup := { s0.sup with held := true } }

/-- The state a command answers. -/
def after (i : Instr) (s : State) : State := match exec i s with
  | .next t => t
  | .fault _ => s
  | .refused _ => s

/-- The state that a command, or a step, answers, where it does. -/
def answer (i : Instr) (s : State) : Option State := match exec i s with
  | .next t => some t
  | .fault _ => none
  | .refused _ => none
def stepped (s : State) : Option State := match step s with
  | .next t => some t
  | .fault _ => none
  | .refused _ => none

/-! ## Commands that are not well formed -/

theorem test_wf_cycle : (Instr.b0Ready (2 ^ 64)).wf = false ∧ (Instr.b0Ready (2 ^ 64 - 1)).wf = true := by decide +kernel
theorem test_wf_tick : (Instr.viewFrameDone 0 0 (2 ^ 64)).wf = false := by decide +kernel
theorem test_wf_ring_id : (Instr.install 0 0 (2 ^ 16)).wf = false := by decide +kernel
theorem test_wf_buffer : (Instr.poolIncrement 262144 none).wf = false := by decide +kernel
theorem test_wf_offset : (Instr.registerWrite (.bar0 0x400000) 0).wf = false ∧ (Instr.registerWrite (.window 0 0x10000) 0).wf = false ∧
    (Instr.registerWrite (.bar0 2) 0).wf = false := by decide +kernel
theorem test_wf_lanes : (Instr.accessSizeError none true 0 []).wf = false ∧ (Instr.accessSizeError none true 0 [true, true]).wf = false := by decide +kernel
theorem test_wf_intake_register : (Instr.lockedRegisterWrite 0xB0000 0).wf = false ∧ (Instr.stagedRegisterWrite 0xA0001 0).wf = false := by decide +kernel
theorem test_wf_store_address : (Instr.urgencyEscalate 0 (2 ^ 35) true 0 0).wf = false ∧ (Instr.urgencyEscalate 0 0 true 1 0).wf = false := by decide +kernel
theorem test_wf_mr4 : (Instr.mr4Read (List.replicate 15 0)).wf = false := by decide +kernel
theorem test_wf_pool_order (l : List Nat) (h : l.length = 262145) : (Instr.poolInitDone l []).wf = false := by simp only [Instr.wf, h]; rfl
theorem test_wf_earm : (Instr.earmArm 0 .ok 2 3 4 0 true).wf = false := by decide +kernel
theorem test_wf_selftest_part : (Instr.selftestDone 0 5 0).wf = false := by decide +kernel
theorem test_wf_page : (Instr.walkReadDone 0 (2 ^ 36) true 0).wf = false := by decide +kernel
theorem test_wf_takeover_order : (Instr.belaySilent 0 5 4).wf = false := by decide +kernel
theorem test_wf_bus_address : (Instr.moverBusError (2 ^ 64)).wf = false := by decide +kernel
theorem test_wf_controller : (Instr.cstsRdySet 0 (2 ^ 16) 0 0).wf = false ∧ (Instr.cstsRdySet 0 0 16 0).wf = false := by decide +kernel

/-! ## Vectors of the spec -/

/-- R19's worked example: a wrong-size write sets SIZE, shows the offset of its lowest enabled byte and counts. -/
theorem test_access_error : let t := after (.accessSizeError none true 0x100 [false, true, false, false]) s0
    get t R.GLB_ACCERR_SIZE = 1 ∧ get t R.GLB_ACCERR_ADDR_OFFSET = 0x101 ∧ get t R.GLB_ACCERR_CNT_COUNT = 1 := by decide +kernel

/-- CRC-32C of the nine digits, as R160 gives it. -/
theorem test_crc : crc32c (List.map (BitVec.ofNat 8) [0x31, 0x32, 0x33, 0x34, 0x35, 0x36, 0x37, 0x38, 0x39]) = 0xE3069283 := by decide +kernel

/-- A read-clear counter reads what it counted and is 0 after. -/
theorem test_read_clear : let s := put s0 R.GLB_ACCERR_CNT_COUNT 7
    (after (.readClear (.bar0 0xC)) s).rdata = 7 ∧ get (after (.readClear (.bar0 0xC)) s) R.GLB_ACCERR_CNT_COUNT = 0 := by decide +kernel

/-- After reset at 24 fps the first free-run tick falls after 1,041,667 crystal cycles with 8 left over, the next as many after it (R22). -/
theorem test_first_tick : freeRunDue s0 = 50000016 ∧
    freeRunDue { s0 with tick := { s0.tick with acc := 8, accAt := 50000016 } } = 100000032 := by decide +kernel

/-! ## Witnesses: the block as a whole, register accesses, start-up -/

theorem witness_StepTakesOneCommandFromTheQueue : let s := { s0 with pending := [.supplyOor, .clkFail] }
    s.pending = .supplyOor :: [.clkFail] ∧ (stepped s).map (·.pending) = some [.clkFail] := by decide +kernel

theorem witness_StepKeepsTheCanonicalForm : let s := { put s0 R.CLK_TEMP_DEGC 9 with fs := [(3, 1)], ssm := [(0, 2), (7, 1)], pending := [.clkFail] }
    s.Canonical ∧ (stepped s).isSome = true := by
  unfold State.Canonical regsRise; decide +kernel

theorem witness_OnlyTickEventsAndResetsMoveTheTickNumber :
    movesTick (.thermalHot 401) = false ∧ (answer (.thermalHot 401) s0).isSome = true := by decide +kernel

theorem witness_WrittenWordActsByAccessCode : (put s0 R.GLB_ACCERR_SIZE 1).Canonical ∧ fieldsAt 8 ≠ [] ∧ (0xC : Nat) ≠ 8 ∧ fieldsAt 0xC ≠ [] := by
  unfold State.Canonical regsRise; decide +kernel

theorem witness_MemoryReadsBackWhatWasStored : State.reset.Canonical ∧ (5 : Nat) < 6 ∧ 6 + 2 ≤ 8 ∧ 2 ≤ fsCapacity s0 ∧
    (let a := fsCapacity s0 - 1; (a + fsCapacity s0) % fsCapacity s0 = a % fsCapacity s0 ∧ 2 ≤ (1 + fsCapacity s0 - a % fsCapacity s0) % fsCapacity s0) := by
  unfold State.Canonical regsRise; decide +kernel

theorem witness_RestingBlockStaysAsItIs : s0.pending = [] ∧ AtRest s0 := by unfold AtRest; decide +kernel

theorem witness_AccessErrors : unitsRun s0 = true ∧ 0x3FFFFC % 4 = 0 ∧ 0x3FFFFC < 0x400000 ∧
    ([false, false, false, true] : List Bool) ≠ [true, true, true, true] ∧ [false, false, false, true].take 3 = List.replicate 3 false ∧
    [false, false, false, true][3]? = some true ∧ [true, true, true, true].take 0 = List.replicate 0 false ∧ [true, true, true, true][0]? = some true ∧
    fieldsAt 0x3FFFFC = [] ∧ fieldsAt 0x100 ≠ [] ∧ present s0 0 = true ∧ 0xFFFC < 0x10000 ∧
    mapped (some 0) 0xFFFC = false ∧ mapped (some 0) 0x10 = true := by decide +kernel

theorem witness_PlainWrites : reaches s0 none 0xC0010 = true ∧ fieldsAt 0xC0010 ≠ [] ∧ ownWrite 0xC0010 = false ∧ reaches s0 none 0x13F044 = true ∧
    fieldsAt 0x3FFFFC = [] ∧ reaches s0 none 0x3FFFFC = true ∧ reaches held none 0xC0010 = false ∧
    reaches s0 (some 0) 0x10 = true ∧ mapped (some 0) 0x10 = true ∧ ownWrite (winAddr 0 0x10) = false ∧ unitsRun s0 = true ∧
    cfgReaches s0 0 = true ∧ cfgReaches held 0 = false ∧ (0 : Part).val < s0.host.cfg.length ∧ (∀ k < 32, bitAt (nth s0.hub.vecPend 0 0) k = false) := by
  decide +kernel

theorem witness_PlainReads : s0.Canonical ∧ reaches s0 none 0xC = true ∧ fieldsAt 0xC ≠ [] ∧ ownRead 0xC = false ∧ inFam 0xC 0x80604 0x10 4 = false ∧
    ((0xC : Nat) ≠ 0x1A0030 ∧ (0xC : Nat) ≠ 0x80410 ∧ (0xC : Nat) ≠ 0x80414 ∧ (0xC : Nat) ≠ 0x10024) ∧
    reaches s0 (some 0) 0x10 = true ∧ mapped (some 0) 0x10 = true ∧ ownRead (winAddr 0 0x10) = false ∧
    (let s := setAux s0 3 { auxOf s0 3 with fifo := [7] }; unitsRun s = true ∧ (auxOf s 3).fifo = 7 :: []) := by
  unfold State.Canonical regsRise; decide +kernel

theorem witness_TestPads : bitAt (0 : Word32).toNat 0 = false ∧ s0.sup.tap = .idcode ∧
    (let t := after (.registerWrite (.test (.load .bypass)) 0) s0; t.sup.tap = .bypass) ∧
    (let t := after (.registerWrite (.test (.load .extest)) 0) s0; t.sup.tap = .extest) := by decide +kernel

theorem witness_LockedStagedAndTableRegisters : unitsRun rec = true ∧ intakeOn (modeOf rec) = true ∧ lockedReg 0xA0004 = true ∧
    unitsRun idle = true ∧ intakeOn (modeOf idle) = false ∧ lockedReg 0xA1B04 = true ∧ stagedReg 0xA2000 = true ∧
    lookupKey s0.intake.force 0xA2000 = none ∧ lookupKey (after (.stagedRegisterWrite 0xA2000 1) idle).intake.force 0xA2000 = some 0 ∧
    unitsRun (after (.stagedRegisterWrite 0xA2000 1) idle) = true ∧ get s0 (R.INT_VIEW_LUT_IDX_CH 0) < 3 ∧
    lockedReg 0xA0048 = true ∧ ¬ (2 ≤ bits (9 : Word32).toNat 0 4 ∧ bits (9 : Word32).toNat 0 4 ≤ 8) := by decide +kernel

theorem witness_ColdReset : held.sup.held = true ∧ held.sup.railBad = false ∧ held.sup.clkBad = false ∧ held.sup.testEn = false ∧ 10000 ≤ 10000 ∧ 1000 ≤ 1000 ∧ 999 < 1000 := by
  decide +kernel

theorem witness_WarmReset : let s := put s0 R.CLK_TEMP_DEGC 9
    s.sup.held = false ∧ s.Canonical ∧ (∀ c ∈ s.regs, c.key = fldKey R.CLK_TEMP_DEGC → c.scope = R.CLK_TEMP_DEGC.scope) ∧
    fldKey R.CLK_TEMP_DEGC ≠ fldKey R.AON_RSTCAUSE_CAUSE ∧ fldKey R.CLK_TEMP_DEGC ≠ fldKey R.GLB_MODE_LAST_REASON ∧
    fldKey R.CLK_TEMP_DEGC ≠ fldKey R.GLB_MODE_LAST_FROM ∧ fldKey R.CLK_TEMP_DEGC ≠ fldKey R.GLB_MODE_LAST_TO ∧
    (0xA55B : Word32) ≠ 0xA55A ∧ modeOf s ≠ modeDORMANT ∧ get s R.STR_QUAR_MASK_MASK = 0 ∧ (∀ c ∈ s.regs, c.key = fldKey R.STR_QUAR_MASK_MASK → c.scope = .cold) ∧
    bitAt (get (put s R.STR_QUAR_MASK_MASK 4) R.STR_QUAR_MASK_MASK) 2 = true := by unfold State.Canonical regsRise; decide +kernel

/-- A boot image: header with its CRC, signature zone of 64 bytes, configuration, code, and an empty patch set. -/
def image : List Byte :=
  let w (v : Nat) : List Byte := leBytes 4 v
  let head := w 0x544F4F42 ++ w 1 ++ w 0 ++ w 0x200 ++ w 0x140 ++ w 64 ++ w 0x180 ++ w 0x20 ++ w 0x1A0 ++ w 8 ++ w 0
  let rest := List.replicate (0x140 - 0x30) (0 : Byte)
  let cfg := List.replicate 16 (0 : Byte) ++ w 6400 ++ List.replicate 44 (0 : Byte)
  head ++ w (crc32c head) ++ rest ++ cfg ++ List.replicate 0x80 0

/-- The fuses burnt so that any image's security number will do. -/
def boot0 : State := { s0 with regs := [{ key := fldKey R.AON_FUSE_REVOKE, val := 0, scope := .cold }, { key := fldKey R.AON_FUSE_SVNMIN, val := 0, scope := .cold }] }

theorem witness_BootImage : booting boot0 = true ∧ bootSource boot0 = 0 ∧
    imageCode (put boot0 R.AON_BOOT_STAT_SRC 0) image none { key := some 0, sig := true, gcm := true } true true false = 0 := by decide +kernel

theorem witness_BootFailures : booting s0 = true ∧ bootSource s0 = 0 ∧ get (put s0 R.AON_BOOT_CNT_COUNT 1) R.AON_BOOT_CNT_COUNT < 2 ∧
    (let s := put s0 R.AON_BOOT_CNT_COUNT 2
    s.sup.held = false ∧ modeOf s = modeBOOT ∧ hostImage s = false ∧ s.sup.tryAt = some 0 ∧ 2000 * msCycles + 0 ≤ 2400000000 ∧
      get s R.AON_BOOT_CNT_COUNT = 2) ∧
    (let s := { s0 with sup := { s0.sup with sel := 1, given := true } }; booting s = true ∧ bootSource s = 1 ∧ s.sup.given = true) ∧
    (let s := { s0 with sup := { s0.sup with sel := 2 } }; booting s = true ∧ 2 ≤ bootSource s) := by decide +kernel

theorem witness_BootSteps : (let s := put { s0 with sup := { s0.sup with sel := 1 } } R.AON_BOOT_LEN_BYTES 4
    hostImage s = true ∧ s.sup.image.length < get s R.AON_BOOT_LEN_BYTES) ∧
    (modeOf bare = modeBARE ∧ bare.sup.held = false ∧ bitAt (0x10 : Word32).toNat 4 = true ∧
      bitAt (0x10 : Word32).toNat 8 = false ∧ bitAt (0x100 : Word32).toNat 8 = true ∧ bitAt (0x100 : Word32).toNat 4 = false ∧ hostImage s0 = false ∧
      (∀ o < 2, modeOf (put (put s0 R.AON_BOOT_CTL_SRC o) R.AON_BOOT_CTL_OVR o) ≠ modeBARE)) ∧
    (let s := { s0 with sup := { s0.sup with loaded := true } }; s.sup.loaded = true ∧ modeOf s = modeBOOT) := by decide +kernel

theorem witness_BlocksGate : get s0 R.CLK_LP_CTL_HOLDOFF ≠ 0 ∧ bitAt (get s0 R.CLK_LP_STAT_GATED) 28 = false ∧ dormEntering s0 = false ∧
    (let s := after (.clockGate 28 false 100) s0; bitAt (get s R.CLK_LP_STAT_GATED) 28 = true ∧ lookupKey s.sup.gatedAt 28 = some 100) ∧
    blockIdle s0 28 = true ∧ blockIdle (modStrand s0 0 fun x => { x with test := 1 }) 0 = false := by decide +kernel

theorem witness_WakeSources : let d := inMode modeDORMANT
    modeOf d = modeDORMANT ∧ isSet (put d R.AON_WAKE_CTL_WAKEN 0) R.AON_WAKE_CTL_WAKEN = false ∧ isSet (put d R.AON_WAKE_CTL_PERST 1) R.AON_WAKE_CTL_PERST = true ∧
    (put d R.AON_WAKE_CTL_PERST 1).Canonical ∧
    (let s := { d with sup := { d.sup with dormAt := some 0 } }; s.sup.dormAt = some 0 ∧ 95 * (msCycles * 1000 * get s R.AON_WAKE_TMR_SEC) ≤ 100 * (10 ^ 15 - 0)) := by
  unfold State.Canonical regsRise; decide +kernel

theorem witness_OutsideCauses : let hot := put s0 R.CLK_TEMP_DEGC 400
    hotAt ≤ (400 : BitVec 11).toInt ∧ hotAt ≤ getInt hot R.CLK_TEMP_DEGC ∧ (447 : BitVec 11).toInt < critAt ∧
    getInt s0 R.CLK_TEMP_DEGC < hotAt ∧ critAt ≤ (448 : BitVec 11).toInt ∧ getInt hot R.CLK_TEMP_DEGC < critAt ∧ (399 : BitVec 11).toInt < hotAt ∧
    s0.sup.railBad = false ∧ s0.sup.clkBad = false ∧ ({ s0 with host := { s0.host with up := true } } : State).host.up = true ∧
    modeOf s0 ≠ modeDORMANT := by decide +kernel

/-! ## Witnesses: the tick and the mode -/

theorem witness_FreeRunTick : sourceIs s0 0 = true ∧ 0 < s0.tick.num ∧ 1 ≤ 1041667 ∧ 25000000 * s0.tick.den ≤ s0.tick.acc + 1041667 * s0.tick.num ∧
    s0.tick.acc + (1041667 - 1) * s0.tick.num < 25000000 * s0.tick.den ∧ s0.tick.accAt + 48 * 1041667 = 50000016 ∧ (5 : Nat) ≠ 50000016 := by decide +kernel

def onEdge : State := put (put s0 R.TICK_CTL_SRC 1) R.TICK_STAT_ACTIVE 1
def holding : State := put (put (put s0 R.TICK_CTL_SRC 2) R.TICK_STAT_ACTIVE 2) R.TICK_STAT_HOLDOVER 1
def onLock : State := put (put s0 R.TICK_CTL_SRC 2) R.TICK_STAT_ACTIVE 2
theorem witness_TickInEdges : sourceIs onEdge 1 = true ∧ onEdge.tick.last ≤ 47500000 ∧ isSet onEdge R.TICK_STAT_HOLDOVER = false ∧
    false = isSet onEdge R.TICK_CTL_POL ∧ true ≠ isSet onEdge R.TICK_CTL_POL ∧
    atLeast onEdge (47499999 - onEdge.tick.last) 95 = false ∧ atLeast onEdge (47500000 - onEdge.tick.last) 95 = true ∧
    (let h := put onEdge R.TICK_STAT_HOLDOVER 1; sourceIs h 1 = true ∧ isSet h R.TICK_STAT_HOLDOVER = true ∧ h.tick.pairOk = false ∧ h.tick.lastEdge = none ∧
      ({ h with tick := { h.tick with lastEdge := some 3 } } : State).tick.lastEdge = some 3) := by decide +kernel
theorem witness_MissedTick : onEdge.tick.last ≤ 62500000 ∧ isSet onEdge R.TICK_STAT_HOLDOVER = false ∧ sourceIs onEdge 1 = true ∧
    about onEdge (62500000 - onEdge.tick.last) 125 = true := by decide +kernel
theorem witness_HoldoverTick : isSet holding R.TICK_STAT_HOLDOVER = true ∧ (sourceIs holding 1 = true ∨ sourceIs holding 2 = true) ∧
    about holding (50000000 - holding.tick.last) 100 = true ∧ holding.tick.last ≤ 50000000 := by decide +kernel
theorem witness_GenlockTick : onLock.tick.last ≤ 50000000 ∧ genlockDue onLock 50000000 = true := by decide +kernel

theorem witness_ReferenceEdges : let s := put s0 R.TICK_STAT_ACTIVE 2
    sourceIs s 2 = true ∧ (999 : Int).natAbs < 1000 ∧ true ≠ isSet s R.TICK_CTL_POL ∧ s.tick.goodRefs + 1 < 16 ∧ 15 ≤ ({ s with tick := { s.tick with goodRefs := 15 } } : State).tick.goodRefs ∧
    1000 ≤ (-1000 : Int).natAbs ∧ (10000 : Int).natAbs ≤ 10000 ∧ 10000 < (-10001 : Int).natAbs ∧ isSet (put s R.TICK_STAT_LOCKED 1) R.TICK_STAT_LOCKED = true ∧
    (let r := { s with tick := { s.tick with lastRef := some 7 } }; sourceIs r 2 = true ∧ r.tick.lastRef = some 7 ∧
      atLeast r (100000007 * 16 - 7) (200 * get r R.TICK_GL_DIV) = true) := by decide +kernel

theorem witness_TickNumberReads : unitsRun s0 = true ∧ present s0 0 = true ∧ nth s0.tick.latch 0 none = none ∧
    nth (after (.tickNoLoRead 0) { s0 with tick := { s0.tick with no := 2 ^ 33 } }).tick.latch 0 none = some 2 ∧ 0 < s0.tick.latch.length := by
  decide +kernel

theorem witness_PresetAndLimits : unitsRun s0 = true ∧ bits (0x8 : Word32).toNat 0 2 ≠ 3 ∧
    ({ s0 with tick := { s0.tick with preset := some 9 } } : State).tick.preset = some 9 := by decide +kernel

theorem witness_ModeRequests : (unitsRun s0 = true ∧ requestCode s0 (bits (12 : Word32).toNat 0 4) ≠ 0) ∧
    (idle.Canonical ∧ unitsRun idle = true ∧ requestCode idle (bits (4 : Word32).toNat 0 4) = 0 ∧ isRec (modeOf idle) = false ∧
      bits (4 : Word32).toNat 0 4 ≠ modeDORMANT) ∧
    (unitsRun rec = true ∧ requestCode rec (bits (3 : Word32).toNat 0 4) = 0 ∧ isRec (modeOf rec) = true) := by
  unfold State.Canonical regsRise; decide +kernel

/-! ## Witnesses: the intake -/

/-- Port 0 ganged, with width columns, and the frame of the current event with its window in state st. -/
def frame (st : Nat) (first : Option Nat) : Frame :=
  { tick := 5, ev := 0, slot := 0, kind := 0, first := first, win := [{ port := 0, st := st, rows := [], packed := [], tail := false, drained := false, ended := false }],
    final := false, capLate := false, damaged := false, trunc := false, repl := 0, noProxy := false, held := false, defects := [], old := [], clips := [] }
def cam (st : Nat) (first : Option Nat) : State :=
  { put (put (put rec R.INT_GANG_MASK 1) (R.INT_PORT_COL_WIDTH 0) 4) R.INT_RASTER_HEIGHT 2 with
    intake := { Intake.init with on := true, frames := [frame st first] }, tick := { s0.tick with events := 0 } }

theorem witness_SensorPackets :
    (let s := cam 0 none
    s.intake.on = true ∧ ganged s 0 = true ∧ (sensPort s 0).skip = false ∧ (0 : Fin 4).val = get s (R.INT_PORT_CFG_VC 0) ∧
      (1 : Fin 4).val ≠ get s (R.INT_PORT_CFG_VC 0) ∧ openEv s 0 = none) ∧
    (let s := cam 1 (some 3)
    openEv s 0 = some 0 ∧ (0x2C : BitVec 6).toNat = 0x2B + get s R.INT_CTL_DEPTH ∧
      ([1, 2, 3, 4, 5, 6] : List Byte).length = segLen s 0 ∧ ([1] : List Byte).length ≠ segLen s 0 ∧ (0x2A : BitVec 6).toNat ≠ 0x2B + get s R.INT_CTL_DEPTH) ∧
    (let s := modPort (cam 0 none) 0 fun p => { p with skip := true }; s.intake.on = true ∧ ganged s 0 = true ∧ (sensPort s 0).skip = true) ∧
    (s0.intake.on = false ∨ ganged s0 0 = false) := by decide +kernel
theorem witness_FrameStarts :
    (let s := cam 0 none
    findEv s 0 = some (frame 0 none) ∧ (winOf (frame 0 none) 0).isSome = true ∧ (frame 0 none).kind = 0 ∧ (frame 0 none).first = none) ∧
    (let s := cam 0 (some 3); let u := usCycles * getF s R.INT_SKEW_US
    findEv s 0 = some (frame 0 (some 3)) ∧ (frame 0 (some 3)).first = some 3 ∧ 3 + u ≤ 3 + u ∧ 3 + u < 3 + u + 1) ∧
    (winOf (frame 1 (some 3)) 0).map (·.st) = some 1 := by decide +kernel

def word0 : FifoWord := { ev := 0, row := 0, off := 0, tag := 3, data := [1, 2, 3] }

theorem witness_FifoWords : (sensPort s0 0).fifo = [] ∧
    (let s := modPort (cam 1 (some 3)) 0 fun p => { p with fifo := [word0] }
    (sensPort s 0).fifo = word0 :: [] ∧ findEv s word0.ev = some (frame 1 (some 3)) ∧ word0.tag ≠ 0) ∧
    (let s := modPort (cam 1 (some 3)) 0 fun p => { p with fifo := [{ word0 with tag := 0 }, { word0 with ev := 9 }] }
    (sensPort s 0).fifo = { word0 with tag := 0 } :: [{ word0 with ev := 9 }] ∧ findEv s 9 = none) := by decide +kernel

def viewing : State := { put (put (put rec (R.INT_VIEW_CFG_EN 0) 1) R.INT_RASTER_HEIGHT 0) (R.INT_MO_CFG_EN 0) 1 with
  intake := { Intake.init with frames := [frame 2 none] } }
def shot : ViewShot := { buf := 1, addr := 0, w := 2, h := 0 }
def shown : State := let s := put (put viewing (R.INT_MO_CFG_SRC 0) 0) (R.INT_MO_CFG_RATE 0) 2500
  { s with intake := { s.intake with view := modAt s.intake.view 0 fun x => { x with last := some shot, seqn := 1 } } }

theorem witness_Views : ((viewSource viewing 0 5).map fun x => viewRuns viewing x.old 0) = some true ∧ (viewNextBuf viewing 0 5).isSome = true ∧
    viewSource viewing 0 6 = none ∧ ((viewSource viewing 0 5).map fun x => viewRuns viewing x.old 1) = some false := by decide +kernel
theorem witness_Monitors :
    (let u := stamp shown 9
    monOn u 0 = true ∧ splitAsked u = false ∧ monFits u 0 = true ∧ monView u 0 = some 0 ∧ (viewSt shown 0).last = some shot ∧ monDue u 0 9 = true ∧
      monOn u 1 = false ∧ shown.intake.read = none) ∧
    (let u := stamp (put viewing (R.INT_MO_CFG_SRC 0) 3) 9; monOn u 0 = true ∧ splitAsked u = false ∧ monFits u 0 = false) ∧
    (let u := stamp (put viewing (R.INT_MO_CFG_SRC 0) 2) 9; monOn u 0 = true ∧ splitAsked u = true ∧ splitOk u = false) ∧
    (let s := (monFetch shown 0 0 shot).2
    (s.intake.read.map fun r => (r.view == 0 && r.seqn == 1 && !r.fed.contains 1 && r.fed.contains 0)) = some true) := by decide +kernel
theorem witness_MonitorSplit : let s := put (put (put (put shown (R.INT_MO_CFG_EN 1) 1) (R.INT_MO_CFG_SRC 0) 2) (R.INT_MO_CFG_SRC 1) 2) (R.INT_MO_CFG_RATE 1) 2500
    let u := stamp s 9
    monOn u 0 = true ∧ monOn u 1 = true ∧ splitOk u = true ∧ monFits u 0 = true ∧ monView u 0 = some 0 ∧ (viewSt s 0).last = some shot ∧
      monDue u 0 9 = true ∧ s.intake.mon.length = 2 := by decide +kernel
/-! ## Witnesses: the sequencers -/

/-- A program image whose code is the word w and one more word, with a writable frame store window of 4,096 bytes at 0. -/
def imageOf (w : Nat) : List Byte :=
  List.replicate 8 0 ++ leBytes 4 8 ++ List.replicate (0x98 - 12) 0 ++ leBytes 8 2 ++ leBytes 8 4096 ++ List.replicate (512 - 0xA8) 0 ++
    leBytes 4 w ++ leBytes 4 0

/-- Sequencer 0 runs pair 0, whose active image that is; register ra = g2 holds x and rd = g1 holds y. -/
def runs (w x y : Nat) : State :=
  { s0 with clk := 24000, seqs := { s0.seqs with seq := modAt s0.seqs.seq 0 fun z => { z with cur := some 0, pair := modAt z.pair 0 fun v =>
      { v with slot0 := some (imageOf w), gregs := setAt (setAt v.gregs 2 x) 1 y } } } }

/-- The test of Fetches, as a Boolean. -/
def fetching (s : State) (w : Nat) : Bool :=
  s.tick.last + 24000 ≤ s.clk && (seqOf s 0).cur == some 0 && (pairOf s 0 0).stall.isNone && (seqOf s 0).quantum < 512 &&
  (match activeImage s 0 0 with
  | none => false
  | some i => (pairOf s 0 0).pc < hdrCode i && codeWord i (pairOf s 0 0).pc == w)

theorem fetches_of_fetching {s : State} {w : Nat} (h : fetching s w = true) : Fetches s 0 0 w := by
  unfold fetching at h
  cases e : activeImage s 0 0 with
  | none => simp [e] at h
  | some i =>
    simp only [e, Bool.and_eq_true, beq_iff_eq, decide_eq_true_eq, Option.isNone_iff_eq_none] at h
    exact ⟨h.1.1.1.1, h.1.1.1.2, h.1.1.2, h.1.2, i, e, h.2.1, h.2.2⟩

theorem witness_RegisterWriteMovesOn : let s := runs 0 0 0
    0 < s.seqs.seq.length ∧ 0 < (seqOf s 0).pair.length ∧ activeImage s 0 0 = some (imageOf 0) ∧ (pairOf s 0 0).pc + 4 < hdrCode (imageOf 0) ∧
    (let e := modPair s 0 0 fun y => { y with pc := 4 }; hdrCode (imageOf 0) ≤ (pairOf e 0 0).pc + 4) := by decide +kernel

/-- Every encoding of R289's register and immediate forms, with rd = g1, ra = g2 and rb = g3. -/
theorem witness_RegisterInstructions : ∀ fn ∈ List.range 22,
    let w := 2 ^ 21 * 1 + 2 ^ 16 * 2 + 2 ^ 11 * (if fn < 16 then 3 else 0) + fn
    fetching (runs w 5 6) w = true := by decide +kernel
theorem witness_ImmediateInstructions : (∀ op ∈ [1, 2, 3, 4, 5, 6, 7], let w := 2 ^ 26 * op + 2 ^ 21 * 1 + 2 ^ 16 * (if op = 7 then 0 else 2) + 0xFFFF
    fetching (runs w 5 6) w = true) ∧ (∀ op ∈ [9, 10, 11], let w := 2 ^ 26 * op + 2 ^ 21 * 1 + 2 ^ 16 * 2 + 63; fetching (runs w 5 6) w = true) ∧
    (∀ k ∈ [0, 1, 2, 3], let w := 2 ^ 26 * 8 + 2 ^ 21 * 1 + k; fetching (runs w 5 6) w = true) := by decide +kernel
theorem witness_Branches : (∀ op ∈ [24, 25, 26, 27, 28, 29, 0x1E], let w := 2 ^ 26 * op + 2 ^ 21 * 2 + (2 ^ 21 - 1); fetching (runs w 5 6) w = true) ∧
    (let w := 2 ^ 21 * 1 + 2 ^ 16 * 2 + 0x14; fetching (runs w 5 6) w = true ∧ activeImage (runs w 5 6) 0 0 = some (imageOf w)) ∧
    (let w := 2 ^ 26 * 0x3F + 0xFFFF; fetching (runs w 5 6) w = true) := by decide +kernel

/-- The encodings with rd = g1, ra = g2, rb = g3, size 3 (8 bytes) or double words. -/
def memWord (op : Nat) : Nat := 2 ^ 26 * op + 2 ^ 21 * 1 + 2 ^ 16 * 2 + 2 ^ 14 * 3
def amoWord (op : Nat) : Nat := 2 ^ 26 * op + 2 ^ 21 * 1 + 2 ^ 16 * 2 + 2 ^ 11 * 3 + 1
theorem witness_ScratchAccesses : (let s := runs (memWord 0x10) 8 6
    fetching s (memWord 0x10) = true ∧ wrap 64 ((greg s 0 0 2 : Int) + sext 14 0) = 8 ∧ 8 % 8 = 0 ∧ 8 + 8 ≤ ssmSize s (ownerOf s 0 0) ∧
      youngestOverlap (pairOf s 0 0).sbuf (ssmBase s (ownerOf s 0 0) + 8) 8 = none) ∧
    (fetching (runs (memWord 0x11) 8 6) (memWord 0x11) = true ∧ (pairOf (runs (memWord 0x11) 8 6) 0 0).sbuf.length < 8) ∧
    (fetching (runs (memWord 0x10) 9 6) (memWord 0x10) = true ∧ 9 % 8 ≠ 0 ∧ 9 + 8 ≤ ssmSize s0 0) ∧
    (fetching (runs (memWord 0x11) (2 ^ 40) 6) (memWord 0x11) = true ∧ ssmSize s0 0 < 2 ^ 40 + 8) ∧
    (let s := modPair (runs 0 0 0) 0 0 fun y => { y with sbuf := [{ addr := 8, bytes := [1] }] }
    (seqOf s 0).cur = some 0 ∧ (pairOf s 0 0).sbuf = { addr := 8, bytes := [1] } :: []) ∧
    (∀ op ∈ [0x14, 0x15, 0x16], fetching (runs (amoWord op) 8 6) (amoWord op) = true) ∧
    (fetching (runs (2 ^ 26 * 0x17) 8 6) (2 ^ 26 * 0x17) = true ∧ (pairOf (runs (2 ^ 26 * 0x17) 8 6) 0 0).sbuf = []) := by decide +kernel
theorem witness_WindowAccesses : let s := runs (memWord 0x12) 4088 6
    let i := imageOf (memWord 0x12)
    let w := winRef i 4088
    activeImage s 0 0 = some i ∧ fetching s (memWord 0x12) = true ∧ w.host = false ∧ 4088 % 8 = 0 ∧ bits 4088 51 13 = 0 ∧ w.off + 8 ≤ w.size ∧
    w.size ≠ 0 ∧ w.base + w.off + 8 ≤ fsCapacity s ∧ w.wr = true ∧ fetching (runs (memWord 0x13) 4088 6) (memWord 0x13) = true := by decide +kernel

theorem witness_Descriptors :
    (let w := 2 ^ 26 * 0x20 + 2 ^ 21 * 1 + 2 ^ 16 * 2
    let s := runs w 64 6
    let v := drainAll (stamp s 9) 0 0
    devDead s (ownerOf s 0 0) = false ∧ fetching s w = true ∧ descCause v 0 0 64 64 0 128 = 0 ∧ (descRef v 0 0 64).space = 0) ∧
    (let w := 2 ^ 26 * 0x22 + 2 ^ 21 * 1 + 2 ^ 16 * 2 + 7
    let s := runs w 64 6
    let v := drainAll (stamp s 9) 0 0
    fetching s w = true ∧ descCause v 0 0 64 64 0 64 = 0) ∧
    (let w := 2 ^ 26 * 0x21 + 2 ^ 21 * 1 + 2 ^ 16 * 2 + 15
    let s := put (put (runs w 8 6) (R.MOV_CH_OWNER_VALID 15) 1) (R.MOV_CH_OWNER_PART 15) 0
    let d := drainAll s 0 0
    fetching s w = true ∧ descCause d 0 0 8 8 8 32 = 0 ∧ chOwner d 15 = some 0 ∧ chState d 15 = chIdle ∧ movHalted d = false) ∧
    (let w := 2 ^ 26 * 0x23 + 2 ^ 21 * 1 + 2 ^ 16 * 2 + 1023
    fetching (runs w 8 6) w = true ∧
      (let z := modPart (runs w 8 6) 0 fun y => { y with rst := 1 }; devDead z (ownerOf z 0 0) = true ∧ fetching z w = true)) := by
  decide +kernel

def waitWord (k : Nat) : Nat := 2 ^ 26 * 0x24 + 2 ^ 21 * 1 + 2 ^ 16 * 2 + k
theorem witness_Waits : (∀ k ∈ [0, 1, 2, 3, 4], fetching (runs (waitWord (k + 2 ^ 15)) 15 6) (waitWord (k + 2 ^ 15)) = true) ∧
    devDead (runs 0 15 6) 0 = false ∧
    (let s := modPart (runs (waitWord 1) 15 6) 0 fun y => { y with tags := [(14, false), (15, true)], bells := setAt y.bells 15 3 }
    lookupKey (partOf s 0).tags (15 % 2 ^ 16) = some true ∧ lookupKey (partOf s 0).tags (14 % 2 ^ 16) = some false ∧
      lookupKey (partOf s 0).tags (16 % 2 ^ 16) = none ∧ nth (partOf s 0).bells 15 0 ≠ 0 ∧ nth (partOf s 0).bells 14 0 = 0) ∧
    (get (put s0 (R.TICK_TMR_STAT_PEND 0 31) 2) (R.TICK_TMR_STAT_PEND 0 31) ≠ 0 ∧ get s0 (R.TICK_TMR_STAT_PEND 0 31) = 0 ∧ 31 < 32 ∧ 32 ≤ 32) ∧
    capsOf (setCaps s0 0 15 [7, 9]) 0 15 = 7 :: [9] ∧ capsOf s0 0 15 = [] ∧ 15 < 16 ∧ 16 ≤ 16 := by decide +kernel

def tmrWord (op imm : Nat) : Nat := 2 ^ 26 * op + 2 ^ 21 * 1 + 2 ^ 16 * 2 + imm
theorem witness_TimersAndDetectors :
    (∀ k ∈ [0, 1, 2, 3, 4], fetching (runs (tmrWord 0x25 (31 + 32 * k)) 49 6) (tmrWord 0x25 (31 + 32 * k)) = true) ∧
    (∀ k ∈ [0, 1, 2], fetching (runs (tmrWord 0x26 (31 + 32 * k)) 49 6) (tmrWord 0x26 (31 + 32 * k)) = true) ∧
    (∀ x ∈ [47, 48, 49, 50], fetching (runs (tmrWord 0x27 (15 + 16 * 3 + 64)) x 6) (tmrWord 0x27 (15 + 16 * 3 + 64)) = true) ∧
    fetching (runs (tmrWord 0x27 (15 + 64)) 49 6) (tmrWord 0x27 (15 + 64)) = true ∧ devDead s0 0 = false ∧
    tmrMode s0 0 31 = 0 ∧
    (let s := after (.tsetOneshot 0 .ok 1 2 31 100) (runs (tmrWord 0x25 (31 + 32)) 1000 6)
    tmrMode s 0 31 ≠ 0 ∧ (timerOf s 0 31).due = some 25200 ∧ (25200 - max s.clk 100) * 5 % 6 = 0) ∧
    (let s := put (put s0 (R.PIN_GL_OWNER_VALID 47) 1) (R.PIN_GL_OWNER_PART 47) 0
    isSet s (R.PIN_GL_OWNER_VALID 47) = true ∧ get s (R.PIN_GL_OWNER_PART 47) = 0 ∧ isSet s (R.PIN_GL_OWNER_VALID 46) = false) := by decide +kernel

theorem witness_QuantaTimersEdges : (let s := modSeq (runs 0 0 0) 0 fun z => { z with quantum := 512 }
    (seqOf s 0).cur = some 0 ∧ 512 ≤ (seqOf s 0).quantum) ∧
    (timerOf (modTimer s0 0 31 fun y => { y with due := some 5 }) 0 31).due = some 5 ∧
    (let s := put (put s0 (R.TICK_EDGE_CFG_EDGES 0 15) 1) (R.TICK_EDGE_CFG_INPUT 0 15) 47
    (if true then bitAt (get s (R.TICK_EDGE_CFG_EDGES 0 15)) 0 else bitAt (get s (R.TICK_EDGE_CFG_EDGES 0 15)) 1) = true ∧
      lineSettling s (get s (R.TICK_EDGE_CFG_INPUT 0 15)) (100 - 12) = false) ∧ unitsRun s0 = true ∧ present s0 0 = true := by decide +kernel

/-! ## Witnesses: the strands -/

/-- Strand 0 at patch RAM word 4096, or at open store word 4352, holding the microword w; u1 = 5, u2 = 7. -/
def micro (w : MicroWord) : State :=
  { put s0 (R.STR_UPC_ADDR 0) 4096 with strs := { s0.strs with patch := [(4096, w)], strand := modAt s0.strs.strand 0 fun x => { x with u := setAt (setAt x.u 1 5) 2 7 } } }
def microStore (w : MicroWord) : State :=
  { put s0 (R.STR_UPC_ADDR 0) 4352 with strs := { s0.strs with store := [(0, w)] } }
def mw (nx stk commit alu dst a b mem imm : Nat) : MicroWord :=
  BitVec.ofNat 96 (2 ^ 94 * nx + 2 ^ 72 * stk + 2 ^ 71 * commit + 2 ^ 58 * alu + 2 ^ 53 * dst + 2 ^ 48 * a + 2 ^ 43 * b + 2 ^ 40 * mem + 2 ^ 24 * imm)

theorem witness_AluMicrowords : (∀ alu ∈ List.range 17, let w := mw 0 0 0 alu 3 1 2 0 0xFFFF
    let s := micro w
    frayed s 0 = false ∧ strState s 0 ≠ strQuar ∧ fetchWord s (get s (R.STR_UPC_ADDR 0)) = some w ∧ uMem w = 0 ∧ uNx w = 0 ∧ uStk w = 0 ∧
      uCommit w = false ∧ uAlu w = alu ∧ uBad s 0 (inStore (get s (R.STR_UPC_ADDR 0))) w = decide (alu = 16)) := by decide +kernel
theorem witness_MemoryMicrowords : (∀ mem ∈ [1, 2, 3, 4], let w := mw 0 0 0 0 3 1 2 mem 0
    let s := micro w
    fetchWord s (get s (R.STR_UPC_ADDR 0)) = some w ∧ uBad s 0 (inStore (get s (R.STR_UPC_ADDR 0))) w = false ∧ uMem w = mem ∧ uAlu w = 0 ∧
      uNx w = 0 ∧ uStk w = 0 ∧ uCommit w = false ∧ inStore (get s (R.STR_UPC_ADDR 0)) = false) := by decide +kernel
/-- Open store code whose address lies beyond its scratch area, wherever that is. -/
theorem witness_MemoryOutside (a : Nat) (h : a = Config.scratchArea + 16384) : let w := mw 0 0 0 0 3 1 2 1 0
    let s := modStrand (microStore w) 0 fun x => { x with u := setAt x.u 1 a }
    fetchWord s (get s (R.STR_UPC_ADDR 0)) = some w ∧ uBad s 0 true w = false ∧ inStore (get s (R.STR_UPC_ADDR 0)) = true ∧
      sramAllowed s 0 true (ureg (strandOf s 0) (uSrcA w) + uImm w) 4 = false := by
  have g (x : Fld) : get (modStrand (microStore (mw 0 0 0 0 3 1 2 1 0)) 0 fun x => { x with u := setAt x.u 1 a }) x =
      get (microStore (mw 0 0 0 0 3 1 2 1 0)) x := rfl
  have f (c : Nat) : fetchWord (modStrand (microStore (mw 0 0 0 0 3 1 2 1 0)) 0 fun x => { x with u := setAt x.u 1 a }) c =
      fetchWord (microStore (mw 0 0 0 0 3 1 2 1 0)) c := rfl
  have b : uBad (modStrand (microStore (mw 0 0 0 0 3 1 2 1 0)) 0 fun x => { x with u := setAt x.u 1 a }) 0 true (mw 0 0 0 0 3 1 2 1 0) =
      uBad (microStore (mw 0 0 0 0 3 1 2 1 0)) 0 true (mw 0 0 0 0 3 1 2 1 0) := rfl
  refine ⟨by rw [g, f]; decide +kernel, by rw [b]; decide +kernel, by rw [g]; decide +kernel, ?_⟩
  have e : ∀ c : Nat, sramAllowed (modStrand (microStore (mw 0 0 0 0 3 1 2 1 0)) 0 fun x => { x with u := setAt x.u 1 a }) 0 true c 4 =
      (areaHas Config.scratchArea 16384 c 4 || areaHas 0 0 c 4) := fun _ => rfl
  have k : ureg (strandOf (modStrand (microStore (mw 0 0 0 0 3 1 2 1 0)) 0 fun x => { x with u := setAt x.u 1 a }) 0) 1 = a := rfl
  have m : uSrcA (mw 0 0 0 0 3 1 2 1 0) = 1 := by decide +kernel
  rw [e, m, k, h]
  simp only [areaHas, Bool.or_eq_false_iff, Bool.and_eq_false_iff, decide_eq_false_iff_not]; omega
theorem witness_ControlMicrowords :
    (∀ x ∈ [(1, 0), (2, 0), (1, 1), (0, 2), (3, 0)], let w := mw x.1 x.2 0 0 0 0 0 0 0
    let s := modStrand (micro w) 0 fun z => { z with stack := if x.2 = 2 then [9] else [] }
    fetchWord s (get s (R.STR_UPC_ADDR 0)) = some w ∧ uBad s 0 (inStore (get s (R.STR_UPC_ADDR 0))) w = false ∧ uMem w = 0 ∧ uAlu w = 0 ∧
      uCommit w = false ∧ uNx w = x.1 ∧ uStk w = x.2 ∧ (strandOf s 0).routine ≠ 3 ∧ (x.2 = 2 → (strandOf s 0).stack = 9 :: [])) ∧
    (let w := mw 0 0 1 0 0 0 0 0 0
    let s := micro w
    fetchWord s (get s (R.STR_UPC_ADDR 0)) = some w ∧ uBad s 0 (inStore (get s (R.STR_UPC_ADDR 0))) w = false ∧ uMem w = 0 ∧ uAlu w = 0 ∧ uCommit w = true ∧
      uNx w = 0 ∧ uStk w = 0 ∧ (strandOf s 0).routine ≠ 3) ∧
    (let w := mw 0 3 0 0 0 0 0 0 0; uBad (micro w) 0 (inStore (get (micro w) (R.STR_UPC_ADDR 0))) w = true) ∧
    fetchWord (put s0 (R.STR_UPC_ADDR 0) 4864) (get (put s0 (R.STR_UPC_ADDR 0) 4864) (R.STR_UPC_ADDR 0)) = none ∧
    hasAlu 1 (mw 0 0 0 1 3 1 2 0 0) = true ∧ inRom (get (micro (mw 0 0 0 1 3 1 2 0 0)) (R.STR_UPC_ADDR 0)) = false := by decide +kernel

/-- A job with opcode o, tag 7 and a layout at 0, and what the strand 0 that serves lane 0 has of it. -/
def jobOf' (o : Nat) (more : List Byte) : Job :=
  { part := 0, seq := 0, desc := leBytes 1 o ++ [0, 7, 0] ++ more ++ List.replicate (124 - more.length) 0, space := 0, addr := 0, spliced := false, ovf := false,
    damaged := false, rows := 0, dead := false }
def waiting (j : Job) : State :=
  { s0 with strs := { s0.strs with lane := modAt s0.strs.lane 0 fun x => { x with queue := [j] } }, areas := [(0, 2 ^ 30)] }
def busy (j : Job) (f : StrandSt → StrandSt) : State :=
  { s0 with strs := { s0.strs with lane := modAt s0.strs.lane 0 fun x => { x with queue := [j], running := true },
                                   strand := modAt s0.strs.strand 0 fun x => f { x with lane := some 0 } }, areas := [(0, 2 ^ 30)] }

theorem witness_Dispatch : (let s := micro (mw 3 0 0 0 0 0 0 0 0); queueHead (modStrand s 0 fun z => { z with routine := 0 }) 0 = none) ∧
    queueHead (modStrand (waiting (jobOf' 3 [])) 0 fun z => { z with routine := 0 }) 0 = some (jobOf' 3 []) ∧ isCustom (jOpc (jobOf' 3 []).desc) = false ∧
    isCustom (jOpc (jobOf' 0x1F []).desc) = true ∧ inStore (get (put s0 (R.STR_DISPATCH_ADDR 15) 4863) (R.STR_DISPATCH_ADDR (0x1F - 0x10))) = true := by decide +kernel

theorem witness_JobStart :
    (let s := waiting (jobOf' 4 [])
    anchored s = false ∧ strState s 0 = strActive ∧ strandFree s 0 = true ∧ nextLane (stamp s 9) 0 = some 0 ∧
      (laneOf s 0).queue.head? = some (jobOf' 4 []) ∧ headStatus (stamp s 9) 0 (jobOf' 4 []) false ≠ jsOK) ∧
    (let s := waiting (jobOf' 0x10 [])
    headStatus (stamp s 9) 0 (jobOf' 0x10 []) false = jsOK ∧ jOpc (jobOf' 0x10 []).desc ≠ opEncRow ∧ jOpc (jobOf' 0x10 []).desc ≠ opDecRow) := by decide +kernel
theorem witness_CustomJobs :
    (let s := busy (jobOf' 0x10 []) id
    anchored s = false ∧ jobOf s 0 = some (0, jobOf' 0x10 []) ∧ isCustom (jOpc (jobOf' 0x10 []).desc) = true ∧ (strandOf s 0).routine = 0 ∧ frayed s 0 = false ∧
      inStore (get s (R.STR_DISPATCH_ADDR 0)) = false ∧
      (let t := put s (R.STR_DISPATCH_ADDR 0) 4352; inStore (get t (R.STR_DISPATCH_ADDR 0)) = true)) ∧
    (let s := busy (jobOf' 0x10 []) fun x => { x with routine := 3 }
    (strandOf s 0).routine ≠ 0 ∧ 300000 + (strandOf s 0).routAt ≤ 300000) := by decide +kernel

def fid : FrameId := { part := 0, stream := 0, tick := 0 }
def rc0 : Rc := { qp := 0, e := 0, carry := 0, ovf := 0 }
def band0 (rows : Nat) : BandSt := { bandInit fid 0 rc0 with rows := rows }
/-- A layout of format 0, depth 10, one band, 256 columns and 16 rows of 16 lines. -/
def lay : List Byte := [0, 10, 0, 1] ++ leBytes 2 256 ++ leBytes 2 256 ++ List.replicate 56 0
def fix : FrameFix := { id := fid, layout := lay, rate := [], weights := [], rois := [], recon := 0, done := [] }

theorem witness_ContextJobs :
    (let s := busy (jobOf' 4 []) id
    jobOf s 0 = some (0, jobOf' 4 []) ∧ jOpc (jobOf' 4 []).desc = opLoadCtx ∧ jFirst (jobOf' 4 []).desc = 0) ∧
    (let s := busy (jobOf' 5 []) id; jOpc (jobOf' 5 []).desc = opSaveCtx ∧ (strandOf s 0).band = none) ∧
    (let j := jobOf' 5 []
    let s := busy j fun x => { x with band := some (band0 1) }
    let t := modLane s 0 fun x => { x with frame := some fid }
    jobOf t 0 = some (0, j) ∧ (strandOf t 0).band = some (band0 1) ∧ (band0 1).rows ≠ 0 ∧ (laneOf t 0).frame = some (band0 1).frame ∧
      (band0 1).band = jBand j.desc ∧ (band0 1).frame.tick = jTick j.desc) ∧
    (let j := jobOf' 3 []
    let s := busy j id
    let t := { s with strs := { s.strs with frames := [{ fix with layout := fsRead s 0 64, rate := [1] }] } }
    jobOf t 0 = some (0, j) ∧ jOpc j.desc = opEcho ∧ (echoInput t j (fsRead t (jLayout j.desc) 64) (jBand j.desc)).isSome = true) := by decide +kernel
theorem witness_EndJob : let s := busy (jobOf' 3 []) id
    runningJob s 0 = some (jobOf' 3 []) ∧ (jobOf' 3 []).dead = false ∧
    (laneOf (freeStrand (modLane s 0 fun x => { x with queue := x.queue.drop 1, running := false }) 0) 0).takeover = false := by decide +kernel

/-- A decoded frame whose start has been met. -/
def dec0 : DecFrame :=
  { id := fid, layout := lay, mapAddr := 0, dst := 0, hdr := 1, frameNo := 0, tickNo := 0, nref := 0, layers := 0, bounded := false, rois := [],
    refresh := none, refreshLost := false, gapFlag := false, refMiss := false, endLost := false, ovf := false, map := [], errs := [], bands := [], waits := [] }

/-- A row staged by an ENC_ROW or a DEC_ROW job. -/
def staged (matched handed : Bool) (after : Option BandSt) : Staged :=
  { row := 0, bytes := [], start := [], log := [], qp := 0, e := 0, ovf := false, fin := [], next := rc0, sBits := 0, kBits := 0, matched := matched,
    handed := handed, metaRow := none, writes := [], marks := [], after := after, errs := [], hurt := false }
def coding (o : Nat) (z : List Staged) : State :=
  let s := busy (jobOf' o []) fun x => { x with band := some (band0 0), staged := z }
  { s with strs := { s.strs with frames := [fix] } }

theorem witness_EncRow : let s := coding 1 []
    let j := jobOf' 1 []
    jobOf s 0 = some (0, j) ∧ (strandOf s 0).band = some (band0 0) ∧ findFrame s (band0 0).frame = some fix ∧ jOpc j.desc = opEncRow ∧ frayed s 0 = false ∧
    (strandOf s 0).staged.length < 2 ∧ (strandOf s 0).routine = 0 ∧ nextRow (strandOf s 0) (band0 0) < jobEnd j.desc fix.layout ∧ j.dead = false ∧
    refReady s fix = true ∧ jHookPre j.desc = false ∧ jHookMeta j.desc = false ∧ ¬ rtBounded fix.rate = true := by decide +kernel
theorem witness_EchoCheck : let s := coding 1 [staged false false none]
    (strandOf s 0).band = some (band0 0) ∧ (strandOf s 0).staged.find? (fun z => !z.matched && z.after.isNone) = some (staged false false none) ∧
    findFrame s (band0 0).frame = some fix ∧ frayed s 0 = false := by decide +kernel
theorem witness_RowCommit :
    (let s := coding 1 [staged true true none]
    (strandOf s 0).staged = staged true true none :: [] ∧ (staged true true none).handed = true ∧ gateOpen s 0 = true ∧ jobOf s 0 = some (0, jobOf' 1 []) ∧
      (strandOf s 0).band = some (band0 0) ∧ (staged true true none).after = none ∧ findFrame s (band0 0).frame = some fix ∧ jHookMeta (jobOf' 1 []).desc = false) ∧
    (let s := modStrand (coding 1 [staged true true none]) 0 fun x => { x with epoch := 9 }; gateOpen s 0 = false) ∧
    (let z := staged true true (some (band0 1))
    let s := coding 2 [z]
    let t := { s with strs := { s.strs with decs := [dec0] } }
    gateOpen t 0 = true ∧ jobOf t 0 = some (0, jobOf' 2 []) ∧ (strandOf t 0).band = some (band0 0) ∧ z.after = some (band0 1) ∧
      findDec t (band0 0).frame = some dec0) ∧
    (let s := setStrState s0 17 strQuar; (strandOf s 17).staged = [] ∧ strState s 17 = strQuar) := by decide +kernel
theorem witness_WatchdogAndSram : let s := coding 1 []
    jobOf s 0 = some (0, jobOf' 1 []) ∧ isCustom (jOpc (jobOf' 1 []).desc) = false ∧ jOpc (jobOf' 1 []).desc ≠ opSelfTest ∧ (strandOf s 0).routine = 0 ∧
    frayed s 0 = false ∧ strandWaits s 0 = false ∧ 300000 + (strandOf s 0).since + 0 ≤ 300000 ∧ jobOf (bump s0 (R.STR_SRAM_ECC_UE 0)) 0 = none ∧
    (jobOf (bump s (R.STR_SRAM_ECC_UE 0)) 0).isSome = true ∧ strState (bump s (R.STR_SRAM_ECC_UE 0)) 0 = strActive := by decide +kernel

theorem witness_DecRow : let b := { band0 0 with band := 1 }
    let s := modStrand (coding 2 []) 0 fun x => { x with band := some b }
    let d := { dec0 with hdr := 0 }
    let t := { s with strs := { s.strs with decs := [d] } }
    let j := jobOf' 2 []
    jobOf t 0 = some (0, j) ∧ (strandOf t 0).band = some b ∧ findDec t b.frame = some d ∧ jOpc j.desc = opDecRow ∧ frayed t 0 = false ∧
    (strandOf t 0).staged = [] ∧ j.dead = false ∧ b.rows < jobEnd j.desc d.layout ∧ d.hdr = 0 ∧ b.band ≠ 0 := by decide +kernel

theorem witness_Splice :
    (let s := fray (coding 1 []) 0 1
    belayUp s = true ∧ s.strs.frays = (0, 1) :: [] ∧ laneTest { s with strs := { s.strs with frays := [] } } 0 = false) ∧ s0.strs.frays = [] := by decide +kernel
theorem witness_SpareRestore :
    (let j := jobOf' 0x10 []
    let s := modLane (waiting j) 0 fun x => { x with restore := true }
    anchored s = false ∧ strState s 0 = strActive ∧ strandFree s 0 = true ∧
      firstIdx (fun l => laneStrand (stamp s 9) l == some 0 && (laneOf s l).restore) 0 18 = some 0 ∧ (laneOf s 0).queue.head? = some j ∧ j.space = 0 ∧
      (let t := ssmWrite s 0 j.desc
      let k := { j with desc := ssmRead t j.addr 128 }
      jOpc k.desc ≠ opEncRow ∧ jOpc k.desc ≠ opDecRow ∧ headStatus (stamp t 9) 0 k true = jsOK)) := by decide +kernel
theorem witness_SelfTests :
    (let s := busy (jobOf' 6 []) id; anchored s = false ∧ (strandOf s 0).test = 0 ∧ laneTest s 0 = true) ∧
    (let s := modStrand s0 17 fun x => { x with test := 2 }; 2 ≤ (strandOf s 17).test ∧ 0 ≤ 4 ∧ 4 ≤ 4) ∧
    (let s := put s0 R.STR_POOL_TESTPER 1; get s R.STR_POOL_TESTPER ≠ 0 ∧ anchored s = false ∧ s.strs.testAt + 1200000000 * get s R.STR_POOL_TESTPER ≤ 1200000000) := by decide +kernel
theorem witness_PoolRequests : unitsRun s0 = true ∧ bitAt (0 : Word32).toNat 0 = false ∧ bitAt (1 : Word32).toNat 0 = true ∧ strState s0 0 = strActive ∧
    strState s0 17 ≠ strActive ∧ strState s0 17 = strSpare ∧ 18 ≤ (18 : Word32).toNat % 32 ∧
    (let q := setStrState s0 17 strQuar
    strState q 17 = strQuar ∧ isSet q (R.STR_TEST_STAT_AFTERQ 17) = false ∧
      (let p := put q (R.STR_TEST_STAT_AFTERQ 17) 1
      isSet p (R.STR_TEST_STAT_AFTERQ 17) = true ∧ (strandOf p 17).test = 0 ∧ p.strs.ready.contains 17 = false ∧
        (strandOf (modStrand p 17 fun x => { x with test := 2 }) 17).test ≠ 0)) ∧
    strState (setStrState s0 17 strTesting) 17 = strTesting ∧ lowestSpare (setStrState (setStrState s0 16 strQuar) 17 strQuar) = none ∧
    modeOf idle ∈ [modeIDLE, modePREVIEW, modeMAINT] ∧ (2 : Word32).toNat % 8 ≤ 4 ∧ (2 : Word32).toNat % 8 = get idle R.STR_POOL_SPARES ∧
    (4 : Word32).toNat % 8 ≠ get idle R.STR_POOL_SPARES ∧ ¬ (modeOf idle ∈ [modeIDLE, modePREVIEW, modeMAINT] ∧ (5 : Word32).toNat % 8 ≤ 4) ∧
    modeOf rec ∉ [modeIDLE, modePREVIEW, modeMAINT] := by decide +kernel

/-- A checkpoint of row 0 of band 0 of a frame with tick number 0, all else zero, at address 64, with its CRC; the layout of zeros at 0 has no samples. -/
def ckHead : List Byte := leBytes 4 0x54504B43
def zeros49 : List Byte := List.replicate 49 0
def ckRest : List Byte := List.replicate 36 0
def ckpt : Memory := [(64, 67), (65, 75), (66, 80), (67, 84), (1084, 184), (1085, 224), (1086, 211), (1087, 106)]
theorem ckpt_crc : crc32c (ckHead ++ (zeros49 ++ (zeros49 ++ (zeros49 ++ (zeros49 ++ (zeros49 ++ (zeros49 ++ (zeros49 ++ (zeros49 ++ (zeros49 ++ (zeros49 ++ (zeros49 ++ (zeros49 ++ (zeros49 ++ (zeros49 ++ (zeros49 ++ (zeros49 ++ (zeros49 ++ (zeros49 ++ (zeros49 ++ (zeros49 ++ ckRest))))))))))))))))))))) = 0x6ad3e0b8 := by
  have e0 : ckHead.foldl crcByte 0xFFFFFFFF#32 = 0x3d6b66c0#32 := by decide +kernel
  have e1 : zeros49.foldl crcByte 0x3d6b66c0#32 = 0x57fe57da#32 := by decide +kernel
  have e2 : zeros49.foldl crcByte 0x57fe57da#32 = 0xa08fdaeb#32 := by decide +kernel
  have e3 : zeros49.foldl crcByte 0xa08fdaeb#32 = 0xece2f3c2#32 := by decide +kernel
  have e4 : zeros49.foldl crcByte 0xece2f3c2#32 = 0xf435e8f7#32 := by decide +kernel
  have e5 : zeros49.foldl crcByte 0xf435e8f7#32 = 0x40ea30e4#32 := by decide +kernel
  have e6 : zeros49.foldl crcByte 0x40ea30e4#32 = 0x1a0bdb05#32 := by decide +kernel
  have e7 : zeros49.foldl crcByte 0x1a0bdb05#32 = 0xdeec8c71#32 := by decide +kernel
  have e8 : zeros49.foldl crcByte 0xdeec8c71#32 = 0xf30f5f74#32 := by decide +kernel
  have e9 : zeros49.foldl crcByte 0xf30f5f74#32 = 0x3803c93d#32 := by decide +kernel
  have e10 : zeros49.foldl crcByte 0x3803c93d#32 = 0x1e82dcdc#32 := by decide +kernel
  have e11 : zeros49.foldl crcByte 0x1e82dcdc#32 = 0x3d7bf316#32 := by decide +kernel
  have e12 : zeros49.foldl crcByte 0x3d7bf316#32 = 0xefd31994#32 := by decide +kernel
  have e13 : zeros49.foldl crcByte 0xefd31994#32 = 0xec848065#32 := by decide +kernel
  have e14 : zeros49.foldl crcByte 0xec848065#32 = 0xa3697e7b#32 := by decide +kernel
  have e15 : zeros49.foldl crcByte 0xa3697e7b#32 = 0x60e14307#32 := by decide +kernel
  have e16 : zeros49.foldl crcByte 0x60e14307#32 = 0x2b3d51be#32 := by decide +kernel
  have e17 : zeros49.foldl crcByte 0x2b3d51be#32 = 0x723dfa46#32 := by decide +kernel
  have e18 : zeros49.foldl crcByte 0x723dfa46#32 = 0xf436c4de#32 := by decide +kernel
  have e19 : zeros49.foldl crcByte 0xf436c4de#32 = 0xeda0fe4f#32 := by decide +kernel
  have e20 : zeros49.foldl crcByte 0xeda0fe4f#32 = 0xcce2b03b#32 := by decide +kernel
  have e21 : ckRest.foldl crcByte 0xcce2b03b#32 = 0x952c1f47#32 := by decide +kernel
  simp only [crc32c, List.foldl_append, e0, e1, e2, e3, e4, e5, e6, e7, e8, e9, e10, e11, e12, e13, e14, e15, e16, e17, e18, e19, e20, e21]; decide +kernel
theorem ckpt_bytes : (memRead ckpt 64 0x400).take 0x3FC = ckHead ++ (zeros49 ++ (zeros49 ++ (zeros49 ++ (zeros49 ++ (zeros49 ++ (zeros49 ++ (zeros49 ++ (zeros49 ++ (zeros49 ++ (zeros49 ++ (zeros49 ++ (zeros49 ++ (zeros49 ++ (zeros49 ++ (zeros49 ++ (zeros49 ++ (zeros49 ++ (zeros49 ++ (zeros49 ++ (zeros49 ++ ckRest)))))))))))))))))))) := by decide +kernel
/-- A LOADCTX job that first takes row 1, from address 64. -/
def loadJob : Job := jobOf' 4 ([0, 0, 1, 0] ++ List.replicate 32 0 ++ leBytes 8 64)
def loading : State := { busy loadJob id with fs := ckpt }
def loaded : BandSt :=
  { frame := jobFrame loading loadJob (fsRead loading 0 64), band := 0, rows := 1, rc := { qp := 0, e := 0, carry := 0, ovf := 0 }, outBuf := 0, outOff := 0,
    runBytes := 0, bottom := List.replicate (nPlanes 0) [], waiting := [], good := some 0 }
theorem ckpt_read : ckptRead loading (fsRead loading 0 64) 64 (jobFrame loading loadJob (fsRead loading 0 64)) 0 0 none = some loaded := by
  have z : ceilDiv (ckptSamples (lyFormat (fsRead loading 0 64)) (lyWidth (fsRead loading 0 64) 0) * lyDepth (fsRead loading 0 64)) 8 = 0 := by decide +kernel
  have b : (fsRead loading 64 0x400).take 0x3FC = (memRead ckpt 64 0x400).take 0x3FC := by decide +kernel
  have c : leAt (fsRead loading 64 0x400) 0x3FC 4 = crc32c ((fsRead loading 64 0x400).take 0x3FC ++ fsRead loading (64 + 0x400) 0) := by
    rw [b, ckpt_bytes, show fsRead loading (64 + 0x400) 0 = [] from rfl, List.append_nil, ckpt_crc]; decide +kernel
  unfold ckptRead
  simp only [z]
  rw [if_pos ⟨by decide +kernel, by decide +kernel, by decide +kernel, by decide +kernel, rfl, c⟩]
  decide +kernel
theorem witness_Loadctx : jobOf loading 0 = some (0, loadJob) ∧ jOpc loadJob.desc = opLoadCtx ∧ jFirst loadJob.desc = 1 ∧ jSrc loadJob.desc = 64 ∧
    jLayout loadJob.desc = 0 ∧ jBand loadJob.desc = 0 := by decide +kernel

/-- A row segment of one layer with no residuals, row 0 of a frame of format 1 and 64 columns: header, layer 0 and CRC as R168 to R185 lay them out. -/
def rowSeg : List Byte := record 0xA2#8 (stuff (rowHeader 0 0 0 0 8 0 0 false) ++ [0xAA, 0xAA, 0xAA, 0xFF, 0, 0xFF, 0, 0xC0])
def lay1 (h : Nat) : List Byte := [1, 10, 0, 1] ++ leBytes 2 64 ++ leBytes 2 h ++ List.replicate 56 0
/-- A DEC_ROW job whose run list at 0x100 names buffer 0, at 0x10000, which holds that row segment. -/
def decJob : Job := jobOf' 2 (List.replicate 36 0 ++ leBytes 8 0x100)
def df1 (h : Nat) : DecFrame := { dec0 with layout := lay1 h, layers := 1, dst := 0x20000 }
def band1 : BandSt := { band0 0 with outBuf := 0, outOff := 0 }
def decoding (h : Nat) : State :=
  let s := busy decJob fun x => { x with band := some band1 }
  let s := put (put s R.POOL_COUNT_N 1) R.POOL_BASE_LO_ADDR 1
  { s with fs := memWriteAll (memWriteAll [] 0x104 (leBytes 4 listEnd)) 0x10000 rowSeg, strs := { s.strs with decs := [df1 h] } }
def rowOf (r : DecRes) (f : DecWork → RowIn → RowParse → List (List (List (List Int))) → Bool) : Bool := match r with
  | .row w r p fin => f w r p fin
  | _ => false
theorem witness_DecRowPlaced : ∀ h ∈ [16, 32], let d := decWork (decoding h) decJob (df1 h) band1
    jobOf (decoding h) 0 = some (0, decJob) ∧ (strandOf (decoding h) 0).band = some band1 ∧ findDec (decoding h) band1.frame = some (df1 h) ∧
    jOpc decJob.desc = opDecRow ∧ frayed (decoding h) 0 = false ∧
    (strandOf (decoding h) 0).staged = [] ∧ decJob.dead = false ∧ band1.rows < jobEnd decJob.desc (df1 h).layout ∧ (df1 h).hdr = 1 ∧
    rowOf (decLoop (decoding h) (jobEnd decJob.desc (df1 h).layout) (d.rest.length + 4) d) (fun w r _ _ => w.b.rows == 0 && r.row == 0) = true ∧
    (if h = 16 then 0 + 1 = lyRows (df1 h).layout ∧ band1.band + 1 = lyBands (df1 h).layout else 0 + 1 < lyRows (df1 h).layout) := by decide +kernel
/-- An ECHO job whose run list, at 0x100, is empty. -/
theorem witness_EchoRan : let j := jobOf' 3 (List.replicate 36 0 ++ leBytes 8 0x100)
    let s := { busy j id with fs := memWriteAll [] 0x100 (leBytes 4 listEnd) }
    let t := { s with strs := { s.strs with frames := [{ fix with layout := fsRead s 0 64, rate := [1] }] } }
    jobOf t 0 = some (0, j) ∧ jOpc j.desc = opEcho ∧ (echoInput t j (fsRead t (jLayout j.desc) 64) (jBand j.desc)).isSome = true ∧
    runBytesFrom t (runAll t (jSrc j.desc)) 0 = [] := by decide +kernel
/-! ## Witnesses: ring commands, rings, translation and partitions -/

/-- A command with opcode o and operand bytes from byte 4 on, taken from ring 15 with the highest identifier; the state in which it waits. -/
def ringCmd (o : Nat) (l : List Byte) : RingCmd :=
  { part := 0, sq := 15, cq := 0, resv := none, id := 0xFFFF, opc := o, entry := leBytes 1 o ++ [0, 255, 255] ++ l ++ List.replicate (60 - l.length) 0 }
def cmdWaits (c : RingCmd) (s : State) : State := { s with host := { s.host with cmds := [c] } }
/-- Pair 7 of sequencer 3 belongs to P0. -/
def owned : State := put (put s0 (R.SEQ_PAIR_OWNER_VALID 3 7) 1) (R.SEQ_PAIR_OWNER_PART 3 7) 0
theorem witness_Install :
    (let c := ringCmd 1 [3, 7, 0, 0, 64]
    let s := cmdWaits c owned
    let d := dropCmd s c
    findCmd s 0 15 0xFFFF 1 = some c ∧ cmdSeq c = 3 ∧ cmdPair c = 7 ∧ leAt c.entry 8 8 = 64 ∧ formOk c.entry [(4, 1), (5, 1), (8, 8)] = true ∧ ownsPair d c.part 3 7 = true ∧
      migrating d 3 7 = false ∧ findInstall d 3 7 = none ∧
      (let s := cmdWaits c (put s0 (R.SEQ_PAIR_OWNER_VALID 3 7) 0); ownsPair (dropCmd s c) c.part 3 7 = false) ∧
      migrating (dropCmd (cmdWaits c (modPair owned 3 7 fun x => { x with moving := true })) c) 3 7 = true ∧
      (findInstall (dropCmd (cmdWaits c (modSeq owned 3 fun x => { x with installs := [{ pair := 7, cmd := c, addr := 0, stage := 4 }] })) c) 3 7).isSome = true) ∧
    (let c := ringCmd 1 [3, 7, 0, 0, 63]; formOk c.entry [(4, 1), (5, 1), (8, 8)] = true ∧ leAt c.entry 8 8 % 64 ≠ 0) ∧
    (let c := ringCmd 1 [3, 7, 1, 0, 64]; formOk c.entry [(4, 1), (5, 1), (8, 8)] = false) := by decide +kernel

/-- A program image of one HALT that passes every check: the header as R281 lays it out, with its CRC, and the code. -/
def goodHead : List Byte := leBytes 4 0x3153594C ++ leBytes 2 1 ++ leBytes 2 512 ++ leBytes 4 4 ++ leBytes 4 0 ++ leBytes 2 8
def goodCode : List Byte := leBytes 4 0xFC000000
def goodImage : List Byte := goodHead ++ (zeros49 ++ (zeros49 ++ (zeros49 ++ (zeros49 ++ (zeros49 ++ (zeros49 ++ (zeros49 ++ (zeros49 ++ (zeros49 ++ (zeros49 ++ (leBytes 4 0xbc1d6631 ++ goodCode)))))))))))
theorem goodImage_crc : crc32c (goodHead ++ (zeros49 ++ (zeros49 ++ (zeros49 ++ (zeros49 ++ (zeros49 ++ (zeros49 ++ (zeros49 ++ (zeros49 ++ (zeros49 ++ (zeros49 ++ goodCode))))))))))) = 0xbc1d6631 := by
  have e0 : goodHead.foldl crcByte 0xFFFFFFFF#32 = 0xb0ffe9a#32 := by decide +kernel
  have e1 : zeros49.foldl crcByte 0xb0ffe9a#32 = 0x65a50289#32 := by decide +kernel
  have e2 : zeros49.foldl crcByte 0x65a50289#32 = 0x7ed2b412#32 := by decide +kernel
  have e3 : zeros49.foldl crcByte 0x7ed2b412#32 = 0xf51854b6#32 := by decide +kernel
  have e4 : zeros49.foldl crcByte 0xf51854b6#32 = 0xf4a73bd3#32 := by decide +kernel
  have e5 : zeros49.foldl crcByte 0xf4a73bd3#32 = 0x5fde58a8#32 := by decide +kernel
  have e6 : zeros49.foldl crcByte 0x5fde58a8#32 = 0x99ed70bc#32 := by decide +kernel
  have e7 : zeros49.foldl crcByte 0x99ed70bc#32 = 0x346fce44#32 := by decide +kernel
  have e8 : zeros49.foldl crcByte 0x346fce44#32 = 0x769882a3#32 := by decide +kernel
  have e9 : zeros49.foldl crcByte 0x769882a3#32 = 0x8dfd3b93#32 := by decide +kernel
  have e10 : zeros49.foldl crcByte 0x8dfd3b93#32 = 0xead393d4#32 := by decide +kernel
  have e11 : goodCode.foldl crcByte 0xead393d4#32 = 0x43e299ce#32 := by decide +kernel
  simp only [crc32c, List.foldl_append, e0, e1, e2, e3, e4, e5, e6, e7, e8, e9, e10, e11]; decide +kernel
theorem goodImage_taken : goodImage.take 0x1FC ++ (goodImage.drop 512).take 4 =
    goodHead ++ (zeros49 ++ (zeros49 ++ (zeros49 ++ (zeros49 ++ (zeros49 ++ (zeros49 ++ (zeros49 ++ (zeros49 ++ (zeros49 ++ (zeros49 ++ goodCode)))))))))) := by decide +kernel
/-- That image has been read for pair 7 of sequencer 3; its admission is first in line. -/
def imageRead (i : List Byte) : State :=
  modSeq owned 3 fun x => { x with buffer := i, installs := [{ pair := 7, cmd := ringCmd 1 [3, 7], addr := 0, stage := 3 }] }
def admits (i : List Byte) : State :=
  let s := modSeq owned 3 fun x => { x with buffer := i, installs := [{ pair := 7, cmd := ringCmd 1 [3, 7], addr := 0, stage := 4 }] }
  { s with seqs := { s.seqs with adm := [{ seq := 3, pair := 7, install := true, restart := none }] } }
theorem witness_InstallImageLoaded : (let s := imageRead goodImage
    curInstall s 3 = some { pair := 7, cmd := ringCmd 1 [3, 7], addr := 0, stage := 3 } ∧ imageCheck s (ownerOf s 3 7) (seqOf s 3).buffer = (0, 0)) ∧
    (let s := imageRead []; imageCheck s (ownerOf s 3 7) (seqOf s 3).buffer = (3 + 1, 0)) := by
  refine ⟨⟨by decide +kernel, ?_⟩, by decide +kernel⟩
  have b : (seqOf (imageRead goodImage) 3).buffer = goodImage := by decide +kernel
  have n : hdrCode goodImage = 4 := by decide +kernel
  have c1 : ¬ hdrMagic goodImage ≠ 0x3153594C := by decide +kernel
  have c2 : ¬ hdrVersion goodImage ≠ 1 := by decide +kernel
  have c3 : ¬ (hdrBytes goodImage ≠ 512 ∨ (4 : Nat) = 0 ∨ 4 % 4 ≠ 0 ∨ 15872 < 4 ∨ 4 ≤ hdrEntry goodImage ∨ hdrEntry goodImage % 4 ≠ 0) := by decide +kernel
  have c4 : ¬ hdrCrc goodImage ≠ crc32c (goodImage.take 0x1FC ++ (goodImage.drop 512).take 4) := by
    rw [goodImage_taken, goodImage_crc]; decide +kernel
  have c5 : hdrReserved goodImage = none := by decide +kernel
  have c6 : ¬ ¬ modesOk (hdrModes goodImage) = true := by decide +kernel
  have c7 : ¬ (hdrMaster goodImage = true ∧ ownerOf (imageRead goodImage) 3 7 ≠ 0) := by decide +kernel
  have c8 : ¬ ¬ destOk goodImage = true := by decide +kernel
  have c9 : firstIdx (fun w => !windowOk (imageRead goodImage) (ownerOf (imageRead goodImage) 3 7) goodImage w) 0 8 = none := by decide +kernel
  have c10 : firstBadWord goodImage = none := by decide +kernel
  show imageCheck (imageRead goodImage) (ownerOf (imageRead goodImage) 3 7) (seqOf (imageRead goodImage) 3).buffer = (0, 0)
  rw [b]; unfold imageCheck
  simp only [n]
  rw [if_neg c1, if_neg c2, if_neg c3, if_neg c4, c5]
  simp only []
  rw [if_neg c6, if_neg c7, if_neg c8, c9]
  simp only [c10]
theorem witness_Admission : let s := admits goodImage
    let a : AdmReq := { seq := 3, pair := 7, install := true, restart := none }
    let u := { s with seqs := { s.seqs with adm := [] } }
    s.seqs.adm = a :: [] ∧ belayUp s = true ∧ a.install = true ∧ admitCheck u 3 7 (ownerOf u 3 7) (seqOf u 3).buffer = none := by decide +kernel
/-- An image that requires 255 capture ring slots, where there is none. -/
def bigImage : List Byte := List.replicate 0x16 0 ++ [255]
theorem witness_AdmissionRefused : let s := admits bigImage
    let u := { s with seqs := { s.seqs with adm := [] } }
    admitCheck u 3 7 (ownerOf u 3 7) (seqOf u 3).buffer = some (6, 0, 0) ∧
    (let v := { s with seqs := { s.seqs with adm := [{ seq := 3, pair := 7, install := false, restart := none }] } }
    v.seqs.adm = { seq := 3, pair := 7, install := false, restart := none } :: [] ∧ belayUp v = true) := by decide +kernel
theorem witness_SwapAndRestart :
    (let c := ringCmd 2 [3, 7]
    let s := cmdWaits c (put owned (R.SEQ_PAIR_STAT_STBY 3 7) 2)
    let d := dropCmd s c
    findCmd s 0 15 0xFFFF 2 = some c ∧ cmdSeq c < 4 ∧ cmdPair c < 8 ∧ ownsPair d c.part 3 7 = true ∧ formOk c.entry [(4, 1), (5, 1)] = true ∧
      get d (R.SEQ_PAIR_STAT_STBY 3 7) = 2 ∧ (pairOf d 3 7).swap = none ∧ migrating d 3 7 = false ∧
      get (dropCmd (cmdWaits c owned) c) (R.SEQ_PAIR_STAT_STBY 3 7) ≠ 2 ∧ ownsPair (put d (R.SEQ_PAIR_OWNER_VALID 3 7) 0) c.part 3 7 = false ∧
      movedFrom d c.part 3 7 = false ∧ 4 ≤ cmdSeq (ringCmd 2 [4, 0])) ∧
    (let c := ringCmd 3 [3, 7]
    let s := cmdWaits c (modPair owned 3 7 fun x => { x with slot0 := some bigImage })
    let d := dropCmd s c
    findCmd s 0 15 0xFFFF 3 = some c ∧ ownsPair d c.part 3 7 = true ∧ formOk c.entry [(4, 1), (5, 1)] = true ∧ activeImage d 3 7 = some bigImage ∧
      (pairOf d 3 7).swap = none ∧ (pairOf d 3 7).restart = none ∧ progState d 3 7 ≠ stByMode ∧ migrating d 3 7 = false ∧
      activeImage (dropCmd (cmdWaits c owned) c) 3 7 = none) ∧
    (let c := ringCmd 0 []; findCmd (cmdWaits c s0) 0 15 0xFFFF 0 = some c) := by decide +kernel

/-- Ring 15 of P0, and completion ring 15 with 16 entries; the submission ring enabled and rung, with the link up. -/
def ringOn : State := put (put
    { s0 with host := { s0.host with up := true, cfg := modAt s0.host.cfg 0 fun c => { c with master := true } } } (R.PW_SQ_CTL_EN 0 15) 1) (R.PW_SQ_STAT_RUNG 0 15) 1
theorem witness_Rings :
    unitsRun s0 = true ∧ present s0 0 = true ∧ (partOf s0 0).rst = 0 ∧ (partOf (modPart s0 0 fun x => { x with rst := 1 }) 0).rst ≠ 0 ∧
    isSet s0 (R.PW_SQ_CTL_EN 0 15) = false ∧ isSet s0 (R.PW_CQ_CTL_EN 0 15) = false ∧ s0.host.ops = [] ∧ isSet ringOn (R.PW_SQ_CTL_EN 0 15) = true ∧
    (let s := put (modCq s0 0 15 fun q => { q with used := 3 }) (R.PW_CQ_CFG_LOG2N 0 15) 6
    ringSize (get s (R.PW_CQ_CFG_LOG2N 0 15)) = 64 ∧ 3 < 64 ∧ (3 + 64 - get s (R.PW_CQ_HEAD_INDEX 0 15)) % 64 ≤ (cqOf s 0 15).used ∧
      (cqOf s 0 15).used < (4 + 64 - get s (R.PW_CQ_HEAD_INDEX 0 15)) % 64 ∧ 64 ≤ 64) := by decide +kernel
theorem witness_RingService : anchored ringOn = false ∧ ringOn.host.up = true ∧ visiting ringOn = false ∧
    (ringTurn ringOn).map (·.1) = some (0, 15) ∧ ringTurn s0 = none ∧
    (let z := forN 8 (fun p u => if partRung u p then u else modPH u p fun h => { h with deficit := 0 }) ringOn
    z.host.turn = 7 ∧ (phOf z z.host.turn).deficit = 0 ∧ (List.range 16).any (ringReady z ((z.host.turn + 1 + 0) % 8)) = true ∧
      (let w := modPH { ringOn with host := { ringOn.host with turn := 0 } } 0 fun h => { h with deficit := 5 }; w.host.turn = 0 ∧ (List.range 16).any (ringReady w 0) = true ∧ (phOf w 0).deficit ≠ 0)) := by decide +kernel
theorem witness_RingTurn : let s := modSq ringOn 0 15 fun q => { q with credit := 1 }
    let rich (r : Nat) : Bool := ringReady s 0 r && (sqOf s 0 r).credit != 0
    (List.range 16).any rich = true ∧ rich (((phOf s 0).turn + 1 + 15) % 16) = true ∧ (∀ i < 15, rich (((phOf s 0).turn + 1 + i) % 16) = false) := by decide +kernel
theorem witness_Windows : (let s := modPH (modSq ringOn 0 15 fun q => { q with credit := 1 }) 0 fun h => { h with deficit := 1 }
    visitLeft s 0 15 0 ≠ 0 ∧ cqRoom s 0 (cqFor s 0 15) = true ∧ isSet s (R.PW_SQ_CTL_EN 0 15) = true) ∧ visitLeft s0 0 15 0 = 0 ∧
    (let c := ringCmd 0 []
    let u := sqFinish (put s0 (R.PW_CQ_CTL_EN 0 0) 1) 0 15
    c.part < 8 ∧ isSet u (R.PW_CQ_CTL_EN c.part c.cq) = true ∧ ({ c with resv := some 0 } : RingCmd).resv = some (cqOf u c.part c.cq).gen) := by decide +kernel
def fetchOp (dead : Bool) : HostOp :=
  { id := 7, part := 0, req := .ringFetch 15 1, addr := 0, len := 64, write := false, bytes := [], done := 64, missed := false, issued := true, dead := dead, reqs := 1 }
def fetches (dead : Bool) : State := { ringOn with host := { ringOn.host with ops := [fetchOp dead] } }
theorem witness_HostReadCompletion : (∀ dead ∈ [false, true],
    (fetches dead).host.ops.find? (fun x => x.id == (fetchOp dead).id && x.issued && !x.write) = some (fetchOp dead) ∧ (fetchOp dead).dead = dead) ∧
    (fetchOp true).req ≠ .moverFetch 3 := by decide +kernel
/-- An access of 8 bytes at 0x1000 of P0, whose translation is off. -/
def loadOp : HostOp := { fetchOp false with addr := 0x1000, len := 8, done := 0, issued := false }
theorem witness_Pages : loadOp.dead = false ∧ loadOp.done < loadOp.len ∧ loadOp.req ≠ .complete 3 ∧
    (match xlate s0 0 0x1000 false with | .flt _ _ _ => true | _ => false) = true ∧
    (let s := put s0 (R.IOM_ROOT_LO_EN 0) 1
    xlate s 0 0x1000 false = .miss ∧ (match xlate (cacheAdd s (leafOf 0 1 7)) 0 0x1000 false with | .hit _ => true | _ => false) = true) := by decide +kernel

def walkAt (l : Nat) : State :=
  { s0 with host := { s0.host with up := true, walks := [{ part := 7, page := 2 ^ 36 - 1, level := l, entry := 0, again := false }] } }
theorem witness_WalkReadDone :
    (let s := walkAt 4
    s.host.walks.find? (fun w => w.part == 7 && w.page == 2 ^ 36 - 1) = some { part := 7, page := 2 ^ 36 - 1, level := 4, entry := 0, again := false } ∧
      bitAt 1 0 = true ∧ bits 1 1 7 = 0 ∧ bits 1 52 12 = 0 ∧ bitAt 0 0 = false ∧ bits 3 1 7 ≠ 0 ∧ bits (1 + 2 ^ 52) 52 12 ≠ 0 ∧
      regionOf s (4096 * bits 1 12 40) = none ∧
      (let b := { s with host := { s.host with bar0 := some 0 } }; (regionOf b (4096 * bits 1 12 40)).isSome = true)) ∧
    (let s := walkAt 1
    (s.host.walks.find? (fun w => w.part == 7 && w.page == 2 ^ 36 - 1)).map (·.level) = some 1 ∧ bits 1 5 3 = 0 ∧ bits 33 5 3 ≠ 0) := by decide +kernel
theorem witness_Invalidation : unitsRun s0 = true ∧ isSet s0 R.IOM_INV_STAT_BUSY = false ∧ isSet (put s0 R.IOM_INV_STAT_BUSY 1) R.IOM_INV_STAT_BUSY = true ∧
    invBusy s0 { part := 0, first := 0, pages := 0 } = false ∧
    (after (.iomInvCmd 0) s0).host.inval = some { part := 0, first := 0, pages := 0 } := by decide +kernel
theorem witness_Partitions : unitsRun s0 = true ∧ hasProgram s0 7 = false ∧ hasRing s0 7 = false ∧
    (let top := fsCapacity s0 - 4096
    let s := put (put s0 (R.PRT_FS_BASE_LO_ADDR 7) (bits top 12 20)) (R.PRT_FS_BASE_HI_ADDR 7) (bits top 32 32)
    4096 * get s (R.PRT_FS_BASE_LO_ADDR 7) + 2 ^ 32 * get s (R.PRT_FS_BASE_HI_ADDR 7) + 4096 = fsCapacity s ∧
      (∀ k < 8, k ≠ 7 → areasMeet top 4096 (fsBase { s with areas := [] } k) (fsSize { s with areas := [] } k) = false)) ∧
    (let s := put s0 (R.PRT_SSM_SIZE 0) 0
    511 + 1 ≤ 512 ∧ ∀ k < 8, k ≠ 7 → areasMeet 511 1 (get s (R.PRT_SSM_BASE k)) (get s (R.PRT_SSM_SIZE k)) = false) ∧
    hasRing ringOn 0 = true ∧ present s0 0 = true ∧ present s0 7 = false ∧ bits (0 : Word32).toNat 0 3 = 0 ∧ bits (7 : Word32).toNat 0 3 = 7 ∧
    present { s0 with host := { s0.host with vfOn := true, numVfs := 7 } } 7 = true := by decide +kernel
/-- A partition whose reset waits for its boundary. -/
def resetting (p : Nat) : State := modPart { s0 with host := { s0.host with vfOn := true, numVfs := 7 } } p fun x => { x with rst := 1 }
theorem witness_Resets : present (resetting 0) 0 = true ∧ present (resetting 7) 7 = true ∧ bits (7 : Word32).toNat 0 3 = 7 ∧
    present { s0 with host := { s0.host with vfOn := true, numVfs := 7 } } 7 = true ∧ present s0 7 = false := by decide +kernel
theorem witness_MigrationAndTest : (let s := put s0 (R.SEQ_OFFLINE_MASK) 8
    bits (12 : Word32).toNat 0 2 = 0 ∧ bits (12 : Word32).toNat 2 2 = 3 ∧ migCode s 0 3 ≠ 0 ∧ migCode s0 0 3 = 0 ∧ migCode s0 0 0 ≠ 0 ∧ unitsRun s = true ∧
      offline s 3 = true ∧ offline s 0 = false ∧ get s R.SEQ_TEST_STAT_RESULT ≠ 1) ∧
    get (put s0 R.SEQ_TEST_STAT_RESULT 1) R.SEQ_TEST_STAT_RESULT = 1 := by decide +kernel

/-! ## Witnesses: the signal hub -/

/-- Source 1,023 pends, unmasked and unassigned, and both targets 7 and 13 are open to it; source 1,023 assigned to a target; held by one. -/
def pends : State :=
  let s := put (put (put s0 (R.HUB_PEND 1023) 1) (R.HUB_MASK 1023) 0) (R.HUB_ROUTE_TGT 1023) (2 ^ 13 + 2 ^ 7)
  put (put s (R.HUB_TGT_CTL_EN 7) 1) (R.HUB_TGT_CTL_EN 13) 1
def assignedAt (t : Nat) : State := { s0 with hub := { s0.hub with assigned := [(5, t), (1023, t)] } }
def heldAt (t : Nat) : State := { s0 with hub := { s0.hub with held := [(1023, t)] } }
theorem witness_Hub : unitsRun s0 = true ∧ isSet pends (R.HUB_PEND 1023) = true ∧ isSet pends (R.HUB_MASK 1023) = false ∧
    isSet pends (R.HUB_INSERV 1023) = false ∧ assignedTo pends 1023 = none ∧ nextTarget pends 1023 = some 7 ∧
    nextTarget { pends with hub := { pends.hub with lastTgt := [(1023, 7)] } } 1023 = some 13 ∧ isSet s0 (R.HUB_PEND 1023) = false ∧
    highestAssigned s0 13 = none ∧ highestAssigned (assignedAt 13) 13 = some 1023 ∧ unitsRun (assignedAt 13) = true ∧
    lookupKey (heldAt 13).hub.held 1023 = some 13 ∧ lookupKey (heldAt 13).hub.held 1023 ≠ some 12 ∧
    highestAssigned s0 (8 + 3) = none ∧ highestAssigned (assignedAt 11) (8 + 3) = some 1023 ∧ get (assignedAt 11) (R.HUB_TGT_CTL_PART (8 + 3)) = 0 ∧
    (partOf (assignedAt 11) 0).rst = 0 ∧ get (assignedAt 12) R.FLT_BLY_STAT_ACTIVE = 0 ∧ coreSt (assignedAt 12) 0 = 0 ∧
    highestAssigned (assignedAt 12) (12 + 0) = some 1023 := by decide +kernel
theorem witness_HubWindows : unitsRun s0 = true ∧ present s0 0 = true ∧ highestAssigned s0 0 = none ∧ highestAssigned (assignedAt 0) 0 = some 1023 ∧
    mayRaise s0 0 1023 = false ∧ mayRaise (put s0 (R.HUB_ROUTE_RAISE 1023) 1) 0 1023 = true ∧ mayRaise (put s0 (R.HUB_ROUTE_RAISE 511) 1) 0 511 = false ∧
    ownSource s0 0 1023 = true ∧ ownSource s0 0 511 = false ∧
    (let s := { s0 with hub := { s0.hub with msixOn := [true] }, host := { s0.host with cfg := modAt s0.host.cfg 0 fun c => { c with master := true } } }
    nth s.hub.msixOn 0 false = true ∧ nth s.hub.msixHush 0 false = false ∧ mayIssue s 0 = true ∧ mayIssue s0 0 = false ∧ 0 < s.hub.vecMask.length ∧ 0 < s.hub.vecPend.length ∧
      vecMasked s 0 31 = true ∧ vecMasked { s with hub := { s.hub with vecMask := [0] } } 0 31 = false) ∧ nth s0.hub.msixOn 0 false = false := by decide +kernel

/-! ## Witnesses: the mover and the pool -/

/-- Channel 15 belongs to P0 and runs, having fetched the instruction i. -/
def mine : State := put (put s0 (R.MOV_CH_OWNER_VALID 15) 1) (R.MOV_CH_OWNER_PART 15) 0
def movs (i : List Byte) : State := modCh (put mine (R.MOV_CH_STAT_STATE 15) chRun) 15 fun x => { x with ibuf := some (i ++ List.replicate (32 - i.length) 0) }
theorem witness_MvStartAndStop :
    (let c := ringCmd 0x20 [15, 0, 0, 0, 8]
    let s := cmdWaits c mine
    let d := dropCmd s c
    findCmd s 0 15 0xFFFF 0x20 = some c ∧ leAt c.entry 4 1 = 15 ∧ leAt c.entry 8 8 = 8 ∧ formOk c.entry [(4, 1), (8, 8)] = true ∧ chOwner d 15 = some c.part ∧
      chState d 15 = chIdle ∧ movHalted d = false ∧
      movHalted (put d R.MOV_STAT_HALTED 1) = true ∧ chOwner s0 15 ≠ some c.part ∧ ¬ leAt (ringCmd 0x20 [16, 0, 0, 0, 8]).entry 4 1 < 16) ∧
    (let c := ringCmd 0x21 [15]
    let d := dropCmd (cmdWaits c mine) c
    findCmd (cmdWaits c mine) 0 15 0xFFFF 0x21 = some c ∧ formOk c.entry [(4, 1)] = true ∧ chOwner d 15 = some c.part ∧ chState d 15 = chIdle ∧
      (let e := dropCmd (cmdWaits c (movs [])) c
      chState e 15 ≠ chIdle)) := by decide +kernel

/-- MOVE with flags f, length, source and destination; the four parts of what makes it legal. -/
def moveIns (f len src dst : Nat) : List Byte := leBytes 1 1 ++ leBytes 1 f ++ [0, 0] ++ leBytes 4 len ++ leBytes 8 src ++ leBytes 8 dst
def runnable (s : State) : Bool :=
  (chOf s 15).ibuf.isSome && chState s 15 != chIdle && (chOf s 15).hold == 0 && !(chOf s 15).reading && !movHalted s && !gated s 22
def moveForm (s : State) (i : List Byte) : Bool :=
  let m := mvMove (chOf s 15) i
  m.refop != 3 && (m.refop == 0 || m.ssp == 3) && sideForm m.ssp m.src m.len && sideForm m.dsp m.dst m.len
def moveReach (s : State) (i : List Byte) : Bool :=
  let m := mvMove (chOf s 15) i
  sideRange s 0 m.ssp m.src m.len false (m.refop == 1) && sideRange s 0 m.dsp m.dst m.len true false
theorem witness_MvMove :
    (∀ x ∈ [(16 + 0, 0), (16 + 2, 8), (16 + 4, 8)], let i := moveIns x.1 x.2 0 8
    let s := movs i
    runnable s = true ∧ leAt i 0 1 = 1 ∧ moveForm s i = true ∧ moveReach s i = true ∧ (mvMove (chOf s 15) i).refop ≠ 1 ∧ (mvMove (chOf s 15) i).len = x.2 ∧
      (mvMove (chOf s 15) i).ssp = bits x.1 1 2) ∧
    (let i := moveIns 16 1 0 8; runnable (movs i) = true ∧ moveForm (movs i) i = false) ∧
    (let i := moveIns 16 8 0 (2 ^ 40); moveForm (movs i) i = true ∧ moveReach (movs i) i = false) := by decide +kernel
theorem witness_MvLoop : (let i := leBytes 1 2 ++ [0, 1, 0] ++ leBytes 4 1
    let s := put (movs i) (R.MOV_CH_STAT_INDEX 15) 1
    runnable s = true ∧ leAt i 0 1 = 2 ∧ 0 < leAt i 2 2 ∧ leAt i 2 2 ≤ chIndex s 15 ∧ (chOf s 15).loop = none ∧ leAt i 4 4 ≠ 0) ∧
    (let i := leBytes 1 2 ++ [0, 1, 0]; leAt i 4 4 = 0 ∧ chIndex (movs i) 15 < leAt i 2 2) ∧ leAt (leBytes 1 2) 2 2 = 0 := by decide +kernel
theorem witness_MvWait : (let i := leBytes 1 3; runnable (movs i) = true ∧ leAt i 0 1 = 3 ∧ leAt i 1 1 = 0 ∧ chState (movs i) 15 = chRun) ∧
    (let i := leBytes 1 3 ++ [1, 0, 0] ++ leBytes 4 1
    let s := movs i
    leAt i 1 1 = 1 ∧ leAt i 8 8 % 8 = 0 ∧ ssmIn s 0 (leAt i 8 8) 8 = true ∧ leVal (ssmRead s (ssmBase s 0) 8) &&& leAt i 0x10 8 = leAt i 0x18 8 ∧
      leAt i 4 4 ≠ 0 ∧ (let t := modCh s 15 fun x => { x with waitAt := some 0 }; (chOf t 15).waitAt = some 0 ∧ 0 + 1200 * leAt i 4 4 ≤ 1200 ∧ 1199 < 0 + 1200 * leAt i 4 4)) ∧
    (let i := leBytes 1 3 ++ [1] ++ List.replicate 22 0 ++ [1]; leVal (ssmRead (movs i) (ssmBase (movs i) 0) 8) &&& leAt i 0x10 8 ≠ leAt i 0x18 8) := by decide +kernel
theorem witness_MvSignal : (∀ f ∈ [1, 2, 4], let i := leBytes 1 4 ++ leBytes 1 f ++ leBytes 2 1023
    let s := put (movs i) (R.HUB_ROUTE_RAISE 1023) 1
    runnable s = true ∧ leAt i 0 1 = 4 ∧ leAt i 1 1 = f ∧ leAt i 8 8 % 8 = 0 ∧ ssmIn s 0 (leAt i 8 8) 8 = true ∧ mayRaise s 0 (leAt i 2 2) = true) := by decide +kernel
theorem witness_MoverBusError : chState (movs []) 15 ≠ chIdle ∧ unitsRun s0 = true ∧
    (let s := { put s0 R.MOV_STAT_HALTED 1 with movRestart := true }
    s.movRestart = true ∧ (∀ o ∈ s.host.ops, ∀ c < 16, opOfCh c o = false) ∧ anchored s = false) := by decide +kernel

/-- A pool of two buffers, the first for essence, at 0; its essence list holds buffer 0, whose link ends the list. -/
def pooled : State :=
  let s := put (put (put s0 R.POOL_COUNT_N 2) R.POOL_NESS_N 1) R.POOL_FREE_E_COUNT 1
  { fsWrite s (bufAddr s 0) (leBytes 4 listEnd ++ leBytes 4 linkTag) with pool := { s.pool with headE := 0 } }
def counted (n m : Nat) : State := { pooled with pool := { pooled.pool with refs := [(1, { count := n, mask := m })] } }
theorem witness_Pool :
    unitsRun s0 = true ∧ (let s := put s0 R.POOL_STAT_BUSY 1
    isSet s R.POOL_STAT_BUSY = true ∧ coversRange [] 0 (min (get s R.POOL_NESS_N) (get s R.POOL_COUNT_N)) = true) ∧
    (let s := pooled
    let link := fsRead s (bufAddr s 0) 8
    isSet s R.POOL_STAT_BUSY = false ∧ isSet s R.POOL_STAT_BROKEN_E = false ∧ s.pool.headE ≠ listEnd ∧ s.pool.headG = listEnd ∧ leAt link 4 4 = linkTag ∧
      leAt link 0 4 = listEnd) ∧
    (∀ n ∈ [0, 1, 2, 254, 255], (bufRef (counted n 128) 1).count = n ∧ bitAt (bufRef (counted n 128) 1).mask 7 = true) := by decide +kernel
theorem witness_PoolCommands :
    (let c := ringCmd 0x22 []
    let s := cmdWaits c pooled
    isSet s R.POOL_STAT_BUSY = false ∧ findCmd s 0 15 0xFFFF 0x22 = some c ∧ formOk c.entry [] = true ∧ (poolAlloc (dropCmd s c) false (some c.part)).1 = none) ∧
    isSet (put s0 R.POOL_STAT_BUSY 1) R.POOL_STAT_BUSY = true ∧ formOk (ringCmd 0x22 [1]).entry [] = false ∧
    (let c := ringCmd 0x22 []
    let s := fsWrite pooled (bufAddr pooled 1) (leBytes 4 listEnd ++ leBytes 4 linkTag)
    (poolAlloc (dropCmd (cmdWaits c { s with pool := { s.pool with headG := 1 } }) c) false (some c.part)).1 = some 1) ∧
    (let c := ringCmd 0x23 [1]
    let d := dropCmd (cmdWaits c (counted 2 1)) c
    findCmd (cmdWaits c (counted 2 1)) 0 15 0xFFFF 0x23 = some c ∧ formOk c.entry [(4, 4)] = true ∧ leAt c.entry 4 4 < get d R.POOL_COUNT_N ∧
      (poolRelease d 1 (some c.part)).1 = true) ∧
    (let c := ringCmd 0x23 [2]; get (dropCmd (cmdWaits c pooled) c) R.POOL_COUNT_N ≤ leAt c.entry 4 4) := by decide +kernel

/-! ## Vectors and witnesses: the DRAM controller -/

/-- R413's worked address on a 16 GB frame store. -/
theorem test_dram_map : let a := 0x123456780
    drcChannel a = 7 ∧ drcC a = 0x12345680 ∧ drcRow 1 a = 0x2468 ∧ drcBank 0 a = 10 ∧ drcColumn 0 a = 0x680 ∧ drcBank 1 a = 6 ∧ drcColumn 1 a = 0x580 ∧
    drcBank 2 a = 14 ∧ drcColumn 2 a = 0x580 := by decide +kernel
/-- R376's worked fault word. -/
theorem test_fault_word : faultView { s0 with host := { s0.host with part := List.replicate 3 PartHost.init ++ [{ PartHost.init with faults :=
    [{ addr := 0x7F3AC0125040, cause := 5, level := 3, write := true, req := 5, unit := 3, region := 3 }] }] } } 3 2 = 0x335B5 := by decide +kernel

/-- The state with request port, address and cycle waiting at urgency 3. -/
def dramWaits (port addr since : Nat) (s : State) : State :=
  { s with dram := { s.dram with waiting := [{ port := port, addr := addr, write := true, since := since, level := 3 }] } }
theorem witness_DramRequests : (Fin.val (0 : Fin 24) < 4) ∧ (9 < (15 : Fin 24).val ∧ (15 : Fin 24).val ≠ 16) ∧ (4 ≤ (9 : Fin 24).val ∧ (9 : Fin 24).val ≤ 9) ∧
    (16 : Fin 24).val = 16 ∧ (∀ c < 16, chState s0 c = chIdle) ∧ (∃ c < 16, chState (put s0 (R.MOV_CH_STAT_STATE 15) 1) c ≠ chIdle) ∧
    unitBusy s0 23 0 0 = false ∧ unitBusy (dramWaits 23 0 0 s0) 23 63 1 = true ∧ unitBusy (dramWaits 23 0 1 s0) 23 63 1 = false ∧
    (∀ r ∈ s0.dram.waiting, sameReq 23 0 true 0 r = false) ∧
    bankOf (dramWaits 23 0 0 s0) 0 = 0 ∧ bankOf (dramWaits 23 0 0 s0) (2 ^ 11 - 1) ≠ 0 ∧ bankWaits (dramWaits 23 0 0 s0) 0 = true ∧
    (dramWaits 23 0 0 s0).dram.waiting ≠ [] ∧ (answer (.urgencyEscalate 23 0 true 0 1) (dramWaits 23 0 0 s0)).map (·.dram.waiting.length) = some 1 ∧
    (let s := put (setOwed s0 255 7) R.DRC_REF_POSTMAX 8
    owed s (16 * 15 + 15) = 7 ∧ get s R.DRC_REF_POSTMAX ≤ owed s 255 + 1 ∧ owed (setOwed s 255 6) 255 + 1 < get s R.DRC_REF_POSTMAX) ∧
    120000000 + s0.dram.lastDqs ≤ 120000000 ∧ (List.replicate 16 (7 : BitVec 3)).length = 16 := by decide +kernel
theorem witness_DramSets : (let s := idle
    unitsRun s = true ∧ s.dram.req = none ∧ get s R.DRC_FREQ_STAT_STATE ≠ 2 ∧ tsetOpen s (1 - get s R.DRC_STAT_SET) = true ∧ tsetOpen s (get s R.DRC_STAT_SET) = false ∧
      s.dram.training = none ∧ bitAt (1 : Word32).toNat 0 = true ∧ bitAt (2 : Word32).toNat 0 = false) ∧ tsetOpen rec 1 = false ∧ unitsRun rec = true ∧
    (let s := { idle with dram := { idle.dram with req := some ⟨1, true, false⟩ } }
    s.dram.req = some ⟨1, true, false⟩ ∧ unitsRun s = true) ∧ get (put idle R.DRC_FREQ_STAT_STATE 2) R.DRC_FREQ_STAT_STATE = 2 ∧
    ({ idle with dram := { idle.dram with training := some 1 } } : State).dram.training = some 1 := by decide +kernel

/-- An admitted program that requires at most 499 ns of port 23, whose target in force is 400. -/
def declares : State :=
  let i : List Byte := List.replicate 0x78 0 ++ leBytes 2 23 ++ leBytes 2 499
  put (modPair s0 3 7 fun x => { x with slot0 := some i, resvA := true }) (R.DRC_PORT_TGT_NS 23) 400
theorem witness_LatencyTargets : unitsRun declares = true ∧ get declares (R.DRC_PORT_TGT_NS 23) = 400 ∧
    (∃ x ∈ reservedImages declares, ∃ k < 8, hdrLatPort x.2 k = 23 ∧ ¬ (hdrLatPort x.2 k = 0 ∧ hdrLatNs x.2 k = 0) ∧ hdrLatNs x.2 k < 500) ∧
    ¬ (∃ x ∈ reservedImages declares, ∃ k < 8, hdrLatPort x.2 k = 23 ∧ ¬ (hdrLatPort x.2 k = 0 ∧ hdrLatNs x.2 k = 0) ∧ hdrLatNs x.2 k < 499) := by decide +kernel

/-! ## Vectors and witnesses: the magazine ports and the sideband -/

/-- The worked gauge of R478 to R480: 9.0 V, first with the charge count at 0, then recalibrated to 40,000 µC; energies over their denominator. -/
theorem test_gauge : gaugeChoose 10000 5000 0 19200 = (210000 * (4 * energyDen 10000), 2, false) ∧
    limitOf 10000 50000 40000 (210000 * (4 * energyDen 10000)) = 4000 ∧ chargeOf 10000 19200 5000 = 40000 * chargeUnit ∧
    gaugeChoose 10000 5000 (40000 * chargeUnit) 19200 = (280000 * (4 * energyDen 10000), 1, false) ∧
    limitOf 10000 50000 40000 (280000 * (4 * energyDen 10000)) = 5750 := by decide +kernel

/-- Port 3 with a magazine and a trained link; the same with a session of 16 map units. -/
def plugged : State := put (put (modMag s0 3 fun m => { m with link := true }) (R.SBD_STAT_PRSNT 3) 1) (R.MAG_CTL_EN 3) 1
def session : Session := { sn := [], nsze := 2 ^ 24, gen := 1, serial := [], tick := 0, dir := [(7, List.replicate 0x2F 0 ++ [9])], map := [] }
def inSession : State := put (modMag plugged 3 fun m => { m with sess := some session }) (R.MAG_STAT_STATE 3) mgSession
theorem witness_MagOpen : let c := ringCmd 0x10 [3]
    let s := cmdWaits c plugged
    let d := dropCmd s c
    findCmd s 0 15 0xFFFF 0x10 = some c ∧ mgWaits s 0 15 0xFFFF 0x10 = false ∧ c.part = 0 ∧ formOk c.entry [(4, 1)] = true ∧ leAt c.entry 4 1 = 3 ∧
    hasSession d 3 = false ∧ mgReachable d 3 = true ∧ hasSession (dropCmd (cmdWaits c inSession) c) 3 = true ∧
    mgReachable (dropCmd (cmdWaits c s0) c) 3 = false ∧ 4 ≤ leAt (ringCmd 0x10 [4]).entry 4 1 := by decide +kernel
/-- The port has an operation of another command at work. -/
def working (s : State) : State := addOp s 3 (.closing none) [.host] 0
theorem witness_MagWaits : let o := cmdWaits (ringCmd 0x10 [3]) (working plugged)
    let c := cmdWaits (ringCmd 0x11 [3]) (working inSession)
    let f := cmdWaits (ringCmd 0x12 [3, 1]) (working plugged)
    mgWaits o 0 15 0xFFFF 0x10 = true ∧ mgWaits c 0 15 0xFFFF 0x11 = true ∧ mgWaits f 0 15 0xFFFF 0x12 = true := by decide +kernel
theorem witness_MagClose : let c := ringCmd 0x11 [3]
    let s := cmdWaits c inSession
    let d := dropCmd s c
    findCmd s 0 15 0xFFFF 0x11 = some c ∧ mgWaits s 0 15 0xFFFF 0x11 = false ∧ formOk c.entry [(4, 1)] = true ∧ hasSession d 3 = true ∧ clipOn d 3 = false ∧
    magState d 3 = mgSession ∧
    hasSession (dropCmd (cmdWaits c s0) c) 3 = false ∧ magState (dropCmd (cmdWaits c plugged) c) 3 ≠ mgSession := by decide +kernel
theorem witness_MagFormat : let c := ringCmd 0x12 [3, 1]
    let s := cmdWaits c (put plugged R.GLB_MODE_CUR modeMAINT)
    let d := dropCmd s c
    findCmd s 0 15 0xFFFF 0x12 = some c ∧ mgWaits s 0 15 0xFFFF 0x12 = false ∧ formOk c.entry [(4, 1), (5, 1)] = true ∧ leAt c.entry 5 1 = 1 ∧ modeOf d = modeMAINT ∧
    hasSession d 3 = false ∧ mgReachable d 3 = true ∧ 2 ≤ leAt (ringCmd 0x12 [3, 2]).entry 5 1 ∧ (modeOf rec ≠ modeIDLE ∧ modeOf rec ≠ modeMAINT) := by decide +kernel
/-- HOSTIO of k blocks from the LBA of the last byte. -/
def hostio (w lba k : Nat) : RingCmd := ringCmd 0x13 ([3] ++ leBytes 1 w ++ [0, 0] ++ leBytes 8 lba ++ leBytes 4 k)
theorem witness_Hostio : (∀ w ∈ [0, 1], let c := hostio w (2 ^ 24 - 1) 1
    let s := cmdWaits c (put inSession R.GLB_MODE_CUR modeIDLE)
    let d := dropCmd s c
    findCmd s 0 15 0xFFFF 0x13 = some c ∧ formOk c.entry [(4, 1), (5, 1), (8, 8), (0x10, 4), (0x18, 8)] = true ∧ leAt c.entry 4 1 < 4 ∧ leAt c.entry 0x10 4 = 1 ∧
      leAt c.entry 0x18 8 % 4096 = 0 ∧ hasSession d 3 = true ∧ leAt c.entry 8 8 + 1 ≤ (sessOf d 3).nsze ∧ (sessOf d 3).nsze < leAt c.entry 8 8 + 2 ∧
      leAt c.entry 5 1 = w ∧ modeOf d = modeIDLE ∧ c.part = 0) := by decide +kernel

/-- A spool operation of opcode o for queue q, with count k on port n and LAYOUT at l. -/
def spoolOf (o q n l k : Nat) : SpoolReq :=
  { q := q, part := 0, seq := 0, pair := 0, space := 0, addr := 0, dup := false,
    desc := leBytes 1 o ++ List.replicate 23 0 ++ leBytes 8 l ++ leBytes 4 k ++ leBytes 1 n ++ List.replicate 27 0 }
def spooled (x : SpoolReq) (s : State) : State := { s with mags := { s.mags with spool := [x] } }
def good (s : State) (x : SpoolReq) : Bool := queuePermitted (modeOf s) x.q && spAllowed (spOp x.desc) x.q && spForm x.desc && !x.dup && spAddrs s x
theorem witness_Spool :
    (∀ x ∈ [spoolOf 0 2 0 0 0, spoolOf 1 3 0 0 0], let s := spooled x (put inSession R.GLB_MODE_CUR modeRECDUAL)
    (s.mags.spool.find? fun y => y.q == x.q) = some x ∧ good s x = true) ∧
    (∀ x ∈ [spoolOf 2 5 3 0 7, spoolOf 3 7 3 (2 ^ 24 - 1) 1, spoolOf 4 7 3 4096 1], let s := spooled x (put inSession R.GLB_MODE_CUR modeMAINT)
    (s.mags.spool.find? fun y => y.q == x.q) = some x ∧ good s x = true) ∧ queuePermitted (modeOf s0) 2 = false ∧
    4 < 5 ∧ spAllowed 0 7 = false ∧ spClip inSession (spoolOf 0 2 0 0 0) = none ∧ hasSession s0 3 = false ∧ hasSession inSession 3 = true ∧
    lookupKey (sessOf inSession 3).dir 7 = some (List.replicate 0x2F 0 ++ [9]) ∧ beAt (List.replicate 0x2F 0 ++ [9]) 0x28 8 ≠ 0 ∧ (2 ^ 24 - 1) + 1 ≤ (sessOf inSession 3).nsze ∧
    trimOk (sessOf inSession 3) 4096 1 = true ∧
    (let x := spoolOf 3 7 3 0 (2 ^ 32 - 1); spForm x.desc = true ∧ spAddrs inSession x = false) ∧
    (let x := { spoolOf 3 7 3 0 1 with desc := leBytes 1 3 ++ leBytes 1 4 ++ List.replicate 62 0 }; spAllowed 3 7 = true ∧ spForm x.desc = false) := by decide +kernel
theorem witness_SpoolWrite :
    let c : Clip :=
      { id := 0, part := 0, seq := 0, pair := 0, proxy := false, num := 1, stripe := 8, alaz := false, ports := [3], active := [3], last := 0, hist := [],
        sns := [], mem := [], whip := 0 }
    let s := spooled (spoolOf 1 2 0 0 0) (put { inSession with mags := { inSession.mags with clips := [c] } } R.GLB_MODE_CUR modeRECDUAL)
    spClip s (spoolOf 1 2 0 0 0) = some c ∧ good s (spoolOf 1 2 0 0 0) = true := by decide +kernel

/-- A queued or outstanding command of port 3, and a session with it. -/
def nv (q st : Nat) (k : NvKind) : NvCmd :=
  { cid := 5, op := 0, q := q, home := q, kind := k, lba := 5, blocks := 1, fua := false, data := [], entered := 0, issued := 0, abortAt := 0, order := 0, tries := 0, st := st }
def withNv (c : NvCmd) : State := modMag inSession 3 fun m => { m with cmds := [c], mqes := 31 }
theorem witness_SchedulerSlot :
    portIssues s0 3 = false ∧ (let v := fuaAll (magAccrue (stamp (withNv (nv 0 0 .flush)) 9) 3) 3; portIssues v 3 = true ∧ queueReady v 3 0 = true) ∧
    (let v := fuaAll (magAccrue (stamp (withNv (nv 1 0 .flush)) 9) 3) 3; portIssues v 3 = true ∧ queueReady v 3 0 = false ∧ queueReady v 3 1 = true) ∧
    (let v := fuaAll (magAccrue (stamp (put (withNv (nv 7 0 .read)) (R.MAG_Q_CFG_WEIGHT 3 7) 1) 9) 3) 3
    portIssues v 3 = true ∧ queueReady v 3 0 = false ∧ queueReady v 3 1 = false ∧ nextWeighted v 3 = some (7, 0)) ∧
    (let v := fuaAll (magAccrue (stamp inSession 9) 3) 3; portIssues v 3 = true ∧ nextWeighted v 3 = none) := by decide +kernel
theorem witness_NvmeCompletion : (∀ k ∈ [NvKind.abort, .read, .errLog], let s := withNv (nv 8 1 k)
    ((magOf s 3).cmds.find? fun c => c.cid == 5 && (c.st == 1 || c.st == 2)) = some (nv 8 1 k) ∧ (nv 8 1 k).kind = k) ∧
    (nv 8 1 .errLog).tries < get (put s0 (R.MAG_CFG_RETRY 3) 1) (R.MAG_CFG_RETRY 3) := by decide +kernel
theorem witness_NvmeTimeouts : (let s := put (withNv (nv 4 1 .read)) (R.MAG_CFG_CMDTO 3) 1
    ((magOf s 3).cmds.find? fun c => c.cid == 5 && c.st == 1 && c.kind != .abort) = some (nv 4 1 .read) ∧ 0 + 1200000 * get s (R.MAG_CFG_CMDTO 3) ≤ 1200000) ∧
    (nv 8 1 .abort ∈ (magOf (withNv (nv 8 1 .abort)) 3).cmds ∧ 12000000 + (nv 8 1 .abort).issued ≤ 12000000) ∧
    (let o : MagOp := { id := 0, kind := .comeBack, steps := [.rdy], wait := 0, got := [], begun := false, held := false, fua := false, code := 0, count := 0 }
    let s := modMag inSession 3 fun m => { m with ops := [o] }
    ((magOf s 3).ops.find? fun o => match o.steps with | .rdy :: _ => true | _ => false) = some o) ∧
    magState inSession 3 = mgSession ∧ 1200000000 + (magOf inSession 3).smartAt ≤ 1200000000 ∧ unitsRun s0 = true ∧
    bits (14000 : Word32).toNat 0 16 = 14000 ∧ bits (14001 : Word32).toNat 0 16 = 14001 ∧ bitAt (0x800036B0 : Word32).toNat 31 = true := by decide +kernel

theorem witness_Links : (let s := put plugged (R.MAG_STAT_STATE 3) mgTraining
    let z := modMag s 3 fun m => { m with link := false }
    isSet z (R.MAG_CTL_EN 3) = true ∧ (magOf z 3).link = false ∧ magState z 3 = mgTraining ∧ (magOf s 3).link = true) ∧
    (let s := put (modMag inSession 3 fun m => { m with lostAt := some 0 }) (R.MAG_CFG_HOLD 3) 1
    (magOf s 3).lostAt = some 0 ∧ 0 + 1200000 * get s (R.MAG_CFG_HOLD 3) ≤ 1200000 ∧ hasSession (modMag s 3 fun m => { m with lostAt := none }) 3 = true) ∧
    (isSet inSession (R.MAG_CTL_EN 3) = bitAt (3 : Word32).toNat 0 ∧ bitAt (3 : Word32).toNat 1 = true ∧ magState (put inSession (R.MAG_CTL_EN 3) 1) 3 = mgSession) := by decide +kernel
theorem witness_Presence : magPresent s0 3 = false ∧ magPresent plugged 3 = true ∧ (sbdOf plugged 3).xfers = [] ∧ get plugged (R.SBD_LBL_STAT_STATE 3) = 0 ∧
    unitsRun s0 = true ∧ (let s := put inSession (R.SBD_CTL_PWR 3) 1; isSet s (R.SBD_CTL_PWR 3) = true ∧ bitAt (0 : Word32).toNat 0 = false ∧ hasSession s 3 = true) := by
  decide +kernel
theorem witness_Sideband : (let x : SbdXfer := { use := .wearWrite, dev := 0x50, addr := 0, write := [], read := 0, tries := 2 }
    let s := modSbd s0 3 fun y => { y with xfers := [x] }
    (sbdOf s 3).xfers = x :: [] ∧ (sbdOf s 3).nakAt = none ∧ x.tries < 3) ∧
    (let s := modSbd s0 3 fun y => { y with nakAt := some 0 }; (sbdOf s 3).nakAt = some 0 ∧ 1200000 + 0 ≤ 1200000 ∧ 1199999 < 1200000 + 0) := by
  decide +kernel

/-- The worked magazine on port 3: 10,000 µF, cut-off at 5,000 mV, 50,000 µJ, 40,000 nJ; ten samples at 9.0 V. -/
def gauged : State :=
  let s := put (put (put plugged (R.SBD_STAT_IDVALID 3) 1) (R.SBD_IDCACHE_BYTES 3 11) 0x10270000) (R.SBD_IDCACHE_BYTES 3 12) 0x00008813
  let s := put (put s (R.SBD_IDCACHE_BYTES 3 13) 0x50C30000) (R.SBD_IDCACHE_BYTES 3 14) 0x409C0000
  modSbd s 3 fun x => { x with volts := List.replicate 10 1920, cal := true, charge := 40000 * chargeUnit, rest := 20000 }
theorem witness_Gauge : idHoldup (idBlock gauged 3) = 10000 ∧ idVcut (idBlock gauged 3) = 5000 ∧ idFixed (idBlock gauged 3) = 50000 ∧ idBlk (idBlock gauged 3) = 40000 ∧
    gaugeDoubtful gauged 3 = false ∧ idValid gauged 3 = true ∧ 160 * 5000 < 75 * gaugeSum (sbdOf gauged 3) ∧ (sbdOf gauged 3).charge ≠ 0 ∧
    (sbdOf gauged 3).rest = 20000 ∧ magPresent gauged 3 = true ∧ gaugeDoubtful s0 3 = true ∧ (sbdOf s0 3).inDoubt = true ∧ idValid s0 3 = false := by decide +kernel
theorem witness_Label : unitsRun s0 = true ∧ bitAt (1 : Word32).toNat 0 = true ∧ get (put s0 (R.SBD_LBL_STAT_STATE 3) 1) (R.SBD_LBL_STAT_STATE 3) ≠ 0 ∧
    (let s := put (put (put (modSbd idle 3 fun x => { x with known := true }) (R.SBD_STAT_IDVALID 3) 1) (R.SBD_IDCACHE_BYTES 3 15) 0x2801) (R.SBD_STAT_PRSNT 3) 1
    get s (R.SBD_LBL_STAT_STATE 3) = 0 ∧ (sbdOf s 3).known = true ∧ labelAllowed s 3 = true) ∧
    (let s := modSbd (put s0 (R.SBD_LBL_STAT_STATE 3) 3) 3 fun x => { x with sentAt := some 0 }
    (sbdOf s 3).sentAt = some 0 ∧ 5999999999 < 6000000000 + 0 ∧ 6000000000 + 0 ≤ 6000000000 ∧
      get s (R.SBD_LBL_STAT_STATE 3) ≠ 2) := by decide +kernel

/-! ## Witnesses: faults, injection, the belay pair and the anchor -/

theorem witness_Faults : (∀ f ∈ [0x00, 0x06, 0x40, 0x05], R.fltAssigned f = true ∧ isSet (put (put s0 (R.FLT_MASK f) 0) (R.FLT_STAT f) 1) (R.FLT_MASK f) = false ∧
      isSet (put (put s0 (R.FLT_MASK f) 1) (R.FLT_STAT f) 1) (R.FLT_MASK f) = true) ∧
    (∀ c < 4, ∃ f < 256, R.fltAssigned f = true ∧ R.fltClassCode f = c) ∧
    (2 ^ 31 : Word32).toNat = 2 ^ 31 ∧ R.fltAssigned (32 * 7 + 31) = false ∧ (2 ^ 5 : Word32).toNat = 2 ^ 5 ∧ R.fltAssigned (32 * 0 + 5) = true ∧
    causePresent (put (put s0 R.CLK_TEMP_DEGC 400) (R.FLT_FORCE 5) 0) 5 = true ∧ causePresent (put (put s0 R.CLK_TEMP_DEGC 399) (R.FLT_FORCE 5) 0) 5 = false := by
  decide +kernel
def armed : State := put s0 R.INJ_STAT_ARMED 1
/-- The belay pair with B0 active and B1 standing by. -/
def pairRuns : State := put (put s0 R.FLT_BLY_STAT_B0 0) R.FLT_BLY_STAT_B1 1
theorem witness_Force : unitsRun armed = true ∧ injArmed armed = true ∧ injArmed s0 = false ∧ (2 ^ 9 : Word32).toNat = 2 ^ 9 ∧ (2 ^ 16 : Word32).toNat = 2 ^ 16 ∧
    R.fltAssigned 255 = false ∧
    isRec (modeOf (put s0 (R.FLT_FORCE 0x01) 1)) = false ∧ isRec (modeOf (put rec (R.FLT_FORCE 0x01) 1)) = true ∧ (seqOf s0 3).cur = none ∧
    (seqOf (modSeq s0 3 fun q => { q with cur := some 9 }) 3).cur = some 9 ∧
    coreRuns (put pairRuns (R.FLT_FORCE 0x49) 1) 1 = true ∧ coreSt (put (put s0 R.FLT_BLY_STAT_B1 4) (R.FLT_FORCE 0x49) 1) 1 = 4 ∧
    coreSt (put (put s0 R.FLT_BLY_STAT_B1 2) (R.FLT_FORCE 0x49) 1) 1 = 2 ∧ hasSession (put inSession (R.FLT_FORCE 0x6C) 1) 3 = true := by decide +kernel
theorem witness_Arming : (let s := { s0 with sup := { s0.sup with armAt := some 5 } }
    unitsRun s = true ∧ s.sup.armAt = some 5 ∧ 1200005 ≤ 5 + 1200000 ∧ 5 + 1200000 < 1200006) ∧ s0.sup.armAt = none ∧
    modeOf (inMode modeMAINT) = modeMAINT ∧ unitsRun (inMode modeMAINT) = true ∧ modeOf idle ≠ modeMAINT ∧ (0x5B : Word32) ≠ 0 ∧ (0x5B : Word32) ≠ 0xA5 := by decide +kernel

theorem witness_Injectors : s0.sup.inj.length = 17 ∧ isSet s0 (R.INJ_CTL_EN 16) = false ∧
    (let s := modInj (put (put s0 (R.INJ_CTL_EN 16) 1) (R.INJ_COUNT_N 16) 2) 16 fun x => { x with seen := 8, next := 9, acts := 1, held := some 0 }
    isSet s (R.INJ_CTL_EN 16) = true ∧ (injOf s 16).seen + 1 = (injOf s 16).next ∧ get (bump s (R.INJ_DONE_COUNT 16)) (R.INJ_COUNT_N 16) ≤ (injOf s 16).acts + 1 ∧
      (injOf s 16).held = some 0 ∧ 1199999 < 0 + 1200000 ∧ (injOf (modInj s 16 fun x => { x with next := 10 }) 16).seen + 1 ≠ 10) := by decide +kernel

/-- The belay pair with B0 active and B1 standing by, both having beaten at 0. -/
def pair : State := { put s0 R.FLT_BLY_STAT_B1 1 with sup := { s0.sup with ready := true, beat := [some 0, some 0] } }
theorem witness_Belay : s0.sup.beat.length = 2 ∧ get pair R.FLT_BLY_STAT_B0 = 0 ∧ get pair R.FLT_BLY_STAT_B1 = 1 ∧
    get (put pair R.FLT_BLY_STAT_B0 2) R.FLT_BLY_STAT_B0 = 2 ∧ isSet pair (R.FLT_FORCE 0x48) = false ∧ isSet pair (R.FLT_FORCE 0x49) = false ∧
    pair.sup.ready = true ∧ lastBeat pair 0 + 240000 ≤ 240000 ∧ s0.sup.ready = false ∧ 239999 < lastBeat pair 0 + 240000 ∧
    get (fault (stamp pair 240000) 0x48) R.FLT_BLY_STAT_B0 = 0 ∧ get (fault (stamp pair 240000) 0x48) R.FLT_BLY_STAT_B1 = 1 ∧
    get (fault (stamp pair 240000) 0x49) R.FLT_BLY_STAT_B1 = 1 ∧
    get (fault (stamp (put pair R.FLT_BLY_STAT_B1 3) 240000) 0x48) R.FLT_BLY_STAT_B1 ≠ 1 ∧
    (let s := put pair R.FLT_BLY_STAT_B1 2
    let z := put (stamp s 9) R.FLT_BLY_STAT_B1 1
    get s R.FLT_BLY_STAT_B1 = 2 ∧ get z R.FLT_BLY_STAT_B1 = 1 ∧ get z R.FLT_BLY_STAT_B0 = 0 ∧ coreSilent { z with sup := { z.sup with beat := [some 0, some 9] } } 0 9 = false ∧
      nth s.sup.since 1 0 + 1200000 ≤ 1200000 ∧ get (put z R.FLT_BLY_STAT_B0 3) R.FLT_BLY_STAT_B0 ≠ 0) ∧
    unitsRun pair = true ∧ get pair R.FLT_BLY_STAT_ACTIVE = 0 ∧ get (put pair R.FLT_BLY_STAT_B1 4) R.FLT_BLY_STAT_B1 = 4 ∧
    get (put pair R.FLT_BLY_STAT_B0 3) R.FLT_BLY_STAT_B0 = 3 := by decide +kernel
theorem witness_Anchor : anchored s0 = false ∧ anchored (put s0 R.GLB_MODE_ANCHORED 1) = true ∧ fatalSet s0 = false ∧ s0.sup.ready = false ∧
    max (lastBeat pair 0) (lastBeat pair 1) + 1440000 ≤ 1440000 ∧ 1439999 < max (lastBeat pair 0) (lastBeat pair 1) + 1440000 ∧ pair.sup.ready = true ∧ anchored pair = false ∧
    fatalSet (put s0 (R.FLT_STAT 6) 1) = true ∧
    (let s := setAnc (withNv (nv 8 1 .read)) 3 1
    ancOf s 3 = 1 ∧ s.sup.ancAt + 24000000 ≤ 24000000 ∧ (magOf s 3).cmds = [nv 8 1 .read] ∧ (nv 8 1 .read).st = 1 ∧ (nv 8 1 .read).kind ≠ .abort ∧
      23999999 < s.sup.ancAt + 24000000) ∧
    ancOf (setAnc s0 3 1) 3 = 1 ∧ ((magOf (setAnc s0 3 1) 3).cmds.all fun c => c.st != 1 || c.kind == .abort) = true ∧
    ancOf (setAnc s0 3 2) 3 = 2 ∧ s0.sup.ancAt + 36000000 ≤ 36000000 ∧
    (let s := { pair with sup := { pair.sup with beat := [some 594000, some 594000] } }
    let z := showHealth (stamp s 594000) 594000
    (s.sup.ready && !anchored s && !fatalSet s && isSet z R.FLT_BLY_STAT_HEALTHY) = true ∧ s.sup.lanyAt + 594000 ≤ 594000 ∧ 593999 < s.sup.lanyAt + 594000) := by
  decide +kernel

/-! ## Witnesses: the pins -/

theorem witness_Lines : unitsRun s0 = true ∧ bits (1 : Word32).toNat 0 3 = 1 ∧ bits (0x1E3 : Word32).toNat 4 2 ≠ 3 ∧ bits (0x1A3 : Word32).toNat 4 2 = 2 ∧
    bits (0x30 : Word32).toNat 4 2 = 3 ∧ (lineOf s0 47).settle = none ∧
    (let s := modLine s0 47 fun l => { l with settle := some (nsCycles 256), pulse := true, high := true }
    (lineOf s 47).settle = some (nsCycles 256) ∧ nsCycles 256 - 1 < nsCycles 256 ∧ (lineOf s 47).pulse = true ∧ (lineOf s 47).high = true ∧
      s.tick.last + 12 * bits (get (put s (R.PIN_GL_FARG_ARG 47) 10) (R.PIN_GL_FARG_ARG 47)) 0 16 ≤ 120 ∧
      600000000 * s.tick.den ≤ (25000000 - s.tick.last) * s.tick.num ∧ (24999999 - s.tick.last) * s.tick.num < 600000000 * s.tick.den) ∧
    (let s := put (put (put s0 (R.PIN_GL_OWNER_VALID 47) 1) (R.PIN_GL_OWNER_PART 47) 7) (R.TICK_EDGE_CFG_INPUT 7 15) 47
    get s (R.PIN_GL_OWNER_VALID 47) = 1 ∧ get s (R.PIN_GL_OWNER_PART 47) = 7 ∧ bits (0 : Word32).toNat 7 1 = 0) := by decide +kernel
theorem witness_Timecode : bitAt (1 : Word32).toNat 0 = true ∧ ltcBase s0 ≠ none ∧ ltcBase { s0 with tick := { s0.tick with num := 1000 } } = none ∧
    (let s := put (put s0 (R.PIN_GL_CFG_FUNC 0) 1) (R.PIN_GL_CFG_FUNC 1) 1
    get s (R.PIN_GL_CFG_FUNC 0) = 1 ∧ (lineOf s 0).settle = none ∧ s.pins.ltc.good < 3 ∧ 3 ≤ ({ s.pins.ltc with good := 3 } : Ltc).good ∧
      s.pins.ltc.tx = none ∧ get s (R.PIN_GL_CFG_FUNC 1) = 1 ∧ (lineOf s 1).settle = none) ∧ get s0 (R.PIN_GL_CFG_FUNC 0) ≠ 1 := by decide +kernel

def uartOn : State := put (put s0 (R.PIN_UART_CTL_EN 3) 1) (R.PIN_GL_CFG_FUNC 15) 3
theorem witness_Serial : get uartOn (R.PIN_UART_CTL_EN 3) ≠ 0 ∧ get uartOn (R.PIN_GL_CFG_FUNC (8 + 2 * 3 + 1)) = 3 ∧ (lineOf uartOn 15).settle = none ∧
    (uartOf uartOn 3).rx.length < 64 ∧ get s0 (R.PIN_UART_CTL_EN 3) = 0 ∧ unitsRun s0 = true ∧ (uartOf s0 3).tx.length < 64 ∧ (uartOf s0 3).rx = [] ∧
    (let s := { uartOn with pins := { uartOn.pins with uart := setAt uartOn.pins.uart 3 { tx := List.replicate 64 1, rx := List.replicate 64 1 } } }
    64 ≤ (uartOf s 3).rx.length ∧ 64 ≤ (uartOf s 3).tx.length ∧ (uartOf s 3).rx = 1 :: List.replicate 63 1) ∧
    (auxOf s0 3).xfer = none ∧ bits (0x1000 : Word32).toNat 8 5 = 16 ∧ bits (0x1100 : Word32).toNat 8 5 = 17 ∧ bits (0x1000 : Word32).toNat 16 2 ≠ 3 ∧
    (auxOf (setAux s0 3 { fifo := [], xfer := some (1, true, 16, 0) }) 3).xfer = some (1, true, 16, 0) := by decide +kernel
end Sys2Proof.Tests
end

section
/-! The register map: each register's fields are sound (R7, R10), and what a loop over the fields of one register leaves of the
register store. Settles O8 and O9. -/

namespace Sys2Proof.Machine

/-! ## The fields of one register -/

/-- What R7 and R10 ask of the fields l of the register at address a. -/
def FieldsSound (a : Nat) (l : List Fld) : Prop :=
  l.Pairwise (fun f g => f.lo + f.width ≤ g.lo) ∧
    ∀ f ∈ l, f.addr = a ∧ 0 < f.width ∧ f.lo + f.width ≤ 32 ∧ f.reset < 2 ^ f.width

/-- A check of one field of the register at address a, of which the bits below lo are taken. -/
def fieldFits (a lo : Nat) (f : Fld) : Bool :=
  f.addr == a && Nat.ble lo f.lo && Nat.blt 0 f.width && Nat.ble (f.lo + f.width) 32 && Nat.blt f.reset (2 ^ f.width)

/-- The check of a list of fields from bit lo on: each field takes the bits up to its end. -/
def fieldsFit (a : Nat) : Nat → List Fld → Bool
  | _, [] => true
  | lo, f :: l => fieldFits a lo f && fieldsFit a (f.lo + f.width) l

theorem fieldFits_iff (a lo : Nat) (f : Fld) : fieldFits a lo f = true ↔
    f.addr = a ∧ lo ≤ f.lo ∧ 0 < f.width ∧ f.lo + f.width ≤ 32 ∧ f.reset < 2 ^ f.width := by
  simp [fieldFits, and_assoc, Nat.blt, Nat.succ_le_iff]

theorem fieldsFit_from {a lo : Nat} {l : List Fld} (h : fieldsFit a lo l = true) : FieldsSound a l ∧ ∀ f ∈ l, lo ≤ f.lo := by
  induction l generalizing lo with
  | nil => simp [FieldsSound]
  | cons f l ih =>
    rw [fieldsFit, Bool.and_eq_true, fieldFits_iff] at h
    obtain ⟨⟨haddr, hlo, hrest⟩, htail⟩ := h
    obtain ⟨⟨hrise, hfields⟩, hfrom⟩ := ih htail
    refine ⟨⟨List.pairwise_cons.2 ⟨hfrom, hrise⟩, List.forall_mem_cons.2 ⟨⟨haddr, hrest⟩, hfields⟩⟩, ?_⟩
    refine List.forall_mem_cons.2 ⟨hlo, fun g hg => ?_⟩
    have := hfrom g hg
    omega

/-! ## The rows of the map -/

/-- The check of every register of a row. -/
def rowFits (r : RegRow) : Bool :=
  (List.range r.n1).all fun i => (List.range r.n2).all fun j => fieldsFit (r.base + i * r.s1 + j * r.s2) 0 (r.flds i j)

/-- An address that a row holds is that of the register with the row's indexes there. -/
theorem rowHas_addr {r : RegRow} {a : Nat} (h : rowHas r a = true) :
    (a - r.base) / r.s1 < r.n1 ∧ (a - r.base) % r.s1 / r.s2 < r.n2 ∧
      a = r.base + (a - r.base) / r.s1 * r.s1 + (a - r.base) % r.s1 / r.s2 * r.s2 := by
  simp only [rowHas, Bool.and_eq_true, decide_eq_true_eq, beq_iff_eq] at h
  obtain ⟨⟨⟨hbase, hi⟩, hj⟩, hmod⟩ := h
  refine ⟨hi, hj, ?_⟩
  have h1 := Nat.div_add_mod' (a - r.base) r.s1
  have h2 := Nat.div_add_mod' ((a - r.base) % r.s1) r.s2
  omega

theorem rowFlds_sound {r : RegRow} {a : Nat} (hr : rowFits r = true) (h : rowHas r a = true) : FieldsSound a (rowFlds r a) := by
  obtain ⟨hi, hj, ha⟩ := rowHas_addr h
  simp only [rowFits, List.all_eq_true, List.mem_range] at hr
  have := (fieldsFit_from (hr _ hi _ hj)).1
  rwa [← ha] at this

theorem fldsIn_sound {rs : List RegRow} (h : rs.all rowFits = true) (a : Nat) : FieldsSound a (fldsIn rs a) := by
  induction rs with
  | nil => simp [fldsIn, FieldsSound]
  | cons r rs ih =>
    rw [List.all_cons, Bool.and_eq_true] at h
    rw [fldsIn]
    split
    · exact rowFlds_sound h.1 ‹_›
    · exact ih h.2

/-! The map is a finite table, and its check runs, part by part; only the two fuse fields reset to values that are not numerals. -/

theorem regRows0_fit : regRows0.all rowFits = true := by decide +kernel
theorem regRows1_fit : regRows1.all rowFits = true := by decide +kernel
theorem regRows2_fit : regRows2.all rowFits = true := by decide +kernel
theorem regRows3_fit : regRows3.all rowFits = true := by decide +kernel
theorem regRows4_fit : regRows4.all rowFits = true := by decide +kernel
theorem regRows5_fit : regRows5.all rowFits = true := by decide +kernel
theorem regRows6_fit : regRows6.all rowFits = true := by decide +kernel
theorem regRows7_fit : regRows7.all rowFits = true := by decide +kernel

/-- AON_FUSE: its reset values are what the fuses hold, cut to the fields. -/
theorem fuseRow_fits : rowFits ⟨0x10028, 1, 0x4, 1, 0x4, fun _ _ => [R.AON_FUSE_SVNMIN, R.AON_FUSE_REVOKE]⟩ = true := by
  simp [rowFits, fieldsFit, fieldFits_iff, R.AON_FUSE_SVNMIN, R.AON_FUSE_REVOKE, Nat.mod_lt]

theorem regRows8_fit : regRows8.all rowFits = true := by
  have before : (regRows8.take 7).all rowFits = true := by decide +kernel
  have after : (regRows8.drop 8).all rowFits = true := by decide +kernel
  have split : regRows8 = regRows8.take 7 ++
      ⟨0x10028, 1, 0x4, 1, 0x4, fun _ _ => [R.AON_FUSE_SVNMIN, R.AON_FUSE_REVOKE]⟩ :: regRows8.drop 8 := rfl
  rw [split, List.all_append, List.all_cons, before, fuseRow_fits, after]
  rfl

theorem regRows_fit : regRows.all rowFits = true := by
  simp only [regRows, List.all_append, regRows0_fit, regRows1_fit, regRows2_fit, regRows3_fit, regRows4_fit, regRows5_fit, regRows6_fit,
    regRows7_fit, regRows8_fit, Bool.and_self]

theorem fieldsAt_sound (a : Nat) : FieldsSound a (fieldsAt a) := fldsIn_sound regRows_fit a

/-! ## Keys -/

/-- The key of a field of the register at address a lies among the 32 keys of that register. -/
theorem fldKey_of_mem {a : Nat} {f : Fld} (h : f ∈ fieldsAt a) : fldKey f = 32 * a + f.lo ∧ f.lo < 32 := by
  obtain ⟨haddr, hwidth, hend, -⟩ := (fieldsAt_sound a).2 f h
  exact ⟨by rw [fldKey, haddr], by omega⟩

/-- Fields of two registers have two keys. -/
theorem fldKey_ne_of_addr_ne {a b : Nat} {f g : Fld} (hf : f ∈ fieldsAt a) (hg : g ∈ fieldsAt b) (h : a ≠ b) : fldKey f ≠ fldKey g := by
  have := fldKey_of_mem hf
  have := fldKey_of_mem hg
  omega

/-- The fields of one register have keys of their own. -/
theorem fieldsAt_keys (a : Nat) : (fieldsAt a).Pairwise fun f g => fldKey f ≠ fldKey g := by
  refine (fieldsAt_sound a).1.imp_of_mem fun {f g} hf hg h => ?_
  have := fldKey_of_mem hf
  have := fldKey_of_mem hg
  have := ((fieldsAt_sound a).2 f hf).2.1
  omega

/-! ## Loops over the fields of one register -/

/-- The update u acts on its field alone, and gives it the value F of the one it had. -/
structure ActsOnField (u : State → Fld → State) (F : Fld → Nat → Nat) : Prop where
  value : ∀ s f, s.Canonical → get (u s f) f = F f (get s f)
  isPut : ∀ s f, u s f = s ∨ ∃ x, u s f = put s f x

section
variable {u : State → Fld → State} {F : Fld → Nat → Nat} (hu : ActsOnField u F)
include hu

theorem ActsOnField.get_other (s : State) {f g : Fld} (h : fldKey g ≠ fldKey f) : get (u s f) g = get s g := by
  obtain e | ⟨x, e⟩ := hu.isPut s f
  · rw [e]
  · rw [e, get_put_other s x h]

theorem ActsOnField.canonical {s : State} (f : Fld) (h : s.Canonical) : (u s f).Canonical := by
  obtain e | ⟨x, e⟩ := hu.isPut s f
  · rwa [e]
  · rw [e]; exact put_canon s f x h

/-- The loop leaves every field whose key is none of the list's. -/
theorem ActsOnField.get_foldl_other (l : List Fld) (s : State) {g : Fld} (h : ∀ f ∈ l, fldKey g ≠ fldKey f) :
    get (l.foldl u s) g = get s g := by
  induction l generalizing s with
  | nil => rfl
  | cons f l ih =>
    rw [List.forall_mem_cons] at h
    rw [List.foldl_cons, ih _ h.2, hu.get_other s h.1]

/-- Over fields with keys of their own, the loop acts on each field once. -/
theorem ActsOnField.get_foldl_mem {l : List Fld} {s : State} (hs : s.Canonical) (hl : l.Pairwise fun f g => fldKey f ≠ fldKey g)
    {f : Fld} (hf : f ∈ l) : get (l.foldl u s) f = F f (get s f) := by
  induction l generalizing s with
  | nil => simp at hf
  | cons g l ih =>
    obtain ⟨hg, hl⟩ := List.pairwise_cons.1 hl
    rw [List.foldl_cons]
    rcases List.mem_cons.1 hf with rfl | hf
    · rw [hu.get_foldl_other l _ hg, hu.value s f hs]
    · rw [ih (hu.canonical g hs) hl hf, hu.get_other s (hg f hf).symm]

/-- The loop leaves every part of the state beside the registers. -/
theorem ActsOnField.foldl_rest (l : List Fld) (s : State) (r : List RegCell) : { l.foldl u s with regs := r } = { s with regs := r } := by
  induction l generalizing s with
  | nil => rfl
  | cons f l ih =>
    rw [List.foldl_cons, ih]
    obtain e | ⟨x, e⟩ := hu.isPut s f
    · rw [e]
    · rw [e]; rfl

end

/-! ## Written words (R10, R11) -/

/-- What a field with value x holds after the word v is written to its register. -/
def writtenVal (v : Nat) (f : Fld) (x : Nat) : Nat :=
  match f.acc with
  | .rw => bits v f.lo f.width
  | .w1s => (x ||| bits v f.lo f.width) % 2 ^ f.width
  | .w1c => if bits v f.lo f.width = 0 then x else (x - (x &&& bits v f.lo f.width)) % 2 ^ f.width
  | .ro => x
  | .wo => x
  | .rc => x

theorem bits_mod (v lo w : Nat) : bits v lo w % 2 ^ w = bits v lo w := Nat.mod_mod ..

theorem writeFld_acts (v : Nat) : ActsOnField (writeFld v) (writtenVal v) where
  value s f hs := by
    unfold writeFld writtenVal
    cases f.acc with
    | rw => simp only [get_put_self f _ hs.1, bits_mod]
    | w1s => simp only [get_put_self f _ hs.1]
    | w1c => dsimp only; split <;> simp only [get_put_self f _ hs.1]
    | ro => rfl
    | wo => rfl
    | rc => rfl
  isPut s f := by
    unfold writeFld
    cases f.acc with
    | rw => exact .inr ⟨_, rfl⟩
    | w1s => exact .inr ⟨_, rfl⟩
    | w1c => dsimp only; split
             · exact .inl rfl
             · exact .inr ⟨_, rfl⟩
    | ro => exact .inl rfl
    | wo => exact .inl rfl
    | rc => exact .inl rfl

theorem get_writeWord {s : State} {a : Nat} (v : Nat) {f : Fld} (hs : s.Canonical) (hf : f ∈ fieldsAt a) :
    get (writeWord s a v) f = writtenVal v f (get s f) := (writeFld_acts v).get_foldl_mem hs (fieldsAt_keys a) hf

theorem get_writeWord_other (s : State) {a b : Nat} (v : Nat) {g : Fld} (hb : b ≠ a) (hg : g ∈ fieldsAt b) :
    get (writeWord s a v) g = get s g := (writeFld_acts v).get_foldl_other _ _ fun _ hf => fldKey_ne_of_addr_ne hg hf hb

theorem writeWord_rest (s : State) (a v : Nat) : { writeWord s a v with regs := s.regs } = s := (writeFld_acts v).foldl_rest _ _ _

end Sys2Proof.Machine

open Sys2Proof.Machine

/-- Settles O8: the check of the register map runs, and what it finds holds at every address. -/
theorem registerFieldsDoNotOverlap : Obligations.RegisterFieldsDoNotOverlap := fieldsAt_sound

/-- Settles O9: the loop over the fields of one register acts on each of them once. -/
theorem writtenWordActsByAccessCode : Obligations.WrittenWordActsByAccessCode := by
  intro s a v hs
  exact ⟨fun f hf => get_writeWord v hs hf, fun b hb g hg => get_writeWord_other s v hb hg, writeWord_rest s a v⟩

end

section
/-! Register accesses of R7 to R18: accesses that fail, writes and reads of registers without a command of their own, configuration
space and the test pads. Settles O12 and O13. -/

namespace Sys2Proof.Machine

/-! ## The lowest enabled byte (R8) -/

/-- The least index from lo on at which p holds is k, where p holds at k and at none before it. -/
theorem firstIdx_eq_some {p : Nat → Bool} {lo n k : Nat} (hlo : lo ≤ k) (hn : k < lo + n) (hk : p k = true)
    (hbefore : ∀ i, lo ≤ i → i < k → p i = false) : firstIdx p lo n = some k := by
  induction n generalizing lo with
  | zero => omega
  | succ n ih =>
    rw [firstIdx]
    rcases Nat.eq_or_lt_of_le hlo with rfl | hlt
    · rw [if_pos hk]
    · rw [hbefore lo (Nat.le_refl _) hlt, if_neg Bool.false_ne_true]
      exact ih hlt (by omega) fun i hi => hbefore i (by omega)

/-- Byte enables of which the first k are low and the next is high record the offset of byte k. -/
theorem errOffset_eq {lanes : List Bool} {k : Nat} (off : Nat) (htake : lanes.take k = List.replicate k false)
    (hk : lanes[k]? = some true) : errOffset off lanes = off + k := by
  have hlen : k < lanes.length := (List.getElem?_eq_some_iff.1 hk).1
  have hbefore : ∀ i, 0 ≤ i → i < k → nth lanes i false = false := by
    intro i _ hi
    have : lanes[i]? = (lanes.take k)[i]? := (List.getElem?_take_of_lt hi).symm
    simp [nth, this, htake, hi]
  rw [errOffset, firstIdx_eq_some (Nat.zero_le k) (by omega) (by simp [nth, hk]) hbefore]
  rfl

/-! ## Failing accesses (R8, R9, R18) -/

/-- The end of a failing access that began in s and left x: a read returns zero. -/
def accessEnd (write : Bool) (s x : State) : State := { x with rdata := if write then s.rdata else 0 }

theorem accErr_rdata (s : State) (win : Option Part) (unmapped : Bool) (off : Nat) : (accErr s win unmapped off).rdata = s.rdata := by
  cases win with
  | none => rfl
  | some p => unfold accErr raiseP raise; dsimp only; split <;> rfl

theorem accessEnd_eq {write : Bool} {s x : State} (h : x.rdata = s.rdata) :
    (if write then x else { x with rdata := 0 }) = accessEnd write s x := by
  cases write with
  | true => rw [if_pos rfl, accessEnd, if_pos rfl, ← h]
  | false => rfl

section
variable {s : State} {win : Option Part} {off : Nat} {lanes : List Bool} (write : Bool)

theorem failAccess_size (hl : lanes ≠ wholeWord) (hm : mapped win off = true) :
    failAccess s win write off lanes = accessEnd write s (accErr s win false (errOffset off lanes)) := by
  unfold failAccess
  dsimp only
  rw [if_neg hl, if_pos hm]
  exact accessEnd_eq (accErr_rdata ..)

theorem failAccess_both (hl : lanes ≠ wholeWord) (hm : mapped win off = false) : failAccess s win write off lanes =
    accessEnd write s (accErr (accErr s win false (errOffset off lanes)) win true (errOffset off lanes)) := by
  unfold failAccess
  dsimp only
  rw [if_neg hl, if_neg (Bool.eq_false_iff.1 hm)]
  exact accessEnd_eq ((accErr_rdata ..).trans (accErr_rdata ..))

theorem failAccess_whole (hm : mapped win off = false) :
    failAccess s win write off wholeWord = accessEnd write s (accErr s win true (errOffset off wholeWord)) := by
  unfold failAccess
  dsimp only
  rw [if_pos rfl, if_neg (Bool.eq_false_iff.1 hm)]
  exact accessEnd_eq (accErr_rdata ..)

theorem exec_accessSizeError (ha : off % 4 = 0) (hr : reaches s win off = true) (hl : lanes ≠ wholeWord) :
    exec (.accessSizeError win write off lanes) s = .next (failAccess s win write off lanes) := by
  change execAccessSizeError win write off lanes s = _
  rw [execAccessSizeError, if_pos ⟨ha, hl, hr⟩]

theorem exec_accessSizeError_whole : exec (.accessSizeError win write off wholeWord) s = .next s := by
  change execAccessSizeError win write off wholeWord s = _
  rw [execAccessSizeError, if_neg fun h => h.2.1 rfl]

theorem exec_accessUnmapped (ha : off % 4 = 0) (hr : reaches s win off = true) (hm : mapped win off = false) :
    exec (.accessUnmapped win write ⟨off, lanes⟩) s = .next (failAccess s win write off lanes) := by
  change execAccessUnmapped win write ⟨off, lanes⟩ s = _
  rw [execAccessUnmapped, if_pos ⟨ha, by simp [hm], hr⟩]

theorem exec_accessUnmapped_mapped (hm : mapped win off = true) : exec (.accessUnmapped win write ⟨off, lanes⟩) s = .next s := by
  change execAccessUnmapped win write ⟨off, lanes⟩ s = _
  rw [execAccessUnmapped, if_neg fun h => h.2.1 hm]

end

/-- An offset of the global BAR0 is mapped where a register lies. -/
theorem mapped_none_iff (off : Nat) : mapped none off = true ↔ fieldsAt off ≠ [] := by
  simp [mapped, hasRegister, regAt]

theorem mapped_none_eq_false {off : Nat} (h : fieldsAt off = []) : mapped none off = false := by
  simp [mapped, hasRegister, regAt, h]

theorem reaches_none {s : State} {off : Nat} (hrun : unitsRun s = true) (hoff : off < 0x400000) : reaches s none off = true := by
  simp [reaches, hrun, hoff]

theorem reaches_some {s : State} {p : Part} {off : Nat} (hrun : unitsRun s = true) (hp : present s p = true) (hoff : off < 0x10000) :
    reaches s (some p) off = true := by
  simp [reaches, hrun, hp, hoff]

/-- A raise of a partition's source sets its PEND bit. -/
theorem raiseP_eq (s : State) (p : Part) {k : Nat} (hk : k < 32) : raiseP s p k = put s (R.HUB_PEND (partSource p k)) 1 := by
  have := p.isLt
  rw [raiseP, raise, if_neg]
  unfold partSource
  omega

theorem accErr_window (s : State) (p : Part) (unmapped : Bool) (off : Nat) : accErr s (some p) unmapped off =
    put (bump (put (put s (if unmapped then R.PW_ACCERR_UNMAPPED p else R.PW_ACCERR_SIZE p) 1) (R.PW_ACCERR_ADDR_OFFSET p) off)
      (R.PW_ACCERR_CNT_COUNT p)) (R.HUB_PEND (partSource p srcAccErr)) 1 := raiseP_eq _ p (by decide)

end Sys2Proof.Machine

open Sys2Proof Sys2Proof.Machine

/-- Settles O12: the offset recorded is that of the lowest enabled byte, and each rule that is broken adds its own record. -/
theorem accessErrorsAreRecordedAndChangeNothingElse : Obligations.AccessErrorsAreRecordedAndChangeNothingElse := by
  unfold Obligations.AccessErrorsAreRecordedAndChangeNothingElse
  refine ⟨fun s write off k lanes hrun ha hoff htake hk => ?_, fun s p write off k lanes hrun hp ha hoff htake hk => ?_⟩
  · have hr := reaches_none hrun hoff
    have he := errOffset_eq off htake hk
    refine ⟨fun hl hf => ?_, fun hl hf => ?_, fun hl hf => ?_, fun hl => ?_⟩
    · have hm := (mapped_none_iff off).2 hf
      rw [exec_accessSizeError write ha hr hl, exec_accessUnmapped_mapped write hm, failAccess_size write hl hm, he]
      exact ⟨rfl, rfl⟩
    · have hm := mapped_none_eq_false hf
      rw [exec_accessSizeError write ha hr hl, exec_accessUnmapped write ha hr hm, failAccess_both write hl hm, he]
      exact ⟨rfl, rfl⟩
    · have hm := mapped_none_eq_false hf
      subst hl
      rw [exec_accessUnmapped write ha hr hm]
      exact congrArg _ ((failAccess_whole write hm).trans (congrArg (fun e => accessEnd write s (accErr s none true e)) he))
    · subst hl
      exact exec_accessSizeError_whole write
  · have hr := reaches_some hrun hp hoff
    have he := errOffset_eq off htake hk
    refine ⟨fun hl hm => ?_, fun hl hm => ?_, fun hl hm => ?_⟩
    · rw [exec_accessSizeError write ha hr hl, failAccess_size write hl hm, he, accErr_window]
      rfl
    · rw [exec_accessSizeError write ha hr hl, exec_accessUnmapped write ha hr hm, failAccess_both write hl hm, he, accErr_window,
        accErr_window]
      exact ⟨rfl, rfl⟩
    · subst hl
      rw [exec_accessUnmapped write ha hr hm]
      refine congrArg _ ((failAccess_whole write hm).trans ?_)
      rw [show errOffset off wholeWord = off + k from he, accErr_window]
      rfl

end

section
/-! Writes and reads of registers without a command of their own, configuration space and the test pads. Settles O13. -/

namespace Sys2Proof.Machine

/-! ## What a whole-word access does (R8, R9) -/

section
variable {s : State} {win : Option Part} {off : Nat} (v : Word32)

theorem exec_registerWrite_bar0 : exec (.registerWrite (.bar0 off) v) s = .next (settle (busWrite s none off v.toNat)) := rfl

theorem exec_registerWrite_window (p : Part) :
    exec (.registerWrite (.window p off) v) s = .next (settle (busWrite s (some p) off v.toNat)) := rfl

theorem exec_registerWrite_config (p : Part) (r : CfgReg) : exec (.registerWrite (.config p r) v) s =
    .next (settle (if cfgReaches s p then cfgWrite s p r v.toNat else s)) := rfl

theorem exec_registerWrite_test (x : TestPad) : exec (.registerWrite (.test x) v) s = .next (settle (testWrite s x v.toNat)) := rfl

theorem exec_readClear_bar0 : exec (.readClear (.bar0 off)) s = .next (busRead s none off) := rfl

theorem exec_readClear_window (p : Part) : exec (.readClear (.window p off)) s = .next (busRead s (some p) off) := rfl

theorem exec_readClear_config (p : Part) (r : CfgReg) :
    exec (.readClear (.config p r)) s = .next (if cfgReaches s p then { s with rdata := cfgWord s p r } else s) := rfl

theorem exec_readClear_test (x : TestPad) : exec (.readClear (.test x)) s = .next (testRead s x) := rfl

theorem busWrite_unanswered (v : Nat) (h : reaches s win off = false) : busWrite s win off v = s := by
  simp [busWrite, h]

theorem busRead_unanswered (h : reaches s win off = false) : busRead s win off = s := by
  simp [busRead, h]

theorem busWrite_unmapped (v : Nat) (hr : reaches s win off = true) (hm : mapped win off = false) :
    busWrite s win off v = failAccess s win true off wholeWord := by
  simp [busWrite, hr, hm]

theorem busWrite_bar0 (v : Nat) (hr : reaches s none off = true) (hm : mapped none off = true) (ho : ownWrite off = false) :
    busWrite s none off v = bar0Write s off v := by
  simp [busWrite, hr, hm, regAt, ho]

theorem busWrite_window {p : Part} (v : Nat) (hr : reaches s (some p) off = true) (hm : mapped (some p) off = true)
    (ho : ownWrite (winAddr p off) = false) : busWrite s (some p) off v = winWrite s p off v := by
  simp [busWrite, hr, hm, regAt, ho]

theorem busRead_mapped (hr : reaches s win off = true) (hm : mapped win off = true) :
    busRead s win off = readReg s (regAt win off) := by
  simp [busRead, hr, hm]

end

/-- A whole-word write to an offset of BAR0 without a register is recorded as an access error at that offset. -/
theorem failAccess_bar0_write {s : State} {off : Nat} (hm : mapped none off = false) : failAccess s none true off wholeWord =
    bump (put (put s R.GLB_ACCERR_UNMAPPED 1) R.GLB_ACCERR_ADDR_OFFSET off) R.GLB_ACCERR_CNT_COUNT := by
  rw [failAccess_whole true hm]
  rfl

/-! ## TICK_GL (R26) -/

theorem fieldsAt_tickGlPhase : fieldsAt 0xC0010 = [R.TICK_GL_PHASE_OFFSET] := by decide +kernel
theorem fieldsAt_tickGl : fieldsAt 0xC000C = [R.TICK_GL_DIV] := by decide +kernel

/-- A write of a register that is one RW field. -/
theorem writeWord_single {s : State} {a : Nat} {f : Fld} (v : Nat) (h : fieldsAt a = [f]) (hf : f.acc = .rw) :
    writeWord s a v = put s f (bits v f.lo f.width) := by
  simp [writeWord, h, writeFld, hf]

theorem bar0Write_tickGlPhase (s : State) (v : Nat) :
    bar0Write s 0xC0010 v = put s R.TICK_GL_PHASE_OFFSET (bits v 0 R.TICK_GL_PHASE_OFFSET.width) :=
  (show bar0Write s 0xC0010 v = writeWord s 0xC0010 v by simp [bar0Write, aonOffset, inFam]).trans (writeWord_single v fieldsAt_tickGlPhase rfl)

theorem bar0Write_tickGl (s : State) (v : Nat) : bar0Write s 0xC000C v =
    if 1 ≤ bits v 0 5 ∧ bits v 0 5 ≤ 16 then put s R.TICK_GL_DIV (bits v 0 5) else put s R.TICK_STAT_BADCFG 1 := by
  rw [show put s R.TICK_GL_DIV (bits v 0 5) = writeWord s 0xC000C v from (writeWord_single v fieldsAt_tickGl rfl).symm]
  rfl

/-! ## Configuration space (R341, R383) -/

/-- Without a pending vector, letting the messages that wait go sends none. -/
theorem msixFlushAll_none {s : State} {p : Nat} (h : ∀ k < 32, bitAt (nth s.hub.vecPend p 0) k = false) : msixFlushAll s p = s :=
  forN_same _ _ _ fun k hk => if_neg (by simp [h k hk])

theorem cfgWrite_command {s : State} {p : Part} (v : Nat)
    (h : ∀ k < 32, bitAt (nth s.hub.vecPend p 0) k = false) :
    cfgWrite s p .command v = { s with host := { s.host with
      cfg := setAt s.host.cfg p ({ nth s.host.cfg p CfgSt.init with memory := bitAt v 1, master := bitAt v 2 }) } } := by
  have hsame : modAt s.host.cfg p (fun c => { c with memory := bitAt v 1, master := bitAt v 2 }) =
      setAt s.host.cfg p { nth s.host.cfg p CfgSt.init with memory := bitAt v 1, master := bitAt v 2 } :=
    modAt_congr _ _ _ _ CfgSt.init fun _ => rfl
  rw [← hsame]
  exact msixFlushAll_none h

/-- The words of configuration space that no write changes. -/
theorem cfgWrite_readOnly {s : State} {p : Part} {r : CfgReg} (v : Nat)
    (h : r = .id ∨ r = .classCode ∨ r = .sriovCounts ∨ r = .sriovOffsets) : cfgWrite s p r v = s := by
  obtain rfl | rfl | rfl | rfl := h <;> rfl

/-! ## Reads (R11) -/

/-- What a field with value x holds after its register is read. -/
def clearedVal (f : Fld) (x : Nat) : Nat := if f.acc = .rc then 0 else x

/-- What a read does to one field. -/
def clearFld (s : State) (f : Fld) : State := if f.acc = .rc then clrF s f else s

theorem clearRead_eq (s : State) (a : Nat) : clearRead s a = (fieldsAt a).foldl clearFld s := rfl

theorem clearFld_acts : ActsOnField clearFld clearedVal where
  value s f hs := by
    unfold clearFld clearedVal
    split
    · rw [clrF, get_put_self f 0 hs.1, Nat.zero_mod]
    · rfl
  isPut s f := by
    unfold clearFld
    split
    · exact .inr ⟨0, rfl⟩
    · exact .inl rfl

theorem get_clearRead {s : State} {a : Nat} {f : Fld} (hs : s.Canonical) (hf : f ∈ fieldsAt a) :
    get (clearRead s a) f = clearedVal f (get s f) := clearFld_acts.get_foldl_mem hs (fieldsAt_keys a) hf

theorem get_clearRead_other (s : State) {a b : Nat} {g : Fld} (hb : b ≠ a) (hg : g ∈ fieldsAt b) : get (clearRead s a) g = get s g :=
  clearFld_acts.get_foldl_other _ _ fun _ hf => fldKey_ne_of_addr_ne hg hf hb

theorem clearRead_rest (s : State) (a : Nat) (r : List RegCell) : { clearRead s a with regs := r } = { s with regs := r } :=
  clearFld_acts.foldl_rest _ _ _

/-- The state after a plain read of the register at address a, but for the free value that three of them use. -/
def plainRead (s : State) (a : Nat) : State := clearRead { s with rdata := readWord s a } a

theorem plainRead_rdata (s : State) (a : Nat) : (plainRead s a).rdata = readWord s a :=
  congrArg State.rdata (clearRead_rest { s with rdata := readWord s a } a [])

theorem plainRead_rest (s : State) (a : Nat) : { plainRead s a with regs := s.regs, rdata := s.rdata } = s :=
  congrArg (fun t => { t with rdata := s.rdata }) (clearRead_rest { s with rdata := readWord s a } a s.regs)

theorem get_plainRead {s : State} {a : Nat} {f : Fld} (hs : s.Canonical) (hf : f ∈ fieldsAt a) :
    get (plainRead s a) f = if f.acc = .rc then 0 else get s f :=
  get_clearRead (s := { s with rdata := readWord s a }) hs hf

theorem get_plainRead_other (s : State) {a b : Nat} {g : Fld} (hb : b ≠ a) (hg : g ∈ fieldsAt b) : get (plainRead s a) g = get s g :=
  get_clearRead_other { s with rdata := readWord s a } hb hg

/-- A read of a register that no command, no FIFO and no free count stands behind, but for three that show free values. -/
theorem readReg_plain {s : State} {a : Nat} (ho : ownRead a = false) (hi : inFam a 0x80604 0x10 4 = false) (hp : a ≠ 0x1A0030)
    (h : a ≠ 0x80410 ∧ a ≠ 0x80414 ∧ a ≠ 0x10024) : readReg s a = plainRead s a := by
  simp [readReg, ho, hi, hp, h, plainRead]

/-- The same for every such register: a read may move the free counter on. -/
theorem readReg_plain_free {s : State} {a : Nat} (ho : ownRead a = false) (hi : inFam a 0x80604 0x10 4 = false) (hp : a ≠ 0x1A0030) :
    ∃ n, readReg s a = { plainRead s a with free := n } := by
  by_cases h : a ≠ 0x80410 ∧ a ≠ 0x80414 ∧ a ≠ 0x10024
  · exact ⟨_, readReg_plain ho hi hp h⟩
  · have hshow : a = 0x80410 ∨ a = 0x80414 ∨ a = 0x10024 := by omega
    exact ⟨(plainRead s a).free + 1, by simp [readReg, ho, hi, hp, hshow, plainRead, useFree]⟩

/-- A read through a window is a plain one, and uses no free value. -/
theorem readReg_window {s : State} {p : Part} {off : Nat} (ho : ownRead (winAddr p off) = false) :
    readReg s (winAddr p off) = plainRead s (winAddr p off) := by
  have hw : 0x400000 ≤ winAddr p off := by unfold winAddr; omega
  have hi : inFam (winAddr p off) 0x80604 0x10 4 = false := by
    have : ¬ (winAddr p off - 0x80604) / 0x10 < 4 := by omega
    simp [inFam, this]
  exact readReg_plain ho hi (by omega) (by omega)

/-! ## POOL_MIN_E and PIN_I2C_DATA (R408, R556) -/

theorem fieldsAt_poolMinE : fieldsAt 0x1A0030 = [R.POOL_MIN_E_COUNT] := by decide +kernel

theorem readWord_poolMinE (s : State) : readWord s 0x1A0030 = get s R.POOL_MIN_E_COUNT := by
  have hview : viewWord s 0x1A0030 = none := by simp [viewWord, inFam]
  simp [readWord, hview, storedWord, fieldsAt_poolMinE, readFld, R.POOL_MIN_E_COUNT]

theorem readReg_poolMinE (s : State) : readReg s 0x1A0030 =
    put (put { s with rdata := get s R.POOL_MIN_E_COUNT } R.POOL_MIN_E_COUNT 0) R.POOL_MIN_E_COUNT (get s R.POOL_FREE_E_COUNT) := by
  have hclear : plainRead s 0x1A0030 = put { s with rdata := get s R.POOL_MIN_E_COUNT } R.POOL_MIN_E_COUNT 0 := by
    rw [plainRead, clearRead_eq, fieldsAt_poolMinE, readWord_poolMinE]
    rfl
  have hread : readReg s 0x1A0030 = put (plainRead s 0x1A0030) R.POOL_MIN_E_COUNT (get (plainRead s 0x1A0030) R.POOL_FREE_E_COUNT) := by
    simp [readReg, ownRead, inFam, plainRead]
  rw [hread, hclear, get_put_other _ _ (by decide)]
  rfl

theorem readReg_i2cData (s : State) (b : Fin 4) : readReg s (0x80604 + 0x10 * b.val) = auxPop s b := by
  have hb := b.isLt
  have ho : ownRead (0x80604 + 0x10 * b.val) = false := by simp [ownRead, inFam]; omega
  have hi : inFam (0x80604 + 0x10 * b.val) 0x80604 0x10 4 = true := by simp [inFam]
  simp [readReg, ho, hi]

theorem auxPop_cons {s : State} {b : Nat} {v : Byte} {r : List Byte} (h : (auxOf s b).fifo = v :: r) :
    auxPop s b = { setAux s b { auxOf s b with fifo := r } with rdata := v.toNat } := by
  simp [auxPop, h]

theorem mapped_poolMinE : mapped none 0x1A0030 = true := (mapped_none_iff _).2 (by simp [fieldsAt_poolMinE])

theorem mapped_i2cData (b : Fin 4) : mapped none (0x80604 + 0x10 * b.val) = true := by
  revert b
  decide +kernel

end Sys2Proof.Machine

open Sys2Proof Sys2Proof.Machine

/-- Settles O13: each access reaches its register's rule, and a plain read clears field by field. -/
theorem plainWritesStoreAndReadsClearTheirFields : Obligations.PlainWritesStoreAndReadsClearTheirFields := by
  unfold Obligations.PlainWritesStoreAndReadsClearTheirFields
  refine ⟨fun s off v => ⟨fun hr hf ho => ?_, fun hr hf => ?_, fun hr => ?_⟩, fun s p off v hr hm ho => ?_, fun s v hrun => ?_,
    fun s p r v => ⟨fun hr => ?_, fun hr => ?_, fun _ hpend => ?_, rfl, rfl, cfgWrite_readOnly _, rfl, rfl⟩,
    fun s off hs hr hf ho hi hp => ?_, fun s p off hs hr hm ho => ?_, fun s hrun => ?_, fun s b v r hrun hfifo => ?_,
    fun s i k v => ⟨rfl, rfl, fun h => ?_, fun h => ?_, fun h => ?_, fun h => ?_⟩⟩
  · rw [exec_registerWrite_bar0, busWrite_bar0 _ hr ((mapped_none_iff off).2 hf) ho]
  · have hm := mapped_none_eq_false hf
    rw [exec_registerWrite_bar0, busWrite_unmapped _ hr hm, failAccess_bar0_write hm]
  · rw [exec_registerWrite_bar0, exec_readClear_bar0, busWrite_unanswered _ hr, busRead_unanswered hr]
    exact ⟨rfl, rfl⟩
  · rw [exec_registerWrite_window, busWrite_window _ hr hm ho]
  · have hm (a : Nat) (f : Fld) (h : fieldsAt a = [f]) : mapped none a = true := (mapped_none_iff a).2 (by simp [h])
    rw [exec_registerWrite_bar0, exec_registerWrite_bar0, busWrite_bar0 _ (reaches_none hrun (by decide)) (hm _ _ fieldsAt_tickGlPhase) (by decide),
      busWrite_bar0 _ (reaches_none hrun (by decide)) (hm _ _ fieldsAt_tickGl) (by decide), bar0Write_tickGlPhase, bar0Write_tickGl]
    exact ⟨rfl, rfl⟩
  · rw [exec_registerWrite_config, exec_readClear_config, if_pos hr, if_pos hr]
    exact ⟨rfl, rfl⟩
  · rw [exec_registerWrite_config, exec_readClear_config, if_neg (Bool.eq_false_iff.1 hr), if_neg (Bool.eq_false_iff.1 hr)]
    exact ⟨rfl, rfl⟩
  · exact cfgWrite_command _ hpend
  · rw [exec_readClear_bar0, busRead_mapped hr ((mapped_none_iff off).2 hf), regAt]
    obtain ⟨n, hread⟩ := readReg_plain_free (s := s) ho hi hp
    refine ⟨readReg s off, rfl, ?_, fun f hf => ?_, fun a ha f hf => ?_, fun h1 h2 h3 => ?_, ?_⟩
    · rw [hread]; exact plainRead_rdata s off
    · rw [hread]; exact get_plainRead hs hf
    · rw [hread]; exact get_plainRead_other s ha hf
    · rw [readReg_plain ho hi hp ⟨h1, h2, h3⟩]; exact plainRead_rest s off
    · rw [hread]; exact congrArg (fun t => { t with free := s.free }) (plainRead_rest s off)
  · refine ⟨plainRead s (winAddr p off), ?_, plainRead_rdata _ _, fun f hf => get_plainRead hs hf,
      fun a ha f hf => get_plainRead_other s ha hf, plainRead_rest _ _⟩
    rw [exec_readClear_window, busRead_mapped hr hm, ← readReg_window ho, regAt]
  · rw [exec_readClear_bar0, busRead_mapped (reaches_none hrun (by decide)) mapped_poolMinE]
    exact congrArg _ (readReg_poolMinE s)
  · have hoff : 0x80604 + 0x10 * b.val < 0x400000 := by omega
    rw [exec_readClear_bar0, busRead_mapped (reaches_none hrun hoff) (mapped_i2cData b), ← auxPop_cons hfifo]
    exact congrArg _ (readReg_i2cData s b)
  · rw [exec_registerWrite_test, testWrite, testEnable, h]
    rfl
  · rw [exec_readClear_test, testRead, h]
    rfl
  · rw [exec_readClear_test, testRead, h]
  · rw [exec_registerWrite_test, testWrite, if_pos (by simpa [scansCells, or_comm] using h)]

end

section
/-! What State.reset shows. Settles O4. -/

namespace Sys2Proof.Machine

/-- At State.reset every field holds the reset value of its table. -/
theorem get_reset (f : Fld) : get State.reset f = f.reset := rfl

theorem hubRouteReset_device {src : Nat} (h1 : 1 ≤ src) (h2 : src < 0x100) : R.hubRouteTgtReset src = 1 ∧ R.hubRouteVecReset src = 0 := by
  simp [R.hubRouteTgtReset, R.hubRouteVecReset, h2, show src ≠ 0 by omega]

theorem hubRouteReset_partSource {p k : Nat} (hp : p < 8) (hk : k < 32) :
    R.hubRouteTgtReset (partSource p k) = 2 ^ p ∧ R.hubRouteVecReset (partSource p k) = k := by
  have hlo : ¬ partSource p k < 0x100 := by unfold partSource; omega
  have hhi : partSource p k < 0x200 := by unfold partSource; omega
  have hpart : (partSource p k - 0x100) / 32 = p := by unfold partSource; omega
  have hnum : (partSource p k - 0x100) % 32 = k := by unfold partSource; omega
  simp [R.hubRouteTgtReset, R.hubRouteVecReset, hlo, hhi, hpart, hnum, show partSource p k ≠ 0 by omega]

theorem readWord_reset_glbId : readWord State.reset 0x0000 = 0x00218840 := by decide +kernel

theorem readWord_reset_glbVendor : readWord State.reset 0x0004 = 0x5D8A := by decide +kernel

end Sys2Proof.Machine

open Sys2Proof Sys2Proof.Machine

/-- Settles O4: a field that no cell holds reads as the reset value of its table. -/
theorem resetShowsTheStatedValues : Obligations.ResetShowsTheStatedValues :=
  ⟨readWord_reset_glbId, readWord_reset_glbVendor, rfl, rfl, rfl, fun _ h1 h2 => hubRouteReset_device h1 h2,
    fun _ _ hp hk => hubRouteReset_partSource hp hk, rfl⟩

end

section
/-! Cold resets and the release of the internal reset (R510 to R513). Settles O15. -/

namespace Sys2Proof.Machine

theorem execResetNAssert_takes {s : State} {ns : Nat} {takes : Bool} (h : 10000 ≤ ns ∨ 1000 ≤ ns ∧ takes = true) :
    exec (.resetNAssert ns takes) s = .next (pinReset s) := by
  change execResetNAssert ns takes s = _
  rw [execResetNAssert, if_pos (by simpa using h)]

theorem execResetNAssert_ignored {s : State} {ns : Nat} {takes : Bool} (h : ns < 10000) (h' : ns < 1000 ∨ takes = false) :
    exec (.resetNAssert ns takes) s = .next s := by
  change execResetNAssert ns takes s = _
  rw [execResetNAssert, if_neg]
  simp only [Bool.or_eq_true, Bool.and_eq_true, decide_eq_true_eq]
  rintro (h1 | ⟨h1, h2⟩)
  · omega
  · rcases h' with h' | h'
    · omega
    · simp [h'] at h2

theorem attempting_iff (s : State) : attempting s = true ↔ s.sup.held = false ∧ s.sup.tryAt.isSome = true ∧ modeOf s = modeBOOT := by
  simp [attempting, and_assoc]

/-- The reset by the RESET_N pin, its condition as the rule states it. -/
theorem pinReset_eq (s : State) : pinReset s = if s.sup.held = false ∧ s.sup.tryAt.isSome = true ∧ modeOf s = modeBOOT then
    put (coldReset s 1) R.AON_BOOT_CNT_COUNT (get s R.AON_BOOT_CNT_COUNT) else coldReset s 1 := by
  simp only [pinReset, attempting_iff]

theorem exec_internalResetRelease {s : State} (sel : Fin 4) (hheld : s.sup.held = true) (hrail : s.sup.railBad = false)
    (hclk : s.sup.clkBad = false) (htest : s.sup.testEn = false) : exec (.internalResetRelease sel) s =
      .next { s with clk := 0, sup := { s.sup with held := false, sel := sel, tryAt := some 0 } } := by
  change execInternalResetRelease sel s = _
  rw [execInternalResetRelease, if_pos (by simp [hheld, hrail, hclk, htest])]

theorem exec_internalResetRelease_blocked {s : State} (sel : Fin 4)
    (h : s.sup.held = false ∨ s.sup.railBad = true ∨ s.sup.clkBad = true ∨ s.sup.testEn = true) :
    exec (.internalResetRelease sel) s = .next s := by
  change execInternalResetRelease sel s = _
  rw [execInternalResetRelease, if_neg (by rcases h with h | h | h | h <;> simp [h])]

end Sys2Proof.Machine

open Sys2Proof Sys2Proof.Machine

/-- Settles O15: each cold reset leaves `coldReset`, which is State.reset with the parts outside the block kept. -/
theorem coldResetRestoresEverything : Obligations.ColdResetRestoresEverything := by
  unfold Obligations.ColdResetRestoresEverything
  refine fun s => ⟨rfl, rfl, fun ns b h => ?_, fun ns h1 h2 => ⟨?_, ?_⟩, fun ns b h => ?_, fun sel h1 h2 h3 h4 => ?_, fun sel h => ?_⟩
  · rw [execResetNAssert_takes (.inl h), pinReset_eq]; rfl
  · rw [execResetNAssert_takes (.inr ⟨h1, rfl⟩), pinReset_eq]; rfl
  · exact execResetNAssert_ignored h2 (.inr rfl)
  · exact execResetNAssert_ignored (by omega) (.inl h)
  · exact exec_internalResetRelease sel h1 h2 h3 h4
  · exact exec_internalResetRelease_blocked sel h

end

section
/-! Boot attempts (R520 to R525). Settles O17. -/

namespace Sys2Proof.Machine

/-! ## A failed attempt (R524, R525) -/

/-- A failed attempt recorded: its reason in A0, the older ones moved on, and the count. -/
def bootFailed (s : State) (code : Nat) : State :=
  put (put (put (put s R.AON_BOOT_STAT_A2 (get s R.AON_BOOT_STAT_A1)) R.AON_BOOT_STAT_A1 (get s R.AON_BOOT_STAT_A0))
    R.AON_BOOT_STAT_A0 code) R.AON_BOOT_CNT_COUNT (get s R.AON_BOOT_CNT_COUNT + 1)

/-- The entry into BARE after a third failure. -/
def enterBare (s : State) : State :=
  let b := put (setMode s modeBARE 5) R.AON_BOOT_STAT_BARE 1
  { b with sup := { b.sup with tryAt := none } }

theorem bootFail_eq (s : State) (code : Nat) : bootFail s code =
    if get s R.AON_BOOT_CNT_COUNT < 2 then warmReset (bootFailed s code) 6 else enterBare (bootFailed s code) := by
  have hA0 : get (put s R.AON_BOOT_STAT_A2 (get s R.AON_BOOT_STAT_A1)) R.AON_BOOT_STAT_A0 = get s R.AON_BOOT_STAT_A0 :=
    get_put_other _ _ (by decide)
  have hcount : get (put (put (put s R.AON_BOOT_STAT_A2 (get s R.AON_BOOT_STAT_A1)) R.AON_BOOT_STAT_A1 (get s R.AON_BOOT_STAT_A0))
      R.AON_BOOT_STAT_A0 code) R.AON_BOOT_CNT_COUNT = get s R.AON_BOOT_CNT_COUNT := by
    rw [get_put_other _ _ (by decide), get_put_other _ _ (by decide), get_put_other _ _ (by decide)]
  simp only [bootFail, hA0, hcount, show get s R.AON_BOOT_CNT_COUNT + 1 < 3 ↔ get s R.AON_BOOT_CNT_COUNT < 2 by omega]
  rfl

/-! ## An attempt (R522, R523) -/

/-- An image that passed every check, loaded: configuration, patches, self-tests, cores. -/
def imageLoaded (s : State) (i : List Byte) (tests : List (Nat × Word32)) (b0 b1 : Bool) : State :=
  let u := startCores (bootTests (loadPatch (loadConfig s i) i) tests) b0 b1
  { u with sup := { u.sup with loaded := true } }

section
variable {s : State} {flash : Option (List Byte)} {c : BootCrypto} {trained b0 b1 : Bool} {tests : List (Nat × Word32)}

theorem exec_bootAttempt (key : Option (Fin 4)) (sig gcm : Bool) : exec (.bootAttempt flash key sig gcm trained b0 b1 tests) s =
    .next (bootAttempt s flash { key := key.map (·.val), sig := sig, gcm := gcm } trained b0 b1 tests) := rfl

theorem bootAttempt_flash {i : List Byte} (hb : booting s = true) (hsrc : bootSource s = 0) (hf : flash = some i) :
    bootAttempt s flash c trained b0 b1 tests =
      if imageCode (put s R.AON_BOOT_STAT_SRC 0) i none c trained b0 b1 = 0 then imageLoaded (put s R.AON_BOOT_STAT_SRC 0) i tests b0 b1
      else bootFail (put s R.AON_BOOT_STAT_SRC 0) (imageCode (put s R.AON_BOOT_STAT_SRC 0) i none c trained b0 b1) := by
  rcases hk : imageCode (put s R.AON_BOOT_STAT_SRC 0) i none c trained b0 b1 with _ | k
  · simp [bootAttempt, hb, hsrc, hf, hk, imageLoaded]
  · simp [bootAttempt, hb, hsrc, hf, hk]

theorem bootAttempt_noFlash (hb : booting s = true) (hsrc : bootSource s = 0) :
    bootAttempt s none c trained b0 b1 tests = bootFail (put s R.AON_BOOT_STAT_SRC 0) 12 := by
  simp [bootAttempt, hb, hsrc]

theorem bootAttempt_host {k : Nat} (hb : booting s = true) (hsrc : bootSource s = 1) (hg : s.sup.given = true)
    (hk : imageCode (put s R.AON_BOOT_STAT_SRC 1) s.sup.image (some (get s R.AON_BOOT_LEN_BYTES)) c trained b0 b1 = k) :
    bootAttempt s flash c trained b0 b1 tests = if k = 0 then imageLoaded (put s R.AON_BOOT_STAT_SRC 1) s.sup.image tests b0 b1
      else bootFail (put s R.AON_BOOT_STAT_SRC 1) k := by
  have hlen : get (put s R.AON_BOOT_STAT_SRC 1) R.AON_BOOT_LEN_BYTES = get s R.AON_BOOT_LEN_BYTES := get_put_other _ _ (by decide)
  rcases k with _ | k
  · simp [bootAttempt, hb, hsrc, hg, hlen, hk, imageLoaded]
  · simp [bootAttempt, hb, hsrc, hg, hlen, hk]

theorem bootAttempt_waits (hsrc : bootSource s = 1) (hg : s.sup.given = false) :
    bootAttempt s flash c trained b0 b1 tests = s := by
  simp [bootAttempt, hsrc, hg]

theorem bootAttempt_reserved (hb : booting s = true) (hsrc : 2 ≤ bootSource s) :
    bootAttempt s flash c trained b0 b1 tests = bootFail (put s R.AON_BOOT_STAT_SRC (bootSource s)) 11 := by
  have : bootSource s ≠ 1 := by omega
  simp [bootAttempt, hb, hsrc, this]

end

/-! ## The commands of start-up -/

/-- No image is loaded, and BOOT is the mode, while an attempt is in progress. -/
theorem booting_false_of_mode {s : State} (h : modeOf s ≠ modeBOOT) : booting s = false := by
  simp [booting, h]

theorem hostImage_false_of_mode {s : State} (h : modeOf s ≠ modeBOOT) : hostImage s = false := by
  simp [hostImage, booting_false_of_mode h]

theorem exec_bootTimeout {s : State} {a t : Nat} (hheld : s.sup.held = false) (hmode : modeOf s = modeBOOT) (hhost : hostImage s = false)
    (htry : s.sup.tryAt = some a) (ht : 2000 * msCycles + a ≤ t) :
    exec (.bootTimeout t) s = .next (bootFail (put s R.AON_BOOT_STAT_SRC (bootSource s)) 10) := by
  change execBootTimeout t s = _
  simp [execBootTimeout, htry, hheld, hmode, hhost, ht]

theorem exec_aonBootData {s : State} (v : Word32) (hhost : hostImage s = true) (hlen : s.sup.image.length < get s R.AON_BOOT_LEN_BYTES) :
    exec (.aonBootData v) s = .next { s with sup := { s.sup with image := s.sup.image ++ leBytes 4 v.toNat } } := by
  change execAonBootData v s = _
  rw [execAonBootData, if_pos (by simp [hhost, hlen])]

theorem aonAnswers_of {s : State} (hheld : s.sup.held = false) (hmode : modeOf s ≠ modeDORMANT) : aonAnswers s = true := by
  simp [aonAnswers, hheld, hmode]

theorem exec_aonBootGo {s : State} {v : Word32} (t : Nat) (ha : aonAnswers s = true) (hgo : bitAt v.toNat 8 = true)
    (hretry : bitAt v.toNat 4 = false) : exec (.aonBootGo ⟨v, t⟩) s = .next (bootCtlStore (bootGo s t) v.toNat) := by
  change execAonBootGo ⟨v, t⟩ s = _
  rw [execAonBootGo, if_pos ⟨ha, hgo⟩]
  simp [bootCtl, hgo, hretry]

theorem exec_aonBootRetry {s : State} {v : Word32} (ha : aonAnswers s = true) (hretry : bitAt v.toNat 4 = true)
    (hgo : bitAt v.toNat 8 = true → hostImage s = false) :
    exec (.aonBootRetry v) s = .next (bootRetry (bootCtlStore s v.toNat)) := by
  change execAonBootRetry v s = _
  rw [execAonBootRetry, if_pos ⟨ha, hretry⟩]
  have hstay : (if bitAt v.toNat 8 = true then bootGo s s.clk else s) = s := by
    split
    · rw [bootGo, if_neg (by simp [hgo ‹_›])]
    · rfl
  simp [bootCtl, hstay, hretry]

/-- The stored bits of AON_BOOT_CTL leave the mode. -/
theorem modeOf_bootCtlStore (s : State) (v : Nat) : modeOf (bootCtlStore s v) = modeOf s := by
  rw [modeOf, bootCtlStore, get_put_other _ _ (by decide), get_put_other _ _ (by decide), modeOf]

theorem exec_b0Ready {s : State} (t : Nat) (hl : s.sup.loaded = true) (hm : modeOf s = modeBOOT) :
    exec (.b0Ready t) s =
      let u := put (setMode (stamp s t) modeIDLE 4) R.AON_BOOT_CNT_COUNT 0
      let w := put { u with sup := { u.sup with ready := true, lanyAt := t, tryAt := none, beat := [some t, some t] } } R.FLT_BLY_STAT_HEALTHY 1
      .next (raiseAll w srcModeChanged) := by
  change execB0Ready t s = _
  rw [execB0Ready, bootReady, if_neg (by simp [booting, hl, hm])]
  rfl

end Sys2Proof.Machine

open Sys2Proof Sys2Proof.Machine

/-- Settles O17: an attempt loads its image or fails with a code, and a failure is a warm reset or, the third time, BARE. -/
theorem bootAttemptsLoadOrFailAsStated : Obligations.BootAttemptsLoadOrFailAsStated := by
  unfold Obligations.BootAttemptsLoadOrFailAsStated
  refine ⟨fun s flash key sig gcm trained b0 b1 tests hb => ⟨fun i hsrc hf => ?_, fun hsrc hf => ?_, fun hsrc hg => ?_, fun hsrc hg => ?_,
      fun hsrc => ?_⟩, fun s a t hheld hmode hhost htry ht => ?_, fun s v => exec_aonBootData v,
    fun s v t hheld hmode => ⟨fun hgo hretry hhost => ?_, fun hgo hretry hhost => ?_, fun hretry hbare => ?_, fun hretry hgo hbare => ?_⟩,
    fun s t => exec_b0Ready t⟩
  · rw [exec_bootAttempt, bootAttempt_flash hb hsrc hf, bootFail_eq]; rfl
  · rw [exec_bootAttempt, hf, bootAttempt_noFlash hb hsrc, bootFail_eq]; rfl
  · rw [exec_bootAttempt, bootAttempt_host hb hsrc hg rfl, bootFail_eq]; rfl
  · rw [exec_bootAttempt, bootAttempt_waits hsrc hg]
  · rw [exec_bootAttempt, bootAttempt_reserved hb hsrc, bootFail_eq]; rfl
  · rw [exec_bootTimeout hheld hmode hhost htry ht, bootFail_eq]; rfl
  · rw [exec_aonBootGo t (aonAnswers_of hheld hmode) hgo hretry, bootGo, if_pos hhost]; rfl
  · rw [exec_aonBootGo t (aonAnswers_of hheld hmode) hgo hretry, bootGo, if_neg (Bool.eq_false_iff.1 hhost)]; rfl
  · have hhost : hostImage s = false := hostImage_false_of_mode (by rw [hbare]; decide)
    rw [exec_aonBootRetry (aonAnswers_of hheld hmode) hretry fun _ => hhost, bootRetry, if_pos (by rw [modeOf_bootCtlStore, hbare])]; rfl
  · have hother : modeOf (bootCtlStore s v.toNat) ≠ modeBARE := hbare
    rw [exec_aonBootRetry (aonAnswers_of hheld hmode) hretry fun h => by simp [hgo] at h, bootRetry, if_neg hother]; rfl

end

section
/-! A warm reset and a cell that holds more than its field (R514, R239). Refutes O16. -/

namespace Sys2Proof.Machine

/-- State.reset, but for STR_QUAR_MASK: its one cell, of the field's own scope, holds the 19-bit value 2^18 + 1 in an 18-bit field. No
write leaves such a cell, but the statement is about every state. -/
def wideMask : State :=
  { State.reset with regs := [{ key := fldKey R.STR_QUAR_MASK_MASK, scope := .cold, val := 2 ^ 18 + 1 }] }

theorem get_wideMask : get wideMask R.STR_QUAR_MASK_MASK = 2 ^ 18 + 1 := by decide

/-- Strand 0 is in the mask, so the warm reset quarantines it and with that writes the mask again, cut to its 18 bits. -/
theorem get_warmReset_wideMask : get (warmReset wideMask 3) R.STR_QUAR_MASK_MASK = 1 := by decide +kernel

theorem exec_aonRstCtl_wideMask : exec (.aonRstCtl 0xA55A) wideMask = .next (warmReset wideMask 3) := rfl

end Sys2Proof.Machine

open Sys2Proof Sys2Proof.Machine

/-- Refutes O16: where STR_QUAR_MASK, a field of cold scope, holds more than its 18 bits, the warm reset changes it. The statement
lacks the premise that each cell's value fits its field. -/
theorem not_warmResetKeepsOnlyColdScope : ¬ Obligations.WarmResetKeepsOnlyColdScope := by
  unfold Obligations.WarmResetKeepsOnlyColdScope
  intro h
  obtain ⟨⟨t, ht, hkept, -⟩, -⟩ := h wideMask rfl (by decide)
  rw [exec_aonRstCtl_wideMask, Host.Outcome.next.injEq] at ht
  have hscope : ∀ c ∈ wideMask.regs, c.key = fldKey R.STR_QUAR_MASK_MASK → c.scope = R.STR_QUAR_MASK_MASK.scope := by decide
  have hmask : get t R.STR_QUAR_MASK_MASK = get wideMask R.STR_QUAR_MASK_MASK :=
    hkept R.STR_QUAR_MASK_MASK hscope (by decide) (by decide) (by decide) (by decide) (.inr (by decide))
  rw [← ht, get_warmReset_wideMask, get_wideMask] at hmask
  omega

end

section
/-! The tick number (R29): what a boundary leaves of it, and the commands that leave it alone. Settles O7. -/

namespace Sys2Proof.Machine

theorem bootCtl_tickNo {v : Nat} (s : State) (t : Nat) (hretry : bitAt v 4 = false) : (bootCtl s v t).tick.no = s.tick.no := by
  unfold bootCtl
  rw [if_neg (Bool.eq_false_iff.1 hretry), bootCtlStore_tickNo]
  exact ite_tickNo (bootGo_tickNo s t) rfl

theorem execAonBootGo_tickNo {x : Timed Word32} {s t : State} (hretry : bitAt x.val.toNat 4 = false)
    (h : execAonBootGo x s = .next t) : t.tick.no = s.tick.no := by
  cases h
  exact ite_tickNo (bootCtl_tickNo s x.t hretry) rfl

theorem testEnable_low_tickNo (s : State) : (testEnable s false).tick.no = s.tick.no := rfl

/-- A write at the test pads resets nothing where it does not raise TEST_EN (R547). -/
theorem testWrite_tickNo {x : TestPad} {v : Word32} (s : State) (hm : movesTick (.registerWrite (.test x) v) = false) :
    (testWrite s x v.toNat).tick.no = s.tick.no := by
  cases x with
  | load i => rfl
  | data k => exact ite_tickNo rfl rfl
  | reset => exact tapReset_tickNo s
  | enable =>
    have hlow : bitAt v.toNat 0 = false := hm
    rw [testWrite, hlow, testEnable_low_tickNo]

theorem execRegisterWrite_tickNo {a : RegAddr} {v : Word32} {s t : State} (hm : movesTick (.registerWrite a v) = false)
    (h : execRegisterWrite a v s = .next t) : t.tick.no = s.tick.no := by
  cases a with
  | bar0 off => exact (finSettle_tickNo _ _ h).trans (busWrite_tickNo ..)
  | window p off => exact (finSettle_tickNo _ _ h).trans (busWrite_tickNo ..)
  | config p r => exact (finSettle_tickNo _ _ h).trans (ite_tickNo (cfgWrite_tickNo ..) rfl)
  | test x => exact (finSettle_tickNo _ _ h).trans (testWrite_tickNo s hm)

/-- No command beside tick events and resets (movesTick) changes the tick number: what each of them is made of leaves it alone. -/
theorem exec_tickNo {c : Instr} {s t : State} (hm : movesTick c = false) (h : exec c s = .next t) : t.tick.no = s.tick.no := by
  cases c with
  | freeRunTick | tickInEdge | holdoverTick | genlockTick | powerOn | resetNAssert | aonBrownOut | aonRstCtl | aonBootRetry
  | bootAttempt | bootTimeout | wakeNFall | perstNRise | wakeTimerExpiry =>
    exact Bool.noConfusion hm
  | accessSizeError => exact execAccessSizeError_tickNo (ht' := h)
  | accessUnmapped => exact execAccessUnmapped_tickNo (ht' := h)
  | registerWrite a v => exact execRegisterWrite_tickNo hm h
  | readClear => exact execReadClear_tickNo (ht' := h)
  | internalResetRelease => exact execInternalResetRelease_tickNo (ht' := h)
  | supplyOor => exact execSupplyOor_tickNo (ht' := h)
  | clkFail => exact execClkFail_tickNo (ht' := h)
  | aonBootData => exact execAonBootData_tickNo (ht' := h)
  | aonBootGo => exact execAonBootGo_tickNo hm h
  | b0Ready => exact execB0Ready_tickNo (ht' := h)
  | clockGate => exact execClockGate_tickNo (ht' := h)
  | blockWake => exact execBlockWake_tickNo (ht' := h)
  | thermalHot => exact execThermalHot_tickNo (ht' := h)
  | thermalCrit => exact execThermalCrit_tickNo (ht' := h)
  | hostLinkDown => exact execHostLinkDown_tickNo (ht' := h)
  | genlockEdge => exact execGenlockEdge_tickNo (ht' := h)
  | genlockEdgeMissing => exact execGenlockEdgeMissing_tickNo (ht' := h)
  | tickRateDenWrite => exact execTickRateDenWrite_tickNo (ht' := h)
  | tickNoLoad => exact execTickNoLoad_tickNo (ht' := h)
  | tickNoLoRead => exact execTickNoLoRead_tickNo (ht' := h)
  | tickNoHiRead => exact execTickNoHiRead_tickNo (ht' := h)
  | tickAdmLimitWrite => exact execTickAdmLimitWrite_tickNo (ht' := h)
  | admission => exact execAdmission_tickNo (ht' := h)
  | modeRequest => exact execModeRequest_tickNo (ht' := h)
  | csi2FrameStart => exact execCsi2FrameStart_tickNo (ht' := h)
  | csi2FrameEnd => exact execCsi2FrameEnd_tickNo (ht' := h)
  | csi2LongPacket => exact execCsi2LongPacket_tickNo (ht' := h)
  | csi2ShortPacketIgnored => exact execCsi2ShortPacketIgnored_tickNo (ht' := h)
  | csi2PacketDiscarded => exact execCsi2PacketDiscarded_tickNo (ht' := h)
  | fifoDrain => exact execFifoDrain_tickNo (ht' := h)
  | lockedRegisterWrite => exact execLockedRegisterWrite_tickNo (ht' := h)
  | stagedRegisterWrite => exact execStagedRegisterWrite_tickNo (ht' := h)
  | lutDataWrite => exact execLutDataWrite_tickNo (ht' := h)
  | viewFrameDone => exact execViewFrameDone_tickNo (ht' := h)
  | moFrameStart => exact execMoFrameStart_tickNo (ht' := h)
  | quantumExpiry => exact execQuantumExpiry_tickNo (ht' := h)
  | storeBufferDrain => exact execStoreBufferDrain_tickNo (ht' := h)
  | add => exact execAdd_tickNo (ht' := h)
  | sub => exact execSub_tickNo (ht' := h)
  | and => exact execAnd_tickNo (ht' := h)
  | or => exact execOr_tickNo (ht' := h)
  | xor => exact execXor_tickNo (ht' := h)
  | shl => exact execShl_tickNo (ht' := h)
  | shr => exact execShr_tickNo (ht' := h)
  | sar => exact execSar_tickNo (ht' := h)
  | slt => exact execSlt_tickNo (ht' := h)
  | sltu => exact execSltu_tickNo (ht' := h)
  | mul => exact execMul_tickNo (ht' := h)
  | mulhu => exact execMulhu_tickNo (ht' := h)
  | min => exact execMin_tickNo (ht' := h)
  | max => exact execMax_tickNo (ht' := h)
  | minu => exact execMinu_tickNo (ht' := h)
  | maxu => exact execMaxu_tickNo (ht' := h)
  | sextb => exact execSextb_tickNo (ht' := h)
  | sexth => exact execSexth_tickNo (ht' := h)
  | sextw => exact execSextw_tickNo (ht' := h)
  | zextw => exact execZextw_tickNo (ht' := h)
  | jr => exact execJr_tickNo (ht' := h)
  | clz => exact execClz_tickNo (ht' := h)
  | addi => exact execAddi_tickNo (ht' := h)
  | andi => exact execAndi_tickNo (ht' := h)
  | ori => exact execOri_tickNo (ht' := h)
  | xori => exact execXori_tickNo (ht' := h)
  | slti => exact execSlti_tickNo (ht' := h)
  | sltiu => exact execSltiu_tickNo (ht' := h)
  | lui => exact execLui_tickNo (ht' := h)
  | rds => exact execRds_tickNo (ht' := h)
  | shli => exact execShli_tickNo (ht' := h)
  | shri => exact execShri_tickNo (ht' := h)
  | sari => exact execSari_tickNo (ht' := h)
  | ld => exact execLd_tickNo (ht' := h)
  | st => exact execSt_tickNo (ht' := h)
  | ldw => exact execLdw_tickNo (ht' := h)
  | stw => exact execStw_tickNo (ht' := h)
  | amoadd => exact execAmoadd_tickNo (ht' := h)
  | amoswap => exact execAmoswap_tickNo (ht' := h)
  | cas => exact execCas_tickNo (ht' := h)
  | fence => exact execFence_tickNo (ht' := h)
  | beqz => exact execBeqz_tickNo (ht' := h)
  | bnez => exact execBnez_tickNo (ht' := h)
  | bltz => exact execBltz_tickNo (ht' := h)
  | bgez => exact execBgez_tickNo (ht' := h)
  | bgtz => exact execBgtz_tickNo (ht' := h)
  | blez => exact execBlez_tickNo (ht' := h)
  | jal => exact execJal_tickNo (ht' := h)
  | issue => exact execIssue_tickNo (ht' := h)
  | move => exact execMove_tickNo (ht' := h)
  | spool => exact execSpool_tickNo (ht' := h)
  | sig => exact execSig_tickNo (ht' := h)
  | waitTick => exact execWaitTick_tickNo (ht' := h)
  | waitTag => exact execWaitTag_tickNo (ht' := h)
  | waitTimer => exact execWaitTimer_tickNo (ht' := h)
  | waitEdge => exact execWaitEdge_tickNo (ht' := h)
  | waitDoorbell => exact execWaitDoorbell_tickNo (ht' := h)
  | tsetCancel => exact execTsetCancel_tickNo (ht' := h)
  | tsetOneshot => exact execTsetOneshot_tickNo (ht' := h)
  | tsetPeriodic => exact execTsetPeriodic_tickNo (ht' := h)
  | tsetTickOneshot => exact execTsetTickOneshot_tickNo (ht' := h)
  | tsetTickPeriodic => exact execTsetTickPeriodic_tickNo (ht' := h)
  | tgetNs => exact execTgetNs_tickNo (ht' := h)
  | tgetPending => exact execTgetPending_tickNo (ht' := h)
  | tgetLost => exact execTgetLost_tickNo (ht' := h)
  | earmArm => exact execEarmArm_tickNo (ht' := h)
  | earmDisarm => exact execEarmDisarm_tickNo (ht' := h)
  | halt => exact execHalt_tickNo (ht' := h)
  | timerExpiry => exact execTimerExpiry_tickNo (ht' := h)
  | edgeCapture => exact execEdgeCapture_tickNo (ht' := h)
  | programDoorbell => exact execProgramDoorbell_tickNo (ht' := h)
  | jobStart => exact execJobStart_tickNo (ht' := h)
  | encRow => exact execEncRow_tickNo (ht' := h)
  | decRow => exact execDecRow_tickNo (ht' := h)
  | echoJob => exact execEchoJob_tickNo (ht' := h)
  | loadctx => exact execLoadctx_tickNo (ht' := h)
  | savectx => exact execSavectx_tickNo (ht' := h)
  | selftest => exact execSelftest_tickNo (ht' := h)
  | custom => exact execCustom_tickNo (ht' := h)
  | uAdd => exact execUAdd_tickNo (ht' := h)
  | uSub => exact execUSub_tickNo (ht' := h)
  | uAnd => exact execUAnd_tickNo (ht' := h)
  | uOr => exact execUOr_tickNo (ht' := h)
  | uXor => exact execUXor_tickNo (ht' := h)
  | uShl => exact execUShl_tickNo (ht' := h)
  | uShr => exact execUShr_tickNo (ht' := h)
  | uSar => exact execUSar_tickNo (ht' := h)
  | uMul => exact execUMul_tickNo (ht' := h)
  | uMin => exact execUMin_tickNo (ht' := h)
  | uMax => exact execUMax_tickNo (ht' := h)
  | uLi => exact execULi_tickNo (ht' := h)
  | uLui => exact execULui_tickNo (ht' := h)
  | uAddi => exact execUAddi_tickNo (ht' := h)
  | uCmp => exact execUCmp_tickNo (ht' := h)
  | uLd => exact execULd_tickNo (ht' := h)
  | uSt => exact execUSt_tickNo (ht' := h)
  | uLdh => exact execULdh_tickNo (ht' := h)
  | uSth => exact execUSth_tickNo (ht' := h)
  | uBranch => exact execUBranch_tickNo (ht' := h)
  | uWaitCond => exact execUWaitCond_tickNo (ht' := h)
  | uDispatch => exact execUDispatch_tickNo (ht' := h)
  | uCall => exact execUCall_tickNo (ht' := h)
  | uReturn => exact execUReturn_tickNo (ht' := h)
  | uCommit => exact execUCommit_tickNo (ht' := h)
  | rowCommit => exact execRowCommit_tickNo (ht' := h)
  | echoCheckDone => exact execEchoCheckDone_tickNo (ht' := h)
  | noCommitTimeout => exact execNoCommitTimeout_tickNo (ht' := h)
  | strandSramUe => exact execStrandSramUe_tickNo (ht' := h)
  | controlStoreUe => exact execControlStoreUe_tickNo (ht' := h)
  | customTimeout => exact execCustomTimeout_tickNo (ht' := h)
  | splice => exact execSplice_tickNo (ht' := h)
  | spareRestore => exact execSpareRestore_tickNo (ht' := h)
  | selftestDone => exact execSelftestDone_tickNo (ht' := h)
  | spareSelftestTimer => exact execSpareSelftestTimer_tickNo (ht' := h)
  | strReset => exact execStrReset_tickNo (ht' := h)
  | strQuarSet => exact execStrQuarSet_tickNo (ht' := h)
  | strReadmit => exact execStrReadmit_tickNo (ht' := h)
  | strTestReq => exact execStrTestReq_tickNo (ht' := h)
  | strPoolWrite => exact execStrPoolWrite_tickNo (ht' := h)
  | osData2Write => exact execOsData2Write_tickNo (ht' := h)
  | install => exact execInstall_tickNo (ht' := h)
  | installImageLoaded => exact execInstallImageLoaded_tickNo (ht' := h)
  | swap => exact execSwap_tickNo (ht' := h)
  | restart => exact execRestart_tickNo (ht' := h)
  | nop => exact execNop_tickNo (ht' := h)
  | seqMigReq => exact execSeqMigReq_tickNo (ht' := h)
  | seqOnlineRequest => exact execSeqOnlineRequest_tickNo (ht' := h)
  | seqTestReq => exact execSeqTestReq_tickNo (ht' := h)
  | seqTestDone => exact execSeqTestDone_tickNo (ht' := h)
  | sqDoorbell => exact execSqDoorbell_tickNo (ht' := h)
  | ringService => exact execRingService_tickNo (ht' := h)
  | sqEnable => exact execSqEnable_tickNo (ht' := h)
  | sqDisable => exact execSqDisable_tickNo (ht' := h)
  | cqEnable => exact execCqEnable_tickNo (ht' := h)
  | cqDisable => exact execCqDisable_tickNo (ht' := h)
  | cqHeadWrite => exact execCqHeadWrite_tickNo (ht' := h)
  | hubRaise => exact execHubRaise_tickNo (ht' := h)
  | hubPendSet => exact execHubPendSet_tickNo (ht' := h)
  | hubPendClr => exact execHubPendClr_tickNo (ht' := h)
  | hubMaskSet => exact execHubMaskSet_tickNo (ht' := h)
  | hubMaskClr => exact execHubMaskClr_tickNo (ht' := h)
  | hubAssign => exact execHubAssign_tickNo (ht' := h)
  | hubClaim => exact execHubClaim_tickNo (ht' := h)
  | hubEoi => exact execHubEoi_tickNo (ht' := h)
  | hubRouteWrite => exact execHubRouteWrite_tickNo (ht' := h)
  | hubTgtCtlWrite => exact execHubTgtCtlWrite_tickNo (ht' := h)
  | seqTargetClaim => exact execSeqTargetClaim_tickNo (ht' := h)
  | belayClaim => exact execBelayClaim_tickNo (ht' := h)
  | msixVectorUnmask => exact execMsixVectorUnmask_tickNo (ht' := h)
  | pwHubRaise => exact execPwHubRaise_tickNo (ht' := h)
  | pwHubPendClr => exact execPwHubPendClr_tickNo (ht' := h)
  | pwHubMaskSet => exact execPwHubMaskSet_tickNo (ht' := h)
  | pwHubMaskClr => exact execPwHubMaskClr_tickNo (ht' := h)
  | pwHubClaim => exact execPwHubClaim_tickNo (ht' := h)
  | pwHubEoi => exact execPwHubEoi_tickNo (ht' := h)
  | walkReadDone => exact execWalkReadDone_tickNo (ht' := h)
  | iomInvCmd => exact execIomInvCmd_tickNo (ht' := h)
  | invalidationDone => exact execInvalidationDone_tickNo (ht' := h)
  | iomRootWrite => exact execIomRootWrite_tickNo (ht' := h)
  | pwFqPop => exact execPwFqPop_tickNo (ht' := h)
  | prtFsSizeWrite => exact execPrtFsSizeWrite_tickNo (ht' := h)
  | prtSsmWrite => exact execPrtSsmWrite_tickNo (ht' := h)
  | prtShareWrite => exact execPrtShareWrite_tickNo (ht' := h)
  | prtPreset => exact execPrtPreset_tickNo (ht' := h)
  | functionLevelReset => exact execFunctionLevelReset_tickNo (ht' := h)
  | vfEnableClear => exact execVfEnableClear_tickNo (ht' := h)
  | mvStart => exact execMvStart_tickNo (ht' := h)
  | mvStop => exact execMvStop_tickNo (ht' := h)
  | poolAlloc => exact execPoolAlloc_tickNo (ht' := h)
  | poolRelease => exact execPoolRelease_tickNo (ht' := h)
  | mvMove => exact execMvMove_tickNo (ht' := h)
  | mvLoop => exact execMvLoop_tickNo (ht' := h)
  | mvWaitTick => exact execMvWaitTick_tickNo (ht' := h)
  | mvWaitSsm => exact execMvWaitSsm_tickNo (ht' := h)
  | mvWaitTimeout => exact execMvWaitTimeout_tickNo (ht' := h)
  | mvSignal => exact execMvSignal_tickNo (ht' := h)
  | moverBusError => exact execMoverBusError_tickNo (ht' := h)
  | movRestart => exact execMovRestart_tickNo (ht' := h)
  | movRestartDone => exact execMovRestartDone_tickNo (ht' := h)
  | poolInit => exact execPoolInit_tickNo (ht' := h)
  | poolInitDone => exact execPoolInitDone_tickNo (ht' := h)
  | poolAllocate => exact execPoolAllocate_tickNo (ht' := h)
  | poolIncrement => exact execPoolIncrement_tickNo (ht' := h)
  | poolDecrement => exact execPoolDecrement_tickNo (ht' := h)
  | dramRequestDone => exact execDramRequestDone_tickNo (ht' := h)
  | urgencyEscalate => exact execUrgencyEscalate_tickNo (ht' := h)
  | refreshDue => exact execRefreshDue_tickNo (ht' := h)
  | dqsTracking => exact execDqsTracking_tickNo (ht' := h)
  | mr4Read => exact execMr4Read_tickNo (ht' := h)
  | drcFreqSet => exact execDrcFreqSet_tickNo (ht' := h)
  | drcFreqForce => exact execDrcFreqForce_tickNo (ht' := h)
  | drcFreqCancel => exact execDrcFreqCancel_tickNo (ht' := h)
  | freqChangeDone => exact execFreqChangeDone_tickNo (ht' := h)
  | drcTrain => exact execDrcTrain_tickNo (ht' := h)
  | trainingDone => exact execTrainingDone_tickNo (ht' := h)
  | drcPortTgtWrite => exact execDrcPortTgtWrite_tickNo (ht' := h)
  | drcTsetWrite => exact execDrcTsetWrite_tickNo (ht' := h)
  | magOpen => exact execMagOpen_tickNo (ht' := h)
  | magClose => exact execMagClose_tickNo (ht' := h)
  | magFormat => exact execMagFormat_tickNo (ht' := h)
  | hostioRead => exact execHostioRead_tickNo (ht' := h)
  | hostioWrite => exact execHostioWrite_tickNo (ht' := h)
  | writeFrame => exact execWriteFrame_tickNo (ht' := h)
  | discard => exact execDiscard_tickNo (ht' := h)
  | readFrame => exact execReadFrame_tickNo (ht' := h)
  | readBlocks => exact execReadBlocks_tickNo (ht' := h)
  | trim => exact execTrim_tickNo (ht' := h)
  | schedulerSlot => exact execSchedulerSlot_tickNo (ht' := h)
  | nvmeCompletion => exact execNvmeCompletion_tickNo (ht' := h)
  | nvmeCommandTimeout => exact execNvmeCommandTimeout_tickNo (ht' := h)
  | abortTimeout => exact execAbortTimeout_tickNo (ht' := h)
  | smartPoll => exact execSmartPoll_tickNo (ht' := h)
  | magLinkDown => exact execMagLinkDown_tickNo (ht' := h)
  | linkRetrain => exact execLinkRetrain_tickNo (ht' := h)
  | magLinkUp => exact execMagLinkUp_tickNo (ht' := h)
  | holdWindowExpiry => exact execHoldWindowExpiry_tickNo (ht' := h)
  | magDropRequest => exact execMagDropRequest_tickNo (ht' := h)
  | magQShapeWrite => exact execMagQShapeWrite_tickNo (ht' := h)
  | magQBurstWrite => exact execMagQBurstWrite_tickNo (ht' := h)
  | presenceAssert => exact execPresenceAssert_tickNo (ht' := h)
  | presenceRemove => exact execPresenceRemove_tickNo (ht' := h)
  | sbdCtlWrite => exact execSbdCtlWrite_tickNo (ht' := h)
  | sbdI2cDone => exact execSbdI2cDone_tickNo (ht' := h)
  | sbdI2cRetry => exact execSbdI2cRetry_tickNo (ht' := h)
  | gaugeEvaluate => exact execGaugeEvaluate_tickNo (ht' := h)
  | gaugeRestComplete => exact execGaugeRestComplete_tickNo (ht' := h)
  | labelGo => exact execLabelGo_tickNo (ht' := h)
  | labelBusyPoll => exact execLabelBusyPoll_tickNo (ht' := h)
  | fltStatClear => exact execFltStatClear_tickNo (ht' := h)
  | fltForce => exact execFltForce_tickNo (ht' := h)
  | injArmFirst => exact execInjArmFirst_tickNo (ht' := h)
  | injArmSecond => exact execInjArmSecond_tickNo (ht' := h)
  | injDisarm => exact execInjDisarm_tickNo (ht' := h)
  | injArmTimeout => exact execInjArmTimeout_tickNo (ht' := h)
  | injUnit => exact execInjUnit_tickNo (ht' := h)
  | injReorderTimeout => exact execInjReorderTimeout_tickNo (ht' := h)
  | belayHeartbeat => exact execBelayHeartbeat_tickNo (ht' := h)
  | belaySilent => exact execBelaySilent_tickNo (ht' := h)
  | belayResetDone => exact execBelayResetDone_tickNo (ht' := h)
  | belayResetTimeout => exact execBelayResetTimeout_tickNo (ht' := h)
  | belaySwitch => exact execBelaySwitch_tickNo (ht' := h)
  | belayTest => exact execBelayTest_tickNo (ht' := h)
  | belayTestDone => exact execBelayTestDone_tickNo (ht' := h)
  | belayResetRequest => exact execBelayResetRequest_tickNo (ht' := h)
  | anchorAct => exact execAnchorAct_tickNo (ht' := h)
  | anchorAbortTimeout => exact execAnchorAbortTimeout_tickNo (ht' := h)
  | lanyardToggle => exact execLanyardToggle_tickNo (ht' := h)
  | pinGlCfgWrite => exact execPinGlCfgWrite_tickNo (ht' := h)
  | pinGlStageWrite => exact execPinGlStageWrite_tickNo (ht' := h)
  | switchSettleEnd => exact execSwitchSettleEnd_tickNo (ht' := h)
  | pinGlOwnerWrite => exact execPinGlOwnerWrite_tickNo (ht' := h)
  | pinLtcCtlWrite => exact execPinLtcCtlWrite_tickNo (ht' := h)
  | syncOutPulseEnd => exact execSyncOutPulseEnd_tickNo (ht' := h)
  | tickOutFall => exact execTickOutFall_tickNo (ht' := h)
  | ltcRxFrame => exact execLtcRxFrame_tickNo (ht' := h)
  | ltcTxFrameTimer => exact execLtcTxFrameTimer_tickNo (ht' := h)
  | uartRxByte => exact execUartRxByte_tickNo (ht' := h)
  | uartTxByte => exact execUartTxByte_tickNo (ht' := h)
  | pinUartDataWrite => exact execPinUartDataWrite_tickNo (ht' := h)
  | pinUartDataRead => exact execPinUartDataRead_tickNo (ht' := h)
  | pinI2cCmd => exact execPinI2cCmd_tickNo (ht' := h)
  | auxI2cDone => exact execAuxI2cDone_tickNo (ht' := h)
  | hostLinkUp => exact execHostLinkUp_tickNo (ht' := h)
  | junctionBelow100c => exact execJunctionBelow100c_tickNo (ht' := h)
  | railInRange => exact execRailInRange_tickNo (ht' := h)
  | clockRestored => exact execClockRestored_tickNo (ht' := h)
  | vfEnableSet => exact execVfEnableSet_tickNo (ht' := h)
  | cstsCfsSet => exact execCstsCfsSet_tickNo (ht' := h)
  | cstsRdySet => exact execCstsRdySet_tickNo (ht' := h)
  | cstsRdyTimeout => exact execCstsRdyTimeout_tickNo (ht' := h)
  | gaugeSample => exact execGaugeSample_tickNo (ht' := h)
  | hostReadCompletion => exact execHostReadCompletion_tickNo (ht' := h)

end Sys2Proof.Machine

open Sys2Proof Sys2Proof.Machine

/-- Settles O7: each command's meaning is made of operations that leave the tick number alone, but for tick events and resets. -/
theorem onlyTickEventsAndResetsMoveTheTickNumber : Obligations.OnlyTickEventsAndResetsMoveTheTickNumber := by
  unfold Obligations.OnlyTickEventsAndResetsMoveTheTickNumber
  exact fun _ _ _ => exec_tickNo

end

section
/-! The commands of the tick (R20 to R34): register accesses, reference edges, and when a tick event falls. Settles O20 to O24. -/

namespace Sys2Proof.Machine

/-! ## What a boundary leaves of the tick number (R29, R30) -/

/-- Of the steps of a boundary the first gives the tick its number, and no later one changes it. -/
theorem boundary_tickNo (s : State) (t : Nat) : (boundary s t).tick.no = (tickNumber s t).tick.no := by
  simp only [boundary, frameStep_tickNo, moversStep_tickNo, resumeStep_tickNo, raiseAll_tickNo, belayLate_tickNo, stagedStep_tickNo,
    freqBoundary_tickNo, onlineStep_tickNo, migStart_tickNo, migResume_tickNo, policyStep_tickNo, overcommitTest_tickNo,
    haltExcluded_tickNo, pairsStep_tickNo, belayEarly_tickNo, sharesStep_tickNo, resetsStep_tickNo, judgeStep_tickNo,
    captureClose_tickNo, timersStep_tickNo, cyclesStep_tickNo, sourceCommit_tickNo, rateCommit_tickNo, pinTick_tickNo]

/-- A tick carries the preset number, or 0 as the first after reset, or one more than the tick before. -/
theorem settle_boundary_tickNo (s : State) (t : Nat) : (settle (boundary s t)).tick.no =
    s.tick.preset.getD (if s.tick.begun then (s.tick.no + 1) % 2 ^ 64 else 0) :=
  (settle_tickNo _).trans (boundary_tickNo s t)

/-! ## Registers (R30, R31, R34) -/

theorem limitsOk_iff (v : Nat) : limitsOk v = true ↔ 50 ≤ bits v 0 8 ∧ bits v 0 8 ≤ 100 ∧ 50 ≤ bits v 8 8 ∧ bits v 8 8 ≤ 100 ∧
    50 ≤ bits v 16 8 ∧ bits v 16 8 ≤ 100 := by
  simp [limitsOk, and_assoc]

theorem presetRefused_iff (s : State) : presetRefused s = true ↔
    modeOf s ∈ [modeRECRAW, modeRECBE, modeRECLG, modeRECDUAL, modePLAY, modeOFFLOAD] := by
  simp only [presetRefused, isRec, modeRECRAW, modeRECBE, modeRECLG, modeRECDUAL, modePLAY, modeOFFLOAD, Bool.or_eq_true,
    Bool.and_eq_true, decide_eq_true_eq, beq_iff_eq, List.mem_cons, List.not_mem_nil, or_false]
  omega

/-- TICK_CTL with its SRC and POL bits written. -/
def ctlStored (s : State) (v : Nat) : State := put (put s R.TICK_CTL_SRC (bits v 0 2)) R.TICK_CTL_POL (bits v 2 1)

theorem get_ctlStored (s : State) (v : Nat) {f : Fld} (hsrc : fldKey f ≠ fldKey R.TICK_CTL_SRC)
    (hpol : fldKey f ≠ fldKey R.TICK_CTL_POL) : get (ctlStored s v) f = get s f := by
  rw [ctlStored, get_put_other _ _ hpol, get_put_other _ _ hsrc]

theorem presetRefused_ctlStored (s : State) (v : Nat) : presetRefused (ctlStored s v) = presetRefused s := by
  simp only [presetRefused, modeOf, get_ctlStored s v (f := R.GLB_MODE_CUR) (by decide) (by decide)]

theorem tickCtlWrite_eq (s : State) {v : Nat} (hsrc : bits v 0 2 ≠ 3) : tickCtlWrite s v =
    if bitAt v 3 then
      if presetRefused s then put (ctlStored s v) R.TICK_STAT_REFUSED 1
      else { ctlStored s v with tick := { s.tick with preset := some (get s R.TICK_NO_SET_LO_NO + 2 ^ 32 * get s R.TICK_NO_SET_HI_NO) } }
    else ctlStored s v := by
  rw [← presetRefused_ctlStored s v, ← get_ctlStored s v (f := R.TICK_NO_SET_LO_NO) (by decide) (by decide),
    ← get_ctlStored s v (f := R.TICK_NO_SET_HI_NO) (by decide) (by decide)]
  unfold tickCtlWrite
  rw [if_neg hsrc]
  rfl

section
variable {s : State} {p : Part} (hrun : unitsRun s = true)
include hrun

theorem exec_tickAdmLimitWrite (v : Word32) : exec (.tickAdmLimitWrite v) s = .next (admLimitWrite s v.toNat) := answered_run _ hrun

theorem exec_tickNoLoad (v : Word32) : exec (.tickNoLoad v) s = .next (tickCtlWrite s v.toNat) := answered_run _ hrun

theorem exec_tickNoLoRead (hp : present s p = true) : exec (.tickNoLoRead p) s = .next (tickLoRead s p) := by
  change answered s (.next (inWindow s p (tickLoRead s p))) = _
  rw [answered_run _ hrun, inWindow, if_pos hp]

theorem exec_tickNoHiRead (hp : present s p = true) : exec (.tickNoHiRead p) s = .next (tickHiRead s p) := by
  change answered s (.next (inWindow s p (tickHiRead s p))) = _
  rw [answered_run _ hrun, inWindow, if_pos hp]

end

theorem tickHiRead_eq {s : State} {p : Nat} {l : Option Nat} (h : nth s.tick.latch p none = l) : tickHiRead s p =
    { s with rdata := l.getD (s.tick.no / 2 ^ 32), tick := { s.tick with latch := setAt s.tick.latch p none } } := by
  subst h; rfl

/-! ## Reference edges (R26, R27, R33) -/

theorem activeEdge_iff (s : State) (rise : Bool) : activeEdge s rise = true ↔ rise ≠ isSet s R.TICK_CTL_POL := by
  rw [activeEdge, bne_iff_ne, ne_comm]

/-- The state after a reference edge has been timed and its phase error recorded. -/
def edgeSeen (s : State) (err : Int) (t : Nat) : State :=
  { putInt (stamp s t) R.TICK_PHASE_ERR_ERR err with tick := { s.tick with lastRef := some t } }

theorem exec_genlockEdge {s : State} {rise : Bool} (err : Int) (t : Nat) (hsrc : sourceIs s 2 = true)
    (hrise : rise ≠ isSet s R.TICK_CTL_POL) : exec (.genlockEdge err ⟨rise, t⟩) s = .next (genlockEdge s err t) := by
  change Host.Outcome.next (if _ then _ else _) = _
  rw [if_pos ⟨hsrc, (activeEdge_iff s rise).2 hrise⟩]

theorem exec_genlockEdgeMissing {s : State} {t : Nat} (hsrc : sourceIs s 2 = true) (hmiss : refsMissing s t = true) :
    exec (.genlockEdgeMissing t) s = .next (lockLost (stamp s t)) := by
  change Host.Outcome.next (if _ then _ else _) = _
  rw [if_pos ⟨hsrc, hmiss⟩]

section
variable {s : State} {err : Int} (t : Nat)

/-- A good edge short of the sixteenth counts. -/
theorem genlockEdge_counts (herr : err.natAbs < 1000) (hn : s.tick.goodRefs + 1 < 16) : genlockEdge s err t =
    { edgeSeen s err t with tick := { s.tick with lastRef := some t, goodRefs := s.tick.goodRefs + 1 } } := by
  have hmin : min 16 (s.tick.goodRefs + 1) = s.tick.goodRefs + 1 := by omega
  unfold genlockEdge
  simp only [if_pos herr, putInt, put_tick, stamp_tick, hmin, if_neg (Nat.ne_of_lt hn)]
  rfl

/-- The sixteenth good edge in a row sets LOCKED and ends holdover. -/
theorem genlockEdge_locks (herr : err.natAbs < 1000) (hn : 15 ≤ s.tick.goodRefs) : genlockEdge s err t =
    put (put { edgeSeen s err t with tick := { s.tick with lastRef := some t, goodRefs := 16 } } R.TICK_STAT_LOCKED 1)
      R.TICK_STAT_HOLDOVER 0 := by
  have hmin : min 16 (s.tick.goodRefs + 1) = 16 := by omega
  unfold genlockEdge
  simp only [if_pos herr, putInt, put_tick, stamp_tick, hmin, if_pos trivial]
  rfl

/-- An edge that is neither good nor bad starts the count again. -/
theorem genlockEdge_restarts (hlo : 1000 ≤ err.natAbs) (hhi : err.natAbs ≤ 10000) : genlockEdge s err t =
    { edgeSeen s err t with tick := { s.tick with lastRef := some t, goodRefs := 0 } } := by
  unfold genlockEdge
  rw [if_neg (Nat.not_lt.2 hlo), if_neg (Nat.not_lt.2 hhi)]
  rfl

theorem genlockEdge_bad (hbad : 10000 < err.natAbs) : genlockEdge s err t = lockLost (edgeSeen s err t) := by
  unfold genlockEdge
  rw [if_neg (by omega), if_pos hbad]
  rfl

end

theorem lockLost_eq (s : State) : lockLost s =
    if isSet s R.TICK_STAT_LOCKED then
      put (put { s with tick := { s.tick with goodRefs := 0 } } R.TICK_STAT_LOCKED 0) R.TICK_STAT_HOLDOVER 1
    else { s with tick := { s.tick with goodRefs := 0 } } := rfl

/-- Recording a phase error leaves LOCKED. -/
theorem isSet_locked_edgeSeen (s : State) (err : Int) (t : Nat) :
    isSet (edgeSeen s err t) R.TICK_STAT_LOCKED = isSet s R.TICK_STAT_LOCKED := by
  have h : get (edgeSeen s err t) R.TICK_STAT_LOCKED = get s R.TICK_STAT_LOCKED := get_put_other (stamp s t) _ (by decide)
  rw [isSet, isSet, h]

/-! ## When a tick event falls (R22 to R27) -/

/-- The first number of crystal cycles, at least one, at which the accumulator reaches its amount. -/
theorem freeRunLeft_eq {s : State} {k : Nat} (hnum : 0 < s.tick.num) (hk : 1 ≤ k)
    (hreach : 25000000 * s.tick.den ≤ s.tick.acc + k * s.tick.num)
    (hbefore : s.tick.acc + (k - 1) * s.tick.num < 25000000 * s.tick.den) : freeRunLeft s = k := by
  obtain ⟨j, rfl⟩ : ∃ j, k = j + 1 := ⟨k - 1, by omega⟩
  rw [Nat.add_sub_cancel] at hbefore
  rw [Nat.add_one_mul j] at hreach
  have hceil : ceilDiv (25000000 * s.tick.den - s.tick.acc) s.tick.num = j + 1 := by
    refine Nat.div_eq_of_lt_le ?_ ?_
    · rw [Nat.add_one_mul j]; omega
    · rw [Nat.add_one_mul (j + 1), Nat.add_one_mul j]; omega
  rw [freeRunLeft, hceil, Nat.max_eq_right hk]

theorem exec_freeRunTick {s : State} (hsrc : sourceIs s 0 = true) : exec (.freeRunTick (freeRunDue s)) s =
    finSettle (boundary { s with tick := { s.tick with acc := freeRunAcc s, accAt := freeRunDue s } } (freeRunDue s)) :=
  if_pos ⟨hsrc, rfl⟩

theorem exec_freeRunTick_early {s : State} {t : Nat} (ht : t ≠ freeRunDue s) : exec (.freeRunTick t) s = .next s :=
  if_neg fun h => ht h.2

section
variable {s : State} {rise : Bool} {t : Nat} (d : Fin 49)

theorem exec_tickInEdge (hsrc : sourceIs s 1 = true) (hrise : rise ≠ isSet s R.TICK_CTL_POL) (ht : s.tick.last ≤ t) :
    exec (.tickInEdge ⟨rise, t⟩ d) s = finSettle (tickInEdge s t d) :=
  if_pos ⟨hsrc, (activeEdge_iff s rise).2 hrise, ht⟩

theorem exec_tickInEdge_inactive (hrise : rise = isSet s R.TICK_CTL_POL) : exec (.tickInEdge ⟨rise, t⟩ d) s = .next s :=
  if_neg fun h => (activeEdge_iff s rise).1 h.2.1 hrise

end

section
variable {s : State} {t d : Nat}

/-- In holdover, until two edges end it, an edge only counts towards the pair. -/
theorem tickInEdge_pair (hhold : isSet s R.TICK_STAT_HOLDOVER = true) (hpair : s.tick.pairOk = false) :
    tickInEdge s t d = pairEdge (stamp s t) t := by
  simp [tickInEdge, hhold, hpair]

theorem tickInEdge_free (hfree : isSet s R.TICK_STAT_HOLDOVER = false ∨ s.tick.pairOk = true) : tickInEdge s t d =
    if atLeast s (t - s.tick.last) 95 then edgeTick s (t + d) else bump (stamp s t) R.TICK_EARLY_CNT_COUNT := by
  have hcond : (isSet s R.TICK_STAT_HOLDOVER && !s.tick.pairOk) = false := by
    rcases hfree with h | h <;> simp [h]
  unfold tickInEdge
  rw [hcond, if_neg Bool.false_ne_true]
  cases atLeast s (t - s.tick.last) 95 <;> simp

theorem pairEdge_first (hlast : s.tick.lastEdge = none) :
    pairEdge (stamp s t) t = { stamp s t with tick := { s.tick with lastEdge := some t, pairOk := false } } := by
  simp only [pairEdge, stamp_tick, hlast]

theorem pairEdge_next {e : Nat} (hlast : s.tick.lastEdge = some e) : pairEdge (stamp s t) t =
    { stamp s t with tick := { s.tick with lastEdge := some t, pairOk := atLeast s (t - e) 95 && atMost s (t - e) 125 } } := by
  simp only [pairEdge, stamp_tick, hlast]
  rfl

theorem exec_holdoverTick (hdue : holdoverDue s t = true) (ht : s.tick.last ≤ t) :
    exec (.holdoverTick t) s = finSettle (holdoverTick s t) := if_pos ⟨hdue, ht⟩

theorem holdoverDue_first (hhold : isSet s R.TICK_STAT_HOLDOVER = false) (hsrc : sourceIs s 1 = true)
    (hat : about s (t - s.tick.last) 125 = true) : holdoverDue s t = true := by
  simp [holdoverDue, hhold, hsrc, hat]

theorem holdoverDue_next (hhold : isSet s R.TICK_STAT_HOLDOVER = true) (hsrc : sourceIs s 1 = true ∨ sourceIs s 2 = true)
    (hat : about s (t - s.tick.last) 100 = true) : holdoverDue s t = true := by
  simp [holdoverDue, hhold, hsrc, hat]

/-- The first generated tick begins the holdover. -/
theorem holdoverTick_first (hhold : isSet s R.TICK_STAT_HOLDOVER = false) : holdoverTick s t =
    boundary (bump { setF s R.TICK_STAT_HOLDOVER with tick := { s.tick with lastEdge := none, pairOk := false } }
      R.TICK_MISS_CNT_COUNT) t := by
  rw [holdoverTick, if_neg (Bool.eq_false_iff.1 hhold)]

theorem holdoverTick_next (hhold : isSet s R.TICK_STAT_HOLDOVER = true) :
    holdoverTick s t = boundary (bump s R.TICK_MISS_CNT_COUNT) t := by
  rw [holdoverTick, if_pos hhold]

theorem exec_genlockTick (hdue : genlockDue s t = true) (ht : s.tick.last ≤ t) : exec (.genlockTick t) s = finSettle (boundary s t) :=
  if_pos ⟨hdue, ht⟩

/-- R26: the generator aims within ±500 ppm of one nominal period after the last tick. -/
theorem genlockNext_bounds (s : State) :
    5 * s.tick.num * s.tick.last + 5997000000 * s.tick.den ≤ genlockNext s ∧
    genlockNext s ≤ 5 * s.tick.num * s.tick.last + 6003000000 * s.tick.den := by
  simp only [genlockNext, clampI]
  omega

theorem genlockDue_near (hdue : genlockDue s t = true) :
    ((5 * s.tick.num * t : Int) - genlockNext s).natAbs ≤ 240 * s.tick.num := by
  simp only [genlockDue, Bool.and_eq_true, decide_eq_true_eq] at hdue
  exact hdue.2

/-- A tick that is due lies within ±500 ppm of the nominal period, to a crystal cycle (in cycles times 5 × NUM). -/
theorem genlockDue_bounds (hdue : genlockDue s t = true) :
    5 * s.tick.num * s.tick.last + 5997000000 * s.tick.den ≤ 5 * s.tick.num * t + 240 * s.tick.num ∧
    5 * s.tick.num * t ≤ 5 * s.tick.num * s.tick.last + 6003000000 * s.tick.den + 240 * s.tick.num := by
  have hnear := genlockDue_near hdue
  obtain ⟨hlo, hhi⟩ := genlockNext_bounds s
  refine ⟨Int.ofNat_le.1 ?_, Int.ofNat_le.1 ?_⟩ <;>
    simp only [Int.natCast_add, Int.natCast_mul, Int.cast_ofNat_Int] <;> omega

end

end Sys2Proof.Machine

open Sys2Proof Sys2Proof.Machine

/-- Settles O22: a read goes through the latch of its own partition alone. -/
theorem tickNumberReadsAreConsistentForEachPartition : Obligations.TickNumberReadsAreConsistentForEachPartition := by
  unfold Obligations.TickNumberReadsAreConsistentForEachPartition
  refine ⟨fun s p hrun hp => ?_, fun s p w hrun hp hl => ?_, fun s p hrun hp hl => ?_, fun l p q x hp => ⟨?_, fun hq => ?_⟩⟩
  · exact exec_tickNoLoRead hrun hp
  · rw [exec_tickNoHiRead hrun hp, tickHiRead_eq hl]; rfl
  · rw [exec_tickNoHiRead hrun hp, tickHiRead_eq hl]; rfl
  · exact nth_setAt l p x none hp
  · exact nth_modAt_other l _ none hq

/-- Settles O23: the write is judged as a whole. -/
theorem admissionLimitsOutsideTheirRangeAreTurnedAway : Obligations.AdmissionLimitsOutsideTheirRangeAreTurnedAway := by
  unfold Obligations.AdmissionLimitsOutsideTheirRangeAreTurnedAway
  intro s v hrun
  rw [exec_tickAdmLimitWrite hrun, admLimitWrite]
  simp only [limitsOk_iff]
  rfl

/-- Settles O24: the preset that LOAD keeps is the number of the next boundary. -/
theorem presetIsCarriedByTheNextTickUnlessRefused : Obligations.PresetIsCarriedByTheNextTickUnlessRefused := by
  unfold Obligations.PresetIsCarriedByTheNextTickUnlessRefused
  refine ⟨fun s v hrun hsrc => ?_, fun s t n hn => ?_⟩
  · rw [exec_tickNoLoad hrun, tickCtlWrite_eq s hsrc]
    simp only [presetRefused_iff]
    rfl
  · rw [settle_boundary_tickNo, hn, Option.getD_some]

/-- Settles O21: the size of the phase error decides what an edge does. -/
theorem referenceEdgesLockAndUnlock : Obligations.ReferenceEdgesLockAndUnlock := by
  unfold Obligations.ReferenceEdgesLockAndUnlock
  refine ⟨fun s rise err t hsrc hrise => ?_, fun s t r hsrc hlast hmiss => ?_⟩
  · simp only [exec_genlockEdge err t hsrc hrise]
    refine ⟨fun herr hn => ?_, fun herr hn => ?_, fun hlo hhi => ?_, fun hbad hlock => ?_⟩
    · rw [genlockEdge_counts t herr hn]; rfl
    · rw [genlockEdge_locks t herr hn]; rfl
    · rw [genlockEdge_restarts t hlo hhi]; rfl
    · rw [genlockEdge_bad t hbad, lockLost_eq, isSet_locked_edgeSeen, if_pos hlock]; rfl
  · have hrefs : refsMissing s t = true := by rw [refsMissing, hlast]; exact hmiss
    rw [exec_genlockEdgeMissing hsrc hrefs, lockLost_eq]
    rfl

/-- Settles O20: each source's tick falls where its rule puts it, and a boundary numbers it. -/
theorem tickEventsFallAsTheirSourceSaysAndCountOn : Obligations.TickEventsFallAsTheirSourceSaysAndCountOn := by
  unfold Obligations.TickEventsFallAsTheirSourceSaysAndCountOn
  refine ⟨fun s k hsrc hnum hk hreach hbefore => ?_,
    fun s rise t d hsrc ht => ⟨fun hrise => ?_, fun hrise hfree => ⟨fun hearly => ?_, fun hlate => ?_⟩,
      fun hrise hhold hpair => ⟨fun hlast => ?_, fun e hlast => ?_⟩⟩,
    fun s t ht hhold hsrc hat => ?_, fun s t ht hhold hsrc hat => ?_, fun s t ht hdue => ⟨?_, genlockDue_bounds hdue⟩,
    settle_boundary_tickNo⟩
  · have hleft := freeRunLeft_eq hnum hk hreach hbefore
    have hdue : s.tick.accAt + 48 * k = freeRunDue s := by rw [freeRunDue, hleft]
    have hacc : s.tick.acc + k * s.tick.num - 25000000 * s.tick.den = freeRunAcc s := by rw [freeRunAcc, hleft]
    simp only [hdue, hacc]
    exact ⟨.of_finSettle (exec_freeRunTick hsrc), fun _ => exec_freeRunTick_early⟩
  · exact exec_tickInEdge_inactive d hrise
  · refine .of_finSettle ?_
    rw [exec_tickInEdge d hsrc hrise ht, tickInEdge_free hfree, hearly, if_neg Bool.false_ne_true]
  · refine .of_finSettle ?_
    rw [exec_tickInEdge d hsrc hrise ht, tickInEdge_free hfree, if_pos hlate]
    rfl
  · refine .of_finSettle ?_
    rw [exec_tickInEdge d hsrc hrise ht, tickInEdge_pair hhold hpair, pairEdge_first hlast]
  · refine .of_finSettle ?_
    rw [exec_tickInEdge d hsrc hrise ht, tickInEdge_pair hhold hpair, pairEdge_next hlast]
  · refine .of_finSettle ?_
    rw [exec_holdoverTick (holdoverDue_first hhold hsrc hat) ht, holdoverTick_first hhold]
  · refine .of_finSettle ?_
    rw [exec_holdoverTick (holdoverDue_next hhold hsrc hat) ht, holdoverTick_next hhold]
  · exact .of_finSettle (exec_genlockTick hdue ht)

end

section
/-! The ring commands of programs, the check of an image and the admission (R42, R43, R69, R276, R277, R329, R336, R357). Settles O43. -/

namespace Sys2Proof.Machine

/-- A ring command that is found is taken off the list and carried out. -/
theorem withCmd_found {s : State} {p r id opc : Nat} {c : RingCmd} (f : RingCmd → State → State) (h : findCmd s p r id opc = some c) :
    withCmd s p r id opc f = f c (dropCmd s c) := by
  rw [withCmd, h]

/-- The status word of a check other than the admission's. -/
theorem instWord_detail (st d : Nat) : instWord st (0, 0, 0) d = st + 2 ^ 16 * d := by simp [instWord]

/-! ## INSTALL (R276, R277, R357) -/

/-- The form of an INSTALL command: SEQ, PAIR and the image's address, and zero in every other byte. -/
def installForm (c : RingCmd) : Bool := formOk c.entry [(4, 1), (5, 1), (8, 8)]

/-- The image's address. -/
def installImage (c : RingCmd) : Nat := leAt c.entry 8 8

/-- An INSTALL that is accepted: STBY reads 1, its old value is kept, and the install joins the sequencer's line. -/
def installBegun (s : State) (c : RingCmd) : State :=
  let u := put (modPair s (cmdSeq c) (cmdPair c) fun x => { x with stbyOld := get s (R.SEQ_PAIR_STAT_STBY (cmdSeq c) (cmdPair c)) })
    (R.SEQ_PAIR_STAT_STBY (cmdSeq c) (cmdPair c)) 1
  installNext (modSeq u (cmdSeq c) fun x =>
    { x with installs := x.installs ++ [{ pair := cmdPair c, cmd := c, addr := installImage c, stage := 0 }] }) (cmdSeq c)

section
variable {s : State} {c : RingCmd}

theorem installCmd_badField (h : installForm c = false ∨ installImage c % 64 ≠ 0) : installCmd c s = complete s c stBadField 0 :=
  if_pos (h.imp_left Bool.eq_false_iff.1)

section
variable (hform : installForm c = true) (halign : installImage c % 64 = 0)
include hform halign

/-- With a good form the pair decides. -/
theorem installCmd_wellFormed : installCmd c s =
    if ¬ ownsPair s c.part (cmdSeq c) (cmdPair c) ∨ migrating s (cmdSeq c) (cmdPair c) then complete s c stOK 1
    else if (findInstall s (cmdSeq c) (cmdPair c)).isSome then complete s c stOK 2
    else installBegun s c :=
  if_neg fun h => h.elim (fun hf => hf hform) fun ha => ha halign

theorem installCmd_badPair (h : ownsPair s c.part (cmdSeq c) (cmdPair c) = false ∨ migrating s (cmdSeq c) (cmdPair c) = true) :
    installCmd c s = complete s c stOK 1 := by
  rw [installCmd_wellFormed hform halign, if_pos (h.imp_left Bool.eq_false_iff.1)]

variable (howns : ownsPair s c.part (cmdSeq c) (cmdPair c) = true) (hstays : migrating s (cmdSeq c) (cmdPair c) = false)
include howns hstays

theorem installCmd_busy (h : (findInstall s (cmdSeq c) (cmdPair c)).isSome = true) : installCmd c s = complete s c stOK 2 := by
  rw [installCmd_wellFormed hform halign, if_neg (by simp [howns, hstays]), if_pos h]

theorem installCmd_begins (h : findInstall s (cmdSeq c) (cmdPair c) = none) : installCmd c s = installBegun s c := by
  rw [installCmd_wellFormed hform halign, if_neg (by simp [howns, hstays]), if_neg (by simp [h])]

end

end

/-! ## The check of an image (R277) -/

section
variable {s : State} {q d : Nat} {x : Install} (hcur : curInstall s q = some x) (hread : x.stage = 3)
include hcur hread

/-- An image that passes its checks waits for admission. -/
theorem installCheck_passes (hok : imageCheck s (ownerOf s q x.pair) (seqOf s q).buffer = (0, d)) : installCheck s q =
    let u := modInstall s q x.pair fun y => { y with stage := 4 }
    { u with seqs := { u.seqs with adm := u.seqs.adm ++ [{ seq := q, pair := x.pair, install := true, restart := none }] } } := by
  simp only [installCheck, hcur, hread, ne_eq, not_true_eq_false, if_false, hok]

theorem installCheck_fails {st : Nat} (hbad : imageCheck s (ownerOf s q x.pair) (seqOf s q).buffer = (st + 1, d)) :
    installCheck s q = installEnd s q x.pair (pairOf s q x.pair).stbyOld (st + 1 + 2 ^ 16 * d) := by
  simp only [installCheck, hcur, hread, ne_eq, not_true_eq_false, if_false, hbad, installRefuse, instWord_detail]

end

/-! ## Admission (R42 to R44, R69) -/

section
variable {s : State} {a : AdmReq} {rest : List AdmReq}

theorem admitNext_idle (h : s.seqs.adm = [] ∨ belayUp s = false) : admitNext s = s := by
  unfold admitNext
  rcases h with h | h
  · rw [h]
  · cases s.seqs.adm with
    | nil => rfl
    | cons a rest => exact if_pos (Bool.eq_false_iff.1 h)

variable (hline : s.seqs.adm = a :: rest) (hup : belayUp s = true)
include hline hup

/-- The head of the line is judged, and leaves it. -/
theorem admitNext_head : admitNext s =
    if a.install then admitInstall { s with seqs := { s.seqs with adm := rest } } a.seq a.pair
    else admitAgain { s with seqs := { s.seqs with adm := rest } } a.seq a.pair a.restart := by
  unfold admitNext
  rw [hline]
  exact if_neg fun h => h hup

end

theorem admitInstall_admits {s : State} {q p : Nat} (h : admitCheck s q p (ownerOf s q p) (seqOf s q).buffer = none) :
    admitInstall s q p = installEnd (modPair (setStandby s q p (some (seqOf s q).buffer)) q p fun x => { x with resvS := true }) q p 2 0 := by
  simp only [admitInstall, h]

theorem admitInstall_refuses {s : State} {q p : Nat} {w : Refused} (h : admitCheck s q p (ownerOf s q p) (seqOf s q).buffer = some w) :
    admitInstall s q p = installRefuse (noteRefusal s (ownerOf s q p) w) q p (instWord 0x0E w 0) := by
  simp only [admitInstall, h]

/-! ## SWAP and RESTART (R329, R336, R357) -/

/-- The form of a SWAP or RESTART command: SEQ and PAIR, and zero in every other byte. -/
def exchangeForm (c : RingCmd) : Bool := formOk c.entry [(4, 1), (5, 1)]

/-- The issuer of the command owns the pair, or its program is being moved away from it. -/
def exchangeOwn (s : State) (c : RingCmd) : Prop :=
  ownsPair s c.part (cmdSeq c) (cmdPair c) = true ∨ movedFrom s c.part (cmdSeq c) (cmdPair c) = true

section
variable {s : State} {c : RingCmd} (k : Nat → Nat → State)

theorem exchangeCmd_denied (hq : cmdSeq c < 4) (hp : cmdPair c < 8) (hother : ¬ exchangeOwn s c) :
    exchangeCmd c s k = complete s c stPrivDenied 0 :=
  if_pos ⟨hq, hp, not_or.1 hother⟩

theorem exchangeCmd_own (h : exchangeOwn s c) : exchangeCmd c s k =
    if ¬ exchangeForm c ∨ 4 ≤ cmdSeq c ∨ 8 ≤ cmdPair c then complete s c stBadField 0 else k (cmdSeq c) (cmdPair c) :=
  if_neg fun hn => not_or.2 hn.2.2 h

theorem exchangeCmd_noPair (h : 4 ≤ cmdSeq c ∨ 8 ≤ cmdPair c) : exchangeCmd c s k = complete s c stBadField 0 :=
  (if_neg fun hn => by omega).trans (if_pos (.inr h))

theorem exchangeCmd_badForm (hown : exchangeOwn s c) (hform : exchangeForm c = false) :
    exchangeCmd c s k = complete s c stBadField 0 := by
  rw [exchangeCmd_own k hown, if_pos (.inl (Bool.eq_false_iff.1 hform))]

theorem exchangeCmd_goes (hq : cmdSeq c < 4) (hp : cmdPair c < 8) (hown : exchangeOwn s c) (hform : exchangeForm c = true) :
    exchangeCmd c s k = k (cmdSeq c) (cmdPair c) := by
  rw [exchangeCmd_own k hown, if_neg]
  rintro (hf | hn)
  · exact hf hform
  · omega

end

/-- What a SWAP does once its checks have passed. -/
def swapGoes (s : State) (c : RingCmd) (q p : Nat) : State :=
  if get s (R.SEQ_PAIR_STAT_STBY q p) = 2 ∧ (pairOf s q p).swap.isNone ∧ ¬ migrating s q p then
    modPair s q p fun x => { x with swap := some c }
  else complete s c stNotReady 0

/-- What a RESTART does once its checks have passed. -/
def restartGoes (s : State) (c : RingCmd) (q p : Nat) : State :=
  match activeImage s q p with
  | none => complete s c stNotReady 0
  | some img =>
    if migrating s q p ∨ (pairOf s q p).swap.isSome ∨ (pairOf s q p).restart.isSome then complete s c stNotReady 0
    else if progState s q p = stByMode ∧ runsIn img (modeOf s) ∧ ¬ (pairOf s q p).readmit then restartAgain s q p c
    else modPair s q p fun x => { x with restart := some c }

theorem swapCmd_eq (c : RingCmd) (s : State) : swapCmd c s = exchangeCmd c s (swapGoes s c) := rfl

theorem restartCmd_eq (c : RingCmd) (s : State) : restartCmd c s = exchangeCmd c s (restartGoes s c) := rfl

section
variable {s : State} {c : RingCmd} {q p : Nat}

theorem swapGoes_waits (hstby : get s (R.SEQ_PAIR_STAT_STBY q p) = 2) (hswap : (pairOf s q p).swap = none)
    (hstays : migrating s q p = false) : swapGoes s c q p = modPair s q p fun x => { x with swap := some c } :=
  if_pos ⟨hstby, by simp [hswap], by simp [hstays]⟩

theorem swapGoes_notReady (h : get s (R.SEQ_PAIR_STAT_STBY q p) ≠ 2 ∨ (pairOf s q p).swap ≠ none ∨ migrating s q p = true) :
    swapGoes s c q p = complete s c stNotReady 0 := by
  refine if_neg fun ⟨hstby, hswap, hstays⟩ => ?_
  rcases h with h | h | h
  · exact h hstby
  · exact h (Option.isNone_iff_eq_none.1 hswap)
  · exact hstays h

theorem restartGoes_notReady (h : activeImage s q p = none ∨ migrating s q p = true ∨ (pairOf s q p).swap ≠ none ∨
    (pairOf s q p).restart ≠ none) : restartGoes s c q p = complete s c stNotReady 0 := by
  unfold restartGoes
  cases himg : activeImage s q p with
  | none => rfl
  | some img =>
    have hbusy := h.resolve_left (by simp [himg])
    simp only [← Option.isSome_iff_ne_none] at hbusy
    exact if_pos hbusy

section
variable {img : List Byte} (himg : activeImage s q p = some img) (hstays : migrating s q p = false) (hswap : (pairOf s q p).swap = none)
  (hrestart : (pairOf s q p).restart = none)
include himg hstays hswap hrestart

theorem restartGoes_ready : restartGoes s c q p =
    if progState s q p = stByMode ∧ runsIn img (modeOf s) = true ∧ (pairOf s q p).readmit = false then restartAgain s q p c
    else modPair s q p fun x => { x with restart := some c } := by
  simp only [restartGoes, himg, hstays, hswap, hrestart, Option.isSome_none, Bool.false_eq_true, or_self, if_false, Bool.not_eq_true]

end

end

/-! ## Commands from a ring (R357) -/

/-- A ring command completes with what it does once it is taken off the list. -/
theorem Completes.of_withCmd {i : Instr} {s u : State} {p r id opc : Nat} {c : RingCmd} {f : RingCmd → State → State}
    (hexec : exec i s = finSettle (withCmd s p r id opc f)) (hfind : findCmd s p r id opc = some c) (h : f c (dropCmd s c) = u) :
    Completes i s u :=
  .of_finSettle (by rw [hexec, withCmd_found f hfind, h])

/-- What a SWAP (opcode 2) or a RESTART (opcode 3) does once its checks have passed. -/
def exchangeGoes (op : Nat) : State → RingCmd → Nat → Nat → State := if op = 2 then swapGoes else restartGoes

theorem completes_exchange {i : Instr} {s u : State} {p : Part} {r : Ring} {id op : Nat} {c : RingCmd}
    (hop : (op = 2 ∧ i = .swap p r id) ∨ (op = 3 ∧ i = .restart p r id)) (hfind : findCmd s p r id op = some c)
    (h : exchangeCmd c (dropCmd s c) (exchangeGoes op (dropCmd s c) c) = u) : Completes i s u := by
  obtain ⟨rfl, rfl⟩ | ⟨rfl, rfl⟩ := hop
  · exact .of_withCmd rfl hfind h
  · exact .of_withCmd rfl hfind h

end Sys2Proof.Machine

open Sys2Proof Sys2Proof.Machine

/-- Settles O43: the checks of each command decide its answer in their order. -/
theorem programCommandsAnswerWithTheirStatus : Obligations.ProgramCommandsAnswerWithTheirStatus := by
  unfold Obligations.ProgramCommandsAnswerWithTheirStatus
  refine ⟨fun s p r id c hfind => ?install, fun s q x hcur hread => ⟨fun d hok => ?passes, fun st d hbad => ?fails⟩,
    fun s a rest hline hup hinst => ⟨fun hok => ?admits, fun w hbad => ?refuses⟩, fun s a rest hline hup hinst => ?again,
    fun s hidle => ?idle, fun s p r id op c i hop hfind => ?exchange, fun s p r id c hfind => ?nop⟩
  case install =>
    refine ⟨fun h => ?_, fun hform halign hother => ?_, fun hform halign _ hmig => ?_, fun hform halign howns hstays hbusy => ?_,
      fun hform halign howns hstays hfree => ?_⟩
    · exact .of_withCmd rfl hfind (installCmd_badField h)
    · exact .of_withCmd rfl hfind (installCmd_badPair hform halign (.inl hother))
    · exact .of_withCmd rfl hfind (installCmd_badPair hform halign (.inr hmig))
    · exact .of_withCmd rfl hfind (installCmd_busy hform halign howns hstays hbusy)
    · exact .of_withCmd rfl hfind (installCmd_begins hform halign howns hstays hfree)
  case passes => exact .of_finSettle (congrArg finSettle (installCheck_passes hcur hread hok))
  case fails => exact .of_finSettle (congrArg finSettle (installCheck_fails hcur hread hbad))
  case admits =>
    refine .of_finSettle (congrArg finSettle ?_)
    rw [admitNext_head hline hup, if_pos hinst, admitInstall_admits hok]
  case refuses =>
    refine .of_finSettle (congrArg finSettle ?_)
    rw [admitNext_head hline hup, if_pos hinst, admitInstall_refuses hbad]
  case again =>
    refine .of_finSettle (congrArg finSettle ?_)
    rw [admitNext_head hline hup, if_neg (Bool.eq_false_iff.1 hinst)]
  case idle => exact .of_finSettle (congrArg finSettle (admitNext_idle hidle))
  case nop => exact .of_withCmd rfl hfind rfl
  case exchange =>
    have own (h : exchangeOwn (dropCmd s c) c) (hq : cmdSeq c < 4) (hp : cmdPair c < 8) (hform : exchangeForm c = true) {u : State}
        (hu : exchangeGoes op (dropCmd s c) c (cmdSeq c) (cmdPair c) = u) : Completes i s u :=
      completes_exchange hop hfind ((exchangeCmd_goes _ hq hp h hform).trans hu)
    refine ⟨fun hq hp hother => ?_, fun hnone => ?_, fun hown hform => ?_, fun hq hp hown hform => ⟨?_, ?_, ?_, ?_⟩⟩
    · exact completes_exchange hop hfind (exchangeCmd_denied _ hq hp hother)
    · exact completes_exchange hop hfind (exchangeCmd_noPair _ hnone)
    · exact completes_exchange hop hfind (exchangeCmd_badForm _ hown hform)
    · rintro rfl hstby hswap hstays
      exact own hown hq hp hform (swapGoes_waits hstby hswap hstays)
    · rintro rfl hbad
      exact own hown hq hp hform (swapGoes_notReady hbad)
    · rintro rfl hbad
      exact own hown hq hp hform (restartGoes_notReady hbad)
    · rintro img rfl himg hstays hswap hrestart
      have hready := restartGoes_ready (c := c) himg hstays hswap hrestart
      exact ⟨fun hagain => own hown hq hp hform (hready.trans (if_neg hagain)),
        fun hagain => own hown hq hp hform (hready.trans (if_pos hagain))⟩

end

section
/-! Requests for a mode and the commit of a rate (R21, R61 to R65, R517). Settles O25. -/

namespace Sys2Proof.Machine

section
variable {s : State} {v : Word32} (hrun : unitsRun s = true)
include hrun

/-- A request that a cause of R61 refuses does what R62 says. -/
theorem exec_modeRequest_refused (t : Nat) (hcode : requestCode s (bits v.toNat 0 4) ≠ 0) :
    exec (.modeRequest v t) s = .next (modeRefuse s (bits v.toNat 0 4) (requestCode s (bits v.toNat 0 4))) := by
  change answered s (if _ then _ else _) = _
  rw [answered_run _ hrun, if_pos hcode]

/-- A request that passes R61 begins its transition, and what that lets go on goes on. -/
theorem completes_modeRequest {t : Nat} {u : State} (hcode : requestCode s (bits v.toNat 0 4) = 0)
    (hu : modeRequest s (bits v.toNat 0 4) t = u) : Completes (.modeRequest v t) s u := by
  subst hu
  refine .of_answered hrun ?_
  change answered s (if _ then _ else _) = _
  rw [if_neg (fun h => h hcode)]

theorem exec_tickRateDenWrite : exec (.tickRateDenWrite v) s = .next (rateDenWrite s v.toNat) := answered_run _ hrun

end

section
variable {s : State} {m : Nat} (t : Nat)

/-- Out of a recording mode the transition starts with the drain. -/
theorem modeRequest_drains (hrec : isRec (modeOf s) = true) : modeRequest s m t = setTransition s 2 m := if_pos hrec

/-- Out of any other mode the transition is pending, and nothing else begins unless the target is DORMANT. -/
theorem modeRequest_pends (hrec : isRec (modeOf s) = false) (hm : m ≠ modeDORMANT) : modeRequest s m t = setTransition s 1 m := by
  rw [modeRequest, if_neg (Bool.eq_false_iff.1 hrec), if_neg hm]

theorem modeRequest_dormant (hrec : isRec (modeOf s) = false) (hm : m = modeDORMANT) :
    modeRequest s m t = dormStart (setTransition s 1 m) t := by
  rw [modeRequest, if_neg (Bool.eq_false_iff.1 hrec), if_pos hm]

end

/-- The write of DEN leaves NUM, which the commit takes as it stands. -/
theorem rateDenWrite_eq (s : State) (v : Nat) : rateDenWrite s v = { put s R.TICK_RATE_DEN_DEN v with
    tick := { s.tick with ratePend := some (get s R.TICK_RATE_NUM_NUM, get (put s R.TICK_RATE_DEN_DEN v) R.TICK_RATE_DEN_DEN) } } := by
  have hnum : get (put s R.TICK_RATE_DEN_DEN v) R.TICK_RATE_NUM_NUM = get s R.TICK_RATE_NUM_NUM := get_put_other _ _ (by decide)
  simp only [rateDenWrite, hnum, put_tick]

end Sys2Proof.Machine

open Sys2Proof Sys2Proof.Machine

/-- Settles O25: the code of R61 decides between a refusal and the transition, and the mode left decides how that begins. -/
theorem modeRequestIsRefusedOrBegins : Obligations.ModeRequestIsRefusedOrBegins := by
  unfold Obligations.ModeRequestIsRefusedOrBegins
  refine ⟨fun s v t hrun hcode => exec_modeRequest_refused hrun t hcode,
    fun s v t hrun hcode hrec => ⟨fun hm => ?pends, fun hm => ?dormant⟩, fun s v t hrun hcode hrec => ?drains, fun s v hrun => ?rate⟩
  case pends => exact completes_modeRequest hrun hcode (modeRequest_pends t hrec hm)
  case dormant => exact completes_modeRequest hrun hcode (modeRequest_dormant t hrec hm)
  case drains => exact completes_modeRequest hrun hcode (modeRequest_drains t hrec)
  case rate => rw [exec_tickRateDenWrite hrun, rateDenWrite_eq]

end

section
/-! Clock gating and the wake from DORMANT (R72, R385, R515, R516, R519). Settles O18. -/

namespace Sys2Proof.Machine

/-! ## Clock gating (R515, R516) -/

section
variable {s : State} {b t : Nat}

section
variable (hauto : ¬ (29 ≤ b ∨ get s R.CLK_LP_CTL_HOLDOFF = 0)) (hopen : bitAt (get s R.CLK_LP_STAT_GATED) b = false)
include hauto hopen

/-- Of a block that gates by itself and is not gated yet, its work decides. -/
theorem clockGate_unrefused : clockGate s b false t = if blockIdle s b then
      { put (stamp s t) R.CLK_LP_STAT_GATED (withBit (get s R.CLK_LP_STAT_GATED) b true) with
        sup := { s.sup with gatedAt := insertKey s.sup.gatedAt b t } }
    else s := by
  unfold clockGate
  cases hidle : blockIdle s b <;> simp [hopen, hauto]

/-- A refusal outside an entry to DORMANT is the block's own. -/
theorem clockGate_refused (hdorm : dormEntering s = false) : clockGate s b true t = gateRefused (stamp s t) b 0 := by
  simp [clockGate, hopen, hdorm, hauto]

end

/-- A gated block wakes; within 10 µs (12,000 cycles) of its entry that counts as an abort. -/
theorem blockWake_gated {at0 : Nat} (hgated : bitAt (get s R.CLK_LP_STAT_GATED) b = true) (hat : lookupKey s.sup.gatedAt b = some at0) :
    blockWake s b t =
      let w := { put (stamp s t) R.CLK_LP_STAT_GATED (withBit (get s R.CLK_LP_STAT_GATED) b false) with
        sup := { s.sup with gatedAt := eraseKey s.sup.gatedAt b } }
      if t < at0 + 12000 then gateRefused w b 1 else w := by
  have hlimit : 10 * usCycles + at0 = at0 + 12000 := Nat.add_comm _ _
  simp only [blockWake, if_pos hgated, hat, Option.getD_some, hlimit]
  rfl

end

/-! ## What a change of strand states leaves (R234, R239) -/

/-- What every pass of a loop keeps, the loop keeps. -/
theorem forN_keeps {α : Type} (p : State → α) {n : Nat} {f : Nat → State → State} {s : State} (hf : ∀ i s, p (f i s) = p s) :
    p (forN n f s) = p s :=
  List.foldlRecOn (motive := fun u => p u = p s) (List.range n) _ rfl fun u hu i _ => (hf i u).trans hu

/-- A state of a strand is a matter of registers alone. -/
theorem setStrState_keeps {α : Type} (p : State → α) (hp : ∀ s f v, p (put s f v) = p s) (s : State) (n st : Nat) :
    p (setStrState s n st) = p s := by
  unfold setStrState poolStat
  split <;> simp only [hp]

/-- Whatever writes of registers leave alone, the mask does. -/
theorem maskStates_keeps {α : Type} (p : State → α) (hp : ∀ s f v, p (put s f v) = p s) (s : State) : p (maskStates s) = p s := by
  refine forN_keeps p fun i s => ?_
  split
  · exact setStrState_keeps p hp s i strQuar
  · rfl

/-- All registers that a change of strand states writes lie beyond the first megabyte of the register map. -/
theorem get_setStrState {s : State} {g : Fld} (n st : Nat) (hg : fldKey g < 32 * 0x100000) :
    get (setStrState s n st) g = get s g := by
  have hstate : fldKey g ≠ fldKey (R.STR_STATE_STATE n) := by simp only [fldKey, R.STR_STATE_STATE] at *; omega
  have hmask : fldKey g ≠ fldKey R.STR_QUAR_MASK_MASK := by simp only [fldKey, R.STR_QUAR_MASK_MASK] at *; omega
  have hafter : fldKey g ≠ fldKey (R.STR_TEST_STAT_AFTERQ n) := by simp only [fldKey, R.STR_TEST_STAT_AFTERQ] at *; omega
  have hspare : fldKey g ≠ fldKey R.STR_POOL_STAT_SPAREAV := by simp only [fldKey, R.STR_POOL_STAT_SPAREAV] at *; omega
  have hquar : fldKey g ≠ fldKey R.STR_POOL_STAT_NQUAR := by simp only [fldKey, R.STR_POOL_STAT_NQUAR] at *; omega
  unfold setStrState poolStat
  split <;> simp only [get_put_other _ _ hstate, get_put_other _ _ hmask, get_put_other _ _ hafter, get_put_other _ _ hspare,
    get_put_other _ _ hquar]

theorem get_maskStates {s : State} {g : Fld} (hg : fldKey g < 32 * 0x100000) : get (maskStates s) g = get s g := by
  refine forN_keeps (get · g) fun i s => ?_
  split
  · exact get_setStrState i strQuar hg
  · rfl

/-! ## GLB_MODE_LAST -/

section
variable {s : State} (h : s.Canonical) (reason a b : Nat)
include h

theorem get_modeLast_reason : get (modeLast s reason a b) R.GLB_MODE_LAST_REASON = reason % 16 := by
  rw [modeLast, get_put_other _ _ (by decide), get_put_other _ _ (by decide), get_put_self _ _ h.1]
  rfl

theorem get_modeLast_from : get (modeLast s reason a b) R.GLB_MODE_LAST_FROM = a % 16 := by
  rw [modeLast, get_put_other _ _ (by decide), get_put_self _ _ (put_canon _ _ _ h).1]
  rfl

theorem get_modeLast_to : get (modeLast s reason a b) R.GLB_MODE_LAST_TO = b % 16 := by
  rw [modeLast, get_put_self _ _ (put_canon _ _ _ (put_canon _ _ _ h)).1]
  rfl

end

theorem get_modeLast_other (s : State) (reason a b : Nat) {g : Fld} (hreason : fldKey g ≠ fldKey R.GLB_MODE_LAST_REASON)
    (hfrom : fldKey g ≠ fldKey R.GLB_MODE_LAST_FROM) (hto : fldKey g ≠ fldKey R.GLB_MODE_LAST_TO) :
    get (modeLast s reason a b) g = get s g := by
  rw [modeLast, get_put_other _ _ hto, get_put_other _ _ hfrom, get_put_other _ _ hreason]

/-! ## The wake from DORMANT (R72, R385, R519) -/

/-- A store filtered by keys holds what it held under each key that passes, and nothing else. -/
theorem cellVal_filter (p : Nat → Bool) (k : Nat) (r : List RegCell) :
    cellVal (r.filter fun c => p c.key) k = if p k then cellVal r k else none := by
  induction r with
  | nil => simp [cellVal]
  | cons c cs ih =>
    by_cases hk : c.key = k
    · subst hk; cases hp : p c.key <;> simp [hp, cellVal, ih]
    · cases hp : p c.key <;> simp [hp, hk, cellVal, ih]

/-- What is left when power comes back: the always-on domain's registers and the boot source, everything else as after a cold reset. -/
def aonKept (s : State) : State :=
  { freshState s with
    regs := s.regs.filter fun c => aonKey c.key
    sup := { (freshState s).sup with held := false, sel := s.sup.sel, tryAt := some 0 } }

/-- The same with the strands of the mask QUARANTINED, the cause and the source of the wake recorded, and the regulator at full power. -/
def awake (s : State) (src : Nat) : State :=
  clrF (put (put (maskStates (aonKept s)) R.AON_RSTCAUSE_CAUSE 5) R.AON_RSTCAUSE_WAKESRC src) R.AON_REG_STAT_LP

theorem wakeUp_eq (s : State) (src : Nat) : wakeUp s src = modeLast (awake s src) 2 modeDORMANT modeBOOT := rfl

theorem get_aonKept (s : State) (g : Fld) : get (aonKept s) g = if aonKey (fldKey g) then get s g else g.reset := by
  rw [get, aonKept, cellVal_filter]
  split <;> rfl

/-- What the device records of a wake. -/
def wakeRecords : List Fld :=
  [R.AON_RSTCAUSE_CAUSE, R.AON_RSTCAUSE_WAKESRC, R.AON_REG_STAT_LP, R.GLB_MODE_LAST_REASON, R.GLB_MODE_LAST_FROM, R.GLB_MODE_LAST_TO]

section
variable {s : State} (src : Nat)

/-- Outside of what the wake records and of the strands' registers, the woken device has the registers of `aonKept`. -/
theorem get_wakeUp {g : Fld} (hstr : fldKey g < 32 * 0x100000) (hrec : ∀ f ∈ wakeRecords, fldKey g ≠ fldKey f) :
    get (wakeUp s src) g = get (aonKept s) g := by
  simp only [wakeRecords, List.forall_mem_cons] at hrec
  obtain ⟨hcause, hsrc, hlp, hreason, hfrom, hto, -⟩ := hrec
  rw [wakeUp_eq, get_modeLast_other _ _ _ _ hreason hfrom hto, awake, clrF, get_put_other _ _ hlp, get_put_other _ _ hsrc,
    get_put_other _ _ hcause, get_maskStates hstr]

theorem modeOf_wakeUp : modeOf (wakeUp s src) = modeBOOT := by
  rw [modeOf, get_wakeUp src (by decide) (by decide), get_aonKept, if_neg (by decide)]
  rfl

theorem get_wakeUp_timer : get (wakeUp s src) R.AON_WAKE_TMR_SEC = get s R.AON_WAKE_TMR_SEC := by
  rw [get_wakeUp src (by decide) (by decide), get_aonKept, if_pos (by decide)]

theorem wakeUp_tick : (wakeUp s src).tick = Tick.init := maskStates_keeps State.tick put_tick (aonKept s)

theorem wakeUp_fs : (wakeUp s src).fs = [] := maskStates_keeps State.fs put_fs (aonKept s)

section
variable (h : s.Canonical)
include h

theorem maskStates_aonKept_canon : (maskStates (aonKept s)).Canonical := maskStates_canon _ ⟨h.1.filter _, rfl, rfl⟩

theorem awake_canon : (awake s src).Canonical :=
  clrF_canon _ _ (put_canon _ _ _ (put_canon _ _ _ (maskStates_aonKept_canon h)))

theorem get_wakeUp_cause : get (wakeUp s src) R.AON_RSTCAUSE_CAUSE = 5 := by
  rw [wakeUp_eq, get_modeLast_other _ _ _ _ (by decide) (by decide) (by decide), awake, clrF, get_put_other _ _ (by decide),
    get_put_other _ _ (by decide), get_put_self _ _ (maskStates_aonKept_canon h).1]
  rfl

theorem get_wakeUp_source : get (wakeUp s src) R.AON_RSTCAUSE_WAKESRC = src % 4 := by
  rw [wakeUp_eq, get_modeLast_other _ _ _ _ (by decide) (by decide) (by decide), awake, clrF, get_put_other _ _ (by decide),
    get_put_self _ _ (put_canon _ _ _ (maskStates_aonKept_canon h)).1]
  rfl

end

end

/-- In DORMANT an enabled source wakes the device, and a disabled one does nothing. -/
theorem wakeEvent_dormant {s : State} (src : Nat) (en : Bool) (hmode : modeOf s = modeDORMANT) :
    wakeEvent s src en = if en then wakeUp s src else s := by
  cases en <;> simp [wakeEvent, hmode]

/-- The timer that has run out is a source like the others. -/
theorem exec_wakeTimerExpiry_due {s : State} {t a : Nat} (hmode : modeOf s = modeDORMANT) (hat : s.sup.dormAt = some a)
    (hdue : 95 * (msCycles * 1000 * get s R.AON_WAKE_TMR_SEC) ≤ 100 * (t - a)) :
    exec (.wakeTimerExpiry t) s = .next (if isSet s R.AON_WAKE_CTL_TMR then wakeUp s 3 else s) := by
  change execWakeTimerExpiry t s = _
  simp [execWakeTimerExpiry, hmode, hat, hdue]

end Sys2Proof.Machine

open Sys2Proof Sys2Proof.Machine

/-- Settles O18: a block gates or is refused by its work, and each source that wakes the device does it by `wakeUp`. -/
theorem blocksGateAndWakeSourcesLeaveDormant : Obligations.BlocksGateAndWakeSourcesLeaveDormant := by
  unfold Obligations.BlocksGateAndWakeSourcesLeaveDormant
  refine ⟨fun s b t hb hhold hopen hdorm => ?gates, fun s b t at0 hgated hat => ?blockWake, fun s c src en t hc hmode => ?wake⟩
  case gates =>
    have hauto : ¬ (29 ≤ b.val ∨ get s R.CLK_LP_CTL_HOLDOFF = 0) := not_or.2 ⟨Nat.not_le.2 hb, hhold⟩
    refine ⟨fun hidle => ?_, fun hwork => ?_, congrArg Host.Outcome.next (clockGate_refused hauto hopen hdorm)⟩
    · exact congrArg Host.Outcome.next ((clockGate_unrefused hauto hopen).trans (if_pos hidle))
    · exact congrArg Host.Outcome.next ((clockGate_unrefused hauto hopen).trans (if_neg (Bool.eq_false_iff.1 hwork)))
  case blockWake => exact .of_finSettle (congrArg finSettle (blockWake_gated hgated hat))
  case wake =>
    have hsource : exec c s = .next (if isSet s en then wakeUp s src else s) ∧ src < 4 := by
      obtain ⟨rfl, rfl, rfl⟩ | ⟨rfl, rfl, rfl⟩ | ⟨rfl, rfl, rfl, a, hat, hdue⟩ := hc
      · exact ⟨congrArg Host.Outcome.next (wakeEvent_dormant 1 _ hmode), by decide⟩
      · exact ⟨congrArg Host.Outcome.next (wakeEvent_dormant 2 _ hmode), by decide⟩
      · exact ⟨exec_wakeTimerExpiry_due hmode hat hdue, by decide⟩
    obtain ⟨hexec, hlt⟩ := hsource
    refine ⟨fun hoff => ?_, fun hon hcan => ⟨wakeUp s src, ?_, get_wakeUp_cause src hcan, ?_, ?_, ?_, ?_, modeOf_wakeUp src,
      get_wakeUp_timer src, wakeUp_tick src, wakeUp_fs src, wakeUp_pending s src⟩⟩
    · rw [hexec, hoff, if_neg Bool.false_ne_true]
    · rw [hexec, if_pos hon]
    · rw [get_wakeUp_source src hcan, Nat.mod_eq_of_lt hlt]
    · exact get_modeLast_reason (awake_canon src hcan) 2 modeDORMANT modeBOOT
    · exact get_modeLast_from (awake_canon src hcan) 2 modeDORMANT modeBOOT
    · exact get_modeLast_to (awake_canon src hcan) 2 modeDORMANT modeBOOT

end

section
/-! Writes of the intake's own registers: the locked, the staged and the lookup-table ones (R79, R101). Settles O14. -/

namespace Sys2Proof.Machine

section
variable {s : State} (hrun : unitsRun s = true)
include hrun

theorem exec_lockedRegisterWrite (off : Nat) (v : Word32) : exec (.lockedRegisterWrite off v) s = .next (lockedWrite s off v.toNat) :=
  answered_run _ hrun

theorem exec_stagedRegisterWrite (off : Nat) (v : Word32) : exec (.stagedRegisterWrite off v) s = .next (stagedWrite s off v.toNat) :=
  answered_run _ hrun

theorem exec_lutDataWrite (v : Fin 3) (w : Word32) : exec (.lutDataWrite v w) s = .next (lutWrite s v w.toNat) := answered_run _ hrun

end

/-! ## Locked registers (R79) -/

theorem lockedReg_ne_intCtl {a : Nat} (h : lockedReg a = true) : a ≠ 0xA0000 := by
  rintro rfl
  exact absurd h (by decide)

theorem stagedReg_ne_intCtl {a : Nat} (h : stagedReg a = true) : a ≠ 0xA0000 := by
  rintro rfl
  exact absurd h (by decide)

section
variable {s : State} {a : Nat} (v : Nat)

/-- The mode and, of INT_RING_CFG, the value decide what a locked register other than INT_CTL does with a word. -/
theorem lockedWrite_eq (hl : lockedReg a = true) : lockedWrite s a v =
    if intakeOn (modeOf s) = true ∨ (a = 0xA0048 ∧ (bits v 0 4 < 2 ∨ 8 < bits v 0 4)) then put s R.INT_STAT_CFGLOCK 1
    else showStride (writeWord s a v) := by
  simp [lockedWrite, lockedReg_ne_intCtl hl, hl, intakeOpen, cfgLock, setF]

theorem lockedWrite_running (hon : intakeOn (modeOf s) = true) (hl : lockedReg a = true) :
    lockedWrite s a v = put s R.INT_STAT_CFGLOCK 1 := by
  rw [lockedWrite_eq v hl, if_pos (.inl hon)]

theorem lockedWrite_stopped (hoff : intakeOn (modeOf s) = false) (hl : lockedReg a = true) (hring : a ≠ 0xA0048) :
    lockedWrite s a v = showStride (writeWord s a v) := by
  rw [lockedWrite_eq v hl, if_neg (by simp [hoff, hring])]

theorem fieldsAt_ringCfg : fieldsAt 0xA0048 = [R.INT_RING_CFG_SLOTS] := by decide +kernel

theorem lockedWrite_ringCfg (hoff : intakeOn (modeOf s) = false) : lockedWrite s 0xA0048 v =
    if 2 ≤ bits v 0 4 ∧ bits v 0 4 ≤ 8 then showStride (put s R.INT_RING_CFG_SLOTS (bits v 0 4)) else put s R.INT_STAT_CFGLOCK 1 := by
  have hslots : writeWord s 0xA0048 v = put s R.INT_RING_CFG_SLOTS (bits v 0 4) := writeWord_single v fieldsAt_ringCfg rfl
  rw [lockedWrite_eq v (by decide), hslots]
  by_cases hfits : 2 ≤ bits v 0 4 ∧ bits v 0 4 ≤ 8
  · rw [if_pos hfits, if_neg (by simp only [hoff, Bool.false_eq_true, false_or, true_and]; omega)]
  · rw [if_neg hfits, if_pos (.inr ⟨rfl, by omega⟩)]

end

/-! ## Staged registers (R79) -/

section
variable {s : State} {a : Nat} (v : Nat)

/-- A staged register other than INT_CTL stores the word once the one in force is kept. -/
theorem stagedWrite_eq (hs : stagedReg a = true) : stagedWrite s a v = writeWord (stageOld s a) a v := by
  rw [stagedWrite, if_neg (stagedReg_ne_intCtl hs), if_pos hs]

theorem stageOld_kept {w : Nat} (h : lookupKey s.intake.force a = some w) : stageOld s a = s := if_pos (by rw [h]; rfl)

theorem stageOld_first (h : lookupKey s.intake.force a = none) :
    stageOld s a = { s with intake := { s.intake with force := insertKey s.intake.force a (storedWord s a) } } :=
  if_neg (by rw [h]; exact Bool.false_ne_true)

/-- Keeping the word in force changes no register. -/
theorem get_stageOld (s : State) (a : Nat) (f : Fld) : get (stageOld s a) f = get s f := by
  unfold stageOld
  split <;> rfl

end

/-! ## INT_CTL -/

/-- INT_CTL decides by the mode it had: staging DEF_EN leaves the mode. -/
theorem intCtlWrite_eq (s : State) (v : Nat) : intCtlWrite s v =
    let x := put (stageOld s 0xA0000) R.INT_CTL_DEF_EN (bits v 4 1)
    if intakeOn (modeOf s) then put x R.INT_STAT_CFGLOCK 1
    else showStride (put (put x R.INT_CTL_DEPTH (bits v 0 2)) R.INT_CTL_CFA (bits v 2 2)) := by
  have hmode : modeOf (put (stageOld s 0xA0000) R.INT_CTL_DEF_EN (bits v 4 1)) = modeOf s :=
    (get_put_other _ _ (by decide)).trans (get_stageOld ..)
  simp only [intCtlWrite, intakeOpen, hmode]
  cases intakeOn (modeOf s) <;> rfl

/-! ## INT_VIEW_LUT_DATA (R101) -/

/-- A channel select below 3 names a channel, and its entry takes the value. -/
theorem lutWrite_channel {s : State} {v : Nat} (x : Nat) (h : get s (R.INT_VIEW_LUT_IDX_CH v) < 3) : lutWrite s v x =
    let i := get s (R.INT_VIEW_LUT_IDX_IDX v)
    put (setLut s v (4096 * (3 * (1 - getF s (R.INT_VIEW_CFG_LUTSEL v)) + get s (R.INT_VIEW_LUT_IDX_CH v)) + i) i (x % 4096))
      (R.INT_VIEW_LUT_IDX_IDX v) (i + 1) := by
  simp only [lutWrite, if_neg (Nat.ne_of_lt h)]

end Sys2Proof.Machine

open Sys2Proof Sys2Proof.Machine

/-- Settles O14: the mode decides a locked write, the boundary a staged one, and INT_CTL takes its fields by both. -/
theorem lockedStagedAndTableRegistersTakeWritesAsStated : Obligations.LockedStagedAndTableRegistersTakeWritesAsStated := by
  unfold Obligations.LockedStagedAndTableRegistersTakeWritesAsStated
  refine ⟨fun s off v hrun hon hl => ?running, fun s off v hrun hoff hl hring => ?stopped, fun s v hrun hoff => ?ringCfg,
    fun s off w v hrun hs hkept => ?staged, fun s off v hrun hs hnone => ?stagedFirst, fun s v w hrun hch => ?lut,
    fun s v hrun => ⟨?sameCommand, ?intCtl⟩⟩
  case running => rw [exec_lockedRegisterWrite hrun, lockedWrite_running _ hon hl]
  case stopped => rw [exec_lockedRegisterWrite hrun, lockedWrite_stopped _ hoff hl hring]
  case ringCfg => rw [exec_lockedRegisterWrite hrun, lockedWrite_ringCfg _ hoff]
  case staged => rw [exec_stagedRegisterWrite hrun, stagedWrite_eq _ hs, stageOld_kept hkept]
  case stagedFirst => rw [exec_stagedRegisterWrite hrun, stagedWrite_eq _ hs, stageOld_first hnone]
  case lut => rw [exec_lutDataWrite hrun, lutWrite_channel _ hch]
  case sameCommand => rw [exec_lockedRegisterWrite hrun, exec_stagedRegisterWrite hrun]; rfl
  case intCtl =>
    rw [exec_lockedRegisterWrite hrun, lockedWrite, if_pos rfl, intCtlWrite_eq]
    rfl

end

section
/-! The packets that reach the sensor ports and the windows they open, fill and close (R74 to R76, R80 to R82). Settles O26. -/

namespace Sys2Proof.Machine

/-! ## Packet headers (R75, R76) -/

section
variable {s : State} {n : Nat} {lost use : State → State}

/-- A port that is off takes no packet. -/
theorem csiHeader_off (burst : Bool) (hdr : Ecc) (h : s.intake.on = false ∨ ganged s n = false) :
    csiHeader s n burst hdr lost use = s :=
  if_neg (by simp only [Bool.and_eq_true]; rintro ⟨hon, hgang⟩; simp [hon, hgang] at h)

section
variable (hon : s.intake.on = true) (hgang : ganged s n = true)
include hon hgang

/-- The rest of a burst that is being discarded changes nothing. -/
theorem csiHeader_skipped (hdr : Ecc) (hskip : (sensPort s n).skip = true) : csiHeader s n false hdr lost use = s := by
  simp [csiHeader, hon, hgang, hskip]

/-- A new burst ends the discarding. -/
theorem csiHeader_burst (hdr : Ecc) :
    csiHeader s n true hdr lost use = csiHeader (modPort s n fun p => { p with skip := false }) n false hdr lost use := by
  have hon' : (modPort s n fun p => { p with skip := false }).intake.on = true := hon
  have hgang' : ganged (modPort s n fun p => { p with skip := false }) n = true := hgang
  simp [csiHeader, hon, hgang, hon', hgang']

variable (hskip : (sensPort s n).skip = false)
include hskip

theorem csiHeader_ok : csiHeader s n false .ok lost use = use s := by simp [csiHeader, hon, hgang, hskip]

theorem csiHeader_ce : csiHeader s n false .ce lost use = use (bump s (R.INT_PORT_ERR_HDR_CORR n)) := by
  simp [csiHeader, hon, hgang, hskip]

theorem csiHeader_ue : csiHeader s n false .ue lost use =
    lost (modPort (bump s (R.INT_PORT_ERR_HDR_UNC n)) n fun p => { p with skip := true }) := by
  simp [csiHeader, hon, hgang, hskip]

end

end

/-- A port whose discarding has ended discards nothing more. -/
theorem sensPort_burst (s : State) (n : Nat) : (sensPort (modPort s n fun p => { p with skip := false }) n).skip = false := by
  rw [sensPort, modPort, nth_modAt]
  split <;> rfl

theorem csiChannel_own {s : State} {n vc : Nat} (use : State → State) (h : vc = get s (R.INT_PORT_CFG_VC n)) :
    csiChannel s n vc use = use s := if_pos h

theorem csiChannel_other {s : State} {n vc : Nat} (use : State → State) (h : vc ≠ get s (R.INT_PORT_CFG_VC n)) :
    csiChannel s n vc use = bump s (R.INT_PORT_DISC_COUNT n) := if_neg h

/-! ## Packets of a port that takes them (R74, R75, R80) -/

/-- A long packet on the port's own channel (R74, R75): what its data type, its length and its CRC make of it. -/
def longPacket (s : State) (n : Nat) (dt : BitVec 6) (b : List Byte) (crc : Bool) : State :=
  if dt.toNat ≠ 0x2B + get s R.INT_CTL_DEPTH then bump s (R.INT_PORT_DISC_COUNT n)
  else
    let bad := b.length != segLen s n
    let u := if crc then s else bump s (R.INT_PORT_ERR_CRC n)
    let u := if bad then bump u (R.INT_PORT_ERR_LEN n) else u
    takeRow u n (if bad || !crc then none else some (unpackRaw (sampBits u) b))

/-- A frame end on the port's own channel (R80) closes the window that is open. -/
def frameEnd (s : State) (n : Nat) : State :=
  match openEv s n with
  | none => s
  | some e => endWin s e n

theorem frameEnd_open {s : State} {n e : Nat} (h : openEv s n = some e) : frameEnd s n = endWin s e n := by rw [frameEnd, h]

theorem frameEnd_closed {s : State} {n : Nat} (h : openEv s n = none) : frameEnd s n = s := by rw [frameEnd, h]

section
variable {s : State} {n : SensorPort} (hon : s.intake.on = true) (hgang : ganged s n = true) (hskip : (sensPort s n).skip = false)
include hon hgang hskip

theorem exec_csi2FrameStart (vc : Fin 4) (t : Nat) : exec (.csi2FrameStart n false .ok vc t) s =
    .next (csiChannel (stamp s t) n vc fun u => frameStart u n t) :=
  congrArg Host.Outcome.next (csiHeader_ok (s := stamp s t) hon hgang hskip)

theorem exec_csi2FrameEnd (vc : Fin 4) : exec (.csi2FrameEnd n false .ok vc) s =
    .next (csiChannel s n vc fun u => frameEnd u n) :=
  congrArg Host.Outcome.next (csiHeader_ok hon hgang hskip)

theorem exec_csi2LongPacket (vc : Fin 4) (dt : BitVec 6) (b : List Byte) (crc : Bool) :
    exec (.csi2LongPacket n false .ok vc dt b crc) s = .next (csiChannel s n vc fun u => longPacket u n dt b crc) :=
  congrArg Host.Outcome.next (csiHeader_ok hon hgang hskip)

theorem exec_csi2LongPacket_ue (vc : Fin 4) (dt : BitVec 6) (b : List Byte) (crc : Bool) :
    exec (.csi2LongPacket n false .ue vc dt b crc) s =
      .next (takeRow (modPort (bump s (R.INT_PORT_ERR_HDR_UNC n)) n fun p => { p with skip := true }) n none) :=
  congrArg Host.Outcome.next (csiHeader_ue hon hgang hskip)

theorem exec_csi2ShortPacketIgnored (vc : Fin 4) : exec (.csi2ShortPacketIgnored n false .ok vc) s =
    .next (csiChannel s n vc id) :=
  congrArg Host.Outcome.next (csiHeader_ok hon hgang hskip)

theorem exec_csi2PacketDiscarded : exec (.csi2PacketDiscarded n false .ok) s = .next (bump s (R.INT_PORT_DISC_COUNT n)) :=
  congrArg Host.Outcome.next (csiHeader_ok hon hgang hskip)

theorem exec_csi2PacketDiscarded_ce : exec (.csi2PacketDiscarded n false .ce) s =
    .next (bump (bump s (R.INT_PORT_ERR_HDR_CORR n)) (R.INT_PORT_DISC_COUNT n)) :=
  congrArg Host.Outcome.next (csiHeader_ce hon hgang hskip)

theorem exec_csi2PacketDiscarded_ue : exec (.csi2PacketDiscarded n false .ue) s =
    .next (modPort (bump s (R.INT_PORT_ERR_HDR_UNC n)) n fun p => { p with skip := true }) :=
  congrArg Host.Outcome.next (csiHeader_ue hon hgang hskip)

end

/-! ## Long packets (R74, R75) -/

section
variable {s : State} {n : Nat} {dt : BitVec 6} {b : List Byte} {crc : Bool}

theorem longPacket_otherType (h : dt.toNat ≠ 0x2B + get s R.INT_CTL_DEPTH) :
    longPacket s n dt b crc = bump s (R.INT_PORT_DISC_COUNT n) := if_pos h

section
variable (hdt : dt.toNat = 0x2B + get s R.INT_CTL_DEPTH)
include hdt

theorem longPacket_good (hlen : b.length = segLen s n) :
    longPacket s n dt b true = takeRow s n (some (unpackRaw (sampBits s) b)) := by
  simp [longPacket, hdt, hlen]

theorem longPacket_badCrc (hlen : b.length = segLen s n) :
    longPacket s n dt b false = takeRow (bump s (R.INT_PORT_ERR_CRC n)) n none := by
  simp [longPacket, hdt, hlen]

theorem longPacket_badLength (hlen : b.length ≠ segLen s n) :
    longPacket s n dt b true = takeRow (bump s (R.INT_PORT_ERR_LEN n)) n none := by
  simp [longPacket, hdt, hlen]

end

end

/-! ## Frame starts (R80) -/

section
variable {s : State} {e n : Nat} (t : Nat) {x : Frame} {w : Win} (hframe : findEv s e = some x) (hwin : winOf x n = some w)
  (hkind : x.kind = 0)
include hframe hwin hkind

theorem startWin_first (hst : w.st = 0) (hfirst : x.first = none) : startWin s e n t =
    modWin (modEv s e fun f => { f with first := some t }) e n fun v => { v with st := 1 } := by
  simp [startWin, hframe, hwin, hkind, hst, hfirst]

section
variable {f : Nat} (hst : w.st = 0) (hfirst : x.first = some f)
include hst hfirst

theorem startWin_inSkew (ht : t ≤ f + usCycles * getF s R.INT_SKEW_US) :
    startWin s e n t = modWin s e n fun v => { v with st := 1 } := by
  simp [startWin, hframe, hwin, hkind, hst, hfirst, ht]

theorem startWin_beyondSkew (ht : f + usCycles * getF s R.INT_SKEW_US < t) : startWin s e n t = closeWin s e n true := by
  simp [startWin, hframe, hwin, hkind, hst, hfirst, Nat.not_le.2 ht]

end

theorem startWin_extra (hst : w.st = 1) : startWin s e n t = bump (closeWin s e n true) R.INT_EXTRA_CNT_COUNT := by
  simp [startWin, hframe, hwin, hkind, hst]

end

end Sys2Proof.Machine

open Sys2Proof Sys2Proof.Machine

/-- Settles O26: the header check and the channel come first, then each packet does what its kind says. -/
theorem sensorPacketsOpenFillAndCloseWindows : Obligations.SensorPacketsOpenFillAndCloseWindows := by
  unfold Obligations.SensorPacketsOpenFillAndCloseWindows
  refine ⟨fun s n hon hgang hskip => ⟨fun vc t => ⟨fun hvc => ?start, fun hvc => ?startOther⟩, fun vc e hvc hopen => ?frameEnd,
      fun vc hvc hclosed => ?endClosed, fun vc dt b hvc hdt => ⟨fun hlen => ⟨?good, ?badCrc⟩, fun hlen => ?badLength⟩,
      fun vc dt b crc hvc hdt => ?otherType, exec_csi2LongPacket_ue hon hgang hskip, exec_csi2ShortPacketIgnored hon hgang hskip,
      exec_csi2PacketDiscarded hon hgang hskip, exec_csi2PacketDiscarded_ce hon hgang hskip, exec_csi2PacketDiscarded_ue hon hgang hskip⟩,
    fun s n hon hgang => ⟨fun hskip hdr => ?skipped, ?burst⟩, fun s n hoff burst hdr vc dt x c => ?off,
    fun u e n t x w hframe hwin hkind => ?window⟩
  case start =>
    rw [exec_csi2FrameStart hon hgang hskip, csiChannel_own (s := stamp s t) _ hvc]
    rfl
  case startOther => rw [exec_csi2FrameStart hon hgang hskip, csiChannel_other (s := stamp s t) _ hvc]
  case frameEnd =>
    rw [exec_csi2FrameEnd hon hgang hskip, csiChannel_own _ hvc, frameEnd_open hopen]
    rfl
  case endClosed => rw [exec_csi2FrameEnd hon hgang hskip, csiChannel_own _ hvc, frameEnd_closed hclosed]
  case good => rw [exec_csi2LongPacket hon hgang hskip, csiChannel_own _ hvc, longPacket_good hdt hlen]
  case badCrc => rw [exec_csi2LongPacket hon hgang hskip, csiChannel_own _ hvc, longPacket_badCrc hdt hlen]
  case badLength => rw [exec_csi2LongPacket hon hgang hskip, csiChannel_own _ hvc, longPacket_badLength hdt hlen]
  case otherType => rw [exec_csi2LongPacket hon hgang hskip, csiChannel_own _ hvc, longPacket_otherType hdt]
  case skipped => exact congrArg Host.Outcome.next (csiHeader_skipped hon hgang hdr hskip)
  case burst => exact congrArg Host.Outcome.next ((csiHeader_burst hon hgang .ok).trans (csiHeader_ok hon hgang (sensPort_burst s n)))
  case off =>
    have hsame (lost use : State → State) : csiHeader s n burst hdr lost use = s := csiHeader_off burst hdr hoff
    exact ⟨congrArg Host.Outcome.next (hsame ..), congrArg Host.Outcome.next (hsame ..), congrArg Host.Outcome.next (hsame ..),
      congrArg Host.Outcome.next (hsame ..)⟩
  case window =>
    exact ⟨startWin_first t hframe hwin hkind, fun _ => startWin_inSkew t hframe hwin hkind,
      fun _ => startWin_beyondSkew t hframe hwin hkind, startWin_extra t hframe hwin hkind⟩

end

section
/-! The drain of the packing FIFOs into the capture ring (R82, R87, R88). Settles O27. -/

namespace Sys2Proof.Machine

/-- A fault is a matter of registers alone (R488). -/
theorem fault_keeps {α : Type} (p : State → α) (hp : ∀ s f v, p (put s f v) = p s) (s : State) (k : Nat) : p (fault s k) = p s := by
  have hraise (u : State) (src : Nat) : p (raise u src) = p u := by
    unfold raise
    split
    · rfl
    · exact hp ..
  have hfirst (u : State) : p (fltFirst u k) = p u := by
    unfold fltFirst put2
    split
    · rfl
    · simp only [hp]
  have hnotify (u : State) : p (fltNotify u k) = p u := by
    unfold fltNotify bump bumpBy
    split <;> simp only [hfirst, hraise, hp]
  unfold fault
  dsimp only
  split
  · split <;> simp only [hnotify, hp]
  · rfl

/-- The frame of an event after it was changed, its event kept. -/
theorem findEv_modEv (s : State) (e : Nat) {f : Frame → Frame} (hf : ∀ x, (f x).ev = x.ev) :
    findEv (modEv s e f) e = (findEv s e).map f := by
  have hev (x : Frame) : ((if x.ev = e then f x else x).ev == e) = (x.ev == e) := by
    split
    · rw [hf]
    · rfl
  simp only [findEv, modEv, List.find?_map, Function.comp_def, hev]
  refine Option.map_congr fun x hx => ?_
  have hxe : x.ev = e := by simpa using List.find?_some hx
  rw [if_pos hxe]

/-! ## The word at the head (R87, R88) -/

/-- The word that drains leaves the FIFO of port n, and FILL shows the words r that remain. -/
def wordLeft (s : State) (n : Nat) (r : List FifoWord) : State :=
  put (modPort s n fun p => { p with fifo := r }) (R.INT_PORT_FIFO_STAT_FILL n) r.length

/-- R88: what the check of a word of event e found is counted and raised; an uncorrectable error damages the frame. -/
def wordChecked (s : State) (n e : Nat) : Ecc → State
  | .ok => s
  | .ce => fault (bump s (R.INT_PORT_ECC_CE n)) (fltIntEcc n)
  | .ue => fault (modEv (bump s (R.INT_PORT_ECC_UE n)) e fun x => { x with damaged := true }) fltIntFifoUe

/-- The bytes that word w writes: as packed, or as read where the check found an uncorrectable error. -/
def wordBytes (w : FifoWord) (data : List Byte) (ecc : Ecc) : List Byte :=
  if ecc = .ue then sliceBytes data 0 w.tag else w.data.take w.tag

/-- The check leaves the frame of the event, at most marked as damaged. -/
theorem findEv_wordChecked (s : State) (n e : Nat) (ecc : Ecc) : findEv (wordChecked s n e ecc) e =
    (findEv s e).map fun x => if ecc = .ue then { x with damaged := true } else x := by
  have hframes {u v : State} (h : u.intake = v.intake) : findEv u e = findEv v e := by rw [findEv, findEv, h]
  cases ecc with
  | ok => simp [wordChecked]
  | ce =>
    have hcounted : (wordChecked s n e .ce).intake = s.intake := fault_keeps State.intake put_intake ..
    rw [hframes hcounted]
    simp
  | ue =>
    rw [wordChecked, hframes (fault_keeps State.intake put_intake ..),
      findEv_modEv (f := fun x => { x with damaged := true }) _ _ fun _ => rfl]
    rfl

theorem fifoDrain_empty {s : State} {n : Nat} (ecc : Ecc) (data : List Byte) (h : (sensPort s n).fifo = []) :
    fifoDrain s n ecc data = s := by
  rw [fifoDrain, h]

/-- What word w of frame x does in state q: the tail word marks the window drained, a data word goes to its place in the slot. -/
def wordLands (q : State) (n : Nat) (w : FifoWord) (b : List Byte) (x : Frame) : State :=
  if w.tag = 0 then checkFinal (modWin q w.ev n fun v => { v with drained := true }) w.ev
  else fsWrite q (segAddr q x n w.row w.off) b

section
variable {s : State} {n : Nat} (ecc : Ecc) (data : List Byte) {w : FifoWord} {r : List FifoWord} (hfifo : (sensPort s n).fifo = w :: r)
include hfifo

/-- A word leaves the FIFO, its check is noted, and it lands where its frame still is. -/
theorem fifoDrain_word {o : Option Frame} (hfind : findEv (wordChecked (wordLeft s n r) n w.ev ecc) w.ev = o) :
    fifoDrain s n ecc data = let q := wordChecked (wordLeft s n r) n w.ev ecc
      emitAll (o.elim q (wordLands q n w (wordBytes w data ecc))) := by
  cases ecc <;> (simp only [wordChecked, wordLeft] at hfind ⊢; simp only [fifoDrain, hfifo, hfind]; cases o <;> rfl)

/-- A word whose frame has gone is dropped. -/
theorem fifoDrain_gone (hgone : findEv s w.ev = none) :
    fifoDrain s n ecc data = emitAll (wordChecked (wordLeft s n r) n w.ev ecc) :=
  fifoDrain_word ecc data hfifo ((findEv_wordChecked (wordLeft s n r) n w.ev ecc).trans (congrArg _ hgone))

section
variable {x : Frame} (hframe : findEv s w.ev = some x)
include hframe

/-- A word whose frame is there lands in it; what the check marked does not matter. -/
theorem fifoDrain_lands : fifoDrain s n ecc data = let q := wordChecked (wordLeft s n r) n w.ev ecc
    emitAll (wordLands q n w (wordBytes w data ecc) x) := by
  rw [fifoDrain_word ecc data hfifo ((findEv_wordChecked (wordLeft s n r) n w.ev ecc).trans (congrArg _ hframe))]
  cases ecc <;> rfl

theorem fifoDrain_tail (htag : w.tag = 0) : fifoDrain s n ecc data =
    emitAll (checkFinal (modWin (wordChecked (wordLeft s n r) n w.ev ecc) w.ev n fun v => { v with drained := true }) w.ev) :=
  (fifoDrain_lands ecc data hfifo hframe).trans (congrArg emitAll (if_pos htag))

theorem fifoDrain_data (htag : w.tag ≠ 0) : fifoDrain s n ecc data = let q := wordChecked (wordLeft s n r) n w.ev ecc
    emitAll (fsWrite q (segAddr q x n w.row w.off) (wordBytes w data ecc)) :=
  (fifoDrain_lands ecc data hfifo hframe).trans (congrArg emitAll (if_neg htag))

end

end

end Sys2Proof.Machine

open Sys2Proof Sys2Proof.Machine

/-- Settles O27: the word leaves, its check is noted, and its frame and tag decide where it goes. -/
theorem fifoWordsDrainToTheCaptureRing : Obligations.FifoWordsDrainToTheCaptureRing := by
  unfold Obligations.FifoWordsDrainToTheCaptureRing
  refine fun s n ecc data => ⟨fun hempty => congrArg Host.Outcome.next (fifoDrain_empty ecc data hempty), fun w r hfifo => ?_⟩
  intro p q b
  have hq : q = wordChecked (wordLeft s n r) n w.ev ecc := by cases ecc <;> rfl
  rw [hq]
  exact ⟨fun hgone => congrArg Host.Outcome.next (fifoDrain_gone ecc data hfifo hgone),
    fun x hframe => ⟨fun htag => congrArg Host.Outcome.next (fifoDrain_tail ecc data hfifo hframe htag),
      fun htag => congrArg Host.Outcome.next (fifoDrain_data ecc data hfifo hframe htag)⟩⟩

end

section
/-! Frames that the views complete and the monitor ports send (R92 to R100). Settles O28. -/

namespace Sys2Proof.Machine

/-! ## Views (R92 to R94) -/

section
variable {s : State} {v part tick : Nat}

theorem viewDone_completes {x : ViewSrc} {b : Nat} (hsrc : viewSource s part tick = some x) (hruns : viewRuns s x.old v = true)
    (hbuf : viewNextBuf s v tick = some b) : viewDone s v part tick =
      let z := viewPlace s x.old v b
      let k := countSkip (countSkip s v 0) v 1
      let u := fsWrite k z.addr ((viewRows k x.old v x.pic x.cfa z.w z.h).flatMap (rowBytes z.w))
      { u with intake := { u.intake with view := modAt u.intake.view v fun y => { y with last := some z, seqn := y.seqn + 1 } } } := by
  simp only [viewDone, hsrc, hruns, hbuf]

theorem viewDone_nothing (h : viewSource s part tick = none ∨ viewNextBuf s v tick = none ∨
    ∃ x, viewSource s part tick = some x ∧ viewRuns s x.old v = false) : viewDone s v part tick = s := by
  unfold viewDone
  cases hsrc : viewSource s part tick with
  | none => rfl
  | some x =>
    dsimp only
    obtain hnone | hbuf | ⟨y, hy, hstill⟩ := h
    · simp [hsrc] at hnone
    · rw [hbuf]
      cases viewRuns s x.old v <;> rfl
    · obtain rfl : x = y := by simpa [hsrc] using hy
      simp only [hstill]

end

/-! ## One read for both ports (R100) -/

/-- The frame that a read of its own fetches from the view's buffer. -/
def readRows (s : State) (z : ViewShot) : List (List Byte) :=
  (List.range z.h).map fun r => fsRead s (z.addr + r * (z.w * 5 / 2)) (z.w * 5 / 2)

/-- A read of its own for port m. -/
def freshRead (s : State) (m v : Nat) (z : ViewShot) : List (List Byte) × State :=
  (readRows s z, { s with intake := { s.intake with
    read := some { view := v, seqn := (viewSt s v).seqn, rows := readRows s z, fed := [m] }, reads := s.intake.reads + 1 } })

section
variable {s : State} (m : Nat) {v : Nat} (z : ViewShot)

theorem monFetch_none (h : s.intake.read = none) : monFetch s m v z = freshRead s m v z := by
  simp only [monFetch, h]; rfl

theorem monFetch_shared {r : MonRead} (h : s.intake.read = some r) (hview : r.view = v) (hseq : r.seqn = (viewSt s v).seqn)
    (hfed : r.fed.contains m = false) :
    monFetch s m v z = (r.rows, { s with intake := { s.intake with read := some { r with fed := m :: r.fed } } }) := by
  simp only [monFetch, h]
  exact if_pos ⟨hview, hseq, Bool.eq_false_iff.1 hfed⟩

theorem monFetch_stale {r : MonRead} (h : s.intake.read = some r)
    (hother : r.view ≠ v ∨ r.seqn ≠ (viewSt s v).seqn ∨ r.fed.contains m = true) : monFetch s m v z = freshRead s m v z := by
  simp only [monFetch, h]
  refine if_neg fun ⟨hview, hseq, hfed⟩ => ?_
  exact hother.elim (· hview) (·.elim (· hseq) hfed)

variable (s v)

/-- A fetch changes nothing but the read that stands and the count of reads. -/
theorem monFetch_state : ∃ r k, (monFetch s m v z).2 = { s with intake := { s.intake with read := r, reads := k } } := by
  unfold monFetch
  cases s.intake.read with
  | none => exact ⟨_, _, rfl⟩
  | some r =>
    dsimp only
    split
    · exact ⟨_, _, rfl⟩
    · exact ⟨_, _, rfl⟩

end

/-- What a fetch reads of the state is the same in s and t. -/
structure FetchAgrees (s t : State) : Prop where
  view : s.intake.view = t.intake.view
  read : s.intake.read = t.intake.read
  fs   : s.fs = t.fs
  cap  : fsCapacity s = fsCapacity t

theorem FetchAgrees.trans {s t u : State} (h : FetchAgrees s t) (h' : FetchAgrees t u) : FetchAgrees s u :=
  ⟨h.view.trans h'.view, h.read.trans h'.read, h.fs.trans h'.fs, h.cap.trans h'.cap⟩

theorem fetchAgrees_modMon (s : State) (m : Nat) (f : MonSt → MonSt) : FetchAgrees (modMon s m f) s := ⟨rfl, rfl, rfl, rfl⟩

section
variable {s t : State} (h : FetchAgrees s t) (m v : Nat) (z : ViewShot)
include h

theorem FetchAgrees.seqn : (viewSt s v).seqn = (viewSt t v).seqn := by rw [viewSt, viewSt, h.view]

theorem FetchAgrees.readRows_eq : readRows s z = readRows t z := by simp only [readRows, fsRead, h.fs, h.cap]

/-- Of two states that agree, a fetch brings the same rows and leaves the same read. -/
theorem FetchAgrees.fetch : (monFetch s m v z).1 = (monFetch t m v z).1 ∧ FetchAgrees (monFetch s m v z).2 (monFetch t m v z).2 := by
  have hfresh : (freshRead s m v z).1 = (freshRead t m v z).1 ∧ FetchAgrees (freshRead s m v z).2 (freshRead t m v z).2 :=
    ⟨h.readRows_eq z, h.view, by simp only [freshRead, h.seqn v, h.readRows_eq z], h.fs, h.cap⟩
  cases hread : t.intake.read with
  | none => rwa [monFetch_none m z hread, monFetch_none m z (h.read.trans hread)]
  | some r =>
    by_cases hshare : r.view = v ∧ r.seqn = (viewSt t v).seqn ∧ r.fed.contains m = false
    · obtain ⟨hview, hseq, hfed⟩ := hshare
      rw [monFetch_shared m z hread hview hseq hfed,
        monFetch_shared m z (h.read.trans hread) hview (hseq.trans (h.seqn v).symm) hfed]
      exact ⟨rfl, h.view, rfl, h.fs, h.cap⟩
    · have hother : r.view ≠ v ∨ r.seqn ≠ (viewSt t v).seqn ∨ r.fed.contains m = true := by
        rwa [Decidable.not_and_iff_or_not, Decidable.not_and_iff_or_not, Bool.not_eq_false] at hshare
      rw [monFetch_stale m z hread hother, monFetch_stale m z (h.read.trans hread) (by rwa [h.seqn v])]
      exact hfresh

end

/-! ## A port sends a frame (R96, R97, R99) -/

/-- A frame of view v that port m has sent before counts as a repeat. -/
def noteRepeat (s : State) (m v : Nat) : State :=
  if (monSt s m).sentView = some v ∧ (monSt s m).sentSeq = (viewSt s v).seqn then bump s (R.INT_MO_CNT_REPEAT m) else s

theorem noteRepeat_intake (s : State) (m v : Nat) : (noteRepeat s m v).intake = s.intake := by
  unfold noteRepeat
  split <;> rfl

theorem get_noteRepeat (s : State) (m v : Nat) {f : Fld} (h : fldKey f ≠ fldKey (R.INT_MO_CNT_REPEAT m)) :
    get (noteRepeat s m v) f = get s f := by
  unfold noteRepeat
  split
  · exact get_put_other _ _ h
  · rfl

theorem fetchAgrees_noteRepeat (s : State) (m v : Nat) : FetchAgrees (noteRepeat s m v) s where
  view := by rw [noteRepeat_intake]
  read := by rw [noteRepeat_intake]
  fs := by unfold noteRepeat; split <;> rfl
  cap := by
    rw [fsCapacity, get_noteRepeat _ _ _ (by simp only [fldKey, R.DRC_CFG_CAP, R.INT_MO_CNT_REPEAT]; omega), fsCapacity]

/-- The count of repeats is none of a port's settings. -/
theorem getF_noteRepeat (s : State) (m v : Nat) {f : Fld} (h : fldKey f ≠ fldKey (R.INT_MO_CNT_REPEAT m)) :
    getF (noteRepeat s m v) f = getF s f := by
  rw [getF, noteRepeat_intake, get_noteRepeat s m v h, getF]

theorem splitAsked_noteRepeat (s : State) (m v : Nat) : splitAsked (noteRepeat s m v) = splitAsked s := by
  have hmode : modeOf (noteRepeat s m v) = modeOf s :=
    get_noteRepeat _ _ _ (by simp only [fldKey, R.GLB_MODE_CUR, R.INT_MO_CNT_REPEAT]; omega)
  have hen (k : Nat) : getF (noteRepeat s m v) (R.INT_MO_CFG_EN k) = getF s (R.INT_MO_CFG_EN k) :=
    getF_noteRepeat _ _ _ (by simp only [fldKey, R.INT_MO_CFG_EN, R.INT_MO_CNT_REPEAT]; omega)
  have hsrc (k : Nat) : getF (noteRepeat s m v) (R.INT_MO_CFG_SRC k) = getF s (R.INT_MO_CFG_SRC k) :=
    getF_noteRepeat _ _ _ (by simp only [fldKey, R.INT_MO_CFG_SRC, R.INT_MO_CNT_REPEAT]; omega)
  simp only [splitAsked, monOn, hmode, hen, hsrc]

/-- What port m holds once it has started frame z of view v at cycle t: its number, and the packets with the rows fetched. -/
def monSent (s : State) (m v t : Nat) (z : ViewShot) : MonSt :=
  { startAt := some t, number := nextNumber (monSt s m).number, acc := monAcc (noteRepeat s m v) m, buf := some z.buf,
    sentView := some v, sentSeq := (viewSt s v).seqn,
    out := monPackets (splitAsked s) m z.w (nextNumber (monSt s m).number) (monFetch (noteRepeat s m v) m v z).1 }

/-- In split the packets have port m's half of each row's columns. -/
theorem monSent_split {s : State} {m v t : Nat} {z : ViewShot} {y : MonSt} {rows : List (List Byte)} (hsplit : splitAsked s = true)
    (hold : monSt s m = y) (hrows : (monFetch (noteRepeat s m v) m v z).1 = rows) :
    (monSent s m v t z).startAt = some t ∧ (monSent s m v t z).number = nextNumber y.number ∧
      (monSent s m v t z).out = monPackets true m z.w (nextNumber y.number) rows := by
  rw [monSent, hsplit, hold, hrows]
  exact ⟨rfl, rfl, rfl⟩

section
variable (s : State) (m v t : Nat) (z : ViewShot)

theorem monSend_eq : monSend s m v t z = modMon (monFetch (noteRepeat s m v) m v z).2 m fun _ => monSent s m v t z := by
  have hsplit : splitAsked (monFetch (noteRepeat s m v) m v z).2 = splitAsked s := by
    obtain ⟨r, k, hstate⟩ := monFetch_state (noteRepeat s m v) m v z
    rw [hstate]
    exact splitAsked_noteRepeat s m v
  rw [monSent, ← hsplit]
  rfl

/-- A port's start leaves what a fetch reads as its own fetch left it. -/
theorem fetchAgrees_monSend : FetchAgrees (monSend s m v t z) (monFetch s m v z).2 := by
  rw [monSend_eq]
  exact (fetchAgrees_modMon ..).trans ((fetchAgrees_noteRepeat s m v).fetch m v z).2

theorem splitAsked_monSend : splitAsked (monSend s m v t z) = splitAsked s := by
  obtain ⟨r, k, hstate⟩ := monFetch_state (noteRepeat s m v) m v z
  rw [monSend_eq, hstate]
  exact splitAsked_noteRepeat s m v

theorem monSend_mon : (monSend s m v t z).intake.mon = modAt s.intake.mon m fun _ => monSent s m v t z := by
  obtain ⟨r, k, hstate⟩ := monFetch_state (noteRepeat s m v) m v z
  rw [monSend_eq, hstate, ← noteRepeat_intake s m v]
  rfl

theorem length_mon_monSend : (monSend s m v t z).intake.mon.length = s.intake.mon.length := by
  rw [monSend_mon, len_modAt]

theorem monSt_monSend (h : m < s.intake.mon.length) : monSt (monSend s m v t z) m = monSent s m v t z := by
  rw [monSt, monSend_mon, nth_modAt, if_pos h]

theorem monSt_monSend_other {j : Nat} (h : j ≠ m) : monSt (monSend s m v t z) j = monSt s j := by
  rw [monSt, monSend_mon, nth_modAt_other _ _ _ h, monSt]

end

/-! ## A frame start (R97, R98) -/

section
variable {s : State} {m : Nat} (t : Nat)

theorem monStart_off (hoff : monOn s m = false) : monStart s m t = s := if_pos (by simp [hoff])

variable (hon : monOn s m = true)
include hon

theorem monStart_badSplit (hsplit : splitAsked s = true) (hbad : splitOk s = false) :
    monStart s m t = monBad (monBad s 0) 1 := by
  simp [monStart, hon, hsplit, hbad]

theorem monStart_noFit (hsplit : splitAsked s = false) (hbig : monFits s m = false) : monStart s m t = monBad s m := by
  simp [monStart, hon, hsplit, hbig]

section
variable {v : Nat} {z : ViewShot} (hfits : monFits s m = true) (hview : monView s m = some v) (hlast : (viewSt s v).last = some z)
  (hdue : monDue s m t = true)
include hfits hview hlast hdue

theorem monStart_single (hsplit : splitAsked s = false) : monStart s m t = monSend s m v t z := by
  simp [monStart, hon, hsplit, hfits, hview, hlast, hdue]

theorem monStart_split (hon0 : monOn s 0 = true) (hon1 : monOn s 1 = true) (hsplit : splitAsked s = true) (hok : splitOk s = true) :
    monStart s m t = monSend (monSend s 0 v t z) 1 v t z := by
  have hboth : (List.range 2).filter (monOn s) = [0, 1] := by simp [List.range_succ, hon0, hon1]
  simp [monStart, hon, hsplit, hok, hfits, hview, hlast, hdue, hboth]

end

end

/-- Where the conditions of split hold and port 0 is on, split is asked for. -/
theorem splitAsked_of_splitOk {s : State} (hon : monOn s 0 = true) (hok : splitOk s = true) : splitAsked s = true := by
  simp only [splitOk, Bool.and_eq_true] at hok
  simp [splitAsked, List.range_succ, hon, hok]

end Sys2Proof.Machine

open Sys2Proof Sys2Proof.Machine

/-- Settles O28: a view's frame goes to its next buffer, and a port's start is decided by what it lacks. -/
theorem viewsCompleteAndMonitorsStartFrames : Obligations.ViewsCompleteAndMonitorsStartFrames := by
  unfold Obligations.ViewsCompleteAndMonitorsStartFrames
  refine ⟨fun s v part tick b x hsrc hruns hbuf => ?completes, fun s v part tick h => ?nothing, fun s m t v z => ?single,
    fun s m v z => ⟨monFetch_none m z, fun r hread => ⟨monFetch_shared m z hread, monFetch_stale m z hread⟩⟩,
    fun s m t => ⟨fun hoff => ?off, fun hon hsplit hbad => ?badSplit, fun hon hsplit hbig => ?noFit⟩, fun s m t v z => ?split⟩
  case completes => exact congrArg Host.Outcome.next (viewDone_completes hsrc hruns hbuf)
  case nothing => exact congrArg Host.Outcome.next (viewDone_nothing h)
  case single =>
    intro u y hon hsplit hfits hview hlast hdue
    refine congrArg Host.Outcome.next ?_
    rw [monStart_single t hon hfits hview hlast hdue hsplit, monSend_eq, monSent, hsplit]
    rfl
  case off => exact congrArg Host.Outcome.next (monStart_off t hoff)
  case badSplit => exact congrArg Host.Outcome.next (monStart_badSplit t hon hsplit hbad)
  case noFit => exact congrArg Host.Outcome.next (monStart_noFit t hon hsplit hbig)
  case split =>
    intro u hon0 hon1 hok hfits hview hlast hdue hlen f0
    have hon : monOn u m = true := by
      match m with
      | 0 => exact hon0
      | 1 => exact hon1
    have hport (j : Nat) (hj : j < 2) : j < u.intake.mon.length := Nat.lt_of_lt_of_eq hj hlen.symm
    have hsplit := splitAsked_of_splitOk hon0 hok
    refine ⟨_, congrArg Host.Outcome.next (monStart_split t hon hfits hview hlast hdue hon0 hon1 hsplit hok), fun k => ?_⟩
    match k with
    | 0 =>
      rw [Fin.val_zero, monSt_monSend_other _ _ _ _ _ (by decide), monSt_monSend _ _ _ _ _ (hport 0 (by decide))]
      exact monSent_split hsplit rfl ((fetchAgrees_noteRepeat u 0 v).fetch 0 v z).1
    | 1 =>
      rw [Fin.val_one, monSt_monSend _ _ _ _ _ (by rw [length_mon_monSend]; exact hport 1 (by decide))]
      exact monSent_split ((splitAsked_monSend u 0 v t z).trans hsplit) (monSt_monSend_other u 0 v t z (by decide))
        (((fetchAgrees_noteRepeat _ 1 v).trans (fetchAgrees_monSend u 0 v t z)).fetch 1 v z).1
end

section
/-! Rows that the strands code, check, decode and commit, and the errors that meet them (R116 to R119, R154, R211 to R230, R259 to
R263). Settles O41. -/

namespace Sys2Proof.Machine

/-! ## What a strand works on -/

/-- A strand with a job serves the job's lane. -/
theorem lane_of_jobOf {s : State} {n l : Nat} {j : Job} (h : jobOf s n = some (l, j)) : (strandOf s n).lane = some l := by
  unfold jobOf at h
  cases hlane : (strandOf s n).lane with
  | none => simp [hlane] at h
  | some k =>
    simp only [hlane, Option.ite_none_right_eq_some, Option.map_eq_some_iff, Prod.mk.injEq] at h
    obtain ⟨-, -, -, rfl, -⟩ := h
    rfl

/-! ## The bound of the final samples (R154) -/

/-- The comparison fails exactly where some sample that is no padding lies beyond the bound of its bight. -/
theorem boundOk_eq_false_iff (r : RowIn) (src fin : List (List (List Nat))) :
    boundOk r src fin = false ↔ r.bounded = true ∧ ∃ k y x, k < nPlanes r.fmt ∧ y < r.rows ∧ x < planeW r.fmt k r.wb ∧
      r.eb (x / bightPW r.fmt k) < (nth (nth (nth src k []) y []) x 0 - nth (nth (nth fin k []) y []) x 0) +
        (nth (nth (nth fin k []) y []) x 0 - nth (nth (nth src k []) y []) x 0) := by
  simp only [boundOk, Bool.or_eq_false_iff, Bool.not_eq_false', List.all_eq_false, List.mem_range, Bool.not_eq_true,
    decide_eq_false_iff_not, Nat.not_le]
  refine and_congr_right fun _ => ⟨?_, ?_⟩
  · rintro ⟨k, hk, y, hy, x, hx, hfar⟩
    exact ⟨k, y, x, hk, hy, hx, hfar⟩
  · rintro ⟨k, y, x, hk, hy, hx, hfar⟩
    exact ⟨k, hk, y, hy, x, hx, hfar⟩

/-! ## ENC_ROW (R116 to R119, R154) -/

/-- What the next row of a strand is coded after: the rate state and the bottom row that the last staged row or the band left. -/
def rowBefore (x : StrandSt) (b : BandSt) : Rc × List (List Nat) :=
  match x.staged.getLast? with
  | some z => (z.next, bottomOf z.fin)
  | none => (b.rc, b.bottom)

/-- The samples that the next row of strand n is coded from: what HOOK_PRE left, or the source's. -/
def rowSource (s : State) (n : Nat) (d : List Byte) (f : FrameFix) (b : BandSt) : List (List (List Nat)) :=
  if jHookPre d then hookSamples (strandOf s n).sram f.layout (jBand d) else rowSamples s d f.layout (nextRow (strandOf s n) b)

/-- What the next row of strand n is coded with. -/
def rowInput (s : State) (n : Nat) (d : List Byte) (f : FrameFix) (b : BandSt) : RowIn :=
  encInput (frameFor s n f) (jBand d) (nextRow (strandOf s n) b) (rowBefore (strandOf s n) b).1.qp (rowBefore (strandOf s n) b).1.e
    (rowBefore (strandOf s n) b).2

/-- The next row of strand n as it is staged, with the samples and the bytes that events changed. -/
def rowCoded (s : State) (n : Nat) (d : List Byte) (f : FrameFix) (b : BandSt) (hits : List (Nat × Nat × Nat × Nat))
    (upset : List (Nat × Byte)) : Staged :=
  let c := codeRow s (frameFor s n f) d (rowBefore (strandOf s n) b).1 (nextRow (strandOf s n) b) (rowBefore (strandOf s n) b).2
    (rowSource s n d f b)
  { c with bytes := upsetBytes c.bytes upset, fin := hitSamples c.fin hits }

/-- The state with a row staged behind the others. -/
def stageRow (s : State) (n : Nat) (z : Staged) : State :=
  modStrand s n fun q => { q with staged := q.staged ++ [z], preDone := false }

/-- Nothing keeps strand n, running job j on band b of frame f, from its next row. -/
structure CodesNext (s : State) (n l : Nat) (j : Job) (b : BandSt) (f : FrameFix) : Prop where
  job : jobOf s n = some (l, j)
  band : (strandOf s n).band = some b
  frame : findFrame s b.frame = some f
  opc : jOpc j.desc = opEncRow
  sound : frayed s n = false
  room : (strandOf s n).staged.length < 2
  idle : (strandOf s n).routine = 0
  more : nextRow (strandOf s n) b < jobEnd j.desc f.layout
  alive : j.dead = false
  refs : refReady s f = true

section
variable {s : State} {n l : Nat} {j : Job} {b : BandSt} {f : FrameFix} (h : CodesNext s n l j b f)
  (hits : List (Nat × Nat × Nat × Nat)) (upset : List (Nat × Byte))
include h

theorem CodesNext.goesOn : ¬ (jOpc j.desc ≠ opEncRow ∨ frayed s n ∨ 2 ≤ (strandOf s n).staged.length ∨ (strandOf s n).routine ≠ 0 ∨
    jobEnd j.desc f.layout ≤ nextRow (strandOf s n) b ∨ j.dead ∨ !refReady s f) := by
  simp [h.opc, h.sound, h.room, h.idle, h.more, h.alive, h.refs]

/-- A hook on the source samples goes first, or ends the job where its entry is no open store code. -/
theorem encRow_pre (hpre : jHookPre j.desc = true) (hfirst : (strandOf s n).preDone = false) : encRow s n hits upset =
    if inStore (get s (R.STR_DISPATCH_ADDR (jPre j.desc))) then startPre s n j.desc f.layout (nextRow (strandOf s n) b)
    else endJob s n l jsBadOpcode 0xFFFF 0 b.runBytes := by
  simp only [encRow, h.job, h.band, h.frame, lane_of_jobOf h.job]
  rw [if_neg h.goesOn, if_pos (by simp [hpre, hfirst])]

/-- A row whose samples stand is coded: beyond its bound it frays the strand, else it is staged and a hook on it starts. -/
theorem encRow_coded (hpre : jHookPre j.desc = false ∨ (strandOf s n).preDone = true) : encRow s n hits upset =
    let z := rowCoded s n j.desc f b hits upset
    let st := stageRow s n z
    if boundOk (rowInput s n j.desc f b) (rowSource s n j.desc f b) z.fin = false then fray s n 3
    else if jHookMeta j.desc then
      if inStore (get s (R.STR_DISPATCH_ADDR (jMeta j.desc))) then startMeta st n j.desc z
      else endJob st n l jsBadOpcode 0xFFFF 0 b.runBytes
    else st := by
  have hready : ¬ (jHookPre j.desc && !(strandOf s n).preDone) = true := by
    obtain hpre | hpre := hpre <;> simp [hpre]
  simp only [encRow, h.job, h.band, h.frame, lane_of_jobOf h.job, Bool.not_eq_true]
  rw [if_neg h.goesOn, if_neg hready]
  rfl

end

/-! ## Corrected errors of strand SRAM (R259, R273) -/

theorem sramCe_zero (s : State) (n : Nat) : sramCe s n 0 = s := if_pos (.inl rfl)

theorem sramCe_counts {s : State} {n ce : Nat} (hjob : (jobOf s n).isSome = true) (hce : ce ≠ 0) :
    sramCe s n ce = fault (bumpBy s (R.STR_SRAM_ECC_CE n) ce) (fltStrCe n) := by
  rw [Option.isSome_iff_ne_none] at hjob
  simp [sramCe, hce, hjob]

/-- A step with corrected errors is the step without any, on the state in which they are counted. -/
theorem finSettle_sramCe (step : State → State) (s : State) (n ce : Nat) :
    finSettle (step (sramCe s n ce)) = finSettle (step (sramCe (sramCe s n ce) n 0)) := by
  rw [sramCe_zero]

section
variable {n : Strand} {s u : State}

theorem encRow_completes {hits : List (Nat × Nat × Nat × Nat)} {upset : List (Nat × Byte)} (h : encRow s n hits upset = u) :
    Completes (.encRow n hits upset 0) s u := by
  change finSettle (encRow (sramCe s n 0) n hits upset) = _
  rw [sramCe_zero, h, finSettle]

theorem echoDone_completes (h : echoDone s n = u) : Completes (.echoCheckDone ⟨n, 0⟩) s u := by
  change finSettle (echoDone (sramCe s n 0) n) = _
  rw [sramCe_zero, h, finSettle]

theorem decRow_completes (h : decRow s n = u) : Completes (.decRow ⟨n, 0⟩) s u := by
  change finSettle (decRow (sramCe s n 0) n) = _
  rw [sramCe_zero, h, finSettle]

end

/-! ## ECHO_CHECK_DONE (R228 to R230) -/

/-- The check of a staged row is counted, and its outcome shown. -/
def echoShown (s : State) (n c : Nat) : State := put (bump s (R.STR_ECHO_CNT_COUNT n)) (R.STR_ECHO_STAT_LAST n) c

section
variable {s : State} {n : Nat} {b : BandSt} {z : Staged} {f : FrameFix} (hband : (strandOf s n).band = some b)
  (hrow : (strandOf s n).staged.find? (fun z => !z.matched && z.after.isNone) = some z) (hframe : findFrame s b.frame = some f)
  (hsound : frayed s n = false)
include hband hrow hframe hsound

theorem echoDone_match (hecho : echoOf (frameFor s n f) b.band z = 0) : echoDone s n =
    modStrand (noteMatch (echoShown s n 0) b.frame b.band z.row) n fun q =>
      { q with staged := q.staged.map (fun w => if w.row = z.row then { w with matched := true, handed := true } else w),
               ues := q.ues.filter fun u => z.row < u.1, readErr := q.readErr.filter fun u => z.row < u.1 } := by
  simp only [echoDone, hband, hrow, hframe, hsound, hecho]
  rfl

theorem echoDone_miss (hecho : echoOf (frameFor s n f) b.band z ≠ 0) : echoDone s n =
    let u := echoShown s n (echoOf (frameFor s n f) b.band z)
    fray (noteMiss (bump (put (put u (R.STR_ECHO_STAT_FAIL n) 1) (R.STR_ECHO_STAT_ROW n) z.row) (R.STR_ECHO_FAIL_CNT_COUNT n))
      b.frame b.band z.row n) n 2 := by
  simp only [echoDone, hband, hrow, hframe, hsound, if_neg hecho]
  rfl

end

/-! ## ROW_COMMIT (R118, R263) -/

section
variable {s : State} {n : Nat} (writes waited t : Nat)

theorem rowCommit_quarantined (hnone : (strandOf s n).staged = []) (hquar : strState s n = strQuar) :
    rowCommit s n writes waited t = bumpBy s (R.STR_STALE_CNT_COUNT n) writes := by
  simp only [rowCommit, hnone, List.head?_nil, hquar, if_true]

variable {z : Staged} {rest : List Staged} (hfirst : (strandOf s n).staged = z :: rest) (hhanded : z.handed = true)
include hfirst hhanded

theorem rowCommit_stale (hgate : gateOpen s n = false) : rowCommit s n writes waited t =
    bumpBy (modStrand s n fun q => { q with staged := q.staged.drop 1 }) (R.STR_STALE_CNT_COUNT n) writes := by
  simp [rowCommit, hfirst, hhanded, hgate]

variable {l : Nat} {j : Job} {b : BandSt} (hgate : gateOpen s n = true) (hjob : jobOf s n = some (l, j))
  (hband : (strandOf s n).band = some b)
include hgate hjob hband

theorem rowCommit_coded {f : FrameFix} (hcoded : z.after = none) (hframe : findFrame s b.frame = some f)
    (hmeta : jHookMeta j.desc = false ∨ z.metaRow ≠ none) : rowCommit s n writes waited t = commitEnc s n l j f b z waited t := by
  obtain hmeta | hmeta := hmeta <;> simp [rowCommit, hfirst, hhanded, hgate, hjob, hband, hcoded, hframe, hmeta]

theorem rowCommit_decoded {b' : BandSt} {df : DecFrame} (hdecoded : z.after = some b') (hframe : findDec s b.frame = some df) :
    rowCommit s n writes waited t = commitDec s n l j df b' z waited t := by
  simp [rowCommit, hfirst, hhanded, hgate, hjob, hband, hdecoded, hframe]

end

/-! ## The no-commit interval and double errors of strand SRAM (R259, R260) -/

theorem noCommit_due {s : State} {n l waited t : Nat} {j : Job} (hjob : jobOf s n = some (l, j)) (hcustom : isCustom (jOpc j.desc) = false)
    (htest : jOpc j.desc ≠ opSelfTest) (hidle : (strandOf s n).routine = 0) (hsound : frayed s n = false)
    (hruns : strandWaits s n = false) (hdue : 250 * usCycles + (strandOf s n).since + waited ≤ t) : noCommit s n waited t =
      fray (putMax (stamp s t) (R.STR_WDOG_MAX_US n) ((t - (strandOf s n).since - waited) / usCycles)) n 1 := by
  simp [noCommit, hjob, hcustom, htest, hidle, hsound, hruns, Nat.not_lt.2 hdue]

section
variable {s : State} {n : Nat}

theorem sramUe_free (hfree : jobOf (bump s (R.STR_SRAM_ECC_UE n)) n = none) : sramUe s n = bump s (R.STR_SRAM_ECC_UE n) := by
  simp [sramUe, hfree]

theorem sramUe_busy {p : Nat × Job} (hjob : jobOf (bump s (R.STR_SRAM_ECC_UE n)) n = some p) (hsound : frayed s n = false)
    (hactive : strState (bump s (R.STR_SRAM_ECC_UE n)) n = strActive) : sramUe s n =
      let r := rowHand (strandOf s n)
      let k := (lookupKey (strandOf s n).ues r).getD 0 + 1
      let v := modStrand (bump s (R.STR_SRAM_ECC_UE n)) n fun x => { x with ues := insertKey x.ues r k }
      if 3 ≤ k then fray v n 5 else restartRow v n := by
  have hmeets : ¬ ((jobOf (bump s (R.STR_SRAM_ECC_UE n)) n).isNone = true ∨ frayed (bump s (R.STR_SRAM_ECC_UE n)) n = true ∨
      strState (bump s (R.STR_SRAM_ECC_UE n)) n ≠ strActive) := by
    have hsound' : frayed (bump s (R.STR_SRAM_ECC_UE n)) n = false := hsound
    simp [hjob, hsound', hactive]
  exact if_neg hmeets

end

/-! ## DEC_ROW (R211 to R219) -/

/-- The step that the records of a band lead to: a row that passed every check is staged, and any other end but a wait conceals the
rest of the job's rows. -/
def foundStep (s : State) (j : Job) (df : DecFrame) (b : BandSt) : DecRes → DecStep
  | .row w r p fin =>
    let w' := if r.row + 1 = lyRows df.layout ∧ b.band + 1 = lyBands df.layout then
      { decTail s (w.rest.length + 4) { w with b := { w.b with rows := r.row + 1, good := some r.row } } with b := w.b } else w
    .stage b w' (decStaged s j b w' r p fin)
  | .past w => decRest s j b w
  | .stop w e => decRest s j b (w.conceal (jobEnd j.desc df.layout) (if w.df.hdr = 2 then 6 else if e then 4 else 5))
  | .more w => decRest s j b (w.conceal (jobEnd j.desc df.layout) 4)
  | .wait => .wait

/-- What the records of a band lead to from its place on. -/
def decFound (s : State) (j : Job) (df : DecFrame) (b : BandSt) : DecRes :=
  decLoop s (jobEnd j.desc df.layout) ((decWork s j df b).rest.length + 4) (decWork s j df b)

section
variable {s : State} {n : Nat}

theorem decRow_stage {b : BandSt} {w : DecWork} {z : Staged} (h : decStep s n = .stage b w z) : decRow s n = decStage s n b w z := by
  simp only [decRow, h]

theorem decRow_wait (h : decStep s n = .wait) : decRow s n = s := by
  simp only [decRow, h]

/-- The rest of the rows waits for the frames that it is filled from. -/
theorem decRow_rest {j : Job} {b : BandSt} {w : DecWork} (h : decStep s n = decRest s j b w) : decRow s n =
    if decReady s w.df (fillRefs w.df (decPlace s j b w)) then decStage s n b w { blankRow b.rc with
      row := w.b.rows - 1, after := some (decPlace s j b w), errs := w.errs, hurt := b.rows < w.b.rows } else s := by
  by_cases hready : decReady s w.df (fillRefs w.df (decPlace s j b w)) = true
  · rw [if_pos hready]
    exact decRow_stage (h.trans (if_neg (not_not_intro hready)))
  · rw [if_neg hready]
    exact decRow_wait (h.trans (if_pos hready))

end

/-- Nothing keeps strand n, running job j on band b of frame df, from decoding its next row. -/
structure DecodesNext (s : State) (n l : Nat) (j : Job) (b : BandSt) (df : DecFrame) : Prop where
  job : jobOf s n = some (l, j)
  band : (strandOf s n).band = some b
  frame : findDec s b.frame = some df
  opc : jOpc j.desc = opDecRow
  sound : frayed s n = false
  empty : (strandOf s n).staged = []
  alive : j.dead = false
  more : b.rows < jobEnd j.desc df.layout

section
variable {s : State} {n l : Nat} {j : Job} {b : BandSt} {df : DecFrame} (h : DecodesNext s n l j b df)
include h

theorem DecodesNext.goesOn : ¬ (jOpc j.desc ≠ opDecRow ∨ frayed s n ∨ !(strandOf s n).staged.isEmpty ∨ j.dead ∨
    jobEnd j.desc df.layout ≤ b.rows) := by
  simp [h.opc, h.sound, h.empty, h.alive, h.more]

/-- A band other than 0 waits until the frame start has been met. -/
theorem decStep_unmet (hhdr : df.hdr = 0) (hband : b.band ≠ 0) : decStep s n = .wait := by
  simp only [decStep, h.job, h.band, h.frame]
  rw [if_neg h.goesOn, if_pos ⟨hhdr, hband⟩]

theorem decStep_met (hmet : df.hdr ≠ 0 ∨ b.band = 0) : decStep s n = foundStep s j df b (decFound s j df b) := by
  have hgo : ¬ (df.hdr = 0 ∧ b.band ≠ 0) := fun ⟨hhdr, hband⟩ => hmet.elim (· hhdr) hband
  simp only [decStep, h.job, h.band, h.frame]
  rw [if_neg h.goesOn, if_neg hgo, decFound]
  cases decLoop s (jobEnd j.desc df.layout) ((decWork s j df b).rest.length + 4) (decWork s j df b) <;> rfl

end

theorem foundStep_row {s : State} {j : Job} {df : DecFrame} {b : BandSt} (w : DecWork) {r : RowIn} (p : RowParse)
    (fin : List (List (List (List Int)))) (hmore : r.row + 1 < lyRows df.layout ∨ b.band + 1 < lyBands df.layout) :
    foundStep s j df b (.row w r p fin) = .stage b w (decStaged s j b w r p fin) := by
  have hnot : ¬ (r.row + 1 = lyRows df.layout ∧ b.band + 1 = lyBands df.layout) := by omega
  simp only [foundStep, if_neg hnot]

/-- Behind the last row of a frame's last band the records up to the frame end are read too. -/
theorem foundStep_lastRow {s : State} {j : Job} {df : DecFrame} {b : BandSt} (w : DecWork) {r : RowIn} (p : RowParse)
    (fin : List (List (List (List Int)))) (hrow : r.row + 1 = lyRows df.layout) (hband : b.band + 1 = lyBands df.layout) :
    foundStep s j df b (.row w r p fin) =
      let w' := { decTail s (w.rest.length + 4) { w with b := { w.b with rows := r.row + 1, good := some r.row } } with b := w.b }
      .stage b w' (decStaged s j b w' r p fin) := by
  have hlast : r.row + 1 = lyRows df.layout ∧ b.band + 1 = lyBands df.layout := ⟨hrow, hband⟩
  simp only [foundStep, if_pos hlast]

end Sys2Proof.Machine

open Sys2Proof Sys2Proof.Machine

/-- Settles O41: what a strand has in hand decides what each of its steps comes to. The number of dropped writes, the waits that stop
the interval and the readings of decoded bands are the model's (log entries 49, 55, 56). -/
theorem rowsAreCodedCheckedAndCommitted : Obligations.RowsAreCodedCheckedAndCommitted := by
  unfold Obligations.RowsAreCodedCheckedAndCommitted
  refine ⟨fun s n hits upset l j b f hjob hband hframe hopc hsound hroom hidle hmore halive hrefs => ?encRow,
    fun s n hits upset ce => ?corrected, fun s n b z f hband hrow hframe hsound => ?echoCheck, fun s n writes waited t => ?rowCommit,
    fun s n waited t l j hjob hcustom htest hidle hsound hruns hdue =>
      congrArg finSettle (noCommit_due hjob hcustom htest hidle hsound hruns hdue),
    fun s n => ⟨fun hfree => congrArg finSettle (sramUe_free hfree),
      fun p hjob hsound hactive => congrArg finSettle (sramUe_busy hjob hsound hactive)⟩,
    fun s n l j b df hjob hband hframe hopc hsound hempty halive hmore => ?decRow⟩
  case encRow =>
    have hnext : CodesNext s n l j b f := ⟨hjob, hband, hframe, hopc, hsound, hroom, hidle, hmore, halive, hrefs⟩
    refine ⟨fun hpre hfirst => encRow_completes (encRow_pre hnext hits upset hpre hfirst), fun hpre => ?_⟩
    have hcoded := encRow_coded hnext hits upset hpre
    have hbound := boundOk_eq_false_iff (rowInput s n j.desc f b) (rowSource s n j.desc f b) (rowCoded s n j.desc f b hits upset).fin
    have hstands (hwithin) := hcoded.trans (if_neg (mt hbound.1 hwithin))
    refine ⟨fun hbeyond => ?_, fun hwithin hmeta => ?_, fun hwithin hmeta => ?_⟩
    · exact encRow_completes (hcoded.trans (if_pos (hbound.2 hbeyond)))
    · exact encRow_completes ((hstands hwithin).trans (if_neg (Bool.eq_false_iff.1 hmeta)))
    · exact encRow_completes ((hstands hwithin).trans (if_pos hmeta))
  case corrected =>
    exact ⟨sramCe_counts, finSettle_sramCe (encRow · n hits upset) s n ce, finSettle_sramCe (decRow · n) s n ce,
      finSettle_sramCe (echoJob · n) s n ce, finSettle_sramCe (echoDone · n) s n ce⟩
  case echoCheck =>
    refine ⟨fun hmatch => echoDone_completes ?_, fun hmiss => echoDone_completes (echoDone_miss hband hrow hframe hsound hmiss)⟩
    rw [hmatch]
    exact echoDone_match hband hrow hframe hsound hmatch
  case rowCommit =>
    refine ⟨fun hnone hquar => congrArg finSettle (rowCommit_quarantined (s := stamp s t) writes waited t hnone hquar),
      fun z rest hfirst hhanded => ⟨fun hgate => ?_, fun l j b f hgate hjob hband hcoded hframe hmeta => ?_,
        fun l j b b' df hgate hjob hband hdecoded hframe => ?_⟩⟩
    · exact congrArg finSettle (rowCommit_stale (s := stamp s t) writes waited t hfirst hhanded hgate)
    · exact congrArg finSettle (rowCommit_coded (s := stamp s t) writes waited t hfirst hhanded hgate hjob hband hcoded hframe hmeta)
    · exact congrArg finSettle (rowCommit_decoded (s := stamp s t) writes waited t hfirst hhanded hgate hjob hband hdecoded hframe)
  case decRow =>
    have hnext : DecodesNext s n l j b df := ⟨hjob, hband, hframe, hopc, hsound, hempty, halive, hmore⟩
    refine ⟨fun hhdr hother => decRow_completes (decRow_wait (decStep_unmet hnext hhdr hother)), fun hmet => ?_⟩
    have hstep {r : DecRes} (hfound : decFound s j df b = r) : decStep s n = foundStep s j df b r := hfound ▸ decStep_met hnext hmet
    refine ⟨fun w r p fin hfound hmore => ?_, fun w r p fin hfound hrow hlast => ?_, fun w hfound => decRow_completes ?_,
      fun w e hfound => decRow_completes ?_, fun w hfound => decRow_completes ?_, fun hfound => decRow_completes ?_⟩
    · exact decRow_completes (decRow_stage ((hstep hfound).trans (foundStep_row w p fin hmore)))
    · exact decRow_completes (decRow_stage ((hstep hfound).trans (foundStep_lastRow w p fin hrow hlast)))
    · exact decRow_rest (hstep hfound)
    · exact decRow_rest (hstep hfound)
    · exact decRow_rest (hstep hfound)
    · exact decRow_wait (hstep hfound)

end

section
/-! Jobs that the strands start, the jobs that run in the open store, on checkpoints or as echo checks, and how a job ends (R232, R241,
R243 to R245, R257, R258). Settles O40. -/

namespace Sys2Proof.Machine

/-! ## JOB_START (R243, R244) -/

/-- Strand n has taken the job j at the head of lane l, and shows it. -/
def takeJob (s : State) (n l : Nat) (j : Job) : State :=
  let m := modLane s l fun x => { x with running := true, lastAt := s.clk }
  let run := modStrand m n fun x =>
    { x with lane := some l, last := l, since := s.clk, epoch := get m (R.STR_LANE_MAP_EPOCH l), ues := [], readErr := [],
             preDone := false }
  showJob run n (jOpc j.desc) j.part (jTag j.desc)

/-- The status of the checks on a job that a strand takes, the one of the mode in force first. -/
def takenStatus (s : State) (l : Nat) (j : Job) : Nat :=
  if jobPermitted (modeOf s) (jOpc j.desc) (namedState s j.desc) then headStatus s l j false else jsModeDenied

/-- The frame of a job. -/
def frameOfJob (s : State) (j : Job) : FrameId := jobFrame s j (fsRead s (jLayout j.desc) 64)

/-- The strand that took an ENC_ROW or DEC_ROW job has what it codes its rows with: the frame, the band state and the count. -/
def loadRows (s : State) (n l : Nat) (j : Job) : State :=
  let a := fixFrame s j
  startCount (loadBand (if jOpc j.desc = opDecRow then fixDecoded a j else a) n l j) l (frameOfJob s j) (jBand j.desc)

/-- Strand n is to take the job j at the head of lane l. -/
structure TakesJob (s : State) (n l : Nat) (j : Job) : Prop where
  active : strState s n = strActive
  free : strandFree s n = true
  lane : nextLane s n = some l
  head : (laneOf s l).queue.head? = some j

section
variable {s : State} {n l : Nat} {j : Job} (h : TakesJob s n l j)
include h

/-- A job that is taken ends by its checks or as a dropped proxy frame, is loaded as a job on rows, or runs. -/
theorem startJob_takes : startJob s n =
    let u := takeJob s n l j
    if takenStatus s l j ≠ jsOK then endJob u n l (takenStatus s l j) 0xFFFF 0 0
    else if jOpc j.desc = opEncRow ∧ proxyCut u (frameOfJob u j) = true then endJob u n l jsAborted 0xFFFF 0 0
    else if jOpc j.desc = opEncRow ∨ jOpc j.desc = opDecRow then
      if jobEnd j.desc (fsRead u (jLayout j.desc) 64) = jFirst j.desc then endJob (loadRows u n l j) n l jsOK 0xFFFF 0 0
      else loadRows u n l j
    else u := by
  simp only [startJob, if_pos (And.intro h.active h.free), h.lane, h.head]
  rfl

theorem startJob_refused (hst : takenStatus s l j ≠ jsOK) :
    startJob s n = endJob (takeJob s n l j) n l (takenStatus s l j) 0xFFFF 0 0 :=
  (startJob_takes h).trans (if_pos hst)

variable (hst : takenStatus s l j = jsOK)
include hst

theorem startJob_cut (hopc : jOpc j.desc = opEncRow) (hcut : proxyCut (takeJob s n l j) (frameOfJob (takeJob s n l j) j) = true) :
    startJob s n = endJob (takeJob s n l j) n l jsAborted 0xFFFF 0 0 := by
  rw [startJob_takes h]
  exact (if_neg (not_not_intro hst)).trans (if_pos ⟨hopc, hcut⟩)

theorem startJob_rows (hopc : jOpc j.desc = opEncRow ∨ jOpc j.desc = opDecRow)
    (hkept : jOpc j.desc = opDecRow ∨ proxyCut (takeJob s n l j) (frameOfJob (takeJob s n l j) j) = false) :
    startJob s n =
      let u := takeJob s n l j
      if jobEnd j.desc (fsRead u (jLayout j.desc) 64) = jFirst j.desc then endJob (loadRows u n l j) n l jsOK 0xFFFF 0 0
      else loadRows u n l j := by
  have hnotCut : ¬ (jOpc j.desc = opEncRow ∧ proxyCut (takeJob s n l j) (frameOfJob (takeJob s n l j) j) = true) := by
    rintro ⟨henc, hcut⟩
    obtain hdec | hkept := hkept
    · exact absurd (henc.symm.trans hdec) (by decide)
    · exact Bool.false_ne_true (hkept.symm.trans hcut)
  rw [startJob_takes h]
  exact (if_neg (not_not_intro hst)).trans ((if_neg hnotCut).trans (if_pos hopc))

theorem startJob_runs (henc : jOpc j.desc ≠ opEncRow) (hdec : jOpc j.desc ≠ opDecRow) : startJob s n = takeJob s n l j := by
  rw [startJob_takes h]
  exact (if_neg (not_not_intro hst)).trans ((if_neg fun hcut => henc hcut.1).trans (if_neg (not_or_intro henc hdec)))

end

theorem jobStart_completes {s u : State} {n : Strand} {t : Nat} (hrun : anchored s = false) (h : startJob (stamp s t) n = u) :
    Completes (.jobStart n t) s u := by
  change finSettle (if anchored s = true then s else startJob (stamp s t) n) = _
  rw [hrun, if_neg Bool.false_ne_true, h, finSettle]

/-! ## CUSTOM jobs (R257, R258) -/

section
variable {s : State} {n l : Nat} {j : Job} (hjob : jobOf s n = some (l, j)) (hcustom : isCustom (jOpc j.desc) = true)
  (hidle : (strandOf s n).routine = 0) (hsound : frayed s n = false)
include hjob hcustom hidle hsound

theorem startCustom_starts : startCustom s n =
    let e := get s (R.STR_DISPATCH_ADDR (jOpc j.desc - 0x10))
    if ¬ inStore e then endJob s n l jsBadOpcode 0xFFFF 0 0
    else startRoutine (modStrand s n fun x =>
        { x with sram := memWriteAll x.sram Config.customArea (fsRead s (jSrc j.desc) (jArg j.desc 0)) }) n 3 e
      [(1, Config.customArea), (2, jArg j.desc 1), (3, jArg j.desc 2), (4, jArg j.desc 3), (5, jArg j.desc 4), (6, jArg j.desc 5)] := by
  have hready : ¬ (¬ isCustom (jOpc j.desc) = true ∨ (strandOf s n).routine ≠ 0 ∨ frayed s n = true) := by
    simp [hcustom, hidle, hsound]
  simp only [startCustom, hjob, if_neg hready]

theorem startCustom_badEntry (hentry : inStore (get s (R.STR_DISPATCH_ADDR (jOpc j.desc - 0x10))) = false) :
    startCustom s n = endJob s n l jsBadOpcode 0xFFFF 0 0 :=
  (startCustom_starts hjob hcustom hidle hsound).trans (if_pos (Bool.eq_false_iff.1 hentry))

theorem startCustom_enters (hentry : inStore (get s (R.STR_DISPATCH_ADDR (jOpc j.desc - 0x10))) = true) : startCustom s n =
    startRoutine (modStrand s n fun x =>
        { x with sram := memWriteAll x.sram Config.customArea (fsRead s (jSrc j.desc) (jArg j.desc 0)) })
      n 3 (get s (R.STR_DISPATCH_ADDR (jOpc j.desc - 0x10)))
      [(1, Config.customArea), (2, jArg j.desc 1), (3, jArg j.desc 2), (4, jArg j.desc 3), (5, jArg j.desc 4), (6, jArg j.desc 5)] :=
  (startCustom_starts hjob hcustom hidle hsound).trans (if_neg (not_not_intro hentry))

end

theorem custom_completes {s u : State} {n : Strand} {t : Nat} (hrun : anchored s = false) (h : startCustom (stamp s t) n = u) :
    Completes (.custom n t) s u := by
  change finSettle (if anchored s = true then s else startCustom (stamp s t) n) = _
  rw [hrun, if_neg Bool.false_ne_true, h, finSettle]

/-- 300,000 cycles are the 250 µs of R258. -/
theorem customTimeout_completes {s : State} {n : Strand} {t : Nat} (hruns : (strandOf s n).routine ≠ 0)
    (hdue : 300000 + (strandOf s n).routAt ≤ t) : Completes (.customTimeout n t) s (customFault (stamp s t) n) :=
  congrArg finSettle (if_pos ⟨hruns, hdue⟩)

/-! ## LOADCTX (R241) -/

/-- The checkpoint that a LOADCTX job names, where it is good. -/
def ctxNamed (s : State) (j : Job) : Option BandSt :=
  let y := fsRead s (jLayout j.desc) 64
  ckptRead s y (if jSrc j.desc = 0 then ckptSlot y (jBand j.desc) (jFirst j.desc - 1) else jSrc j.desc) (frameOfJob s j)
    (jBand j.desc) (jFirst j.desc - 1) none

/-- The band state that a LOADCTX job restores from a good checkpoint: that of a decoded frame takes its row above from the frame. -/
def ctxRestored (s : State) (j : Job) (b : BandSt) : BandSt :=
  match findDec s (frameOfJob s j) with
  | some df => decBand s df df.dst b
  | none => b

/-- Lane l counts the rows that a LOADCTX job restores as committed, in the epoch in force. -/
def ctxCounted (s : State) (l : Nat) (j : Job) : State :=
  let v := put (startCount s l (frameOfJob s j) (jBand j.desc)) (R.STR_LANE_CNT_ROWS l) (jFirst j.desc)
  modLane v l fun x => { x with ckEpoch := get v (R.STR_LANE_MAP_EPOCH l) }

section
variable {s : State} {n l : Nat} {j : Job} (hjob : jobOf s n = some (l, j)) (hopc : jOpc j.desc = opLoadCtx)
include hjob hopc

theorem loadCtx_bad (hbad : jFirst j.desc = 0 ∨ ctxNamed s j = none) : loadCtx s n = endJob s n l jsBadCtx 0xFFFF 0 0 := by
  have hnone : (if jFirst j.desc = 0 then none else ctxNamed s j) = none := ite_eq_left_iff.2 fun hrow => hbad.resolve_left hrow
  simp only [ctxNamed, frameOfJob] at hnone
  simp only [loadCtx, hjob, hopc, ne_eq, not_true_eq_false, if_false, hnone]

theorem loadCtx_restores {b : BandSt} (hrow : jFirst j.desc ≠ 0) (hgood : ctxNamed s j = some b) : loadCtx s n =
    endJob (modStrand (ctxCounted s l j) n fun x => { x with band := some (ctxRestored s j b) }) n l jsOK 0xFFFF 0 0 := by
  simp only [ctxNamed, frameOfJob] at hgood
  simp only [loadCtx, hjob, hopc, ne_eq, not_true_eq_false, if_false, hrow, hgood]
  rfl

end

/-! ## SAVECTX (R241) -/

/-- The committed rows of the band that a job names. -/
def rowsOfJob (s : State) (l : Nat) (j : Job) : Nat := countFor s l (frameOfJob s j) (jBand j.desc)

/-- The checkpoint of the last committed row of the band that a job names, where it is good. -/
def lastCkpt (s : State) (l : Nat) (j : Job) : Option BandSt :=
  let y := fsRead s (jLayout j.desc) 64
  let c := rowsOfJob s l j
  ckptRead s y (ckptSlot y (jBand j.desc) (c - 1)) (frameOfJob s j) (jBand j.desc) (c - 1) none

/-- A band state stands where the committed rows of the band that a job names end. -/
def StandsAtCount (s : State) (l : Nat) (j : Job) (b : BandSt) : Prop :=
  b.frame = frameOfJob s j ∧ b.band = jBand j.desc ∧ b.rows = rowsOfJob s l j

/-- The band state of strand n, where it stands there. -/
def heldBand (s : State) (n l : Nat) (j : Job) : Option BandSt :=
  (strandOf s n).band.filter fun b => b.frame == frameOfJob s j && b.band == jBand j.desc && b.rows == rowsOfJob s l j

theorem heldBand_of_standsAtCount {s : State} {n l : Nat} {j : Job} {b : BandSt} (hband : (strandOf s n).band = some b)
    (hstands : StandsAtCount s l j b) : heldBand s n l j = some b := by
  obtain ⟨hframe, hnamed, hcount⟩ := hstands
  rw [heldBand, hband, Option.filter_some, if_pos (by simp [hframe, hnamed, hcount])]

theorem heldBand_eq_none {s : State} {n l : Nat} {j : Job} (hother : ∀ b, (strandOf s n).band = some b → ¬ StandsAtCount s l j b) :
    heldBand s n l j = none := by
  rw [heldBand, Option.filter_eq_none_iff]
  intro b hb
  simpa [StandsAtCount, and_assoc] using hother b hb

section
variable {s : State} {n l : Nat} {j : Job} (hjob : jobOf s n = some (l, j)) (hopc : jOpc j.desc = opSaveCtx)
include hjob hopc

theorem saveCtx_noRow (hrows : rowsOfJob s l j = 0) : saveCtx s n = endJob s n l jsBadRow 0xFFFF 0 0 := by
  simp only [rowsOfJob, frameOfJob] at hrows
  simp only [saveCtx, hjob, hopc, ne_eq, not_true_eq_false, if_false, hrows, if_true]

variable (hrows : rowsOfJob s l j ≠ 0)
include hrows

/-- A band that the strand holds goes to OUT as it is, but that a decoded one takes its row above from the frame. -/
theorem saveCtx_held {b : BandSt} (hband : (strandOf s n).band = some b) (hstands : StandsAtCount s l j b) : saveCtx s n =
    let y := fsRead s (jLayout j.desc) 64
    let x := match findDec s (frameOfJob s j) with
      | some df => ckptBottom s df df.dst b
      | none => (b.bottom, s)
    endJob (fsWrite x.2 (jOut j.desc) (ckptImage y { b with bottom := x.1 } (get x.2 (R.STR_LANE_MAP_EPOCH l)))) n l jsOK 0xFFFF 0 0 := by
  have hbandHeld := heldBand_of_standsAtCount hband hstands
  simp only [heldBand, rowsOfJob, frameOfJob] at hrows hbandHeld
  simp only [saveCtx, hjob, hopc, ne_eq, not_true_eq_false, if_false, hrows, hbandHeld]
  rfl

variable (hother : ∀ b, (strandOf s n).band = some b → ¬ StandsAtCount s l j b)
include hother

theorem saveCtx_ckpt {b : BandSt} (hgood : lastCkpt s l j = some b) : saveCtx s n =
    endJob (fsWrite s (jOut j.desc) (ckptImage (fsRead s (jLayout j.desc) 64) b (laneOf s l).ckEpoch)) n l jsOK 0xFFFF 0 0 := by
  have hbandOther := heldBand_eq_none hother
  simp only [heldBand, lastCkpt, rowsOfJob, frameOfJob] at hrows hbandOther hgood
  simp only [saveCtx, hjob, hopc, ne_eq, not_true_eq_false, if_false, hrows, hbandOther, hgood]

theorem saveCtx_noCkpt (hbad : lastCkpt s l j = none) : saveCtx s n = endJob s n l jsBadRow 0xFFFF 0 0 := by
  have hbandOther := heldBand_eq_none hother
  simp only [heldBand, lastCkpt, rowsOfJob, frameOfJob] at hrows hbandOther hbad
  simp only [saveCtx, hjob, hopc, ne_eq, not_true_eq_false, if_false, hrows, hbandOther, hbad]

end

/-! ## ECHO_JOB (R232) -/

/-- An ECHO job ends with the rows that it checked, the first failing row and its outcome. -/
def echoEnds (s : State) (n l : Nat) (j : Job) (rows failRow outcome : Nat) : State :=
  let m := modJob s l fun q => { q with rows := rows }
  endJob (if outcome = 0 then m else raiseP m j.part srcEchoJobFail) n l (if outcome = 0 then jsOK else jsEchoFail) failRow outcome 0

section
variable {s : State} {n l : Nat} {j : Job} (hjob : jobOf s n = some (l, j)) (hopc : jOpc j.desc = opEcho)
include hjob hopc

/-- With no parameters to parse the rows with, the outcome is free (log entry 56). -/
theorem echoJob_unknown (hnone : echoInput s j (fsRead s (jLayout j.desc) 64) (jBand j.desc) = none) :
    echoJob s n =
      let y := fsRead s (jLayout j.desc) 64
      echoEnds (useFree s) n l j (min (lyRows y) (jobEnd j.desc y) - jFirst j.desc) 0xFFFF (freeVal s % 7) := by
  simp only [echoJob, hjob, hopc, ne_eq, not_true_eq_false, if_false, hnone]
  rfl

theorem echoJob_checks {r : RowIn} (hsome : echoInput s j (fsRead s (jLayout j.desc) 64) (jBand j.desc) = some r) : echoJob s n =
    let bs := runBytesFrom s (runAll s (jSrc j.desc)) 0
    let y := fsRead s (jLayout j.desc) 64
    let x := echoRun r (jFirst j.desc) (min (lyRows y) (jobEnd j.desc y) - jFirst j.desc) (bs.length + 1) bs
    echoEnds s n l j x.1 x.2.1 x.2.2 := by
  simp only [echoJob, hjob, hopc, ne_eq, not_true_eq_false, if_false, hsome]
  rfl

end

theorem echoJob_completes {s u : State} {n : Strand} (h : echoJob s n = u) : Completes (.echoJob ⟨n, 0⟩) s u := by
  change finSettle (echoJob (sramCe s n 0) n) = _
  rw [sramCe_zero, h, finSettle]

/-! ## The end of a job (R245) -/

/-- The state with the running job of lane l gone from its queue and strand n free. -/
def dropJob (s : State) (n l : Nat) : State :=
  freeStrand (modLane s l fun x => { x with queue := x.queue.drop 1, running := false }) n

theorem endJob_running {s : State} {l : Nat} {j : Job} (n status failRow outcome detail : Nat) (hjob : runningJob s l = some j) :
    endJob s n l status failRow outcome detail =
      takeoverDue (jobRecord (dropJob s n l) j status failRow outcome n (get (dropJob s n l) (R.STR_LANE_MAP_EPOCH l)) detail) n := by
  simp only [endJob, hjob]
  rfl

theorem jobRecord_alive (s : State) {j : Job} (status failRow outcome strand epoch detail : Nat) (halive : j.dead = false) :
    jobRecord s j status failRow outcome strand epoch detail =
      let w := writeRecord s j.part j.seq j.space (j.addr + 0x70)
        (recordBytes status j.spliced j.ovf j.damaged (jTag j.desc) j.rows failRow outcome strand epoch detail)
      if jNotify j.desc then raiseP (tagPost w j.part (jTag j.desc)) j.part srcJobDone else tagPost w j.part (jTag j.desc) :=
  if_neg (Bool.eq_false_iff.1 halive)

theorem takeoverDue_none {s : State} {n : Nat}
    (h : strState s n ≠ strActive ∨ (laneOf s (get s (R.STR_STATE_LANE n))).takeover = false) : takeoverDue s n = s := by
  refine if_neg fun ⟨hactive, _, hplanned, _⟩ => ?_
  exact h.elim (· hactive) fun hnone => Bool.false_ne_true (hnone.symm.trans hplanned)

end Sys2Proof.Machine

open Sys2Proof Sys2Proof.Machine

/-- Settles O40: the checks of R243 decide how a job starts, and what a running job finds how it ends. The epoch that LOADCTX does not
compare and the source of SAVECTX (log entry 38), the status of a dropped proxy frame (log entry 64) and the free outcome of an ECHO job
with unknown parameters (log entry 56) are the model's. -/
theorem strandJobsStartAndCompleteAsChecked : Obligations.StrandJobsStartAndCompleteAsChecked := by
  unfold Obligations.StrandJobsStartAndCompleteAsChecked
  refine ⟨fun s n t l j hrun hactive hfree hlane hhead => ?jobStart, fun s n t l j hrun hjob hcustom hidle hsound => ?custom,
    fun s n t => customTimeout_completes, fun s n l j hjob => ?context, fun s n l status failRow outcome detail j hjob halive => ?ends⟩
  case jobStart =>
    have htakes : TakesJob (stamp s t) n l j := ⟨hactive, hfree, hlane, hhead⟩
    refine ⟨fun hst => ?_, fun hst henc hdec => ?_, fun hst hopc => ⟨fun henc hcut => ?_, fun hkept => ?_⟩⟩
    · exact jobStart_completes hrun (startJob_refused htakes hst)
    · exact jobStart_completes hrun (startJob_runs htakes hst henc hdec)
    · exact jobStart_completes hrun (startJob_cut htakes hst henc hcut)
    · exact jobStart_completes hrun (startJob_rows htakes hst hopc hkept)
  case custom =>
    refine ⟨fun hentry => ?_, fun hentry => ?_⟩
    · exact custom_completes hrun (startCustom_badEntry (s := stamp s t) hjob hcustom hidle hsound hentry)
    · exact custom_completes hrun (startCustom_enters (s := stamp s t) hjob hcustom hidle hsound hentry)
  case context =>
    refine ⟨fun hopc hbad => ?_, fun b hopc hrow hgood => ?_, fun hopc hrows => ?_, fun b hopc hrows hband hframe hnamed hcount => ?_,
      fun hopc hrows hother => ?_, fun hopc => ⟨fun hnone => ?_, fun r hsome => ?_⟩⟩
    · exact congrArg finSettle (loadCtx_bad hjob hopc hbad)
    · exact congrArg finSettle (loadCtx_restores hjob hopc hrow hgood)
    · exact congrArg finSettle (saveCtx_noRow hjob hopc hrows)
    · have hsave := saveCtx_held hjob hopc hrows hband ⟨hframe, hnamed, hcount⟩
      refine ⟨fun hcoded => congrArg finSettle ?_, fun df hdecoded => congrArg finSettle ?_⟩
      · simpa only [frameOfJob, hcoded] using hsave
      · simpa only [frameOfJob, hdecoded] using hsave
    · exact ⟨fun hbad => congrArg finSettle (saveCtx_noCkpt hjob hopc hrows hother hbad),
        fun b hgood => congrArg finSettle (saveCtx_ckpt hjob hopc hrows hother hgood)⟩
    · exact echoJob_completes (echoJob_unknown hjob hopc hnone)
    · exact echoJob_completes (by simpa only [echoEnds] using echoJob_checks hjob hopc hsome)
  case ends =>
    intro f w r hstays
    rw [endJob_running n status failRow outcome detail hjob, jobRecord_alive _ _ _ _ _ _ _ halive]
    exact takeoverDue_none hstays

end

section
/-! Microwords: what the fetch finds, and what the parts of a word do (R250 to R259). Settles O38. -/

namespace Sys2Proof.Machine

/-! ## The fetch (R250, R256, R259) -/

/-- Strand n, neither frayed nor quarantined, has the word w at its microPC. -/
structure FetchesWord (s : State) (n : Nat) (w : MicroWord) : Prop where
  sound : frayed s n = false
  inService : strState s n ≠ strQuar
  word : fetchWord s (get s (R.STR_UPC_ADDR n)) = some w

/-- What strand n does with the word w that it fetches, as the check of the fetch finds it. -/
def fetchedStep (s : State) (n : Nat) (w : MicroWord) (eng : Bool) (ecc : Ecc) : State :=
  let pc := get s (R.STR_UPC_ADDR n)
  match ecc with
  | .ok => uWord s n pc w eng
  | .ce =>
    if inRom pc ∧ (lookupKey s.strs.patchAt pc).isNone then storeUe s n
    else uWord (fault (bump s (R.STR_CS_ECC_CE n)) (fltStrCe n)) n pc w eng
  | .ue => storeUe s n

theorem uStep_unmapped {s : State} {n : Nat} (ecc : Ecc) (w : MicroWord) (eng : Bool) (op : MicroWord → Bool)
    (hsound : frayed s n = false) (hservice : strState s n ≠ strQuar) (hnone : fetchWord s (get s (R.STR_UPC_ADDR n)) = none) :
    uStep n ecc w eng op s = finSettle (uIllegal s n (decide ((strandOf s n).routine ≠ 0))) := by
  simp only [uStep, hsound, hservice, hnone, Bool.false_eq_true, or_self, if_false]

section
variable {s : State} {n : Nat} {w : MicroWord} {i : Instr} {eng : Bool} {op : MicroWord → Bool}

/-- A command that names an operation of the word fetched, or an illegal word, is carried out. -/
theorem fetched_completes {ecc : Ecc} {u : State} (hi : exec i s = uStep n ecc w eng op s) (h : FetchesWord s n w)
    (hop : op w = true ∨ uBad s n (inStore (get s (R.STR_UPC_ADDR n))) w = true) (hu : fetchedStep s n w eng ecc = u) :
    Completes i s u := by
  have hruns : ¬ (frayed s n = true ∨ strState s n = strQuar) := by simp [h.sound, h.inService]
  have hnamed : ¬ (w ≠ w ∨ ¬ (op w = true ∨ uBad s n (inStore (get s (R.STR_UPC_ADDR n))) w = true)) := by simp [hop]
  refine hi.trans ?_
  rw [← hu]
  simp only [uStep, if_neg hruns, h.word, if_neg hnamed]
  cases ecc with
  | ok => rfl
  | ce => exact (apply_ite finSettle _ _ _).symm
  | ue => rfl

theorem micro_completes {u : State} (hi : exec i s = uStep n .ok w eng op s) (h : FetchesWord s n w)
    (hop : op w = true ∨ uBad s n (inStore (get s (R.STR_UPC_ADDR n))) w = true)
    (hu : uWord s n (get s (R.STR_UPC_ADDR n)) w eng = u) : Completes i s u :=
  fetched_completes hi h hop hu

/-- The ROM takes no correction: an error in a word that no patch replaces is as good as an uncorrectable one (R256). -/
theorem fetchedStep_ceRom (hrom : inRom (get s (R.STR_UPC_ADDR n)) = true)
    (hunpatched : lookupKey s.strs.patchAt (get s (R.STR_UPC_ADDR n)) = none) : fetchedStep s n w eng .ce = storeUe s n :=
  if_pos ⟨hrom, by rw [hunpatched]; rfl⟩

theorem fetchedStep_ceRam (hram : inRom (get s (R.STR_UPC_ADDR n)) = false) : fetchedStep s n w eng .ce =
    uWord (fault (bump s (R.STR_CS_ECC_CE n)) (fltStrCe n)) n (get s (R.STR_UPC_ADDR n)) w eng :=
  if_neg fun hrom => Bool.false_ne_true (hram.symm.trans hrom.1)

end

/-! ## The parts of a word (R250, R251) -/

/-- The condition of word w on strand n. -/
def condHolds (s : State) (n : Nat) (w : MicroWord) (eng : Bool) : Bool := condVal s n (uCond w) eng != uCinv w

/-- The SRAM address of a word's access. -/
def accessAt (s : State) (n : Nat) (w : MicroWord) : Nat := ureg (strandOf s n) (uSrcA w) + uImm w

/-- The access of a word, if it has one, lies in the areas of the code at pc. -/
def AccessReaches (s : State) (n pc : Nat) (w : MicroWord) : Prop :=
  ∀ k b, memSize (uMem w) = some (k, b) → inStore pc = true → sramAllowed s n true (accessAt s n w) k = true

/-- What an ALU code with its result and carry leaves of a strand. -/
def aluWrite (op dst : Nat) (r : Nat × Option Bool) (z : StrandSt) : StrandSt :=
  let f := { z with zero := r.1 == 0, neg := bitAt r.1 31, carry := r.2.getD z.carry }
  if op = 0x0F then f else setUreg f dst r.1

section
variable {s : State} {n pc : Nat} {w : MicroWord}

theorem accessReaches_none (hmem : memSize (uMem w) = none) : AccessReaches s n pc w :=
  fun k b hsize => absurd (hmem.symm.trans hsize) (Option.some_ne_none (k, b)).symm

theorem accessReaches_some {k : Nat} {b : Bool} (hmem : memSize (uMem w) = some (k, b))
    (hreach : inStore pc = true → sramAllowed s n true (accessAt s n w) k = true) : AccessReaches s n pc w := by
  intro k' b' hsize
  obtain ⟨rfl, rfl⟩ := Prod.mk.inj (Option.some.inj (hmem.symm.trans hsize))
  exact hreach

/-! ALU and MEM -/

theorem uData_alu (halu : uAlu w ≠ 0) (hmem : memSize (uMem w) = none) : uData s n w = modStrand s n (aluWrite (uAlu w) (uDst w)
    (uAluOp (uAlu w) (ureg (strandOf s n) (uSrcA w)) (ureg (strandOf s n) (uSrcB w)) (uImm w) (ureg (strandOf s n) (uDst w)))) := by
  simp only [uData, hmem, if_neg halu]
  rfl

theorem uData_plain (halu : uAlu w = 0) (hmem : memSize (uMem w) = none) : uData s n w = s := by
  simp only [uData, hmem, if_pos halu, modStrand_id]

theorem uData_load {k : Nat} (halu : uAlu w = 0) (hmem : memSize (uMem w) = some (k, false)) : uData s n w =
    modStrand s n fun z => setUreg z (uDst w) (leVal (memRead (strandOf s n).sram (accessAt s n w) k)) := by
  simp only [uData, hmem, modStrand_id, halu, true_or, if_true]
  rfl

theorem uData_store {k : Nat} (halu : uAlu w = 0) (hmem : memSize (uMem w) = some (k, true)) : uData s n w =
    modStrand s n fun z => { z with sram := memWriteAll z.sram (accessAt s n w) (leBytes k (ureg (strandOf s n) (uSrcB w))) } := by
  simp only [uData, hmem, if_pos halu, modStrand_id]
  rfl

/-! STK and NX -/

section
variable (taken : Bool)

theorem uNext_sequential (hstk : uStk w = 0) (hnx : uNx w = 0 ∨ uNx w = 2) : uNext s n pc w taken =
    put s (R.STR_UPC_ADDR n) ((pc + 1) % 8192) := by
  obtain hnx | hnx := hnx <;> simp [uNext, hstk, hnx]

theorem uNext_branch (hstk : uStk w = 0) (hnx : uNx w = 1) : uNext s n pc w taken =
    put s (R.STR_UPC_ADDR n) (if taken then uTarget w else (pc + 1) % 8192) := by
  simp [uNext, hstk, hnx]

theorem uNext_dispatch (hstk : uStk w = 0) (hnx : uNx w = 3) : uNext s n pc w taken = uDispatchTo s n := by
  simp [uNext, hstk, hnx]

theorem uNext_call (hstk : uStk w = 1) (hnx : uNx w = 1) : uNext s n pc w taken =
    put (modStrand s n fun z => { z with stack := (pc + 1) % 8192 :: z.stack }) (R.STR_UPC_ADDR n)
      (if taken then uTarget w else (pc + 1) % 8192) := by
  simp [uNext, hstk, hnx]

theorem uNext_return {r : Nat} {rs : List Nat} (hstk : uStk w = 2) (hstack : (strandOf s n).stack = r :: rs) :
    uNext s n pc w taken = put (modStrand s n fun z => { z with stack := rs }) (R.STR_UPC_ADDR n) r := by
  simp [uNext, hstk, hstack]

theorem uNext_returnEmpty (hstk : uStk w = 2) (hstack : (strandOf s n).stack = []) : uNext s n pc w taken = routineEnd s n := by
  simp [uNext, hstk, hstack]

end

/-! ## One microword (R250, R258) -/

theorem uWord_illegal (eng : Bool) (hbad : uBad s n (inStore pc) w = true) : uWord s n pc w eng = uIllegal s n (inStore pc) :=
  if_pos hbad

section
variable {eng : Bool} (hlegal : uBad s n (inStore pc) w = false)
include hlegal

theorem uWord_outside {k : Nat} {b : Bool} (hmem : memSize (uMem w) = some (k, b))
    (hout : ¬ (inStore pc = true → sramAllowed s n true (accessAt s n w) k = true)) : uWord s n pc w eng = customFault s n := by
  obtain ⟨hstore, hout⟩ := Classical.not_imp.1 hout
  rw [accessAt] at hout
  rw [hstore] at hlegal
  simp [uWord, hstore, hlegal, hmem, hout]

/-- A legal word within its areas acts, but where it waits for its condition. -/
theorem uWord_legal (hreach : AccessReaches s n pc w) : uWord s n pc w eng =
    if uNx w = 2 ∧ ¬ condHolds s n w eng then s
    else uNext (if uCommit w then uHand (uData s n w) n else uData s n w) n pc w (condHolds s n w eng) := by
  cases hstore : inStore pc with
  | false => rw [hstore] at hlegal; simp only [uWord, hstore, hlegal, Bool.and_false, Bool.false_eq_true, if_false]; rfl
  | true =>
    rw [hstore] at hlegal
    cases hmem : memSize (uMem w) with
    | none => simp only [uWord, hstore, hlegal, hmem, Bool.not_true, Bool.false_and, Bool.false_eq_true, if_false]; rfl
    | some x =>
      have hallowed := hreach x.1 x.2 hmem hstore
      rw [accessAt] at hallowed
      simp only [uWord, hstore, hlegal, hmem, hallowed, Bool.not_true, Bool.false_and, Bool.false_eq_true, if_false]
      rfl

section
variable (hnx : uNx w = 0) (hstk : uStk w = 0) (hcommit : uCommit w = false)
include hnx hstk hcommit

/-- A word of ALU and MEM alone goes on sequentially. -/
theorem uWord_data (hreach : AccessReaches s n pc w) :
    uWord s n pc w eng = put (uData s n w) (R.STR_UPC_ADDR n) ((pc + 1) % 8192) := by
  rw [uWord_legal hlegal hreach, uNext_sequential _ hstk (.inl hnx)]
  simp [hnx, hcommit]

theorem uWord_alu (halu : uAlu w ≠ 0) (hmem : memSize (uMem w) = none) : uWord s n pc w eng =
    put (modStrand s n (aluWrite (uAlu w) (uDst w) (uAluOp (uAlu w) (ureg (strandOf s n) (uSrcA w)) (ureg (strandOf s n) (uSrcB w))
      (uImm w) (ureg (strandOf s n) (uDst w))))) (R.STR_UPC_ADDR n) ((pc + 1) % 8192) := by
  rw [uWord_data hlegal hnx hstk hcommit (accessReaches_none hmem), uData_alu halu hmem]

section
variable (halu : uAlu w = 0) {k : Nat} (hreach : inStore pc = true → sramAllowed s n true (accessAt s n w) k = true)
include halu hreach

theorem uWord_load (hmem : memSize (uMem w) = some (k, false)) : uWord s n pc w eng =
    put (modStrand s n fun z => setUreg z (uDst w) (leVal (memRead (strandOf s n).sram (accessAt s n w) k)))
      (R.STR_UPC_ADDR n) ((pc + 1) % 8192) := by
  rw [uWord_data hlegal hnx hstk hcommit (accessReaches_some hmem hreach), uData_load halu hmem]

theorem uWord_store (hmem : memSize (uMem w) = some (k, true)) : uWord s n pc w eng =
    put (modStrand s n fun z => { z with sram := memWriteAll z.sram (accessAt s n w) (leBytes k (ureg (strandOf s n) (uSrcB w))) })
      (R.STR_UPC_ADDR n) ((pc + 1) % 8192) := by
  rw [uWord_data hlegal hnx hstk hcommit (accessReaches_some hmem hreach), uData_store halu hmem]

end

end

/-- A word of STK and NX alone. -/
theorem uWord_control (halu : uAlu w = 0) (hmem : memSize (uMem w) = none) (hcommit : uCommit w = false)
    (hgo : uNx w = 2 → condHolds s n w eng = true) : uWord s n pc w eng = uNext s n pc w (condHolds s n w eng) := by
  rw [uWord_legal hlegal (accessReaches_none hmem), uData_plain halu hmem, if_neg fun hwait => hwait.2 (hgo hwait.1)]
  simp [hcommit]

theorem uWord_waits (hmem : memSize (uMem w) = none) (hnx : uNx w = 2) (hwait : condHolds s n w eng = false) :
    uWord s n pc w eng = s := by
  rw [uWord_legal hlegal (accessReaches_none hmem), if_pos ⟨hnx, Bool.eq_false_iff.1 hwait⟩]

theorem uWord_commit (halu : uAlu w = 0) (hmem : memSize (uMem w) = none) (hnx : uNx w = 0) (hstk : uStk w = 0)
    (hcommit : uCommit w = true) : uWord s n pc w eng = put (uHand s n) (R.STR_UPC_ADDR n) ((pc + 1) % 8192) := by
  rw [uWord_legal hlegal (accessReaches_none hmem), uNext_sequential _ hstk (.inl hnx), uData_plain halu hmem]
  simp [hnx, hcommit]

end

end

end Sys2Proof.Machine

open Sys2Proof Sys2Proof.Machine

/-- Settles O38: a legal word of the ALU alone leaves the strand what `uAluOp` gives for its code, and goes on sequentially. The carry
of a subtraction is the one that Config.carryIsBorrow names (log entry 39). -/
theorem aluMicrowordsComputeResultsAndFlags : Obligations.AluMicrowordsComputeResultsAndFlags := by
  unfold Obligations.AluMicrowordsComputeResultsAndFlags
  intro s n w eng x pc a b d sa sb si sub next flags res hsound hservice hword hmem hnx hstk hcommit
  have hfetch : FetchesWord s n w := ⟨hsound, hservice, hword⟩
  have hsize : memSize (uMem w) = none := congrArg memSize hmem
  refine ⟨fun hlegal => ?legal, fun hcode => ?illegal⟩
  case legal =>
    have computes {i : Instr} {op : Nat} (hi : exec i s = uStep n .ok w eng (hasAlu op) s) (hop : op ≠ 0) (halu : uAlu w = op) :
        Completes i s (next (aluWrite op (uDst w) (uAluOp op a b (uImm w) d))) := by
      subst halu
      exact micro_completes hi hfetch (.inl (beq_self_eq_true (uAlu w))) (uWord_alu hlegal hnx hstk hcommit hop hsize)
    exact ⟨computes rfl (by decide), computes rfl (by decide), computes rfl (by decide), computes rfl (by decide),
      computes rfl (by decide), computes rfl (by decide), computes rfl (by decide), computes rfl (by decide),
      computes rfl (by decide), computes rfl (by decide), computes rfl (by decide), computes rfl (by decide),
      computes rfl (by decide), computes rfl (by decide), computes rfl (by decide)⟩
  case illegal =>
    have hbad : uBad s n (inStore pc) w = true := by simp [uBad, hcode]
    exact micro_completes rfl hfetch (.inr hbad) (uWord_illegal eng hbad)

end

section
/-! What COMMIT and dispatch of a microword do (R250, R253, R257). Settles O39. -/

namespace Sys2Proof.Machine

section
variable {s : State} {n : Nat}

/-! ## COMMIT (R250, R257) -/

theorem uHand_rows (hroutine : (strandOf s n).routine ≠ 3) : uHand s n =
    modStrand s n fun z => { z with staged := z.staged.map fun r => if r.matched then { r with handed := true } else r } := by
  simp [uHand, hroutine]

theorem uHand_custom {l : Nat} {j : Job} (hroutine : (strandOf s n).routine = 3) (hjob : jobOf s n = some (l, j)) : uHand s n =
    if gateOpen s n then fsWrite s (jOut j.desc) (memRead (strandOf s n).sram Config.customArea (jArg j.desc 0))
    else bump s (R.STR_STALE_CNT_COUNT n) := by
  simp only [uHand, hroutine, hjob]

/-! ## Dispatch (R253) -/

/-- The strand's routine ends as it dispatches. -/
def leaveRoutine (s : State) (n : Nat) : State :=
  if (strandOf s n).routine = 3 then routineEnd s n else modStrand s n fun z => { z with routine := 0 }

theorem uDispatchTo_none (hhead : queueHead (leaveRoutine s n) n = none) : uDispatchTo s n = leaveRoutine s n := by
  rw [leaveRoutine] at hhead
  simp only [uDispatchTo, hhead]
  rfl

section
variable {j : Job} (hhead : queueHead (leaveRoutine s n) n = some j)
include hhead

theorem uDispatchTo_rom (hcustom : isCustom (jOpc j.desc) = false) :
    uDispatchTo s n = put (leaveRoutine s n) (R.STR_UPC_ADDR n) (Config.romDispatch (jOpc j.desc) % 4096) := by
  rw [leaveRoutine] at hhead
  simp only [uDispatchTo, hhead, hcustom, Bool.false_eq_true, if_false]
  rfl

variable (hcustom : isCustom (jOpc j.desc) = true)
include hcustom

theorem uDispatchTo_store (hentry : inStore (get (leaveRoutine s n) (R.STR_DISPATCH_ADDR (jOpc j.desc - 0x10))) = true) :
    uDispatchTo s n = put (leaveRoutine s n) (R.STR_UPC_ADDR n) (get (leaveRoutine s n) (R.STR_DISPATCH_ADDR (jOpc j.desc - 0x10))) := by
  rw [leaveRoutine] at hhead hentry
  simp only [uDispatchTo, hhead, hcustom, if_true, hentry]
  rfl

theorem uDispatchTo_badEntry {l : Nat} {k : Job}
    (hentry : inStore (get (leaveRoutine s n) (R.STR_DISPATCH_ADDR (jOpc j.desc - 0x10))) = false)
    (hjob : jobOf (leaveRoutine s n) n = some (l, k)) : uDispatchTo s n = endJob (leaveRoutine s n) n l jsBadOpcode 0xFFFF 0 0 := by
  rw [leaveRoutine] at hhead hentry hjob
  simp only [uDispatchTo, hhead, hcustom, if_true, hentry, Bool.false_eq_true, if_false, hjob]
  rfl

end

end

end Sys2Proof.Machine

open Sys2Proof Sys2Proof.Machine

/-- Settles O39: each part of a legal word acts on its own, and the check of the fetch decides whether the word acts at all. RETURN on
an empty stack ending the routine, the depth at which CALL pushes and the byte address of MEM (log entry 55) are the model's. -/
theorem memoryControlAndCommitMicrowordsTakeEffect : Obligations.MemoryControlAndCommitMicrowordsTakeEffect := by
  unfold Obligations.MemoryControlAndCommitMicrowordsTakeEffect
  intro s n w eng x pc seq at_ next load store holds reach illegal fetched plain hsound hservice
  have fetches (hword : fetched) : FetchesWord s n w := ⟨hsound, hservice, hword⟩
  refine ⟨fun hword hlegal => ⟨fun halu hnx hstk hcommit => ?memory, ?branch, ?wait, ?call, ?ret, ?retEmpty,
    fun hmem halu hcommit hnx hstk => ?commit, fun hplain hnx hstk => ?dispatch⟩, ?illegal, ?unmapped,
    ⟨?ue, ?storeUe, ?ceRom⟩, ?ceRam⟩
  case memory =>
    have accesses {i : Instr} {m : Nat} {u : State} (hi : exec i s = uStep n .ok w eng (hasMem m) s) (hmem : uMem w = m)
        (hu : uWord s n pc w eng = u) : Completes i s u :=
      micro_completes hi (fetches hword) (.inl (beq_of_eq hmem)) hu
    exact ⟨fun hmem hreach => accesses rfl hmem (uWord_load hlegal hnx hstk hcommit halu hreach (congrArg memSize hmem)),
      fun hmem hreach => accesses rfl hmem (uWord_load hlegal hnx hstk hcommit halu hreach (congrArg memSize hmem)),
      fun hmem hreach => accesses rfl hmem (uWord_store hlegal hnx hstk hcommit halu hreach (congrArg memSize hmem)),
      fun hmem hreach => accesses rfl hmem (uWord_store hlegal hnx hstk hcommit halu hreach (congrArg memSize hmem)),
      fun hmem hout => accesses rfl hmem (uWord_outside hlegal (congrArg memSize hmem) hout),
      fun hmem hout => accesses rfl hmem (uWord_outside hlegal (congrArg memSize hmem) hout),
      fun hmem hout => accesses rfl hmem (uWord_outside hlegal (congrArg memSize hmem) hout),
      fun hmem hout => accesses rfl hmem (uWord_outside hlegal (congrArg memSize hmem) hout)⟩
  case branch =>
    rintro ⟨hmem, halu, hcommit⟩ hnx hstk
    refine micro_completes (op := fun w => uNx w == 1 || plainWord w) rfl (fetches hword) (.inl (by simp [hnx])) ?_
    rw [uWord_control hlegal halu (congrArg memSize hmem) hcommit (by simp [hnx]), uNext_branch _ hstk hnx]
    rfl
  case wait =>
    rintro ⟨hmem, halu, hcommit⟩ hnx hstk
    refine micro_completes (op := (uNx · == 2)) rfl (fetches hword) (.inl (beq_of_eq hnx)) ?_
    by_cases hcond : holds = true
    · rw [uWord_control hlegal halu (congrArg memSize hmem) hcommit fun _ => hcond, uNext_sequential _ hstk (.inr hnx), if_pos hcond]
    · rw [uWord_waits hlegal (congrArg memSize hmem) hnx (Bool.eq_false_iff.2 hcond), if_neg hcond]
  case call =>
    rintro ⟨hmem, halu, hcommit⟩ hnx hstk
    refine micro_completes (op := (uStk · == 1)) rfl (fetches hword) (.inl (beq_of_eq hstk)) ?_
    rw [uWord_control hlegal halu (congrArg memSize hmem) hcommit (by simp [hnx]), uNext_call _ hstk hnx]
    rfl
  case ret =>
    rintro r rs ⟨hmem, halu, hcommit⟩ hnx hstk hstack
    refine micro_completes (op := (uStk · == 2)) rfl (fetches hword) (.inl (beq_of_eq hstk)) ?_
    rw [uWord_control hlegal halu (congrArg memSize hmem) hcommit (by simp [hnx]), uNext_return _ hstk hstack]
  case retEmpty =>
    rintro ⟨hmem, halu, hcommit⟩ hnx hstk hstack
    refine micro_completes (op := (uStk · == 2)) rfl (fetches hword) (.inl (beq_of_eq hstk)) ?_
    rw [uWord_control hlegal halu (congrArg memSize hmem) hcommit (by simp [hnx]), uNext_returnEmpty _ hstk hstack]
  case commit =>
    have commits := uWord_commit (eng := eng) hlegal halu (congrArg memSize hmem) hnx hstk hcommit
    refine ⟨fun hroutine => micro_completes rfl (fetches hword) (.inl hcommit) ?_,
      fun l j hroutine hjob => micro_completes rfl (fetches hword) (.inl hcommit) ?_⟩
    · rw [commits, uHand_rows hroutine]
    · rw [commits, uHand_custom hroutine hjob]
  case dispatch =>
    obtain ⟨hmem, halu, hcommit⟩ := hplain
    have goes {u : State} (hu : uDispatchTo s n = u) : Completes (.uDispatch n .ok w eng) s u := by
      refine micro_completes (op := (uNx · == 3)) rfl (fetches hword) (.inl (beq_of_eq hnx)) ?_
      rw [uWord_control hlegal halu (congrArg memSize hmem) hcommit (by simp [hnx]), uNext_dispatch _ hstk hnx, hu]
    exact ⟨fun hhead => goes (uDispatchTo_none hhead), fun j hhead hrom => goes (uDispatchTo_rom hhead hrom),
      fun j hhead hcustom => ⟨fun hentry => goes (uDispatchTo_store hhead hcustom hentry),
        fun l k hentry hjob => goes (uDispatchTo_badEntry hhead hcustom hentry hjob)⟩⟩
  case illegal =>
    exact fun hword hbad => micro_completes (op := fun w => uNx w == 1 || plainWord w) rfl (fetches hword) (.inr hbad)
      (uWord_illegal eng hbad)
  case unmapped =>
    intro hnone
    refine (uStep_unmapped .ok w eng (fun w => uNx w == 1 || plainWord w) hsound hservice hnone).trans (congrArg finSettle ?_)
    by_cases hroutine : (strandOf s n).routine = 0
    · simp [uIllegal, x, hroutine]
    · simp [uIllegal, x, hroutine]
  case ue => exact fun hword halu => fetched_completes (ecc := .ue) (eng := eng) rfl (fetches hword) (.inl halu) rfl
  case storeUe => exact congrArg finSettle (if_neg (by simp [hsound, hservice]))
  case ceRom =>
    intro hword halu hrom hunpatched
    exact fetched_completes (eng := eng) rfl (fetches hword) (.inl halu) (fetchedStep_ceRom hrom hunpatched)
  case ceRam =>
    intro hword halu hram
    exact fetched_completes (eng := eng) rfl (fetches hword) (.inl halu) (fetchedStep_ceRam hram)

end

section
/-! Splices, self-tests and the requests of the strand pool (R238, R239, R255, R262 to R273). Settles O42. -/

namespace Sys2Proof.Machine

/-! ## SPLICE (R262, R265) -/

/-- The SELFTEST job that strand n runs for its lane ends with the strand's splice. -/
def endLaneTest (s : State) (n : Nat) : State :=
  if laneTest s n then (match jobOf s n with | some (l, _) => endJob s n l jsAborted 0xFFFF 0 0 | none => s) else s

/-- Every lane of strand n is passed on. -/
def passLanes (s : State) (n cause : Nat) : State :=
  ((List.range 18).filter fun l => laneStrand s l == some n).foldl (fun z l => passLane z n l cause) s

theorem splice_first {s : State} {n cause : Nat} {rest : List (Nat × Nat)} (unack : Bool) (hfrays : s.strs.frays = (n, cause) :: rest) :
    splice s unack = overcommitSet
      (isolate (passLanes (endLaneTest { s with strs := { s.strs with frays := rest } } n) n cause) n unack) := by
  simp only [splice, hfrays]
  rfl

theorem splice_none {s : State} (unack : Bool) (hfrays : s.strs.frays = []) : splice s unack = s := by
  simp only [splice, hfrays]

/-! ## SPARE_RESTORE (R122, R262 step 5) -/

/-- Strand n has the job j of lane l again, and shows it. -/
def retakeJob (s : State) (n l : Nat) (j : Job) : State :=
  let m := modLane s l fun x => { x with running := true, restore := false, reread := none, queue := modAt x.queue 0 fun _ => j }
  let v := modStrand m n fun x =>
    { x with lane := some l, last := l, since := s.clk, epoch := get m (R.STR_LANE_MAP_EPOCH l), ues := [], readErr := [],
             preDone := false }
  showJob v n (jOpc j.desc) j.part (jTag j.desc)

section
variable {s : State} {n l : Nat} {j : Job}

theorem resumeJob_refused (hst : headStatus s l j true ≠ jsOK) :
    resumeJob s n l j = endJob (retakeJob s n l j) n l (headStatus s l j true) 0xFFFF 0 0 :=
  if_pos hst

theorem resumeJob_runs (hst : headStatus s l j true = jsOK) (henc : jOpc j.desc ≠ opEncRow) (hdec : jOpc j.desc ≠ opDecRow) :
    resumeJob s n l j = retakeJob s n l j :=
  (if_neg (not_not_intro hst)).trans ((if_neg fun hcut => henc hcut.1).trans (if_neg (not_or_intro henc hdec)))

/-- Strand n is to go on with the job j at the head of lane l, which has been passed to it. -/
structure Restores (s : State) (n l : Nat) (j : Job) : Prop where
  active : strState s n = strActive
  free : strandFree s n = true
  lane : firstIdx (fun l => laneStrand s l == some n && (laneOf s l).restore) 0 18 = some l
  head : (laneOf s l).queue.head? = some j

theorem restoreLane_read {k : Job} (h : Restores s n l j) (hread : rereadJob s l j = some k) : restoreLane s n = resumeJob s n l k := by
  simp only [restoreLane, if_pos (And.intro h.active h.free), h.lane, h.head, hread]

theorem restoreLane_unread (h : Restores s n l j) (hunread : rereadJob s l j = none) :
    restoreLane s n = if rereading s l then s else startOp s j.part (.jobDesc j.seq l) j.addr 128 false [] := by
  simp only [restoreLane, if_pos (And.intro h.active h.free), h.lane, h.head, hunread]

end

theorem spareRestore_completes {s u : State} {n : Strand} {t : Nat} (hrun : anchored s = false) (h : restoreLane (stamp s t) n = u) :
    Completes (.spareRestore n t) s u := by
  change finSettle (if anchored s = true then s else restoreLane (stamp s t) n) = _
  rw [hrun, if_neg Bool.false_ne_true, h, finSettle]

/-! ## Self-tests (R268 to R271) -/

section
variable {s : State} {n : Nat}

theorem startTest_begins (hidle : (strandOf s n).test = 0)
    (hjob : laneTest s n = true ∨ strState s n ≠ strActive ∧ (testJob s n).isSome = true) : startTest s n = beginTest s n 1 := by
  have hasJob : (laneTest s n || (strState s n != strActive && (testJob s n).isSome)) = true := by simpa using hjob
  exact (if_neg (not_not_intro hidle)).trans (if_pos hasJob)

/-- Strand n shows the result of its self-test and tests no more. -/
def showTest (s : State) (n part sig : Nat) : State :=
  modStrand (put (put (put s (R.STR_TEST_STAT_RESULT n) (if part = 0 then 2 else 3)) (R.STR_TEST_STAT_UNIT n) part)
    (R.STR_TEST_SIG_SIG n) sig) n fun x => { x with test := 0 }

/-- The registers of a self-test lie below the lane maps. -/
theorem get_showTest {g : Fld} (part sig : Nat) (hn : n < 18) (hg : 32 * 0x13F100 ≤ fldKey g) :
    get (showTest s n part sig) g = get s g := by
  have hresult : fldKey g ≠ fldKey (R.STR_TEST_STAT_RESULT n) := by simp only [fldKey, R.STR_TEST_STAT_RESULT] at *; omega
  have hunit : fldKey g ≠ fldKey (R.STR_TEST_STAT_UNIT n) := by simp only [fldKey, R.STR_TEST_STAT_UNIT] at *; omega
  have hsig : fldKey g ≠ fldKey (R.STR_TEST_SIG_SIG n) := by simp only [fldKey, R.STR_TEST_SIG_SIG] at *; omega
  rw [showTest, modStrand_get, get_put_other _ _ hsig, get_put_other _ _ hunit, get_put_other _ _ hresult]

/-- A change of a strand that leaves its lane, past the last strand too. -/
theorem lane_modStrand (s : State) (n : Nat) (f : StrandSt → StrandSt) (hf : ∀ x, (f x).lane = x.lane) :
    (strandOf (modStrand s n f) n).lane = (strandOf s n).lane := by
  simp only [strandOf, modStrand, nth_modAt]
  split
  · exact hf _
  · rw [nth_ge _ _ _ (Nat.not_lt.1 ‹_›)]

theorem lane_showTest (part sig : Nat) : (strandOf (showTest s n part sig) n).lane = (strandOf s n).lane := by
  rw [showTest]
  exact lane_modStrand _ n (fun x => { x with test := 0 }) fun _ => rfl

theorem laneStrand_showTest (part sig l : Nat) (hn : n < 18) : laneStrand (showTest s n part sig) l = laneStrand s l := by
  have hstrand : get (showTest s n part sig) (R.STR_LANE_MAP_STRAND l) = get s (R.STR_LANE_MAP_STRAND l) :=
    get_showTest part sig hn (by simp only [fldKey, R.STR_LANE_MAP_STRAND]; omega)
  have hvalid : isSet (showTest s n part sig) (R.STR_LANE_MAP_VALID l) = isSet s (R.STR_LANE_MAP_VALID l) :=
    congrArg (· != 0) (get_showTest part sig hn (by simp only [fldKey, R.STR_LANE_MAP_VALID]; omega))
  simp only [laneStrand, hstrand, hvalid]

/-- The result of a self-test leaves the strand its job. -/
theorem jobOf_showTest (part sig : Nat) (hn : n < 18) : jobOf (showTest s n part sig) n = jobOf s n := by
  simp only [jobOf, lane_showTest, laneStrand_showTest _ _ _ hn]
  rfl

/-- A self-test that no job asked for moves the strand on by its result. -/
theorem testDone_spare {part : Nat} (sig : Nat) (hkind : 2 ≤ (strandOf s n).test) (hpart : part ≤ 4) : testDone s n part sig =
    let v := showTest s n part sig
    if part ≠ 0 then fray v n 7
    else if strState s n = strQuar then put v (R.STR_TEST_STAT_AFTERQ n) 1
    else if strState s n = strTesting then setStrState v n strSpare
    else v := by
  have hvalid : ¬ ((strandOf s n).test = 0 ∨ 4 < part) := by omega
  have hother : (strandOf s n).test ≠ 1 := by omega
  simp only [testDone, if_neg hvalid, if_pos hother]
  rfl

/-- A self-test that an ACTIVE strand runs as its job ends the job. -/
theorem testDone_job {part l : Nat} {j : Job} (sig : Nat) (hn : n < 18) (hkind : (strandOf s n).test = 1) (hpart : part ≤ 4)
    (hactive : strState s n = strActive) (hjob : jobOf s n = some (l, j)) : testDone s n part sig =
    let v := showTest s n part sig
    if part = 0 then endJob v n l jsOK 0xFFFF 0 sig else fray (endJob v n l jsSelftestFail 0xFFFF 0 sig) n 7 := by
  have hvalid : ¬ ((strandOf s n).test = 0 ∨ 4 < part) := by omega
  have hrunning : jobOf (showTest s n part sig) n = some (l, j) := (jobOf_showTest part sig hn).trans hjob
  have hquar : strState s n ≠ strQuar := by rw [hactive]; decide
  have htesting : strState s n ≠ strTesting := by rw [hactive]; decide
  rw [showTest] at hrunning
  simp only [testDone, if_neg hvalid, if_neg (not_not_intro hkind), hrunning, if_neg hquar, if_neg htesting, ite_not]
  by_cases hpass : part = 0
  · simp only [if_pos hpass, showTest]
  · simp only [if_neg hpass, showTest]

theorem selftestDone_completes {u : State} {n : Strand} {part : Nat} {sig : Word32} (h : testDone s n part sig.toNat = u) :
    Completes (.selftestDone n part sig) s u :=
  congrArg finSettle h

end

/-- R270 counts seconds, of 1,200,000,000 cycles. -/
theorem spareTests_due {s : State} {t : Nat} (hper : get s R.STR_POOL_TESTPER ≠ 0) (hrun : anchored s = false)
    (hdue : s.strs.testAt + 1200000000 * get s R.STR_POOL_TESTPER ≤ t) : spareTests s t =
      forN 18 (fun n z => if strState z n = strSpare ∧ (strandOf z n).test = 0 then beginTest z n 2 else z)
        { stamp s t with strs := { s.strs with testAt := t } } := by
  have hnow : ¬ (get s R.STR_POOL_TESTPER = 0 ∨ anchored s = true ∨
      t < s.strs.testAt + msCycles * 1000 * get s R.STR_POOL_TESTPER) := by
    simp only [hper, hrun, msCycles, Bool.false_eq_true, false_or]; omega
  exact if_neg hnow

/-! ## P0's requests (R238, R239, R255, R268, R271) -/

section
variable {s : State} {v : Nat}

theorem strReadmit_noStrand (hn : 18 ≤ v % 32) : strReadmit s v = put s R.STR_REQ_STAT_RCODE 4 := if_pos hn

theorem strReadmit_notQuarantined (hn : v % 32 < 18) (hstate : strState s (v % 32) ≠ strQuar) :
    strReadmit s v = put s R.STR_REQ_STAT_RCODE 1 :=
  (if_neg (Nat.not_le.2 hn)).trans (if_pos hstate)

section
variable (hn : v % 32 < 18) (hquar : strState s (v % 32) = strQuar)
include hn hquar

theorem strReadmit_untested (hafter : isSet s (R.STR_TEST_STAT_AFTERQ (v % 32)) = false) :
    strReadmit s v = put s R.STR_REQ_STAT_RCODE 2 :=
  (if_neg (Nat.not_le.2 hn)).trans ((if_neg (not_not_intro hquar)).trans (if_pos (Bool.eq_false_iff.1 hafter)))

variable (hafter : isSet s (R.STR_TEST_STAT_AFTERQ (v % 32)) = true)
include hafter

theorem strReadmit_testing (htest : (strandOf s (v % 32)).test ≠ 0) : strReadmit s v = put s R.STR_REQ_STAT_RCODE 3 :=
  (if_neg (Nat.not_le.2 hn)).trans ((if_neg (not_not_intro hquar)).trans ((if_neg (not_not_intro hafter)).trans (if_pos htest)))

theorem strReadmit_readies (htest : (strandOf s (v % 32)).test = 0) : strReadmit s v =
    let z := put (resetStrand s (v % 32)) R.STR_QUAR_MASK_MASK (withBit (get s R.STR_QUAR_MASK_MASK) (v % 32) false)
    put { z with strs := { z.strs with ready := if z.strs.ready.contains (v % 32) then z.strs.ready else z.strs.ready ++ [v % 32] } }
      R.STR_REQ_STAT_RCODE 0 :=
  (if_neg (Nat.not_le.2 hn)).trans ((if_neg (not_not_intro hquar)).trans ((if_neg (not_not_intro hafter)).trans
    (if_neg (not_not_intro htest))))

end

theorem strTestReq_noStrand (hn : 18 ≤ v % 32) : strTestReq s v = put s R.STR_REQ_STAT_TCODE 4 := if_pos hn

section
variable (hn : v % 32 < 18)
include hn

theorem strTestReq_quarantined (hstate : strState s (v % 32) = strQuar) : strTestReq s v = put s R.STR_REQ_STAT_TCODE 2 := by
  simp only [strTestReq, if_neg (Nat.not_le.2 hn), if_pos hstate]

theorem strTestReq_testing (hstate : strState s (v % 32) = strTesting) : strTestReq s v = put s R.STR_REQ_STAT_TCODE 3 := by
  simp only [strTestReq, if_neg (Nat.not_le.2 hn), hstate]
  rfl

theorem strTestReq_spare (hstate : strState s (v % 32) = strSpare) : strTestReq s v =
    put (if (strandOf s (v % 32)).test = 0 then beginTest s (v % 32) 2 else s) R.STR_REQ_STAT_TCODE 0 := by
  simp only [strTestReq, if_neg (Nat.not_le.2 hn), hstate]
  rfl

variable (hactive : strState s (v % 32) = strActive)
include hactive

theorem strTestReq_noSpare (hnone : lowestSpare s = none) : strTestReq s v = put s R.STR_REQ_STAT_TCODE 1 := by
  simp only [strTestReq, if_neg (Nat.not_le.2 hn), hactive, hnone]
  rfl

theorem strTestReq_plans {m : Nat} (hsome : lowestSpare s = some m) : strTestReq s v =
    takeoverDue (put (modLane s (get s (R.STR_STATE_LANE (v % 32))) fun x => { x with takeover := true }) R.STR_REQ_STAT_TCODE 0)
      (v % 32) := by
  simp only [strTestReq, if_neg (Nat.not_le.2 hn), hactive, hsome]
  rfl

end

end

theorem answered_completes {i : Instr} {s x u : State} (hrun : unitsRun s = true) (hi : exec i s = answered s (finSettle x))
    (hx : x = u) : Completes i s u :=
  hx ▸ .of_answered hrun hi

theorem strWritesOk_iff {s : State} : strWritesOk s = true ↔ modeOf s ∈ [modeIDLE, modePREVIEW, modeMAINT] := by
  simp [strWritesOk, or_assoc]

end Sys2Proof.Machine

open Sys2Proof Sys2Proof.Machine

/-- Settles O42: the first fray decides what a splice does, a passed lane's job what its new strand does, and the states of the strands
how the pool's requests are answered. The end of a running SELFTEST job at a splice, the order of the checks of READMIT and the refusal
of a whole STR_POOL write (log entry 49), and the second read of a descriptor (log entry 41), are the model's. -/
theorem splicesTestsAndPoolRequestsTakeEffect : Obligations.SplicesTestsAndPoolRequestsTakeEffect := by
  unfold Obligations.SplicesTestsAndPoolRequestsTakeEffect
  refine ⟨fun s unack n cause rest hup hfrays => ?splice, fun s unack hidle => ?noSplice,
    fun s n t l j hrun hactive hfree hlane hhead => ?restore, fun s n hrun hidle hjob => ?selftest,
    fun s n part sig hkind hpart => selftestDone_completes (testDone_spare sig.toNat hkind hpart),
    fun s n part l j sig hkind hpart hactive hjob =>
      selftestDone_completes (testDone_job sig.toNat n.isLt hkind hpart hactive hjob),
    fun s t hper hrun hdue => congrArg finSettle (spareTests_due hper hrun hdue),
    fun s n v hrun => ?reset, fun s v hrun => .of_answered hrun rfl, fun s v hrun => ?readmit, fun s v hrun => ?testReq,
    fun s v hrun => ?poolWrites⟩
  case splice =>
    exact congrArg finSettle ((if_pos hup).trans (splice_first unack hfrays))
  case noSplice =>
    refine congrArg finSettle ?_
    obtain hnone | hdown := hidle
    · exact ite_eq_right_iff.2 fun _ => splice_none unack hnone
    · exact if_neg (Bool.eq_false_iff.1 hdown)
  case restore =>
    have htakes : Restores (stamp s t) n l j := ⟨hactive, hfree, hlane, hhead⟩
    refine ⟨fun k hread => spareRestore_completes hrun (restoreLane_read htakes hread),
      fun hunread => spareRestore_completes hrun (restoreLane_unread htakes hunread), ?_⟩
    intro hspace k m v u st
    have hssm : rereadJob (stamp s t) l j = some k := if_pos hspace
    have hread : restoreLane (stamp s t) n = resumeJob (stamp s t) n l k := restoreLane_read htakes hssm
    have hretaken : u = retakeJob (stamp s t) n l k := rfl
    refine ⟨fun hst => spareRestore_completes hrun ?_, fun hst henc hdec => spareRestore_completes hrun ?_⟩
    · rw [hread, hretaken]
      exact resumeJob_refused hst
    · rw [hread, hretaken]
      exact resumeJob_runs hst henc hdec
  case selftest =>
    exact congrArg finSettle ((if_neg (Bool.eq_false_iff.1 hrun)).trans (startTest_begins hidle hjob))
  case reset =>
    have resets {u : State} (h : strReset s n v.toNat = u) : Completes (.strReset n v) s u :=
      answered_completes hrun rfl h
    refine ⟨fun hbit => resets ?_, fun hbit hactive => resets ?_, fun hbit hother => resets ?_⟩
    · exact if_pos (Bool.eq_false_iff.1 hbit)
    · exact (if_neg (not_not_intro hbit)).trans (if_pos hactive)
    · exact (if_neg (not_not_intro hbit)).trans (if_neg hother)
  case readmit =>
    have answers {u : State} (h : strReadmit s v.toNat = u) : Completes (.strReadmit v) s u :=
      answered_completes hrun rfl h
    exact ⟨fun hn => answers (strReadmit_noStrand hn), fun hn hstate => answers (strReadmit_notQuarantined hn hstate),
      fun hn hquar hafter => answers (strReadmit_untested hn hquar hafter),
      fun hn hquar hafter htest => answers (strReadmit_testing hn hquar hafter htest),
      fun hn hquar hafter htest => answers (strReadmit_readies hn hquar hafter htest)⟩
  case testReq =>
    have answers {u : State} (h : strTestReq s v.toNat = u) : Completes (.strTestReq v) s u :=
      answered_completes hrun rfl h
    exact ⟨fun hn => answers (strTestReq_noStrand hn), fun hn hstate => answers (strTestReq_quarantined hn hstate),
      fun hn hstate => answers (strTestReq_testing hn hstate), fun hn hstate => answers (strTestReq_spare hn hstate),
      fun hn hactive hnone => answers (strTestReq_noSpare hn hactive hnone),
      fun m hn hactive hsome => answers (strTestReq_plans hn hactive hsome)⟩
  case poolWrites =>
    have pools {u : State} (h : strPoolWrite s v.toNat = u) : Completes (.strPoolWrite v) s u :=
      answered_completes hrun rfl h
    have stores {u : State} (h : osData2 s v.toNat = u) : Completes (.osData2Write v) s u :=
      answered_completes hrun rfl h
    refine ⟨fun hmode hspares => pools (if_pos ?_), fun hbad => pools (if_neg fun hok => hbad ?_),
      fun hmode => stores (if_pos (strWritesOk_iff.2 hmode)), fun hbad => stores (if_neg (mt strWritesOk_iff.1 hbad))⟩
    · rw [strWritesOk_iff.2 hmode, Bool.true_and, decide_eq_true hspares]
    · obtain ⟨hmode, hspares⟩ := Bool.and_eq_true_iff.1 hok
      exact ⟨strWritesOk_iff.1 hmode, of_decide_eq_true hspares⟩

end

section
/-! What finishes an instruction of a sequencer: a register written, cycles charged, the PC moved on (R279, R280, R284, R305, R306).
Settles O29. -/

namespace Sys2Proof.Machine

/-! ## What a change of a pair keeps -/

/-- What a change of a sequencer leaves of each pair, it leaves of the pair read here, whether or not the tables hold it. -/
theorem pairOf_modSeq_keeps {α : Type} (part : PairSt → α) (s : State) (q p : Nat) {f : PairSt → PairSt} {g : SeqSt → SeqSt}
    (hg : ∀ x, (g x).pair = modAt x.pair p f) (hf : ∀ y, part (f y) = part y) :
    part (pairOf (modSeq s q g) q p) = part (pairOf s q p) := by
  rcases Nat.lt_or_ge q s.seqs.seq.length with hq | hq
  · rw [pairOf, seqOf_modSeq _ _ _ hq, hg, nth_modAt]
    split
    next => exact hf _
    next hp => rw [pairOf, nth_ge _ _ _ (Nat.le_of_not_lt hp)]
  · rw [modSeq, modAt_ge _ _ _ hq]

theorem pairOf_modPair_keeps {α : Type} (part : PairSt → α) (s : State) (q p : Nat) {f : PairSt → PairSt}
    (hf : ∀ y, part (f y) = part y) : part (pairOf (modPair s q p f) q p) = part (pairOf s q p) :=
  pairOf_modSeq_keeps part s q p (fun _ => rfl) hf

/-- Two pairs with the same programs, and the same slot in use, show one active image. -/
theorem activeImage_congr {s t : State} {q p : Nat}
    (hactive : get t (R.SEQ_PAIR_STAT_ACTIVE q p) = get s (R.SEQ_PAIR_STAT_ACTIVE q p))
    (h0 : (pairOf t q p).slot0 = (pairOf s q p).slot0) (h1 : (pairOf t q p).slot1 = (pairOf s q p).slot1) :
    activeImage t q p = activeImage s q p := by
  rw [activeImage, activeImage, hactive, h0, h1]

theorem activeImage_modPair (s : State) (q p : Nat) {f : PairSt → PairSt} (h0 : ∀ y, (f y).slot0 = y.slot0)
    (h1 : ∀ y, (f y).slot1 = y.slot1) : activeImage (modPair s q p f) q p = activeImage s q p :=
  activeImage_congr rfl (pairOf_modPair_keeps PairSt.slot0 s q p h0) (pairOf_modPair_keeps PairSt.slot1 s q p h1)

/-! ## The charge (R279, R280) -/

/-- Of all registers the charge touches only the excess count of its own pair. -/
theorem get_noteExcess (s : State) {q p : Nat} {f : Fld} (h : fldKey f ≠ fldKey (R.SEQ_PAIR_EXCESS_CNT_COUNT q p)) :
    get (noteExcess s q p) f = get s f := by
  unfold noteExcess
  split
  · exact get_put_other _ _ h
  · rfl

theorem get_charge (s : State) {q p : Nat} (n : Nat) {f : Fld} (h : fldKey f ≠ fldKey (R.SEQ_PAIR_EXCESS_CNT_COUNT q p)) :
    get (charge s q p n) f = get s f := get_noteExcess s h

theorem ownerOf_charge (s : State) (q p n : Nat) : ownerOf (charge s q p n) q p = ownerOf s q p :=
  get_charge s n (by simp only [fldKey, R.SEQ_PAIR_OWNER_PART, R.SEQ_PAIR_EXCESS_CNT_COUNT]; omega)

theorem pairOf_noteExcess_keeps {α : Type} (part : PairSt → α) (s : State) (q p : Nat)
    (h : ∀ y : PairSt, part { y with excess := true } = part y) : part (pairOf (noteExcess s q p) q p) = part (pairOf s q p) := by
  unfold noteExcess
  split
  · exact pairOf_modPair_keeps part s q p h
  · rfl

theorem activeImage_noteExcess (s : State) (q p : Nat) : activeImage (noteExcess s q p) q p = activeImage s q p :=
  activeImage_congr (get_noteExcess s (by simp only [fldKey, R.SEQ_PAIR_STAT_ACTIVE, R.SEQ_PAIR_EXCESS_CNT_COUNT]; omega))
    (pairOf_noteExcess_keeps PairSt.slot0 s q p fun _ => rfl) (pairOf_noteExcess_keeps PairSt.slot1 s q p fun _ => rfl)

/-- The count of an excess loses no sequencer and no pair. -/
theorem noteExcess_holds {s : State} {q p : Nat} (hq : q < s.seqs.seq.length) (hp : p < (seqOf s q).pair.length) :
    q < (noteExcess s q p).seqs.seq.length ∧ p < (seqOf (noteExcess s q p) q).pair.length := by
  unfold noteExcess
  split
  · have hseq (f : Fld) (u : State) : (bump u f).seqs = u.seqs := rfl
    constructor
    · rw [hseq, modPair, modSeq]; simpa only [len_modAt] using hq
    · rw [seqOf, hseq, ← seqOf, modPair, seqOf_modSeq _ _ _ hq]; simpa only [len_modAt] using hp
  · exact ⟨hq, hp⟩

/-- A change that touches neither programs nor charges may come before the count of an excess or after it. -/
theorem noteExcess_modPair (s : State) (q p : Nat) {f : PairSt → PairSt} (h0 : ∀ y, (f y).slot0 = y.slot0)
    (h1 : ∀ y, (f y).slot1 = y.slot1) (hcharged : ∀ y, (f y).charged = y.charged) (hexcess : ∀ y, (f y).excess = y.excess)
    (hcomm : ∀ y, { f y with excess := true } = f { y with excess := true }) :
    noteExcess (modPair s q p f) q p = modPair (noteExcess s q p) q p f := by
  have hleft : slotLeft (modPair s q p f) q p = slotLeft s q p := by
    rw [slotLeft, slotLeft, activeImage_modPair s q p h0 h1, pairOf_modPair_keeps PairSt.charged s q p hcharged]
  have hmod (g : PairSt → PairSt) (hg : ∀ y, g (f y) = f (g y)) :
      modPair (modPair s q p f) q p g = modPair (modPair s q p g) q p f := by
    simp only [modPair, modSeq_modSeq, modAt_modAt, hg]
  unfold noteExcess
  rw [hleft, pairOf_modPair_keeps PairSt.excess s q p hexcess]
  split
  · rw [hmod _ hcomm]; rfl
  · rfl

/-! ## A register written (R284) -/

/-- The pair with register rd holding v; g0 takes nothing. -/
def withGreg (rd v : Nat) (y : PairSt) : PairSt := { y with gregs := if rd = 0 then y.gregs else setAt y.gregs rd (v % 2 ^ 64) }

theorem setGreg_eq (s : State) (q p rd v : Nat) : setGreg s q p rd v = modPair s q p (withGreg rd v) := by
  unfold setGreg
  split
  next hrd =>
    have hid : withGreg rd v = fun y => y := by funext y; simp only [withGreg, if_pos hrd]
    rw [hid, modPair]
    simp only [modAt_id]
    exact (congrArg (fun l => { s with seqs := { s.seqs with seq := l } }) (modAt_id s.seqs.seq q)).symm
  next hrd =>
    refine congrArg (modPair s q p) (funext fun y => ?_)
    simp only [withGreg, if_neg hrd]

/-! ## The end of an instruction (R305, R306) -/

/-- The state in which n cycles are charged, rd holds v and the PC is at pc. -/
def finished (s : State) (q p rd v n pc : Nat) : State :=
  modSeq (noteExcess s q p) q fun x => { x with
    quantum := x.quantum + n, charged := modAt x.charged (ownerOf s q p) (· + n),
    pair := modAt x.pair p fun y => { withGreg rd v y with charged := y.charged + n, pc := pc } }

theorem seqWrite_finished (s : State) (q p rd v n : Nat) : seqWrite s q p rd v n =
    let pc := (pairOf s q p).pc + 4
    let u := finished s q p rd v n pc
    if pastEnd u q p then progFault u q p 1 pc pc else u := by
  have hpc : (pairOf (setGreg s q p rd v) q p).pc = (pairOf s q p).pc := by
    rw [setGreg_eq]; exact pairOf_modPair_keeps PairSt.pc s q p fun _ => rfl
  have hu (pc : Nat) : modPair (charge (setGreg s q p rd v) q p n) q p (fun y => { y with pc := pc }) = finished s q p rd v n pc := by
    rw [charge, setGreg_eq, noteExcess_modPair s q p (f := withGreg rd v) (fun _ => rfl) (fun _ => rfl) (fun _ => rfl)
      (fun _ => rfl) fun _ => rfl]
    simp only [modPair, modSeq_modSeq, modAt_modAt]
    rfl
  simp only [seqWrite, seqNext, seqGoto, hpc, hu]

theorem pastEnd_finished {s : State} {q p : Nat} (rd v n pc : Nat) {i : List Byte} (hq : q < s.seqs.seq.length)
    (hp : p < (seqOf s q).pair.length) (hi : activeImage s q p = some i) :
    pastEnd (finished s q p rd v n pc) q p = decide (hdrCode i ≤ pc) := by
  obtain ⟨hq', hp'⟩ := noteExcess_holds hq hp
  have hpc : (pairOf (finished s q p rd v n pc) q p).pc = pc := by
    rw [finished, pairOf, seqOf_modSeq _ _ _ hq', nth_modAt, if_pos hp']
  have himage : activeImage (finished s q p rd v n pc) q p = some i :=
    calc activeImage (finished s q p rd v n pc) q p
      _ = activeImage (noteExcess s q p) q p := activeImage_congr rfl
          (pairOf_modSeq_keeps PairSt.slot0 _ q p (fun _ => rfl) fun _ => rfl)
          (pairOf_modSeq_keeps PairSt.slot1 _ q p (fun _ => rfl) fun _ => rfl)
      _ = activeImage s q p := activeImage_noteExcess s q p
      _ = some i := hi
  rw [pastEnd, himage, hpc]

end Sys2Proof.Machine

open Sys2Proof.Machine

/-- Settles O29: both sides are the same sequence of changes to one sequencer, the excess counted first. -/
theorem registerWriteMovesOnAndChargesNothingElse : Obligations.RegisterWriteMovesOnAndChargesNothingElse := by
  unfold Obligations.RegisterWriteMovesOnAndChargesNothingElse
  intro s q p rd v n i hq hp hi o pc z u
  have hwrite := seqWrite_finished s q p rd v n
  have hpast := pastEnd_finished rd v n (pc + 4) hq hp hi
  constructor
  · intro hcode
    exact hwrite.trans (if_neg (by rw [hpast, decide_eq_true_iff]; omega))
  · intro hcode
    exact hwrite.trans (if_pos (by rw [hpast, decide_eq_true_iff]; exact hcode))

end

section
/-! Instructions that are fetched with and without a memory error, and those that compute, branch and halt (R280, R284 to R289, R304 to
R306). Settles O30, O31 and O32. -/

namespace Sys2Proof.Machine

/-! ## Fetches (R279, R280) -/

/-- A later CYCLE fetches the same word. -/
theorem Fetches.stamp {s : State} {q p w : Nat} (h : Fetches s q p w) (t : Nat) : Fetches (stamp s t) q p w := by
  obtain ⟨hgap, hrest⟩ := h
  exact ⟨Nat.le_trans hgap (Nat.le_max_left ..), hrest⟩

/-- The word that a command fetches is carried out. -/
theorem seqRun_next {s : State} {q p w : Nat} (h : Fetches s q p w) (k : Nat → State → State) :
    (Host.Outcome.next (seqRun s q .ok w k) : Host.Outcome State Fault Refusal) = .next (k p s) :=
  congrArg Host.Outcome.next (seqRun_ok s q p w k h)

/-- The same word in one of the formats of R287. -/
theorem Fetches.word {s : State} {q p w v : Nat} (h : Fetches s q p w) (hw : w = v) : Fetches s q p v := hw ▸ h

theorem encReg_alu (rd ra rb fn : Nat) : 2 ^ 21 * rd + 2 ^ 16 * ra + 2 ^ 11 * rb + fn = encReg 0 rd ra rb fn := by
  simp only [encReg, Nat.mul_zero, Nat.zero_add]

/-! ## Memory errors (R306, R487, R488) -/

/-- No fault source writes a register above the fault block and the hub. -/
theorem get_fault (s : State) (k : Nat) {g : Fld} (hg : 32 * 0x140000 ≤ fldKey g) : get (fault s k) g = get s g := by
  have hput (u : State) (f : Fld) (v : Nat) (hf : fldKey f < 32 * 0x140000) : get (put u f v) g = get u g :=
    get_put_other _ _ (by omega)
  have hraise (u : State) (src : Nat) : get (raise u src) g = get u g := by
    unfold raise
    split
    · rfl
    · exact hput _ _ _ (by simp only [fldKey, R.HUB_PEND]; omega)
  have hfirst (u : State) : get (fltFirst u k) g = get u g := by
    unfold fltFirst put2
    split
    · rfl
    · rw [hput _ _ _ (by decide), hput _ _ _ (by decide), hput _ _ _ (by decide), hput _ _ _ (by decide), hput _ _ _ (by decide)]
  have hcount (u : State) (f : Fld) (hf : fldKey f < 32 * 0x140000) : get (bump u f) g = get u g := hput _ _ _ hf
  have hnotify (u : State) : get (fltNotify u k) g = get u g := by
    unfold fltNotify
    split
    · rw [hraise, hcount _ _ (by decide)]
    · rw [hraise, hcount _ _ (by decide)]
    · rw [hfirst, hraise, hcount _ _ (by decide)]
    · rw [hfirst, hcount _ _ (by decide)]
  unfold fault
  split
  next hassigned =>
    have hstat : fldKey (R.FLT_STAT k) < 32 * 0x140000 := by
      have hk : k ≤ 0x80 := by
        simp only [R.fltAssigned, Bool.or_eq_true, Bool.and_eq_true, decide_eq_true_eq, beq_iff_eq] at hassigned
        omega
      simp only [fldKey, R.FLT_STAT]
      omega
    dsimp only
    split
    · exact hput _ _ _ hstat
    · rw [hnotify, hput _ _ _ hstat]
  · rfl

/-- The state in which a corrected error in a word of sequencer q is counted. -/
def ceCounted (s : State) (q : Nat) : State := fault (bump s (R.SEQ_IMEM_ECC_CE q)) (fltSeqCe q)

/-- The count of a corrected error leaves the word that is fetched. -/
theorem Fetches.afterCe {s : State} {q p w : Nat} (h : Fetches s q p w) : Fetches (ceCounted s q) q p w := by
  have hseqs : (ceCounted s q).seqs = s.seqs := fault_keeps State.seqs put_seqs _ _
  have hclk : (ceCounted s q).clk = s.clk := fault_keeps State.clk put_clk _ _
  have htick : (ceCounted s q).tick = s.tick := fault_keeps State.tick put_tick _ _
  have hactive : get (ceCounted s q) (R.SEQ_PAIR_STAT_ACTIVE q p) = get s (R.SEQ_PAIR_STAT_ACTIVE q p) := by
    rw [ceCounted, get_fault _ _ (by simp only [fldKey, R.SEQ_PAIR_STAT_ACTIVE]; omega)]
    exact get_put_other _ _ (by simp only [fldKey, R.SEQ_PAIR_STAT_ACTIVE, R.SEQ_IMEM_ECC_CE]; omega)
  have hseq : seqOf (ceCounted s q) q = seqOf s q := by rw [seqOf, seqOf, hseqs]
  have hpair : pairOf (ceCounted s q) q p = pairOf s q p := by rw [pairOf, pairOf, hseq]
  rw [Fetches, hclk, htick, hseq, hpair, activeImage_congr hactive (by rw [hpair]) (by rw [hpair])]
  exact h

/-- Whatever the memory check finds, the command carries out the word w of sequencer q in one way. -/
def RunsWord (q w : Nat) (f : Ecc → Instr) : Prop := ∃ k, ∀ e s, exec (f e) s = .next (seqRun s q e w k)

section
variable {q p w : Nat} {f : Ecc → Instr} {s : State}

theorem RunsWord.corrected (hf : RunsWord q w f) (h : Fetches s q p w) : exec (f .ce) s = exec (f .ok) (ceCounted s q) := by
  obtain ⟨k, hk⟩ := hf
  rw [hk, hk, seqRun_ce s q p w k h, seqRun_ok _ q p w k h.afterCe]
  rfl

theorem RunsWord.uncorrectable (hf : RunsWord q w f) (h : Fetches s q p w) : exec (f .ue) s =
    .next (progFault (fault (bump s (R.SEQ_IMEM_ECC_UE q)) (fltSeqUe q)) q p 8 (pairOf s q p).pc (pairOf s q p).pc) := by
  obtain ⟨k, hk⟩ := hf
  rw [hk, seqRun_ue s q p w k h]

/-- A word written in another way than the format of R287 that the command takes it from. -/
theorem RunsWord.of {v : Nat} {k : Nat → State → State} (hf : ∀ e s, exec (f e) s = .next (seqRun s q e v k)) (hw : v = w) :
    RunsWord q w f := ⟨k, hw ▸ hf⟩

end

/-- An instruction that comes early runs once CYCLE has moved on to the end of the 24,000 cycles after the tick event (R280). -/
theorem seqRun_early {s : State} {q p w : Nat} (ecc : Ecc) (k : Nat → State → State)
    (h : Fetches (stamp s (s.tick.last + execGap)) q p w) :
    seqRun s q ecc w k = seqRun (stamp s (s.tick.last + execGap)) q ecc w k := by
  obtain ⟨_, hcur, hstall, hquantum, i, himage, hcode, hword⟩ := h
  generalize hz : stamp s (s.tick.last + execGap) = z at *
  have hseq : seqOf z q = seqOf s q := by rw [← hz]; rfl
  have hpair : pairOf z q p = pairOf s q p := by rw [← hz]; rfl
  have himages : activeImage z q p = activeImage s q p := by rw [← hz]; rfl
  have hstamp : stamp z (z.tick.last + execGap) = z := by rw [← hz]; exact stamp_past (Nat.le_max_right ..)
  have hgo : ¬ ((pairOf z q p).stall.isSome ∨ 512 ≤ (seqOf z q).quantum ∨ hdrCode i ≤ (pairOf z q p).pc ∨
      codeWord i (pairOf z q p).pc ≠ w) := by
    simp only [hstall, hword, Option.isSome_none, Bool.false_eq_true, ne_eq, not_true, or_false, false_or]
    omega
  simp only [seqRun, hz, hstamp, hcur, himage, if_neg hgo, ← hseq, ← hpair, ← himages]

/-! ## Results (R288, R289) -/

theorem b2n_decide (c : Prop) [Decidable c] : b2n (decide c) = if c then 1 else 0 := by
  simp only [b2n, decide_eq_true_eq]

theorem aluRow_fetched {s : State} {q p rd ra rb fn : Nat} (cost : Nat) (f : Nat → Nat → Nat)
    (h : Fetches s q p (2 ^ 21 * rd + 2 ^ 16 * ra + 2 ^ 11 * rb + fn)) :
    aluRow s q .ok rd ra rb fn cost f = seqWrite s q p rd (f (greg s q p ra) (greg s q p rb)) cost :=
  seqRun_ok s q p _ _ (h.word (encReg_alu ..))

theorem immRow_fetched {s : State} {q p op rd ra imm : Nat} (f : Nat → Nat → Nat) (h : Fetches s q p (encImm op rd ra imm)) :
    immRow s q .ok op rd ra imm f = seqWrite s q p rd (f (greg s q p ra) imm) 1 := seqRun_ok s q p _ _ h

/-! ## Branches and HALT (R288, R304) -/

theorem brRow_fetched {s : State} {q p op ra off : Nat} (c : Nat → Bool) (h : Fetches s q p (encBr op ra off)) :
    brRow s q .ok op ra off c = if c (greg s q p ra) then
      seqGoto (charge s q p 3) q p (brTarget (pairOf s q p).pc off).toNat else seqNext s q p 1 := seqRun_ok s q p _ _ h

/-- The halt record of a pair (R304). -/
def haltNoted (s : State) (q p pc code : Nat) : State :=
  put (put (put s (R.SEQ_PAIR_FAULT_CAUSE q p) 0) (R.SEQ_PAIR_FAULT_PC q p) pc) (R.SEQ_PAIR_FAULT_CODE q p) code

theorem ownerOf_haltNoted (s : State) (q p pc code : Nat) : ownerOf (haltNoted s q p pc code) q p = ownerOf s q p := by
  have other (u : State) (v : Nat) {f : Fld} (hf : f.addr = 0x14010C + q * 0x1000 + p * 0x40) : ownerOf (put u f v) q p = ownerOf u q p :=
    get_put_other _ _ (by simp only [fldKey, hf, R.SEQ_PAIR_OWNER_PART]; omega)
  rw [haltNoted, other _ _ rfl, other _ _ rfl, other _ _ rfl]

end Sys2Proof.Machine

open Sys2Proof Sys2Proof.Machine

/-- Settles O30: each ALU instruction is its row of R289 carried out; with a memory error every command listed still carries out the word
that it encodes, so that what it does without one need not be known. An instruction that comes early runs at the end of the 24,000 cycles
(log entry 23). -/
theorem registerInstructionsComputeTheirResults : Obligations.RegisterInstructionsComputeTheirResults := by
  unfold Obligations.RegisterInstructionsComputeTheirResults
  intro s q p rd ra rb word a b
  have alu {i : Instr} {rb fn cost v : Nat} {f : Nat → Nat → Nat} (hi : exec i s = .next (aluRow s q .ok rd ra rb fn cost f))
      (hv : f a (greg s q p rb) = v) (h : Fetches s q p (word rb fn)) : exec i s = .next (seqWrite s q p rd v cost) := by
    rw [hi, aluRow_fetched cost f h, hv]
  have unary {i : Instr} {fn v : Nat} {f : Nat → Nat} (hi : exec i s = .next (unRow s q .ok rd ra fn f))
      (hv : f a = v) (h : Fetches s q p (word 0 fn)) : exec i s = .next (seqWrite s q p rd v 1) := by
    rw [hi, unRow, seqRun_ok s q p _ _ (h.word (encReg_alu ..)), ← hv]
  refine ⟨alu rfl rfl, alu rfl rfl, alu rfl rfl, alu rfl rfl, alu rfl rfl, alu rfl rfl, alu rfl rfl, alu rfl rfl,
    alu rfl (b2n_decide _), alu rfl (b2n_decide _), alu rfl rfl, alu rfl rfl, alu rfl rfl, alu rfl rfl, alu rfl rfl, alu rfl rfl,
    unary rfl rfl, unary rfl rfl, unary rfl rfl, unary rfl rfl, unary rfl rfl, ?early, ?errors⟩
  case early =>
    intro z h
    exact congrArg Host.Outcome.next (seqRun_early .ok _ (h.word (encReg_alu ..)))
  case errors =>
    intro imm n sz off br dbl poll once src tm det im i b m am w forms pc x hx h
    have runs : ∀ x ∈ forms, RunsWord q x.2 x.1 := by
      simp only [forms, List.forall_mem_append, List.forall_mem_cons, List.not_mem_nil, false_imp_iff, implies_true, and_true]
      refine ⟨⟨?register, ?immediate⟩, ?memory⟩
      case register =>
        and_intros
        all_goals exact .of (fun _ _ => rfl) (encReg_alu ..).symm
      case immediate =>
        and_intros
        all_goals exact ⟨_, fun _ _ => rfl⟩
      case memory =>
        have mem {f : Ecc → Instr} {op : Nat} {k : Nat → State → State}
            (hf : ∀ e s, exec (f e) s = .next (seqRun s q e (encMem op rd ra sz off.toNat) k)) : RunsWord q (m op) f :=
          .of hf (Nat.add_assoc ..)
        have atomic {f : Ecc → Instr} {op : Nat} {k : Nat → State → State}
            (hf : ∀ e s, exec (f e) s = .next (seqRun s q e (encReg op rd ra rb (b2n dbl)) k)) : RunsWord q (am op) f :=
          .of hf (Nat.add_assoc ..)
        refine ⟨mem fun _ _ => rfl, mem fun _ _ => rfl, atomic fun _ _ => rfl, atomic fun _ _ => rfl, atomic fun _ _ => rfl,
          ⟨_, fun _ _ => rfl⟩, ⟨_, fun _ _ => rfl⟩, .of (fun _ _ => rfl) ?tick, ?_⟩
        case tick => simp only [w, im, Nat.zero_add, encImm]
        and_intros
        all_goals exact ⟨_, fun _ _ => rfl⟩
    exact ⟨(runs x hx).corrected h, (runs x hx).uncorrectable h⟩

/-- Settles O31: each instruction is its row of R288 carried out; SLOTLEFT is read as it stands before RDS is charged (log entry 20). -/
theorem immediateInstructionsComputeTheirResults : Obligations.ImmediateInstructionsComputeTheirResults := by
  unfold Obligations.ImmediateInstructionsComputeTheirResults
  intro s q p rd ra imm n word a i
  have immediate {c : Instr} {op imm v : Nat} {f : Nat → Nat → Nat} (hc : exec c s = .next (immRow s q .ok op rd ra imm f))
      (hv : f a imm = v) (h : Fetches s q p (word op ra imm)) : exec c s = .next (seqWrite s q p rd v 1) := by
    rw [hc, immRow_fetched f h, hv]
  have shift (x : Fin 64) : x.val % 64 = x.val := Nat.mod_eq_of_lt x.isLt
  refine ⟨immediate rfl rfl, immediate rfl rfl, immediate rfl rfl, immediate rfl rfl, immediate rfl (b2n_decide _),
    immediate rfl (b2n_decide _), fun h => seqRun_next h _, immediate rfl ?shli, immediate rfl ?shri, immediate rfl ?sari, fun t => ?rds⟩
  case shli => rw [aluShl, shift]
  case shri => rw [aluShr, shift]
  case sari => rw [aluSar, shift]
  case rds =>
    exact ⟨fun h => seqRun_next (h.stamp t) _, fun h => seqRun_next (h.stamp t) _, fun h => seqRun_next (h.stamp t) _,
      fun h => seqRun_next (h.stamp t) _⟩

/-- Settles O32: a branch is its row of R288 with the condition read on ra; of the registers only the excess count changes before HALT
reads the owner and the PC. -/
theorem branchesJumpsAndHaltGoWhereTheySay : Obligations.BranchesJumpsAndHaltGoWhereTheySay := by
  unfold Obligations.BranchesJumpsAndHaltGoWhereTheySay
  intro s q p rd ra off imm word a pc target taken
  have branch {c : Instr} {op : Nat} {b : Nat → Bool} {P : Prop} [Decidable P] (hc : exec c s = .next (brRow s q .ok op ra off.toNat b))
      (hb : b a = true ↔ P) (h : Fetches s q p (word op)) : exec c s = .next (if P then taken else seqNext s q p 1) := by
    rw [hc, brRow_fetched b h]
    exact congrArg Host.Outcome.next (ite_congr (propext hb) (fun _ => rfl) (fun _ => rfl))
  refine ⟨branch rfl beq_iff_eq, branch rfl bne_iff_ne, branch rfl decide_eq_true_iff, branch rfl decide_eq_true_iff,
    branch rfl decide_eq_true_iff, branch rfl decide_eq_true_iff, fun h => seqRun_next h _, fun i h hi => ?jr, fun h => ?halt⟩
  case jr =>
    refine (seqRun_next (h.word (encReg_alu rd ra 0 0x14)) _).trans ?_
    simp only [hi]
    rfl
  case halt =>
    let u := haltNoted (charge s q p 1) q p pc imm.toNat
    have howner : ownerOf u q p = ownerOf s q p := by rw [ownerOf_haltNoted, ownerOf_charge]
    have hpc : (pairOf (charge s q p 1) q p).pc = pc := charge_pc s q p 1
    refine (seqRun_next h _).trans ?_
    simp only [hpc]
    exact congrArg (fun o => Host.Outcome.next (leave (raiseP u o srcProgHalt) q p stHalted)) howner

end

section
/-! Loads, stores and atomics on scratch memory, and accesses through windows (R283, R286, R291 to R294, R306, R311 to R319). Settles
O33. -/

namespace Sys2Proof.Machine

/-! ## Causes and stalls (R305, R306) -/

theorem orFault_none {s : State} {q p a cause : Nat} (k : State → State) (h : cause = 0) : orFault s q p cause a k = k s := if_pos h

theorem orFault_cause {s : State} {q p a cause c : Nat} (k : State → State) (hcause : cause = c) (h : c ≠ 0) :
    orFault s q p cause a k = progFault s q p c (pairOf s q p).pc a := by
  rw [orFault, hcause, if_neg h]

section
variable {s : State} {q p a n : Nat}

theorem ssmCause_none (hin : a + n ≤ ssmSize s (ownerOf s q p)) (hal : a % n = 0) : ssmCause s q p a n = 0 := by
  simp [ssmCause, firstCause, ssmIn, hin, hal]

theorem ssmCause_misaligned (hin : a + n ≤ ssmSize s (ownerOf s q p)) (hal : a % n ≠ 0) : ssmCause s q p a n = 3 := by
  simp [ssmCause, firstCause, ssmIn, hin, hal]

theorem ssmCause_outside (hout : ssmSize s (ownerOf s q p) < a + n) : ssmCause s q p a n = 2 := by
  simp [ssmCause, firstCause, ssmIn, hout]

end

/-! ## Loads and stores (R291, R292, R313) -/

section
variable {s : State} {q p a n : Nat}

theorem ssmLoad_memory (h : youngestOverlap (pairOf s q p).sbuf a n = none) : ssmLoad s q p a n = (ssmRead s a n, s) := by
  rw [ssmLoad, h]

theorem ssmLoad_buffer {k : Nat} {b : BufStore} (h : youngestOverlap (pairOf s q p).sbuf a n = some (k, b)) : ssmLoad s q p a n =
    if b.addr = a ∧ b.bytes.length = n then (b.bytes, s)
    else (ssmRead (forN k (fun _ s => drainOne s q p) s) a n, forN k (fun _ s => drainOne s q p) s) := by
  rw [ssmLoad, h]

/-- The state with bytes put at the end of a store buffer. -/
def buffered (s : State) (q p a : Nat) (bs : List Byte) : State :=
  modPair s q p fun y => { y with sbuf := y.sbuf ++ [{ addr := a, bytes := bs }] }

theorem ssmStore_room (bs : List Byte) (h : (pairOf s q p).sbuf.length < 8) : ssmStore s q p a bs = (0, buffered s q p a bs) := by
  simp only [ssmStore, Nat.not_le.2 h, if_false, buffered]

theorem ssmStore_full (bs : List Byte) (h : ¬ (pairOf s q p).sbuf.length < 8) : ssmStore s q p a bs =
    (freeVal s, buffered (drainOne (useFree s) q p) q p a bs) := by
  simp only [ssmStore, Nat.not_lt.1 h, if_true, stallCycles, buffered]

end

/-! ## Atomics (R293) -/

/-- What an atomic leaves: the cell x of m bytes holds what f answers of the old value and of rd and rb, or is left alone. -/
def atomicDone (d : State) (q p rd rb m x : Nat) (f : Nat → Nat → Nat → Option Nat) : State :=
  let old := leVal (ssmRead d x m)
  seqWrite ((f old (greg d q p rd % 2 ^ (8 * m)) (greg d q p rb % 2 ^ (8 * m))).elim d fun v => ssmWrite d x (leBytes m v)) q p rd old 12

section
variable {s : State} {q p op rd ra rb : Nat} {dbl : Bool}

theorem atomicRow_done (f : Nat → Nat → Nat → Option Nat) {m : Nat} (hm : m = if dbl then 8 else 4)
    (hin : greg s q p ra + m ≤ ssmSize s (ownerOf s q p)) (hal : greg s q p ra % m = 0) (h : Fetches s q p (encReg op rd ra rb (b2n dbl))) :
    atomicRow s q .ok op rd ra rb dbl f =
      atomicDone (drainAll s q p) q p rd rb m (ssmBase (drainAll s q p) (ownerOf s q p) + greg s q p ra) f := by
  subst hm
  refine (seqRun_ok s q p _ _ h).trans ((orFault_none _ (ssmCause_none hin hal)).trans ?_)
  simp only [atomicDone, ownerOf_drainAll]
  generalize f _ _ _ = o
  cases o <;> rfl

theorem atomicRow_faults (f : Nat → Nat → Nat → Option Nat) {cause : Nat}
    (hcause : ssmCause s q p (greg s q p ra) (if dbl then 8 else 4) = cause) (hne : cause ≠ 0)
    (h : Fetches s q p (encReg op rd ra rb (b2n dbl))) :
    atomicRow s q .ok op rd ra rb dbl f = progFault s q p cause (pairOf s q p).pc (greg s q p ra) :=
  (seqRun_ok s q p _ _ h).trans (orFault_cause _ hcause hne)

end

/-! ## Windows (R283, R286, R306) -/

section
variable {s : State} {q p a n : Nat} {store : Bool} {i : List Byte}

/-- An aligned access that lies in a window that permits it goes through. -/
theorem windowRow_through (k : WinRef → State → State) (hi : activeImage s q p = some i) (hal : a % n = 0) (hhigh : bits a 51 13 = 0)
    (hin : (winRef i a).off + n ≤ (winRef i a).size) (hsize : (winRef i a).size ≠ 0) (hwr : store = true → (winRef i a).wr = true) :
    windowRow s q p a n store k = k (winRef i a) s := by
  have hpermit : (store && !(winRef i a).wr) = false := by
    cases store with
    | false => rfl
    | true => rw [hwr rfl]; rfl
  have hcause : winCause i a n store = 0 := by simp [winCause, firstCause, hal, hhigh, hin, hsize, hpermit]
  rw [windowRow, hi]
  exact orFault_none _ hcause

/-- An aligned access beyond a window, or a store to one that is not writable, faults with WIN_RANGE. -/
theorem windowRow_range (k : WinRef → State → State) (hi : activeImage s q p = some i) (hal : a % n = 0)
    (hbad : (winRef i a).size < (winRef i a).off + n ∨ store = true ∧ (winRef i a).wr = false) :
    windowRow s q p a n store k = progFault s q p 4 (pairOf s q p).pc a := by
  have hcause : winCause i a n store = 4 := by
    rcases hbad with hout | ⟨rfl, hro⟩
    · simp [winCause, firstCause, hal, hout]
    · simp [winCause, firstCause, hal, hro]
  rw [windowRow, hi]
  exact orFault_cause _ hcause (by decide)

end

end Sys2Proof.Machine

open Sys2Proof Sys2Proof.Machine

/-- Settles O33: an address in range reaches its store, buffer or window; any other stops at the first cause of R306 that it meets. -/
theorem memoryInstructionsAccessScratchAndWindows : Obligations.MemoryInstructionsAccessScratchAndWindows := by
  unfold Obligations.MemoryInstructionsAccessScratchAndWindows
  intro s q p rd ra rb sz off dbl word amo a n o c m d x old
  have load (hal : a % n = 0) (hin : a + n ≤ ssmSize s o) (h : Fetches s q p (word 0x10)) :
      let r := ssmLoad s q p (ssmBase s o + a) n
      exec (.ld q .ok rd ra sz off) s = .next (seqWrite r.2 q p rd (leVal r.1) 4) :=
    (seqRun_next h _).trans (congrArg Host.Outcome.next (orFault_none _ (ssmCause_none hin hal)))
  have store (hal : a % n = 0) (hin : a + n ≤ ssmSize s o) (h : Fetches s q p (word 0x11)) :
      let r := ssmStore s q p (ssmBase s o + a) (leBytes n (greg s q p rd))
      exec (.st q .ok rd ra sz off) s = .next (seqNext r.2 q p (1 + r.1)) :=
    (seqRun_next h _).trans (congrArg Host.Outcome.next (orFault_none _ (ssmCause_none hin hal)))
  have loadFaults {cause : Nat} (hcause : ssmCause s q p a n = cause) (hne : cause ≠ 0) (h : Fetches s q p (word 0x10)) :
      exec (.ld q .ok rd ra sz off) s = .next (progFault s q p cause (pairOf s q p).pc a) :=
    (seqRun_next h _).trans (congrArg Host.Outcome.next (orFault_cause _ hcause hne))
  have storeFaults {cause : Nat} (hcause : ssmCause s q p a n = cause) (hne : cause ≠ 0) (h : Fetches s q p (word 0x11)) :
      exec (.st q .ok rd ra sz off) s = .next (progFault s q p cause (pairOf s q p).pc a) :=
    (seqRun_next h _).trans (congrArg Host.Outcome.next (orFault_cause _ hcause hne))
  refine ⟨fun hal hin hmem h => ?memory, fun k b hal hin hbuf h => ?buffer, fun hal hin h => ?store,
    fun hal hin => loadFaults (ssmCause_misaligned hin hal) (by decide), fun hal hin => storeFaults (ssmCause_misaligned hin hal) (by decide),
    fun hout => ⟨loadFaults (ssmCause_outside hout) (by decide), storeFaults (ssmCause_outside hout) (by decide)⟩,
    fun b r hcur hbuf => ?drain, fun hal hin => ?atomic, fun i hi hbad => ?atomicFault, fun h => ?fence, fun t i himage => ?window⟩
  case memory => rw [load hal hin h, ssmLoad_memory hmem]
  case buffer =>
    rw [load hal hin h, ssmLoad_buffer hbuf]
    split <;> rfl
  case store =>
    rw [store hal hin h]
    split
    next hroom => rw [ssmStore_room _ hroom]; rfl
    next hfull => rw [ssmStore_full _ hfull]; rfl
  case drain =>
    have hexec : exec (.storeBufferDrain q) s = .next (match (seqOf s q).cur with | none => s | some p => drainOne s q p) := rfl
    simp only [hexec, hcur, drainOne, hbuf]
  case atomic =>
    have atomic {cmd : Instr} {op : Nat} {f : Nat → Nat → Nat → Option Nat} {u : State}
        (hcmd : exec cmd s = .next (atomicRow s q .ok op rd ra rb dbl f))
        (hu : (f old (greg s q p rd % 2 ^ (8 * m)) (greg s q p rb % 2 ^ (8 * m))).elim d (fun v => ssmWrite d x (leBytes m v)) = u)
        (h : Fetches s q p (amo op)) : exec cmd s = .next (seqWrite u q p rd old 12) := by
      rw [hcmd, atomicRow_done f rfl hin hal h, atomicDone, greg_drainAll, greg_drainAll, ← hu]
    exact ⟨atomic rfl rfl, atomic rfl rfl,
      atomic rfl (apply_ite (fun v : Option Nat => v.elim d fun v => ssmWrite d x (leBytes m v)) _ _ _)⟩
  case atomicFault =>
    intro flt
    have hcause : ssmCause s q p c m = i := by
      rw [hi]
      split
      next hin => exact ssmCause_misaligned hin (hbad.resolve_right (Nat.not_lt.2 hin))
      next hout => exact ssmCause_outside (Nat.lt_of_not_le hout)
    have hne : i ≠ 0 := by rw [hi]; split <;> decide
    have faults {cmd : Instr} {op : Nat} {f : Nat → Nat → Nat → Option Nat}
        (hcmd : exec cmd s = .next (atomicRow s q .ok op rd ra rb dbl f)) (h : Fetches s q p (amo op)) : exec cmd s = .next flt := by
      rw [hcmd, atomicRow_faults f hcause hne h]
    exact ⟨faults rfl, faults rfl, faults rfl⟩
  case fence =>
    have hfence : exec (.fence q .ok) s = .next
        (let r := if (pairOf s q p).sbuf.isEmpty then (0, s) else stallCycles s
         seqNext (drainAll r.2 q p) q p (1 + r.1)) := seqRun_next h _
    rw [hfence]
    split
    next hempty => rw [if_pos (List.isEmpty_iff.1 hempty)]; rfl
    next hstores => rw [if_neg (mt List.isEmpty_iff.2 hstores)]; rfl
  case window =>
    intro w v in_
    have himage' : activeImage v q p = some i := himage
    have through {store : Bool} (hin : in_) (hwr : store = true → w.wr = true) (k : WinRef → State → State) :
        windowRow v q p a n store k = k w v := by
      obtain ⟨hal, hhigh, hoff, hsize⟩ := hin
      exact windowRow_through k himage' hal hhigh hoff hsize hwr
    have load {ue : Bool} (h : Fetches s q p (word 0x12)) : exec (.ldw q .ok rd ra sz off ue t) s = .next (windowRow v q p a n false _) :=
      seqRun_next (h.stamp t) _
    have store (h : Fetches s q p (word 0x13)) : exec (.stw q .ok rd ra sz off t) s = .next (windowRow v q p a n true _) :=
      seqRun_next (h.stamp t) _
    refine ⟨fun hin hfs => ⟨fun h => ⟨?read, ?readError⟩, fun hwr h => ?write⟩,
      fun hin hhost ue => ⟨fun h => ?hostRead, fun hwr h => ?hostWrite⟩,
      fun ue hal => ⟨fun hout h => ?outside, fun hro h => ?readOnly⟩⟩
    case read => rw [load h, through (store := false) hin nofun, if_neg (Bool.eq_false_iff.1 hfs)]; rfl
    case readError => rw [load h, through (store := false) hin nofun, if_neg (Bool.eq_false_iff.1 hfs)]; rfl
    case write => rw [store h, through hin fun _ => hwr, if_neg (Bool.eq_false_iff.1 hfs)]; rfl
    case hostRead => rw [load h, through (store := false) hin nofun, if_pos hhost]; rfl
    case hostWrite => rw [store h, through hin fun _ => hwr, if_pos hhost]; rfl
    case outside => rw [load h, windowRow_range _ himage' hal (.inl hout)]; rfl
    case readOnly => rw [store h, windowRow_range _ himage' hal (.inr ⟨rfl, hro⟩)]; rfl

end

section
/-! The device instructions that pass on what they name: ISSUE, SPOOL, MOVE and SIG (R286, R295 to R301, R306). Settles O34. -/

namespace Sys2Proof.Machine

/-! ## Device instructions (R295, R297) -/

/-- Draining leaves of its pair whatever the store buffer is no part of. -/
theorem pairOf_drainAll_keeps {α : Type} (part : PairSt → α) (s : State) (q p : Nat)
    (h : ∀ y : PairSt, part { y with sbuf := [] } = part y) : part (pairOf (drainAll s q p) q p) = part (pairOf s q p) := by
  have hseqs := (drainWrites_seqs (pairOf s q p).sbuf (modPair s q p fun y => { y with sbuf := [] })).1
  have hpair : pairOf (drainAll s q p) q p = pairOf (modPair s q p fun y => { y with sbuf := [] }) q p := by
    rw [pairOf, seqOf, drainAll, hseqs]; rfl
  rw [hpair]
  exact pairOf_modPair_keeps part s q p h

section
variable {s : State} {q p rd cost : Nat}

theorem devRun_dead (f : State → Nat × State) (hdead : devDead s (ownerOf s q p) = true) :
    devRun s q p rd cost f = seqWrite (drainAll s q p) q p rd devAborted cost := by
  simp only [devRun, ownerOf_drainAll, devDead_drainAll, hdead, if_true]

end

/-- A command that fetches its word completes with what it then does. -/
theorem Completes.of_fetched {i : Instr} {s s' u : State} {q p w : Nat} {k : Nat → State → State}
    (hi : exec i s = finSettle (seqRun s' q .ok w k)) (h : Fetches s' q p w) (hu : k p s' = u) : Completes i s u := by
  rw [← hu, ← seqRun_ok s' q p w k h]
  exact hi

/-! ## ISSUE, SPOOL and MOVE (R286, R298 to R300, R306) -/

section
variable {s : State} {q p rd ra n : Nat} {sel : Option Nat} {ue : Bool}

theorem descRow_dead (hdead : devDead s (ownerOf s q p) = true) :
    descRow s q p rd ra n sel ue = seqWrite (drainAll s q p) q p rd devAborted 32 := by
  simp only [descRow, ownerOf_drainAll, devDead_drainAll, hdead, if_true]

section
variable (hlive : devDead s (ownerOf s q p) = false)
include hlive

theorem descRow_cause {c : Nat} (hcause : descCause (drainAll s q p) q p (greg s q p ra) 64 0 n = c) (hne : c ≠ 0) :
    descRow s q p rd ra n sel ue = progFault (drainAll s q p) q p c (pairOf s q p).pc (greg s q p ra) := by
  simp only [descRow, ownerOf_drainAll, devDead_drainAll, hlive, Bool.false_eq_true, if_false, greg_drainAll]
  rw [orFault_cause _ hcause hne, pairOf_drainAll_keeps PairSt.pc s q p fun _ => rfl]

section
variable (hcause : descCause (drainAll s q p) q p (greg s q p ra) 64 0 n = 0)
include hcause

/-- What is done with a descriptor that a pointer names without a cause of R306. -/
theorem descRow_reads : descRow s q p rd ra n sel ue =
    let d := drainAll s q p
    let ptr := greg s q p ra
    let r := descRef d q p ptr
    if r.space = 0 then descPass d q p rd r sel (ssmRead d r.addr n) 32
    else if r.space = 1 then
      orFault d q p (if ue then 6 else 0) ptr fun d => descPass (useFree d) q p rd r sel (fsRead d r.addr n) (32 + freeVal d)
    else modPair (startOp d (ownerOf s q p) (.load q rd) r.addr n false []) q p fun y =>
      { y with stall := some { op := d.host.nextOp, since := d.clk, kind := if sel.isNone then 1 else 2, rd := rd, sel := sel.getD 0,
                               ptr := ptr } } := by
  simp only [descRow, ownerOf_drainAll, devDead_drainAll, hlive, Bool.false_eq_true, if_false, greg_drainAll]
  rw [orFault_none _ hcause, ownerOf_drainAll]
  rfl

section
variable {k : Nat} (hspace : (descRef (drainAll s q p) q p (greg s q p ra)).space = k)
include hspace

theorem descRow_scratch (hk : k = 0) : descRow s q p rd ra n sel ue =
    let r := descRef (drainAll s q p) q p (greg s q p ra)
    descPass (drainAll s q p) q p rd r sel (ssmRead (drainAll s q p) r.addr n) 32 :=
  (descRow_reads hlive hcause).trans (if_pos (hspace.trans hk))

theorem descRow_frameStore (hk : k = 1) : descRow s q p rd ra n sel false =
    let d := drainAll s q p
    let r := descRef d q p (greg s q p ra)
    descPass (useFree d) q p rd r sel (fsRead d r.addr n) (32 + freeVal d) := by
  rw [descRow_reads hlive hcause]
  simp only [hspace, hk, Nat.one_ne_zero, if_false, if_true]
  rfl

theorem descRow_frameStoreError (hk : k = 1) :
    descRow s q p rd ra n sel true = progFault (drainAll s q p) q p 6 (pairOf s q p).pc (greg s q p ra) := by
  rw [descRow_reads hlive hcause]
  simp only [hspace, hk, Nat.one_ne_zero, if_false, if_true]
  rw [orFault_cause _ rfl (by decide), pairOf_drainAll_keeps PairSt.pc s q p fun _ => rfl]

theorem descRow_host (hk : k = 2) : descRow s q p rd ra n sel ue =
    let d := drainAll s q p
    modPair (startOp d (ownerOf s q p) (.load q rd) (descRef d q p (greg s q p ra)).addr n false []) q p fun y =>
      { y with stall := some { op := d.host.nextOp, since := d.clk, kind := if sel.isNone then 1 else 2, rd := rd, sel := sel.getD 0,
                               ptr := greg s q p ra } } := by
  rw [descRow_reads hlive hcause]
  simp only [hspace, hk, Nat.succ_ne_self, Nat.succ_ne_zero, if_false]

end

end

end

end

/-- What MOVE does once its store buffer has drained (R299). -/
def moveRow (s : State) (q p rd ra c : Nat) : State :=
  let d := drainAll s q p
  if devDead d (ownerOf d q p) then seqWrite d q p rd devAborted 16
  else
    let ptr := greg d q p ra
    orFault d q p (descCause d q p ptr 8 8 32) ptr fun d =>
      let r := moveStart d q p c (descRef d q p ptr)
      seqWrite r.2 q p rd r.1 16

section
variable {s : State} {q p rd ra c : Nat}

theorem moveRow_dead (hdead : devDead s (ownerOf s q p) = true) :
    moveRow s q p rd ra c = seqWrite (drainAll s q p) q p rd devAborted 16 := by
  simp only [moveRow, ownerOf_drainAll, devDead_drainAll, hdead, if_true]

theorem moveRow_cause {k : Nat} (hlive : devDead s (ownerOf s q p) = false)
    (hcause : descCause (drainAll s q p) q p (greg s q p ra) 8 8 32 = k) (hne : k ≠ 0) :
    moveRow s q p rd ra c = progFault (drainAll s q p) q p k (pairOf s q p).pc (greg s q p ra) := by
  simp only [moveRow, ownerOf_drainAll, devDead_drainAll, hlive, Bool.false_eq_true, if_false, greg_drainAll]
  rw [orFault_cause _ hcause hne, pairOf_drainAll_keeps PairSt.pc s q p fun _ => rfl]

theorem moveRow_starts {st : Nat} {u : State} (hlive : devDead s (ownerOf s q p) = false)
    (hcause : descCause (drainAll s q p) q p (greg s q p ra) 8 8 32 = 0)
    (hx : moveStart (drainAll s q p) q p c (descRef (drainAll s q p) q p (greg s q p ra)) = (st, u)) :
    moveRow s q p rd ra c = seqWrite u q p rd st 16 := by
  simp only [moveRow, ownerOf_drainAll, devDead_drainAll, hlive, Bool.false_eq_true, if_false, greg_drainAll]
  rw [orFault_none _ hcause, hx]

theorem moveStart_idle {r : DescRef} (hown : chOwner s c = some (ownerOf s q p)) (hidle : chState s c = chIdle)
    (hruns : movHalted s = false) :
    moveStart s q p c r = (devOK, chStart s c r.space r.addr r.lo r.hi none) := by
  simp [moveStart, hown, hidle, hruns]

theorem moveStart_busy {r : DescRef} (hown : chOwner s c = some (ownerOf s q p)) (hbusy : chState s c ≠ chIdle ∨ movHalted s = true) :
    moveStart s q p c r = (devBusy, s) := by
  rw [moveStart, if_neg (not_not_intro hown), if_pos hbusy]

theorem moveStart_denied {r : DescRef} (hown : chOwner s c ≠ some (ownerOf s q p)) : moveStart s q p c r = (devPrivDenied, s) := if_pos hown

end

end Sys2Proof.Machine

open Sys2Proof Sys2Proof.Machine

/-- Settles O34: ISSUE and SPOOL are one row that differs in the length of the descriptor and in where it is passed on; what a pointer leads
to decides how it is read. -/
theorem descriptorInstructionsPassOnWhatTheyName : Obligations.DescriptorInstructionsPassOnWhatTheyName := by
  unfold Obligations.DescriptorInstructionsPassOnWhatTheyName
  intro s q p rd ra sel chan src ue t word v d o pc ptr r
  refine ⟨fun hlive => ⟨fun k n i hform => ?descriptor, fun h => ?move, fun h => ?sig⟩,
    fun hdead => ⟨fun h => ?issueDead, fun h => ?spoolDead, fun h => ?moveDead, fun h => ?sigDead⟩⟩
  case descriptor =>
    intro c
    have completes {u : State} (hu : descRow (stamp s t) q p rd ra n k ue = u) : Completes i s u := by
      rcases hform with ⟨rfl, rfl, rfl, h⟩ | ⟨rfl, rfl, rfl, h⟩
      · exact .of_fetched rfl (h.stamp t) hu
      · exact .of_fetched rfl (h.stamp t) hu
    refine ⟨fun hc => completes (descRow_cause (s := stamp s t) hlive rfl hc),
      fun hc hspace => completes (descRow_scratch hlive hc hspace rfl),
      fun hc hspace hue => completes ?read, fun hc hspace hue => completes ?readError,
      fun hc hspace => completes (descRow_host hlive hc hspace rfl)⟩
    case read => subst hue; exact descRow_frameStore hlive hc hspace rfl
    case readError => subst hue; exact descRow_frameStoreError hlive hc hspace rfl
  case move =>
    intro c e
    have completes {u : State} (hu : moveRow s q p rd ra chan = u) : Completes (.move q .ok rd ra chan) s u := .of_fetched rfl h hu
    have starts {st : Nat} {u : State} (hc : c = 0) (hx : moveStart d q p chan e = (st, u)) :
        Completes (.move q .ok rd ra chan) s (seqWrite u q p rd st 16) := completes (moveRow_starts hlive hc hx)
    have owner : ownerOf d q p = o := ownerOf_drainAll s q p
    exact ⟨fun hc => completes (moveRow_cause hlive rfl hc),
      fun hc hown hidle hruns => starts hc (moveStart_idle (hown.trans (congrArg some owner.symm)) hidle hruns),
      fun hc hown hbusy => starts hc (moveStart_busy (hown.trans (congrArg some owner.symm)) hbusy),
      fun hc hown => starts hc (moveStart_denied fun h => hown (h.trans (congrArg some owner)))⟩
  case sig =>
    refine (seqRun_next h _).trans (congrArg Host.Outcome.next ((devRun_live _ _ _ _ _ _ hlive).trans ?_))
    rw [ownerOf_drainAll]
    split
    · rfl
    · rfl
  case issueDead => exact .of_fetched rfl (h.stamp t) (descRow_dead hdead)
  case spoolDead => exact .of_fetched rfl (h.stamp t) (descRow_dead hdead)
  case moveDead => exact .of_fetched rfl h (moveRow_dead hdead)
  case sigDead => exact (seqRun_next h _).trans (congrArg Host.Outcome.next (devRun_dead _ hdead))

end

section
/-! WAIT: what a wait finds, what it takes, and when it polls or blocks (R297, R302, R323, R326, R335). Settles O35. -/

namespace Sys2Proof.Machine

/-- A wait that finds nothing: it polls −1 or blocks on the object (R302). -/
def waitUnmet (s : State) (q p kind obj rd : Nat) (poll : Bool) : State :=
  if poll then seqWrite s q p rd (neg64 1) 4 else blockOn (charge s q p 4) q p kind obj rd

/-- A wait that answers what was found: the value and the state that its taking leaves. -/
def waitEnds (s : State) (q p kind obj rd : Nat) (poll : Bool) (found : Option (Nat × State)) : State :=
  found.elim (waitUnmet s q p kind obj rd poll) fun r => seqWrite r.2 q p rd r.1 4

section
variable {s : State} {q p kind obj rd : Nat} {poll : Bool} {found : Option (Nat × State)}

theorem waitEnds_nothing (h : found = none) : waitEnds s q p kind obj rd poll found = waitUnmet s q p kind obj rd poll := by
  rw [h]; rfl

theorem waitEnds_found {v : Nat} {u : State} (h : found = some (v, u)) : waitEnds s q p kind obj rd poll found = seqWrite u q p rd v 4 := by
  rw [h]; rfl

/-- What is posted is taken, but what is held for a program that a migration moves is left to it (R335). -/
theorem waitEnds_posted {v : Nat} {u : State} {held : Bool} (h : found = if held then none else some (v, u)) :
    waitEnds s q p kind obj rd poll found = if held then waitUnmet s q p kind obj rd poll else seqWrite u q p rd v 4 := by
  rw [h]
  exact apply_ite (waitEnds s q p kind obj rd poll) _ _ _

end

/-! ## What is found (R302, R323, R326) -/

section
variable {s : State} {o x : Nat}

theorem waitTag_done (h : lookupKey (partOf s o).tags x = some true) : waitTag o x s =
    if heldFor s o 1 x then none else some (0, modPart s o fun y => { y with tags := eraseKey y.tags x }) := by
  rw [waitTag, h]

theorem waitTag_outstanding (h : lookupKey (partOf s o).tags x = some false) : waitTag o x s = none := by
  rw [waitTag, h]

theorem waitTag_unknown (h : lookupKey (partOf s o).tags x = none) : waitTag o x s = some (neg64 2, s) := by
  rw [waitTag, h]

theorem waitTimer_posted (h : get s (R.TICK_TMR_STAT_PEND o x) ≠ 0) : waitTimer o x s =
    if heldFor s o 2 x then none else some (get s (R.TICK_TMR_STAT_PEND o x), put s (R.TICK_TMR_STAT_PEND o x) 0) := by
  simp only [waitTimer, h, false_or]

theorem waitTimer_none (h : get s (R.TICK_TMR_STAT_PEND o x) = 0) : waitTimer o x s = none := if_pos (.inl h)

theorem waitEdge_captured {c : Nat} {r : List Nat} (h : capsOf s o x = c :: r) : waitEdge o x s =
    if heldFor s o 3 x then none else some (c, setCaps s o x r) := by
  rw [waitEdge, h]

theorem waitEdge_none (h : capsOf s o x = []) : waitEdge o x s = none := by
  rw [waitEdge, h]

theorem waitBell_rung (h : nth (partOf s o).bells x 0 ≠ 0) : waitBell o x s =
    if heldFor s o 4 x then none
    else some (nth (partOf s o).bells x 0, modPart s o fun y => { y with bells := setAt y.bells x 0 }) := by
  simp only [waitBell, h, false_or]

theorem waitBell_none (h : nth (partOf s o).bells x 0 = 0) : waitBell o x s = none := if_pos (.inl h)

end

/-! ## The rows of WAIT (R297, R302) -/

section
variable {s : State} {q p kind rd ra lim : Nat} {poll : Bool} (f : Nat → Nat → State → Option (Nat × State))
  (h : Fetches s q p (encImm 0x24 rd ra (kind + 2 ^ 15 * b2n poll)))
include h

theorem waitRow_dead (hdead : devDead s (ownerOf s q p) = true) :
    waitRow s q .ok kind rd ra lim poll f = seqWrite s q p rd (neg64 2) 4 := by
  rw [waitRow, seqRun_ok s q p _ _ h]
  exact if_pos hdead

section
variable (hlive : devDead s (ownerOf s q p) = false)
include hlive

theorem waitRow_range (hx : lim ≤ greg s q p ra) : waitRow s q .ok kind rd ra lim poll f = seqWrite s q p rd (neg64 3) 4 := by
  rw [waitRow, seqRun_ok s q p _ _ h]
  exact (if_neg (Bool.eq_false_iff.1 hlive)).trans (if_pos hx)

theorem waitRow_live (hx : greg s q p ra < lim) : waitRow s q .ok kind rd ra lim poll f =
    waitEnds s q p kind (greg s q p ra) rd poll (f (ownerOf s q p) (greg s q p ra) s) := by
  rw [waitRow, seqRun_ok s q p _ _ h]
  refine (if_neg (Bool.eq_false_iff.1 hlive)).trans ((if_neg (Nat.not_le.2 hx)).trans ?_)
  generalize f _ _ _ = found
  cases found <;> rfl

end

end

/-- WAIT on a tag takes bits [15:0] of ra, so that no number is out of range. -/
theorem exec_waitTag {s : State} {q : Seq} {p : Nat} {rd ra : Fin 32} {poll : Bool}
    (h : Fetches s q p (encImm 0x24 rd ra (1 + 2 ^ 15 * b2n poll))) (hlive : devDead s (ownerOf s q p) = false) :
    let x := greg s q p ra % 2 ^ 16
    exec (.waitTag q .ok rd ra poll) s = .next (waitEnds s q p 1 x rd poll (waitTag (ownerOf s q p) x s)) := by
  refine (seqRun_next h _).trans (congrArg Host.Outcome.next ((if_neg (Bool.eq_false_iff.1 hlive)).trans ?_))
  generalize waitTag _ _ _ = found
  cases found <;> rfl

end Sys2Proof.Machine

open Sys2Proof Sys2Proof.Machine

/-- Settles O35: each kind of WAIT looks at its object once, and what it finds decides between taking, polling and blocking. That a post
stays with a program that a migration moves is the model's reading of R328 and R335 (log entry 28). -/
theorem waitTakesPollsOrBlocks : Obligations.WaitTakesPollsOrBlocks := by
  unfold Obligations.WaitTakesPollsOrBlocks
  intro s q p rd ra poll word o x give wait
  have tickWord (h : Fetches s q p (word 0)) : Fetches s q p (encImm 0x24 rd ra (2 ^ 15 * b2n poll)) :=
    h.word (congrArg _ (Nat.zero_add _))
  constructor
  case left =>
    intro hdead none_
    have dead {kind lim : Nat} {f : Nat → Nat → State → Option (Nat × State)} {i : Instr}
        (hi : exec i s = .next (waitRow s q .ok kind rd ra lim poll f)) (h : Fetches s q p (word kind)) : exec i s = .next none_ :=
      hi.trans (congrArg Host.Outcome.next (waitRow_dead f h hdead))
    exact ⟨fun h => (seqRun_next (tickWord h) _).trans (congrArg Host.Outcome.next (if_pos hdead)),
      fun h => (seqRun_next h _).trans (congrArg Host.Outcome.next (if_pos hdead)), dead rfl, dead rfl, dead rfl⟩
  case right =>
    intro hlive
    have looks {kind lim : Nat} {f : Nat → Nat → State → Option (Nat × State)} {i : Instr} {u : State}
        (hi : exec i s = .next (waitRow s q .ok kind rd ra lim poll f)) (h : Fetches s q p (word kind)) (hx : x < lim)
        (hu : waitEnds s q p kind x rd poll (f o x s) = u) : exec i s = .next u :=
      hi.trans (congrArg Host.Outcome.next ((waitRow_live f h hlive hx).trans hu))
    have range {kind lim : Nat} {f : Nat → Nat → State → Option (Nat × State)} {i : Instr}
        (hi : exec i s = .next (waitRow s q .ok kind rd ra lim poll f)) (h : Fetches s q p (word kind)) (hx : lim ≤ x) :
        exec i s = .next (give s (2 ^ 64 - 3)) :=
      hi.trans (congrArg Host.Outcome.next (waitRow_range f h hlive hx))
    have tag {u : State} (h : Fetches s q p (word 1)) (hu : waitEnds s q p 1 (x % 2 ^ 16) rd poll (waitTag o (x % 2 ^ 16) s) = u) :
        exec (.waitTag q .ok rd ra poll) s = .next u := (exec_waitTag h hlive).trans (congrArg Host.Outcome.next hu)
    refine ⟨fun h => ?tick, fun h => ⟨fun hd => ?tagDone, fun hd => ?tagOutstanding, fun hd => ?tagUnknown⟩,
      fun h => ⟨fun hx hn => ?timerPosted, fun hx hn => ?timerNone, range rfl h⟩,
      fun h => ⟨fun c r hx hc => ?edgeCaptured, fun hx hc => ?edgeNone, range rfl h⟩,
      fun h => ⟨fun hx hn => ?bellRung, fun hx hn => ?bellNone, range rfl h⟩⟩
    case tick => exact (seqRun_next (tickWord h) _).trans (congrArg Host.Outcome.next (if_neg (Bool.eq_false_iff.1 hlive)))
    case tagDone => exact tag h (waitEnds_posted (waitTag_done hd))
    case tagOutstanding => exact tag h (waitEnds_nothing (waitTag_outstanding hd))
    case tagUnknown => exact tag h (waitEnds_found (waitTag_unknown hd))
    case timerPosted => exact looks rfl h hx (waitEnds_posted (waitTimer_posted hn))
    case timerNone => exact looks rfl h hx (waitEnds_nothing (waitTimer_none hn))
    case edgeCaptured => exact looks rfl h hx (waitEnds_posted (waitEdge_captured hc))
    case edgeNone => exact looks rfl h hx (waitEnds_nothing (waitEdge_none hc))
    case bellRung => exact looks rfl h hx (waitEnds_posted (waitBell_rung hn))
    case bellNone => exact looks rfl h hx (waitEnds_nothing (waitBell_none hn))

end

section
/-! TSET, TGET and EARM (R295, R297, R303, R321 to R327), and what a sequencer meets between instructions (R279, R302, R325, R326, R381,
R553). Settles O36 and O37. -/

namespace Sys2Proof.Machine

/-! ## TSET (R303, R321, R322) -/

section
variable {s : State} {q p mode rd ra tm : Nat} (h : Fetches s q p (encImm 0x25 rd ra (tm + 32 * mode)))
include h

theorem tsetRow_dead (hdead : devDead s (ownerOf s q p) = true) :
    tsetRow s q .ok mode rd ra tm = seqWrite (drainAll s q p) q p rd devAborted 4 :=
  (seqRun_ok s q p _ _ h).trans (devRun_dead _ hdead)

section
variable (hlive : devDead s (ownerOf s q p) = false)
include hlive

theorem tsetRow_cancels (hmode : mode = 0) :
    tsetRow s q .ok mode rd ra tm = seqWrite (tmrCancel (drainAll s q p) (ownerOf s q p) tm) q p rd devOK 4 := by
  subst hmode
  exact (seqRun_ok s q p _ _ h).trans (devRun_live _ _ _ _ _ _ hlive)

theorem tsetRow_loads {ok : Prop} [Decidable ok] (hmode : mode ≠ 0) (hok : tsetOk (drainAll s q p) mode (greg s q p ra) = true ↔ ok) :
    tsetRow s q .ok mode rd ra tm =
      if ok then seqWrite (tmrLoad (drainAll s q p) (ownerOf s q p) tm mode (greg s q p ra) (drainAll s q p).clk) q p rd devOK 4
      else seqWrite (drainAll s q p) q p rd devBadArg 4 := by
  refine (seqRun_ok s q p _ _ h).trans ((devRun_live _ _ _ _ _ _ hlive).trans ?_)
  by_cases hrange : ok
  · rw [if_pos hrange, if_neg (not_not_intro (hok.2 hrange)), if_neg hmode]
  · rw [if_neg hrange, if_pos fun hset => hrange (hok.1 hset)]

end

end

/-- Modes 1 and 2 take 1 ns to 2^40 ns. -/
theorem tsetOk_ns (s : State) {mode : Nat} (ns : Nat) (hmode : mode = 1 ∨ mode = 2) :
    tsetOk s mode ns = true ↔ 1 ≤ ns ∧ ns ≤ 2 ^ 40 := by
  rcases hmode with rfl | rfl <;> simp [tsetOk]

/-- Modes 3 and 4 take at most the nominal tick period less 1 ns. -/
theorem tsetOk_tick (s : State) {mode : Nat} (ns q p : Nat) (hmode : mode = 3 ∨ mode = 4) :
    tsetOk (drainAll s q p) mode ns = true ↔ (ns + 1) * s.tick.num ≤ 10 ^ 9 * s.tick.den := by
  rcases hmode with rfl | rfl <;> simp [tsetOk, drainAll_tick]

/-! ## TGET (R303, R323) -/

section
variable {s : State} {q p sel rd ra tm : Nat} (f : Nat → State → Nat × State) (h : Fetches s q p (encImm 0x26 rd ra (tm + 32 * sel)))
include h

theorem tgetRow_dead (hdead : devDead s (ownerOf s q p) = true) : tgetRow s q .ok sel rd ra tm f = seqWrite s q p rd 0 4 := by
  rw [tgetRow, seqRun_ok s q p _ _ h]
  exact if_pos hdead

theorem tgetRow_live {v : Nat} {u : State} (hlive : devDead s (ownerOf s q p) = false) (hf : f (ownerOf s q p) s = (v, u)) :
    tgetRow s q .ok sel rd ra tm f = seqWrite u q p rd v 4 := by
  rw [tgetRow, seqRun_ok s q p _ _ h]
  exact (if_neg (Bool.eq_false_iff.1 hlive)).trans (by rw [hf])

end

section
variable {s : State} {o t : Nat}

theorem tmrLeft_idle (h : tmrMode s o t = 0) : tmrLeft s o t = (0, s) := if_pos h

theorem tmrLeft_unknown (h : tmrMode s o t ≠ 0) (hdue : (timerOf s o t).due = none) : tmrLeft s o t = (freeVal s, useFree s) := by
  rw [tmrLeft, if_neg h, hdue]

theorem tmrLeft_whole {e : Nat} (h : tmrMode s o t ≠ 0) (hdue : (timerOf s o t).due = some e) (hns : (e - s.clk) * 5 % 6 = 0) :
    tmrLeft s o t = ((e - s.clk) * 5 / 6, s) := by
  rw [tmrLeft, if_neg h, hdue]
  exact if_pos hns

end

/-! ## EARM (R303, R327) -/

/-- The line that x names may be watched by partition o: the status of an EARM (R303). -/
def lineStatus (s : State) (o x : Nat) : Nat :=
  if 50 ≤ x then 0x21
  else if x < 48 ∧ ¬ (isSet s (R.PIN_GL_OWNER_VALID x) = true ∧ get s (R.PIN_GL_OWNER_PART x) = o) then 0x10 else 0

theorem earmStatus_drainAll (s : State) (q p o x : Nat) : earmStatus (drainAll s q p) o x = lineStatus s o x := by
  simp only [earmStatus, isSet, get_drainAll, Bool.and_eq_true, beq_iff_eq]
  rfl

/-- Arming and disarming act where the line may be watched, and give its status. -/
theorem devRun_earm {s : State} {q p rd x : Nat} (act : State → State) (hlive : devDead s (ownerOf s q p) = false) :
    devRun s q p rd 4 (fun s' => (earmStatus s' (ownerOf s q p) x, if earmStatus s' (ownerOf s q p) x = devOK then act s' else s')) =
      seqWrite (if lineStatus s (ownerOf s q p) x = 0 then act (drainAll s q p) else drainAll s q p) q p rd
        (lineStatus s (ownerOf s q p) x) 4 := by
  rw [devRun_live _ _ _ _ _ _ hlive]
  simp only [earmStatus_drainAll, devOK]

/-! ## Edges (R325, R326, R553) -/

section
variable {s : State} {o e t : Nat} {rise : Bool}

theorem edgeSample_takes (harmed : get s (R.TICK_EDGE_CFG_EDGES o e) ≠ 0)
    (hsettled : lineSettling s (get s (R.TICK_EDGE_CFG_INPUT o e)) (t - 12) = false) (hnew : levelOf s o e ≠ some rise) :
    edgeSample s o e rise t =
      let u := setLevel (stamp s t) o e (some rise)
      if edgeWanted (get s (R.TICK_EDGE_CFG_EDGES o e)) rise then edgeTake u o e (t - 12) else u :=
  if_neg fun h => h.elim harmed fun h => h.elim (Bool.eq_false_iff.1 hsettled) hnew

theorem edgeSample_ignores (h : levelOf s o e = some rise ∨ get s (R.TICK_EDGE_CFG_EDGES o e) = 0 ∨
    lineSettling s (get s (R.TICK_EDGE_CFG_INPUT o e)) (t - 12) = true) : edgeSample s o e rise t = s :=
  if_pos (or_rotate.1 h)

end

end Sys2Proof.Machine

open Sys2Proof Sys2Proof.Machine

/-- Settles O36: TSET and EARM drain the store buffer and act on what that leaves, TGET reads without draining. EARM_DISARM checks and
keeps its input (log entry 47). -/
theorem timersAndDetectorsAreSetReadAndArmed : Obligations.TimersAndDetectorsAreSetReadAndArmed := by
  unfold Obligations.TimersAndDetectorsAreSetReadAndArmed
  intro s q p rd ra tm det once t word o x d v give line
  constructor
  case left =>
    intro hdead edges hedges
    have tset {mode : Nat} {i : Instr} {u : State} (hi : exec i s = .next (tsetRow u q .ok mode rd ra tm))
        (h : Fetches u q p (word 0x25 (tm + 32 * mode))) (hu : devDead u (ownerOf u q p) = true) :
        exec i s = .next (give (drainAll u q p) 0x0D) := hi.trans (congrArg Host.Outcome.next (tsetRow_dead h hu))
    have tget {sel : Nat} {i : Instr} {u : State} {f : Nat → State → Nat × State}
        (hi : exec i s = .next (tgetRow u q .ok sel rd ra tm f))
        (h : Fetches u q p (word 0x26 (tm + 32 * sel))) (hu : devDead u (ownerOf u q p) = true) :
        exec i s = .next (give u 0) := hi.trans (congrArg Host.Outcome.next (tgetRow_dead f h hu))
    have aborts (f : State → Nat × State) :
        (Host.Outcome.next (devRun s q p rd 4 f) : Host.Outcome State Fault Refusal) =
          .next (give d 0x0D) :=
      congrArg Host.Outcome.next (devRun_dead f hdead)
    exact ⟨fun h => tset (mode := 0) rfl h hdead, fun h => tset (mode := 1) rfl (h.stamp t) hdead,
      fun h => tset (mode := 2) rfl (h.stamp t) hdead, fun h => tset (mode := 3) rfl h hdead, fun h => tset (mode := 4) rfl h hdead,
      fun h => tget (sel := 0) rfl (h.stamp t) hdead, fun h => tget (sel := 1) rfl h hdead, fun h => tget (sel := 2) rfl h hdead,
      fun h => (congrArg Host.Outcome.next (if_neg hedges)).trans ((seqRun_next h _).trans (aborts _)),
      fun h => (seqRun_next h _).trans (aborts _)⟩
  case right =>
    intro hlive
    have loads {mode : Nat} {i : Instr} {u : State} {ok : Prop} [Decidable ok] (hi : exec i s = .next (tsetRow u q .ok mode rd ra tm))
        (hmode : mode ≠ 0) (hok : tsetOk (drainAll u q p) mode (greg u q p ra) = true ↔ ok)
        (h : Fetches u q p (word 0x25 (tm + 32 * mode))) (hu : devDead u (ownerOf u q p) = false) :
        exec i s = .next (if ok then give (tmrLoad (drainAll u q p) (ownerOf u q p) tm mode (greg u q p ra) (drainAll u q p).clk) 0
          else give (drainAll u q p) 0x21) := hi.trans (congrArg Host.Outcome.next (tsetRow_loads h hu hmode hok))
    have reads {sel v : Nat} {i : Instr} {u u' : State} {f : Nat → State → Nat × State}
        (hi : exec i s = .next (tgetRow u q .ok sel rd ra tm f))
        (hf : f (ownerOf u q p) u = (v, u')) (h : Fetches u q p (word 0x26 (tm + 32 * sel))) (hu : devDead u (ownerOf u q p) = false) :
        exec i s = .next (give u' v) := hi.trans (congrArg Host.Outcome.next (tgetRow_live f h hu hf))
    refine ⟨fun h => ?cancel, fun h => ?oneshot, fun h => ?periodic, fun h => ?tickOneshot, fun h => ?tickPeriodic,
      fun h hmode => ?idle, fun e h hmode hdue hns => ?whole, fun h => ?pending, fun h => ?lost, fun h hmode hdue => ?unknown,
      fun edges hedges h => ?arm, fun h => ?disarm⟩
    case cancel => exact congrArg Host.Outcome.next (tsetRow_cancels (mode := 0) h hlive rfl)
    case oneshot => exact loads rfl (by decide) (tsetOk_ns _ _ (.inl rfl)) (h.stamp t) hlive
    case periodic => exact loads rfl (by decide) (tsetOk_ns _ _ (.inr rfl)) (h.stamp t) hlive
    case tickOneshot => exact loads rfl (by decide) (tsetOk_tick s _ q p (.inl rfl)) h hlive
    case tickPeriodic => exact loads rfl (by decide) (tsetOk_tick s _ q p (.inr rfl)) h hlive
    case idle => exact reads (sel := 0) rfl (tmrLeft_idle hmode) (h.stamp t) hlive
    case whole => exact reads (sel := 0) rfl (tmrLeft_whole hmode hdue hns) (h.stamp t) hlive
    case unknown => exact reads (sel := 0) rfl (tmrLeft_unknown hmode hdue) (h.stamp t) hlive
    case pending => exact reads (sel := 1) rfl rfl h hlive
    case lost => exact reads (sel := 2) rfl rfl h hlive
    case arm =>
      exact (congrArg Host.Outcome.next (if_neg hedges)).trans ((seqRun_next h _).trans
        (congrArg Host.Outcome.next (devRun_earm (fun u => edgeArm u o det x edges once) hlive)))
    case disarm =>
      exact (seqRun_next h _).trans (congrArg Host.Outcome.next (devRun_earm
        (fun u => put (put (edgeDisarm u o det) (R.TICK_EDGE_CFG_INPUT o det) x) (R.TICK_EDGE_CFG_ONCE o det) (b2n once)) hlive))

/-- Settles O37: each event acts on what it meets, and leaves alone what it cannot concern. That the first level a detector takes is a
change is the model's (log entry 47). -/
theorem quantaTimersEdgesAndDoorbellsTakeEffect : Obligations.QuantaTimersEdgesAndDoorbellsTakeEffect := by
  unfold Obligations.QuantaTimersEdgesAndDoorbellsTakeEffect
  refine ⟨fun s q p hcur hrun => ?quantum, fun s p tm t d hdue => ?timer, fun s p det rise t => ?edge,
    fun s p k hrun hpresent => ?doorbell⟩
  case quantum =>
    have hexec : exec (.quantumExpiry q) s = .next (match (seqOf s q).cur with
      | none => s
      | some p => if 512 ≤ (seqOf s q).quantum then leave s q p stRunnable else s) := rfl
    simp only [hexec, hcur, hrun, if_true]
  case timer =>
    have hexec : exec (.timerExpiry p tm t) s = .next (match (timerOf s p tm).due with
      | none => s
      | some d => if d ≤ t then tmrExpire (tmrNext (stamp s t) p tm) p tm else s) := rfl
    simp only [hexec, hdue]
  case edge =>
    intro x edges v
    exact ⟨fun harmed hsettled hnew => congrArg Host.Outcome.next (edgeSample_takes harmed hsettled hnew),
      fun h => congrArg Host.Outcome.next (edgeSample_ignores h)⟩
  case doorbell => exact (answered_run _ hrun).trans (congrArg Host.Outcome.next (if_pos hpresent))

end

section
/-! Translated accesses and walks (R371, R373, R375, R377, R561), allocations and resets of partitions (R342, R378, R380, R382, R383), and
migrations and tests of sequencers (R334, R337). Settles O45. -/

namespace Sys2Proof.Machine

/-! ## One page of an access (R370, R377, R561) -/

/-- The state after an access that hits in the cache has been counted. -/
def hitCounted (s : State) (o : HostOp) : State := if cacheHit s o then bump s R.IOM_HIT_CNT_COUNT else s

/-- An access whose page has been sent has come that far. -/
def pageSent (s : State) (o : HostOp) (pa : Nat) : HostOp :=
  { o with done := o.done + pageLen o, missed := false, reqs := if o.write then 0 else (pieceMsgs s o pa).length }

section
variable {s : State} {o : HostOp}

/-- An access in hand with a page left goes through translation as it stands, unless it is a completion entry, which is filled in
first. -/
theorem opPage_accessPage (hdead : o.dead = false) (hleft : o.done < o.len) (hreq : ∀ r, o.req ≠ .complete r) :
    opPage s o = accessPage s o := by
  rw [opPage, if_neg (Bool.eq_false_iff.1 hdead), if_neg (Nat.not_le.2 hleft)]
  split
  case h_1 r hr => exact absurd hr (hreq r)
  case h_2 => rfl

theorem accessPage_hit {pa : Nat} (h : xlate s o.part (o.addr + o.done) o.write = .hit pa) :
    accessPage s o =
      let v := { hitCounted s o with sent := (hitCounted s o).sent ++ pieceMsgs s o pa }
      if (pageSent s o pa).len ≤ (pageSent s o pa).done then opIssued v (pageSent s o pa) else setOp v (pageSent s o pa) := by
  rw [accessPage, h]
  rfl

theorem accessPage_miss (h : xlate s o.part (o.addr + o.done) o.write = .miss) :
    accessPage s o = startWalk (setOp (hitCounted s o) { o with missed := true }) o.part ((o.addr + o.done) / 4096) := by
  rw [accessPage, h]
  rfl

theorem accessPage_flt {c l r : Nat} (h : xlate s o.part (o.addr + o.done) o.write = .flt c l r) :
    accessPage s o = opFault (xfault (hitCounted s o) o.part (o.addr + o.done) o.write o.req c l r) o := by
  rw [accessPage, h]
  rfl

end

/-! ## Walks (R371, R373, R375, R561) -/

/-- The state without a walk. -/
def walkOff (s : State) (w : Walk) : State :=
  { s with host := { s.host with walks := s.host.walks.filter fun x => !(x.part == w.part && x.page == w.page) } }

/-- A walk that an invalidation met begins again, with the checks of R561 before its first read. -/
def walkAgain (s : State) (w : Walk) : State :=
  match xlate s w.part (4096 * w.page) false with
  | .flt c l r => walkFault s w.part w.page c l r
  | _ => startWalk s w.part w.page

/-- The state after a walk that ends, or begins again, where its end alone would leave u. -/
def walkOver (s : State) (w : Walk) (u : State) : State := if w.again then walkAgain (walkOff s w) w else u

/-- The state after a walk that ends with a fault at its level. -/
def walkFailed (s : State) (w : Walk) (cause region : Nat) : State :=
  walkOver s w (walkFault (walkOff s w) w.part w.page cause w.level region)

theorem walkEnds_eq (s : State) (w : Walk) (k : State → State) : walkEnds s w k = walkOver s w (k (walkOff s w)) :=
  ite_not ..

/-- The table that an entry v names. -/
def tableAt (v : Nat) : Nat := 4096 * bits v 12 40

/-- The walk w goes on to its next level, in the table that the entry v names. -/
def walkDown (s : State) (w : Walk) (v : Nat) : State :=
  let x := { w with level := w.level - 1, entry := tableAt v + 8 * bits (4096 * w.page) (12 + 9 * (w.level - 2)) 9 }
  { s with host := { s.host with walks := s.host.walks.map fun y => if y.part = w.part ∧ y.page = w.page then x else y } }

/-- The checks of an entry that a walk reads, in their order (R561 step 3). -/
theorem tableRead_eq (s : State) (w : Walk) (ok : Bool) (v : Nat) : tableRead s w ok v =
    if ¬ ok then walkFailed s w 4 31
    else if ¬ bitAt v 0 then walkFailed s w 1 31
    else if w.level = 1 then
      if bits v 5 3 ≠ 0 ∨ bits v 52 12 ≠ 0 then walkFailed s w 3 31
      else walkOver s w (cacheAdd (walkOff s w) (leafOf w.part w.page v))
    else if bits v 1 7 ≠ 0 ∨ bits v 52 12 ≠ 0 then walkFailed s w 3 31
    else (regionOf s (tableAt v)).elim (walkDown s w v) (walkFailed s w 5) := by
  simp only [tableRead, walkEnds_eq, walkFailed, tableAt]
  cases regionOf s (4096 * bits v 12 40) <;> rfl

section
variable {s : State} {w : Walk} {v : Nat}

theorem tableRead_readError : tableRead s w false v = walkFailed s w 4 31 := by
  rw [tableRead_eq, if_pos Bool.false_ne_true]

theorem tableRead_invalid (hvalid : bitAt v 0 = false) : tableRead s w true v = walkFailed s w 1 31 := by
  rw [tableRead_eq, if_neg (not_not_intro rfl), if_pos (Bool.eq_false_iff.1 hvalid)]

section
variable (hvalid : bitAt v 0 = true)
include hvalid

/-- A valid entry of level 1 is a leaf, which enters the cache unless a reserved bit is set. -/
theorem tableRead_leaf (hlevel : w.level = 1) : tableRead s w true v =
    if bits v 5 3 ≠ 0 ∨ bits v 52 12 ≠ 0 then walkFailed s w 3 31
    else walkOver s w (cacheAdd (walkOff s w) (leafOf w.part w.page v)) := by
  rw [tableRead_eq, if_neg (not_not_intro rfl), if_neg (not_not_intro hvalid), if_pos hlevel]

/-- A valid entry of another level names a table, which must lie outside the device regions. -/
theorem tableRead_table (hlevel : w.level ≠ 1) : tableRead s w true v =
    if bits v 1 7 ≠ 0 ∨ bits v 52 12 ≠ 0 then walkFailed s w 3 31
    else (regionOf s (tableAt v)).elim (walkDown s w v) (walkFailed s w 5) := by
  rw [tableRead_eq, if_neg (not_not_intro rfl), if_neg (not_not_intro hvalid), if_neg hlevel]

end

end

/-- The read of a walk in progress completes with what its entry comes to. -/
theorem completes_walkReadDone {s u : State} {p : Part} {page : Nat} {w : Walk} {ok : Bool} {e : Word64}
    (hfind : s.host.walks.find? (fun w => w.part == p.val && w.page == page) = some w) (h : tableRead s w ok e.toNat = u) :
    Completes (.walkReadDone p page ok e) s u := by
  refine .of_finSettle ?_
  change execWalkReadDone p page ok e s = _
  rw [execWalkReadDone, hfind, ← h]

/-! ## Invalidations (R375) -/

/-- The range that IOM_INV_CMD names with the address registers. -/
def invalOf (s : State) (v : Word32) : Inval :=
  { part := bits v.toNat 24 3, first := get s R.IOM_INV_ADDR_LO_ADDR + 2 ^ 20 * get s R.IOM_INV_ADDR_HI_ADDR, pages := bits v.toNat 0 20 }

section
variable {s : State} (hrun : unitsRun s = true)
include hrun

theorem exec_iomInvCmd_busy {v : Word32} (hbusy : isSet s R.IOM_INV_STAT_BUSY = true) :
    exec (.iomInvCmd v) s = .next (put s R.IOM_STAT_CFGERR 1) :=
  (answered_run _ hrun).trans (congrArg Host.Outcome.next (if_pos hbusy))

theorem exec_iomInvCmd_begins {v : Word32} (hbusy : isSet s R.IOM_INV_STAT_BUSY = false) :
    exec (.iomInvCmd v) s = .next
      (let u := put (put s R.IOM_INV_STAT_DONE 0) R.IOM_INV_STAT_BUSY 1
       cachePurge { u with host := { s.host with inval := some (invalOf s v) } } (invalOf s v).part (invalOf s v).first
         (invalOf s v).pages) :=
  (answered_run _ hrun).trans (congrArg Host.Outcome.next (if_neg (Bool.eq_false_iff.1 hbusy)))

end

section
variable {s : State} {i : Inval} (hinval : s.host.inval = some i)
include hinval

theorem exec_invalidationDone_ends (hfree : invBusy s i = false) : exec .invalidationDone s =
    .next (put (put { s with host := { s.host with inval := none } } R.IOM_INV_STAT_BUSY 0) R.IOM_INV_STAT_DONE 1) := by
  change execInvalidationDone s = _
  rw [execInvalidationDone, hinval]
  exact congrArg Host.Outcome.next (if_neg (Bool.eq_false_iff.1 hfree))

theorem exec_invalidationDone_waits (hbusy : invBusy s i = true) : exec .invalidationDone s = .next s := by
  change execInvalidationDone s = _
  rw [execInvalidationDone, hinval]
  exact congrArg Host.Outcome.next (if_pos hbusy)

end

theorem exec_invalidationDone_idle {s : State} (h : s.host.inval = none) : exec .invalidationDone s = .next s := by
  change execInvalidationDone s = _
  rw [execInvalidationDone, h]

/-! ## Allocations (R378) -/

/-- What keeps partition p from an allocation that ends at top, where limit is the end of the memory and meets k says that it overlaps
partition k's. -/
def allocRefused (s : State) (p top limit : Nat) (meets : Nat → Bool) : Bool :=
  hasProgram s p || hasRing s p || decide (limit < top) || (List.range 8).any fun k => k != p && meets k

theorem allocRefused_eq_false {s : State} {p top limit : Nat} {meets : Nat → Bool} : allocRefused s p top limit meets = false ↔
    hasProgram s p = false ∧ hasRing s p = false ∧ top ≤ limit ∧ ∀ k < 8, k ≠ p → meets k = false := by
  simp only [allocRefused, Bool.or_eq_false_iff, decide_eq_false_iff_not, Nat.not_lt, List.any_eq_false, List.mem_range, Bool.and_eq_true,
    bne_iff_ne, not_and, Bool.not_eq_true, and_assoc]

/-- An allocation is taken where nothing refuses it, and refused elsewhere. -/
theorem next_ite_allocRefused {s : State} {p top limit : Nat} {meets : Nat → Bool} {ok : Prop} (refuse take : State)
    (hok : ok ↔ allocRefused s p top limit meets = false) : let u := if allocRefused s p top limit meets then refuse else take
    (ok → (Host.Outcome.next u : Host.Outcome State Fault Refusal) = .next take) ∧
    (¬ ok → (Host.Outcome.next u : Host.Outcome State Fault Refusal) = .next refuse) :=
  ⟨fun h => congrArg _ (if_neg (Bool.eq_false_iff.1 (hok.1 h))),
    fun h => congrArg _ (if_pos (eq_true_of_ne_false (h ∘ hok.2)))⟩

/-! ## Resets of partitions (R342, R380, R382, R383) -/

/-- The functions of l are reset, each with its partition. -/
def functionsReset (s : State) (l : List Nat) : State := l.foldl (fun z k => partReset (msixOff z k) k) s

theorem completes_prtPreset {s : State} {v : Word32} (hrun : unitsRun s = true) (hpresent : present s (bits v.toNat 0 3) = true) :
    Completes (.prtPreset v) s (partReset s (bits v.toNat 0 3)) :=
  .of_answered hrun (congrArg (answered s) (if_pos hpresent))

theorem exec_prtPreset_absent {s : State} {v : Word32} (hrun : unitsRun s = true) (habsent : present s (bits v.toNat 0 3) = false) :
    exec (.prtPreset v) s = .next (put s R.PRT_CFG_CFGERR 1) :=
  (answered_run _ hrun).trans (if_neg (Bool.eq_false_iff.1 habsent))

section
variable {s : State} {p : Part}

theorem exec_functionLevelReset_absent (habsent : present s p = false) : exec (.functionLevelReset p) s = .next s :=
  if_pos (Bool.eq_false_iff.1 habsent)

variable (hpresent : present s p = true)
include hpresent

theorem completes_functionLevelReset_vf (hp : p.val ≠ 0) : Completes (.functionLevelReset p) s (partReset (msixOff s p) p) :=
  .of_finSettle ((if_neg (not_not_intro hpresent)).trans (if_neg hp))

/-- A reset of the PF resets every function that is present, and disables the VFs. -/
theorem completes_functionLevelReset_pf (hp : p.val = 0) : Completes (.functionLevelReset p) s
    (let u := functionsReset s ((List.range 8).filter (present s))
     { u with host := { u.host with vfOn := false, numVfs := 0, bar0 := none, bar2 := none, vfBar := none } }) :=
  .of_finSettle ((if_neg (not_not_intro hpresent)).trans (if_pos hp))

end

/-! ## Migrations and tests of sequencers (R334, R337) -/

section
variable {s : State} {v : Word32} (hrun : unitsRun s = true)
include hrun

theorem exec_seqMigReq_refused (hcode : migCode s (bits v.toNat 0 2) (bits v.toNat 2 2) ≠ 0) :
    exec (.seqMigReq v) s = .next (put s R.SEQ_MIG_STAT_CODE (migCode s (bits v.toNat 0 2) (bits v.toNat 2 2))) :=
  (answered_run _ hrun).trans (congrArg Host.Outcome.next (if_pos hcode))

theorem exec_seqMigReq_begins (hcode : migCode s (bits v.toNat 0 2) (bits v.toNat 2 2) = 0) :
    exec (.seqMigReq v) s = .next (put (put (put (put s R.SEQ_MIG_STAT_STATE 1) R.SEQ_MIG_STAT_CODE 0)
      R.SEQ_MIG_STAT_SRC (bits v.toNat 0 2)) R.SEQ_MIG_STAT_DST (bits v.toNat 2 2)) :=
  (answered_run _ hrun).trans (congrArg Host.Outcome.next (if_neg (not_not_intro hcode)))

theorem exec_seqTestReq_begins (hoff : offline s (bits v.toNat 0 2) = true) (hidle : get s R.SEQ_TEST_STAT_RESULT ≠ 1) :
    exec (.seqTestReq v) s = .next (put (put s R.SEQ_TEST_STAT_RESULT 1) R.SEQ_TEST_STAT_SEQ (bits v.toNat 0 2)) :=
  (answered_run _ hrun).trans (congrArg Host.Outcome.next (if_pos ⟨hoff, hidle⟩))

/-- A test of an online sequencer, or one while another runs, is discarded. -/
theorem exec_seqTestReq_discarded (h : offline s (bits v.toNat 0 2) = false ∨ get s R.SEQ_TEST_STAT_RESULT = 1) :
    exec (.seqTestReq v) s = .next s :=
  (answered_run _ hrun).trans (congrArg Host.Outcome.next (if_neg fun ⟨hoff, hidle⟩ => h.elim (Bool.eq_false_iff.1 · hoff) hidle))

end

end Sys2Proof.Machine

open Sys2Proof Sys2Proof.Machine

/-- Settles O45: the outcome of a page's translation decides what its access does, the entry that a walk reads what the walk comes to, and
the checks of each command its answer. An invalidation that removes its entries at once (log entry 58), MSI-X off and no base after a
function level reset (log entry 9), shares stored as they are written (log entry 18), SRC and DST that only an accepted request changes
(log entry 28) and a test request discarded while a test runs (log entry 52) are the model's. -/
theorem translationPartitionsAndMigrationAnswerAsStated : Obligations.TranslationPartitionsAndMigrationAnswerAsStated := by
  unfold Obligations.TranslationPartitionsAndMigrationAnswerAsStated
  refine ⟨fun s o hdead hleft hreq => ?page, fun s p page w e hfind => ?walk, fun s v hrun hbusy => exec_iomInvCmd_busy hrun hbusy,
    fun s v hrun hbusy => exec_iomInvCmd_begins hrun hbusy, fun s i hinval hfree => exec_invalidationDone_ends hinval hfree,
    fun s h => ?waits, fun s p v hrun => ?allocations,
    fun s v hrun => ⟨completes_prtPreset hrun, exec_prtPreset_absent hrun⟩,
    fun s p hpresent => ⟨completes_functionLevelReset_vf hpresent, completes_functionLevelReset_pf hpresent⟩,
    fun s p habsent => exec_functionLevelReset_absent habsent, fun s n => ⟨.of_finSettle rfl, rfl⟩, fun s v hrun => ?sequencers,
    fun s pass hruns => congrArg Host.Outcome.next (if_pos hruns), fun s pass hidle => congrArg Host.Outcome.next (if_neg hidle)⟩
  case page =>
    have htranslates : opPage s o = accessPage s o := opPage_accessPage hdead hleft hreq
    exact ⟨fun pa h => htranslates.trans (accessPage_hit h), fun h => htranslates.trans (accessPage_miss h),
      fun c l r h => htranslates.trans (accessPage_flt h)⟩
  case walk =>
    refine ⟨?readError, fun hvalid => ?invalid, fun hvalid hlevel hlow hhigh => ?leaf, fun hvalid hlevel hreserved => ?leafReserved,
      fun hvalid hlevel hreserved => ?tableReserved, fun r hvalid hlevel hlow hhigh hregion => ?inDevice,
      fun hvalid hlevel hlow hhigh hregion => ?goesOn⟩
    case readError => exact completes_walkReadDone hfind tableRead_readError
    case invalid => exact completes_walkReadDone hfind (tableRead_invalid hvalid)
    case leaf =>
      exact completes_walkReadDone hfind ((tableRead_leaf hvalid hlevel).trans (if_neg (not_or_intro (· hlow) (· hhigh))))
    case leafReserved => exact completes_walkReadDone hfind ((tableRead_leaf hvalid hlevel).trans (if_pos hreserved))
    case tableReserved => exact completes_walkReadDone hfind ((tableRead_table hvalid hlevel).trans (if_pos hreserved))
    case inDevice =>
      refine completes_walkReadDone hfind ((tableRead_table hvalid hlevel).trans ?_)
      rw [if_neg (not_or_intro (· hlow) (· hhigh)), tableAt, hregion]
      rfl
    case goesOn =>
      refine completes_walkReadDone hfind ((tableRead_table hvalid hlevel).trans ?_)
      rw [if_neg (not_or_intro (· hlow) (· hhigh)), tableAt, hregion]
      rfl
  case waits =>
    rcases h with hnone | ⟨i, hinval, hbusy⟩
    · exact exec_invalidationDone_idle hnone
    · exact exec_invalidationDone_waits hinval hbusy
  case allocations =>
    refine ⟨answered_run _ hrun, answered_run _ hrun, ?frameStore, ?scratch, answered_run _ hrun⟩
    case frameStore =>
      have hexec : exec (.prtFsSizeWrite p v) s = .next (fsCommit s p (bits v.toNat 0 24)) := answered_run _ hrun
      rw [hexec]
      exact next_ite_allocRefused _ _ allocRefused_eq_false.symm
    case scratch =>
      have hexec : exec (.prtSsmWrite p v) s = .next (ssmCommit s p (bits v.toNat 0 9) (bits v.toNat 16 10)) := answered_run _ hrun
      rw [hexec]
      exact next_ite_allocRefused _ _ allocRefused_eq_false.symm
  case sequencers =>
    exact ⟨exec_seqMigReq_refused hrun, exec_seqMigReq_begins hrun, answered_run _ hrun, exec_seqTestReq_begins hrun,
      exec_seqTestReq_discarded hrun⟩

end

section
/-! The commands of the signal hub (R361 to R365, R368, R559). Settles O46. -/

namespace Sys2Proof.Machine

/-! ## Raises and assignments (R361, R363) -/

/-- A raise of a source other than 0 sets its PEND bit. -/
theorem raise_source {s : State} {src : Source} (hsrc : src.val ≠ 0) : raise s src = put s (R.HUB_PEND src) 1 :=
  if_neg (not_or_intro hsrc (Nat.not_le.2 src.isLt))

theorem raise_hubErr (s : State) : raise s hubErr = put s (R.HUB_PEND hubErr) 1 := if_neg (by decide)

section
variable {s : State} {src : Nat}

theorem deliverable_iff : deliverable s src = true ↔
    isSet s (R.HUB_PEND src) = true ∧ isSet s (R.HUB_MASK src) = false ∧ isSet s (R.HUB_INSERV src) = false := by
  simp only [deliverable, Bool.and_eq_true, Bool.not_eq_true', and_assoc]

theorem assignSrc_target {t : Nat} (hdel : deliverable s src = true) (hfree : assignedTo s src = none)
    (hnext : nextTarget s src = some t) : assignSrc s src =
      let h := { s.hub with assigned := insertKey s.hub.assigned src t, lastTgt := insertKey s.hub.lastTgt src t }
      if t < 8 then msixSend { s with hub := h } t (get s (R.HUB_ROUTE_VEC src)) else { s with hub := h } := by
  rw [assignSrc, hdel, hfree, hnext]
  rfl

/-- A source that is not deliverable, is assigned already or has no target is left alone. -/
theorem assignSrc_same (h : deliverable s src = true → assignedTo s src = none → nextTarget s src = none) : assignSrc s src = s := by
  rw [assignSrc]
  split
  case isTrue hgoes =>
    obtain ⟨hdel, hfree⟩ := (Bool.and_eq_true _ _).mp hgoes
    rw [h hdel (Option.isNone_iff_eq_none.1 hfree)]
  case isFalse => rfl

end

/-! ## Claims and ends of interrupt (R364) -/

section
variable {s : State} {t : Nat}

theorem claimRead_none (h : highestAssigned s t = none) : claimRead s t = { s with rdata := 0 } := by
  rw [claimRead, h]

theorem claimRead_some {src : Nat} (h : highestAssigned s t = some src) :
    claimRead s t = { claimSrc s t src with rdata := 2 ^ 31 + src } := by
  rw [claimRead, h]

theorem holds_iff {src : Nat} : holds s t src = true ↔ lookupKey s.hub.held src = some t := beq_iff_eq

end

section
variable {s : State} {tgt : Target} {src : Source} (hrun : unitsRun s = true)
include hrun

theorem exec_hubEoi_holder (hheld : lookupKey s.hub.held src = some tgt.val) : exec (.hubEoi tgt src) s = .next (endSrc s src) :=
  (answered_run _ hrun).trans (congrArg Host.Outcome.next (if_pos (holds_iff.2 hheld)))

/-- An end by a target that does not hold the source is counted and raises HUB_ERR. -/
theorem exec_hubEoi_other (hheld : lookupKey s.hub.held src ≠ some tgt.val) :
    exec (.hubEoi tgt src) s = .next (put (bump s R.HUB_ERR_CNT_COUNT) (R.HUB_PEND hubErr) 1) :=
  (answered_run _ hrun).trans (congrArg Host.Outcome.next ((if_neg (hheld ∘ holds_iff.1)).trans (raise_hubErr _)))

end

/-! ## Routes and targets (R363, R368) -/

theorem b2n_bitAt (x i : Nat) : b2n (bitAt x i) = bits x i 1 := by
  rcases Nat.mod_two_eq_zero_or_one (x / 2 ^ i) with h | h <;> simp [b2n, bitAt, bits, h]

section
variable {s : State} {v : Word32} (hrun : unitsRun s = true)
include hrun

/-- OWNER and RAISE are those of software sources only. -/
theorem exec_hubRouteWrite {src : Source} : exec (.hubRouteWrite src v) s = .next
    (let r := put (put s (R.HUB_ROUTE_TGT src) v.toNat) (R.HUB_ROUTE_VEC src) (bits v.toNat 16 5)
     reassign (if src.val < 0x200 then r
       else put (put r (R.HUB_ROUTE_OWNER src) (bits v.toNat 24 3)) (R.HUB_ROUTE_RAISE src) (bits v.toNat 27 1)) src) := by
  refine (answered_run _ hrun).trans (congrArg (fun u => Host.Outcome.next (reassign u src)) ?_)
  rw [← ite_not]
  simp only [Nat.not_le]

theorem exec_hubTgtCtlWrite {tgt : Target} : exec (.hubTgtCtlWrite tgt v) s = .next
    (reassignAll (put (put (put s (R.HUB_TGT_CTL_PART tgt) (bits v.toNat 8 3)) (R.HUB_TGT_CTL_PDB tgt) (bits v.toNat 12 4))
      (R.HUB_TGT_CTL_EN tgt) (bits v.toNat 0 1))) := by
  rw [← b2n_bitAt]
  exact answered_run _ hrun

end

/-! ## The targets of the sequencers and of the belay cores (R365, R559) -/

section
variable {s : State} {q : Seq}

theorem exec_seqTargetClaim_none (h : highestAssigned s (8 + q.val) = none) : exec (.seqTargetClaim q) s = .next s := by
  change execSeqTargetClaim q s = _
  simp only [execSeqTargetClaim, h]

theorem exec_seqTargetClaim_some {src : Nat} (h : highestAssigned s (8 + q.val) = some src) : exec (.seqTargetClaim q) s = .next
    (let o := get s (R.HUB_TGT_CTL_PART (8 + q.val))
     let u := claimSrc s (8 + q.val) src
     endSrc (if (partOf s o).rst = 0 then bellRing u o (get u (R.HUB_TGT_CTL_PDB (8 + q.val))) else u) src) := by
  change execSeqTargetClaim q s = _
  simp only [execSeqTargetClaim, h]
  rfl

end

/-- The active core records the source that it claims and ends. -/
theorem exec_belayClaim_active {s : State} {src : Nat} (hactive : coreSt s (get s R.FLT_BLY_STAT_ACTIVE) = 0)
    (h : highestAssigned s (12 + get s R.FLT_BLY_STAT_ACTIVE) = some src) : exec .belayClaim s = .next
      (let u := endSrc (claimSrc s (12 + get s R.FLT_BLY_STAT_ACTIVE) src) src
       { u with sup := { s.sup with journal := s.sup.journal ++ [src] } }) := by
  change execBelayClaim s = _
  simp only [execBelayClaim, if_pos hactive, h]
  rfl

end Sys2Proof.Machine

open Sys2Proof Sys2Proof.Machine

/-- Settles O46: each command is its change of the source's state; what an assignment, a claim or an end finds decides whether it makes
one. -/
theorem hubSourcesAreRaisedAssignedClaimedAndEnded : Obligations.HubSourcesAreRaisedAssignedClaimedAndEnded := by
  unfold Obligations.HubSourcesAreRaisedAssignedClaimedAndEnded
  refine ⟨fun s src hrun => ?sources, fun s src t hpend hmask hinserv hfree hnext => ?assigned, fun s src h => ?left,
    fun s tgt hrun => ?claims, fun s tgt src hrun => ⟨exec_hubEoi_holder hrun, exec_hubEoi_other hrun⟩,
    fun s tgt src v hrun => ⟨exec_hubRouteWrite hrun, exec_hubTgtCtlWrite hrun⟩,
    fun s q => ⟨exec_seqTargetClaim_none, fun src => exec_seqTargetClaim_some⟩, fun s src => exec_belayClaim_active⟩
  case sources =>
    have hraise (hsrc : src.val ≠ 0) : answered s (.next (raise s src)) = .next (put s (R.HUB_PEND src) 1) :=
      (answered_run _ hrun).trans (congrArg Host.Outcome.next (raise_source hsrc))
    exact ⟨hraise, hraise, ⟨answered_run _ hrun, answered_run _ hrun⟩, answered_run _ hrun⟩
  case assigned => exact congrArg Host.Outcome.next (assignSrc_target (deliverable_iff.2 ⟨hpend, hmask, hinserv⟩) hfree hnext)
  case left =>
    refine congrArg Host.Outcome.next (assignSrc_same fun hdel hfree => ?_)
    obtain ⟨hpend, hmask, hinserv⟩ := deliverable_iff.1 hdel
    simpa [hpend, hmask, hinserv, hfree] using h
  case claims =>
    exact ⟨fun h => (answered_run _ hrun).trans (congrArg Host.Outcome.next (claimRead_none h)),
      fun src h => (answered_run _ hrun).trans (congrArg Host.Outcome.next (claimRead_some h))⟩

end

section
/-! The partitions' windows of the signal hub, and the MSI-X emitters (R342, R364 to R366). Settles O47. -/

namespace Sys2Proof.Machine

/-- An access through the window of a present partition is carried out. -/
theorem answered_inWindow {s : State} {p : Nat} (u : State) (hrun : unitsRun s = true) (hpresent : present s p = true) :
    answered s (.next (inWindow s p u)) = .next u :=
  (answered_run _ hrun).trans (congrArg Host.Outcome.next (if_pos hpresent))

/-! ## Windows (R366) -/

/-- Only software sources, from 0x200 on, are a partition's to raise. -/
theorem raise_mayRaise {s : State} {p : Nat} {src : Source} (h : mayRaise s p src = true) : raise s src = put s (R.HUB_PEND src) 1 := by
  refine raise_source fun hzero => ?_
  simp [mayRaise, hzero] at h

/-! ## MSI-X (R365) -/

theorem bitAt_withBit_false (x i : Nat) : bitAt (withBit x i false) i = false := by
  unfold withBit
  split
  case isTrue hset =>
    have hodd : x / 2 ^ i % 2 = 1 := eq_of_beq hset
    have hless : (x - 2 ^ i) / 2 ^ i = x / 2 ^ i - 1 := by simpa using Nat.sub_mul_div x (2 ^ i) 1
    simp only [bitAt, Bool.false_eq_true, if_false, hless, beq_eq_false_iff_ne]
    omega
  case isFalse hclear => exact Bool.eq_false_iff.2 hclear

/-- The mask bit of vector v is clear. -/
def vecUnmasked (s : State) (p v : Nat) : State :=
  { s with hub := { s.hub with vecMask := modAt s.hub.vecMask p fun m => withBit m v false } }

/-- The pending bit of vector v is clear. -/
def vecTaken (s : State) (p v : Nat) : State :=
  { s with hub := { s.hub with vecPend := modAt s.hub.vecPend p fun m => withBit m v false } }

section
variable {s : State} {p v : Nat}

theorem vecMasked_vecUnmasked (hhush : nth s.hub.msixHush p false = false) (hlen : p < s.hub.vecMask.length) :
    vecMasked (vecUnmasked s p v) p v = false := by
  simp only [vecMasked, vecUnmasked, hhush, nth_modAt, if_pos hlen, bitAt_withBit_false, Bool.or_self]

theorem msixSend_off (hon : nth s.hub.msixOn p false = false) : msixSend s p v = s := if_neg (Bool.eq_false_iff.1 hon)

section
variable (hon : nth s.hub.msixOn p false = true)
include hon

/-- A vector that is masked, or whose function may send nothing, becomes pending. -/
theorem msixSend_held (h : vecMasked s p v = true ∨ mayIssue s p = false) :
    msixSend s p v = { s with hub := { s.hub with vecPend := modAt s.hub.vecPend p fun m => withBit m v true } } :=
  (if_pos hon).trans (if_pos (by simpa using h))

theorem msixSend_free (hmask : vecMasked s p v = false) (hissue : mayIssue s p = true) : msixSend s p v = msixMsg s p v :=
  (if_pos hon).trans (if_neg (by simp [hmask, hissue]))

theorem msixFlush_free (hmask : vecMasked s p v = false) (hissue : mayIssue s p = true) :
    msixFlush s p v = if bitAt (nth s.hub.vecPend p 0) v then msixMsg (vecTaken s p v) p v else s := by
  rw [msixFlush, hon, hmask, hissue]
  rfl

/-- A vector that is unmasked sends the message that it has pending. -/
theorem msixMask_clear (hhush : nth s.hub.msixHush p false = false) (hissue : mayIssue s p = true) (hlen : p < s.hub.vecMask.length) :
    msixMask s p v false = if bitAt (nth s.hub.vecPend p 0) v then msixMsg (vecTaken (vecUnmasked s p v) p v) p v
      else vecUnmasked s p v :=
  msixFlush_free (s := vecUnmasked s p v) hon (vecMasked_vecUnmasked hhush hlen) hissue

end

end

end Sys2Proof.Machine

open Sys2Proof Sys2Proof.Machine

/-- Settles O47: a window's access passes the check of R366 and is then the hub's own operation, or is counted; a vector's mask and what
its function may do decide between its message and its pending bit. That Bus Master Enable and D0 hold back a function's messages is the
model's reading of PCI Express (log entry 9, PRESUMED). -/
theorem windowsReachOwnSourcesAndMaskedMessagesWait : Obligations.WindowsReachOwnSourcesAndMaskedMessagesWait := by
  unfold Obligations.WindowsReachOwnSourcesAndMaskedMessagesWait
  refine ⟨fun s p src hrun hpresent => ?windows, fun s p vec hrun hpresent hon hhush hissue hmaskLen _ => ?unmasked,
    fun s p v => ⟨msixSend_held, msixSend_free, msixSend_off⟩⟩
  case windows =>
    refine ⟨?raise, answered_inWindow _ hrun hpresent, answered_inWindow _ hrun hpresent, answered_inWindow _ hrun hpresent, ?ends, ?none,
      ?claimed⟩
    case raise =>
      refine (answered_inWindow _ hrun hpresent).trans (congrArg Host.Outcome.next ?_)
      exact ite_congr rfl raise_mayRaise fun _ => rfl
    case ends =>
      exact (answered_inWindow _ hrun hpresent).trans (congrArg Host.Outcome.next (ite_congr (propext holds_iff) (fun _ => rfl) fun _ => rfl))
    case none =>
      exact fun h => (answered_inWindow _ hrun hpresent).trans (congrArg Host.Outcome.next (claimRead_none h))
    case claimed =>
      exact fun k h => (answered_inWindow _ hrun hpresent).trans (congrArg Host.Outcome.next (claimRead_some h))
  case unmasked =>
    exact (answered_inWindow _ hrun hpresent).trans (congrArg Host.Outcome.next (msixMask_clear hon hhush hissue hmaskLen))

end

section
/-! The rings of a present partition (R342, R351, R355, R376, R381), the turns and visits of ring service (R350, R351, R353, R354),
completions (R347, R355) and reads that return (R343, R381, R396). Settles O44. -/

namespace Sys2Proof.Machine

/-! ## Rings enabled and acknowledged (R351, R355, R381) -/

section
variable {s : State} {p r : Nat}

section
variable (hreset : (partOf s p).rst ≠ 0)
include hreset

theorem sqEnable_resetting : sqEnable s p r = put (put s (R.PW_SQ_STAT_ERR p r) 1) (R.PW_SQ_STAT_ECODE p r) 3 := if_pos hreset

theorem cqEnable_resetting : cqEnable s p r = put (put s (R.PW_CQ_STAT_ERR p r) 1) (R.PW_CQ_STAT_ECODE p r) 3 := if_pos hreset

end

/-- Is an access a fetch of ring r of partition p? -/
def fetchOf (p r : Nat) (o : HostOp) : Bool := o.part == p && match o.req with | .ringFetch k _ => k == r | _ => false

/-- The accesses after ring r of partition p starts again: its fetches not issued are gone, and what its issued ones bring is
discarded. -/
def opsWithoutFetch (s : State) (p r : Nat) : List HostOp :=
  (s.host.ops.filter fun o => !fetchOf p r o || o.issued).map fun o => if fetchOf p r o then { o with dead := true } else o

section
variable (hidle : (partOf s p).rst = 0)
include hidle

theorem sqEnable_disabled (hen : isSet s (R.PW_SQ_CTL_EN p r) = false) : sqEnable s p r =
    modSq (put (put (put { s with host := { s.host with ops := opsWithoutFetch s p r } } (R.PW_SQ_CTL_EN p r) 1)
      (R.PW_SQ_STAT_TAKEN p r) 0) (R.PW_SQ_STAT_SENSE p r) 1) p r fun q => { q with visit := none, again := false } :=
  (if_neg (not_not_intro hidle)).trans (if_neg (Bool.eq_false_iff.1 hen))

theorem sqEnable_enabled (hen : isSet s (R.PW_SQ_CTL_EN p r) = true) : sqEnable s p r = s :=
  (if_neg (not_not_intro hidle)).trans (if_pos hen)

theorem cqEnable_disabled (hen : isSet s (R.PW_CQ_CTL_EN p r) = false) : cqEnable s p r =
    modCq (put (put (put (put s (R.PW_CQ_CTL_EN p r) 1) (R.PW_CQ_STAT_TAIL p r) 0) (R.PW_CQ_STAT_SENSE p r) 1) (R.PW_CQ_HEAD_INDEX p r) 0)
      p r fun q => { gen := q.gen + 1, used := 0, resv := 0 } :=
  (if_neg (not_not_intro hidle)).trans (if_neg (Bool.eq_false_iff.1 hen))

theorem cqEnable_enabled (hen : isSet s (R.PW_CQ_CTL_EN p r) = true) : cqEnable s p r = s :=
  (if_neg (not_not_intro hidle)).trans (if_pos hen)

end

/-- The entries that a write of head v to completion ring r frees. -/
def headFrees (s : State) (p r v : Nat) : Nat :=
  let size := ringSize (get s (R.PW_CQ_CFG_LOG2N p r))
  (v + size - get s (R.PW_CQ_HEAD_INDEX p r)) % size

theorem cqHead_frees {v : Nat} (hring : v < ringSize (get s (R.PW_CQ_CFG_LOG2N p r))) (hused : headFrees s p r v ≤ (cqOf s p r).used) :
    cqHead s p r v = modCq (put s (R.PW_CQ_HEAD_INDEX p r) v) p r fun q => { q with used := q.used - headFrees s p r v } :=
  if_pos ⟨hring, hused⟩

theorem cqHead_refused {v : Nat} (h : ringSize (get s (R.PW_CQ_CFG_LOG2N p r)) ≤ v ∨ (cqOf s p r).used < headFrees s p r v) :
    cqHead s p r v = put (put s (R.PW_CQ_STAT_ERR p r) 1) (R.PW_CQ_STAT_ECODE p r) 5 :=
  if_neg fun ⟨hring, hused⟩ => h.elim (Nat.not_le.2 hring) (Nat.not_lt.2 hused)

end

section
variable {s : State} {p : Part} {r : Ring} (hrun : unitsRun s = true) (hpresent : present s p = true)
include hrun hpresent

theorem exec_sqDoorbell_enabled (hidle : (partOf s p).rst = 0) (hen : isSet s (R.PW_SQ_CTL_EN p r) = true) :
    exec (.sqDoorbell p r) s = .next (modSq (put s (R.PW_SQ_STAT_RUNG p r) 1) p r fun q => { q with again := q.visit.isSome }) :=
  (answered_inWindow _ hrun hpresent).trans (congrArg Host.Outcome.next (if_pos ⟨hidle, hen⟩))

theorem exec_sqDoorbell_ignored (h : ¬ (partOf s p).rst = 0 ∨ isSet s (R.PW_SQ_CTL_EN p r) = false) : exec (.sqDoorbell p r) s = .next s :=
  (answered_inWindow _ hrun hpresent).trans
    (congrArg Host.Outcome.next (if_neg fun ⟨hidle, hen⟩ => h.elim (· hidle) (Bool.eq_false_iff.1 · hen)))

end

/-! ## Turns (R353, R354) -/

/-- The first number after k that passes a test, where it is i further on and none before it passes. -/
theorem nextCyclic_eq_some {n k i : Nat} {f : Nat → Bool} (hi : i < n) (hf : f ((k + 1 + i) % n) = true)
    (hbefore : ∀ j < i, f ((k + 1 + j) % n) = false) : nextCyclic n k f = some ((k + 1 + i) % n) := by
  have hfirst : (List.range n).find? (f ∘ fun j => (k + 1 + j) % n) = some i :=
    List.find?_range_eq_some.2 ⟨hf, List.mem_range.2 hi, fun j hj => by simp [hbefore j hj]⟩
  rw [nextCyclic, List.find?_map, hfirst]
  rfl

/-- The partitions with no rung ring keep no deficit. -/
def deficitsCleared (s : State) : State := forN 8 (fun p u => if partRung u p then u else modPH u p fun h => { h with deficit := 0 }) s

/-- May a ring of partition p be visited? -/
def mayServe (s : State) (p : Nat) : Bool := (List.range 16).any (ringReady s p)

/-- The turn passes to partition p, which gains its share. -/
def turnPassed (s : State) (p : Nat) : State :=
  modPH { s with host := { s.host with turn := p } } p fun h => { h with deficit := h.deficit + get s (R.PRT_SHARE_HOST p) }

/-- The partition whose turn it is, once the others' deficits are cleared. -/
def turnFrom (z : State) : Option (Nat × State) :=
  if mayServe z z.host.turn && (phOf z z.host.turn).deficit != 0 then some (z.host.turn, z)
  else (nextCyclic 8 z.host.turn (mayServe z)).map fun p => (p, turnPassed z p)

theorem turnPart_eq (s : State) : turnPart s = turnFrom (deficitsCleared s) := by
  unfold turnPart turnFrom deficitsCleared mayServe turnPassed
  rfl

section
variable {z : State}

theorem turnFrom_goesOn (hserve : mayServe z z.host.turn = true) (hdeficit : (phOf z z.host.turn).deficit ≠ 0) :
    turnFrom z = some (z.host.turn, z) :=
  if_pos ((Bool.and_eq_true _ _).mpr ⟨hserve, bne_iff_ne.2 hdeficit⟩)

theorem turnFrom_passes {k : Nat} (hends : mayServe z z.host.turn = false ∨ (phOf z z.host.turn).deficit = 0) (hk : k < 8)
    (hserve : mayServe z ((z.host.turn + 1 + k) % 8) = true) (hbefore : ∀ i < k, mayServe z ((z.host.turn + 1 + i) % 8) = false) :
    turnFrom z = some ((z.host.turn + 1 + k) % 8, turnPassed z ((z.host.turn + 1 + k) % 8)) := by
  refine (if_neg fun h => ?_).trans (by rw [nextCyclic_eq_some hk hserve hbefore]; rfl)
  obtain ⟨hturn, hdeficit⟩ := (Bool.and_eq_true _ _).mp h
  exact hends.elim (Bool.eq_false_iff.1 · hturn) (bne_iff_ne.1 hdeficit)

end

/-- May ring r of partition p be visited with the credit that it has? -/
def richRing (s : State) (p r : Nat) : Bool := ringReady s p r && (sqOf s p r).credit != 0

/-- The credits of partition p for its next visit: all are refilled when no ring that may be visited has any. -/
def creditsFor (s : State) (p : Nat) : State :=
  if (List.range 16).any (richRing s p) then s
  else forN 16 (fun r u => modSq u p r fun q => { q with credit := get u (R.PW_SQ_CFG_WEIGHT p r) }) s

/-- The ring of partition p whose turn it is, once the credits are refilled. -/
def ringFrom (z : State) (p : Nat) : Option (Nat × State) :=
  (nextCyclic 16 (phOf z p).turn (richRing z p)).map fun r => (r, modPH z p fun h => { h with turn := r })

theorem turnRing_eq (s : State) (p : Nat) : turnRing s p = ringFrom (creditsFor s p) p := by
  unfold turnRing ringFrom creditsFor richRing
  rfl

theorem ringFrom_next {z : State} {p k : Nat} (hk : k < 16) (hrich : richRing z p (((phOf z p).turn + 1 + k) % 16) = true)
    (hbefore : ∀ i < k, richRing z p (((phOf z p).turn + 1 + i) % 16) = false) :
    ringFrom z p = some (((phOf z p).turn + 1 + k) % 16, modPH z p fun h => { h with turn := ((phOf z p).turn + 1 + k) % 16 }) := by
  rw [ringFrom, nextCyclic_eq_some hk hrich hbefore]
  rfl

/-! ## Visits (R350, R351) -/

section
variable {s : State} {p r : Nat}

/-- No visit begins once the anchor has acted, without a link, during a visit and when no ring has a turn. -/
theorem serveRing_none (h : anchored s = true ∨ s.host.up = false ∨ visiting s = true ∨ ringTurn s = none) : serveRing s p r = s := by
  rw [serveRing]
  split
  case isTrue => rfl
  case isFalse hgoes =>
    simp only [Bool.not_eq_true, not_or, Bool.not_eq_false] at hgoes
    obtain ⟨hanchor, hup, hvisit⟩ := hgoes
    have hnone : ringTurn s = none := by simpa [hanchor, hup, hvisit] using h
    rw [hnone]

theorem serveRing_turn {x : Nat × Nat} {v : State} (hanchor : anchored s = false) (hup : s.host.up = true) (hvisit : visiting s = false)
    (hturn : ringTurn s = some (x, v)) : serveRing s p r =
      if x = (p, r) then readWindow (modSq v p r fun q => { q with again := false, visit := none }) p r 0 else s := by
  rw [serveRing, if_neg (by simp [hanchor, hup, hvisit]), hturn]

/-- May a visit to ring r take another entry after the n it has taken? -/
def mayTake (s : State) (p r n : Nat) : Prop :=
  visitLeft s p r n ≠ 0 ∧ cqRoom s p (cqFor s p r) = true ∧ isSet s (R.PW_SQ_CTL_EN p r) = true

theorem readWindow_ends {n : Nat} (h : ¬ mayTake s p r n) : readWindow s p r n = modSq s p r fun q => { q with visit := none } := by
  refine if_pos (Decidable.byContradiction fun hgoes => h ?_)
  simp only [not_or, Decidable.not_not] at hgoes
  exact hgoes

theorem readWindow_reads {n : Nat} (h : mayTake s p r n) : readWindow s p r n =
    let at_ := get s (R.PW_SQ_STAT_TAKEN p r)
    let k := min (get s (R.PW_SQ_CFG_BURST p r)) (ringSize (get s (R.PW_SQ_CFG_LOG2N p r)) - at_)
    startOp (modSq s p r fun q => { q with visit := some n }) p (.ringFetch r k) (sqBase s p r + 64 * at_) (64 * k) false [] := by
  obtain ⟨hleft, hroom, hen⟩ := h
  exact if_neg (not_or_intro hleft (not_or_intro (not_not_intro hroom) (not_not_intro hen)))

end

/-! ## Completions (R347, R355) -/

/-- An entry that finishes changes nothing of the anchor. -/
theorem anchored_sqFinish (s : State) (p r : Nat) : anchored (sqFinish s p r) = anchored s := by
  unfold sqFinish
  dsimp only
  split
  case isTrue =>
    have hother : fldKey R.GLB_MODE_ANCHORED ≠ fldKey (R.PW_SQ_STAT_IDLE p r) := by
      simp only [fldKey, R.GLB_MODE_ANCHORED, R.PW_SQ_STAT_IDLE]
      omega
    rw [anchored, isSet, setF, get_put_other _ _ hother]
    rfl
  case isFalse => rfl

section
variable {s : State} {c : RingCmd} {st res : Nat}

/-- The command's completion ring takes its entry: it is enabled, and was not disabled since the command was taken. -/
def complTaken (u : State) (c : RingCmd) : Prop :=
  isSet u (R.PW_CQ_CTL_EN c.part c.cq) = true ∧ c.resv = some (cqOf u c.part c.cq).gen

theorem complTaken_iff {u : State} : (isSet u (R.PW_CQ_CTL_EN c.part c.cq) && c.resv == some (cqOf u c.part c.cq).gen) = true ↔
    complTaken u c := by
  rw [Bool.and_eq_true, beq_iff_eq, complTaken]

variable (hpart : c.part < 8) (hanchor : anchored s = false)
include hpart hanchor

theorem complete_taken (h : complTaken (sqFinish s c.part c.sq) c) : complete s c st res =
    let u := sqFinish s c.part c.sq
    startOp u c.part (.complete c.cq) (cqBase u c.part c.cq) 16 true (complBytes u c.part c.sq c.cq c.id st res) := by
  rw [← anchored_sqFinish s c.part c.sq] at hanchor
  exact (if_neg (Nat.not_le.2 hpart)).trans ((if_neg (Bool.eq_false_iff.1 hanchor)).trans (if_pos (complTaken_iff.2 h)))

theorem complete_dropped (h : ¬ complTaken (sqFinish s c.part c.sq) c) :
    complete s c st res = bump (sqFinish s c.part c.sq) (R.PW_CQ_DROP_COUNT c.part c.cq) := by
  rw [← anchored_sqFinish s c.part c.sq] at hanchor
  exact (if_neg (Nat.not_le.2 hpart)).trans ((if_neg (Bool.eq_false_iff.1 hanchor)).trans (if_neg (h ∘ complTaken_iff.1)))

end

/-! ## Reads that return (R343, R381, R396) -/

section
variable {s : State} {o : HostOp} {ok : Bool} {data : List Byte}

/-- The state in which the read of access o returns at cycle t. -/
def readBack (s : State) (o : HostOp) (ok : Bool) (t : Nat) : State :=
  let u := dropOp (stamp s t) o.id
  if ok then u else aerNote u o.part

theorem completes_hostReadCompletion {u : State} {t : Nat} (hfind : s.host.ops.find? (fun x => x.id == o.id && x.issued && !x.write) = some o)
    (h : readArrived (readBack s o ok t) o ok (sliceBytes data 0 o.len) = u) : Completes (.hostReadCompletion o.id ok data t) s u := by
  refine .of_finSettle ?_
  change execHostReadCompletion o.id ok data t s = _
  rw [execHostReadCompletion, hfind, ← h]
  rfl

theorem readArrived_live (hdead : o.dead = false) : readArrived s o ok data = readReturned s o ok data :=
  if_pos (Bool.eq_false_iff.1 hdead)

theorem readReturned_ringFetch {r n : Nat} (hreq : o.req = .ringFetch r n) :
    readReturned s o ok data = if ok then takeWindow s o.part r (splitEntries data n) else sqFetchFail s o.part r 2 := by
  rw [readReturned, hreq]

section
variable (hdead : o.dead = true)
include hdead

/-- What a dropped access brings is discarded. -/
theorem readArrived_discarded (h : ok = true ∨ ∀ c, o.req ≠ .moverFetch c ∧ o.req ≠ .moverRead c) : readArrived s o ok data = s := by
  rw [readArrived, if_neg (not_not_intro hdead)]
  split
  case isTrue => rfl
  case isFalse hfails =>
    have hreq := h.resolve_left hfails
    split
    case h_1 c hc => exact absurd hc (hreq c).1
    case h_2 c hc => exact absurd hc (hreq c).2
    case h_3 => rfl

/-- A failed read of the mover is a bus error though its access was dropped. -/
theorem readArrived_busError {c : Nat} (hreq : o.req = .moverFetch c ∨ o.req = .moverRead c) :
    readArrived s o false data = movBusError s o.addr := by
  rw [readArrived, if_neg (not_not_intro hdead), if_neg Bool.false_ne_true]
  rcases hreq with h | h <;> rw [h]

end

end

end Sys2Proof.Machine

open Sys2Proof Sys2Proof.Machine

/-- Settles O44: the state of the ring or of its partition decides each command's branch, the first candidate after the last turn who is
served, and the fate of an access what its read does. How credits and deficits rotate and that a ring enabled again discards the fetch in
flight (log entry 48), and what a failed read leaves in the function's error status (log entry 9), are the model's. -/
theorem ringsAreEnabledRungServedAndAcknowledged : Obligations.RingsAreEnabledRungServedAndAcknowledged := by
  unfold Obligations.RingsAreEnabledRungServedAndAcknowledged
  refine ⟨fun s p r hrun hpresent => ?rings, fun s p r => ⟨fun h => ?noVisit, fun x v hanchor hup hvisit hturn => ?visit⟩,
    fun s => ⟨fun hserve hdeficit => ?goesOn, fun k hends hk hserve hbefore => ?passes⟩, fun s p k hk hrich hbefore => ?ring,
    fun s p r n => ⟨readWindow_reads, readWindow_ends⟩,
    fun s c st res hpart hanchor => ⟨complete_taken hpart hanchor, complete_dropped hpart hanchor⟩,
    fun s o data t ok hfind => ?reads⟩
  case rings =>
    have hwindow {u v : State} (h : u = v) : answered s (.next (inWindow s p u)) = .next v :=
      h ▸ answered_inWindow u hrun hpresent
    exact ⟨(hwindow <| sqEnable_resetting ·), (hwindow <| cqEnable_resetting ·),
      fun hidle hen => hwindow (sqEnable_disabled hidle hen), fun hidle hen => hwindow (cqEnable_disabled hidle hen),
      fun hidle hen => hwindow (sqEnable_enabled hidle hen), fun hidle hen => hwindow (cqEnable_enabled hidle hen),
      hwindow rfl, hwindow rfl, exec_sqDoorbell_enabled hrun hpresent, exec_sqDoorbell_ignored hrun hpresent, hwindow rfl,
      fun v => ⟨fun hring hused => hwindow (cqHead_frees hring hused), fun h => hwindow (cqHead_refused h)⟩⟩
  case noVisit => exact .of_finSettle (congrArg finSettle (serveRing_none h))
  case visit => exact .of_finSettle (congrArg finSettle (serveRing_turn hanchor hup hvisit hturn))
  case goesOn => exact (turnPart_eq s).trans (turnFrom_goesOn hserve hdeficit)
  case passes => exact (turnPart_eq s).trans (turnFrom_passes hends hk hserve hbefore)
  case ring => exact (turnRing_eq s p).trans (ringFrom_next hk hrich hbefore)
  case reads =>
    exact ⟨fun hdead => completes_hostReadCompletion hfind (readArrived_live hdead),
      fun r n hdead hreq => completes_hostReadCompletion hfind ((readArrived_live hdead).trans (readReturned_ringFetch hreq)),
      fun hdead h => completes_hostReadCompletion hfind (readArrived_discarded hdead h),
      fun c hdead hfails hreq => completes_hostReadCompletion hfind (hfails ▸ readArrived_busError hdead hreq)⟩

end

section
/-! The coil pool's initialisation, its free lists and reference counts, and its ring commands (R398 to R404, R408). Settles O49. -/

namespace Sys2Proof.Machine

/-! ## Low-water levels (R361, R404, R408) -/

/-- A source of the hub other than source 0 is raised by its PEND bit. -/
theorem raise_inRange {s : State} {src : Nat} (hne : src ≠ 0) (hlt : src < 1024) : raise s src = put s (R.HUB_PEND src) 1 :=
  raise_source (src := ⟨src, hlt⟩) hne

theorem raise_poolFault (s : State) : raise s hubPoolFault = put s (R.HUB_PEND hubPoolFault) 1 := raise_inRange (by decide) (by decide)

theorem lowWater_eq {src : Nat} (s : State) (old new level : Nat) (hne : src ≠ 0) (hlt : src < 1024) :
    lowWater s old new level src = if level ≠ 0 ∧ level < old ∧ new ≤ level then put s (R.HUB_PEND src) 1 else s := by
  rw [lowWater, raise_inRange hne hlt]

/-- The essence pool's level is read after the new count has been stored, which leaves it. -/
theorem setFree_essence (s : State) (n : Nat) : setFree s true n =
    lowWater (put (put s R.POOL_FREE_E_COUNT n) R.POOL_MIN_E_COUNT (min (get s R.POOL_MIN_E_COUNT) n)) (get s R.POOL_FREE_E_COUNT) n
      (get s R.POOL_LOWAT_E_LEVEL) hubPoolLowEss := by
  simp only [setFree, if_true]
  rw [get_put_other _ _ (by decide), get_put_other _ _ (by decide)]

theorem setFree_general (s : State) (n : Nat) : setFree s false n =
    lowWater (put s R.POOL_FREE_G_COUNT n) (get s R.POOL_FREE_G_COUNT) n (get s R.POOL_LOWAT_G_LEVEL) hubPoolLowGen := rfl

/-! ## Allocations (R400, R401) -/

/-- The head of a pool's free list. -/
def poolHead (s : State) (ess : Bool) : Nat := if ess then s.pool.headE else s.pool.headG

/-- The field that marks a pool's free list as broken. -/
def poolBroken (ess : Bool) : Fld := if ess then R.POOL_STAT_BROKEN_E else R.POOL_STAT_BROKEN_G

section
variable {s : State} {ess : Bool} (holder : Option Nat)

theorem poolAlloc_none (h : isSet s R.POOL_STAT_BUSY = true ∨ isSet s (poolBroken ess) = true ∨ poolHead s ess = listEnd) :
    poolAlloc s ess holder = (none, s) := if_pos h

theorem poolAlloc_state (hready : isSet s R.POOL_STAT_BUSY = false) (hwhole : isSet s (poolBroken ess) = false)
    (hsome : poolHead s ess ≠ listEnd) :
    let link := fsRead s (bufAddr s (poolHead s ess)) 8
    let nxt := leAt link 0 4
    (poolAlloc s ess holder).2 =
      if leAt link 4 4 = linkTag ∧ (nxt = listEnd ∨ inPool s ess nxt = true) then takeHead s ess (poolHead s ess) nxt holder
      else breakList s ess := by
  have hgoes : ¬ (isSet s R.POOL_STAT_BUSY = true ∨ isSet s (poolBroken ess) = true ∨ poolHead s ess = listEnd) := by
    simp [hready, hwhole, hsome]
  exact (congrArg Prod.snd (if_neg hgoes)).trans (apply_ite Prod.snd _ _ _)

end

/-! ## References (R402, R403) -/

theorem poolRefuse_eq (s : State) (b kind : Nat) : poolRefuse s b kind =
    put (bump (put (put s R.POOL_FAULT_INFO_BUF b) R.POOL_FAULT_INFO_KIND kind) R.POOL_FAULT_CNT_COUNT) (R.HUB_PEND hubPoolFault) 1 :=
  raise_poolFault _

section
variable {s : State} {b : Nat} {holder : Option Nat}

theorem poolAdd_full (hfull : (bufRef s b).count = 255) : poolAdd s b holder = (false, poolRefuse s b 2) := if_pos hfull

theorem poolAdd_unused (hfree : (bufRef s b).count = 0) : poolAdd s b holder = (false, poolRefuse s b 3) :=
  (if_neg (by omega)).trans (if_pos hfree)

theorem poolRelease_unused (hfree : (bufRef s b).count = 0) : poolRelease s b holder = (false, poolRefuse s b 1) := if_pos hfree

section
variable (hused : 0 < (bufRef s b).count)
include hused

section
variable (hroom : (bufRef s b).count < 255)
include hroom

theorem poolAdd_hardware : poolAdd s b none = (true, setRef s b { bufRef s b with count := (bufRef s b).count + 1 }) :=
  (if_neg (by omega)).trans (if_neg (by omega))

theorem poolAdd_partition (p : Nat) : (poolAdd s b (some p)).2 = if bitAt (bufRef s b).mask p then poolRefuse s b 4
    else setRef s b { count := (bufRef s b).count + 1, mask := withBit (bufRef s b).mask p true } :=
  (congrArg Prod.snd ((if_neg (by omega)).trans (if_neg (by omega)))).trans (apply_ite Prod.snd _ _ _)

end

theorem poolRelease_hardware : poolRelease s b none = (true, dropRef s b (bufRef s b)) := if_neg (by omega)

theorem poolRelease_partition (p : Nat) : (poolRelease s b (some p)).2 = if bitAt (bufRef s b).mask p = false then poolRefuse s b 5
    else dropRef s b { bufRef s b with mask := withBit (bufRef s b).mask p false } := by
  refine (congrArg Prod.snd (if_neg (by omega))).trans ?_
  cases bitAt (bufRef s b).mask p with
  | false => simp only [Bool.false_eq_true, if_false, if_true]
  | true => simp only [Bool.true_eq_false, if_false, if_true]

end

theorem dropRef_last {r : BufRef} (h : r.count = 1) : dropRef s b r = freeBuf s b := if_pos h

theorem dropRef_more {r : BufRef} (h : 1 < r.count) : dropRef s b r = setRef s b { r with count := r.count - 1 } := if_neg (by omega)

end

/-! ## POOL_ALLOC and POOL_RELEASE (R398) -/

section
variable {s : State} {c : RingCmd}

theorem poolAllocCmd_badForm (hform : formOk c.entry [] = false) : poolAllocCmd c s = complete s c stBadField 0 :=
  if_pos (Bool.eq_false_iff.1 hform)

section
variable (hform : formOk c.entry [] = true)
include hform

theorem poolAllocCmd_gives {b : Nat} (hsome : (poolAlloc s false (some c.part)).1 = some b) :
    poolAllocCmd c s = complete (poolAlloc s false (some c.part)).2 c stOK b := by
  rw [poolAllocCmd, if_neg (not_not_intro hform), ← Prod.mk.eta (p := poolAlloc s false (some c.part)), hsome]

theorem poolAllocCmd_notReady (hnone : (poolAlloc s false (some c.part)).1 = none) :
    poolAllocCmd c s = complete (poolAlloc s false (some c.part)).2 c stNotReady 0 := by
  rw [poolAllocCmd, if_neg (not_not_intro hform), ← Prod.mk.eta (p := poolAlloc s false (some c.part)), hnone]

end

theorem poolReleaseCmd_badField (h : formOk c.entry [(4, 4)] = false ∨ get s R.POOL_COUNT_N ≤ leAt c.entry 4 4) :
    poolReleaseCmd c s = complete s c stBadField 0 := if_pos (h.imp_left Bool.eq_false_iff.1)

theorem poolReleaseCmd_answers (hform : formOk c.entry [(4, 4)] = true) (hbuf : leAt c.entry 4 4 < get s R.POOL_COUNT_N) :
    let a := poolRelease s (leAt c.entry 4 4) (some c.part)
    poolReleaseCmd c s = if a.1 then complete a.2 c stOK (bufRef a.2 (leAt c.entry 4 4)).count else complete a.2 c stNotReady 0 := by
  have hgoes : ¬ (¬ formOk c.entry [(4, 4)] = true ∨ get s R.POOL_COUNT_N ≤ leAt c.entry 4 4) := by simp [hform, hbuf]
  refine (if_neg hgoes).trans ?_
  rcases poolRelease s (leAt c.entry 4 4) (some c.part) with ⟨_ | _, u⟩
  · rfl
  · rfl

end

end Sys2Proof.Machine

open Sys2Proof Sys2Proof.Machine

/-- Settles O49: the state of the pool decides what an allocation finds, a buffer's count and mask what a reference operation does. The
order in which the free lists are threaded is the event's (log entry 12). -/
theorem poolInitialisesAllocatesCountsAndFrees : Obligations.PoolInitialisesAllocatesCountsAndFrees := by
  unfold Obligations.PoolInitialisesAllocatesCountsAndFrees
  refine ⟨fun s hrun => answered_run _ hrun, fun s es gs hbusy => ?threads, fun s n => ?counts, fun s ess h => ?allocates,
    fun s b h => ?references, fun s p r id c hready hfind => ?alloc, fun s p r id hbusy => if_pos hbusy, fun s p r id c hfind => ?release⟩
  case threads => exact fun hes hgs => if_pos (by rw [hbusy, hes, hgs]; rfl)
  case counts =>
    exact ⟨(setFree_essence s n).trans (lowWater_eq _ _ _ _ (by decide) (by decide)),
      (setFree_general s n).trans (lowWater_eq _ _ _ _ (by decide) (by decide))⟩
  case allocates =>
    exact ⟨fun hstays => congrArg (fun a : Option Nat × State => Host.Outcome.next a.2) (poolAlloc_none _ hstays),
      fun hready hwhole hsome => congrArg Host.Outcome.next (poolAlloc_state _ hready hwhole hsome)⟩
  case references =>
    refine ⟨fun hfull => ?_, fun hfree => ?_, fun hused hroom hh => ?_, fun p hused hroom hh => ?_, fun hfree => ?_, fun hmore hh => ?_,
      fun hlast hh => ?_, fun p hused hh => ?_⟩
    all_goals refine congrArg Host.Outcome.next ?_
    · rw [poolAdd_full hfull, poolRefuse_eq]
    · rw [poolAdd_unused hfree, poolRefuse_eq]
    · rw [hh, Option.map_none, poolAdd_hardware hused hroom]
    · subst hh
      exact (poolAdd_partition hused hroom p).trans (ite_congr rfl (fun _ => poolRefuse_eq s b 4) fun _ => rfl)
    · rw [poolRelease_unused hfree, poolRefuse_eq]
    · rw [hh, Option.map_none, poolRelease_hardware (by omega), dropRef_more hmore]
    · rw [hh, Option.map_none, poolRelease_hardware (by omega), dropRef_last hlast]
    · subst hh
      exact (poolRelease_partition hused p).trans (ite_congr rfl (fun _ => poolRefuse_eq s b 5) fun _ => rfl)
  case alloc =>
    have hexec : exec (.poolAlloc p r id) s = finSettle (withCmd s p r id 0x22 poolAllocCmd) := if_neg (Bool.eq_false_iff.1 hready)
    exact ⟨fun hform => .of_withCmd hexec hfind (poolAllocCmd_badForm hform),
      fun b hform hsome => .of_withCmd hexec hfind (poolAllocCmd_gives hform hsome),
      fun hform hnone => .of_withCmd hexec hfind (poolAllocCmd_notReady hform hnone)⟩
  case release =>
    exact ⟨fun h => .of_withCmd rfl hfind (poolReleaseCmd_badField h),
      fun hform hbuf => .of_withCmd rfl hfind (poolReleaseCmd_answers hform hbuf)⟩

end

section
/-! The mover's ring commands, the instructions that its channels carry out, the end of a program, and the halt of the mover (R386 to
R398). Settles O48. -/

namespace Sys2Proof.Machine

/-! ## MV_START and MV_STOP (R386, R398) -/

section
variable {s : State} {c : RingCmd}

/-- The form of MV_START: channel and program address, and zero in every other byte. -/
def mvStartForm (c : RingCmd) : Prop := formOk c.entry [(4, 1), (8, 8)] = true ∧ cmdChan c < 16 ∧ leAt c.entry 8 8 % 8 = 0

/-- The form of MV_STOP: the channel, and zero in every other byte. -/
def mvStopForm (c : RingCmd) : Prop := formOk c.entry [(4, 1)] = true ∧ cmdChan c < 16

theorem mvStartForm_iff : mvStartForm c ↔
    ¬ (¬ formOk c.entry [(4, 1), (8, 8)] = true ∨ 16 ≤ cmdChan c ∨ leAt c.entry 8 8 % 8 ≠ 0) := by
  simp only [mvStartForm, not_or, not_not, Nat.not_le, ne_eq]

theorem mvStopForm_iff : mvStopForm c ↔ ¬ (¬ formOk c.entry [(4, 1)] = true ∨ 16 ≤ cmdChan c) := by
  simp only [mvStopForm, not_or, not_not, Nat.not_le]

theorem mvStart_badField (h : ¬ mvStartForm c) : mvStart c s = complete s c stBadField 0 :=
  if_pos (not_not.1 (mvStartForm_iff.not.1 h))

theorem mvStop_badField (h : ¬ mvStopForm c) : mvStop c s = complete s c stBadField 0 :=
  if_pos (not_not.1 (mvStopForm_iff.not.1 h))

section
variable (hform : mvStartForm c)
include hform

theorem mvStart_denied (hown : chOwner s (cmdChan c) ≠ some c.part) : mvStart c s = complete s c stPrivDenied 0 :=
  (if_neg (mvStartForm_iff.1 hform)).trans (if_pos hown)

section
variable (hown : chOwner s (cmdChan c) = some c.part)
include hown

theorem mvStart_notReady (h : chState s (cmdChan c) ≠ chIdle ∨ movHalted s = true) : mvStart c s = complete s c stNotReady 0 :=
  (if_neg (mvStartForm_iff.1 hform)).trans ((if_neg (not_not_intro hown)).trans (if_pos h))

theorem mvStart_starts (hidle : chState s (cmdChan c) = chIdle) (hruns : movHalted s = false) :
    mvStart c s = chStart s (cmdChan c) 2 (leAt c.entry 8 8) 0 (2 ^ 64) (some c) := by
  have hready : ¬ (chState s (cmdChan c) ≠ chIdle ∨ movHalted s = true) := not_or_intro (not_not_intro hidle) (by simp [hruns])
  exact (if_neg (mvStartForm_iff.1 hform)).trans ((if_neg (not_not_intro hown)).trans (if_neg hready))

end

end

section
variable (hform : mvStopForm c)
include hform

theorem mvStop_denied (hown : chOwner s (cmdChan c) ≠ some c.part) : mvStop c s = complete s c stPrivDenied 0 :=
  (if_neg (mvStopForm_iff.1 hform)).trans (if_pos hown)

section
variable (hown : chOwner s (cmdChan c) = some c.part)
include hown

theorem mvStop_idle (hidle : chState s (cmdChan c) = chIdle) : mvStop c s = complete s c stOK 0 :=
  (if_neg (mvStopForm_iff.1 hform)).trans ((if_neg (not_not_intro hown)).trans (if_pos hidle))

theorem mvStop_stops (hbusy : chState s (cmdChan c) ≠ chIdle) : mvStop c s =
    modCh (put s (R.MOV_CH_STAT_STATE (cmdChan c)) chStop) (cmdChan c) fun x => { x with stops := x.stops ++ [c] } :=
  (if_neg (mvStopForm_iff.1 hform)).trans ((if_neg (not_not_intro hown)).trans (if_neg hbusy))

end

end

end

/-! ## Instructions -/

/-- Channel c runs, has fetched instruction i and waits for nothing, and the mover goes. -/
def Carries (s : State) (c : Nat) (i : List Byte) : Prop :=
  (chOf s c).ibuf = some i ∧ chState s c ≠ chIdle ∧ (chOf s c).hold = 0 ∧ (chOf s c).reading = false ∧ movHalted s = false ∧
    gated s 22 = false

theorem chInstr_carries {s : State} {c op : Nat} {ok : List Byte → Bool} {i : List Byte} (f : List Byte → State → State)
    (h : Carries s c i) (hop : leAt i 0 1 = op) (hok : ok i = true) : chInstr s c op ok f = f i s := by
  obtain ⟨hbuf, hrun, hhold, hread, hgoes, hclock⟩ := h
  rw [chInstr, hbuf]
  exact if_neg (by simp [hrun, hhold, hread, hgoes, hclock, hop, hok])

/-! ## MOVE (R389, R390) -/

/-- R389: the form of a MOVE. -/
def moveForm (m : MvMove) : Prop :=
  m.refop ≠ 3 ∧ (m.refop = 0 ∨ m.ssp = 3) ∧ sideForm m.ssp m.src m.len = true ∧ sideForm m.dsp m.dst m.len = true

/-- R390: both sides lie where the channel's owner may reach. -/
def moveReach (s : State) (c : Nat) (m : MvMove) : Prop :=
  sideRange s (chPart s c) m.ssp m.src m.len false (m.refop == 1) = true ∧
    sideRange s (chPart s c) m.dsp m.dst m.len true false = true

/-- The reference that a MOVE adds to its source buffer, if it adds one, and whether that is performed. -/
def moveAdd (s : State) (c : Nat) (m : MvMove) : Bool × State :=
  if m.refop = 1 then poolAdd s (coilBuf m.src) (some (chPart s c)) else (true, s)

/-- What a MOVE of an owner o does once its reference has been added: it reads its source. -/
def moveRead (s : State) (o c : Nat) (m : MvMove) : State :=
  if m.len = 0 then mvDeliver s c m []
  else if m.ssp = 1 then
    modCh (startOp s o (.moverRead c) m.src m.len false []) c fun x => { x with reading := true }
  else mvDeliver s c m (sideRead s o m.ssp m.src m.len)

section
variable {s : State} {c : Nat} {i : List Byte} {m : MvMove} (hm : mvMove (chOf s c) i = m)
include hm

theorem mvDoMove_badForm (h : ¬ moveForm m) : mvDoMove s c i = chFail s c mvBadProg := by
  subst hm
  refine if_pos ?_
  by_contra hgood
  simp only [not_or, not_and, not_not] at hgood
  obtain ⟨hop, hspace, hsrc, hdst⟩ := hgood
  exact h ⟨hop, or_iff_not_imp_left.2 hspace, hsrc, hdst⟩

section
variable (hform : moveForm m)
include hform

theorem mvDoMove_formed : mvDoMove s c i =
    if ¬ sideRange s (chPart s c) m.ssp m.src m.len false (m.refop == 1) = true ∨
        ¬ sideRange s (chPart s c) m.dsp m.dst m.len true false = true then chFail s c mvRange
    else if ¬ (moveAdd s c m).1 = true then chFail (moveAdd s c m).2 c mvPoolFault
    else moveRead (moveAdd s c m).2 (chPart s c) c m := by
  subst hm
  obtain ⟨hop, hspace, hsrc, hdst⟩ := hform
  refine (if_neg ?_).trans ?_
  · rintro (h | ⟨hadd, hcoil⟩ | h | h)
    · exact hop h
    · exact hspace.elim hadd hcoil
    · exact h hsrc
    · exact h hdst
  · simp only [beq_iff_eq]
    rfl

theorem mvDoMove_range (h : ¬ moveReach s c m) : mvDoMove s c i = chFail s c mvRange :=
  (mvDoMove_formed hm hform).trans (if_pos (not_and_or.1 h))

section
variable (hreach : moveReach s c m)
include hreach

theorem mvDoMove_poolFault (hadd : (moveAdd s c m).1 = false) : mvDoMove s c i = chFail (moveAdd s c m).2 c mvPoolFault := by
  rw [mvDoMove_formed hm hform, if_neg (not_or_intro (not_not_intro hreach.1) (not_not_intro hreach.2)),
    if_pos (Bool.eq_false_iff.1 hadd)]

theorem mvDoMove_reads (hadd : (moveAdd s c m).1 = true) : mvDoMove s c i = moveRead (moveAdd s c m).2 (chPart s c) c m := by
  rw [mvDoMove_formed hm hform, if_neg (not_or_intro (not_not_intro hreach.1) (not_not_intro hreach.2)),
    if_neg (not_not_intro hadd)]

end

end

end

section
variable {s : State} {o c : Nat} {m : MvMove}

theorem moveRead_empty (hlen : m.len = 0) : moveRead s o c m = mvDeliver s c m [] := if_pos hlen

section
variable (hlen : m.len ≠ 0)
include hlen

theorem moveRead_host (hspace : m.ssp = 1) : moveRead s o c m =
    modCh (startOp s o (.moverRead c) m.src m.len false []) c fun x => { x with reading := true } :=
  (if_neg hlen).trans (if_pos hspace)

theorem moveRead_device (hspace : m.ssp ≠ 1) : moveRead s o c m = mvDeliver s c m (sideRead s o m.ssp m.src m.len) :=
  (if_neg hlen).trans (if_neg hspace)

theorem moveRead_frameStore (hspace : m.ssp = 0) : moveRead s o c m = mvDeliver s c m (fsRead s m.src m.len) := by
  rw [moveRead_device hlen (by omega), hspace]
  rfl

theorem moveRead_scratch (hspace : m.ssp = 2) : moveRead s o c m = mvDeliver s c m (ssmRead s (ssmBase s o + m.src) m.len) := by
  rw [moveRead_device hlen (by omega), hspace]
  rfl

theorem moveRead_coil (hspace : m.ssp = 3) :
    moveRead s o c m = mvDeliver s c m (fsRead s (bufAddr s (coilBuf m.src) + coilOff m.src) m.len) := by
  rw [moveRead_device hlen (by omega), hspace]
  rfl

end

end

/-! ## LOOP (R391) -/

/-- R391: a LOOP that goes back by nothing, before the program's start, or inside another LOOP. -/
def loopBad (s : State) (c : Nat) (i : List Byte) : Prop :=
  leAt i 2 2 = 0 ∨ chIndex s c < leAt i 2 2 ∨ ∃ j n, (chOf s c).loop = some (j, n) ∧ j ≠ chIndex s c

/-- How often a LOOP still goes back. -/
def loopLeft (s : State) (c : Nat) (i : List Byte) : Nat := match (chOf s c).loop with
  | some (_, n) => n
  | none => leAt i 4 4

/-- A channel after a LOOP that goes back with n times left. -/
def loopTurn (k n : Nat) (i : List Byte) (x : MovCh) : MovCh :=
  { x with loop := some (k, n - 1), os := x.os + sext 64 (leAt i 8 8), od := x.od + sext 64 (leAt i 0x10 8) }

section
variable {s : State} {c : Nat} {i : List Byte}

theorem mvDoLoop_bad (h : loopBad s c i) : mvDoLoop s c i = chFail s c mvBadProg := by
  refine if_pos ?_
  obtain h | h | ⟨j, n, hloop, hne⟩ := h
  · simp [h]
  · simp [h]
  · simp [hloop, hne]

section
variable (hgood : ¬ loopBad s c i)
include hgood

theorem mvDoLoop_good : mvDoLoop s c i =
    if loopLeft s c i = 0 then chNext (modCh s c fun x => { x with os := 0, od := 0, loop := none }) c
    else chGoto (modCh s c (loopTurn (chIndex s c) (loopLeft s c i) i)) c (chIndex s c - leAt i 2 2) := by
  obtain ⟨hback, hstart, hother⟩ : leAt i 2 2 ≠ 0 ∧ ¬ chIndex s c < leAt i 2 2 ∧
      ¬ ∃ j n, (chOf s c).loop = some (j, n) ∧ j ≠ chIndex s c := by simpa only [loopBad, not_or] using hgood
  refine (if_neg ?_).trans rfl
  cases hloop : (chOf s c).loop with
  | none => simp [hback, hstart]
  | some x =>
    have hsame : x.1 = chIndex s c := by_contra fun hne => hother ⟨x.1, x.2, hloop, hne⟩
    simp [hback, hstart, hsame]

theorem mvDoLoop_ends (h : loopLeft s c i = 0) :
    mvDoLoop s c i = chNext (modCh s c fun x => { x with os := 0, od := 0, loop := none }) c :=
  (mvDoLoop_good hgood).trans (if_pos h)

theorem mvDoLoop_back (h : loopLeft s c i ≠ 0) :
    mvDoLoop s c i = chGoto (modCh s c (loopTurn (chIndex s c) (loopLeft s c i) i)) c (chIndex s c - leAt i 2 2) :=
  (mvDoLoop_good hgood).trans (if_neg h)

end

/-! ## WAIT (R392) -/

section
variable {t : Nat}

theorem mvDoWaitSsm_badProg (h : leAt i 8 8 % 8 ≠ 0) : mvDoWaitSsm s c t i = chFail s c mvBadProg := if_pos h

section
variable (halign : leAt i 8 8 % 8 = 0)
include halign

theorem mvDoWaitSsm_range (h : ssmIn s (chPart s c) (leAt i 8 8) 8 = false) : mvDoWaitSsm s c t i = chFail s c mvRange :=
  (if_neg (not_not_intro halign)).trans (if_pos (Bool.eq_false_iff.1 h))

theorem mvDoWaitSsm_tests (h : ssmIn s (chPart s c) (leAt i 8 8) 8 = true) : mvDoWaitSsm s c t i =
    if leVal (ssmRead s (ssmBase s (chPart s c) + leAt i 8 8) 8) &&& leAt i 0x10 8 = leAt i 0x18 8 then chNext s c
    else chWaiting s c t :=
  (if_neg (not_not_intro halign)).trans (if_neg (not_not_intro h))

end

end

/-! ## SIGNAL (R393) -/

/-- The state after the write of a SIGNAL, if it has one. -/
def signalWrite (s : State) (c : Nat) (i : List Byte) : State :=
  if bitAt (leAt i 1 1) 2 then ssmWrite s (ssmBase s (chPart s c) + leAt i 8 8) (leBytes 8 (leAt i 0x10 8)) else s

theorem mvDoSignal_last (h : bitAt (leAt i 1 1) 0 = true) : mvDoSignal s c i = modCh s c fun x => { x with hold := 2 } := if_pos h

section
variable (hmore : bitAt (leAt i 1 1) 0 = false)
include hmore

theorem mvDoSignal_acts : mvDoSignal s c i = mvSignalAct s c i := if_neg (Bool.eq_false_iff.1 hmore)

theorem mvDoSignal_badProg (hword : bitAt (leAt i 1 1) 2 = true) (h : leAt i 8 8 % 8 ≠ 0) :
    mvDoSignal s c i = chFail s c mvBadProg :=
  (mvDoSignal_acts hmore).trans (if_pos ⟨hword, h⟩)

theorem mvDoSignal_range (hword : bitAt (leAt i 1 1) 2 = true) (halign : leAt i 8 8 % 8 = 0)
    (h : ssmIn s (chPart s c) (leAt i 8 8) 8 = false) : mvDoSignal s c i = chFail s c mvRange :=
  (mvDoSignal_acts hmore).trans ((if_neg fun hbad => hbad.2 halign).trans (if_pos ⟨hword, Bool.eq_false_iff.1 h⟩))

section
variable (hword : bitAt (leAt i 1 1) 2 = false ∨ leAt i 8 8 % 8 = 0 ∧ ssmIn s (chPart s c) (leAt i 8 8) 8 = true)
include hword

theorem mvDoSignal_writes : mvDoSignal s c i =
    if bitAt (leAt i 1 1) 1 = true ∧ ¬ mayRaise (signalWrite s c i) (chPart s c) (leAt i 2 2) = true then
      chFail (signalWrite s c i) c mvPrivDenied
    else chNext (if bitAt (leAt i 1 1) 1 then raise (signalWrite s c i) (leAt i 2 2) else signalWrite s c i) c := by
  refine (mvDoSignal_acts hmore).trans ((if_neg ?_).trans ((if_neg ?_).trans ?_))
  · rintro ⟨hwrites, hbad⟩
    exact hword.elim (fun hnone => Bool.eq_false_iff.1 hnone hwrites) fun hok => hbad hok.1
  · rintro ⟨hwrites, hbad⟩
    exact hword.elim (fun hnone => Bool.eq_false_iff.1 hnone hwrites) fun hok => hbad hok.2
  · exact ite_congr rfl (fun _ => rfl) fun _ => if_neg (Bool.eq_false_iff.1 hmore)

theorem mvDoSignal_denied (hraise : bitAt (leAt i 1 1) 1 = true)
    (hmay : mayRaise (signalWrite s c i) (chPart s c) (leAt i 2 2) = false) :
    mvDoSignal s c i = chFail (signalWrite s c i) c mvPrivDenied :=
  (mvDoSignal_writes hmore hword).trans (if_pos ⟨hraise, Bool.eq_false_iff.1 hmay⟩)

theorem mvDoSignal_goesOn
    (hmay : bitAt (leAt i 1 1) 1 = false ∨ mayRaise (signalWrite s c i) (chPart s c) (leAt i 2 2) = true) :
    mvDoSignal s c i =
      chNext (if bitAt (leAt i 1 1) 1 then raise (signalWrite s c i) (leAt i 2 2) else signalWrite s c i) c := by
  refine (mvDoSignal_writes hmore hword).trans (if_neg ?_)
  rintro ⟨hraise, hbad⟩
  exact hmay.elim (fun hnone => Bool.eq_false_iff.1 hnone hraise) hbad

end

end

end

/-! ## The end of a program (R387, R394) -/

section
variable {s : State} {c : Nat} (hdone : chWriting s c = false)
include hdone

theorem chProgress_reports (hhold : (chOf s c).hold = 3) : chProgress s c = chReport s c := by
  simp only [chProgress, hdone, hhold, Bool.false_eq_true, if_false]

theorem chProgress_finishes (hhold : (chOf s c).hold = 4) : chProgress s c = chFinish s c := by
  simp only [chProgress, hdone, hhold, Bool.false_eq_true, if_false]

end

theorem chReport_ssm {s : State} {c : Nat} (hspace : (chOf s c).space = 0) : chReport s c =
    modCh (ssmWrite s ((2 ^ 64 + (chOf s c).base - 8) % 2 ^ 64) (leBytes 8 (chWord s c))) c fun x => { x with hold := 4 } := by
  simp only [chReport, chWriteProg, hspace]

/-! ## The halt of the mover (R396, R397) -/

theorem anyRuns_iff (s : State) :
    ((List.range 16).any fun c => chState s c != chIdle) = true ↔ ∃ c < 16, chState s c ≠ chIdle := by
  simp only [List.any_eq_true, List.mem_range, bne_iff_ne]

theorem movBusy_false_iff (s : State) : movBusy s = false ↔ ∀ o ∈ s.host.ops, ∀ c < 16, opOfCh c o = false := by
  simp only [movBusy, List.any_eq_false, List.mem_range, Bool.not_eq_true]

theorem movBusError_eq (s : State) (addr : Nat) :
    let h := put (put (movStopAll s) R.MOV_STAT_HALTED 1) R.MOV_STAT_BUSERR 1
    let n := bump (put2 h R.MOV_BUSERR_ADDR_LO_ADDR R.MOV_BUSERR_ADDR_HI_ADDR addr) R.MOV_BUSERR_CNT_COUNT
    movBusError s addr = put (fault n fltMovBus) (R.HUB_PEND hubMovBusError) 1 := raise_inRange (by decide) (by decide)

end Sys2Proof.Machine

open Sys2Proof Sys2Proof.Machine

/-- Settles O48: the checks of a ring command decide its answer, the form and reach of a fetched instruction what it comes to, and what
a channel is held for what it does once its writes have completed. That the status word lies at the program's base minus 8 modulo 2^64
(log entry 79), and that a WAIT or SIGNAL word which is not aligned is BAD_PROG and one out of range RANGE, are the model's. -/
theorem moverCommandsAndInstructionsTakeEffect : Obligations.MoverCommandsAndInstructionsTakeEffect := by
  unfold Obligations.MoverCommandsAndInstructionsTakeEffect
  refine ⟨fun s p r id c hfind => ?start, fun s p r id c hfind => ?stop, fun s c i hbuf hrun hhold hread hgoes hclock => ?instructions,
    fun s addr hruns => ?busError, fun s addr hidle => ?noAccess,
    fun s c hspace hdone => ⟨fun hhold => ?reports, fun hhold => ?finishes⟩,
    fun s v hunits => ?restart, fun s hasked hnone hfree => ?restarted, fun s hstays => ?stays⟩
  case start =>
    exact ⟨fun h => .of_withCmd rfl hfind (mvStart_badField h), fun hform hown => .of_withCmd rfl hfind (mvStart_denied hform hown),
      fun hform hown h => .of_withCmd rfl hfind (mvStart_notReady hform hown h),
      fun hform hown hidle hruns => .of_withCmd rfl hfind (mvStart_starts hform hown hidle hruns)⟩
  case stop =>
    exact ⟨fun h => .of_withCmd rfl hfind (mvStop_badField h), fun hform hown => .of_withCmd rfl hfind (mvStop_denied hform hown),
      fun hform hown hidle => .of_withCmd rfl hfind (mvStop_idle hform hown hidle),
      fun hform hown hbusy => .of_withCmd rfl hfind (mvStop_stops hform hown hbusy)⟩
  case instructions =>
    have h : Carries s c i := ⟨hbuf, hrun, hhold, hread, hgoes, hclock⟩
    refine ⟨fun hop => ?move, fun hop => ?loop, fun t hop => ⟨fun hkind => ?tick, fun hkind => ?ssm, fun w hlimit hwait => ?timeout⟩,
      fun hop => ?signal⟩
    case move =>
      have does {u : State} (hu : mvDoMove s c i = u) : Completes (.mvMove c) s u :=
        .of_finSettle (congrArg finSettle ((chInstr_carries _ h hop rfl).trans hu))
      refine ⟨fun hbad => does (mvDoMove_badForm rfl hbad), fun hform hbad => does (mvDoMove_range rfl hform hbad),
        fun hform hreach hadd => does (mvDoMove_poolFault rfl hform hreach hadd), fun hform hreach hadd => ?_⟩
      have reads := mvDoMove_reads (m := mvMove (chOf s c) i) rfl hform hreach hadd
      exact ⟨fun hlen => does (reads.trans (moveRead_empty hlen)),
        fun hlen hspace => does (reads.trans (moveRead_host hlen hspace)),
        fun hlen hspace => does (reads.trans (moveRead_frameStore hlen hspace)),
        fun hlen hspace => does (reads.trans (moveRead_scratch hlen hspace)),
        fun hlen hspace => does (reads.trans (moveRead_coil hlen hspace))⟩
    case loop =>
      have does {u : State} (hu : mvDoLoop s c i = u) : Completes (.mvLoop c) s u :=
        .of_finSettle (congrArg finSettle ((chInstr_carries _ h hop rfl).trans hu))
      exact ⟨fun hbad => does (mvDoLoop_bad hbad), fun hgood hleft => does (mvDoLoop_ends hgood hleft),
        fun hgood hleft => does (mvDoLoop_back hgood hleft)⟩
    case tick => exact congrArg Host.Outcome.next (chInstr_carries _ h hop (beq_iff_eq.2 hkind))
    case ssm =>
      have does {u : State} (hu : mvDoWaitSsm (stamp s t) c t i = u) : Completes (.mvWaitSsm c t) s u :=
        .of_finSettle (congrArg finSettle ((chInstr_carries _ h hop (by simp [hkind])).trans hu))
      exact ⟨fun hbad => does (mvDoWaitSsm_badProg hbad), fun halign hout => does (mvDoWaitSsm_range halign hout),
        fun halign hin => does (mvDoWaitSsm_tests halign hin)⟩
    case timeout =>
      refine .of_finSettle (congrArg finSettle ((chInstr_carries _ h hop (by simp [hlimit])).trans ?_))
      simp only [hwait]
      rfl
    case signal =>
      have does {u : State} (hu : mvDoSignal s c i = u) : Completes (.mvSignal c) s u :=
        .of_finSettle (congrArg finSettle ((chInstr_carries _ h hop rfl).trans hu))
      exact ⟨fun hlast => does (mvDoSignal_last hlast), fun hmore hword hbad => does (mvDoSignal_badProg hmore hword hbad),
        fun hmore hword halign hout => does (mvDoSignal_range hmore hword halign hout),
        fun hmore hword => ⟨fun hraise hmay => does (mvDoSignal_denied hmore hword hraise hmay),
          fun hmay => does (mvDoSignal_goesOn hmore hword hmay)⟩⟩
  case busError =>
    exact .of_finSettle (congrArg finSettle ((if_pos ((anyRuns_iff s).2 hruns)).trans (movBusError_eq s addr)))
  case noAccess =>
    refine .of_finSettle (congrArg finSettle (if_neg fun hany => ?_))
    obtain ⟨c, hc, hrun⟩ := (anyRuns_iff s).1 hany
    exact hrun (hidle c hc)
  case reports => exact (chProgress_reports hdone hhold).trans (chReport_ssm hspace)
  case finishes => exact chProgress_finishes hdone hhold
  case restart =>
    refine (answered_run _ hunits).trans (congrArg Host.Outcome.next ?_)
    exact ite_congr (Bool.and_eq_true _ _) (fun _ => rfl) fun _ => rfl
  case restarted =>
    exact congrArg Host.Outcome.next (if_pos (by simp [hasked, (movBusy_false_iff s).2 hnone, hfree]))
  case stays =>
    refine congrArg Host.Outcome.next (if_neg ?_)
    rcases hstays with h | h | h <;> simp [h]

end

section
/-! Every command has a meaning that runs, a step is the front command's meaning, and what every step keeps: the canonical form and the
queue behind the front command. Settles O1, O2, O3, O5 and O6. -/

namespace Sys2Proof.Machine

/-! ## Commands answer -/

/-- The outcome is a next state. -/
def Answers (o : Host.Outcome State Fault Refusal) : Prop := ∃ t : State, o = .next t

theorem answers_next (t : State) : Answers (.next t) := ⟨t, rfl⟩

theorem answers_ite {p : Prop} [Decidable p] {o o' : Host.Outcome State Fault Refusal} (h : Answers o) (h' : Answers o') :
    Answers (if p then o else o') := by
  split
  · exact h
  · exact h'

theorem answers_answered (s : State) {o : Host.Outcome State Fault Refusal} (h : Answers o) : Answers (answered s o) :=
  answers_ite h (answers_next s)

theorem answers_finSettle (s : State) : Answers (finSettle s) := answers_next _

theorem execRegisterWrite_answers (a : RegAddr) (v : Word32) (s : State) : Answers (execRegisterWrite a v s) := by
  cases a with
  | bar0 | window | config | test => exact answers_finSettle _

theorem execWalkReadDone_answers (p : Part) (page : Nat) (ok : Bool) (e : Word64) (s : State) :
    Answers (execWalkReadDone p page ok e s) := by
  unfold execWalkReadDone
  split
  · exact answers_next s
  · exact answers_finSettle _

theorem execHostReadCompletion_answers (op : Nat) (ok : Bool) (data : List Byte) (t : Nat) (s : State) :
    Answers (execHostReadCompletion op ok data t s) := by
  unfold execHostReadCompletion
  split
  · exact answers_next s
  · exact answers_finSettle _

theorem execFunctionLevelReset_answers (p : Part) (s : State) : Answers (execFunctionLevelReset p s) :=
  answers_ite (answers_next s) (answers_ite (answers_finSettle _) (answers_finSettle _))

theorem uStep_answers (n : Nat) (ecc : Ecc) (w : MicroWord) (eng : Bool) (op : MicroWord → Bool) (s : State) :
    Answers (uStep n ecc w eng op s) := by
  refine answers_ite (answers_next s) ?_
  cases fetchWord s (get s (R.STR_UPC_ADDR n)) with
  | none => exact answers_finSettle _
  | some x =>
    refine answers_ite (answers_next s) ?_
    cases ecc with
    | ue | ok => exact answers_finSettle _
    | ce => exact answers_ite (answers_finSettle _) (answers_finSettle _)

/-- A command's meaning is a next state, or one that only running units answer, or a choice between two. -/
theorem exec_answers (c : Instr) (s : State) : Answers (exec c s) := by
  cases c with
  | accessSizeError | accessUnmapped | readClear | powerOn | resetNAssert | internalResetRelease | aonBrownOut | supplyOor
  | clkFail | aonRstCtl | bootAttempt | bootTimeout | aonBootData | aonBootGo | aonBootRetry | b0Ready | clockGate | blockWake
  | wakeNFall | perstNRise | wakeTimerExpiry | thermalHot | thermalCrit | hostLinkDown | genlockEdge | genlockEdgeMissing
  | admission | csi2FrameStart | csi2FrameEnd | csi2LongPacket | csi2ShortPacketIgnored | csi2PacketDiscarded | fifoDrain
  | viewFrameDone | moFrameStart | quantumExpiry | storeBufferDrain | add | sub | and | or | xor | shl | shr | sar | slt | sltu
  | mul | mulhu | min | max | minu | maxu | sextb | sexth | sextw | zextw | jr | clz | addi | andi | ori | xori | slti | sltiu
  | lui | rds | shli | shri | sari | ld | st | ldw | stw | amoadd | amoswap | cas | fence | beqz | bnez | bltz | bgez | bgtz
  | blez | jal | issue | move | spool | sig | waitTick | waitTag | waitTimer | waitEdge | waitDoorbell | tsetCancel
  | tsetOneshot | tsetPeriodic | tsetTickOneshot | tsetTickPeriodic | tgetNs | tgetPending | tgetLost | earmArm | earmDisarm
  | halt | timerExpiry | edgeCapture | jobStart | encRow | decRow | echoJob | loadctx | savectx | selftest | custom | rowCommit
  | echoCheckDone | noCommitTimeout | strandSramUe | controlStoreUe | customTimeout | splice | spareRestore | selftestDone
  | spareSelftestTimer | install | installImageLoaded | swap | restart | nop | seqTestDone | ringService | hubAssign
  | seqTargetClaim | belayClaim | invalidationDone | vfEnableClear | mvStart | mvStop | poolRelease | mvMove | mvLoop
  | mvWaitTick | mvWaitSsm | mvWaitTimeout | mvSignal | moverBusError | movRestartDone | poolAllocate | poolIncrement
  | poolDecrement | dramRequestDone | urgencyEscalate | refreshDue | dqsTracking | mr4Read | freqChangeDone | trainingDone
  | hostioRead | hostioWrite | writeFrame | discard | readFrame | readBlocks | trim | schedulerSlot | nvmeCompletion
  | nvmeCommandTimeout | abortTimeout | smartPoll | magLinkDown | linkRetrain | magLinkUp | holdWindowExpiry | presenceAssert
  | presenceRemove | sbdI2cDone | sbdI2cRetry | gaugeEvaluate | gaugeRestComplete | labelBusyPoll | injArmTimeout | injUnit
  | injReorderTimeout | belayHeartbeat | belaySilent | belayResetDone | belayResetTimeout | belayTestDone | anchorAct
  | anchorAbortTimeout | lanyardToggle | switchSettleEnd | syncOutPulseEnd | tickOutFall | ltcRxFrame | ltcTxFrameTimer
  | uartRxByte | uartTxByte | auxI2cDone | junctionBelow100c | railInRange | clockRestored | vfEnableSet | cstsCfsSet
  | cstsRdySet | cstsRdyTimeout | gaugeSample =>
    exact answers_next _
  | uAdd | uSub | uAnd | uOr | uXor | uShl | uShr | uSar | uMul | uMin | uMax | uLi | uLui | uAddi | uCmp | uLd | uSt | uLdh
  | uSth | uBranch | uWaitCond | uDispatch | uCall | uReturn | uCommit =>
    apply uStep_answers
  | tickRateDenWrite | tickNoLoad | tickNoLoRead | tickNoHiRead | tickAdmLimitWrite | lockedRegisterWrite | stagedRegisterWrite
  | lutDataWrite | programDoorbell | strReset | strQuarSet | strReadmit | strTestReq | strPoolWrite | osData2Write | seqMigReq
  | seqOnlineRequest | seqTestReq | sqDoorbell | sqEnable | sqDisable | cqEnable | cqDisable | cqHeadWrite | hubRaise
  | hubPendSet | hubPendClr | hubMaskSet | hubMaskClr | hubClaim | hubEoi | hubRouteWrite | hubTgtCtlWrite | msixVectorUnmask
  | pwHubRaise | pwHubPendClr | pwHubMaskSet | pwHubMaskClr | pwHubClaim | pwHubEoi | iomInvCmd | iomRootWrite | pwFqPop
  | prtFsSizeWrite | prtSsmWrite | prtShareWrite | movRestart | poolInit | drcFreqSet | drcFreqForce | drcFreqCancel | drcTrain
  | drcPortTgtWrite | drcTsetWrite | magDropRequest | magQShapeWrite | magQBurstWrite | sbdCtlWrite | labelGo | fltStatClear
  | fltForce | injArmFirst | injArmSecond | injDisarm | belaySwitch | belayTest | belayResetRequest | pinGlCfgWrite
  | pinGlStageWrite | pinGlOwnerWrite | pinLtcCtlWrite | pinUartDataWrite | pinUartDataRead | pinI2cCmd =>
    exact answers_answered s (answers_next _)
  | freeRunTick | tickInEdge | holdoverTick | genlockTick | poolAlloc | poolInitDone | magOpen | magClose | magFormat
  | hostLinkUp =>
    exact answers_ite (answers_next _) (answers_next _)
  | modeRequest | prtPreset => exact answers_answered s (answers_ite (answers_next _) (answers_next _))
  | registerWrite => exact execRegisterWrite_answers ..
  | walkReadDone => exact execWalkReadDone_answers ..
  | hostReadCompletion => exact execHostReadCompletion_answers ..
  | functionLevelReset => exact execFunctionLevelReset_answers ..

/-! ## What every command keeps -/

/-- Each command's meaning is made of operations that keep the canonical form. -/
theorem exec_canon {c : Instr} {s t : State} (hs : s.Canonical) (h : exec c s = .next t) : t.Canonical := by
  cases c with
  | accessSizeError => exact execAccessSizeError_canon _ _ _ _ _ hs _ h
  | accessUnmapped => exact execAccessUnmapped_canon _ _ _ _ hs _ h
  | registerWrite => exact execRegisterWrite_canon _ _ _ hs _ h
  | readClear => exact execReadClear_canon _ _ hs _ h
  | powerOn => exact execPowerOn_canon _ hs _ h
  | resetNAssert => exact execResetNAssert_canon _ _ _ hs _ h
  | internalResetRelease => exact execInternalResetRelease_canon _ _ hs _ h
  | aonBrownOut => exact execAonBrownOut_canon _ hs _ h
  | supplyOor => exact execSupplyOor_canon _ hs _ h
  | clkFail => exact execClkFail_canon _ hs _ h
  | aonRstCtl => exact execAonRstCtl_canon _ _ hs _ h
  | bootAttempt => exact execBootAttempt_canon _ _ _ _ _ _ _ _ _ hs _ h
  | bootTimeout => exact execBootTimeout_canon _ _ hs _ h
  | aonBootData => exact execAonBootData_canon _ _ hs _ h
  | aonBootGo => exact execAonBootGo_canon _ _ hs _ h
  | aonBootRetry => exact execAonBootRetry_canon _ _ hs _ h
  | b0Ready => exact execB0Ready_canon _ _ hs _ h
  | clockGate => exact execClockGate_canon _ _ _ _ hs _ h
  | blockWake => exact execBlockWake_canon _ _ _ hs _ h
  | wakeNFall => exact execWakeNFall_canon _ hs _ h
  | perstNRise => exact execPerstNRise_canon _ hs _ h
  | wakeTimerExpiry => exact execWakeTimerExpiry_canon _ _ hs _ h
  | thermalHot => exact execThermalHot_canon _ _ hs _ h
  | thermalCrit => exact execThermalCrit_canon _ _ hs _ h
  | hostLinkDown => exact execHostLinkDown_canon _ hs _ h
  | freeRunTick => exact execFreeRunTick_canon _ _ hs _ h
  | tickInEdge => exact execTickInEdge_canon _ _ _ hs _ h
  | holdoverTick => exact execHoldoverTick_canon _ _ hs _ h
  | genlockEdge => exact execGenlockEdge_canon _ _ _ hs _ h
  | genlockTick => exact execGenlockTick_canon _ _ hs _ h
  | genlockEdgeMissing => exact execGenlockEdgeMissing_canon _ _ hs _ h
  | tickRateDenWrite => exact execTickRateDenWrite_canon _ _ hs _ h
  | tickNoLoad => exact execTickNoLoad_canon _ _ hs _ h
  | tickNoLoRead => exact execTickNoLoRead_canon _ _ hs _ h
  | tickNoHiRead => exact execTickNoHiRead_canon _ _ hs _ h
  | tickAdmLimitWrite => exact execTickAdmLimitWrite_canon _ _ hs _ h
  | admission => exact execAdmission_canon _ hs _ h
  | modeRequest => exact execModeRequest_canon _ _ _ hs _ h
  | csi2FrameStart => exact execCsi2FrameStart_canon _ _ _ _ _ _ hs _ h
  | csi2FrameEnd => exact execCsi2FrameEnd_canon _ _ _ _ _ hs _ h
  | csi2LongPacket => exact execCsi2LongPacket_canon _ _ _ _ _ _ _ _ hs _ h
  | csi2ShortPacketIgnored => exact execCsi2ShortPacketIgnored_canon _ _ _ _ _ hs _ h
  | csi2PacketDiscarded => exact execCsi2PacketDiscarded_canon _ _ _ _ hs _ h
  | fifoDrain => exact execFifoDrain_canon _ _ _ _ hs _ h
  | lockedRegisterWrite => exact execLockedRegisterWrite_canon _ _ _ hs _ h
  | stagedRegisterWrite => exact execStagedRegisterWrite_canon _ _ _ hs _ h
  | lutDataWrite => exact execLutDataWrite_canon _ _ _ hs _ h
  | viewFrameDone => exact execViewFrameDone_canon _ _ _ _ hs _ h
  | moFrameStart => exact execMoFrameStart_canon _ _ _ hs _ h
  | quantumExpiry => exact execQuantumExpiry_canon _ _ hs _ h
  | storeBufferDrain => exact execStoreBufferDrain_canon _ _ hs _ h
  | add => exact execAdd_canon _ _ _ _ _ _ hs _ h
  | sub => exact execSub_canon _ _ _ _ _ _ hs _ h
  | and => exact execAnd_canon _ _ _ _ _ _ hs _ h
  | or => exact execOr_canon _ _ _ _ _ _ hs _ h
  | xor => exact execXor_canon _ _ _ _ _ _ hs _ h
  | shl => exact execShl_canon _ _ _ _ _ _ hs _ h
  | shr => exact execShr_canon _ _ _ _ _ _ hs _ h
  | sar => exact execSar_canon _ _ _ _ _ _ hs _ h
  | slt => exact execSlt_canon _ _ _ _ _ _ hs _ h
  | sltu => exact execSltu_canon _ _ _ _ _ _ hs _ h
  | mul => exact execMul_canon _ _ _ _ _ _ hs _ h
  | mulhu => exact execMulhu_canon _ _ _ _ _ _ hs _ h
  | min => exact execMin_canon _ _ _ _ _ _ hs _ h
  | max => exact execMax_canon _ _ _ _ _ _ hs _ h
  | minu => exact execMinu_canon _ _ _ _ _ _ hs _ h
  | maxu => exact execMaxu_canon _ _ _ _ _ _ hs _ h
  | sextb => exact execSextb_canon _ _ _ _ _ hs _ h
  | sexth => exact execSexth_canon _ _ _ _ _ hs _ h
  | sextw => exact execSextw_canon _ _ _ _ _ hs _ h
  | zextw => exact execZextw_canon _ _ _ _ _ hs _ h
  | jr => exact execJr_canon _ _ _ _ _ hs _ h
  | clz => exact execClz_canon _ _ _ _ _ hs _ h
  | addi => exact execAddi_canon _ _ _ _ _ _ hs _ h
  | andi => exact execAndi_canon _ _ _ _ _ _ hs _ h
  | ori => exact execOri_canon _ _ _ _ _ _ hs _ h
  | xori => exact execXori_canon _ _ _ _ _ _ hs _ h
  | slti => exact execSlti_canon _ _ _ _ _ _ hs _ h
  | sltiu => exact execSltiu_canon _ _ _ _ _ _ hs _ h
  | lui => exact execLui_canon _ _ _ _ _ hs _ h
  | rds => exact execRds_canon _ _ _ _ _ _ hs _ h
  | shli => exact execShli_canon _ _ _ _ _ _ hs _ h
  | shri => exact execShri_canon _ _ _ _ _ _ hs _ h
  | sari => exact execSari_canon _ _ _ _ _ _ hs _ h
  | ld => exact execLd_canon _ _ _ _ _ _ _ hs _ h
  | st => exact execSt_canon _ _ _ _ _ _ _ hs _ h
  | ldw => exact execLdw_canon _ _ _ _ _ _ _ _ _ hs _ h
  | stw => exact execStw_canon _ _ _ _ _ _ _ _ hs _ h
  | amoadd => exact execAmoadd_canon _ _ _ _ _ _ _ hs _ h
  | amoswap => exact execAmoswap_canon _ _ _ _ _ _ _ hs _ h
  | cas => exact execCas_canon _ _ _ _ _ _ _ hs _ h
  | fence => exact execFence_canon _ _ _ hs _ h
  | beqz => exact execBeqz_canon _ _ _ _ _ hs _ h
  | bnez => exact execBnez_canon _ _ _ _ _ hs _ h
  | bltz => exact execBltz_canon _ _ _ _ _ hs _ h
  | bgez => exact execBgez_canon _ _ _ _ _ hs _ h
  | bgtz => exact execBgtz_canon _ _ _ _ _ hs _ h
  | blez => exact execBlez_canon _ _ _ _ _ hs _ h
  | jal => exact execJal_canon _ _ _ _ _ hs _ h
  | issue => exact execIssue_canon _ _ _ _ _ _ _ hs _ h
  | move => exact execMove_canon _ _ _ _ _ _ hs _ h
  | spool => exact execSpool_canon _ _ _ _ _ _ _ _ hs _ h
  | sig => exact execSig_canon _ _ _ _ _ _ hs _ h
  | waitTick => exact execWaitTick_canon _ _ _ _ _ _ hs _ h
  | waitTag => exact execWaitTag_canon _ _ _ _ _ _ hs _ h
  | waitTimer => exact execWaitTimer_canon _ _ _ _ _ _ hs _ h
  | waitEdge => exact execWaitEdge_canon _ _ _ _ _ _ hs _ h
  | waitDoorbell => exact execWaitDoorbell_canon _ _ _ _ _ _ hs _ h
  | tsetCancel => exact execTsetCancel_canon _ _ _ _ _ _ hs _ h
  | tsetOneshot => exact execTsetOneshot_canon _ _ _ _ _ _ _ hs _ h
  | tsetPeriodic => exact execTsetPeriodic_canon _ _ _ _ _ _ _ hs _ h
  | tsetTickOneshot => exact execTsetTickOneshot_canon _ _ _ _ _ _ hs _ h
  | tsetTickPeriodic => exact execTsetTickPeriodic_canon _ _ _ _ _ _ hs _ h
  | tgetNs => exact execTgetNs_canon _ _ _ _ _ _ _ hs _ h
  | tgetPending => exact execTgetPending_canon _ _ _ _ _ _ hs _ h
  | tgetLost => exact execTgetLost_canon _ _ _ _ _ _ hs _ h
  | earmArm => exact execEarmArm_canon _ _ _ _ _ _ _ _ hs _ h
  | earmDisarm => exact execEarmDisarm_canon _ _ _ _ _ _ _ hs _ h
  | halt => exact execHalt_canon _ _ _ _ hs _ h
  | timerExpiry => exact execTimerExpiry_canon _ _ _ _ hs _ h
  | edgeCapture => exact execEdgeCapture_canon _ _ _ _ _ hs _ h
  | programDoorbell => exact execProgramDoorbell_canon _ _ _ hs _ h
  | jobStart => exact execJobStart_canon _ _ _ hs _ h
  | encRow => exact execEncRow_canon _ _ _ _ _ hs _ h
  | decRow => exact execDecRow_canon _ _ hs _ h
  | echoJob => exact execEchoJob_canon _ _ hs _ h
  | loadctx => exact execLoadctx_canon _ _ hs _ h
  | savectx => exact execSavectx_canon _ _ hs _ h
  | selftest => exact execSelftest_canon _ _ hs _ h
  | custom => exact execCustom_canon _ _ _ hs _ h
  | uAdd => exact execUAdd_canon _ _ _ _ _ hs _ h
  | uSub => exact execUSub_canon _ _ _ _ _ hs _ h
  | uAnd => exact execUAnd_canon _ _ _ _ _ hs _ h
  | uOr => exact execUOr_canon _ _ _ _ _ hs _ h
  | uXor => exact execUXor_canon _ _ _ _ _ hs _ h
  | uShl => exact execUShl_canon _ _ _ _ _ hs _ h
  | uShr => exact execUShr_canon _ _ _ _ _ hs _ h
  | uSar => exact execUSar_canon _ _ _ _ _ hs _ h
  | uMul => exact execUMul_canon _ _ _ _ _ hs _ h
  | uMin => exact execUMin_canon _ _ _ _ _ hs _ h
  | uMax => exact execUMax_canon _ _ _ _ _ hs _ h
  | uLi => exact execULi_canon _ _ _ _ _ hs _ h
  | uLui => exact execULui_canon _ _ _ _ _ hs _ h
  | uAddi => exact execUAddi_canon _ _ _ _ _ hs _ h
  | uCmp => exact execUCmp_canon _ _ _ _ _ hs _ h
  | uLd => exact execULd_canon _ _ _ _ _ hs _ h
  | uSt => exact execUSt_canon _ _ _ _ _ hs _ h
  | uLdh => exact execULdh_canon _ _ _ _ _ hs _ h
  | uSth => exact execUSth_canon _ _ _ _ _ hs _ h
  | uBranch => exact execUBranch_canon _ _ _ _ _ hs _ h
  | uWaitCond => exact execUWaitCond_canon _ _ _ _ _ hs _ h
  | uDispatch => exact execUDispatch_canon _ _ _ _ _ hs _ h
  | uCall => exact execUCall_canon _ _ _ _ _ hs _ h
  | uReturn => exact execUReturn_canon _ _ _ _ _ hs _ h
  | uCommit => exact execUCommit_canon _ _ _ _ _ hs _ h
  | rowCommit => exact execRowCommit_canon _ _ _ _ hs _ h
  | echoCheckDone => exact execEchoCheckDone_canon _ _ hs _ h
  | noCommitTimeout => exact execNoCommitTimeout_canon _ _ _ _ hs _ h
  | strandSramUe => exact execStrandSramUe_canon _ _ hs _ h
  | controlStoreUe => exact execControlStoreUe_canon _ _ hs _ h
  | customTimeout => exact execCustomTimeout_canon _ _ _ hs _ h
  | splice => exact execSplice_canon _ _ hs _ h
  | spareRestore => exact execSpareRestore_canon _ _ _ hs _ h
  | selftestDone => exact execSelftestDone_canon _ _ _ _ hs _ h
  | spareSelftestTimer => exact execSpareSelftestTimer_canon _ _ hs _ h
  | strReset => exact execStrReset_canon _ _ _ hs _ h
  | strQuarSet => exact execStrQuarSet_canon _ _ hs _ h
  | strReadmit => exact execStrReadmit_canon _ _ hs _ h
  | strTestReq => exact execStrTestReq_canon _ _ hs _ h
  | strPoolWrite => exact execStrPoolWrite_canon _ _ hs _ h
  | osData2Write => exact execOsData2Write_canon _ _ hs _ h
  | install => exact execInstall_canon _ _ _ _ hs _ h
  | installImageLoaded => exact execInstallImageLoaded_canon _ _ hs _ h
  | swap => exact execSwap_canon _ _ _ _ hs _ h
  | restart => exact execRestart_canon _ _ _ _ hs _ h
  | nop => exact execNop_canon _ _ _ _ hs _ h
  | seqMigReq => exact execSeqMigReq_canon _ _ hs _ h
  | seqOnlineRequest => exact execSeqOnlineRequest_canon _ _ hs _ h
  | seqTestReq => exact execSeqTestReq_canon _ _ hs _ h
  | seqTestDone => exact execSeqTestDone_canon _ _ hs _ h
  | sqDoorbell => exact execSqDoorbell_canon _ _ _ hs _ h
  | ringService => exact execRingService_canon _ _ _ hs _ h
  | sqEnable => exact execSqEnable_canon _ _ _ hs _ h
  | sqDisable => exact execSqDisable_canon _ _ _ hs _ h
  | cqEnable => exact execCqEnable_canon _ _ _ hs _ h
  | cqDisable => exact execCqDisable_canon _ _ _ hs _ h
  | cqHeadWrite => exact execCqHeadWrite_canon _ _ _ _ hs _ h
  | hubRaise => exact execHubRaise_canon _ _ hs _ h
  | hubPendSet => exact execHubPendSet_canon _ _ hs _ h
  | hubPendClr => exact execHubPendClr_canon _ _ hs _ h
  | hubMaskSet => exact execHubMaskSet_canon _ _ hs _ h
  | hubMaskClr => exact execHubMaskClr_canon _ _ hs _ h
  | hubAssign => exact execHubAssign_canon _ _ hs _ h
  | hubClaim => exact execHubClaim_canon _ _ hs _ h
  | hubEoi => exact execHubEoi_canon _ _ _ hs _ h
  | hubRouteWrite => exact execHubRouteWrite_canon _ _ _ hs _ h
  | hubTgtCtlWrite => exact execHubTgtCtlWrite_canon _ _ _ hs _ h
  | seqTargetClaim => exact execSeqTargetClaim_canon _ _ hs _ h
  | belayClaim => exact execBelayClaim_canon _ hs _ h
  | msixVectorUnmask => exact execMsixVectorUnmask_canon _ _ _ hs _ h
  | pwHubRaise => exact execPwHubRaise_canon _ _ _ hs _ h
  | pwHubPendClr => exact execPwHubPendClr_canon _ _ _ hs _ h
  | pwHubMaskSet => exact execPwHubMaskSet_canon _ _ _ hs _ h
  | pwHubMaskClr => exact execPwHubMaskClr_canon _ _ _ hs _ h
  | pwHubClaim => exact execPwHubClaim_canon _ _ hs _ h
  | pwHubEoi => exact execPwHubEoi_canon _ _ _ hs _ h
  | walkReadDone => exact execWalkReadDone_canon _ _ _ _ _ hs _ h
  | iomInvCmd => exact execIomInvCmd_canon _ _ hs _ h
  | invalidationDone => exact execInvalidationDone_canon _ hs _ h
  | iomRootWrite => exact execIomRootWrite_canon _ _ _ _ hs _ h
  | pwFqPop => exact execPwFqPop_canon _ _ hs _ h
  | prtFsSizeWrite => exact execPrtFsSizeWrite_canon _ _ _ hs _ h
  | prtSsmWrite => exact execPrtSsmWrite_canon _ _ _ hs _ h
  | prtShareWrite => exact execPrtShareWrite_canon _ _ _ hs _ h
  | prtPreset => exact execPrtPreset_canon _ _ hs _ h
  | functionLevelReset => exact execFunctionLevelReset_canon _ _ hs _ h
  | vfEnableClear => exact execVfEnableClear_canon _ _ hs _ h
  | mvStart => exact execMvStart_canon _ _ _ _ hs _ h
  | mvStop => exact execMvStop_canon _ _ _ _ hs _ h
  | poolAlloc => exact execPoolAlloc_canon _ _ _ _ hs _ h
  | poolRelease => exact execPoolRelease_canon _ _ _ _ hs _ h
  | mvMove => exact execMvMove_canon _ _ hs _ h
  | mvLoop => exact execMvLoop_canon _ _ hs _ h
  | mvWaitTick => exact execMvWaitTick_canon _ _ _ hs _ h
  | mvWaitSsm => exact execMvWaitSsm_canon _ _ _ hs _ h
  | mvWaitTimeout => exact execMvWaitTimeout_canon _ _ _ hs _ h
  | mvSignal => exact execMvSignal_canon _ _ hs _ h
  | moverBusError => exact execMoverBusError_canon _ _ hs _ h
  | movRestart => exact execMovRestart_canon _ _ hs _ h
  | movRestartDone => exact execMovRestartDone_canon _ hs _ h
  | poolInit => exact execPoolInit_canon _ hs _ h
  | poolInitDone => exact execPoolInitDone_canon _ _ _ hs _ h
  | poolAllocate => exact execPoolAllocate_canon _ _ _ hs _ h
  | poolIncrement => exact execPoolIncrement_canon _ _ _ hs _ h
  | poolDecrement => exact execPoolDecrement_canon _ _ _ hs _ h
  | dramRequestDone => exact execDramRequestDone_canon _ _ _ _ _ _ _ _ _ hs _ h
  | urgencyEscalate => exact execUrgencyEscalate_canon _ _ _ _ _ _ hs _ h
  | refreshDue => exact execRefreshDue_canon _ _ _ _ hs _ h
  | dqsTracking => exact execDqsTracking_canon _ _ hs _ h
  | mr4Read => exact execMr4Read_canon _ _ hs _ h
  | drcFreqSet => exact execDrcFreqSet_canon _ _ hs _ h
  | drcFreqForce => exact execDrcFreqForce_canon _ _ hs _ h
  | drcFreqCancel => exact execDrcFreqCancel_canon _ hs _ h
  | freqChangeDone => exact execFreqChangeDone_canon _ _ _ hs _ h
  | drcTrain => exact execDrcTrain_canon _ _ hs _ h
  | trainingDone => exact execTrainingDone_canon _ _ hs _ h
  | drcPortTgtWrite => exact execDrcPortTgtWrite_canon _ _ _ hs _ h
  | drcTsetWrite => exact execDrcTsetWrite_canon _ _ _ _ hs _ h
  | magOpen => exact execMagOpen_canon _ _ _ _ hs _ h
  | magClose => exact execMagClose_canon _ _ _ _ hs _ h
  | magFormat => exact execMagFormat_canon _ _ _ _ hs _ h
  | hostioRead => exact execHostioRead_canon _ _ _ _ hs _ h
  | hostioWrite => exact execHostioWrite_canon _ _ _ _ hs _ h
  | writeFrame => exact execWriteFrame_canon _ _ _ hs _ h
  | discard => exact execDiscard_canon _ _ _ hs _ h
  | readFrame => exact execReadFrame_canon _ _ _ hs _ h
  | readBlocks => exact execReadBlocks_canon _ _ _ hs _ h
  | trim => exact execTrim_canon _ _ _ hs _ h
  | schedulerSlot => exact execSchedulerSlot_canon _ _ _ hs _ h
  | nvmeCompletion => exact execNvmeCompletion_canon _ _ _ _ _ _ _ _ hs _ h
  | nvmeCommandTimeout => exact execNvmeCommandTimeout_canon _ _ _ _ hs _ h
  | abortTimeout => exact execAbortTimeout_canon _ _ _ _ hs _ h
  | smartPoll => exact execSmartPoll_canon _ _ _ hs _ h
  | magLinkDown => exact execMagLinkDown_canon _ _ _ hs _ h
  | linkRetrain => exact execLinkRetrain_canon _ _ _ _ hs _ h
  | magLinkUp => exact execMagLinkUp_canon _ _ _ hs _ h
  | holdWindowExpiry => exact execHoldWindowExpiry_canon _ _ _ hs _ h
  | magDropRequest => exact execMagDropRequest_canon _ _ _ hs _ h
  | magQShapeWrite => exact execMagQShapeWrite_canon _ _ _ _ _ hs _ h
  | magQBurstWrite => exact execMagQBurstWrite_canon _ _ _ _ _ hs _ h
  | presenceAssert => exact execPresenceAssert_canon _ _ _ hs _ h
  | presenceRemove => exact execPresenceRemove_canon _ _ _ hs _ h
  | sbdCtlWrite => exact execSbdCtlWrite_canon _ _ _ hs _ h
  | sbdI2cDone => exact execSbdI2cDone_canon _ _ _ _ _ hs _ h
  | sbdI2cRetry => exact execSbdI2cRetry_canon _ _ _ hs _ h
  | gaugeEvaluate => exact execGaugeEvaluate_canon _ _ hs _ h
  | gaugeRestComplete => exact execGaugeRestComplete_canon _ _ hs _ h
  | labelGo => exact execLabelGo_canon _ _ _ hs _ h
  | labelBusyPoll => exact execLabelBusyPoll_canon _ _ _ _ hs _ h
  | fltStatClear => exact execFltStatClear_canon _ _ _ hs _ h
  | fltForce => exact execFltForce_canon _ _ _ hs _ h
  | injArmFirst => exact execInjArmFirst_canon _ _ hs _ h
  | injArmSecond => exact execInjArmSecond_canon _ _ hs _ h
  | injDisarm => exact execInjDisarm_canon _ _ hs _ h
  | injArmTimeout => exact execInjArmTimeout_canon _ _ hs _ h
  | injUnit => exact execInjUnit_canon _ _ _ _ hs _ h
  | injReorderTimeout => exact execInjReorderTimeout_canon _ _ _ hs _ h
  | belayHeartbeat => exact execBelayHeartbeat_canon _ _ _ hs _ h
  | belaySilent => exact execBelaySilent_canon _ _ _ _ hs _ h
  | belayResetDone => exact execBelayResetDone_canon _ _ _ _ hs _ h
  | belayResetTimeout => exact execBelayResetTimeout_canon _ _ _ hs _ h
  | belaySwitch => exact execBelaySwitch_canon _ hs _ h
  | belayTest => exact execBelayTest_canon _ _ hs _ h
  | belayTestDone => exact execBelayTestDone_canon _ _ _ hs _ h
  | belayResetRequest => exact execBelayResetRequest_canon _ _ hs _ h
  | anchorAct => exact execAnchorAct_canon _ _ hs _ h
  | anchorAbortTimeout => exact execAnchorAbortTimeout_canon _ _ _ hs _ h
  | lanyardToggle => exact execLanyardToggle_canon _ _ hs _ h
  | pinGlCfgWrite => exact execPinGlCfgWrite_canon _ _ _ _ hs _ h
  | pinGlStageWrite => exact execPinGlStageWrite_canon _ _ _ hs _ h
  | switchSettleEnd => exact execSwitchSettleEnd_canon _ _ _ hs _ h
  | pinGlOwnerWrite => exact execPinGlOwnerWrite_canon _ _ _ hs _ h
  | pinLtcCtlWrite => exact execPinLtcCtlWrite_canon _ _ hs _ h
  | syncOutPulseEnd => exact execSyncOutPulseEnd_canon _ _ _ hs _ h
  | tickOutFall => exact execTickOutFall_canon _ _ _ hs _ h
  | ltcRxFrame => exact execLtcRxFrame_canon _ _ _ hs _ h
  | ltcTxFrameTimer => exact execLtcTxFrameTimer_canon _ _ hs _ h
  | uartRxByte => exact execUartRxByte_canon _ _ _ hs _ h
  | uartTxByte => exact execUartTxByte_canon _ _ hs _ h
  | pinUartDataWrite => exact execPinUartDataWrite_canon _ _ _ hs _ h
  | pinUartDataRead => exact execPinUartDataRead_canon _ _ hs _ h
  | pinI2cCmd => exact execPinI2cCmd_canon _ _ _ hs _ h
  | auxI2cDone => exact execAuxI2cDone_canon _ _ _ _ hs _ h
  | hostLinkUp => exact execHostLinkUp_canon _ hs _ h
  | junctionBelow100c => exact execJunctionBelow100c_canon _ _ hs _ h
  | railInRange => exact execRailInRange_canon _ hs _ h
  | clockRestored => exact execClockRestored_canon _ hs _ h
  | vfEnableSet => exact execVfEnableSet_canon _ _ hs _ h
  | cstsCfsSet => exact execCstsCfsSet_canon _ _ _ hs _ h
  | cstsRdySet => exact execCstsRdySet_canon _ _ _ _ _ hs _ h
  | cstsRdyTimeout => exact execCstsRdyTimeout_canon _ _ _ hs _ h
  | gaugeSample => exact execGaugeSample_canon _ _ _ _ hs _ h
  | hostReadCompletion => exact execHostReadCompletion_canon _ _ _ _ _ hs _ h

/-- Each command's meaning is made of operations that leave the queue of waiting commands alone. -/
theorem exec_pending {c : Instr} {s t : State} (h : exec c s = .next t) : t.pending = s.pending := by
  cases c with
  | accessSizeError => exact execAccessSizeError_pending (ht' := h)
  | accessUnmapped => exact execAccessUnmapped_pending (ht' := h)
  | registerWrite => exact execRegisterWrite_pending (ht' := h)
  | readClear => exact execReadClear_pending (ht' := h)
  | powerOn => exact execPowerOn_pending (ht' := h)
  | resetNAssert => exact execResetNAssert_pending (ht' := h)
  | internalResetRelease => exact execInternalResetRelease_pending (ht' := h)
  | aonBrownOut => exact execAonBrownOut_pending (ht' := h)
  | supplyOor => exact execSupplyOor_pending (ht' := h)
  | clkFail => exact execClkFail_pending (ht' := h)
  | aonRstCtl => exact execAonRstCtl_pending (ht' := h)
  | bootAttempt => exact execBootAttempt_pending (ht' := h)
  | bootTimeout => exact execBootTimeout_pending (ht' := h)
  | aonBootData => exact execAonBootData_pending (ht' := h)
  | aonBootGo => exact execAonBootGo_pending (ht' := h)
  | aonBootRetry => exact execAonBootRetry_pending (ht' := h)
  | b0Ready => exact execB0Ready_pending (ht' := h)
  | clockGate => exact execClockGate_pending (ht' := h)
  | blockWake => exact execBlockWake_pending (ht' := h)
  | wakeNFall => exact execWakeNFall_pending (ht' := h)
  | perstNRise => exact execPerstNRise_pending (ht' := h)
  | wakeTimerExpiry => exact execWakeTimerExpiry_pending (ht' := h)
  | thermalHot => exact execThermalHot_pending (ht' := h)
  | thermalCrit => exact execThermalCrit_pending (ht' := h)
  | hostLinkDown => exact execHostLinkDown_pending (ht' := h)
  | freeRunTick => exact execFreeRunTick_pending (ht' := h)
  | tickInEdge => exact execTickInEdge_pending (ht' := h)
  | holdoverTick => exact execHoldoverTick_pending (ht' := h)
  | genlockEdge => exact execGenlockEdge_pending (ht' := h)
  | genlockTick => exact execGenlockTick_pending (ht' := h)
  | genlockEdgeMissing => exact execGenlockEdgeMissing_pending (ht' := h)
  | tickRateDenWrite => exact execTickRateDenWrite_pending (ht' := h)
  | tickNoLoad => exact execTickNoLoad_pending (ht' := h)
  | tickNoLoRead => exact execTickNoLoRead_pending (ht' := h)
  | tickNoHiRead => exact execTickNoHiRead_pending (ht' := h)
  | tickAdmLimitWrite => exact execTickAdmLimitWrite_pending (ht' := h)
  | admission => exact execAdmission_pending (ht' := h)
  | modeRequest => exact execModeRequest_pending (ht' := h)
  | csi2FrameStart => exact execCsi2FrameStart_pending (ht' := h)
  | csi2FrameEnd => exact execCsi2FrameEnd_pending (ht' := h)
  | csi2LongPacket => exact execCsi2LongPacket_pending (ht' := h)
  | csi2ShortPacketIgnored => exact execCsi2ShortPacketIgnored_pending (ht' := h)
  | csi2PacketDiscarded => exact execCsi2PacketDiscarded_pending (ht' := h)
  | fifoDrain => exact execFifoDrain_pending (ht' := h)
  | lockedRegisterWrite => exact execLockedRegisterWrite_pending (ht' := h)
  | stagedRegisterWrite => exact execStagedRegisterWrite_pending (ht' := h)
  | lutDataWrite => exact execLutDataWrite_pending (ht' := h)
  | viewFrameDone => exact execViewFrameDone_pending (ht' := h)
  | moFrameStart => exact execMoFrameStart_pending (ht' := h)
  | quantumExpiry => exact execQuantumExpiry_pending (ht' := h)
  | storeBufferDrain => exact execStoreBufferDrain_pending (ht' := h)
  | add => exact execAdd_pending (ht' := h)
  | sub => exact execSub_pending (ht' := h)
  | and => exact execAnd_pending (ht' := h)
  | or => exact execOr_pending (ht' := h)
  | xor => exact execXor_pending (ht' := h)
  | shl => exact execShl_pending (ht' := h)
  | shr => exact execShr_pending (ht' := h)
  | sar => exact execSar_pending (ht' := h)
  | slt => exact execSlt_pending (ht' := h)
  | sltu => exact execSltu_pending (ht' := h)
  | mul => exact execMul_pending (ht' := h)
  | mulhu => exact execMulhu_pending (ht' := h)
  | min => exact execMin_pending (ht' := h)
  | max => exact execMax_pending (ht' := h)
  | minu => exact execMinu_pending (ht' := h)
  | maxu => exact execMaxu_pending (ht' := h)
  | sextb => exact execSextb_pending (ht' := h)
  | sexth => exact execSexth_pending (ht' := h)
  | sextw => exact execSextw_pending (ht' := h)
  | zextw => exact execZextw_pending (ht' := h)
  | jr => exact execJr_pending (ht' := h)
  | clz => exact execClz_pending (ht' := h)
  | addi => exact execAddi_pending (ht' := h)
  | andi => exact execAndi_pending (ht' := h)
  | ori => exact execOri_pending (ht' := h)
  | xori => exact execXori_pending (ht' := h)
  | slti => exact execSlti_pending (ht' := h)
  | sltiu => exact execSltiu_pending (ht' := h)
  | lui => exact execLui_pending (ht' := h)
  | rds => exact execRds_pending (ht' := h)
  | shli => exact execShli_pending (ht' := h)
  | shri => exact execShri_pending (ht' := h)
  | sari => exact execSari_pending (ht' := h)
  | ld => exact execLd_pending (ht' := h)
  | st => exact execSt_pending (ht' := h)
  | ldw => exact execLdw_pending (ht' := h)
  | stw => exact execStw_pending (ht' := h)
  | amoadd => exact execAmoadd_pending (ht' := h)
  | amoswap => exact execAmoswap_pending (ht' := h)
  | cas => exact execCas_pending (ht' := h)
  | fence => exact execFence_pending (ht' := h)
  | beqz => exact execBeqz_pending (ht' := h)
  | bnez => exact execBnez_pending (ht' := h)
  | bltz => exact execBltz_pending (ht' := h)
  | bgez => exact execBgez_pending (ht' := h)
  | bgtz => exact execBgtz_pending (ht' := h)
  | blez => exact execBlez_pending (ht' := h)
  | jal => exact execJal_pending (ht' := h)
  | issue => exact execIssue_pending (ht' := h)
  | move => exact execMove_pending (ht' := h)
  | spool => exact execSpool_pending (ht' := h)
  | sig => exact execSig_pending (ht' := h)
  | waitTick => exact execWaitTick_pending (ht' := h)
  | waitTag => exact execWaitTag_pending (ht' := h)
  | waitTimer => exact execWaitTimer_pending (ht' := h)
  | waitEdge => exact execWaitEdge_pending (ht' := h)
  | waitDoorbell => exact execWaitDoorbell_pending (ht' := h)
  | tsetCancel => exact execTsetCancel_pending (ht' := h)
  | tsetOneshot => exact execTsetOneshot_pending (ht' := h)
  | tsetPeriodic => exact execTsetPeriodic_pending (ht' := h)
  | tsetTickOneshot => exact execTsetTickOneshot_pending (ht' := h)
  | tsetTickPeriodic => exact execTsetTickPeriodic_pending (ht' := h)
  | tgetNs => exact execTgetNs_pending (ht' := h)
  | tgetPending => exact execTgetPending_pending (ht' := h)
  | tgetLost => exact execTgetLost_pending (ht' := h)
  | earmArm => exact execEarmArm_pending (ht' := h)
  | earmDisarm => exact execEarmDisarm_pending (ht' := h)
  | halt => exact execHalt_pending (ht' := h)
  | timerExpiry => exact execTimerExpiry_pending (ht' := h)
  | edgeCapture => exact execEdgeCapture_pending (ht' := h)
  | programDoorbell => exact execProgramDoorbell_pending (ht' := h)
  | jobStart => exact execJobStart_pending (ht' := h)
  | encRow => exact execEncRow_pending (ht' := h)
  | decRow => exact execDecRow_pending (ht' := h)
  | echoJob => exact execEchoJob_pending (ht' := h)
  | loadctx => exact execLoadctx_pending (ht' := h)
  | savectx => exact execSavectx_pending (ht' := h)
  | selftest => exact execSelftest_pending (ht' := h)
  | custom => exact execCustom_pending (ht' := h)
  | uAdd => exact execUAdd_pending (ht' := h)
  | uSub => exact execUSub_pending (ht' := h)
  | uAnd => exact execUAnd_pending (ht' := h)
  | uOr => exact execUOr_pending (ht' := h)
  | uXor => exact execUXor_pending (ht' := h)
  | uShl => exact execUShl_pending (ht' := h)
  | uShr => exact execUShr_pending (ht' := h)
  | uSar => exact execUSar_pending (ht' := h)
  | uMul => exact execUMul_pending (ht' := h)
  | uMin => exact execUMin_pending (ht' := h)
  | uMax => exact execUMax_pending (ht' := h)
  | uLi => exact execULi_pending (ht' := h)
  | uLui => exact execULui_pending (ht' := h)
  | uAddi => exact execUAddi_pending (ht' := h)
  | uCmp => exact execUCmp_pending (ht' := h)
  | uLd => exact execULd_pending (ht' := h)
  | uSt => exact execUSt_pending (ht' := h)
  | uLdh => exact execULdh_pending (ht' := h)
  | uSth => exact execUSth_pending (ht' := h)
  | uBranch => exact execUBranch_pending (ht' := h)
  | uWaitCond => exact execUWaitCond_pending (ht' := h)
  | uDispatch => exact execUDispatch_pending (ht' := h)
  | uCall => exact execUCall_pending (ht' := h)
  | uReturn => exact execUReturn_pending (ht' := h)
  | uCommit => exact execUCommit_pending (ht' := h)
  | rowCommit => exact execRowCommit_pending (ht' := h)
  | echoCheckDone => exact execEchoCheckDone_pending (ht' := h)
  | noCommitTimeout => exact execNoCommitTimeout_pending (ht' := h)
  | strandSramUe => exact execStrandSramUe_pending (ht' := h)
  | controlStoreUe => exact execControlStoreUe_pending (ht' := h)
  | customTimeout => exact execCustomTimeout_pending (ht' := h)
  | splice => exact execSplice_pending (ht' := h)
  | spareRestore => exact execSpareRestore_pending (ht' := h)
  | selftestDone => exact execSelftestDone_pending (ht' := h)
  | spareSelftestTimer => exact execSpareSelftestTimer_pending (ht' := h)
  | strReset => exact execStrReset_pending (ht' := h)
  | strQuarSet => exact execStrQuarSet_pending (ht' := h)
  | strReadmit => exact execStrReadmit_pending (ht' := h)
  | strTestReq => exact execStrTestReq_pending (ht' := h)
  | strPoolWrite => exact execStrPoolWrite_pending (ht' := h)
  | osData2Write => exact execOsData2Write_pending (ht' := h)
  | install => exact execInstall_pending (ht' := h)
  | installImageLoaded => exact execInstallImageLoaded_pending (ht' := h)
  | swap => exact execSwap_pending (ht' := h)
  | restart => exact execRestart_pending (ht' := h)
  | nop => exact execNop_pending (ht' := h)
  | seqMigReq => exact execSeqMigReq_pending (ht' := h)
  | seqOnlineRequest => exact execSeqOnlineRequest_pending (ht' := h)
  | seqTestReq => exact execSeqTestReq_pending (ht' := h)
  | seqTestDone => exact execSeqTestDone_pending (ht' := h)
  | sqDoorbell => exact execSqDoorbell_pending (ht' := h)
  | ringService => exact execRingService_pending (ht' := h)
  | sqEnable => exact execSqEnable_pending (ht' := h)
  | sqDisable => exact execSqDisable_pending (ht' := h)
  | cqEnable => exact execCqEnable_pending (ht' := h)
  | cqDisable => exact execCqDisable_pending (ht' := h)
  | cqHeadWrite => exact execCqHeadWrite_pending (ht' := h)
  | hubRaise => exact execHubRaise_pending (ht' := h)
  | hubPendSet => exact execHubPendSet_pending (ht' := h)
  | hubPendClr => exact execHubPendClr_pending (ht' := h)
  | hubMaskSet => exact execHubMaskSet_pending (ht' := h)
  | hubMaskClr => exact execHubMaskClr_pending (ht' := h)
  | hubAssign => exact execHubAssign_pending (ht' := h)
  | hubClaim => exact execHubClaim_pending (ht' := h)
  | hubEoi => exact execHubEoi_pending (ht' := h)
  | hubRouteWrite => exact execHubRouteWrite_pending (ht' := h)
  | hubTgtCtlWrite => exact execHubTgtCtlWrite_pending (ht' := h)
  | seqTargetClaim => exact execSeqTargetClaim_pending (ht' := h)
  | belayClaim => exact execBelayClaim_pending (ht' := h)
  | msixVectorUnmask => exact execMsixVectorUnmask_pending (ht' := h)
  | pwHubRaise => exact execPwHubRaise_pending (ht' := h)
  | pwHubPendClr => exact execPwHubPendClr_pending (ht' := h)
  | pwHubMaskSet => exact execPwHubMaskSet_pending (ht' := h)
  | pwHubMaskClr => exact execPwHubMaskClr_pending (ht' := h)
  | pwHubClaim => exact execPwHubClaim_pending (ht' := h)
  | pwHubEoi => exact execPwHubEoi_pending (ht' := h)
  | walkReadDone => exact execWalkReadDone_pending (ht' := h)
  | iomInvCmd => exact execIomInvCmd_pending (ht' := h)
  | invalidationDone => exact execInvalidationDone_pending (ht' := h)
  | iomRootWrite => exact execIomRootWrite_pending (ht' := h)
  | pwFqPop => exact execPwFqPop_pending (ht' := h)
  | prtFsSizeWrite => exact execPrtFsSizeWrite_pending (ht' := h)
  | prtSsmWrite => exact execPrtSsmWrite_pending (ht' := h)
  | prtShareWrite => exact execPrtShareWrite_pending (ht' := h)
  | prtPreset => exact execPrtPreset_pending (ht' := h)
  | functionLevelReset => exact execFunctionLevelReset_pending (ht' := h)
  | vfEnableClear => exact execVfEnableClear_pending (ht' := h)
  | mvStart => exact execMvStart_pending (ht' := h)
  | mvStop => exact execMvStop_pending (ht' := h)
  | poolAlloc => exact execPoolAlloc_pending (ht' := h)
  | poolRelease => exact execPoolRelease_pending (ht' := h)
  | mvMove => exact execMvMove_pending (ht' := h)
  | mvLoop => exact execMvLoop_pending (ht' := h)
  | mvWaitTick => exact execMvWaitTick_pending (ht' := h)
  | mvWaitSsm => exact execMvWaitSsm_pending (ht' := h)
  | mvWaitTimeout => exact execMvWaitTimeout_pending (ht' := h)
  | mvSignal => exact execMvSignal_pending (ht' := h)
  | moverBusError => exact execMoverBusError_pending (ht' := h)
  | movRestart => exact execMovRestart_pending (ht' := h)
  | movRestartDone => exact execMovRestartDone_pending (ht' := h)
  | poolInit => exact execPoolInit_pending (ht' := h)
  | poolInitDone => exact execPoolInitDone_pending (ht' := h)
  | poolAllocate => exact execPoolAllocate_pending (ht' := h)
  | poolIncrement => exact execPoolIncrement_pending (ht' := h)
  | poolDecrement => exact execPoolDecrement_pending (ht' := h)
  | dramRequestDone => exact execDramRequestDone_pending (ht' := h)
  | urgencyEscalate => exact execUrgencyEscalate_pending (ht' := h)
  | refreshDue => exact execRefreshDue_pending (ht' := h)
  | dqsTracking => exact execDqsTracking_pending (ht' := h)
  | mr4Read => exact execMr4Read_pending (ht' := h)
  | drcFreqSet => exact execDrcFreqSet_pending (ht' := h)
  | drcFreqForce => exact execDrcFreqForce_pending (ht' := h)
  | drcFreqCancel => exact execDrcFreqCancel_pending (ht' := h)
  | freqChangeDone => exact execFreqChangeDone_pending (ht' := h)
  | drcTrain => exact execDrcTrain_pending (ht' := h)
  | trainingDone => exact execTrainingDone_pending (ht' := h)
  | drcPortTgtWrite => exact execDrcPortTgtWrite_pending (ht' := h)
  | drcTsetWrite => exact execDrcTsetWrite_pending (ht' := h)
  | magOpen => exact execMagOpen_pending (ht' := h)
  | magClose => exact execMagClose_pending (ht' := h)
  | magFormat => exact execMagFormat_pending (ht' := h)
  | hostioRead => exact execHostioRead_pending (ht' := h)
  | hostioWrite => exact execHostioWrite_pending (ht' := h)
  | writeFrame => exact execWriteFrame_pending (ht' := h)
  | discard => exact execDiscard_pending (ht' := h)
  | readFrame => exact execReadFrame_pending (ht' := h)
  | readBlocks => exact execReadBlocks_pending (ht' := h)
  | trim => exact execTrim_pending (ht' := h)
  | schedulerSlot => exact execSchedulerSlot_pending (ht' := h)
  | nvmeCompletion => exact execNvmeCompletion_pending (ht' := h)
  | nvmeCommandTimeout => exact execNvmeCommandTimeout_pending (ht' := h)
  | abortTimeout => exact execAbortTimeout_pending (ht' := h)
  | smartPoll => exact execSmartPoll_pending (ht' := h)
  | magLinkDown => exact execMagLinkDown_pending (ht' := h)
  | linkRetrain => exact execLinkRetrain_pending (ht' := h)
  | magLinkUp => exact execMagLinkUp_pending (ht' := h)
  | holdWindowExpiry => exact execHoldWindowExpiry_pending (ht' := h)
  | magDropRequest => exact execMagDropRequest_pending (ht' := h)
  | magQShapeWrite => exact execMagQShapeWrite_pending (ht' := h)
  | magQBurstWrite => exact execMagQBurstWrite_pending (ht' := h)
  | presenceAssert => exact execPresenceAssert_pending (ht' := h)
  | presenceRemove => exact execPresenceRemove_pending (ht' := h)
  | sbdCtlWrite => exact execSbdCtlWrite_pending (ht' := h)
  | sbdI2cDone => exact execSbdI2cDone_pending (ht' := h)
  | sbdI2cRetry => exact execSbdI2cRetry_pending (ht' := h)
  | gaugeEvaluate => exact execGaugeEvaluate_pending (ht' := h)
  | gaugeRestComplete => exact execGaugeRestComplete_pending (ht' := h)
  | labelGo => exact execLabelGo_pending (ht' := h)
  | labelBusyPoll => exact execLabelBusyPoll_pending (ht' := h)
  | fltStatClear => exact execFltStatClear_pending (ht' := h)
  | fltForce => exact execFltForce_pending (ht' := h)
  | injArmFirst => exact execInjArmFirst_pending (ht' := h)
  | injArmSecond => exact execInjArmSecond_pending (ht' := h)
  | injDisarm => exact execInjDisarm_pending (ht' := h)
  | injArmTimeout => exact execInjArmTimeout_pending (ht' := h)
  | injUnit => exact execInjUnit_pending (ht' := h)
  | injReorderTimeout => exact execInjReorderTimeout_pending (ht' := h)
  | belayHeartbeat => exact execBelayHeartbeat_pending (ht' := h)
  | belaySilent => exact execBelaySilent_pending (ht' := h)
  | belayResetDone => exact execBelayResetDone_pending (ht' := h)
  | belayResetTimeout => exact execBelayResetTimeout_pending (ht' := h)
  | belaySwitch => exact execBelaySwitch_pending (ht' := h)
  | belayTest => exact execBelayTest_pending (ht' := h)
  | belayTestDone => exact execBelayTestDone_pending (ht' := h)
  | belayResetRequest => exact execBelayResetRequest_pending (ht' := h)
  | anchorAct => exact execAnchorAct_pending (ht' := h)
  | anchorAbortTimeout => exact execAnchorAbortTimeout_pending (ht' := h)
  | lanyardToggle => exact execLanyardToggle_pending (ht' := h)
  | pinGlCfgWrite => exact execPinGlCfgWrite_pending (ht' := h)
  | pinGlStageWrite => exact execPinGlStageWrite_pending (ht' := h)
  | switchSettleEnd => exact execSwitchSettleEnd_pending (ht' := h)
  | pinGlOwnerWrite => exact execPinGlOwnerWrite_pending (ht' := h)
  | pinLtcCtlWrite => exact execPinLtcCtlWrite_pending (ht' := h)
  | syncOutPulseEnd => exact execSyncOutPulseEnd_pending (ht' := h)
  | tickOutFall => exact execTickOutFall_pending (ht' := h)
  | ltcRxFrame => exact execLtcRxFrame_pending (ht' := h)
  | ltcTxFrameTimer => exact execLtcTxFrameTimer_pending (ht' := h)
  | uartRxByte => exact execUartRxByte_pending (ht' := h)
  | uartTxByte => exact execUartTxByte_pending (ht' := h)
  | pinUartDataWrite => exact execPinUartDataWrite_pending (ht' := h)
  | pinUartDataRead => exact execPinUartDataRead_pending (ht' := h)
  | pinI2cCmd => exact execPinI2cCmd_pending (ht' := h)
  | auxI2cDone => exact execAuxI2cDone_pending (ht' := h)
  | hostLinkUp => exact execHostLinkUp_pending (ht' := h)
  | junctionBelow100c => exact execJunctionBelow100c_pending (ht' := h)
  | railInRange => exact execRailInRange_pending (ht' := h)
  | clockRestored => exact execClockRestored_pending (ht' := h)
  | vfEnableSet => exact execVfEnableSet_pending (ht' := h)
  | cstsCfsSet => exact execCstsCfsSet_pending (ht' := h)
  | cstsRdySet => exact execCstsRdySet_pending (ht' := h)
  | cstsRdyTimeout => exact execCstsRdyTimeout_pending (ht' := h)
  | gaugeSample => exact execGaugeSample_pending (ht' := h)
  | hostReadCompletion => exact execHostReadCompletion_pending (ht' := h)

/-! ## Steps -/

theorem step_nil {s : State} (h : s.pending = []) : step s = .next s := by rw [step, h]

theorem step_cons {s : State} {c : Instr} {rest : List Instr} (h : s.pending = c :: rest) :
    step s = exec c { s with pending := rest } := by rw [step, h]

theorem reset_canon : State.reset.Canonical := ⟨List.Pairwise.nil, rfl, rfl⟩

end Sys2Proof.Machine

open Sys2Proof Sys2Proof.Machine

/-- Settles O6: each command is made of operations that keep the canonical form, and taking it from the queue touches neither registers
nor memories. -/
theorem stepKeepsTheCanonicalForm : Obligations.StepKeepsTheCanonicalForm := by
  unfold Obligations.StepKeepsTheCanonicalForm
  intro s t hs h
  cases hq : s.pending with
  | nil =>
    rw [step_nil hq] at h
    cases h
    exact hs
  | cons c rest =>
    rw [step_cons hq] at h
    exact exec_canon (s := { s with pending := rest }) hs h

/-- Settles O2: the command is taken from the front, and its meaning leaves the queue alone. -/
theorem stepTakesOneCommandFromTheQueue : Obligations.StepTakesOneCommandFromTheQueue := by
  unfold Obligations.StepTakesOneCommandFromTheQueue
  intro c rest s t hq h
  rw [step_cons hq] at h
  exact exec_pending h

/-- Settles O3: no arm of the dispatch ends in a refusal, and an outcome that is a next state is no refusal. -/
theorem noCommandIsRefused : Obligations.NoCommandIsRefused := by
  unfold Obligations.NoCommandIsRefused
  refine ⟨exec_answers, fun c s r h => ?_⟩
  obtain ⟨t, ht⟩ := exec_answers c s
  rw [ht] at h
  cases h

/-- Settles O1: a step with a command at the front is that command's meaning. -/
theorem stepCarriesOutTheFrontCommand : Obligations.StepCarriesOutTheFrontCommand := by
  unfold Obligations.StepCarriesOutTheFrontCommand
  intro c s
  exact step_cons (s := { s with pending := c :: s.pending }) rfl

/-- Settles O5: at reset no cell is stored and no byte listed. -/
theorem resetIsCanonical : Obligations.ResetIsCanonical := by
  unfold Obligations.ResetIsCanonical
  exact reset_canon

end

section
/-! Byte memories of which the capacity limits the addresses (R413), and a block at rest. Settles O10 and O11. -/

namespace Sys2Proof.Machine

/-! ## Limited addresses (R413) -/

theorem fsCapacity_pos (s : State) : 0 < fsCapacity s := by unfold fsCapacity; positivity

/-- Addresses that are the same modulo the capacity read the same bytes. -/
theorem memReadWrap_congr (m : Memory) {cap a b : Nat} (h : b ≡ a [MOD cap]) (n : Nat) :
    memReadWrap m cap b n = memReadWrap m cap a n := by
  induction n generalizing a b with
  | zero => rfl
  | succ n ih => rw [memReadWrap, memReadWrap, show b % cap = a % cap from h, ih (h.add_right 1)]

/-- Byte i behind a write is reached from no address that lies i or more behind it. -/
theorem mod_ne_of_le_distance {cap a q n i : Nat} (hcap : 0 < cap) (hn : n ≤ cap) (hi : i < n)
    (h : n ≤ (q + cap - a % cap) % cap) : q % cap ≠ (a + i) % cap := by
  intro hq
  have hlt : a % cap < cap := Nat.mod_lt a hcap
  have hsum : q + cap - a % cap + a % cap ≡ i + a % cap [MOD cap] := by
    calc q + cap - a % cap + a % cap
      _ = q + cap := by omega
      _ ≡ q [MOD cap] := Nat.add_mod_right q cap
      _ ≡ a + i [MOD cap] := hq
      _ = i + a := Nat.add_comm a i
      _ ≡ i + a % cap [MOD cap] := (Nat.mod_modEq a cap).symm.add_left i
  have hdist : (q + cap - a % cap) % cap = i % cap := hsum.add_right_cancel' (a % cap)
  rw [hdist, Nat.mod_eq_of_lt (by omega)] at h
  omega

theorem fsRead_one (s : State) (q : Nat) : fsRead s q 1 = [memByte s.fs (q % fsCapacity s)] := rfl

theorem fsCapacity_fsWrite (s : State) (a : Nat) (bs : List Byte) : fsCapacity (fsWrite s a bs) = fsCapacity s := rfl

section
variable {s : State} {a : Nat} {bs : List Byte} (hfit : bs.length ≤ fsCapacity s)
include hfit

theorem fsRead_fsWrite (hs : s.Canonical) : fsRead (fsWrite s a bs) a bs.length = bs := memReadWrap_writeWrap _ a bs hs.2.1 hfit

theorem fsRead_fsWrite_outside {q : Nat} (h : bs.length ≤ (q + fsCapacity s - a % fsCapacity s) % fsCapacity s) :
    fsRead (fsWrite s a bs) q 1 = fsRead s q 1 := by
  rw [fsRead_one, fsRead_one, fsCapacity_fsWrite]
  exact congrArg (fun b => [b])
    (memByte_writeWrap_outside _ _ _ _ fun i hi => mod_ne_of_le_distance (fsCapacity_pos s) hfit hi h)

end

theorem ssmRead_ssmWrite_outside (s : State) {a q : Nat} {bs : List Byte} (h : q < a ∨ a + bs.length ≤ q) :
    ssmRead (ssmWrite s a bs) q 1 = ssmRead s q 1 :=
  congrArg (fun b => [b]) (memByte_writeAll_outside s.ssm a bs h)

/-! ## Rest -/

theorem settleOnce_rest {s : State} (h : AtRest s) : settleOnce s = s := by
  obtain ⟨hhost, hchan, hmag, hanchor, hwhip, hdrain, hreset, hdorm⟩ := h
  unfold settleOnce
  dsimp only
  rw [hostRun_rest hhost, chAllProgress_rest hchan, magRun_rest _ hmag, anchorRun_rest hanchor, clipsProgress_rest hwhip,
    modeProgress_rest hdrain, hostRun_rest hhost, resetsProgress_rest hreset, dormProgress_rest hdorm]

theorem settle_rest {s : State} (h : AtRest s) : settle s = s := by
  rw [settle, settleOnce_rest h, settleOnce_rest h, settleOnce_rest h]

end Sys2Proof.Machine

open Sys2Proof Sys2Proof.Machine

/-- Settles O10: a write puts its bytes in their order, and no two addresses less than the capacity apart name one byte. That an address
beyond the capacity reaches the address modulo it is the model's reading of R413 (log entry 83). -/
theorem memoryReadsBackWhatWasStored : Obligations.MemoryReadsBackWhatWasStored := by
  unfold Obligations.MemoryReadsBackWhatWasStored
  refine fun s a bs hs => ⟨memRead_writeAll a bs hs.2.2, fun q => ssmRead_ssmWrite_outside s,
    fun hfit => ⟨?back, fun b hb => ?same, fun q => ?outside⟩,
    fsWrite_canon s a bs hs, ssmWrite_canon s a bs hs⟩
  case back => exact fsRead_fsWrite hfit hs
  case same => exact (memReadWrap_congr _ hb _).trans (fsRead_fsWrite hfit hs)
  case outside => exact fsRead_fsWrite_outside hfit

/-- Settles O11: with nothing in hand that can go on, no part of a settling round changes anything. That an empty queue idles is the
model's choice (log entry 7). -/
theorem restingBlockStaysAsItIs : Obligations.RestingBlockStaysAsItIs := by
  unfold Obligations.RestingBlockStaysAsItIs
  exact ⟨fun s => step_nil, fun s h => ⟨settle_rest h, (finSettle_next s).trans (congrArg Host.Outcome.next (settle_rest h))⟩⟩

end

section
/-! Causes from outside: temperature, rails, crystal and host link (R423, R487, R510, R543, R557). Settles O19. -/

namespace Sys2Proof.Machine

/-! ## Junction temperature (R423, R557) -/

theorem hotAt_lt_critAt : hotAt < critAt := by decide

section
variable {s : State} {d : BitVec 11}

/-- A report that crosses neither level from below only stores the temperature. -/
theorem setTemp_quiet (hhot : getInt s R.CLK_TEMP_DEGC < hotAt → d.toInt < hotAt)
    (hcrit : getInt s R.CLK_TEMP_DEGC < critAt → d.toInt < critAt) : setTemp s d = put s R.CLK_TEMP_DEGC d.toNat :=
  (if_neg fun h => not_le_of_gt (hcrit h.1) h.2).trans (if_neg fun h => not_le_of_gt (hhot h.1) h.2)

theorem setTemp_becomesHot (hwas : getInt s R.CLK_TEMP_DEGC < hotAt) (hnow : hotAt ≤ d.toInt) (hcrit : d.toInt < critAt) :
    setTemp s d = freqHot (fault (put s R.CLK_TEMP_DEGC d.toNat) fltThermHot) :=
  (if_neg fun h => not_le_of_gt hcrit h.2).trans (if_pos ⟨hwas, hnow⟩)

theorem setTemp_becomesCritical (hhot : hotAt ≤ getInt s R.CLK_TEMP_DEGC) (hwas : getInt s R.CLK_TEMP_DEGC < critAt)
    (hnow : critAt ≤ d.toInt) : setTemp s d = fault (put s R.CLK_TEMP_DEGC d.toNat) fltThermCrit :=
  (if_pos ⟨hwas, hnow⟩).trans (congrArg (fault · fltThermCrit) (if_neg fun h => not_le_of_gt h.1 hhot))

theorem exec_thermalHot {u : State} (hnow : hotAt ≤ d.toInt) (h : setTemp s d = u) : exec (.thermalHot d) s = .next u :=
  congrArg Host.Outcome.next ((if_pos hnow).trans h)

theorem exec_thermalCrit {u : State} (hnow : critAt ≤ d.toInt) (h : setTemp s d = u) : exec (.thermalCrit d) s = .next u :=
  congrArg Host.Outcome.next ((if_pos hnow).trans h)

theorem exec_junctionBelow100c {u : State} (hnow : d.toInt < critAt) (h : setTemp s d = u) : exec (.junctionBelow100c d) s = .next u :=
  congrArg Host.Outcome.next ((if_pos hnow).trans h)

end

end Sys2Proof.Machine

open Sys2Proof Sys2Proof.Machine

/-- Settles O19: what crosses a level from below, or was not recorded before, is a cause; everything else only stores what was reported.
That no rail is monitored in DORMANT (log entry 75) and the frequency request of the hot event (log entry 54) are the model's. -/
theorem outsideCausesAreHeldByTheCollector : Obligations.OutsideCausesAreHeldByTheCollector := by
  unfold Obligations.OutsideCausesAreHeldByTheCollector
  refine ⟨fun s d hnow hwas hcrit => ?stillHot, fun s d hnow hwas hcrit => exec_thermalHot hnow (setTemp_becomesHot hwas hnow hcrit),
    fun s d hnow hhot hwas => exec_thermalCrit hnow (setTemp_becomesCritical hhot hwas hnow), fun s d hcool => ?cool,
    fun s hdorm => ?dormant, fun s hgood hmode => ?rail, fun s => rfl, fun s hgood => ?crystal, fun s => rfl, fun s hup => ?down,
    fun s hmode => if_neg hmode⟩
  case stillHot => exact exec_thermalHot hnow (setTemp_quiet (fun h => absurd hwas (not_le_of_gt h)) fun _ => hcrit)
  case cool =>
    have hbelow := hcool.trans hotAt_lt_critAt
    exact exec_junctionBelow100c hbelow (setTemp_quiet (fun _ => hcool) fun _ => hbelow)
  case dormant => exact congrArg Host.Outcome.next (if_pos (.inr hdorm))
  case rail => exact congrArg Host.Outcome.next (if_neg (not_or_intro (Bool.eq_false_iff.1 hgood) hmode))
  case crystal => exact congrArg Host.Outcome.next (if_neg (Bool.eq_false_iff.1 hgood))
  case down => exact congrArg Host.Outcome.next (if_pos hup)

end

section
/-! The latency targets of the DRAM controller's ports (R418). Settles O51. -/

namespace Sys2Proof.Machine

theorem latShorter_iff (s : State) (port ns : Nat) : latShorter s port ns = true ↔ ∃ x ∈ reservedImages s, ∃ k < 8,
    hdrLatPort x.2 k = port ∧ ¬ (hdrLatPort x.2 k = 0 ∧ hdrLatNs x.2 k = 0) ∧ hdrLatNs x.2 k < ns := by
  simp only [latShorter, List.any_eq_true, List.mem_range, Bool.and_eq_true, Bool.not_eq_true', beq_iff_eq, decide_eq_true_eq,
    and_assoc, not_and_or, ← Bool.not_eq_true]

section
variable {s : State} {port : Fin 24} {v : Word32} (hrun : unitsRun s = true)
include hrun

theorem exec_drcPortTgtWrite_refused (h : bits v.toNat 0 16 < 250 ∨
      get s (R.DRC_PORT_TGT_NS port) < bits v.toNat 0 16 ∧ latShorter s port (bits v.toNat 0 16) = true) :
    exec (.drcPortTgtWrite port v) s = .next (put s R.DRC_STAT_CFGERR 1) :=
  (answered_run _ hrun).trans (congrArg Host.Outcome.next (if_pos h))

theorem exec_drcPortTgtWrite_taken (hlow : 250 ≤ bits v.toNat 0 16)
    (h : get s (R.DRC_PORT_TGT_NS port) < bits v.toNat 0 16 → ¬ latShorter s port (bits v.toNat 0 16) = true) :
    exec (.drcPortTgtWrite port v) s = .next (put s (R.DRC_PORT_TGT_NS port) (bits v.toNat 0 16)) :=
  (answered_run _ hrun).trans (congrArg Host.Outcome.next (if_neg (not_or_intro (Nat.not_lt.2 hlow) (not_and.2 h))))

end

end Sys2Proof.Machine

open Sys2Proof Sys2Proof.Machine

/-- Settles O51: a requirement that an admitted program declares bounds a target that is raised, 250 ns bounds every one. -/
theorem latencyTargetsStayWithinDeclaredRequirements : Obligations.LatencyTargetsStayWithinDeclaredRequirements := by
  unfold Obligations.LatencyTargetsStayWithinDeclaredRequirements
  intro s port v hrun
  have hdeclared := latShorter_iff s port (bits v.toNat 0 16)
  exact ⟨fun hlow => exec_drcPortTgtWrite_refused hrun (.inl hlow),
    fun hraised hdecl => exec_drcPortTgtWrite_refused hrun (.inr ⟨hraised, hdeclared.2 hdecl⟩),
    fun hlow hfree => exec_drcPortTgtWrite_taken hrun hlow fun _ h => hfree (hdeclared.1 h),
    fun hlow hle => exec_drcPortTgtWrite_taken hrun hlow fun h => absurd hle (Nat.not_le.2 h)⟩

end

section
/-! The UARTs and the auxiliary I2C buses (R550, R556). Settles O60. -/

namespace Sys2Proof.Machine

/-- A field is set when it is not 0. -/
theorem isSet_iff (s : State) (f : Fld) : isSet s f = true ↔ get s f ≠ 0 := bne_iff_ne

/-- What a command of running units answers. -/
theorem answered_next {s u v : State} (hrun : unitsRun s = true) (h : u = v) : answered s (.next u) = .next v :=
  (answered_run _ hrun).trans (congrArg Host.Outcome.next h)

theorem carries_iff (s : State) (n f : Nat) : carries s n f = true ↔ get s (R.PIN_GL_CFG_FUNC n) = f ∧ (lineOf s n).settle = none := by
  simp only [carries, Bool.and_eq_true, beq_iff_eq, Option.isNone_iff_eq_none]

/-! ## UARTs -/

/-- The UART is enabled and its odd line carries it. -/
def uartHears (s : State) (u : Fin 4) : Prop :=
  get s (R.PIN_UART_CTL_EN u) ≠ 0 ∧ get s (R.PIN_GL_CFG_FUNC (8 + 2 * u.val + 1)) = 3 ∧ (lineOf s (8 + 2 * u.val + 1)).settle = none

theorem uartHears_iff (s : State) (u : Fin 4) :
    (isSet s (R.PIN_UART_CTL_EN u) && carries s (8 + 2 * u.val + 1) 3) = true ↔ uartHears s u := by
  rw [Bool.and_eq_true, isSet_iff, carries_iff, uartHears]

section
variable {s : State} {u : Fin 4} {b : Byte}

theorem exec_uartRxByte_queued (hon : uartHears s u) (hroom : (uartOf s u).rx.length < 64) :
    exec (.uartRxByte u b) s = .next (setUart s u { uartOf s u with rx := (uartOf s u).rx ++ [b] }) :=
  congrArg Host.Outcome.next ((if_pos ((uartHears_iff s u).2 hon)).trans (if_pos hroom))

theorem exec_uartRxByte_lost (hon : uartHears s u) (hfull : 64 ≤ (uartOf s u).rx.length) :
    exec (.uartRxByte u b) s = .next (bump s (R.PIN_UART_STAT_OVF u)) :=
  congrArg Host.Outcome.next ((if_pos ((uartHears_iff s u).2 hon)).trans (if_neg (Nat.not_lt.2 hfull)))

theorem exec_uartRxByte_unheard (hoff : ¬ uartHears s u) : exec (.uartRxByte u b) s = .next s :=
  congrArg Host.Outcome.next (if_neg (mt (uartHears_iff s u).1 hoff))

theorem exec_uartTxByte_on (hon : get s (R.PIN_UART_CTL_EN u) ≠ 0) :
    exec (.uartTxByte u) s = .next (setUart s u { uartOf s u with tx := (uartOf s u).tx.tail }) := by
  rw [← List.drop_one]
  exact congrArg Host.Outcome.next (if_pos ((isSet_iff s _).2 hon))

theorem exec_uartTxByte_off (hoff : get s (R.PIN_UART_CTL_EN u) = 0) : exec (.uartTxByte u) s = .next s :=
  congrArg Host.Outcome.next (if_neg (mt (isSet_iff s _).1 (not_not_intro hoff)))

section
variable (hrun : unitsRun s = true)
include hrun

theorem exec_pinUartDataWrite_queued {v : Word32} (hroom : (uartOf s u).tx.length < 64) :
    exec (.pinUartDataWrite u v) s = .next (setUart s u { uartOf s u with tx := (uartOf s u).tx ++ [v.truncate 8] }) :=
  answered_next hrun (if_pos hroom)

theorem exec_pinUartDataWrite_lost {v : Word32} (hfull : 64 ≤ (uartOf s u).tx.length) : exec (.pinUartDataWrite u v) s = .next s :=
  answered_next hrun (if_neg (Nat.not_lt.2 hfull))

theorem exec_pinUartDataRead_empty (h : (uartOf s u).rx = []) :
    exec (.pinUartDataRead u) s = .next { useFree s with rdata := freeVal s % 256 } := by
  refine answered_next hrun ?_
  simp only [h]

theorem exec_pinUartDataRead_oldest {r : List Byte} (h : (uartOf s u).rx = b :: r) :
    exec (.pinUartDataRead u) s = .next { setUart s u { uartOf s u with rx := r } with rdata := b.toNat + 256 } := by
  refine answered_next hrun ?_
  simp only [h]

end

end

/-! ## I2C buses -/

section
variable {s : State} {b : Fin 4}

/-- The bus is idle, the length is one of 1 to 16, and the speed code is not the reserved one. -/
def i2cTakes (s : State) (b : Fin 4) (w : Nat) : Prop :=
  (auxOf s b).xfer = none ∧ 1 ≤ bits w 8 5 ∧ bits w 8 5 ≤ 16 ∧ bits w 16 2 ≠ 3

theorem i2cTakes_iff (w : Nat) : i2cTakes s b w ↔
    ¬ ((auxOf s b).xfer.isSome || bits w 8 5 == 0 || 16 < bits w 8 5 || bits w 16 2 == 3) = true := by
  simp only [i2cTakes, Bool.or_eq_true, not_or, Option.not_isSome_iff_eq_none, beq_iff_eq, decide_eq_true_eq, Nat.not_lt, and_assoc,
    ← Nat.one_le_iff_ne_zero, ne_eq]

section
variable {v : Word32} (hrun : unitsRun s = true)
include hrun

theorem exec_pinI2cCmd_begins (h : i2cTakes s b v.toNat) : exec (.pinI2cCmd b v) s =
    .next (put (setAux s b { auxOf s b with xfer := some (bits v.toNat 0 7, bitAt v.toNat 7, bits v.toNat 8 5, bits v.toNat 16 2) })
      (R.PIN_I2C_STAT_BUSY b) 1) :=
  answered_next hrun (if_neg ((i2cTakes_iff _).1 h))

theorem exec_pinI2cCmd_refused (h : ¬ i2cTakes s b v.toNat) : exec (.pinI2cCmd b v) s = .next (put s R.PIN_STAT_CFGERR 1) :=
  answered_next hrun (if_pos (not_not.1 (mt (i2cTakes_iff _).2 h)))

end

section
variable {data : List Byte}

theorem exec_auxI2cDone_idle (nak : Bool) (h : (auxOf s b).xfer = none) : exec (.auxI2cDone b nak data) s = .next s := by
  refine congrArg Host.Outcome.next ?_
  simp only [h]

section
variable {a len sp : Nat} {rd : Bool} (h : (auxOf s b).xfer = some (a, rd, len, sp))
include h

theorem exec_auxI2cDone_nak : exec (.auxI2cDone b true data) s =
    .next (put (setAux (put s (R.PIN_I2C_STAT_BUSY b) 0) b { fifo := (auxOf s b).fifo, xfer := none }) (R.PIN_I2C_STAT_NAK b) 1) := by
  refine congrArg Host.Outcome.next ?_
  simp only [h, if_true]
  rfl

theorem exec_auxI2cDone_done : exec (.auxI2cDone b false data) s =
    .next (put (setAux (put s (R.PIN_I2C_STAT_BUSY b) 0) b
      { fifo := if rd then ((auxOf s b).fifo ++ sliceBytes data 0 len).take 16 else (auxOf s b).fifo.drop len, xfer := none })
      (R.PIN_I2C_STAT_DONE b) 1) := by
  refine congrArg Host.Outcome.next ?_
  simp only [h, Bool.false_eq_true, if_false]
  rfl

end

end

end

end Sys2Proof.Machine

open Sys2Proof Sys2Proof.Machine

/-- Settles O60: whether the port is on and its FIFO has room decides what a byte does, the form of a command and the answer of the bus
what a transfer does. What an empty FIFO reads as, that an overflowing write is lost (log entry 61) and how a bad command and the outcome
bits act (log entry 62) are the model's. -/
theorem serialPortsMoveBytes : Obligations.SerialPortsMoveBytes := by
  unfold Obligations.SerialPortsMoveBytes
  exact ⟨fun s u b => ⟨exec_uartRxByte_queued, exec_uartRxByte_lost, exec_uartRxByte_unheard⟩,
    fun s u => ⟨exec_uartTxByte_on, exec_uartTxByte_off⟩,
    fun s u v hrun => ⟨exec_pinUartDataWrite_queued hrun, exec_pinUartDataWrite_lost hrun⟩,
    fun s u hrun => ⟨exec_pinUartDataRead_empty hrun, fun b r => exec_pinUartDataRead_oldest hrun⟩,
    fun s b v hrun => ⟨exec_pinI2cCmd_begins hrun, exec_pinI2cCmd_refused hrun⟩,
    fun s b data => ⟨fun h nak => exec_auxI2cDone_idle nak h, fun a len sp rd h => ⟨exec_auxI2cDone_nak h, exec_auxI2cDone_done h⟩⟩⟩

end

section
/-! The general lines: switches, settle windows, owners, pulses and linear timecode (R549 to R556). Settles O59. -/

namespace Sys2Proof.Machine

/-! ## Configuration words (R549, R553) -/

/-- Line n offers the word's function, and no code of the word is reserved. -/
def wordFits (n w : Nat) : Prop :=
  (bits w 0 3 = 1 → n ≤ 1) ∧ (bits w 0 3 = 3 → 8 ≤ n ∧ n ≤ 15) ∧ (bits w 0 3 = 6 → 40 ≤ n ∧ n ≤ 47) ∧
    (bits w 0 3 = 7 → 16 ≤ n ∧ n ≤ 23) ∧ bits w 4 2 ≠ 3 ∧ bits w 6 2 ≠ 3

theorem offers_iff (n f : Nat) : offers n f = true ↔
    (f = 1 → n ≤ 1) ∧ (f = 3 → 8 ≤ n ∧ n ≤ 15) ∧ (f = 6 → 40 ≤ n ∧ n ≤ 47) ∧ (f = 7 → 16 ≤ n ∧ n ≤ 23) := by
  unfold offers
  split <;> simp_all

theorem cfgOk_iff (n w : Nat) : cfgOk n w = true ↔ wordFits n w := by
  simp only [cfgOk, Bool.and_eq_true, offers_iff, bne_iff_ne, wordFits, and_assoc]

section
variable {s : State} {n : Line} {v : Word32} {t : Nat} (hrun : unitsRun s = true)
include hrun

theorem exec_pinGlCfgWrite_switches (h : wordFits n v.toNat) :
    exec (.pinGlCfgWrite n v t) s = .next (switchLine (stamp s t) n v.toNat t) :=
  answered_next hrun (if_pos ((cfgOk_iff _ _).2 h))

theorem exec_pinGlCfgWrite_refused (h : ¬ wordFits n v.toNat) :
    exec (.pinGlCfgWrite n v t) s = .next (put (stamp s t) R.PIN_STAT_CFGERR 1) :=
  answered_next hrun (if_neg (mt (cfgOk_iff _ _).1 h))

theorem exec_pinGlStageWrite_stages (h : wordFits n v.toNat) : exec (.pinGlStageWrite n v) s =
    .next (put (put (put (put (put s (R.PIN_GL_STAGE_FUNC n) (bits v.toNat 0 3)) (R.PIN_GL_STAGE_PULL n) (bits v.toNat 4 2))
      (R.PIN_GL_STAGE_DRIVE n) (bits v.toNat 6 2)) (R.PIN_GL_STAGE_SLEW n) (bits v.toNat 8 1)) (R.PIN_GL_STAGE_PEND n) 1) :=
  answered_next hrun (if_pos ((cfgOk_iff _ _).2 h))

theorem exec_pinGlStageWrite_refused (h : ¬ wordFits n v.toNat) :
    exec (.pinGlStageWrite n v) s = .next (put s R.PIN_STAT_CFGERR 1) :=
  answered_next hrun (if_neg (mt (cfgOk_iff _ _).1 h))

end

/-! ## Settle windows (R553) -/

section
variable {s : State} {n : Line} {t : Nat}

theorem exec_switchSettleEnd_none (h : (lineOf s n).settle = none) : exec (.switchSettleEnd n t) s = .next s := by
  refine congrArg Host.Outcome.next ?_
  simp only [h]

theorem exec_switchSettleEnd_some {e : Nat} (h : (lineOf s n).settle = some e) : exec (.switchSettleEnd n t) s =
    .next (if e ≤ t then relevel (modLine (stamp s t) n fun l => { l with settle := none }) n else s) := by
  refine congrArg Host.Outcome.next ?_
  simp only [h]

end

/-! ## Owners (R552) -/

theorem lineOwner_eq (s : State) (n : Nat) :
    lineOwner s n = if get s (R.PIN_GL_OWNER_VALID n) = 0 then none else some (get s (R.PIN_GL_OWNER_PART n)) := by
  unfold lineOwner
  rw [← ite_not]
  exact ite_congr (propext ((isSet_iff s _).not.trans not_not)) (fun _ => rfl) fun _ => rfl

theorem disarmLine_eq (s : State) (o n : Nat) : disarmLine s o n =
    forN 16 (fun e x =>
      if get x (R.TICK_EDGE_CFG_INPUT o e) = n ∧ get x (R.TICK_EDGE_CFG_EDGES o e) ≠ 0 then edgeDisarm x o e else x) s := by
  simp only [disarmLine, isSet_iff]

/-- The owner's word of line n is written. -/
def ownerWritten (s : State) (n v : Nat) : State := put (put s (R.PIN_GL_OWNER_PART n) (bits v 0 3)) (R.PIN_GL_OWNER_VALID n) (bits v 7 1)

section
variable {s : State} {n : Line} {v : Word32} (hrun : unitsRun s = true)
include hrun

theorem exec_pinGlOwnerWrite_keeps (h : lineOwner s n = none ∨ lineOwner (ownerWritten s n v.toNat) n = lineOwner s n) :
    exec (.pinGlOwnerWrite n v) s = .next (ownerWritten s n v.toNat) := by
  refine answered_next hrun ?_
  cases ho : lineOwner s n with
  | none => rfl
  | some o => exact if_pos ((h.resolve_left (by simp [ho])).trans ho)

theorem exec_pinGlOwnerWrite_changes {o : Nat} (ho : lineOwner s n = some o) (h : lineOwner (ownerWritten s n v.toNat) n ≠ some o) :
    exec (.pinGlOwnerWrite n v) s = .next (disarmLine (ownerWritten s n v.toNat) o n) := by
  refine answered_next hrun ?_
  simp only [ho]
  exact if_neg h

end

/-! ## Pulses and high halves (R550) -/

section
variable {s : State} {n : Line} {t : Nat}

theorem exec_syncOutPulseEnd : exec (.syncOutPulseEnd n t) s =
    .next (if (lineOf s n).pulse = true ∧ s.tick.last + pulseCycles s n ≤ t then modLine (stamp s t) n fun l => { l with pulse := false }
      else s) := by
  change execSyncOutPulseEnd n t s = _
  simp only [execSyncOutPulseEnd, Bool.and_eq_true, decide_eq_true_eq]

theorem exec_tickOutFall : exec (.tickOutFall n t) s =
    .next (if (lineOf s n).high = true ∧ 600000000 * s.tick.den ≤ (t - s.tick.last) * s.tick.num then
      modLine (stamp s t) n fun l => { l with high := false } else s) := by
  change execTickOutFall n t s = _
  simp only [execTickOutFall, Bool.and_eq_true, decide_eq_true_eq]

end

/-! ## Linear timecode (R550, R551) -/

section
variable {s : State} {v : Word32} (hrun : unitsRun s = true)
include hrun

theorem exec_pinLtcCtlWrite_refused (hauto : bitAt v.toNat 0 = true) (hbase : ltcBase s = none) :
    exec (.pinLtcCtlWrite v) s = .next (put s R.PIN_STAT_CFGERR 1) :=
  answered_next hrun (if_pos (by rw [hauto, hbase]; rfl))

theorem exec_pinLtcCtlWrite_taken (h : bitAt v.toNat 0 = false ∨ ltcBase s ≠ none) :
    exec (.pinLtcCtlWrite v) s = .next (put s R.PIN_LTC_CTL_AUTO (bits v.toNat 0 1)) := by
  refine answered_next hrun (if_neg ?_)
  rw [Bool.and_eq_true, Option.isNone_iff_eq_none]
  exact fun hbad => h.elim (fun hauto => Bool.eq_false_iff.1 hauto hbad.1) fun hbase => hbase hbad.2

end

section
variable {s : State} {data : Word64}

/-- The received frame is latched with its lock count k. -/
def ltcTaken (s : State) (data : Word64) (k : Nat) : State := modLtc s fun l => { l with last := data.toNat, good := k }

section
variable (hon : carries s 0 1 = true)
include hon

theorem exec_ltcRxFrame_valid : exec (.ltcRxFrame data true) s =
    .next (let u := ltcTaken s data (min 4 (s.pins.ltc.good + 1))
      if 4 ≤ min 4 (s.pins.ltc.good + 1) then put u R.PIN_LTC_STAT_LOCK 1 else u) :=
  congrArg Host.Outcome.next (if_pos hon)

theorem exec_ltcRxFrame_locking (h : s.pins.ltc.good < 3) :
    exec (.ltcRxFrame data true) s = .next (ltcTaken s data (s.pins.ltc.good + 1)) := by
  rw [exec_ltcRxFrame_valid hon, Nat.min_eq_right (by omega)]
  exact congrArg Host.Outcome.next (if_neg (by omega))

theorem exec_ltcRxFrame_locked (h : 3 ≤ s.pins.ltc.good) :
    exec (.ltcRxFrame data true) s = .next (put (ltcTaken s data 4) R.PIN_LTC_STAT_LOCK 1) := by
  rw [exec_ltcRxFrame_valid hon, Nat.min_eq_left (by omega)]
  rfl

theorem exec_ltcRxFrame_invalid : exec (.ltcRxFrame data false) s =
    .next (put (bump (modLtc s fun l => { l with good := 0 }) R.PIN_LTC_STAT_ERR) R.PIN_LTC_STAT_LOCK 0) :=
  congrArg Host.Outcome.next (if_pos hon)

end

theorem exec_ltcRxFrame_off (y : Bool) (hoff : ¬ carries s 0 1 = true) : exec (.ltcRxFrame data y) s = .next s :=
  congrArg Host.Outcome.next (if_neg hoff)

end

section
variable {s : State} {t : Nat}

/-- The rate has no timecode base, and the last frame has been sent. -/
def ltcTxDue (s : State) (t : Nat) : Prop := ltcBase s = none ∧ (s.pins.ltc.tx = none ∨ s.pins.ltc.txAt + 40000000 ≤ t)

theorem ltcTxDue_iff : ((ltcBase s).isNone && (s.pins.ltc.tx.isNone || 40000000 + s.pins.ltc.txAt ≤ t)) = true ↔ ltcTxDue s t := by
  simp only [ltcTxDue, Bool.and_eq_true, Bool.or_eq_true, Option.isNone_iff_eq_none, decide_eq_true_eq, Nat.add_comm]

theorem exec_ltcTxFrameTimer_sends (hdue : ltcTxDue s t) (hon : carries s 1 1 = true) : exec (.ltcTxFrameTimer t) s =
    .next (modLtc (stamp s t) fun l => { l with txAt := t, tx := some (ltcTx s) }) :=
  congrArg Host.Outcome.next ((if_pos (ltcTxDue_iff.2 hdue)).trans (if_pos hon))

theorem exec_ltcTxFrameTimer_unsent (hdue : ltcTxDue s t) (hoff : ¬ carries s 1 1 = true) : exec (.ltcTxFrameTimer t) s =
    .next (modLtc (stamp s t) fun l => { l with txAt := t }) :=
  congrArg Host.Outcome.next ((if_pos (ltcTxDue_iff.2 hdue)).trans (if_neg hoff))

theorem exec_ltcTxFrameTimer_early (h : ¬ ltcTxDue s t) : exec (.ltcTxFrameTimer t) s = .next s :=
  congrArg Host.Outcome.next (if_neg (mt ltcTxDue_iff.1 h))

end

end Sys2Proof.Machine

open Sys2Proof Sys2Proof.Machine

/-- Settles O59: the word, the line's settle time, its former owner, the widths and the state of the timecode decide each command. When
LOCK clears, what is latched, and the order of a staged switch (log entry 77) are the model's. -/
theorem linesSwitchSettleAndDrive : Obligations.LinesSwitchSettleAndDrive := by
  unfold Obligations.LinesSwitchSettleAndDrive
  refine ⟨fun s n v t hrun => ⟨exec_pinGlCfgWrite_switches hrun, exec_pinGlStageWrite_stages hrun, exec_pinGlCfgWrite_refused hrun,
      exec_pinGlStageWrite_refused hrun⟩,
    fun s n t => ⟨exec_switchSettleEnd_none, fun e he => ?settles⟩, fun s n v hrun => ?owner,
    fun s v hrun => ⟨exec_pinLtcCtlWrite_refused hrun, exec_pinLtcCtlWrite_taken hrun⟩, fun s n t => ?widths,
    fun s data => ⟨fun hfunc hsettle => ?receives, fun hoff y => ?unheard⟩, fun s t => ?sends⟩
  case settles =>
    have hexec := exec_switchSettleEnd_some (t := t) he
    exact ⟨fun hlt => hexec.trans (congrArg Host.Outcome.next (if_neg (Nat.not_le.2 hlt))),
      fun hle => hexec.trans (congrArg Host.Outcome.next (if_pos hle))⟩
  case owner =>
    dsimp only
    simp only [← lineOwner_eq, ← disarmLine_eq]
    exact ⟨exec_pinGlOwnerWrite_keeps hrun, fun o => exec_pinGlOwnerWrite_changes hrun⟩
  case widths =>
    refine ⟨fun hon hwide => ?_, fun h => ?_, fun hon hwide => ?_, fun h => ?_⟩
    · exact exec_syncOutPulseEnd.trans (congrArg Host.Outcome.next (if_pos ⟨hon, hwide⟩))
    · exact exec_syncOutPulseEnd.trans (congrArg Host.Outcome.next (if_neg fun hend => h.elim (by simp [hend.1]) (Nat.not_lt.2 hend.2)))
    · exact exec_tickOutFall.trans (congrArg Host.Outcome.next (if_pos ⟨hon, hwide⟩))
    · exact exec_tickOutFall.trans (congrArg Host.Outcome.next (if_neg fun hend => h.elim (by simp [hend.1]) (Nat.not_lt.2 hend.2)))
  case receives =>
    have hon := (carries_iff s 0 1).2 ⟨hfunc, hsettle⟩
    exact ⟨exec_ltcRxFrame_locking hon, exec_ltcRxFrame_locked hon, exec_ltcRxFrame_invalid hon⟩
  case unheard =>
    refine exec_ltcRxFrame_off y fun hon => ?_
    obtain ⟨hfunc, hsettle⟩ := (carries_iff s 0 1).1 hon
    exact hoff.elim (fun h => h hfunc) fun h => h hsettle
  case sends =>
    refine ⟨fun hbase htx hfunc hsettle => ?_, fun hbase htx hoff => ?_, fun h => ?_⟩
    · exact exec_ltcTxFrameTimer_sends ⟨hbase, htx⟩ ((carries_iff s 1 1).2 ⟨hfunc, hsettle⟩)
    · refine exec_ltcTxFrameTimer_unsent ⟨hbase, htx⟩ fun hon => ?_
      obtain ⟨hfunc, hsettle⟩ := (carries_iff s 1 1).1 hon
      exact hoff.elim (fun h => h hfunc) fun h => h hsettle
    · refine exec_ltcTxFrameTimer_early ?_
      rintro ⟨hbase, htx⟩
      obtain h | ⟨hsome, hlate⟩ := h
      · exact h hbase
      · exact htx.elim hsome (Nat.not_le.2 hlate)

end

section
/-! The link injectors (R493, R507). Settles O56. -/

namespace Sys2Proof.Machine

/-- Injector i holds y. -/
def injSet (s : State) (i : Nat) (y : InjSt) : State := { s with sup := { s.sup with inj := setAt s.sup.inj i y } }

/-- A unit passes: what was held goes on. -/
def injReleased (s : State) (i : Nat) : InjSt := { injOf s i with held := none, did := none }

/-- The unit is counted. -/
def injCounted (s : State) (i : Nat) : InjSt := { injReleased s i with seen := (injReleased s i).seen + 1 }

/-- The injector acts on a unit of len bits when it stands at x. -/
def injActed (s : State) (i len t : Nat) (x : InjSt) : InjSt :=
  let l := lfsrNext x.lfsr
  let fixed := get s (R.INJ_SEED_SEED i) == 0
  { x with
    lfsr := if fixed then x.lfsr else l
    next := x.next + (if fixed then get s (R.INJ_INTERVAL_UNITS i) else 1 + l % (2 * get s (R.INJ_INTERVAL_UNITS i)))
    acts := x.acts + 1
    held := if get s (R.INJ_CTL_ACT i) = 2 then some t else x.held
    did := some (get s (R.INJ_CTL_ACT i), if get s (R.INJ_CTL_ACT i) = 1 then get s (R.INJ_BIT_BIT i) % len else 0) }

theorem modInj_eq_injSet (s : State) (i : Nat) (f : InjSt → InjSt) : modInj s i f = injSet s i (f (injOf s i)) :=
  congrArg (fun l => { s with sup := { s.sup with inj := l } }) (modAt_congr s.sup.inj i f (fun _ => f (injOf s i)) _ fun _ => rfl)

theorem injSet_injSet (s : State) (i : Nat) (x y : InjSt) : injSet (injSet s i x) i y = injSet s i y :=
  congrArg (fun l => { s with sup := { s.sup with inj := l } }) (setAt_setAt s.sup.inj i x y)

section
variable {s : State} {i t : Nat} (hi : i < s.sup.inj.length)
include hi

theorem injOf_injSet (y : InjSt) : injOf (injSet s i y) i = y := nth_setAt _ _ _ _ hi

theorem injAct_eq (len : Nat) (x : InjSt) : injAct (injSet s i x) i len t =
    let d := bump (injSet s i (injActed s i len t x)) (R.INJ_DONE_COUNT i)
    if get d (R.INJ_COUNT_N i) ≠ 0 ∧ get d (R.INJ_COUNT_N i) ≤ x.acts + 1 then raise (put d (R.INJ_CTL_EN i) 0) hubInjDone else d := by
  unfold injAct
  rw [injOf_injSet hi]
  dsimp only
  rw [modInj_eq_injSet, injSet_injSet]
  rfl

end

section
variable {s : State} {i : Nat} (len t : Nat)

theorem modInj_release : modInj (stamp s t) i (fun x => { x with held := none, did := none }) = injSet (stamp s t) i (injReleased s i) :=
  modInj_eq_injSet ..

theorem injUnit_off (hoff : isSet s (R.INJ_CTL_EN i) = false) : injUnit s i len t = injSet (stamp s t) i (injReleased s i) := by
  unfold injUnit
  rw [modInj_release]
  exact if_neg (Bool.eq_false_iff.1 hoff)

section
variable (hi : i < s.sup.inj.length) (hon : isSet s (R.INJ_CTL_EN i) = true)
include hi hon

theorem injUnit_on : injUnit s i len t =
    if (injCounted s i).seen = (injCounted s i).next then injAct (injSet (stamp s t) i (injCounted s i)) i len t
    else injSet (stamp s t) i (injCounted s i) := by
  have hcount : modInj (injSet (stamp s t) i (injReleased s i)) i (fun x => { x with seen := x.seen + 1 }) =
      injSet (stamp s t) i (injCounted s i) := by
    rw [modInj_eq_injSet, injSet_injSet, injOf_injSet (s := stamp s t) hi]
    rfl
  unfold injUnit
  rw [modInj_release]
  refine (if_pos hon).trans ?_
  dsimp only
  rw [hcount, injOf_injSet (s := stamp s t) hi]

theorem injUnit_passes (h : (injReleased s i).seen + 1 ≠ (injReleased s i).next) :
    injUnit s i len t = injSet (stamp s t) i (injCounted s i) :=
  (injUnit_on len t hi hon).trans (if_neg h)

section
variable (h : (injReleased s i).seen + 1 = (injReleased s i).next)
include h

theorem injUnit_acts : injUnit s i len t =
    let d := bump (injSet (stamp s t) i (injActed s i len t (injCounted s i))) (R.INJ_DONE_COUNT i)
    if get d (R.INJ_COUNT_N i) ≠ 0 ∧ get d (R.INJ_COUNT_N i) ≤ (injReleased s i).acts + 1 then raise (put d (R.INJ_CTL_EN i) 0) hubInjDone
    else d :=
  (injUnit_on len t hi hon).trans ((if_pos h).trans (injAct_eq (s := stamp s t) hi len _))

end

end

end

section
variable {s : State} {i : Fin 17} {t : Nat}

theorem exec_injReorderTimeout_none (h : (injOf s i).held = none) : exec (.injReorderTimeout i t) s = .next s := by
  refine congrArg Host.Outcome.next ?_
  simp only [h]

theorem exec_injReorderTimeout_some {a : Nat} (h : (injOf s i).held = some a) : exec (.injReorderTimeout i t) s =
    .next (if 1200000 + a ≤ t then modInj (stamp s t) i fun x => { x with held := none, did := none } else s) := by
  refine congrArg Host.Outcome.next ?_
  simp only [h]
  rfl

end

end Sys2Proof.Machine

open Sys2Proof Sys2Proof.Machine

/-- Settles O56: EN, the count and T decide whether a unit passes, is counted or is acted on, COUNT whether the action is the last. -/
theorem injectorsCountAndAct : Obligations.InjectorsCountAndAct := by
  unfold Obligations.InjectorsCountAndAct
  refine ⟨fun s i bytes t hlen => ?unit, fun s i t => ⟨exec_injReorderTimeout_none, fun a ha => ?timeout⟩⟩
  case unit =>
    have hi : i.val < s.sup.inj.length := by omega
    refine ⟨fun hoff => congrArg Host.Outcome.next (injUnit_off _ t hoff),
      fun hon hcount => congrArg Host.Outcome.next (injUnit_passes _ t hi hon hcount), fun hon hcount => ?_⟩
    have hacts := injUnit_acts (8 * bytes) t hi hon hcount
    refine ⟨fun hmore => congrArg Host.Outcome.next (hacts.trans (if_neg ?_)),
      fun hsome hlast => congrArg Host.Outcome.next (hacts.trans (if_pos ⟨hsome, hlast⟩))⟩
    exact fun h => hmore.elim h.1 fun hlt => absurd h.2 (Nat.not_le.2 hlt)
  case timeout =>
    have hexec := exec_injReorderTimeout_some (t := t) ha
    exact ⟨fun hlt => hexec.trans (congrArg Host.Outcome.next (if_neg (by omega))),
      fun hle => hexec.trans (congrArg Host.Outcome.next (if_pos (by omega)))⟩

end

section
/-! The belay pair: heartbeats, silence, belay resets, tests and switches (R494 to R496, R559). Settles O57. -/

namespace Sys2Proof.Machine

/-! ## Cores -/

theorem coreRuns_iff (s : State) (c : Nat) : coreRuns s c = true ↔ coreSt s c = 0 ∨ coreSt s c = 1 := by
  simp only [coreRuns, Bool.or_eq_true, beq_iff_eq]

theorem coreSilent_iff (s : State) (c t : Nat) : coreSilent s c t = true ↔ coreRuns s c = true ∧ lastBeat s c + 240000 ≤ t := by
  rw [Nat.add_comm]
  simp only [coreSilent, Bool.and_eq_true, decide_eq_true_eq]
  rfl

/-- The other core of the other core. -/
theorem otherCore_otherCore (c : Fin 2) : 1 - (1 - c.val) = c.val := by omega

/-- A core that has just written its heartbeat makes the pair healthy. -/
theorem showHealth_setBeat {s : State} {t : Nat} (c : Fin 2) (hlen : s.sup.beat.length = 2) (hruns : coreRuns s c = true) :
    showHealth (setBeat s c (some t)) t = put (setBeat s c (some t)) R.FLT_BLY_STAT_HEALTHY 1 := by
  have hbeat : nth (setBeat s c (some t)).sup.beat c none = some t := nth_setAt _ _ _ _ (by omega)
  have hup : (coreRuns (setBeat s c (some t)) c && (nth (setBeat s c (some t)).sup.beat c none).isSome &&
      decide (t < silentAfter + lastBeat (setBeat s c (some t)) c)) = true := by
    rw [show coreRuns (setBeat s c (some t)) c = true from hruns, lastBeat, hbeat]
    exact decide_eq_true (show t < silentAfter + t from Nat.lt_add_of_pos_left (by decide))
  refine congrArg (fun b => put (setBeat s c (some t)) R.FLT_BLY_STAT_HEALTHY (b2n b)) (show _ = true from Bool.or_eq_true_iff.2 ?_)
  match c with
  | 0 => exact .inl hup
  | 1 => exact .inr hup

/-! ## Silence and takeover (R494, R495) -/

/-- Core c is found silent: its cause persists and its source sets. -/
def foundSilent (s : State) (c : Nat) : State := fault (setMute s c true) (fltBelaySilent c)

section
variable {s : State} {c : Nat} (t e : Nat)

theorem coreLost_takenOver (hactive : coreSt (foundSilent s c) c = 0) (hstandby : coreSt (foundSilent s c) (1 - c) = 1) :
    coreLost s c t e false = belayReset (belayTakeover (foundSilent s c) (1 - c) e) c t :=
  (if_pos hactive).trans (if_pos hstandby)

theorem coreLost_alone (hactive : coreSt (foundSilent s c) c = 0) (hstandby : coreSt (foundSilent s c) (1 - c) ≠ 1) :
    coreLost s c t e false = foundSilent s c :=
  (if_pos hactive).trans (if_neg hstandby)

theorem coreLost_standby (hstandby : coreSt (foundSilent s c) c ≠ 0) :
    coreLost s c t e false = raise (belayReset (foundSilent s c) c t) hubBelayStandbyLost := if_neg hstandby

end

/-- The takeover of core c, which the pair's other core carries out. -/
theorem belayTakeover_other (s : State) (c : Fin 2) (e : Nat) : belayTakeover s (1 - c.val) e =
    let o := 1 - c.val
    let a := setTarget (setTarget (put (setCore s o 0) R.FLT_BLY_STAT_ACTIVE o) (12 + o) true) (12 + c.val) false
    raise (put (bump a R.FLT_BLY_CNT_TAKEOVER) R.FLT_BLY_LAST_US (min ((e - lastBeat s c) / 1200) 65535)) hubBelayTakeover := by
  unfold belayTakeover activate
  rw [otherCore_otherCore]
  rfl

section
variable {s : State} {c : Fin 2} {t e : Nat}

/-- A core's silence is found by a ready pair, whose takeover ends at most 300 us after the last heartbeat. -/
theorem completes_belaySilent {u : State} (hready : s.sup.ready = true) (hsilent : coreSilent s c t = true)
    (h : coreLost (stamp s t) c t (max t (min e (lastBeat s c + 360000))) false = u) :
    Completes (.belaySilent c t e) s (showHealth u t) := by
  rw [Nat.add_comm] at h
  refine .of_finSettle (congrArg finSettle ((if_pos ?_).trans (congrArg (showHealth · t) h)))
  rw [hready, hsilent]
  rfl

theorem completes_belaySilent_nothing (h : s.sup.ready = false ∨ coreRuns s c = false ∨ t < lastBeat s c + 240000) :
    Completes (.belaySilent c t e) s s := by
  refine .of_finSettle (congrArg finSettle (if_neg ?_))
  rw [Bool.and_eq_true, coreSilent_iff]
  rintro ⟨hready, hruns, hlate⟩
  obtain h | h | h := h
  · exact Bool.eq_false_iff.1 h hready
  · exact Bool.eq_false_iff.1 h hruns
  · exact Nat.not_le.2 h hlate

end

/-! ## A core that has passed (R495, R496) -/

/-- Core c runs again as standby, its first heartbeat at t. -/
def nowStandby (s : State) (c t : Nat) : State := setBeat (setCore s c 1) c (some t)

section
variable {s : State} {o t : Nat}

theorem takeoverCheck_healthy (hstandby : coreSt s o = 1) (hactive : coreSt s (1 - o) = 0) (hheard : coreSilent s (1 - o) t = false) :
    takeoverCheck s o t = s :=
  (if_pos hstandby).trans ((if_pos hactive).trans (if_neg (Bool.eq_false_iff.1 hheard)))

theorem takeoverCheck_silent (hstandby : coreSt s o = 1) (hactive : coreSt s (1 - o) = 0) (hsilent : coreSilent s (1 - o) t = true) :
    takeoverCheck s o t = belayReset (belayTakeover s o t) (1 - o) t :=
  (if_pos hstandby).trans ((if_pos hactive).trans (if_pos hsilent))

theorem takeoverCheck_noActive (hstandby : coreSt s o = 1) (hactive : coreSt s (1 - o) ≠ 0) :
    takeoverCheck s o t = belayTakeover s o t :=
  (if_pos hstandby).trans (if_neg hactive)

end

section
variable {s : State} {c : Fin 2} {t : Nat}

/-- Core c is in belay reset, and force does not hold it there. -/
def mayLeaveReset (s : State) (c : Fin 2) : Bool := coreSt s c = 2 && !isSet s (R.FLT_FORCE (fltBelaySilent c))

theorem mayLeaveReset_iff : mayLeaveReset s c = true ↔ coreSt s c = 2 ∧ isSet s (R.FLT_FORCE (fltBelaySilent c)) = false := by
  rw [mayLeaveReset, Bool.and_eq_true, decide_eq_true_eq, Bool.not_eq_true']

theorem completes_belayResetDone_held (pass : Bool) (h : ¬ mayLeaveReset s c = true) : Completes (.belayResetDone c pass t) s s :=
  .of_finSettle (congrArg finSettle (if_neg h))

theorem exec_belayResetTimeout : exec (.belayResetTimeout c t) s =
    .next (if mayLeaveReset s c = true ∧ 1200000 + nth s.sup.since c 0 ≤ t then setCore (stamp s t) c 3 else s) := by
  refine congrArg Host.Outcome.next (ite_congr (propext ?_) (fun _ => rfl) fun _ => rfl)
  exact (Bool.and_eq_true_iff (x := mayLeaveReset s c)).trans (and_congr_right fun _ => decide_eq_true_iff)

section
variable (h : mayLeaveReset s c = true)
include h

theorem completes_belayResetDone_fails : Completes (.belayResetDone c false t) s (setCore (stamp (setMute s c false) t) c 3) :=
  .of_finSettle (congrArg finSettle (if_pos h))

theorem completes_belayResetDone_passes {u : State} (hcheck : takeoverCheck (nowStandby (stamp (setMute s c false) t) c t) c t = u) :
    Completes (.belayResetDone c true t) s (showHealth u t) :=
  .of_finSettle (congrArg finSettle ((if_pos h).trans (congrArg (showHealth · t) hcheck)))

end

/-! ## Tests, switches and requests (R496) -/

/-- Core c is the one that is tested: core 0 where both are. -/
def underTest (s : State) (c : Fin 2) : Prop := coreSt s c = 4 ∧ (c.val = 1 → coreSt s 0 ≠ 4)

theorem underTest_first (h : underTest s c) : (if coreSt s 0 = 4 then 0 else 1) = c.val := by
  obtain ⟨htest, hfirst⟩ := h
  match c with
  | 0 => exact if_pos htest
  | 1 => exact if_neg (hfirst rfl)

/-- The test's result is shown. -/
def testShown (s : State) (t r : Nat) : State := put (stamp s t) R.FLT_BLY_TEST_RESULT r

theorem exec_belayTestDone {pass : Bool} (h : underTest s c) : exec (.belayTestDone pass t) s =
    finSettle (let z := testShown s t (if pass then 2 else 3)
      if pass then showHealth (takeoverCheck (nowStandby z c t) c t) t else setCore z c 3) := by
  change execBelayTestDone pass t s = _
  unfold execBelayTestDone
  rw [underTest_first h]
  exact congrArg finSettle (if_pos h.1)

theorem completes_belayTestDone_passes {u : State} (h : underTest s c)
    (hcheck : takeoverCheck (nowStandby (testShown s t 2) c t) c t = u) : Completes (.belayTestDone true t) s (showHealth u t) :=
  .of_finSettle ((exec_belayTestDone h).trans (congrArg (fun x => finSettle (showHealth x t)) hcheck))

theorem completes_belayTestDone_none (pass : Bool) (h0 : coreSt s 0 ≠ 4) (h1 : coreSt s 1 ≠ 4) :
    Completes (.belayTestDone pass t) s s := by
  refine .of_finSettle ?_
  change execBelayTestDone pass t s = _
  unfold execBelayTestDone
  rw [if_neg h0]
  exact congrArg finSettle (if_neg h1)

/-- Core c leaves FAILED for a belay reset. -/
def resetFailed (s : State) (c t : Nat) : State := if coreSt s c = 3 then belayReset s c t else s

section
variable (hrun : unitsRun s = true)
include hrun

theorem exec_belayResetRequest_first (h : coreSt s 0 = 3) :
    exec (.belayResetRequest t) s = .next (resetFailed (belayReset (stamp s t) 0 t) 1 t) :=
  answered_next hrun ((if_pos (.inl h)).trans (congrArg (resetFailed · 1 t) (if_pos h)))

theorem exec_belayResetRequest_second (h0 : coreSt s 0 ≠ 3) (h1 : coreSt s 1 = 3) :
    exec (.belayResetRequest t) s = .next (belayReset (stamp s t) 1 t) :=
  answered_next hrun ((if_pos (.inr h1)).trans ((congrArg (resetFailed · 1 t) (if_neg h0)).trans (if_pos h1)))

theorem exec_belayResetRequest_none (h0 : coreSt s 0 ≠ 3) (h1 : coreSt s 1 ≠ 3) :
    exec (.belayResetRequest t) s = .next (put s R.FLT_CTL_STAT_CFGERR 1) :=
  answered_next hrun (if_neg (not_or_intro h0 h1))

end

end

end Sys2Proof.Machine

open Sys2Proof Sys2Proof.Machine

/-- Settles O57: the states of the two cores and the time since their heartbeats decide what each event does. That the takeover's end is
an operand, that a returning standby takes over when no core is active, that a failing test is FAILED, and how long a silence lasts (log
entry 59) are the model's. -/
theorem belayPairChangesRoles : Obligations.BelayPairChangesRoles := by
  unfold Obligations.BelayPairChangesRoles
  intro st reset
  have hreset : reset = belayReset := rfl
  clear_value reset
  subst hreset
  refine ⟨fun s c t hlen => ⟨fun hruns => ?beats, fun hactive hstandby => ?unheard⟩,
    fun s c t e hready hlate => ⟨fun hwas hactive hstandby => ?takenOver, fun hwas hactive hstandby => ?alone, fun hwas hstandby => ?lost⟩,
    fun s c t e => completes_belaySilent_nothing, fun s c t h => ?held, fun s c t hreset hfree => ?leaves, fun s hrun => ?switch,
    fun s t hrun => ?test, fun s t c htest hfirst => ?tested, fun s t h0 h1 pass => completes_belayTestDone_none pass h0 h1,
    fun s t hrun => ⟨exec_belayResetRequest_first hrun, exec_belayResetRequest_second hrun, exec_belayResetRequest_none hrun⟩⟩
  case beats =>
    have hcore := (coreRuns_iff s c).2 hruns
    exact congrArg Host.Outcome.next ((if_pos hcore).trans (showHealth_setBeat (s := stamp s t) c hlen hcore))
  case unheard =>
    exact congrArg Host.Outcome.next (if_neg fun hcore => ((coreRuns_iff s c).1 hcore).elim hactive hstandby)
  case takenOver =>
    refine completes_belaySilent hready ((coreSilent_iff s c t).2 ⟨(coreRuns_iff s c).2 (.inl hwas), hlate⟩) ?_
    rw [coreLost_takenOver t _ hactive hstandby, belayTakeover_other]
    rfl
  case alone =>
    exact completes_belaySilent hready ((coreSilent_iff s c t).2 ⟨(coreRuns_iff s c).2 (.inl hwas), hlate⟩)
      (coreLost_alone t _ hactive hstandby)
  case lost =>
    exact completes_belaySilent hready ((coreSilent_iff s c t).2 ⟨(coreRuns_iff s c).2 (.inr hwas), hlate⟩)
      (coreLost_standby t _ hstandby)
  case held =>
    have hstays : ¬ mayLeaveReset s c = true := by
      rw [mayLeaveReset_iff]
      exact fun hmay => h.elim (fun hne => hne hmay.1) fun hforce => Bool.eq_false_iff.1 hmay.2 hforce
    exact ⟨exec_belayResetTimeout.trans (congrArg Host.Outcome.next (if_neg fun hmay => hstays hmay.1)),
      fun pass => completes_belayResetDone_held pass hstays⟩
  case leaves =>
    have hmay : mayLeaveReset s c = true := mayLeaveReset_iff.2 ⟨hreset, hfree⟩
    exact ⟨completes_belayResetDone_fails hmay,
      fun hstandby hactive hheard => completes_belayResetDone_passes hmay (takeoverCheck_healthy hstandby hactive hheard),
      fun hstandby hactive hsilent => completes_belayResetDone_passes hmay (takeoverCheck_silent hstandby hactive hsilent),
      fun hstandby hactive => completes_belayResetDone_passes hmay (takeoverCheck_noActive hstandby hactive),
      fun hlate => exec_belayResetTimeout.trans (congrArg Host.Outcome.next (if_pos ⟨hmay, by omega⟩)),
      fun hearly => exec_belayResetTimeout.trans (congrArg Host.Outcome.next (if_neg fun hend => by omega))⟩
  case switch =>
    exact ⟨fun hactive hstandby => answered_next hrun (if_pos ⟨hactive, hstandby⟩),
      fun h => answered_next hrun (if_neg fun hgood => h.elim (fun hne => hne hgood.1) fun hne => hne hgood.2)⟩
  case test => exact ⟨fun hstandby => answered_next hrun (if_pos hstandby), fun hother => answered_next hrun (if_neg hother)⟩
  case tested =>
    have hunder : underTest s c := ⟨htest, hfirst⟩
    exact ⟨.of_finSettle (exec_belayTestDone hunder),
      fun hstandby hactive hheard => completes_belayTestDone_passes hunder (takeoverCheck_healthy hstandby hactive hheard),
      fun hstandby hactive hsilent => completes_belayTestDone_passes hunder (takeoverCheck_silent hstandby hactive hsilent),
      fun hstandby hactive => completes_belayTestDone_passes hunder (takeoverCheck_noActive hstandby hactive)⟩

end

section
/-! The anchor and LANYARD (R500 to R502). Settles O58. -/

namespace Sys2Proof.Machine

/-! ## Why the anchor acts (R500) -/

/-- The pair has not been healthy for 1 ms. -/
def pairLost (s : State) (t : Nat) : Prop := s.sup.ready = true ∧ max (lastBeat s 0) (lastBeat s 1) + 1440000 ≤ t

theorem pairLost_iff (s : State) (t : Nat) :
    pairLost s t ↔ s.sup.ready = true ∧ silentAfter + msCycles + max (lastBeat s 0) (lastBeat s 1) ≤ t := by
  rw [pairLost, Nat.add_comm]
  rfl

theorem not_pairLost {s : State} {t : Nat} (h : s.sup.ready = false ∨ t < max (lastBeat s 0) (lastBeat s 1) + 1440000) :
    ¬ pairLost s t :=
  fun hlost => h.elim (fun hno => Bool.eq_false_iff.1 hno hlost.1) fun hlt => Nat.not_le.2 hlt hlost.2

/-- What the anchor's first step does, one unit after the other. -/
theorem anchorAct_eq (s : State) (cause t : Nat) : anchorAct s cause t =
    (let a := noTransition (put (stamp s t) R.GLB_MODE_ANCHORED 1)
    let b := put (put (put a R.FLT_BLY_STAT_B0 5) R.FLT_BLY_STAT_B1 5) R.FLT_BLY_STAT_HEALTHY 0
    let c := put (put (fault b 0x80) R.FLT_ANC_STAT_STATE 1) R.FLT_ANC_STAT_CAUSE cause
    let d := put2 c R.FLT_ANC_TICK_LO_NO R.FLT_ANC_TICK_HI_NO c.tick.no
    let e := { d with sup := { d.sup with ancAt := t, lost := false, switch := false, dormAt := none },
                      mags := { d.mags with spool := [] } }
    let f := put (movStopAll e) R.MOV_STAT_HALTED 1
    let stop (l : Lane) : Lane := if l.running then { l with queue := modAt l.queue 0 fun j => { j with dead := true } } else l
    let g := stopDeadJobs { f with strs := { f.strs with lane := f.strs.lane.map stop } }
    forN 4 (fun n x => let h := ancHalt x n
      if hasSession h n then setAnc h n 1 else h) g) := by
  unfold anchorAct ancStart setF clrF setCore fltAnchorActed
  rw [if_pos rfl, if_neg Nat.one_ne_zero]

section
variable {s : State} {t : Nat}

theorem completes_anchorAct_nothing (h : anchorCause s t = 0) : Completes (.anchorAct t) s s := by
  refine .of_finSettle (congrArg finSettle ?_)
  simp only [h]

theorem completes_anchorAct_acts {cause : Nat} (h : anchorCause s t = cause) (hcause : cause ≠ 0) :
    Completes (.anchorAct t) s (anchorAct s cause t) := by
  obtain ⟨k, rfl⟩ := Nat.exists_eq_succ_of_ne_zero hcause
  refine .of_finSettle (congrArg finSettle ?_)
  simp only [h]

section
variable (hfirst : anchored s = false)
include hfirst

theorem anchorCause_fatal (hpair : ¬ pairLost s t) : anchorCause s t = if fatalSet s = true then 2 else 0 :=
  (if_neg (Bool.eq_false_iff.1 hfirst)).trans (if_neg (mt (pairLost_iff s t).2 hpair))

theorem anchorCause_pairLost (hpair : pairLost s t) : anchorCause s t = 1 :=
  (if_neg (Bool.eq_false_iff.1 hfirst)).trans (if_pos ((pairLost_iff s t).1 hpair))

end

end

theorem fatalSet_iff (s : State) : fatalSet s = true ↔ ∃ f ∈ [0x06, 0x07, 0x08, 0x80], get s (R.FLT_STAT f) ≠ 0 := by
  simp only [fatalSet, Bool.or_eq_true, isSet_iff, List.mem_cons, List.not_mem_nil, or_false, exists_eq_or_imp, exists_eq_left, or_assoc]
  rfl

/-! ## The ports (R501) -/

section
variable {s : State} {n t : Nat}

/-- Command cid of port n is being aborted since t. -/
def abortSent (s : State) (n t : Nat) (c : NvCmd) : State :=
  addCmd (modMag s n fun m => { m with cmds := m.cmds.map fun d => if d.cid = c.cid then { d with st := 2, abortAt := t } else d })
    n abortOp (adminReq .abort c.cid)

theorem anchorTimeout_aborts (hwork : ancOf s n = 1) (hlate : s.sup.ancAt + 24000000 ≤ t) : anchorTimeout s n t =
    setAnc (((magOf s n).cmds.filter fun c => c.st == 1 && c.kind != .abort).foldl (fun x c => abortSent x n t c) (stamp s t)) n 2 :=
  if_pos ⟨hwork, (Nat.add_comm ..).trans_le hlate⟩

theorem anchorTimeout_skips (hwork : ancOf s n = 2) (hlate : s.sup.ancAt + 36000000 ≤ t) :
    anchorTimeout s n t = setAnc (stamp s t) n 7 :=
  (if_neg fun h => absurd (hwork.symm.trans h.1) (by decide)).trans (if_pos ⟨hwork, (Nat.add_comm ..).trans_le hlate⟩)

theorem anchorTimeout_nothing (h : (ancOf s n ≠ 1 ∧ ancOf s n ≠ 2) ∨ t < s.sup.ancAt + 24000000 ∨
    (ancOf s n = 2 ∧ t < s.sup.ancAt + 36000000)) : anchorTimeout s n t = s := by
  refine (if_neg ?_).trans (if_neg ?_)
  · rintro ⟨hwork, hlate⟩
    change 24000000 + s.sup.ancAt ≤ t at hlate
    omega
  · rintro ⟨hwork, hlate⟩
    change 36000000 + s.sup.ancAt ≤ t at hlate
    omega

end

/-! ## LANYARD (R502) -/

/-- LANYARD may go on toggling at t: the pair is ready and healthy, and nothing fatal is set. -/
def lanyardGoes (s : State) (t : Nat) : Bool :=
  s.sup.ready && !anchored s && !fatalSet s && isSet (showHealth (stamp s t) t) R.FLT_BLY_STAT_HEALTHY

theorem exec_lanyardToggle (s : State) (t : Nat) : exec (.lanyardToggle t) s =
    .next (if lanyardGoes s t = true ∧ 594000 + s.sup.lanyAt ≤ t then
      { put (showHealth (stamp s t) t) R.FLT_PIN_LANYARD (1 - get s R.FLT_PIN_LANYARD) with sup := { s.sup with lanyAt := t } }
    else s) := by
  refine congrArg Host.Outcome.next (ite_congr (propext ?_) (fun _ => rfl) fun _ => rfl)
  exact (Bool.and_eq_true_iff (x := lanyardGoes s t)).trans (and_congr_right fun _ => decide_eq_true_iff)

end Sys2Proof.Machine

open Sys2Proof Sys2Proof.Machine

/-- Settles O58: the heartbeats and the fatal status bits say whether the anchor acts and why, its state on a port and the time since it
acted what follows there. That accesses begun are left alone and HALTED is set without an address (log entry 59) are the model's. -/
theorem anchorActsAndLanyardStops : Obligations.AnchorActsAndLanyardStops := by
  unfold Obligations.AnchorActsAndLanyardStops
  refine ⟨fun s t hdone => completes_anchorAct_nothing (if_pos hdone), fun s t hfirst hsound hpair => ?sound,
    fun s t cause hfirst hcause => ?acts, fatalSet_iff, fun s n t => ?ports, fun s t => ⟨fun hgoes hlate => ?toggles, fun h => ?holds⟩⟩
  case sound =>
    exact completes_anchorAct_nothing ((anchorCause_fatal hfirst (not_pairLost hpair)).trans (if_neg (Bool.eq_false_iff.1 hsound)))
  case acts =>
    intro a b c d e f stop g
    rw [← anchorAct_eq]
    obtain ⟨rfl, hready, hlate⟩ | ⟨rfl, hfatal, hpair⟩ := hcause
    · exact completes_anchorAct_acts (anchorCause_pairLost hfirst ⟨hready, hlate⟩) (by decide)
    · exact completes_anchorAct_acts ((anchorCause_fatal hfirst (not_pairLost hpair)).trans (if_pos hfatal)) (by decide)
  case ports =>
    exact ⟨fun hwork hlate => .of_finSettle (congrArg finSettle (anchorTimeout_aborts hwork hlate)),
      fun hwork hlate => .of_finSettle (congrArg finSettle (anchorTimeout_skips hwork hlate)),
      fun h => .of_finSettle (congrArg finSettle (anchorTimeout_nothing h))⟩
  case toggles => exact (exec_lanyardToggle s t).trans (congrArg Host.Outcome.next (if_pos ⟨hgoes, by omega⟩))
  case holds =>
    refine (exec_lanyardToggle s t).trans (congrArg Host.Outcome.next (if_neg ?_))
    rintro ⟨hgoes, hlate⟩
    exact h.elim (fun hstops => Bool.eq_false_iff.1 hstops hgoes) fun hearly => by omega

end

section
/-! The fault collector: causes, clearing, forcing and arming (R487 to R492, R505). Settles O55. -/

namespace Sys2Proof.Machine

/-! ## The response by class (R488) -/

section
variable {s : State} {f : Nat} (hf : R.fltAssigned f = true)
include hf

theorem fault_masked (hmask : isSet (put s (R.FLT_STAT f) 1) (R.FLT_MASK f) = true) : fault s f = put s (R.FLT_STAT f) 1 :=
  (if_pos hf).trans (if_pos hmask)

theorem fault_notified (hmask : isSet (put s (R.FLT_STAT f) 1) (R.FLT_MASK f) = false) :
    fault s f = fltNotify (put s (R.FLT_STAT f) 1) f :=
  (if_pos hf).trans (if_neg (Bool.eq_false_iff.1 hmask))

end

section
variable {s : State} {f : Nat}

theorem fltNotify_correctable (h : R.fltClassCode f = 0) : fltNotify s f = raise (bump s R.FLT_CNT_CORR) 0xA0 := by
  simp only [fltNotify, h, hubFltCorrectable]

theorem fltNotify_partition (h : R.fltClassCode f = 1) : fltNotify s f = raise (bump s R.FLT_CNT_PART) 0xA1 := by
  simp only [fltNotify, h, hubFltPartition]

theorem fltNotify_device (h : R.fltClassCode f = 2) : fltNotify s f = fltFirst (raise (bump s R.FLT_CNT_DEV) 0xA2) f := by
  simp only [fltNotify, h, hubFltDevice]

theorem fltNotify_fatal (h : R.fltClassCode f = 3) : fltNotify s f = fltFirst (bump s R.FLT_CNT_FATAL) f := by
  simp only [fltNotify, h]

end

/-! ## Clearing (R490, R492) -/

theorem unforce_eq (s : State) (f : Nat) : unforce s f =
    if (f = 0x48 ∨ f = 0x49) ∧ get s (R.FLT_FORCE f) ≠ 0 ∧ coreSt s (f - 0x48) = 2 then
      setSince (put s (R.FLT_FORCE f) 0) (f - 0x48) s.clk
    else put s (R.FLT_FORCE f) 0 := by
  unfold unforce clrF
  simp only [isSet_iff]

section
variable {s : State} {f : Nat}

theorem statClear_unassigned (hf : R.fltAssigned f = false) : statClear s f = s := if_neg (Bool.eq_false_iff.1 hf)

theorem statClear_present (hf : R.fltAssigned f = true) (h : causePresent (unforce s f) f = true) : statClear s f = unforce s f :=
  (if_pos hf).trans (if_pos h)

theorem statClear_absent (hf : R.fltAssigned f = true) (h : causePresent (unforce s f) f = false) :
    statClear s f = put (unforce s f) (R.FLT_STAT f) 0 :=
  (if_pos hf).trans (if_neg (Bool.eq_false_iff.1 h))

end

/-! ## Which causes are present (R487) -/

/-- The sources of single units that have a cause that persists, or a reaction. -/
theorem unitSources : fltMasterLost = 0x01 ∧ fltThermHot = 0x05 ∧ fltThermCrit = 0x06 ∧ fltClkFail = 0x07 ∧ fltSupplyOor = 0x08 ∧
    fltDrcUe = 0x09 ∧ fltMovBus = 0x0B ∧ fltPoolBroken = 0x0C ∧ fltHostLink = 0x0F ∧ fltAnchorActed = 0x80 :=
  ⟨rfl, rfl, rfl, rfl, rfl, rfl, rfl, rfl, rfl, rfl⟩

section
variable (s : State)

theorem causePresent_strand {n : Nat} (hn : n < 18) : causePresent s (0x10 + n) = (strandOf s n).bad := by
  simp (disch := omega) only [causePresent, unitSources, if_neg, if_pos, Nat.add_sub_cancel_left]

theorem causePresent_core {c : Nat} (hc : c < 2) : causePresent s (0x48 + c) = (nth s.sup.mute c false || coreSilent s c s.clk) := by
  simp (disch := omega) only [causePresent, unitSources, if_neg, if_pos, Nat.add_sub_cancel_left]

theorem causePresent_gauge {n : Nat} (hn : n < 4) : causePresent s (0x62 + 4 * n) = (get s (R.SBD_GAUGE_STAT_STATE n) == 2) := by
  have hindex : (0x62 + 4 * n - 0x60) / 4 = n := by omega
  simp (disch := omega) only [causePresent, unitSources, if_neg, if_pos, hindex]

theorem causePresent_life {n : Nat} (hn : n < 4) : causePresent s (0x63 + 4 * n) = isSet s (R.SBD_STAT_LIFELOW n) := by
  have hindex : (0x63 + 4 * n - 0x60) / 4 = n := by omega
  simp (disch := omega) only [causePresent, unitSources, if_neg, if_pos, hindex]

/-- The sources whose cause does not persist. -/
theorem causePresent_event {f : Nat} (h : f ≤ 0x04 ∨ f ∈ [0x09, 0x0A, 0x0D, 0x0E, 0x4A] ∨ (0x28 ≤ f ∧ f < 0x48) ∨
    (0x50 ≤ f ∧ f < 0x60) ∨ (0x60 ≤ f ∧ f < 0x70 ∧ f % 4 < 2) ∨ (0x70 ≤ f ∧ f < 0x7C)) : causePresent s f = false := by
  simp only [List.mem_cons, List.not_mem_nil, or_false] at h
  simp (disch := omega) only [causePresent, unitSources, if_neg]

end

/-! ## Forcing (R492) -/

/-- Source f is forced. -/
def forced (s : State) (f : Nat) : State := put s (R.FLT_FORCE f) 1

section
variable {s : State} {f : Nat}

/-- A source that no unit reacts to has its class's response alone. -/
theorem forceOne_response (h : f ∈ [0x00, 0x02, 0x03, 0x04, 0x06, 0x07, 0x08, 0x0A, 0x0D, 0x0E, 0x0F, 0x4A, 0x80] ∨
    (0x28 ≤ f ∧ f < 0x3A) ∨ (0x44 ≤ f ∧ f < 0x48) ∨ (0x70 ≤ f ∧ f < 0x7C)) : forceOne s f = fault (forced s f) f := by
  simp only [List.mem_cons, List.not_mem_nil, or_false] at h
  simp (disch := omega) only [forceOne, unitSources, if_neg]
  rfl

theorem forceOne_masterLost : forceOne s 0x01 =
    fault (if isRec (modeOf (forced s 0x01)) then { forced s 0x01 with sup := { s.sup with lost := true } } else forced s 0x01) 0x01 := rfl

theorem forceOne_strand (hlow : 0x10 ≤ f) (hhigh : f < 0x22) : forceOne s f = fray (forced s f) (f - 0x10) 0 := by
  simp (disch := omega) only [forceOne, unitSources, if_neg, if_pos]
  rfl

section
variable {n : Nat}

theorem forceOne_seq (hn : n < 4) : forceOne s (0x40 + n) =
    match (seqOf (forced s (0x40 + n)) n).cur with
    | some p => progFault (fault (forced s (0x40 + n)) (0x40 + n)) n p 8 (pairOf (forced s (0x40 + n)) n p).pc
        (pairOf (forced s (0x40 + n)) n p).pc
    | none => fault (forced s (0x40 + n)) (0x40 + n) := by
  simp (disch := omega) only [forceOne, unitSources, if_neg, if_pos, Nat.add_sub_cancel_left]
  rfl

theorem forceOne_core (hn : n < 2) : forceOne s (0x48 + n) =
    let z := forced s (0x48 + n)
    if coreRuns z n || coreSt z n == 4 then showHealth (coreLost z n z.clk z.clk true) z.clk
    else fault (if coreSt z n = 2 then setMute z n true else z) (0x48 + n) := by
  simp (disch := omega) only [forceOne, unitSources, if_neg, if_pos, Nat.add_sub_cancel_left]
  rfl

theorem forceOne_program (hn : n < 8) : forceOne s (0x50 + n) = fault (raiseP (forced s (0x50 + n)) n srcProgFault) (0x50 + n) := by
  simp (disch := omega) only [forceOne, unitSources, if_neg, if_pos, Nat.add_sub_cancel_left]
  rfl

theorem forceOne_xlate (hn : n < 8) : forceOne s (0x58 + n) = fault (raiseP (forced s (0x58 + n)) n srcXlateFault) (0x58 + n) := by
  simp (disch := omega) only [forceOne, unitSources, if_neg, if_pos, Nat.add_sub_cancel_left]
  rfl

/-- What forcing the k-th of magazine n's four sources does to z, besides the force bit. -/
def forcedMagazine (z : State) (f n k : Nat) : State :=
  match k with
  | 0 => if hasSession z n then portFail z n else fault (put z (R.MAG_STAT_STATE n) mgFailed) f
  | 1 => if hasSession z n then fault (dropDue z n 5) f else fault (put z (R.MAG_STAT_STATE n) mgDropped) f
  | 2 => fault (raise (setF z (R.SBD_GAUGE_STAT_DISAGREE n)) (sbdSrc n 2)) f
  | _ => fault (raise (setF z (R.SBD_STAT_LIFELOW n)) (sbdSrc n 4)) f

theorem forceOne_magazine {k : Nat} (hn : n < 4) (hk : k < 4) (hf : f = 0x60 + k + 4 * n) :
    forceOne s f = forcedMagazine (forced s f) f n k := by
  have hindex : (f - 0x60) / 4 = n := by omega
  have hkind : f % 4 = k := by omega
  simp (disch := omega) only [forceOne, unitSources, if_neg, if_pos, hindex, hkind]
  rfl

end

end

/-! ## Arming (R491) -/

section
variable {s : State} {t a : Nat}

theorem exec_injArmTimeout_none (h : s.sup.armAt = none) : exec (.injArmTimeout t) s = .next s := by
  refine congrArg Host.Outcome.next ?_
  simp only [h]

theorem exec_injArmTimeout_some (h : s.sup.armAt = some a) : exec (.injArmTimeout t) s =
    .next (if 1200000 + a < t then { stamp s t with sup := { s.sup with armAt := none } } else s) := by
  refine congrArg Host.Outcome.next ?_
  simp only [h]
  rfl

section
variable (hrun : unitsRun s = true)
include hrun

theorem exec_injArmSecond_none (h : s.sup.armAt = none) :
    exec (.injArmSecond t) s = .next { stamp s t with sup := { s.sup with armAt := none } } := by
  refine answered_next hrun ?_
  simp only [h]

theorem exec_injArmSecond_some (h : s.sup.armAt = some a) : exec (.injArmSecond t) s =
    .next (let u := { stamp s t with sup := { s.sup with armAt := none } }
      if t ≤ 1200000 + a then put u R.INJ_STAT_ARMED 1 else u) := by
  refine answered_next hrun ?_
  simp only [h]
  rfl

end

end

end Sys2Proof.Machine

open Sys2Proof Sys2Proof.Machine

/-- Settles O55: a source's class gives the response, its cause what a clear may do, its number what forcing it does besides. What a
forced source stands for where its cause names no unit (log entry 70), and that a second first key starts the sequence again (log entry
75), are the model's choices. -/
theorem faultsRespondClearForceAndArm : Obligations.FaultsRespondClearForceAndArm := by
  unfold Obligations.FaultsRespondClearForceAndArm
  refine ⟨fun s f hf => ⟨fault_masked hf, fun hmask => ?response⟩, fun s w v hrun => answered_next hrun rfl, fun s f => ?clear,
    fun s => ?causes, fun s w v hrun => ⟨fun hoff => ?unarmed, fun hon => ?armed⟩, fun s f => ?force, fun s t hrun => ?keys,
    fun s t => ⟨exec_injArmTimeout_none, fun a ha => ?timeout⟩, fun s hrun => ?disarm⟩
  case response =>
    have hfault := fault_notified hf hmask
    exact ⟨fun h => hfault.trans (fltNotify_correctable h), fun h => hfault.trans (fltNotify_partition h),
      fun h => hfault.trans (fltNotify_device h), fun h => hfault.trans (fltNotify_fatal h)⟩
  case clear =>
    intro z0 z
    have hz : unforce s f = z := unforce_eq s f
    rw [← hz]
    exact ⟨statClear_unassigned, statClear_present, statClear_absent⟩
  case causes =>
    exact ⟨decide_eq_true_iff, decide_eq_true_iff, rfl, rfl, rfl,
      (Bool.or_eq_true_iff ..).trans (or_congr (isSet_iff ..) (isSet_iff ..)), rfl, fun n => causePresent_strand s,
      fun c hc => by rw [causePresent_core s hc, Bool.or_eq_true],
      fun n hn => ⟨by rw [causePresent_gauge s hn, beq_iff_eq], by rw [causePresent_life s hn, isSet_iff]⟩, rfl,
      fun f => causePresent_event s⟩
  case unarmed => exact .of_answered hrun (congrArg (fun x => answered s (finSettle x)) (if_neg (Bool.eq_false_iff.1 hoff)))
  case armed => exact .of_answered hrun (congrArg (fun x => answered s (finSettle x)) (if_pos hon))
  case force =>
    refine ⟨forceOne_response, ?lostIdle, ?lostRecording, ?hot, ?ue, ?bus, ?pool, forceOne_strand, ?seqs, ?cores, ?parts, ?mags⟩
    case lostIdle =>
      rintro rfl hidle
      exact forceOne_masterLost.trans (congrArg (fault · 0x01) (if_neg (Bool.eq_false_iff.1 hidle)))
    case lostRecording => exact fun hrec => forceOne_masterLost.trans (congrArg (fault · 0x01) (if_pos hrec))
    case hot => rintro rfl; rfl
    case ue => rintro rfl; rfl
    case bus => rintro rfl; rfl
    case pool => rintro rfl; rfl
    case seqs =>
      rintro q hq rfl
      rw [forceOne_seq hq]
      exact ⟨fun hidle => by simp only [forced, hidle], fun p hp => by simp only [forced, hp]⟩
    case cores =>
      rintro c hc rfl
      rw [forceOne_core hc]
      refine ⟨fun hup => if_pos ?_, fun hreset => (if_neg ?_).trans (congrArg (fault · _) (if_pos hreset))⟩
      · exact (Bool.or_eq_true_iff ..).2 (hup.imp_right beq_iff_eq.2)
      · rw [Bool.or_eq_true, coreRuns_iff, beq_iff_eq]
        rw [show coreSt (forced s (0x48 + c)) c = 2 from hreset]
        decide
    case parts => exact fun p hp => ⟨by rintro rfl; exact forceOne_program hp, by rintro rfl; exact forceOne_xlate hp⟩
    case mags =>
      exact fun n hn => ⟨forceOne_magazine (k := 0) hn (by decide), forceOne_magazine (k := 1) hn (by decide),
        forceOne_magazine (k := 2) hn (by decide), forceOne_magazine (k := 3) hn (by decide)⟩
  case keys =>
    refine ⟨answered_next hrun rfl, exec_injArmSecond_none hrun, fun a ha => ?_⟩
    have hexec := exec_injArmSecond_some (t := t) hrun ha
    exact ⟨fun hle => hexec.trans (congrArg Host.Outcome.next (if_pos (by omega))),
      fun hlt => hexec.trans (congrArg Host.Outcome.next (if_neg (by omega)))⟩
  case timeout =>
    have hexec := exec_injArmTimeout_some (t := t) ha
    exact ⟨fun hlt => hexec.trans (congrArg Host.Outcome.next (if_pos (by omega))),
      fun hle => hexec.trans (congrArg Host.Outcome.next (if_neg (by omega)))⟩
  case disarm =>
    refine ⟨fun hmaint => answered_next hrun ((if_pos rfl).trans (if_pos hmaint)),
      fun hmode => answered_next hrun ((if_pos rfl).trans (if_neg hmode)),
      fun v h0 hfirst hsecond => answered_next hrun ((if_neg h0).trans (if_neg ?_))⟩
    exact fun h => h.elim hfirst hsecond

end

section
/-! The frame store's DRAM controller: requests, refresh, frequency changes, training and timing sets (R409 to R425). Settles O50. -/

namespace Sys2Proof.Machine

/-! ## Requests (R412, R416, R417) -/

/-- The request leaves the waiting ones, opens its row and enters its port's figures. -/
def requestLeft (s : State) (port addr : Nat) (write : Bool) (since t : Nat) : State :=
  portStat (openRowOf { stamp s t with
    dram := { s.dram with waiting := s.dram.waiting.filter fun r => !sameReq port addr write since r } } addr) port (cyclesNs (t - since))

/-- A corrected read is counted. -/
def readCorrected (s : State) (ce : Bool) : State := if ce then fault (bump s R.DRC_ECC_CE) fltDrcCe else s

section
variable {s : State} {port unit addr since t : Nat}

section
variable (hfree : unitBusy s port addr since = false) (ce : Bool)
include hfree

theorem requestDone_write (ue : Bool) : requestDone s port unit addr true since t ce ue = requestLeft s port addr true since t :=
  (if_neg (Bool.eq_false_iff.1 hfree)).trans (if_pos rfl)

theorem requestDone_read : requestDone s port unit addr false since t ce false = readCorrected (requestLeft s port addr false since t) ce :=
  (if_neg (Bool.eq_false_iff.1 hfree)).trans ((if_neg Bool.false_ne_true).trans (if_neg Bool.false_ne_true))

theorem requestDone_uncorrectable : requestDone s port unit addr false since t ce true =
    readErrorAt (drcUe (readCorrected (requestLeft s port addr false since t) ce) addr) port unit addr :=
  (if_neg (Bool.eq_false_iff.1 hfree)).trans ((if_neg Bool.false_ne_true).trans (if_pos rfl))

end

theorem drcUe_eq (s : State) (addr : Nat) : drcUe s addr =
    put (fault (put2 (bump s R.DRC_ECC_UE) R.DRC_UE_ADDR_LO_ADDR R.DRC_UE_ADDR_HI_ADDR addr) fltDrcUe) (R.HUB_PEND hubDrcUe) 1 :=
  raise_inRange (by decide) (by decide)

theorem readErrorAt_strand (hlow : 4 ≤ port) (hhigh : port ≤ 9) :
    readErrorAt s port unit addr = strandReadError s (3 * (port - 4) + unit % 3) := if_pos ⟨hlow, hhigh⟩

theorem readErrorAt_mover (hport : port = 16) (h : ∃ c < 16, chState s c ≠ chIdle) : readErrorAt s port unit addr = movBusError s addr :=
  (if_neg (by omega)).trans (if_pos ⟨hport, (anyRuns_iff s).2 h⟩)

theorem readErrorAt_moverIdle (hport : port = 16) (h : ∀ c < 16, chState s c = chIdle) : readErrorAt s port unit addr = s := by
  refine (if_neg (by omega)).trans (if_neg fun hruns => ?_)
  obtain ⟨c, hc, hbusy⟩ := (anyRuns_iff s).1 hruns.2
  exact hbusy (h c hc)

theorem readErrorAt_other (h : port < 4 ∨ (9 < port ∧ port ≠ 16)) : readErrorAt s port unit addr = s :=
  (if_neg (by omega)).trans (if_neg fun hruns => by omega)

end

/-! ## Urgency (R415) -/

theorem waitAtPort_new {s : State} {port addr since : Nat} {write : Bool} (level : Nat)
    (h : ∀ r ∈ s.dram.waiting, sameReq port addr write since r = false) : waitAtPort s port addr write since level =
    { s with dram := { s.dram with
      waiting := s.dram.waiting ++ [{ port := port, addr := addr, write := write, since := since, level := level }] } } := by
  refine congrArg (fun w => { s with dram := { s.dram with waiting := w } }) (if_neg ?_)
  rw [Bool.not_eq_true, List.any_eq_false]
  exact fun r hr => Bool.eq_false_iff.1 (h r hr)

/-- Every waiting request still waits, at no lower level. -/
theorem waitAtPort_keeps (s : State) (port addr : Nat) (write : Bool) (since level : Nat) {r : DramReq} (hr : r ∈ s.dram.waiting) :
    ∃ r' ∈ (waitAtPort s port addr write since level).dram.waiting,
      r'.port = r.port ∧ r'.addr = r.addr ∧ r'.write = r.write ∧ r'.since = r.since ∧ r.level ≤ r'.level := by
  unfold waitAtPort
  dsimp only
  split
  next =>
    refine ⟨_, List.mem_map_of_mem hr, ?_⟩
    split
    · exact ⟨rfl, rfl, rfl, rfl, le_max_left ..⟩
    · exact ⟨rfl, rfl, rfl, rfl, le_rfl⟩
  next => exact ⟨r, List.mem_append_left _ hr, rfl, rfl, rfl, rfl, le_rfl⟩

/-! ## Refresh (R419, R420) -/

theorem bankWaits_eq_false_iff (s : State) (b : Nat) : bankWaits s b = false ↔ ∀ r ∈ s.dram.waiting, bankOf s r.addr ≠ b := by
  simp only [bankWaits, List.any_eq_false, beq_iff_eq]

section
variable {s : State} {b : Nat}

theorem refreshDue_idle (h : bankWaits s b = false) : refreshDue s b false = setOwed (closeRow s b) b (owed s b - 1) :=
  if_pos (by rw [h]; decide)

theorem refreshDue_busy (h : bankWaits s b = true) : refreshDue s b false = refreshDue s b true := by
  unfold refreshDue
  rw [h]
  rfl

theorem refreshDue_postponed (h : owed s b + 1 < get s R.DRC_REF_POSTMAX) : refreshDue s b true = setOwed s b (owed s b + 1) :=
  (if_neg (fun hidle => hidle rfl)).trans (if_pos h)

theorem refreshDue_forced (h : get s R.DRC_REF_POSTMAX ≤ owed s b + 1) :
    refreshDue s b true = bump (setOwed (closeRow s b) b (owed s b)) R.DRC_REF_CNT_FORCED :=
  (if_neg (fun hidle => hidle rfl)).trans (if_neg (Nat.not_lt.2 h))

end

/-! ## Frequency changes (R422 to R424) -/

section
variable {s : State}

theorem freqRequest_taken (r : FreqReq) (h : ∀ j f, s.dram.req ≠ some ⟨j, f, true⟩) : freqRequest s r =
    let u := { s with dram := { s.dram with req := some r } }
    if get s R.DRC_FREQ_STAT_STATE = 2 then u else put u R.DRC_FREQ_STAT_STATE 1 := by
  unfold freqRequest
  split
  next hhot => exact absurd hhot (h _ _)
  next => rfl

theorem freqRequest_hot {j : Nat} {f : Bool} (r : FreqReq) (h : s.dram.req = some ⟨j, f, true⟩) : freqRequest s r = s := by
  simp only [freqRequest, h]

theorem freqDone_eq (relocked : Bool) (t : Nat) (h : get s R.DRC_FREQ_STAT_STATE = 2) : freqDone s relocked t =
    let a := if relocked then put (stamp s t) R.DRC_STAT_SET s.dram.rateSet
      else { put (stamp s t) R.DRC_FREQ_STAT_FAILED 1 with dram := { s.dram with rateSet := get s R.DRC_STAT_SET } }
    let b := put { a with dram := { a.dram with postponed := [], openRow := [] } } R.DRC_FREQ_STAT_LAST
      (min 255 ((t - s.dram.started) / 120))
    let c := put (put b R.DRC_STAT_FCBUSY 0) R.DRC_FREQ_STAT_STATE (if s.dram.req.isSome then 1 else 0)
    overcommitCheck (put (bump c R.DRC_FREQ_CNT_COUNT) (R.HUB_PEND hubDrcFreqDone) 1) := by
  refine (if_neg (fun hidle => hidle h)).trans (congrArg overcommitCheck ((raise_inRange (by decide) (by decide)).trans ?_))
  cases relocked <;> rfl

end

end Sys2Proof.Machine

open Sys2Proof Sys2Proof.Machine

/-- Settles O50: what waits, what is owed and what is asked decide each event's outcome. That an idle refresh pays one postponed one back
(log entry 53), that the hot event's request is neither replaced nor cancelled and that a failed relock counts as a change (log entry 54),
and that a request waiting for its bank makes a refresh interval busy (log entry 79), are the model's choices. -/
theorem dramRequestsRefreshesAndSetsBehaveAsStated : Obligations.DramRequestsRefreshesAndSetsBehaveAsStated := by
  unfold Obligations.DramRequestsRefreshesAndSetsBehaveAsStated
  refine ⟨fun s port unit addr since t write ce ue => ?request, fun s port addr since t write => ?urgency, fun s chan bank => ?refresh,
    fun s t hlate => congrArg Host.Outcome.next (if_pos hlate), fun s codes hlen => ?rates,
    fun s k hrun hfree => ?asked, fun s k j f hrun hhot => ?hot, fun s hrun hnone => ?noRequest, fun s k f hrun hreq => ?cancelled,
    fun s relocked t hchanging => congrArg Host.Outcome.next (freqDone_eq relocked t hchanging), fun s v hrun => ?train,
    fun s ok k hbusy => ?trained, fun s k reg v hrun => answered_next hrun rfl⟩
  case request =>
    refine ⟨fun hbusy => .of_finSettle (congrArg finSettle (if_pos hbusy)), fun hfree => ⟨?writes, ?reads, ?fails⟩⟩
    case writes => rintro rfl; exact .of_finSettle (congrArg finSettle (requestDone_write hfree ce ue))
    case reads => rintro rfl rfl; exact .of_finSettle (congrArg finSettle (requestDone_read hfree ce))
    case fails =>
      rintro rfl rfl
      have hdone := (requestDone_uncorrectable (unit := unit) (t := t) hfree ce).trans
        (congrArg (readErrorAt · port unit addr) (drcUe_eq _ addr))
      refine ⟨fun hother => ?_, fun hlow hhigh => ?_, fun hmover hruns => ?_, fun hmover hidle => ?_⟩
      · exact .of_finSettle (congrArg finSettle (hdone.trans (readErrorAt_other hother)))
      · exact .of_finSettle (congrArg finSettle (hdone.trans (readErrorAt_strand hlow hhigh)))
      · exact .of_finSettle (congrArg finSettle (hdone.trans (readErrorAt_mover hmover hruns)))
      · exact .of_finSettle (congrArg finSettle (hdone.trans (readErrorAt_moverIdle hmover hidle)))
  case urgency =>
    refine ⟨fun hnew => congrArg Host.Outcome.next (waitAtPort_new (s := stamp s t) _ hnew), fun u hu r hr => ?_⟩
    obtain rfl := Host.Outcome.next.inj hu
    exact waitAtPort_keeps (stamp s t) port addr write since _ hr
  case refresh =>
    refine ⟨fun hidle => congrArg Host.Outcome.next (refreshDue_idle ((bankWaits_eq_false_iff s _).2 hidle)),
      fun hbusy => congrArg Host.Outcome.next (refreshDue_busy ?_), fun hlt => congrArg Host.Outcome.next (refreshDue_postponed hlt),
      fun hle => congrArg Host.Outcome.next (refreshDue_forced hle)⟩
    exact Bool.eq_true_of_not_eq_false fun hidle => hbusy ((bankWaits_eq_false_iff s _).1 hidle)
  case rates =>
    change execMr4Read codes s = _
    unfold execMr4Read
    rw [List.take_of_length_le hlen.le]
  case asked => exact ⟨answered_next hrun (freqRequest_taken _ hfree), answered_next hrun (freqRequest_taken _ hfree)⟩
  case hot =>
    refine ⟨answered_next hrun (freqRequest_hot _ hhot), answered_next hrun (freqRequest_hot _ hhot), answered_next hrun ?_⟩
    simp only [hhot]
  case noRequest =>
    refine answered_next hrun ?_
    simp only [hnone]
  case cancelled =>
    refine answered_next hrun ?_
    simp only [hreq]
    rfl
  case train =>
    refine ⟨fun hno => answered_next hrun (if_pos (Bool.eq_false_iff.1 hno)),
      fun hyes hopen hfree => answered_next hrun ((if_neg (not_not_intro hyes)).trans (if_pos ⟨hopen, Option.isNone_iff_eq_none.2 hfree⟩)),
      fun hyes hclosed => answered_next hrun ((if_neg (not_not_intro hyes)).trans (if_neg fun hready => ?_))⟩
    exact hclosed.elim (fun hno => Bool.eq_false_iff.1 hno hready.1) fun hbusy => hbusy (Option.isNone_iff_eq_none.1 hready.2)
  case trained =>
    refine congrArg Host.Outcome.next ?_
    simp only [hbusy]

end

section
/-! The magazine ring commands and the spool operations (R433, R434, R447, R452 to R454, R466). Settles O52. -/

namespace Sys2Proof.Machine

/-! ## Ring commands (R433, R434, R466) -/

section
variable {s : State} {p : Part} {r : Ring} {id : Nat}

theorem exec_magOpen_free (h : mgWaits s p r id 0x10 = false) : exec (.magOpen p r id) s = finSettle (withCmd s p r id 0x10 magOpen) :=
  if_neg (Bool.eq_false_iff.1 h)

theorem exec_magClose_free (h : mgWaits s p r id 0x11 = false) : exec (.magClose p r id) s = finSettle (withCmd s p r id 0x11 magClose) :=
  if_neg (Bool.eq_false_iff.1 h)

theorem exec_magFormat_free (h : mgWaits s p r id 0x12 = false) :
    exec (.magFormat p r id) s = finSettle (withCmd s p r id 0x12 magFormat) :=
  if_neg (Bool.eq_false_iff.1 h)

end

section
variable {c : RingCmd} {priv : Bool} {fields : List (Nat × Nat)} {s : State} {k : State → State}

theorem mgChecked_denied (hpriv : priv = true) (hpart : c.part ≠ 0) : mgChecked c priv fields s k = complete s c stPrivDenied 0 :=
  if_pos ⟨hpriv, hpart⟩

section
variable (hmay : priv = false ∨ c.part = 0)
include hmay

theorem not_denied : ¬ (priv = true ∧ c.part ≠ 0) :=
  fun h => hmay.elim (fun hpub => Bool.eq_false_iff.1 hpub h.1) fun hpart => h.2 hpart

theorem mgChecked_badField (h : formOk c.entry ((4, 1) :: fields) = false ∨ 4 ≤ mgPortOf c) :
    mgChecked c priv fields s k = complete s c stBadField 0 :=
  (if_neg (not_denied hmay)).trans (if_pos (h.imp_left Bool.eq_false_iff.1))

theorem mgChecked_passes (hform : formOk c.entry ((4, 1) :: fields) = true) (hport : mgPortOf c < 4) :
    mgChecked c priv fields s k = k s :=
  (if_neg (not_denied hmay)).trans (if_neg fun h => h.elim (fun hbad => hbad hform) (Nat.not_le.2 hport))

end

end

/-- The form of MAG_FORMAT is right. -/
def formatFits (c : RingCmd) : Prop := formOk c.entry [(4, 1), (5, 1)] = true ∧ mgPortOf c < 4 ∧ leAt c.entry 5 1 < 2

/-- The form of HOSTIO is right. -/
def hostioFits (c : RingCmd) : Prop :=
  formOk c.entry [(4, 1), (5, 1), (8, 8), (0x10, 4), (0x18, 8)] = true ∧ mgPortOf c < 4 ∧ leAt c.entry 5 1 < 2 ∧
    leAt c.entry 0x10 4 ≠ 0 ∧ leAt c.entry 0x10 4 ≤ 256 ∧ leAt c.entry 0x18 8 % 4096 = 0

/-- The port and the mode are right for HOSTIO. -/
def hostioReady (c : RingCmd) (s : State) : Prop :=
  hasSession s (mgPortOf c) = true ∧ (bitAt (leAt c.entry 5 1) 0 = false ∨ modeOf s = modeIDLE ∨ modeOf s = modeMAINT)

/-- The port and the mode are right for MAG_FORMAT. -/
def formatReady (c : RingCmd) (s : State) : Prop :=
  (modeOf s = modeIDLE ∨ modeOf s = modeMAINT) ∧ hasSession s (mgPortOf c) = false ∧ mgReachable s (mgPortOf c) = true

section
variable {c : RingCmd} {s : State}

section
variable (hpart : c.part = 0) (hform : formOk c.entry [(4, 1)] = true) (hport : leAt c.entry 4 1 < 4)
include hpart hform hport

theorem magOpen_checked : magOpen c s =
    let n := mgPortOf c
    if hasSession s n then openEnd s n c 6 0
    else if ¬ mgReachable s n then complete s c stNotReady 1
    else addOp s n (.opening c) (bringUp ++ [.act .openHdrs]) 2 :=
  mgChecked_passes (.inr hpart) hform hport

theorem magClose_checked : magClose c s =
    let n := mgPortOf c
    if ¬ hasSession s n ∨ clipOn s n ∨ magState s n ≠ mgSession then complete s c stNotReady 0
    else addOp s n (.closing (some c))
      [.cmds [{ q := 0, kind := .flush, lba := 0, blocks := 0, data := [] }], .act .closeHdr, .act .closeDone] 0 :=
  mgChecked_passes (.inr hpart) hform hport

end

section
variable (hpart : c.part = 0)
include hpart

theorem magFormat_badField (h : ¬ formatFits c) : magFormat c s = complete s c stBadField 0 := by
  by_cases hshared : formOk c.entry [(4, 1), (5, 1)] = true ∧ mgPortOf c < 4
  · obtain ⟨hform, hport⟩ := hshared
    exact (mgChecked_passes (.inr hpart) hform hport).trans (if_pos (Nat.not_lt.1 fun hfl => h ⟨hform, hport, hfl⟩))
  · exact mgChecked_badField (.inr hpart) ((not_and_or.1 hshared).imp Bool.eq_false_iff.2 Nat.not_lt.1)

section
variable (hfits : formatFits c)
include hfits

theorem magFormat_fits : magFormat c s =
    let n := mgPortOf c
    if (modeOf s ≠ modeIDLE ∧ modeOf s ≠ modeMAINT) ∨ hasSession s n ∨ ¬ mgReachable s n then complete s c stNotReady 0
    else addOp s n (.formatting c (bitAt (leAt c.entry 5 1) 0)) (bringUp ++ [.act .fmtStart]) 0 := by
  obtain ⟨hform, hport, hfl⟩ := hfits
  exact (mgChecked_passes (.inr hpart) hform hport).trans (if_neg (Nat.not_le.2 hfl))

theorem magFormat_notReady (h : ¬ formatReady c s) : magFormat c s = complete s c stNotReady 0 := by
  refine (magFormat_fits hpart hfits).trans (if_pos ?_)
  simp only [formatReady, not_and_or, not_or, Bool.not_eq_false] at h
  exact h

theorem magFormat_begins (h : formatReady c s) : magFormat c s =
    addOp s (mgPortOf c) (.formatting c (bitAt (leAt c.entry 5 1) 0)) (bringUp ++ [.act .fmtStart]) 0 := by
  obtain ⟨hmode, hfree, hreach⟩ := h
  refine (magFormat_fits hpart hfits).trans (if_neg ?_)
  rintro (⟨hidle, hmaint⟩ | hbusy | hoff)
  · exact hmode.elim hidle hmaint
  · exact Bool.eq_false_iff.1 hfree hbusy
  · exact hoff hreach

end

end

/-- HOSTIO's operation is created; that of a write asks for the host's data. -/
def hostioIssued (c : RingCmd) (s : State) : State :=
  let n := mgPortOf c
  let k := leAt c.entry 0x10 4
  if bitAt (leAt c.entry 5 1) 0 then
    startOp (addOp s n (.hostio c true) [.host, .act .ioWrite] 0) c.part (.magDirect n s.mags.nextOp) (leAt c.entry 0x18 8) (4096 * k)
      false []
  else addOp s n (.hostio c false) [.cmds (readReqs s n 6 (leAt c.entry 8 8) k), .act .ioDone] 0

theorem hostio_denied (hwrite : bitAt (leAt c.entry 5 1) 0 = true) (hpart : c.part ≠ 0) : hostio c s = complete s c stPrivDenied 0 := by
  unfold hostio
  exact mgChecked_denied hwrite hpart

/-- HOSTIO once the checks that the magazine commands share have passed. -/
theorem hostio_checked (hmay : bitAt (leAt c.entry 5 1) 0 = false ∨ c.part = 0)
    (hform : formOk c.entry [(4, 1), (5, 1), (8, 8), (0x10, 4), (0x18, 8)] = true) (hport : mgPortOf c < 4) : hostio c s =
    let n := mgPortOf c
    let w := bitAt (leAt c.entry 5 1) 0
    let k := leAt c.entry 0x10 4
    if 2 ≤ leAt c.entry 5 1 ∨ k = 0 ∨ 256 < k ∨ leAt c.entry 0x18 8 % 4096 ≠ 0 then complete s c stBadField 0
    else if ¬ hasSession s n ∨ (w ∧ modeOf s ≠ modeIDLE ∧ modeOf s ≠ modeMAINT) then complete s c stNotReady 0
    else if (sessOf s n).nsze < leAt c.entry 8 8 + k then complete s c stBadField 0
    else hostioIssued c s := by
  unfold hostio
  exact mgChecked_passes hmay hform hport

section
variable (hmay : bitAt (leAt c.entry 5 1) 0 = false ∨ c.part = 0)
include hmay

theorem hostio_badForm (h : ¬ hostioFits c) : hostio c s = complete s c stBadField 0 := by
  by_cases hshared : formOk c.entry [(4, 1), (5, 1), (8, 8), (0x10, 4), (0x18, 8)] = true ∧ mgPortOf c < 4
  · obtain ⟨hform, hport⟩ := hshared
    refine (hostio_checked hmay hform hport).trans (if_pos ?_)
    simp only [hostioFits, hform, hport, true_and, not_and_or, Nat.not_lt, Nat.not_le, not_not] at h
    exact h
  · unfold hostio
    exact mgChecked_badField hmay ((not_and_or.1 hshared).imp Bool.eq_false_iff.2 Nat.not_lt.1)

section
variable (hfits : hostioFits c)
include hfits

theorem hostio_fits : hostio c s =
    let n := mgPortOf c
    let w := bitAt (leAt c.entry 5 1) 0
    let k := leAt c.entry 0x10 4
    if ¬ hasSession s n ∨ (w ∧ modeOf s ≠ modeIDLE ∧ modeOf s ≠ modeMAINT) then complete s c stNotReady 0
    else if (sessOf s n).nsze < leAt c.entry 8 8 + k then complete s c stBadField 0
    else hostioIssued c s := by
  obtain ⟨hform, hport, hfl, hsome, hmost, halign⟩ := hfits
  exact (hostio_checked hmay hform hport).trans (if_neg (by omega))

theorem hostio_notReady (h : ¬ hostioReady c s) : hostio c s = complete s c stNotReady 0 := by
  refine (hostio_fits hmay hfits).trans (if_pos ?_)
  simp only [hostioReady, not_and_or, not_or, Bool.not_eq_false] at h
  exact h

section
variable (hready : hostioReady c s)
include hready

theorem hostio_ready : hostio c s =
    if (sessOf s (mgPortOf c)).nsze < leAt c.entry 8 8 + leAt c.entry 0x10 4 then complete s c stBadField 0 else hostioIssued c s := by
  obtain ⟨hsess, hmode⟩ := hready
  refine (hostio_fits hmay hfits).trans (if_neg ?_)
  rintro (hnone | ⟨hwrite, hidle, hmaint⟩)
  · exact hnone hsess
  · exact hmode.elim (fun hread => Bool.eq_false_iff.1 hread hwrite) fun hmode => hmode.elim hidle hmaint

end

end

end

end

section
variable {s : State} {p : Part} {r : Ring} {id : Nat} {c : RingCmd} (hfind : findCmd s p r id 0x13 = some c)
include hfind

theorem hostioRow_found (w : Bool) : hostioRow s p r id w = if bitAt (leAt c.entry 5 1) 0 = w then hostio c (dropCmd s c) else s := by
  rw [hostioRow, hfind]

/-- HOSTIO's row is that of its WRITE flag. -/
theorem completes_hostio {u : State} (h : hostio c (dropCmd s c) = u) :
    Completes (if bitAt (leAt c.entry 5 1) 0 then .hostioWrite p r id else .hostioRead p r id) s u := by
  subst h
  cases hw : bitAt (leAt c.entry 5 1) 0 with
  | false => exact .of_finSettle (congrArg finSettle ((hostioRow_found hfind false).trans (if_pos hw)))
  | true => exact .of_finSettle (congrArg finSettle ((hostioRow_found hfind true).trans (if_pos hw)))

theorem completes_hostio_otherRow :
    Completes (if bitAt (leAt c.entry 5 1) 0 then .hostioRead p r id else .hostioWrite p r id) s s := by
  cases hw : bitAt (leAt c.entry 5 1) 0 with
  | false => exact .of_finSettle (congrArg finSettle ((hostioRow_found hfind true).trans (if_neg (by rw [hw]; decide))))
  | true => exact .of_finSettle (congrArg finSettle ((hostioRow_found hfind false).trans (if_neg (by rw [hw]; decide))))

end

/-! ## Spool operations (R452, R453) -/

section
variable {s : State} {q k : Nat} {x : SpoolReq} (hfind : (s.mags.spool.find? fun x => x.q == q) = some x)
include hfind

theorem spoolRow_found : spoolRow s q k =
    if spOp x.desc = k ∨ 4 < spOp x.desc then spTake { s with mags := { s.mags with spool := s.mags.spool.erase x } } x else s := by
  rw [spoolRow, hfind]

end

/-- An operation ends without a transfer. -/
def spEnds (s : State) (x : SpoolReq) (mem st : Nat) : State := spoolDone s x st (spDoneFlags false false false false) mem 0

/-- The references of a WRITE_FRAME's or DISCARD's buffers are released. -/
def spFreed (s : State) (x : SpoolReq) : State := if spOp x.desc ≤ 1 then releaseAll s (spRefs s x.desc) else s

/-- They are released where its descriptor names the partition's own memory. -/
def spLeft (s : State) (x : SpoolReq) : State := if spAddrs s x then spFreed s x else s

/-- The operation is one that its queue carries. -/
def spKnown (x : SpoolReq) : Prop := spOp x.desc ≤ 4 ∧ spAllowed (spOp x.desc) x.q = true

/-- No check of R453 that comes before the session's and the clip's fails. -/
def spGood (s : State) (x : SpoolReq) : Prop :=
  queuePermitted (modeOf s) x.q = true ∧ spKnown x ∧ spForm x.desc = true ∧ x.dup = false ∧ spAddrs s x = true

section
variable {s : State} {x : SpoolReq}

theorem spTake_modeDenied (h : ¬ queuePermitted (modeOf s) x.q = true) : spTake s x = spEnds (spLeft s x) x 0 jsModeDenied := if_pos h

theorem spKnown_not_bad (hknown : spKnown x) : ¬ (4 < spOp x.desc ∨ ¬ spAllowed (spOp x.desc) x.q = true) :=
  fun h => h.elim (Nat.not_lt.2 hknown.1) fun hno => hno hknown.2

section
variable (hmay : queuePermitted (modeOf s) x.q = true)
include hmay

theorem spTake_badOpcode (h : ¬ spKnown x) : spTake s x = spEnds s x 0 jsBadOpcode :=
  (if_neg (not_not_intro hmay)).trans (if_pos ((not_and_or.1 h).imp_left Nat.not_le.1))

section
variable (hknown : spKnown x)
include hknown

theorem spTake_badDesc (h : spForm x.desc = false) : spTake s x = spEnds (spLeft s x) x 0 jsBadDesc :=
  (if_neg (not_not_intro hmay)).trans ((if_neg (spKnown_not_bad hknown)).trans (if_pos (Bool.eq_false_iff.1 h)))

section
variable (hform : spForm x.desc = true)
include hform

theorem spTake_tagBusy (h : x.dup = true) : spTake s x = spEnds (spLeft s x) x 0 jsTagBusy :=
  (if_neg (not_not_intro hmay)).trans ((if_neg (spKnown_not_bad hknown)).trans ((if_neg (not_not_intro hform)).trans (if_pos h)))

theorem spTake_badAddr (hdup : x.dup = false) (h : spAddrs s x = false) : spTake s x = spEnds s x 0 jsBadAddr :=
  (if_neg (not_not_intro hmay)).trans ((if_neg (spKnown_not_bad hknown)).trans ((if_neg (not_not_intro hform)).trans
    ((if_neg (Bool.eq_false_iff.1 hdup)).trans (if_pos (Bool.eq_false_iff.1 h)))))

end

end

end

section
variable (hgood : spGood s x)
include hgood

theorem spTake_good : spTake s x =
    if 2 ≤ spOp x.desc ∧ (4 ≤ spPort x.desc ∨ ¬ hasSession s (spPort x.desc)) then spEnds s x 0 spNoSession
    else if spOp x.desc ≤ 1 then
      match spClip s x with
      | none => spEnds (spFreed s x) x 0 spNoClip
      | some c => spWrite s x c
    else if spOp x.desc = 2 then spReadFrame s x
    else spBlocks s x := by
  obtain ⟨hmay, hknown, hform, hdup, haddrs⟩ := hgood
  exact (if_neg (not_not_intro hmay)).trans ((if_neg (spKnown_not_bad hknown)).trans ((if_neg (not_not_intro hform)).trans
    ((if_neg (Bool.eq_false_iff.1 hdup)).trans (if_neg (not_not_intro haddrs)))))

theorem spTake_noSession (hop : 2 ≤ spOp x.desc) (h : 4 ≤ spPort x.desc ∨ hasSession s (spPort x.desc) = false) :
    spTake s x = spEnds s x 0 spNoSession :=
  (spTake_good hgood).trans (if_pos ⟨hop, h.imp_right Bool.eq_false_iff.1⟩)

section
variable (hop : spOp x.desc ≤ 1)
include hop

theorem spTake_noClip (h : spClip s x = none) : spTake s x = spEnds (spFreed s x) x 0 spNoClip := by
  rw [spTake_good hgood, if_neg (by omega), if_pos hop, h]

theorem spTake_clip {c : Clip} (h : spClip s x = some c) : spTake s x = spWrite s x c := by
  rw [spTake_good hgood, if_neg (by omega), if_pos hop, h]

end

section
variable (hop : 2 ≤ spOp x.desc) (hport : spPort x.desc < 4) (hsess : hasSession s (spPort x.desc) = true)
include hop hport hsess

theorem spTake_session : spTake s x = if spOp x.desc = 2 then spReadFrame s x else spBlocks s x := by
  rw [spTake_good hgood, if_neg (fun h => h.2.elim (Nat.not_le.2 hport) fun hno => hno hsess), if_neg (by omega)]

end

end

end

/-! ## A frame or a gap (R447) -/

/-- The frame of a spool operation is not in the pipeline as one that can be written. -/
def frameMissing (s : State) (x : SpoolReq) (c : Clip) : Bool :=
  match findPipe s (spTick x.desc) with
  | some f => f.kind != 0
  | none => !c.alaz

section
variable {s : State} {x : SpoolReq} {c : Clip}

theorem spWrite_gap (h : frameMissing s x c = true) :
    spWrite s x c = spPlace s c x true (gapFlag (findPipe s (spTick x.desc))) [] [] [] (spRefs s x.desc) :=
  (if_pos (.inr h)).trans (congrArg (fun o => spPlace s c x true (gapFlag o) [] [] [] (spRefs s x.desc)) (if_pos h))

section
variable (h : frameMissing s x c = false)
include h

theorem spWrite_discard (hop : spOp x.desc = 1) : spWrite s x c = spPlace s c x true flDropped [] [] [] (spRefs s x.desc) := by
  have hnone : (if frameMissing s x c = true then findPipe s (spTick x.desc) else none) = none := if_neg (Bool.eq_false_iff.1 h)
  rw [show flDropped = gapFlag none from rfl, ← hnone]
  exact if_pos (.inl hop)

section
variable (hop : spOp x.desc = 0)
include hop

theorem spWrite_frame : spWrite s x c =
    let m := fsRead s (spMeta x.desc) (spMetaLen x.desc)
    if c.alaz then
      match finalCkpts s { part := x.part, stream := b2n c.proxy, tick := spTick x.desc } (fsRead s (spLayout x.desc) 64) with
      | none => spEnds (releaseAll s (spRefs s x.desc)) x 0 spNotCoded
      | some cs =>
        let (e, offs, ovf) := alazEssence s x { part := x.part, stream := b2n c.proxy, tick := spTick x.desc } cs
        spPlace s c x false (slotFlags (findPipe s (spTick x.desc)) + flOvf * b2n ovf) m e offs (spRefs s x.desc)
    else spPlace s c x false (slotFlags (findPipe s (spTick x.desc))) m (rawEssence s (spTick x.desc)) [] [] := by
  refine if_neg fun hgap => hgap.elim (fun hone => ?_) (Bool.eq_false_iff.1 h)
  exact absurd (hop.symm.trans hone) Nat.zero_ne_one

theorem spWrite_raw (hraw : c.alaz = false) : spWrite s x c =
    spPlace s c x false (slotFlags (findPipe s (spTick x.desc))) (fsRead s (spMeta x.desc) (spMetaLen x.desc))
      (rawEssence s (spTick x.desc)) [] [] :=
  (spWrite_frame h hop).trans (if_neg (Bool.eq_false_iff.1 hraw))

section
variable (hcoded : c.alaz = true)
include hcoded

theorem spWrite_notCoded
    (hnone : finalCkpts s { part := x.part, stream := b2n c.proxy, tick := spTick x.desc } (fsRead s (spLayout x.desc) 64) = none) :
    spWrite s x c = spEnds (releaseAll s (spRefs s x.desc)) x 0 spNotCoded := by
  refine (spWrite_frame h hop).trans ((if_pos hcoded).trans ?_)
  rw [hnone]

theorem spWrite_coded {cs : List BandSt}
    (hsome : finalCkpts s { part := x.part, stream := b2n c.proxy, tick := spTick x.desc } (fsRead s (spLayout x.desc) 64) = some cs) :
    spWrite s x c =
      let (e, offs, ovf) := alazEssence s x { part := x.part, stream := b2n c.proxy, tick := spTick x.desc } cs
      spPlace s c x false (slotFlags (findPipe s (spTick x.desc)) + flOvf * b2n ovf) (fsRead s (spMeta x.desc) (spMetaLen x.desc)) e offs
        (spRefs s x.desc) := by
  refine (spWrite_frame h hop).trans ((if_pos hcoded).trans ?_)
  rw [hsome]

end

end

end

/-! ## Reads and deallocation (R452, R453) -/

theorem spReadFrame_unlisted (h : lookupKey (sessOf s (spPort x.desc)).dir (spCount x.desc) = none) :
    spReadFrame s x = spEnds s x (spPort x.desc) spNotFound := by
  unfold spReadFrame
  dsimp only
  rw [h]
  rfl

theorem spReadFrame_listed {b : List Byte} (h : lookupKey (sessOf s (spPort x.desc)).dir (spCount x.desc) = some b) : spReadFrame s x =
    if beAt b 0x28 8 = 0 then spEnds s x (spPort x.desc) spNotFound
    else addOp s (spPort x.desc) (.readFrame x) [.cmds (readReqs s (spPort x.desc) x.q (beAt b 0x28 8) 1), .act .rfFooter] 0 := by
  unfold spReadFrame
  dsimp only
  rw [h]
  rfl

theorem spBlocks_read (hop : spOp x.desc = 3) : spBlocks s x =
    if (sessOf s (spPort x.desc)).nsze < spLayout x.desc + spCount x.desc then spEnds s x (spPort x.desc) spRange
    else addOp s (spPort x.desc) (.readBlocks x)
      [.cmds (readReqs s (spPort x.desc) x.q (spLayout x.desc) (spCount x.desc)), .act .rbDone] 0 := if_pos hop

theorem spBlocks_trim (hop : spOp x.desc = 4) : spBlocks s x =
    if trimOk (sessOf s (spPort x.desc)) (spLayout x.desc) (spCount x.desc) = true then
      addOp s (spPort x.desc) (.trimOp x)
        [.cmds [{ q := x.q, kind := .dealloc, lba := spLayout x.desc, blocks := spCount x.desc, data := [] }], .act .trimDone] 0
    else spEnds s x (spPort x.desc) spRange := if_neg (by omega)

end

end Sys2Proof.Machine

open Sys2Proof Sys2Proof.Machine

/-- Settles O52: the checks decide in their order which status ends a command or an operation; one that passes them all is created. That a
command which owns its port waits for another one, what DISCARD, TRIM's range and the released references do (log entry 45), and
MAG_CLOSE's NOT_READY (log entry 85), are the model's choices. -/
theorem magazineCommandsAndSpoolOperationsBeginOrEnd : Obligations.MagazineCommandsAndSpoolOperationsBeginOrEnd := by
  unfold Obligations.MagazineCommandsAndSpoolOperationsBeginOrEnd
  refine ⟨fun s p r id => ⟨fun h => if_pos h, fun h => if_pos h, fun h => if_pos h⟩, fun s p r id c hfind hfree => ?opens,
    fun s p r id c hfind hfree => ?closes, fun s p r id c hfind hfree => ?formats, fun s p r id c hfind => ?hostio,
    fun s q t x hfind => ?spool⟩
  case opens =>
    refine ⟨fun hpart => ?_, fun hpart hbad => ?_, fun hpart hform hport => ⟨fun hsess => ?_, fun hsess hoff => ?_, fun hsess hon => ?_⟩⟩
    · exact .of_withCmd (exec_magOpen_free hfree) hfind (mgChecked_denied rfl hpart)
    · exact .of_withCmd (exec_magOpen_free hfree) hfind (mgChecked_badField (.inr hpart) hbad)
    · exact .of_withCmd (exec_magOpen_free hfree) hfind ((magOpen_checked hpart hform hport).trans (if_pos hsess))
    · exact .of_withCmd (exec_magOpen_free hfree) hfind ((magOpen_checked hpart hform hport).trans
        ((if_neg (Bool.eq_false_iff.1 hsess)).trans (if_pos (Bool.eq_false_iff.1 hoff))))
    · exact .of_withCmd (exec_magOpen_free hfree) hfind ((magOpen_checked hpart hform hport).trans
        ((if_neg (Bool.eq_false_iff.1 hsess)).trans (if_neg (not_not_intro hon))))
  case closes =>
    refine ⟨fun hpart => ?_, fun hpart hbad => ?_, fun hpart hform hport => ⟨fun hsess hclip hstate => ?_, fun hunready => ?_⟩⟩
    · exact .of_withCmd (exec_magClose_free hfree) hfind (mgChecked_denied rfl hpart)
    · exact .of_withCmd (exec_magClose_free hfree) hfind (mgChecked_badField (.inr hpart) hbad)
    · refine .of_withCmd (exec_magClose_free hfree) hfind ((magClose_checked hpart hform hport).trans (if_neg ?_))
      exact fun h => h.elim (fun hno => hno hsess) fun h => h.elim (Bool.eq_false_iff.1 hclip) fun hno => hno hstate
    · exact .of_withCmd (exec_magClose_free hfree) hfind ((magClose_checked hpart hform hport).trans
        (if_pos (hunready.imp_left Bool.eq_false_iff.1)))
  case formats =>
    refine ⟨fun hpart => ?_, fun hpart hbad => ?_, fun hpart hform hport hfl => ⟨fun hmode hsess hon => ?_, fun hunready => ?_⟩⟩
    · exact .of_withCmd (exec_magFormat_free hfree) hfind (mgChecked_denied rfl hpart)
    · refine .of_withCmd (exec_magFormat_free hfree) hfind (magFormat_badField hpart ?_)
      rintro ⟨hform, hport, hfl⟩
      exact hbad.elim (fun hno => Bool.eq_false_iff.1 hno hform) fun h => h.elim (Nat.not_le.2 hport) (Nat.not_le.2 hfl)
    · exact .of_withCmd (exec_magFormat_free hfree) hfind (magFormat_begins hpart ⟨hform, hport, hfl⟩ ⟨hmode, hsess, hon⟩)
    · refine .of_withCmd (exec_magFormat_free hfree) hfind (magFormat_notReady hpart ⟨hform, hport, hfl⟩ ?_)
      rintro ⟨hmode, hsess, hon⟩
      exact hunready.elim (fun h => hmode.elim h.1 h.2) fun h => h.elim (Bool.eq_false_iff.1 hsess) fun hoff => Bool.eq_false_iff.1 hoff hon
  case hostio =>
    refine ⟨completes_hostio_otherRow hfind, fun hwrite hpart => completes_hostio hfind (hostio_denied hwrite hpart),
      fun hmay => ⟨fun hbad => completes_hostio hfind (hostio_badForm hmay hbad),
        fun hfits hunready => completes_hostio hfind (hostio_notReady hmay hfits hunready),
        fun hfits hready hlong => completes_hostio hfind ((hostio_ready hmay hfits hready).trans (if_pos hlong)),
        fun hfits hready hinside => ⟨fun hread => ?_, fun hwrite => ?_⟩⟩⟩
    · exact completes_hostio hfind ((hostio_ready hmay hfits hready).trans
        ((if_neg (Nat.not_lt.2 hinside)).trans (if_neg (Bool.eq_false_iff.1 hread))))
    · exact completes_hostio hfind ((hostio_ready hmay hfits hready).trans ((if_neg (Nat.not_lt.2 hinside)).trans (if_pos hwrite)))
  case spool =>
    intro z e op row n lba m sess
    have hexec : ∀ k < 5, exec (row k) s = finSettle (spoolRow (stamp s t) q k)
      | 0, _ => rfl
      | 1, _ => rfl
      | 2, _ => rfl
      | 3, _ => rfl
      | 4, _ => rfl
    have hrow := fun k hk => (hexec k hk).trans (congrArg finSettle (spoolRow_found (s := stamp s t) hfind))
    refine ⟨fun k hk hother hop => .of_finSettle ((hrow k hk).trans (congrArg finSettle (if_neg ?_))), fun k hk hown => ?own⟩
    · exact fun h => h.elim (fun heq => hother heq.symm) (Nat.not_lt.2 hop)
    case own =>
      intro does ends freed left may known good
      have hdoes : ∀ {u : State}, spTake e x = u → does u := fun h =>
        .of_finSettle ((hrow k hk).trans (congrArg finSettle ((if_pos (hown.imp_left Eq.symm)).trans h)))
      refine ⟨fun hno => hdoes (spTake_modeDenied hno), fun hmay hno => hdoes (spTake_badOpcode hmay hno),
        fun hmay hknown hform => hdoes (spTake_badDesc hmay hknown hform),
        fun hmay hknown hform hdup => hdoes (spTake_tagBusy hmay hknown hform hdup),
        fun hmay hknown hform hdup hno => hdoes (spTake_badAddr hmay hknown hform hdup hno),
        fun hop hgood hno => hdoes (spTake_noSession hgood hop hno), fun hop hgood hno => hdoes (spTake_noClip hgood hop hno),
        fun c hop hgood hclip => ?writes, fun hop hgood hport hsess => ?frame, fun hop hgood hport hsess => ?blocks,
        fun hop hgood hport hsess => ?trims⟩
      case writes =>
        have htake := spTake_clip hgood hop hclip
        have hfreed : freed = releaseAll e (spRefs e x.desc) := if_pos hop
        exact ⟨fun hgap => hdoes (htake.trans (spWrite_gap hgap)), fun hthere hone => hdoes (htake.trans (spWrite_discard hthere hone)),
          fun hthere hzero hraw => hdoes (htake.trans (spWrite_raw hthere hzero hraw)),
          fun hthere hzero hcoded hnone => hdoes (htake.trans ((spWrite_notCoded hthere hzero hcoded hnone).trans
            (congrArg (spEnds · x 0 spNotCoded) hfreed.symm))),
          fun cs hthere hzero hcoded hsome => hdoes (htake.trans (spWrite_coded hthere hzero hcoded hsome))⟩
      case frame =>
        have htake := (spTake_session hgood (by omega) hport hsess).trans (if_pos hop)
        exact ⟨fun hnone => hdoes (htake.trans (spReadFrame_unlisted hnone)),
          fun b hsome hzero => hdoes (htake.trans ((spReadFrame_listed hsome).trans (if_pos hzero))),
          fun b hsome hfooter => hdoes (htake.trans ((spReadFrame_listed hsome).trans (if_neg hfooter)))⟩
      case blocks =>
        have htake := (spTake_session hgood (by omega) hport hsess).trans ((if_neg (by omega)).trans (spBlocks_read hop))
        exact ⟨fun hlong => hdoes (htake.trans (if_pos hlong)), fun hinside => hdoes (htake.trans (if_neg (Nat.not_lt.2 hinside)))⟩
      case trims =>
        have htake := (spTake_session hgood (by omega) hport hsess).trans ((if_neg (by omega)).trans (spBlocks_trim hop))
        exact ⟨fun hno => hdoes (htake.trans (if_neg (Bool.eq_false_iff.1 hno))), fun hyes => hdoes (htake.trans (if_pos hyes))⟩

end

section
/-! The queue scheduler, completions, timeouts, readiness and the shaper's registers (R429 to R432, R456 to R458, R467). Settles O53. -/

namespace Sys2Proof.Machine

/-! ## A scheduler slot (R456) -/

/-- Port n as a scheduler slot finds it: credits accrued, FUAALL up to date. -/
def slotState (s : State) (n t : Nat) : State := fuaAll (magAccrue (stamp s t) n) n

section
variable {s : State} {n t : Nat}

theorem schedulerSlot_closed (h : portIssues (slotState s n t) n = false) : schedulerSlot (stamp s t) n = slotState s n t :=
  if_pos (Bool.eq_false_iff.1 h)

section
variable (hissues : portIssues (slotState s n t) n = true)
include hissues

theorem schedulerSlot_urgent (hzero : queueReady (slotState s n t) n 0 = true) :
    schedulerSlot (stamp s t) n = issueFrom (slotState s n t) n 0 :=
  (if_neg (not_not_intro hissues)).trans (if_pos hzero)

section
variable (hzero : queueReady (slotState s n t) n 0 = false)
include hzero

theorem schedulerSlot_strict (hone : queueReady (slotState s n t) n 1 = true) :
    schedulerSlot (stamp s t) n = issueFrom (slotState s n t) n 1 :=
  (if_neg (not_not_intro hissues)).trans ((if_neg (Bool.eq_false_iff.1 hzero)).trans (if_pos hone))

section
variable (hone : queueReady (slotState s n t) n 1 = false)
include hone

theorem schedulerSlot_weighted : schedulerSlot (stamp s t) n =
    match nextWeighted (slotState s n t) n with
    | none => slotState s n t
    | some (q, left) => cacheFlush (issueFrom (modMag (slotState s n t) n fun m => { m with rr := (q, left) }) n q) n :=
  (if_neg (not_not_intro hissues)).trans ((if_neg (Bool.eq_false_iff.1 hzero)).trans (if_neg (Bool.eq_false_iff.1 hone)))

theorem schedulerSlot_turn {q left : Nat} (h : nextWeighted (slotState s n t) n = some (q, left)) : schedulerSlot (stamp s t) n =
    cacheFlush (issueFrom (modMag (slotState s n t) n fun m => { m with rr := (q, left) }) n q) n := by
  rw [schedulerSlot_weighted hissues hzero hone, h]

theorem schedulerSlot_idle (h : nextWeighted (slotState s n t) n = none) : schedulerSlot (stamp s t) n = slotState s n t := by
  rw [schedulerSlot_weighted hissues hzero hone, h]

end

end

end

end

/-! ## Completions (R430 to R432) -/

/-- The command that a completion names. -/
def completing (s : State) (n cid : Nat) : Option NvCmd := (magOf s n).cmds.find? fun c => c.cid == cid && (c.st == 1 || c.st == 2)

section
variable {s : State} {n cid sc sct dw0 : Nat} {data : List Byte}

theorem nvComplete_unknown (h : completing s n cid = none) : nvComplete s n cid sc sct dw0 data = s := by
  rw [nvComplete, show List.find? _ _ = none from h]

section
variable {c : NvCmd} (h : completing s n cid = some c)
include h

theorem nvComplete_known : nvComplete s n cid sc sct dw0 data =
    if c.kind = .abort then dropNv (magAccrue s n) n cid
    else if sc = 0 ∧ sct = 0 then nvOk (magAccrue s n) n c dw0 data
    else nvError (magAccrue s n) n c := by
  rw [nvComplete, show List.find? _ _ = some c from h]

theorem nvComplete_abort (hkind : c.kind = .abort) : nvComplete s n cid sc sct dw0 data = dropNv (magAccrue s n) n cid :=
  (nvComplete_known h).trans (if_pos hkind)

section
variable (hkind : c.kind ≠ .abort)
include hkind

theorem nvComplete_ok (hsc : sc = 0) (hsct : sct = 0) : nvComplete s n cid sc sct dw0 data = nvOk (magAccrue s n) n c dw0 data :=
  (nvComplete_known h).trans ((if_neg hkind).trans (if_pos ⟨hsc, hsct⟩))

theorem nvComplete_error (herr : sc ≠ 0 ∨ sct ≠ 0) : nvComplete s n cid sc sct dw0 data = nvError (magAccrue s n) n c :=
  (nvComplete_known h).trans ((if_neg hkind).trans (if_neg fun hok => herr.elim (fun hne => hne hok.1) fun hne => hne hok.2))

end

end

end

/-- The error log is read, but for a failed read of it. -/
def errorLogged (s : State) (n : Nat) (c : NvCmd) : State :=
  if c.kind = .errLog then s else addOp s n .errLog [.cmds [adminReq .errLog 1], .act .errDone] (nvOpcode c.kind)

/-- A failed command is no cached write. -/
def errorUncached (s : State) (n : Nat) (c : NvCmd) : State :=
  if (magOf s n).cached.any fun e => e.1 == c.cid then setCached s n ((magOf s n).cached.filter fun e => e.1 != c.cid) else s

section
variable {s : State} {n : Nat} {c : NvCmd} (hkind : c.kind ≠ .abort)
include hkind

theorem nvError_eq : nvError s n c =
    let b := errorUncached (errorLogged s n c) n c
    if c.tries < get b (R.MAG_CFG_RETRY n) then
      modMag b n fun m => { m with cmds := m.cmds.map fun d =>
        if d.cid = c.cid then { d with tries := d.tries + 1, q := d.home, issued := b.clk, st := if d.home = 8 then 1 else 0 } else d }
    else match findMop (dropNv (latNote b n c) n c.cid) n c.op with
      | none => dropNv (latNote b n c) n c.cid
      | some o => cmdFail (dropNv (latNote b n c) n c.cid) n c o := by
  have hlog : (if c.kind = .errLog ∨ c.kind = .abort then s else addOp s n .errLog [.cmds [adminReq .errLog 1], .act .errDone]
      (nvOpcode c.kind)) = errorLogged s n c := by
    simp only [errorLogged, hkind, or_false]
  unfold nvError
  rw [hlog]
  rfl

theorem nvError_again (h : c.tries < get (errorUncached (errorLogged s n c) n c) (R.MAG_CFG_RETRY n)) : nvError s n c =
    modMag (errorUncached (errorLogged s n c) n c) n fun m => { m with cmds := m.cmds.map fun d =>
      if d.cid = c.cid then
        { d with tries := d.tries + 1, q := d.home, issued := (errorUncached (errorLogged s n c) n c).clk,
                 st := if d.home = 8 then 1 else 0 }
      else d } :=
  (nvError_eq hkind).trans (if_pos h)

section
variable (h : get (errorUncached (errorLogged s n c) n c) (R.MAG_CFG_RETRY n) ≤ c.tries)
include h

theorem nvError_lost (hop : findMop (dropNv (latNote (errorUncached (errorLogged s n c) n c) n c) n c.cid) n c.op = none) :
    nvError s n c = dropNv (latNote (errorUncached (errorLogged s n c) n c) n c) n c.cid := by
  refine (nvError_eq hkind).trans ((if_neg (Nat.not_lt.2 h)).trans ?_)
  rw [hop]

theorem nvError_fails {o : MagOp} (hop : findMop (dropNv (latNote (errorUncached (errorLogged s n c) n c) n c) n c.cid) n c.op = some o) :
    nvError s n c = cmdFail (dropNv (latNote (errorUncached (errorLogged s n c) n c) n c) n c.cid) n c o := by
  refine (nvError_eq hkind).trans ((if_neg (Nat.not_lt.2 h)).trans ?_)
  rw [hop]

end

end

/-! ## Timeouts and readiness (R429, R432) -/

/-- The command whose time may be over. -/
def mayTimeOut (s : State) (n cid : Nat) : Option NvCmd := (magOf s n).cmds.find? fun c => c.cid == cid && c.st == 1 && c.kind != .abort

/-- The operation that waits for CSTS.RDY. -/
def awaitsReady (s : State) (n : Nat) : Option MagOp := (magOf s n).ops.find? fun o => match o.steps with | .rdy :: _ => true | _ => false

section
variable {s : State} {n cid : Nat}

theorem cmdTimeout_none (h : mayTimeOut s n cid = none) : cmdTimeout s n cid = s := by
  rw [cmdTimeout, show List.find? _ _ = none from h]

theorem cmdTimeout_some {c : NvCmd} (h : mayTimeOut s n cid = some c) : cmdTimeout s n cid =
    if c.issued + 1200000 * get s (R.MAG_CFG_CMDTO n) ≤ s.clk then
      addCmd (modMag s n fun m => { m with cmds := m.cmds.map fun d => if d.cid = cid then { d with st := 2, abortAt := s.clk } else d })
        n abortOp (adminReq .abort cid)
    else s := by
  rw [cmdTimeout, show List.find? _ _ = some c from h]
  rfl

theorem abortLapsed_iff :
    ((magOf s n).cmds.any fun c => c.kind == .abort && c.lba == cid && decide (10 * msCycles + c.issued ≤ s.clk)) = true ↔
    ∃ c ∈ (magOf s n).cmds, c.kind = .abort ∧ c.lba = cid ∧ 12000000 + c.issued ≤ s.clk := by
  simp only [List.any_eq_true, Bool.and_eq_true, beq_iff_eq, decide_eq_true_eq, and_assoc]
  rfl

theorem readySet_eq (mqes mpsmin : Nat) : readySet s n mqes mpsmin =
    match awaitsReady s n with
    | none => s
    | some o =>
      if mqes < 31 ∨ mpsmin ≠ 0 then opFail s n o
      else modMop (modMag s n fun m => { m with mqes := mqes }) n o.id fun o => { o with steps := o.steps.drop 1 } := rfl

theorem readyTimeout_eq : readyTimeout s n =
    match awaitsReady s n with
    | none => s
    | some o => opFail s n o := rfl

section
variable (h : awaitsReady s n = none)
include h

theorem readySet_none (mqes mpsmin : Nat) : readySet s n mqes mpsmin = s := by rw [readySet_eq, h]

theorem readyTimeout_none : readyTimeout s n = s := by rw [readyTimeout_eq, h]

end

section
variable {o : MagOp} (h : awaitsReady s n = some o)
include h

theorem readySet_some (mqes mpsmin : Nat) : readySet s n mqes mpsmin =
    if mqes < 31 ∨ mpsmin ≠ 0 then opFail s n o
    else modMop (modMag s n fun m => { m with mqes := mqes }) n o.id fun o => { o with steps := o.steps.drop 1 } := by
  rw [readySet_eq, h]

theorem readyTimeout_some : readyTimeout s n = opFail s n o := by rw [readyTimeout_eq, h]

end

end

/-! ## The shaper's registers (R458) -/

/-- Queue q of port n has c credit. -/
def setCredit (s : State) (n : Nat) (q : Fin 8) (c : Int) : State := modMag s n fun m => { m with credit := setAt m.credit q c }

section
variable {s : State} {n : MagPort} {q : Fin 8} {v : Word32} {t : Nat} (hrun : unitsRun s = true)
include hrun

theorem exec_magQShapeWrite : exec (.magQShapeWrite n q v t) s =
    .next (if q.val < 2 then magAccrue (stamp s t) n
      else if 14000 < bits v.toNat 0 16 then put (magAccrue (stamp s t) n) (R.MAG_STAT_CFGERR n) 1
      else
        let w := put (magAccrue (stamp s t) n) (R.MAG_Q_SHAPE_RATE n q) (bits v.toNat 0 16)
        setCredit w n q (if bitAt v.toNat 31 then ((creditUnit * get w (R.MAG_Q_BURST_KIB n q) : Nat) : Int) else 0)) :=
  answered_run _ hrun

theorem exec_magQBurstWrite : exec (.magQBurstWrite n q v t) s =
    .next (if q.val < 2 then magAccrue (stamp s t) n
      else setCredit (put (magAccrue (stamp s t) n) (R.MAG_Q_BURST_KIB n q) (bits v.toNat 0 24)) n q 0) :=
  answered_run _ hrun

end

end Sys2Proof.Machine

open Sys2Proof Sys2Proof.Machine

/-- Settles O53: the readiness of the queues, the command that an event names and what it reports decide what follows. That a failed cached
write leaves MAG_CACHED, that one without room for caching goes through the strict queue with FUA, that a command turned away enters
LATHWM, and that queues 0 and 1 have no shaper (log entry 45), are the model's choices. -/
theorem nvmeCommandsAreScheduledCompletedAndTimedOut : Obligations.NvmeCommandsAreScheduledCompletedAndTimedOut := by
  unfold Obligations.NvmeCommandsAreScheduledCompletedAndTimedOut
  refine ⟨fun s n t => ?slot, fun s n cid sc sct dw0 data t => ?completion, fun s n cid t => ?commandTimeout,
    fun s n cid t => ?abortTimeout,
    fun s n t => .of_finSettle rfl, fun s n mqes mpsmin t => ?ready, fun s n t => ?smart, fun s n q v t hrun => ?shaper⟩
  case slot =>
    exact ⟨fun hno => .of_finSettle (congrArg finSettle (schedulerSlot_closed hno)),
      fun hyes hzero => .of_finSettle (congrArg finSettle (schedulerSlot_urgent hyes hzero)),
      fun hyes hzero hone => .of_finSettle (congrArg finSettle (schedulerSlot_strict hyes hzero hone)),
      fun q left hyes hzero hone hnext => .of_finSettle (congrArg finSettle (schedulerSlot_turn hyes hzero hone hnext)),
      fun hyes hzero hone hnext => .of_finSettle (congrArg finSettle (schedulerSlot_idle hyes hzero hone hnext))⟩
  case completion =>
    refine ⟨fun hnone => .of_finSettle (congrArg finSettle (nvComplete_unknown hnone)),
      fun c hc hkind => .of_finSettle (congrArg finSettle (nvComplete_abort hc hkind)),
      fun c hc hkind hsc hsct => .of_finSettle (congrArg finSettle (nvComplete_ok hc hkind hsc hsct)), fun c hc hkind herr => ?_⟩
    have hnv := nvComplete_error (s := stamp s t) (dw0 := dw0.toNat) (data := data) hc hkind herr
    exact ⟨fun hmore => .of_finSettle (congrArg finSettle (hnv.trans (nvError_again hkind hmore))), fun hend =>
      ⟨fun hnone => .of_finSettle (congrArg finSettle (hnv.trans (nvError_lost hkind hend hnone))),
        fun o ho => .of_finSettle (congrArg finSettle (hnv.trans (nvError_fails hkind hend ho)))⟩⟩
  case commandTimeout =>
    exact ⟨fun hnone => .of_finSettle (congrArg finSettle (cmdTimeout_none hnone)),
      fun c hc hearly => .of_finSettle (congrArg finSettle ((cmdTimeout_some (s := stamp s t) hc).trans (if_neg (Nat.not_le.2 hearly)))),
      fun c hc hlate => .of_finSettle (congrArg finSettle ((cmdTimeout_some (s := stamp s t) hc).trans (if_pos hlate)))⟩
  case abortTimeout =>
    exact ⟨fun hlapsed => .of_finSettle (congrArg finSettle (if_pos (abortLapsed_iff.2 hlapsed))),
      fun hwaits => .of_finSettle (congrArg finSettle (if_neg (mt abortLapsed_iff.1 hwaits)))⟩
  case ready =>
    refine ⟨fun hnone => ⟨.of_finSettle (congrArg finSettle (readySet_none (s := stamp s t) hnone mqes mpsmin)),
      .of_finSettle (congrArg finSettle (readyTimeout_none (s := stamp s t) hnone))⟩,
      fun o ho => ⟨fun hbad => ?_, fun hqueues hpages => ?_, ?_⟩⟩
    · exact .of_finSettle (congrArg finSettle ((readySet_some (s := stamp s t) ho mqes mpsmin).trans (if_pos hbad)))
    · exact .of_finSettle (congrArg finSettle ((readySet_some (s := stamp s t) ho mqes mpsmin).trans (if_neg (by omega))))
    · exact .of_finSettle (congrArg finSettle (readyTimeout_some (s := stamp s t) ho))
  case smart =>
    exact ⟨fun hdue => .of_finSettle (congrArg finSettle (if_pos hdue)), fun hearly => .of_finSettle (congrArg finSettle (if_neg hearly))⟩
  case shaper =>
    have hshape := exec_magQShapeWrite (n := n) (q := q) (v := v) (t := t) hrun
    have hburst := exec_magQBurstWrite (n := n) (q := q) (v := v) (t := t) hrun
    refine ⟨fun hlow => ⟨hshape.trans (congrArg Host.Outcome.next (if_pos hlow)), hburst.trans (congrArg Host.Outcome.next (if_pos hlow))⟩,
      fun hq hfast => hshape.trans (congrArg Host.Outcome.next ((if_neg (Nat.not_lt.2 hq)).trans (if_pos hfast))),
      fun hq hrate hempty => ?_, fun hq hrate hfull => ?_, fun hq => hburst.trans (congrArg Host.Outcome.next (if_neg (Nat.not_lt.2 hq)))⟩
    · refine hshape.trans (congrArg Host.Outcome.next ((if_neg (Nat.not_lt.2 hq)).trans ((if_neg (Nat.not_lt.2 hrate)).trans ?_)))
      exact congrArg (setCredit _ n q) (if_neg (Bool.eq_false_iff.1 hempty))
    · refine hshape.trans (congrArg Host.Outcome.next ((if_neg (Nat.not_lt.2 hq)).trans ((if_neg (Nat.not_lt.2 hrate)).trans ?_)))
      exact congrArg (setCredit _ n q) (if_pos hfull)

end

section
/-! The magazine links and the sideband: presence, power, transfers, the hold-up gauge and the label (R461 to R464, R469 to R483). Settles
O54. -/

namespace Sys2Proof.Machine

/-! ## Links (R461 to R463) -/

/-- A change of port n that keeps what g shows of it. -/
theorem magOf_modMag_keeps {α : Type} (g : MagSt → α) {f : MagSt → MagSt} (hf : ∀ m, g (f m) = g m) (s : State) (n : Nat) :
    g (magOf (modMag s n f) n) = g (magOf s n) := by
  unfold magOf modMag
  rw [nth_modAt]
  split
  next => exact hf _
  next hout => rw [nth_ge _ _ _ (Nat.not_lt.1 hout)]

/-- The link of port n is up. -/
def linkUp (s : State) (n : Nat) : State := modMag s n fun m => { m with link := true }

/-- Port n is no longer lost. -/
def holdEnded (s : State) (n : Nat) : State := modMag s n fun m => { m with lostAt := none }

section
variable (s : State) (n : Nat)

theorem hasSession_linkUp : hasSession (linkUp s n) n = hasSession s n :=
  congrArg Option.isSome (magOf_modMag_keeps (·.sess) (f := fun m => { m with link := true }) (fun _ => rfl) s n)

theorem lostAt_linkUp : (magOf (linkUp s n) n).lostAt = (magOf s n).lostAt :=
  magOf_modMag_keeps (·.lostAt) (f := fun m => { m with link := true }) (fun _ => rfl) s n

end

section
variable {s : State} {n : Nat}

theorem windowOver_none (h : (magOf s n).lostAt = none) : windowOver s n = false := by rw [windowOver, h]

theorem windowOver_some {a : Nat} (h : (magOf s n).lostAt = some a) :
    windowOver s n = decide (a + 1200000 * get s (R.MAG_CFG_HOLD n) ≤ s.clk) := by
  rw [windowOver, h]
  rfl

theorem linkTrained_ignored (h : ¬ (isSet s (R.MAG_CTL_EN n) = true ∧ (magOf s n).link = false)) : linkTrained s n = s :=
  if_pos ((not_and_or.1 h).imp_right Bool.eq_true_of_not_eq_false)

section
variable (h : isSet s (R.MAG_CTL_EN n) = true ∧ (magOf s n).link = false)
include h

theorem linkTrained_trains : linkTrained s n =
    if magState s n = mgTraining then put (linkUp s n) (R.MAG_STAT_STATE n) mgReady
    else if magState s n = mgLost then
      if ¬ hasSession s n then put (holdEnded (linkUp s n) n) (R.MAG_STAT_STATE n) mgReady
      else if (magOf s n).lostAt.isNone then linkUp s n
      else if windowOver (linkUp s n) n then dropDue (holdEnded (linkUp s n) n) n 1
      else addOp (holdEnded (linkUp s n) n) n .comeBack (bringUp ++ [.act .returned]) 0
    else linkUp s n := by
  obtain ⟨hon, hdown⟩ := h
  rw [← hasSession_linkUp, ← lostAt_linkUp]
  exact if_neg fun hno => hno.elim (fun hoff => hoff hon) (Bool.eq_false_iff.1 hdown)

theorem linkTrained_ready (hstate : magState s n = mgTraining) : linkTrained s n = put (linkUp s n) (R.MAG_STAT_STATE n) mgReady :=
  (linkTrained_trains h).trans (if_pos hstate)

theorem linkTrained_other (htrain : magState s n ≠ mgTraining) (hlost : magState s n ≠ mgLost) : linkTrained s n = linkUp s n :=
  (linkTrained_trains h).trans ((if_neg htrain).trans (if_neg hlost))

section
variable (hlost : magState s n = mgLost)
include hlost

theorem linkTrained_lost : linkTrained s n =
    if ¬ hasSession s n then put (holdEnded (linkUp s n) n) (R.MAG_STAT_STATE n) mgReady
    else if (magOf s n).lostAt.isNone then linkUp s n
    else if windowOver (linkUp s n) n then dropDue (holdEnded (linkUp s n) n) n 1
    else addOp (holdEnded (linkUp s n) n) n .comeBack (bringUp ++ [.act .returned]) 0 :=
  (linkTrained_trains h).trans ((if_neg fun htrain => absurd (hlost.symm.trans htrain) (by decide)).trans (if_pos hlost))

theorem linkTrained_noSession (hsess : hasSession s n = false) :
    linkTrained s n = put (holdEnded (linkUp s n) n) (R.MAG_STAT_STATE n) mgReady :=
  (linkTrained_lost h hlost).trans (if_pos (Bool.eq_false_iff.1 hsess))

section
variable (hsess : hasSession s n = true)
include hsess

theorem linkTrained_returning (hat : (magOf s n).lostAt = none) : linkTrained s n = linkUp s n :=
  (linkTrained_lost h hlost).trans ((if_neg (not_not_intro hsess)).trans (if_pos (Option.isNone_iff_eq_none.2 hat)))

theorem linkTrained_returns {a : Nat} (hat : (magOf s n).lostAt = some a) : linkTrained s n =
    if a + 1200000 * get s (R.MAG_CFG_HOLD n) ≤ s.clk then dropDue (holdEnded (linkUp s n) n) n 1
    else addOp (holdEnded (linkUp s n) n) n .comeBack (bringUp ++ [.act .returned]) 0 := by
  have hover := windowOver_some ((lostAt_linkUp s n).trans hat)
  refine (linkTrained_lost h hlost).trans ((if_neg (not_not_intro hsess)).trans ((if_neg ?_).trans ?_))
  · rw [hat]
    exact Bool.false_ne_true
  · exact ite_congr (propext (by rw [hover, decide_eq_true_eq]; rfl)) (fun _ => rfl) fun _ => rfl

end

end

end

theorem holdExpire_none (h : (magOf s n).lostAt = none) : holdExpire s n = s :=
  if_neg (by rw [windowOver_none h]; exact Bool.false_ne_true)

theorem holdExpire_some {a : Nat} (h : (magOf s n).lostAt = some a) : holdExpire s n =
    if a + 1200000 * get s (R.MAG_CFG_HOLD n) ≤ s.clk then
      (if hasSession (holdEnded s n) n then dropDue (holdEnded s n) n 1 else put (holdEnded s n) (R.MAG_STAT_STATE n) mgTraining)
    else s :=
  ite_congr (propext (by rw [windowOver_some h, decide_eq_true_eq])) (fun _ => rfl) fun _ => rfl

end

/-! ## MAG_CTL (R464, R467) -/

section
variable {s : State} {n : Nat}

theorem magCtlWrite_kept {v : Nat} (h : bitAt v 1 = false ∨ magState (magEnable s n (bitAt v 0)) n = mgOff ∨
    magState (magEnable s n (bitAt v 0)) n = mgDropped ∨ magState (magEnable s n (bitAt v 0)) n = mgFailed) :
    magCtlWrite s n v = magEnable s n (bitAt v 0) := by
  cases hdrop : bitAt v 1 with
  | false => exact if_neg (Bool.eq_false_iff.1 hdrop)
  | true => exact (if_pos hdrop).trans (if_pos (h.resolve_left (by rw [hdrop]; decide)))

theorem magCtlWrite_drops {v : Nat} (hdrop : bitAt v 1 = true) (h : ¬ (magState (magEnable s n (bitAt v 0)) n = mgOff ∨
    magState (magEnable s n (bitAt v 0)) n = mgDropped ∨ magState (magEnable s n (bitAt v 0)) n = mgFailed)) :
    magCtlWrite s n v =
      let u := magEnable s n (bitAt v 0)
      dropDue u n (if hasSession u n && magState u n == mgSession then 2 else 1) :=
  (if_pos hdrop).trans (if_neg h)

end

/-! ## Presence and power (R469, R470) -/

section
variable {s : State} {n : Nat}

theorem presenceAssert_known (h : magPresent s n = true) : presenceAssert s n = s := if_pos h

theorem presenceAssert_new (h : magPresent s n = false) : presenceAssert s n =
    let p := put (bump (put s (R.SBD_STAT_PRSNT n) 1) (R.SBD_PRSNT_CNT_COUNT n)) (R.SBD_STAT_IDVALID n) 0
    let c := modSbd p n fun x =>
      { x with xfers := [], nakAt := none, slots := [[], []], known := false, cal := false, charge := 0, rest := 0, volts := [] }
    addXfer (addXfer (addXfer (powerFollow c n) n .ident 0x50 0 [] 128) n (.slot 0) 0x50 0x80 [] 32) n (.slot 1) 0x50 0xC0 [] 32 :=
  if_neg (Bool.eq_false_iff.1 h)

theorem presenceRemove_absent (t : Nat) (h : magPresent s n = false) : presenceRemove s n t = s := if_neg (Bool.eq_false_iff.1 h)

theorem presenceRemove_present (t : Nat) (h : magPresent s n = true) : presenceRemove s n t =
    let p := put (put (put s (R.SBD_STAT_PRSNT n) 0) (R.SBD_STAT_PWREN n) 0) (R.SBD_CTL_LIFEOVR n) 0
    let j := if (sbdOf s n).xfers.any fun q => decide (q.use = .wearWrite) then put p (R.SBD_STAT_JRNERR n) 1 else p
    let c := modSbd j n fun x => { x with xfers := [], nakAt := none, sentAt := none, image := [], known := false, cal := false, jrn := 0 }
    let l := if get c (R.SBD_LBL_STAT_STATE n) = 1 then put c (R.SBD_LBL_STAT_LAST n) 4 else c
    raise (portLose (gaugeDoubtCheck (put l (R.SBD_LBL_STAT_STATE n) 0) n) n t) (sbdSrc n 1) := by
  unfold presenceRemove setF clrF
  exact if_pos h

theorem powerCut_iff {w : Nat} : (isSet s (R.SBD_CTL_PWR n) && !bitAt w 0 && hasSession s n) = true ↔
    isSet s (R.SBD_CTL_PWR n) = true ∧ bitAt w 0 = false ∧ hasSession s n = true := by
  rw [Bool.and_eq_true, Bool.and_eq_true, Bool.not_eq_true', and_assoc]

end

/-! ## Transfers (R471) -/

section
variable {s : State} {n : Nat}

theorem i2cDone_none (nak : Bool) (data : List Byte) (t : Nat) (h : (sbdOf s n).xfers = [] ∨ (sbdOf s n).nakAt ≠ none) :
    i2cDone s n nak data t = s := by
  unfold i2cDone
  dsimp only
  split
  next x xs hxfers hnak => exact absurd hnak (h.resolve_left (by rw [hxfers]; exact List.cons_ne_nil x xs))
  next => rfl

theorem i2cDone_some (nak : Bool) (data : List Byte) (t : Nat) {x : SbdXfer} {xs : List SbdXfer} (hxfers : (sbdOf s n).xfers = x :: xs)
    (hnak : (sbdOf s n).nakAt = none) : i2cDone s n nak data t =
      if nak = true ∧ x.tries < 3 then
        modSbd (stamp s t) n fun y => { y with xfers := { x with tries := x.tries + 1 } :: xs, nakAt := some t }
      else xferDone (modSbd (stamp s t) n fun y => { y with xfers := xs }) n x (!nak) (sliceBytes data 0 x.read) t := by
  unfold i2cDone
  dsimp only
  rw [hxfers, hnak]

theorem i2cRetry_none (t : Nat) (h : (sbdOf s n).nakAt = none) : i2cRetry s n t = s := by rw [i2cRetry, h]

theorem i2cRetry_some (t : Nat) {a : Nat} (h : (sbdOf s n).nakAt = some a) : i2cRetry s n t =
    if 1200000 + a ≤ t then modSbd (stamp s t) n fun y => { y with nakAt := none } else s := by
  rw [i2cRetry, h]
  rfl

end

/-! ## The hold-up gauge (R477 to R479) -/

theorem codeStuck_iff (c : Nat) : codeStuck c = true ↔ c = 0 ∨ c = 4095 := by
  rw [codeStuck, Bool.or_eq_true, beq_iff_eq, beq_iff_eq]

/-- The port as an evaluation finds it, with the estimates shown that its identity allows. -/
def estimated (s : State) (n : Nat) : State :=
  let d := gaugeDoubtCheck s n
  let b := idBlock d n
  let x := sbdOf d n
  if idValid d n then
    putGauge (putGauge d (R.SBD_GAUGE_EQ_UJ n) (energyQ (idHoldup b) (idVcut b) x.charge) (energyDen (idHoldup b))) (R.SBD_GAUGE_EV_UJ n)
      (energyV (idHoldup b) (idVcut b) (gaugeSum x)) (energyDen (idHoldup b))
  else d

/-- What an evaluation out of doubt makes of the energy it chose: the energy over 4 × energyDen, the state, and whether Q is set to 0. -/
def gaugeShown (s : State) (n : Nat) (choice : Nat × Nat × Bool) : State :=
  let d := gaugeDoubtCheck s n
  let b := idBlock d n
  let uf := idHoldup b
  let c := modSbd (estimated s n) n fun x => { x with inDoubt := false, charge := if choice.2.2 then 0 else x.charge }
  let q := if choice.2.2 then put c (R.SBD_GAUGE_Q_UC n) 0 else c
  let e := putGauge q (R.SBD_GAUGE_E_UJ n) choice.1 (4 * energyDen uf)
  let f := if choice.2.1 = 2 ∧ get e (R.SBD_GAUGE_STAT_STATE n) ≠ 2 then
      fault (raise (put e (R.SBD_GAUGE_STAT_DISAGREE n) 1) (sbdSrc n 2)) (fltGaugeDisagree n)
    else e
  gaugeLimit (put f (R.SBD_GAUGE_STAT_STATE n) choice.2.1) n (limitOf uf (idFixed b) (idBlk b) choice.1)

/-- The choice of an evaluation. -/
def gaugeChoice (s : State) (n : Nat) : Nat × Nat × Bool :=
  let d := gaugeDoubtCheck s n
  gaugeChoose (idHoldup (idBlock d n)) (idVcut (idBlock d n)) (sbdOf d n).charge (gaugeSum (sbdOf d n))

section
variable {s : State} {n : Nat}

theorem gaugeEvaluate_doubt (h : gaugeDoubtful (estimated s n) n = true) :
    gaugeEvaluate s n = gaugeLimit (put (estimated s n) (R.SBD_GAUGE_STAT_STATE n) 0) n 0 := if_pos h

section
variable (h : gaugeDoubtful (estimated s n) n = false)
include h

theorem gaugeEvaluate_shown : gaugeEvaluate s n = gaugeShown s n (gaugeChoice s n) := if_neg (Bool.eq_false_iff.1 h)

theorem gaugeEvaluate_chosen {choice : Nat × Nat × Bool} (hchoice : gaugeChoice s n = choice) :
    gaugeEvaluate s n = gaugeShown s n choice :=
  (gaugeEvaluate_shown h).trans (congrArg (gaugeShown s n) hchoice)

end

theorem gaugeShown_low : gaugeShown s n (0, 3, true) =
    let uf := idHoldup (idBlock (gaugeDoubtCheck s n) n)
    let z := put (modSbd (estimated s n) n fun x => { x with inDoubt := false, charge := 0 }) (R.SBD_GAUGE_Q_UC n) 0
    gaugeLimit (put (putGauge z (R.SBD_GAUGE_E_UJ n) 0 (4 * energyDen uf)) (R.SBD_GAUGE_STAT_STATE n) 3) n
      (limitOf uf (idFixed (idBlock (gaugeDoubtCheck s n) n)) (idBlk (idBlock (gaugeDoubtCheck s n) n)) 0) := by
  unfold gaugeShown
  dsimp only
  rw [if_neg (fun h => absurd h.1 (by decide))]
  rfl

theorem gaugeShown_agrees (e : Nat) : gaugeShown s n (e, 1, false) =
    let uf := idHoldup (idBlock (gaugeDoubtCheck s n) n)
    let c := modSbd (estimated s n) n fun x => { x with inDoubt := false }
    gaugeLimit (put (putGauge c (R.SBD_GAUGE_E_UJ n) e (4 * energyDen uf)) (R.SBD_GAUGE_STAT_STATE n) 1) n
      (limitOf uf (idFixed (idBlock (gaugeDoubtCheck s n) n)) (idBlk (idBlock (gaugeDoubtCheck s n) n)) e) := by
  unfold gaugeShown
  dsimp only
  rw [if_neg (fun h => absurd h.1 (by decide))]
  rfl

theorem gaugeShown_disagrees (e : Nat) : gaugeShown s n (e, 2, false) =
    let uf := idHoldup (idBlock (gaugeDoubtCheck s n) n)
    let c := modSbd (estimated s n) n fun x => { x with inDoubt := false }
    let h := putGauge c (R.SBD_GAUGE_E_UJ n) e (4 * energyDen uf)
    gaugeLimit (put (if get h (R.SBD_GAUGE_STAT_STATE n) ≠ 2 then
        fault (raise (put h (R.SBD_GAUGE_STAT_DISAGREE n) 1) (sbdSrc n 2)) (fltGaugeDisagree n) else h) (R.SBD_GAUGE_STAT_STATE n) 2) n
      (limitOf uf (idFixed (idBlock (gaugeDoubtCheck s n) n)) (idBlk (idBlock (gaugeDoubtCheck s n) n)) e) := by
  unfold gaugeShown
  simp only [true_and]
  rfl

end

section
variable {uf vc q sum : Nat}

theorem gaugeChoose_low (h : 75 * sum ≤ 160 * vc) : gaugeChoose uf vc q sum = (0, 3, true) := if_pos h

section
variable (h : 160 * vc < 75 * sum)
include h

theorem gaugeChoose_disagrees (hq : q = 0) (hv : 0 < energyV uf vc sum) :
    gaugeChoose uf vc q sum = (3 * energyV uf vc sum, 2, false) :=
  (if_neg (Nat.not_le.2 h)).trans (if_pos ⟨hq, hv⟩)

theorem gaugeChoose_agrees (hagree : q ≠ 0 ∨ energyV uf vc sum = 0) :
    gaugeChoose uf vc q sum = (4 * min (energyQ uf vc q) (energyV uf vc sum), 1, false) :=
  (if_neg (Nat.not_le.2 h)).trans (if_neg (by omega))

end

end

theorem restComplete_iff (s : State) (n : Nat) :
    (decide ((sbdOf s n).rest = 20000) && magPresent s n && idValid s n) = true ↔
      (sbdOf s n).rest = 20000 ∧ magPresent s n = true ∧ idValid s n = true := by
  rw [Bool.and_eq_true, Bool.and_eq_true, decide_eq_true_eq, and_assoc]

/-! ## The label (R481 to R483) -/

/-- Where the image of a label update is to be found. -/
def labelSrc (s : State) (n : Nat) : Nat := get s (R.SBD_LBL_SRC_LO_ADDR n) + 2 ^ 32 * get s (R.SBD_LBL_SRC_HI_ADDR n)

/-- The panel is busy, or the magazine has not been read yet. -/
def labelBusy (s : State) (n : Nat) : Prop :=
  get s (R.SBD_LBL_STAT_STATE n) ≠ 0 ∨ (magPresent s n = true ∧ (sbdOf s n).known = false)

section
variable {s : State} {n : Nat}

theorem labelGo_waits (h : labelBusy s n) :
    labelGo s n = put (modSbd s n fun x => { x with pend := labelSrc s n }) (R.SBD_LBL_STAT_PEND n) 1 :=
  if_pos (h.imp_right fun hunread => ⟨hunread.1, Bool.eq_false_iff.1 hunread.2⟩)

theorem labelGo_starts (h : ¬ labelBusy s n) : labelGo s n = labelStart s n (labelSrc s n) :=
  if_neg fun hbusy => h (hbusy.imp_right fun hunread => ⟨hunread.1, Bool.eq_false_iff.2 hunread.2⟩)

theorem labelStart_refused (a : Nat) (h : labelAllowed s n = false) : labelStart s n a = put s (R.SBD_LBL_STAT_LAST n) 3 :=
  if_pos (Bool.eq_false_iff.1 h)

theorem labelStart_begins (a : Nat) (h : labelAllowed s n = true) : labelStart s n a =
    let k := (nextSlot (sbdOf s n)).1
    addXfer (put (modSbd s n fun x => { x with image := fsRead s a 4736, slot := k }) (R.SBD_LBL_STAT_STATE n) 1) n .updOpen 0x50
      (0x80 + 0x40 * k) (slotBytes (nextSlot (sbdOf s n)).2 1 0 (crc32c (fsRead s a 4736)) s.tick.no) 0 :=
  if_neg (not_not_intro h)

theorem labelPoll_none (busy : Bool) (t : Nat) (h : (sbdOf s n).sentAt = none) : labelPoll s n busy t = s := by rw [labelPoll, h]

section
variable (t : Nat) {a : Nat} (h : (sbdOf s n).sentAt = some a)
include h

theorem labelPoll_busy : labelPoll s n true t = if 6000000000 + a ≤ t then labelEnd (stamp s t) n (some 1) else stamp s t := by
  rw [labelPoll, h]
  rfl

theorem labelPoll_free : labelPoll s n false t =
    let x := sbdOf s n
    let c := modSbd (stamp s t) n fun x => { x with sentAt := none }
    let b := nth x.slots x.slot []
    if get s (R.SBD_LBL_STAT_STATE n) == 2 then
      addXfer c n .recSlot 0x50 (0x80 + 0x40 * (nextSlot x).1) (slotBytes (nextSlot x).2 2 1 0 s.tick.no) 0
    else addXfer c n .updClose 0x50 (0x80 + 0x40 * x.slot) (slotBytes (beAt b 0 4) 2 (beAt b 5 1) (beAt b 8 4) (beAt b 12 8)) 0 := by
  rw [labelPoll, h]
  rfl

end

end

section
variable {s : State} {n : MagPort} {v : Word32} (hrun : unitsRun s = true)
include hrun

theorem exec_labelGo_off (h : bitAt v.toNat 0 = false) : exec (.labelGo n v) s = .next s :=
  answered_next hrun (if_neg (Bool.eq_false_iff.1 h))

theorem exec_labelGo_on (h : bitAt v.toNat 0 = true) : exec (.labelGo n v) s = .next (labelGo s n) := answered_next hrun (if_pos h)

end

end Sys2Proof.Machine

open Sys2Proof Sys2Proof.Machine

/-- Settles O54: the state of a port, its magazine and its label decide what each event does. When a lost port without a session is READY
and how its window ends (log entry 85), what clearing MAG_CTL.EN ends (log entry 67), IDVALID at presence (log entry 76) and what follows a
panel's NAK (log entry 69) are the model's choices. -/
theorem linksPresenceTransfersGaugeAndLabelFollow : Obligations.LinksPresenceTransfersGaugeAndLabelFollow := by
  unfold Obligations.LinksPresenceTransfersGaugeAndLabelFollow
  refine ⟨fun s n t => ?links, fun s n t => ?window, fun s n v hrun => ?control, fun s n t => ?arrives, fun s n t => ?leaves,
    fun s n v hrun => ?power,
    fun s n nak data t => ⟨fun hidle => .of_finSettle (congrArg finSettle (i2cDone_none nak data t hidle)), ?transfer⟩,
    fun s n t => ⟨fun hnone => congrArg Host.Outcome.next (i2cRetry_none t hnone), fun a ha => ?retry⟩, fun s n v i => ?sample,
    fun s n => ?evaluate, fun s n => ?rested, fun s n v hrun => ?label,
    fun s n busy t => ⟨fun hnone => congrArg Host.Outcome.next (labelPoll_none busy t hnone), fun a ha => ?poll⟩⟩
  case links =>
    intro z up l r trains lost
    have hup : ∀ {u : State}, linkTrained z n = u → up u :=
      fun h => ⟨.of_finSettle (congrArg finSettle h), .of_finSettle (congrArg finSettle h)⟩
    exact ⟨.of_finSettle rfl, .of_finSettle rfl, fun hno => hup (linkTrained_ignored hno), fun h hstate => hup (linkTrained_ready h hstate),
      fun h hlost hsess => hup (linkTrained_noSession h hlost hsess),
      fun h hlost hsess hat => hup (linkTrained_returning h hlost hsess hat),
      fun a h hlost hsess hat => ⟨fun hover => hup ((linkTrained_returns (s := z) h hlost hsess hat).trans (if_pos hover)),
        fun hwithin => hup ((linkTrained_returns (s := z) h hlost hsess hat).trans (if_neg (Nat.not_le.2 hwithin)))⟩,
      fun h htrain hlost => hup (linkTrained_other h htrain hlost)⟩
  case window =>
    refine ⟨fun hnone => .of_finSettle (congrArg finSettle (holdExpire_none (s := stamp s t) hnone)), fun a ha => ?_⟩
    have hexpire := holdExpire_some (s := stamp s t) ha
    exact ⟨fun hwithin => .of_finSettle (congrArg finSettle (hexpire.trans (if_neg (Nat.not_le.2 hwithin)))),
      fun hover => .of_finSettle (congrArg finSettle (hexpire.trans (if_pos hover)))⟩
  case control =>
    exact ⟨fun hkept => .of_answered hrun (congrArg (fun x => answered s (finSettle x)) (magCtlWrite_kept hkept)),
      fun hdrop hin => .of_answered hrun (congrArg (fun x => answered s (finSettle x)) (magCtlWrite_drops hdrop hin))⟩
  case arrives =>
    exact ⟨fun hthere => .of_finSettle (congrArg finSettle (presenceAssert_known (s := stamp s t) hthere)),
      fun hnew => .of_finSettle (congrArg finSettle (presenceAssert_new (s := stamp s t) hnew))⟩
  case leaves =>
    exact ⟨fun hgone => .of_finSettle (congrArg finSettle (presenceRemove_absent (s := stamp s t) t hgone)),
      fun hthere => .of_finSettle (congrArg finSettle (presenceRemove_present (s := stamp s t) t hthere))⟩
  case power =>
    exact ⟨fun hcuts => answered_next hrun (if_pos (powerCut_iff.2 hcuts)),
      fun hmay => answered_next hrun (if_neg (mt powerCut_iff.1 hmay))⟩
  case transfer =>
    intro x xs hxfers hnak
    have hdone := i2cDone_some nak data t hxfers hnak
    refine ⟨fun hnaked hagain => .of_finSettle (congrArg finSettle (hdone.trans (if_pos ⟨hnaked, hagain⟩))),
      fun hends => .of_finSettle (congrArg finSettle (hdone.trans (if_neg ?_)))⟩
    exact fun h => hends.elim (fun hack => Bool.eq_false_iff.1 hack h.1) (Nat.not_le.2 h.2)
  case retry =>
    exact ⟨fun hlate => congrArg Host.Outcome.next ((i2cRetry_some t ha).trans (if_pos hlate)),
      fun hearly => congrArg Host.Outcome.next ((i2cRetry_some t ha).trans (if_neg (Nat.not_le.2 hearly)))⟩
  case sample =>
    refine .of_finSettle (congrArg finSettle ?_)
    unfold gaugeSample
    simp only [codeStuck_iff]
    rfl
  case evaluate =>
    refine ⟨fun hdoubt => ?_, fun hsure hlow => ?_, fun hsure hhigh hq hv => ?_, fun hsure hhigh hagree => ?_⟩
    · exact .of_finSettle (congrArg finSettle (gaugeEvaluate_doubt hdoubt))
    · exact .of_finSettle (congrArg finSettle ((gaugeEvaluate_chosen hsure (gaugeChoose_low hlow)).trans gaugeShown_low))
    · exact .of_finSettle (congrArg finSettle ((gaugeEvaluate_chosen hsure (gaugeChoose_disagrees hhigh hq hv)).trans
        (gaugeShown_disagrees _)))
    · exact .of_finSettle (congrArg finSettle ((gaugeEvaluate_chosen hsure (gaugeChoose_agrees hhigh hagree)).trans (gaugeShown_agrees _)))
  case rested =>
    exact ⟨fun hfull => congrArg Host.Outcome.next (if_pos ((restComplete_iff s n).2 hfull)),
      fun hnot => congrArg Host.Outcome.next (if_neg (mt (restComplete_iff s n).1 hnot))⟩
  case label =>
    refine ⟨exec_labelGo_off hrun, fun hgo hbusy => (exec_labelGo_on hrun hgo).trans (congrArg Host.Outcome.next (labelGo_waits hbusy)),
      fun hgo hfree hno => ?_, fun hgo hfree hmay => ?_⟩
    · exact (exec_labelGo_on hrun hgo).trans (congrArg Host.Outcome.next ((labelGo_starts hfree).trans (labelStart_refused _ hno)))
    · exact (exec_labelGo_on hrun hgo).trans (congrArg Host.Outcome.next ((labelGo_starts hfree).trans (labelStart_begins _ hmay)))
  case poll =>
    refine ⟨?waits, ?late, ?recovery, ?update⟩
    case waits => rintro rfl hearly; exact congrArg Host.Outcome.next ((labelPoll_busy t ha).trans (if_neg (Nat.not_le.2 hearly)))
    case late => rintro rfl hlate; exact congrArg Host.Outcome.next ((labelPoll_busy t ha).trans (if_pos hlate))
    case recovery => rintro rfl hrec; exact congrArg Host.Outcome.next ((labelPoll_free t ha).trans (if_pos (beq_iff_eq.2 hrec)))
    case update => rintro rfl hupd; exact congrArg Host.Outcome.next ((labelPoll_free t ha).trans (if_neg (mt beq_iff_eq.1 hupd)))

end
